-- ==== Sys2Proof/Word.lean ====
section
/-! DEFINITION. The plain words of the QP12 panel: bytes, register words, the object indices of R7
and the sparse table type in which the state keeps everything that exists many times. -/

namespace Sys2Proof

/-- One byte. -/
abbrev Byte := BitVec 8
/-- A 16-bit word. -/
abbrev W16 := BitVec 16
/-- A 32-bit word. -/
abbrev W32 := BitVec 32
/-- A 64-bit word. -/
abbrev W64 := BitVec 64
/-- A byte string, the byte at the lowest address first (R19). -/
abbrev Bytes := List Byte

/-- Physical die index r×13+c (R7). -/
abbrev Die := Fin 156
/-- Logical die index r×12+c (R7). -/
abbrev LDie := Fin 144
/-- Physical tile index in a die, v×5+u (R7). -/
abbrev PTile := Fin 20
/-- Logical tile index in a die, v×4+u (R7). -/
abbrev LTile := Fin 16
/-- Stack index (r×13+c)×2+n (R7). -/
abbrev Stk := Fin 312
/-- Vent die index d×8+k (R32). -/
abbrev Vent := Fin 48
/-- HUB0 or HUB1; also the host site H0 or H1. -/
abbrev Hub := Fin 2
/-- A context number (R6). -/
abbrev CtxId := Fin 32
/-- An engine number in a die (R118). -/
abbrev EngId := Fin 8
/-- A descriptor ring of an engine (R121). -/
abbrev RingId := Fin 8

/-- A sparse table: strictly rising keys, and no entry that equals the table's default. -/
abbrev Tbl (V : Type) := List (Nat × V)

end Sys2Proof
end

