-- ==== Sys2Proof/Syntax.lean ====
section
/-! DEFINITION. The commands of the panel: one constructor of Instr for each row of the table of
operations and events, and the records its operands are made of. A fact that the environment decides
(a sensor reading, what a self-test finds, whether a signature verifies) is an operand. -/

namespace Sys2Proof

/-! ### Small vocabularies -/

/-- Completion status codes 0x0–0xA (R282). -/
inductive Status where
  | ok | denied | addrError | poisoned | tagFail | bankClosed | nocredit | notOwned | syncFull
  | unreachable | pathFault
  deriving DecidableEq, Repr

/-- Fjoco status codes (R474). -/
inductive FStatus where
  | ok | noobj | nosub | auth | readonly | writeonly | locked | state | busy | type | range | timeout
  deriving DecidableEq, Repr

/-- Authentication levels (R419, R483). -/
inductive Level where
  | pub | operator | owner | factory
  deriving DecidableEq, Repr

/-- Modes of closing a bank (R105). -/
inductive CloseMode where
  | retain | off
  deriving DecidableEq, Repr

/-- A bank that firmware closes and reopens (R105, R117, R266). -/
inductive BankRef where
  | spad (d : Die) (t : PTile) (b : Fin 32)
  | commons (d : Die) (b : Fin 64)
  | stack (s : Stk) (b : Fin 64)
  deriving DecidableEq, Repr

/-- The counter sets of the 0x8000 range, in index order (R491). -/
inductive CtrSet where
  | recovery | arith | tile | engine | unit | queue | spec | sparse | stack | net | fabric | ring
  | clock | power | security | host | mgmt
  deriving DecidableEq, Repr

/-- The speculation roles of R213; any other unit reads as none. -/
inductive Role where
  | none | plane | certifier | settle | geyser
  deriving DecidableEq, Repr

/-! ### Signatures and records (R408–R436) -/

/-- A signature block as the verifier sees it: the key hash of the key that made it, and whether its
two signatures verify and are canonical (R408). -/
structure SigBlock where
  keyHash : BitVec 256
  edOk : Bool
  mldsaOk : Bool
  canonical : Bool
  deriving DecidableEq, Repr

/-- Owner record kinds and payloads (R416). -/
inductive OwnerPayload where
  | release
  | keyAdd (keyHash : BitVec 256)
  | keyRemove (keyId : W64)
  | keyPrimary (keyId : W64)
  | imageKey (key : Bytes)
  | updateApprove (component : Byte) (digest : BitVec 256)
  | operatorGeneration (g : W32)
  deriving DecidableEq, Repr

/-- What every owner record carries beside its payload (R416). -/
structure OwnerHead where
  magicOk : Bool
  serial : W64
  sequence : W32
  keyId : W64
  sig : SigBlock
  deriving DecidableEq, Repr

/-- An owner claim (R417). -/
structure Claim where
  magicOk : Bool
  serial : W64
  nonce : BitVec 256
  keyHash : BitVec 256
  sig : SigBlock
  deriving DecidableEq, Repr

/-- A context accept (R424). -/
structure Accept where
  magicOk : Bool
  context : Byte
  debugOk : Bool
  serial : W64
  nonce : BitVec 256
  keyId : W64
  x25519 : Bytes
  mlkem : Bytes
  sig : SigBlock
  deriving DecidableEq, Repr

/-- A key load (R426). The two Booleans say whether the magic is right and whether the GCM tag
matches under WRAP; `key` is the key that the wrapped bytes hold. -/
structure KeyLoad where
  magicOk : Bool
  context : Byte
  slot : Byte
  sequence : W32
  tagOk : Bool
  key : BitVec 256
  deriving DecidableEq, Repr

/-- A debug token (R435). -/
structure DebugTok where
  magicOk : Bool
  scope : Byte
  serial : W64
  challenge : BitVec 256
  keyId : W64
  sig : SigBlock
  deriving DecidableEq, Repr

/-- A revocation record (R413). -/
structure Revoke where
  magicOk : Bool
  slot : Byte
  signer : Byte
  serial : W64
  keyHash : BitVec 256
  sig : SigBlock
  deriving DecidableEq, Repr

/-- A firmware image header, and whether its body hashes to the header's digest (R410, R411). -/
structure FwImage where
  component : Byte
  slot : Byte
  version : W32
  svn : W32
  bytes : Nat
  digest : BitVec 256
  bodyOk : Bool
  keyHash : BitVec 256
  sig : SigBlock
  deriving DecidableEq, Repr

/-- An operator credential (R420). -/
structure Credential where
  magicOk : Bool
  serial : W64
  generation : W32
  keyId : W64
  subject : BitVec 256
  sig : SigBlock
  deriving DecidableEq, Repr

/-- The client's proof in FINISH (R471). -/
inductive Proof where
  | pub
  | operator (cred : Credential) (sig : SigBlock)
  | owner (keyId : W64) (sig : SigBlock)
  | factory
  deriving DecidableEq, Repr

/-! ### Starts -/

/-- What a start meets in its self-test and firmware load (R502, R503). (DEDUCED, log 171) -/
structure StartIn where
  /-- records that self-test finds (R503, R504) -/
  found : List W32
  /-- phases that the phase test disables, 12–13 the always-on ones (cold starts, R375) -/
  phases : List (Die × Fin 14)
  /-- dies whose router ring fails self-test (R373) -/
  rings : List Die
  /-- dies and stacks whose firmware load fails three times (R502) -/
  fwDies : List Die
  fwStacks : List Stk
  fwVents : List Vent
  /-- a wave's switch-on that waited 10 ms (R372) -/
  abandoned : Bool
  /-- lines that the DRAM test of a cold start finds bad (R255, R503) -/
  dram : List (Stk × BitVec 29)
  /-- field records of HUB1's flash that HUB0's lacks (R501) -/
  mirror : List W32
  deriving DecidableEq, Repr, Inhabited

/-- What a SELFTEST command finds: records (R504) and the bad lines of its DRAM test (R255, R503). -/
structure TestFound where
  records : List W32
  dram : List (Stk × BitVec 29)
  deriving DecidableEq, Repr

/-! ### Tokens, packets, requests -/

/-- A queue entry: kind, sideband, payload (R150, R151), with its ECC state (R149). -/
structure Token where
  /-- EPOCH_END marker instead of DATA -/
  endMark : Bool
  eof : Bool
  fmt : BitVec 2
  settled : Bool
  ctx : BitVec 5
  epoch : BitVec 4
  payload : Bytes
  poisoned : Bool
  /-- when it entered the queue that holds it -/
  since : Nat := 0
  deriving DecidableEq, Repr

/-- A bulk packet: the header of R280 field by field, and its payload. -/
structure Pkt where
  dest : W64
  srcNode : BitVec 12
  srcPanel : BitVec 14
  opcode : Byte
  vc : BitVec 3
  prio : BitVec 2
  yx : Bool
  merge : Bool
  mcast : Bool
  ctx : BitVec 5
  firmware : Bool
  spec : Bool
  resp : Bool
  unit : BitVec 7
  sideband : W16
  kind : BitVec 2
  length : BitVec 13
  seq : W32
  crc : W32
  aux : W16
  status : BitVec 4
  headCheck : Byte
  payload : Bytes
  deriving DecidableEq, Repr

/-- A sync request: the issuer, the cell's address and the sequence number (R297). `node` is the source, on
`panel`. -/
structure SyncReq where
  node : BitVec 12
  ctx : BitVec 5
  firmware : Bool
  unit : BitVec 7
  addr : W64
  seq : W32
  panel : BitVec 14
  deriving DecidableEq, Repr

/-- One request presented at a scratchpad or commons bank in a cycle (R89, R112). -/
structure MemReq where
  /-- the requester's number in the table of R89 or R112 -/
  port : Nat
  ctx : CtxId
  role : Role
  addr : Nat
  write : Bool
  data : Bytes
  len : Nat
  unsettled : Bool
  firmware : Bool
  deriving DecidableEq, Repr

/-- A link message (R309) or a carried packet. -/
inductive FrameBody where
  | bulk (p : Pkt)
  | control (op : Byte) (ctx : BitVec 5) (field : BitVec 19)
  | sync (op : BitVec 4) (r : SyncReq) (operand : W64)
  | syncResp (r : SyncReq) (st : Status) (w : W64)
  | credit (vc : Nat) (units : Nat)
  | keyx
  | linkstate (panel : W16) (dir : Byte) (up : Bool)
  deriving DecidableEq, Repr

/-- A link frame (R309) as received: its header fields, and what FEC and the tag check say. -/
structure LinkFrame where
  counter : W64
  phase : Bool
  dateline : Bool
  negX : Bool
  negY : Bool
  negZ : Bool
  srcPanel : BitVec 14
  destPanel : BitVec 14
  body : FrameBody
  length : Nat
  fecOk : Bool
  tagOk : Bool
  deriving DecidableEq, Repr

/-! ### Configurations (R145, R154, R193, R225) -/

/-- A queue of a unit's input port (R145). -/
structure QueueDecl where
  port : Fin 4
  width : Nat
  depth : Nat
  backEdge : Bool
  spillable : Bool
  mayUnsettled : Bool
  frameInput : Bool
  prodDie : LDie
  prodUnit : Fin 112
  prodPort : Fin 4
  spillOff : Nat
  spillLen : Nat
  deriving DecidableEq, Repr

/-- An output port and the queues it feeds (R147): consumer die and queue ID; and the multicast group that carries its
tokens, where it has one (R292). -/
structure OutDecl where
  port : Fin 4
  queues : List (LDie × Fin 448)
  group : Option Byte := none
  deriving DecidableEq, Repr

/-- Modes of a strata layer (R193). -/
inductive LayerMode where
  | none | deadzone | topk
  deriving DecidableEq, Repr

/-- A layer of a predictor: its width, where its INT8 weights, one row for each output, and its INT32 biases lie in
the context's commons segments, and its right shift (R209). -/
structure PredLayer where
  width : Nat
  weights : W64
  biases : W64
  shift : Nat
  deriving DecidableEq, Repr

/-- A predictor declaration (R209): the address and length of its feature map, its layers and its threshold. -/
structure Predictor where
  featureMap : W64
  features : Nat
  layers : List PredLayer
  theta : Byte
  deriving DecidableEq, Repr

/-- A strata layer declaration (R193). -/
structure LayerDecl where
  k : Nat
  r : Nat
  j : Nat
  mode : LayerMode
  tau : W32
  /-- address of one FP32 bias per output, or none -/
  bias : Option W64
  sA : W32
  kSel : Nat
  candidates : Nat
  /-- INDICES instead of VALUES -/
  indices : Bool
  v : Nat
  partialWindow : Option Nat
  predictor : Option Predictor
  tag : W16
  /-- the layer's outputs on the die, those that array 0 and array 1 of an array pair complete, and its inputs -/
  outputs : Nat
  own : Nat × Nat
  inputs : Nat
  deriving DecidableEq, Repr

/-- A tensor with side table (R225). `pat` is 0 for none, 1–5 for the patterns of R226 in order. -/
structure SparseDecl where
  base : W64
  fmt : BitVec 4
  planes : BitVec 3
  c : Nat
  elems : Nat
  table : W64
  arr : BitVec 2
  pat : Nat
  /-- RAW instead of EXPAND, for a reader or writer of tagged pages (R235) -/
  raw : Bool
  deriving DecidableEq, Repr

/-- Array-pair parameters: format codes of R54, planes k − 1, reuse count, output format, conv. -/
structure ArrayCfg where
  wFmt : BitVec 4
  wPlanes : BitVec 3
  aFmt : BitVec 4
  reuse : Nat
  outFmt : BitVec 4
  conv : BitVec 4
  /-- FP32 per-tensor activation scale (R60) -/
  aScale : W32
  /-- FP32 scale per output channel, for INT8 and INT4 weights (R60) -/
  chanScale : List W32
  fillBytes : Nat
  /-- the destination tensor of the output stage, where it writes pages (R228) -/
  dest : Option SparseDecl
  deriving DecidableEq, Repr

/-- What a unit does (R126, R142, R144). -/
inductive UnitOp where
  | array (a : ArrayCfg)
  /-- the format and control of what a lane unit writes, and whether its stack accesses are cacheable (R54, R63, R97) -/
  | lane (fmt conv : BitVec 4) (cacheable : Bool)
  | mover (expand cacheable : Bool)
  | wstream
  | source (addr : W64) (bytes : Nat) (frame : Nat) (logged : Bool)
  | sink (addr : W64)
  /-- the engine-space address of the INGRESS port's die, and the INGRESS queue's depth (R325) -/
  | egress (lq : Fin 4096) (dest : W64) (depth : Nat)
  | ingress (lq : Fin 4096)
  /-- the operation, its formats and control, and words 4 to 7 (R126) -/
  | engine (opcode : Byte) (src dst conv : BitVec 4) (params : List W64)
  deriving DecidableEq, Repr

/-- One unit's configuration record (R154, R155). -/
structure UnitCfg where
  die : LDie
  unit : Fin 112
  op : UnitOp
  inputs : List QueueDecl
  outputs : List OutDecl
  layer : Option LayerDecl
  sparse : Option SparseDecl
  cacheSteps : Nat
  /-- checksum point number and the address of its ring, for a marked SINK or EGRESS port (R540) -/
  checksum : Option (Fin 64 × W64)
  deriving DecidableEq, Repr

/-- A staged or loaded graph: its version and its records (R155). -/
structure Graph where
  version : W32
  units : List UnitCfg
  deriving DecidableEq, Repr

/-! ### The Plynnex image: a context's IDLE fields (R157, R177) -/

/-- A ring declaration (R121, R122). -/
structure RingDecl where
  die : LDie
  eng : EngId
  ring : RingId
  base : Nat
  log2 : Nat
  prio : Nat
  deriving DecidableEq, Repr

/-- An export entry (R322). -/
structure Export where
  context : Byte
  rights : Byte
  remoteCtx : Byte
  boxLow : W16
  boxHigh : W16
  base : W64
  length : W64
  deriving DecidableEq, Repr

/-- A slot of a reduction group (R328). -/
structure GroupSlot where
  bucket : W64
  fillCell : W64
  doneCell : W64
  out : W64
  residue : W64
  record : W64
  deriving DecidableEq, Repr

/-- A participant's declaration of a reduction group (R328). -/
structure GroupDecl where
  group : Fin 4
  die : LDie
  ring : RingId
  p : Nat
  q : Nat
  predPanel : BitVec 14
  predDie : LDie
  succPanel : BitVec 14
  succDie : LDie
  /-- BF16 instead of FP32 -/
  bucketBf16 : Bool
  fullBf16 : Bool
  outFmt : BitVec 4
  bucketBytes : Nat
  slots : List GroupSlot
  stage0 : W64
  stage1 : W64
  stageBytes : Nat
  deriving DecidableEq, Repr

/-- A multicast group (R292). -/
structure Mcast where
  id : Fin 256
  root : Die
  dests : List (LDie × BitVec 16)
  deriving DecidableEq, Repr

/-- A declaration that a RESIDENT region of a tile exists (R101). -/
structure Resident where
  die : LDie
  tile : LTile
  off : Nat
  len : Nat
  /-- an unsettled output is directed into it, which R101 refuses -/
  unsettled : Bool
  deriving DecidableEq, Repr

/-- A context's image (R177 and the rules it names). -/
structure Image where
  tiles : List (LDie × LTile)
  cache : List (LDie × LTile × Nat)
  segments : List (LDie × Fin 32 × Bool)
  banks : List (Stk × Fin 64)
  dieBlocks : List (LDie × Fin 32)
  hubBlocks : List (Hub × Fin 256)
  streams : List (LDie × Fin 8)
  resident : List Resident
  rings : List RingDecl
  windows : List (W64 × Nat)
  exports : List Export
  groups : List GroupDecl
  mcasts : List Mcast
  linkQueues : List (Fin 4096 × LDie)
  /-- ranges that a host window must not overlap: scan areas, input log, ring records … (R433) -/
  reserved : List (W64 × Nat)
  /-- speculative scratch regions: die, base, length (R215) -/
  scratch : List (LDie × W64 × Nat)
  /-- input log sizes per logging port (R525) -/
  logs : List (LDie × Fin 8 × Nat)
  /-- regulator settings: die, VC × 3 + priority − 1, rate in MB/s, burst (R285) -/
  regs : List (Die × Fin 24 × W32 × W32)
  graph : Graph
  digest : BitVec 256
  /-- the staging area of each die of the region: offset and length in its commons (R155) -/
  staging : List (LDie × Nat × Nat) := []
  /-- the checkpoint scan areas of each die: area, base and length (R184, R524) -/
  scan : List (LDie × Fin 2 × W64 × Nat) := []
  /-- the scan area of a SUSPEND of each die: base and length (R182) -/
  suspend : List (LDie × W64 × Nat) := []
  /-- the input log rings of each logging port, in its west and its east home stack (R525) -/
  logAt : List (LDie × Fin 8 × W64 × W64) := []
  deriving DecidableEq, Repr

/-! ### Operands of single rows -/

/-- Lane-unit instructions (R85). Operands name vector registers. -/
inductive LaneOp where
  | fma | add | sub | mul | min | max | abs | neg | cmpLt | cmpEq | select | reduceSum | reduceMax
  | iadd | icmpLt | ishl | ishr | convFrom (fmt : BitVec 4) | convTo (fmt conv : BitVec 4)
  | load (off : Nat) | store (off : Nat)
  /-- 64 outputs of an array from its output stage (R86) -/
  | stage (a : Fin 2) (first : Nat)
  deriving DecidableEq, Repr

/-- One lane instruction: destination, three sources (R85, R86). -/
structure LaneInstr where
  op : LaneOp
  dst : Fin 32
  a : Fin 32
  b : Fin 32
  c : Fin 32
  deriving DecidableEq, Repr

/-- What a unit's configuration register write names (CFG, R291). -/
inductive CfgTarget where
  | loadBuffer (version : W32) (cfg : UnitCfg)
  | register (reg : Byte) (value : W64)
  deriving DecidableEq, Repr

/-- Broadcasts of R291. -/
inductive Bcast where
  | pause | resume | flush | rollback | halt
  deriving DecidableEq, Repr

/-- A manifest entry (R258). -/
structure ShardEntry where
  shard : W32
  flags : Byte
  length : W64
  placement : W64
  digest : BitVec 256
  zerosOk : Bool
  deriving DecidableEq, Repr

/-- A shard manifest (R258). -/
structure Manifest where
  version : W32
  id : W64
  generation : W64
  keyId : W64
  zerosOk : Bool
  entries : List ShardEntry
  sig : SigBlock
  deriving DecidableEq, Repr

/-- Arrival of a peer's key exchange (R311): what the admitting end checks. -/
structure KeyxIn where
  sigOk : Bool
  ownerHash : BitVec 256
  coord : BitVec 14
  ventIdx : Nat
  deriving DecidableEq, Repr

/-- A lane's margin readings (R314). -/
structure LaneIn where
  lane : Fin 32
  rxPower : BitVec 16
  laserBias : BitVec 16
  /-- pre-FEC bit error ratio, FP32 -/
  ber : W32
  fecSymbols : W32
  state : Byte
  deriving DecidableEq, Repr

/-- A part with a thermal hot spot (R382). -/
inductive Spot where
  | tile (d : Die) (t : PTile)
  | commons (d : Die)
  | stack (s : Stk)
  | hub (h : Hub)
  | vent (v : Vent)
  deriving DecidableEq, Repr

/-- A domain that is switched on (R372). -/
inductive Domain where
  | stack (s : Stk)
  | core (d : Die)
  | vent (v : Vent)
  | host (h : Hub)
  | island (d : Die) (i : Fin 21)
  | spare (d : Die) (t : PTile)
  deriving DecidableEq, Repr

/-- A part behind an electronic fuse (R374). -/
inductive FuseRef where
  | stack (s : Stk)
  | vent (v : Vent)
  deriving DecidableEq, Repr

/-- A clock island (R342). -/
inductive Island where
  | die (d : Die) (i : Fin 37)
  | sinter (s : Stk)
  | hub (h : Hub) (i : Fin 24)
  | vent (v : Vent) (i : Fin 2)
  deriving DecidableEq, Repr

/-- The measurements of one power-controller tick (R378): the input, the groups' currents at 6 V in A, and the
dies' powers at the point of use in W, by physical die. -/
structure PowerIn where
  inputMv : Nat
  inputDa : Nat
  inputW : Nat
  groups : List Nat
  dies : List Nat
  deriving DecidableEq, Repr

/-- A write of the whole calibration table (R505–R507): its length, header and directory, and the
values, per section, that differ from the section's factory value. -/
structure CalWrite where
  length : Nat
  magicOk : Bool
  version : W16
  count : Byte
  serial : W64
  directory : List (Nat × Nat × Nat × Nat)
  values : List (Tbl Int)
  deriving DecidableEq, Repr

/-- A Fjoco frame's head as the panel receives it (R466, R468). -/
structure FHead where
  channel : Fin 4
  version : Nat
  kind : Nat
  session : W16
  sequence : W32
  sizeOk : Bool
  tagOk : Bool
  deriving DecidableEq, Repr

/-- The body of HELLO: the client's nonce and the 1216 bytes of its ephemeral public keys (R470). -/
structure HelloBody where
  nonce : BitVec 256
  publics : Bytes
  deriving DecidableEq, Repr

/-- A process-data map entry (R487). -/
structure MapEntry where
  index : W16
  sub : Byte
  zero : Byte
  deriving DecidableEq, Repr

/-- What REGISTER_WRITE writes: an object at a level (R479), a mailbox register at a sideband offset by the host
(R448), a hub-space register by firmware (R447), a ring register by a unit of a context (R122). -/
inductive RegRef where
  | object (level : Level) (index : W16) (sub : Byte)
  | mailbox (h : Hub) (off : Nat)
  | hub (h : Hub) (off : Nat)
  | engine (c : CtxId) (d : LDie) (off : Nat)
  deriving DecidableEq, Repr

/-- A descriptor of a DMA mover (R454). -/
structure MoverDesc where
  host : W64
  fabric : W64
  length : W32
  sequence : W16
  flags : Byte
  deriving DecidableEq, Repr

/-- Test-port activity (R561). -/
inductive TapOp where
  | reset
  | shiftIr (ir : Byte)
  | shiftDr (bits : List Bool)
  deriving DecidableEq, Repr

/-- What the output stage does with the outputs (R82, R197): it completes them, sends their partial z and E to the array
pair that completes them, or adds the partial z and E of a token of an input port. -/
inductive StagePart where
  | finish | send
  | combine (port : Fin 4)
  deriving DecidableEq, Repr

/-- A source of a certified output in OUTPUT_STAGE_WRITE: which outputs and vectors are written. -/
structure StageOut where
  firstOutput : Nat
  count : Nat
  vectors : Nat
  /-- scratchpad offset of the destination, or the output queue when none -/
  dest : Option Nat
  part : StagePart
  /-- the firing has consumed an eof token of the frame input: its last token ends the frame (R152) -/
  eof : Bool := false
  deriving DecidableEq, Repr

/-- Where a fill comes from (R79, R190–R192): the stack bytes from an address on, the bytes of a RESIDENT region from a
scratchpad offset on; pages of the tagged tensor that the port's record declares: the first, how many, and where the
scale bytes of their loads lie, if they have any (R235); or a strata tensor: its address, the first segment, the number
of loads, one segment each, and the first output, or the first place in the ascending settle list or hint list. A
segment is 64 inputs, or of a tagged tensor's N:M lines 64 slots, which a load of those lines takes (R232, R236). -/
inductive FillSrc where
  | stack (base : W64)
  | resident (off : Nat)
  | pages (first count : Nat) (scales : Option W64)
  | strata (base : W64) (seg loads first : Nat) (nm : Bool)
  deriving DecidableEq, Repr

/-- What a fill is for: the demand of pass 1 or of a single pass, the settle pass, or a prefetch (R196–R211). -/
inductive FillPass where
  | first | settle | prefetch
  deriving DecidableEq, Repr

/-- A fill: its source, its pass, whether its reads may merge (R256), and the multicast group of its answers (R292). -/
structure FillDecl where
  src : FillSrc
  pass : FillPass
  merge : Bool
  group : Option Byte
  deriving DecidableEq, Repr

/-! ### The commands -/

/-- The commands of the panel, one constructor for each row of the table of operations and events. (DESIGN CHOICE, log 5) -/
inductive Instr where
  /-- COLD_START (R499): the cold start trigger, with what its tests will find. -/
  | coldStart (i : StartIn)
  /-- WARM_START (R500). -/
  | warmStart (i : StartIn)
  /-- POWER_ON_START (R497): the input has risen to `mv` millivolts. -/
  | powerOnStart (mv : Nat) (i : StartIn)
  /-- PANEL_RST_N_RELEASE (R556): the rising edge, after the deglitch. -/
  | panelRstNRelease (i : StartIn)
  /-- PANEL_RST_N_HELD (R556): the pin has been low for `ns`. -/
  | panelRstNHeld (ns : Nat)
  /-- COOLANT_QUALIFIED (R389): the start waiting at step 4 looks at the coolant. -/
  | coolantQualified (i : StartIn)
  /-- FW_LOAD (R502): a firmware block for a die's sequencer memory; `last` closes the body. -/
  | fwLoad (d : Die) (off : Nat) (data : Bytes) (last : Bool)
  /-- START_COMPLETE (R499): the start reaches IDLE `ms` after its trigger. -/
  | startComplete (ms : Nat)
  /-- START_STEP_TIMEOUT (R500): a step has exceeded its time. -/
  | startStepTimeout (step : Nat) (i : StartIn)
  /-- SELFTEST (R486). -/
  | selftest
  /-- SELFTEST_COMPLETE (R504): what it found, and the objects skipped. -/
  | selftestComplete (found : TestFound) (skipped : Nat)
  /-- CALIBRATE (R508). -/
  | calibrate
  /-- CALIBRATE_COMPLETE (R508): the derived sections, as differences from the factory values. -/
  | calibrateComplete (values : List (Tbl Int)) (found : List W32)
  /-- POWER_OFF (R486). -/
  | powerOff
  /-- ENTER_SAFE (R535): the command (none), or a fault whose rule names SAFE. -/
  | enterSafe (cause : Option W16)
  /-- UPDATE (R510). -/
  | update
  /-- FW_STAGE (R510). -/
  | fwStage (img : FwImage)
  /-- ACTIVATE (R510), and what the trial start's tests will find. -/
  | activate (i : StartIn)
  /-- DISCARD (R510). -/
  | discard
  /-- CAL_TABLE_WRITE (R507). -/
  | calTableWrite (w : CalWrite)
  /-- FIELD_DEFECTS_CLEAR (R40). -/
  | fieldDefectsClear (v : Bool)
  /-- COUNTERS_CLEAR (R73). -/
  | countersClear (set : CtrSet) (v : Bool)
  /-- REGISTER_WRITE (R479). -/
  | registerWrite (r : RegRef) (value : Bytes)
  /-- UNIT_FIRING (R152). -/
  | unitFiring (d : LDie) (u : Fin 112)
  /-- ARRAY_ROUND (R55): the staged vector `entry`, into the accumulators from `out` on. -/
  | arrayRound (d : LDie) (t : LTile) (a : Fin 2) (entry : Fin 256) (out : Nat)
  /-- STAGING_FILL (R83): one 64-element segment and its two block scale bytes. -/
  | stagingFill (d : LDie) (t : LTile) (a : Fin 2) (entry : Fin 256) (data : Bytes)
      (scales : Byte × Byte)
  /-- SHADOW_LOAD (R81): a load from the half that is IN_USE, at byte `off`. -/
  | shadowLoad (d : LDie) (t : LTile) (a : Fin 2) (off : Nat)
  /-- HALF_FILL_START (R78): `prefetch` for planes that a hint asked for (R80). -/
  | halfFillStart (d : LDie) (t : LTile) (a : Fin 2) (fill : FillDecl) (bytes : Nat)
  /-- HALF_TAKE (R78). -/
  | halfTake (d : LDie) (t : LTile) (a : Fin 2)
  /-- HALF_RELEASE (R78). -/
  | halfRelease (d : LDie) (t : LTile) (a : Fin 2)
  /-- OUTPUT_STAGE_WRITE (R82). -/
  | outputStageWrite (d : LDie) (t : LTile) (a : Fin 2) (o : StageOut)
  /-- LANE_INSTRUCTION (R85). -/
  | laneInstruction (d : LDie) (t : LTile) (i : LaneInstr)
  /-- SCRATCHPAD_ACCESS (R89): the requests present at a bank in a cycle. -/
  | scratchpadAccess (d : LDie) (t : LTile) (bank : Fin 32) (reqs : List MemReq)
  /-- CLEAN (R98) over a byte range of stack space. -/
  | clean (d : LDie) (t : LTile) (base : W64) (bytes : Nat)
  /-- INVALIDATE (R98). -/
  | invalidate (d : LDie) (t : LTile) (base : W64) (bytes : Nat)
  /-- CLEAN_INVALIDATE (R98). -/
  | cleanInvalidate (d : LDie) (t : LTile) (base : W64) (bytes : Nat)
  /-- SP_CREDIT_REQ (R92): source node and unit, context, target tile, window offset, units. -/
  | spCreditReq (node : BitVec 12) (c : CtxId) (d : LDie) (t : LTile) (window : Nat) (n : Nat)
  /-- SP_CREDIT_REPLY (R92): the reply in front at the source die. -/
  | spCreditReply (src : LDie)
  /-- DENY_FULL_RETRY (R92): the source asks again. -/
  | denyFullRetry (src : LDie)
  /-- CREDIT_RETURN (R93). -/
  | creditReturn (d : LDie) (t : LTile) (id : Fin 64)
  /-- CREDIT_EXPIRY (R94). -/
  | creditExpiry (d : LDie) (t : LTile) (id : Fin 64)
  /-- BANK_CLOSE (R105). -/
  | bankClose (b : BankRef) (m : CloseMode)
  /-- BANK_CLOSE_COMPLETE (R107). -/
  | bankCloseComplete (b : BankRef)
  /-- BANK_REOPEN (R107). -/
  | bankReopen (b : BankRef)
  /-- BANK_REOPEN_COMPLETE (R107). -/
  | bankReopenComplete (b : BankRef)
  /-- REOPEN (R106): a source receives the notice of a bank. -/
  | reopen (node : BitVec 12) (b : BankRef)
  /-- COMMONS_ACCESS (R112): the requests present at a commons bank in a cycle. -/
  | commonsAccess (d : LDie) (bank : Fin 64) (reqs : List MemReq)
  /-- TAIL (R122): a write by a unit of context c. -/
  | tail (c : CtxId) (d : LDie) (e : EngId) (q : RingId) (v : W32)
  /-- RING_RESUME (R122). -/
  | ringResume (c : CtxId) (d : LDie) (e : EngId) (q : RingId)
  /-- RING_ABORT (R122). -/
  | ringAbort (c : CtxId) (d : LDie) (e : EngId) (q : RingId)
  /-- DESCRIPTOR_FETCH (R120). -/
  | descriptorFetch (d : LDie) (e : EngId) (q : RingId)
  /-- DESCRIPTOR_RETIRE (R124). -/
  | descriptorRetire (d : LDie) (e : EngId) (q : RingId)
  /-- ENGINE_WATCHDOG (R125). -/
  | engineWatchdog (d : LDie) (e : EngId) (q : RingId)
  /-- COPY (R128): the started descriptor of ring q of the die's engine. -/
  | copy (d : LDie) (q : RingId)
  /-- TRANSPOSE (R128): the started descriptor of ring q of the die's engine. -/
  | transpose (d : LDie) (q : RingId)
  /-- CONVERT (R566): the started descriptor of ring q of the die's engine. -/
  | convert (d : LDie) (q : RingId)
  /-- STRATA_PACK (R129): the started descriptor of ring q of the die's engine. -/
  | strataPack (d : LDie) (q : RingId)
  /-- STRATA_TRIM (R129): the started descriptor of ring q of the die's engine. -/
  | strataTrim (d : LDie) (q : RingId)
  /-- MX_PACK (R65): the started descriptor of ring q of the die's engine. -/
  | mxPack (d : LDie) (q : RingId)
  /-- EXP (R130): the started descriptor of ring q of the die's engine. -/
  | exp (d : LDie) (q : RingId)
  /-- LOG (R130): the started descriptor of ring q of the die's engine. -/
  | log (d : LDie) (q : RingId)
  /-- RECIP (R130): the started descriptor of ring q of the die's engine. -/
  | recip (d : LDie) (q : RingId)
  /-- RSQRT (R130): the started descriptor of ring q of the die's engine. -/
  | rsqrt (d : LDie) (q : RingId)
  /-- SQRT (R130): the started descriptor of ring q of the die's engine. -/
  | sqrt (d : LDie) (q : RingId)
  /-- GELU (R130): the started descriptor of ring q of the die's engine. -/
  | gelu (d : LDie) (q : RingId)
  /-- SILU (R130): the started descriptor of ring q of the die's engine. -/
  | silu (d : LDie) (q : RingId)
  /-- SIGMOID (R130): the started descriptor of ring q of the die's engine. -/
  | sigmoid (d : LDie) (q : RingId)
  /-- TANH (R130): the started descriptor of ring q of the die's engine. -/
  | tanh (d : LDie) (q : RingId)
  /-- LN_STATS (R131): the started descriptor of ring q of the die's engine. -/
  | lnStats (d : LDie) (q : RingId)
  /-- RMS_STATS (R131): the started descriptor of ring q of the die's engine. -/
  | rmsStats (d : LDie) (q : RingId)
  /-- NORM_APPLY (R131): the started descriptor of ring q of the die's engine. -/
  | normApply (d : LDie) (q : RingId)
  /-- SORT (R132): the started descriptor of ring q of the die's engine. -/
  | sort (d : LDie) (q : RingId)
  /-- MERGE (R132): the started descriptor of ring q of the die's engine. -/
  | merge (d : LDie) (q : RingId)
  /-- MERGE_SUM (R132): the started descriptor of ring q of the die's engine. -/
  | mergeSum (d : LDie) (q : RingId)
  /-- TOPK (R132): the started descriptor of ring q of the die's engine. -/
  | topk (d : LDie) (q : RingId)
  /-- GATHER (R133): the started descriptor of ring q of the die's engine. -/
  | gather (d : LDie) (q : RingId)
  /-- SCATTER (R133): the started descriptor of ring q of the die's engine. -/
  | scatter (d : LDie) (q : RingId)
  /-- SCATTER_ADD (R133): the started descriptor of ring q of the die's engine. -/
  | scatterAdd (d : LDie) (q : RingId)
  /-- PREDICT (R209): the started descriptor of ring q of the die's engine. -/
  | predict (d : LDie) (q : RingId)
  /-- CERTIFY_TOPK (R206): the started descriptor of ring q of the die's engine. -/
  | certifyTopk (d : LDie) (q : RingId)
  /-- TOPK_SELECTION (R207): the settled values of one vector's candidates, written to `dst`. -/
  | topkSelection (d : LDie) (vec : Nat) (settled : List (Nat × W32)) (dst : Nat)
  /-- COMBINE (R135): the started descriptor of ring q of the die's engine. -/
  | combine (d : LDie) (q : RingId)
  /-- SIGN1_ENC (R135): the started descriptor of ring q of the die's engine. -/
  | sign1Enc (d : LDie) (q : RingId)
  /-- SIGN1_DEC (R135): the started descriptor of ring q of the die's engine. -/
  | sign1Dec (d : LDie) (q : RingId)
  /-- RING_STEP (R333): the started descriptor of ring q of the die's engine. -/
  | ringStep (d : LDie) (q : RingId)
  /-- GCM_ENC (R136): the started descriptor of ring q of the die's engine. -/
  | gcmEnc (d : LDie) (q : RingId)
  /-- GCM_DEC (R136): the started descriptor of ring q of the die's engine. -/
  | gcmDec (d : LDie) (q : RingId)
  /-- SHA3_256 (R136): the started descriptor of ring q of the die's engine. -/
  | sha3256 (d : LDie) (q : RingId)
  /-- SHA3_512 (R136): the started descriptor of ring q of the die's engine. -/
  | sha3512 (d : LDie) (q : RingId)
  /-- HASH_VERIFY (R136): the started descriptor of ring q of the die's engine. -/
  | hashVerify (d : LDie) (q : RingId)
  /-- SWITCH_DRAIN (R160): the graph_cmd of a context. -/
  | switchDrain (c : CtxId)
  /-- SWITCH_FLUSH (R160): the graph_cmd of a context. -/
  | switchFlush (c : CtxId)
  /-- ROLLBACK (R164): the graph_cmd of a context. -/
  | rollback (c : CtxId)
  /-- HALT (R160): the graph_cmd of a context. -/
  | halt (c : CtxId)
  /-- RESUME (R160): the graph_cmd of a context. -/
  | resume (c : CtxId)
  /-- SUSPEND (R182): the graph_cmd of a context. -/
  | suspend (c : CtxId)
  /-- REINSTATE (R182): the graph_cmd of a context. -/
  | reinstate (c : CtxId)
  /-- CFG (R291). -/
  | cfg (d : LDie) (u : Fin 112) (t : CfgTarget)
  /-- UNIT_DRAIN_SWITCH (R162). -/
  | unitDrainSwitch (d : LDie) (u : Fin 112)
  /-- UNIT_FLUSH (R163). -/
  | unitFlush (d : LDie) (u : Fin 112)
  /-- UNIT_ROLLBACK (R164). -/
  | unitRollback (d : LDie) (u : Fin 112)
  /-- SWITCH_COMPLETE (R165). -/
  | switchComplete (c : CtxId)
  /-- SWITCH_TIMEOUT (R166). -/
  | switchTimeout (c : CtxId)
  /-- JOIN_WATCHDOG (R171). -/
  | joinWatchdog (d : LDie) (u : Fin 112)
  /-- LIVE_WRITE_APPLY (R158). -/
  | liveWriteApply (d : LDie) (u : Fin 112)
  /-- CTX_BCAST (R291). -/
  | ctxBcast (d : LDie) (u : Fin 112) (b : Bcast)
  /-- IMAGE_LOAD (R177). -/
  | imageLoad (c : CtxId) (img : Image)
  /-- CHECKPOINT_DUE (R523). -/
  | checkpointDue (c : CtxId)
  /-- CHECKPOINT_COMPLETE (R184). -/
  | checkpointComplete (c : CtxId)
  /-- CHECKPOINT_SKIP (R523). -/
  | checkpointSkip (c : CtxId)
  /-- SETTLE (R208): the stream port consumes the token in front. -/
  | settle (d : LDie) (u : Fin 112)
  /-- HINT (R210). -/
  | hint (d : LDie) (u : Fin 112)
  /-- GROUP_END (R208). -/
  | groupEnd (d : LDie) (u : Fin 112)
  /-- DISPATCH_SPAN (R233): for each column, the nonzero weights of the span, by position. -/
  | dispatchSpan (d : LDie) (t : LTile) (a : Fin 2) (cols : List (List (Nat × W16)))
  /-- READ (R281): a packet arrives at a node. -/
  | read (at_ : BitVec 12) (p : Pkt)
  /-- READ_DATA (R281). -/
  | readData (at_ : BitVec 12) (p : Pkt)
  /-- WRITE (R281). -/
  | write (at_ : BitVec 12) (p : Pkt)
  /-- WRITE_DONE (R281). -/
  | writeDone (at_ : BitVec 12) (p : Pkt)
  /-- TOKEN (R148). -/
  | token (at_ : BitVec 12) (p : Pkt)
  /-- ROUTER_FORWARD (R277): the packet lies in the router of die d. -/
  | routerForward (d : Die) (p : Pkt)
  /-- REGULATOR_RELEASE (R285). -/
  | regulatorRelease (d : Die) (vc : Fin 8) (prio : Fin 4)
  /-- ACK (R287): from destination `dst` to source `src`, for a VC and a sequence number. -/
  | ack (src dst : BitVec 12) (vc : Fin 8) (seq : W32)
  /-- RESEND_TIMEOUT (R287). -/
  | resendTimeout (src dst : BitVec 12) (vc : Fin 8) (seq : W32)
  /-- PATH_TEST (R289): the lanes of the path that fail. -/
  | pathTest (src dst : BitVec 12) (lanes : List W32)
  /-- QCREDIT (R147): credits of a queue of die d. -/
  | qcredit (d : LDie) (q : Fin 448) (n : Nat)
  /-- SYNC_READ (R297). -/
  | syncRead (r : SyncReq)
  /-- SYNC_WRITE (R297). -/
  | syncWrite (r : SyncReq) (v : W64)
  /-- INIT (R297). -/
  | init (r : SyncReq) (v : W64)
  /-- ARRIVE (R298). -/
  | arrive (r : SyncReq) (v : W64)
  /-- WAIT (R297). -/
  | wait (r : SyncReq) (v : W64)
  /-- FETCH_ADD (R297). -/
  | fetchAdd (r : SyncReq) (v : W64)
  /-- CAS (R297). -/
  | cas (r : SyncReq) (v : W64)
  /-- LINK (R297). -/
  | link (r : SyncReq) (v : W64)
  /-- READ_LINK (R297). -/
  | readLink (r : SyncReq)
  /-- RELEASE (R298): the RELEASE of a parent arrives at a die or hub. -/
  | release (at_ : BitVec 12) (parent : W64)
  /-- SHARD_MANIFEST (R259). -/
  | shardManifest (c : CtxId) (m : Manifest)
  /-- FILL (R262). -/
  | fill (c : CtxId)
  /-- ABANDON (R262). -/
  | abandon (c : CtxId)
  /-- FILL_ATTEMPT (R263). -/
  | fillAttempt (c : CtxId) (shard : Nat)
  /-- FILL_WRITTEN (R263). -/
  | fillWritten (c : CtxId) (shard : Nat)
  /-- SHARD_VERIFY_DONE (R263). -/
  | shardVerifyDone (c : CtxId) (shard : Nat)
  /-- FILL_ATTEMPT_TIMEOUT (R262). -/
  | fillAttemptTimeout (c : CtxId) (shard : Nat)
  /-- SHARD_WAIT_LIMIT (R261). -/
  | shardWaitLimit (c : CtxId) (shard : Nat)
  /-- DIGEST_PATROL (R264). -/
  | digestPatrol (c : CtxId) (shard : Nat)
  /-- SCRUB (R255): one pass over a stack. -/
  | scrub (s : Stk)
  /-- STACK_BANK_ZEROISE (R250). -/
  | stackBankZeroise (s : Stk) (b : Fin 64)
  /-- LINK_ENABLE (R308). -/
  | linkEnable (v : Vent)
  /-- TRAIN_COMPLETE (R308): the groups that trained. -/
  | trainComplete (v : Vent) (tx rx : Byte)
  /-- KEYX (R311): the peer's exchange arrives. -/
  | keyx (v : Vent) (k : KeyxIn)
  /-- KEYX_COMPLETE (R311). -/
  | keyxComplete (v : Vent)
  /-- LINK_RETRY (R307). -/
  | linkRetry (v : Vent)
  /-- FRAME_RX (R313). -/
  | frameRx (v : Vent) (f : LinkFrame)
  /-- CREDIT (R310): receive-buffer credits of a class, in 64-byte units. -/
  | credit (v : Vent) (cls : Fin 32) (units : Nat)
  /-- LINKSTATE (R316): a direction of a panel has, or has not, an UP vent die. -/
  | linkstate (panel : W16) (dir : Fin 6) (up : Bool)
  /-- LANE_GROUP_OUT (R305). -/
  | laneGroupOut (v : Vent) (tx : Bool) (f : Fin 8)
  /-- GROUP_RETRAIN (R305): whether 10 s with a ratio below 10^-6 followed. -/
  | groupRetrain (v : Vent) (tx : Bool) (f : Fin 8) (good : Bool)
  /-- REKEY (R312). -/
  | rekey (v : Vent)
  /-- MARGIN_REFRESH (R314). -/
  | marginRefresh (v : Vent) (lanes : List LaneIn)
  /-- RING_GRANT (R331): at participant d of group g, the fields of the grant. -/
  | ringGrant (d : LDie) (g : Fin 4) (wire : Byte) (slot : W16) (run : W32) (step : W16) (p : W16)
      (half : W64)
  /-- RING_DATA (R326): at a stack of this panel. -/
  | ringData (p : Pkt)
  /-- RING_DONE (R331). -/
  | ringDone (d : LDie) (g : Fin 4) (wire : Byte) (slot : W16) (run : W32) (step : W16) (p : W16)
      (bytes : W32)
  /-- SHARD_REQ (R324): a peer asks for a digest, and names its placement (a choice of this model). -/
  | shardReq (panel : BitVec 14) (id : W64) (shard : W32) (digest : BitVec 256) (length : W64)
      (tag : W16) (placement : W64)
  /-- SHARD_DATA (R324). -/
  | shardData (p : Pkt)
  /-- XTOKEN (R325). -/
  | xtoken (p : Pkt)
  /-- BUCKET_RUN_START (R329). -/
  | bucketRunStart (d : LDie) (g : Fin 4) (slot : Nat)
  /-- RING_STEP_TIMEOUT (R335). -/
  | ringStepTimeout (d : LDie) (g : Fin 4)
  /-- REFERENCE_LOSS (R344): the crystal (none) or one hub's PLL. -/
  | referenceLoss (hub : Option Hub)
  /-- REFERENCE_RETURN (R344). -/
  | referenceReturn
  /-- ISLAND_DECOUPLE (R345). -/
  | islandDecouple (i : Island)
  /-- RELOCK_TIMEOUT (R345). -/
  | relockTimeout (i : Island)
  /-- STEP_CHANGE (R348): one sequence of a die, and how long it took. -/
  | stepChange (d : Die) (ns : Nat)
  /-- STEP_CHANGE_TIMEOUT (R348): whether the return to the previous step succeeds. -/
  | stepChangeTimeout (d : Die) (returned : Bool)
  /-- STRETCH_RATE_WINDOW (R349): stretches and cycles of a die in a 1 ms window. -/
  | stretchRateWindow (d : Die) (stretches cycles : Nat)
  /-- CEILING_EXPIRY (R349): the oldest stretch (or margin) lowering of a die. -/
  | ceilingExpiry (d : Die) (margin : Bool)
  /-- LOCKSTEP_FALLBACK (R352). -/
  | lockstepFallback (d : Die) (skewPs ns : Nat)
  /-- REPLICA_WINDOW (R353): the window minimum of an island in 0.5% units. -/
  | replicaWindow (i : Island) (minimum : Nat)
  /-- REPLICA_FAILURE (R353). -/
  | replicaFailure (i : Island)
  /-- HEAT_SWITCH_OFF (R354). -/
  | heatSwitchOff (d : Die) (i : Fin 21)
  /-- HEAT_SWITCH_ON (R354). -/
  | heatSwitchOn (d : Die) (i : Fin 21)
  /-- QUENCH_N (R357): the pin has been low for `ns`. -/
  | quenchN (ns : Nat)
  /-- QUENCH_CMD (R355). -/
  | quenchCmd (v : Bool)
  /-- READOUT_COMPLETE (R358): whether a write failed. -/
  | readoutComplete (failed : Bool)
  /-- QUENCH_SRAM_DUMP (R358). -/
  | quenchSramDump (v : Bool)
  /-- SRAM_DUMP_COMPLETE (R357). -/
  | sramDumpComplete (failed : Bool)
  /-- OBSIDIAN_IMAGE (R361): a read of a slot begins. -/
  | obsidianImage (slot : Fin 2)
  /-- INPUT_FAULT (R370): the input voltage has been at `mv` for `us`. -/
  | inputFault (mv us : Nat)
  /-- INPUT_MARGINAL (R370). -/
  | inputMarginal (mv : Nat)
  /-- INPUT_OVERCURRENT (R370): 0.1 A units. -/
  | inputOvercurrent (da us : Nat)
  /-- INPUT_FOLDBACK (R370). -/
  | inputFoldback (da us : Nat)
  /-- BUSBAR_IMBALANCE (R370): the pairs' currents in 0.1 A units for `ms`. -/
  | busbarImbalance (p0 p1 ms : Nat)
  /-- CONVERTER_FAILURE (R368). -/
  | converterFailure (g : Fin 14) (m : Fin 2)
  /-- SWITCH_ON_SLOT (R372): measured group currents and input power of the slot before. -/
  | switchOnSlot (groups : List Nat) (inputW : Nat)
  /-- SWITCH_ON_ABANDON (R372). -/
  | switchOnAbandon (dom : Domain)
  /-- EFUSE_OPEN (R374): the current in amperes and its duration. -/
  | efuseOpen (f : FuseRef) (amps ns : Nat)
  /-- PHASE_FAILURE (R375): phases 12 and 13 are the always-on ones. -/
  | phaseFailure (d : Die) (p : Fin 14)
  /-- SHUNT (R376): the rise above the set point. -/
  | shunt (d : Die) (mv : Nat)
  /-- BOOST (R376): the sag below the set point. -/
  | boost (d : Die) (mv : Nat)
  /-- POWER_TICK (R378). -/
  | powerTick (p : PowerIn)
  /-- CURRENT_LOG_ROW (R380). -/
  | currentLogRow (inputDa : Nat) (groups : List Nat)
  /-- MIN_VOLTAGE_CLEAR (R379). -/
  | minVoltageClear (v : Bool)
  /-- RESISTANCE_UPDATE (R381): the samples of the last 10 s in micro-ohms. -/
  | resistanceUpdate (d : Die) (samples : List Nat)
  /-- SENSOR_DISAGREEMENT (R382): the pair's readings in 0.01 °C, and for how long. -/
  | sensorDisagreement (s : Spot) (a b : Int) (ms : Nat)
  /-- SENSOR_EXCLUSION (R383): sensor 0 or 1 of a hot spot and its reading. -/
  | sensorExclusion (s : Spot) (which : Fin 2) (reading : Int)
  /-- THERMAL_STAGE_ENTER (R384): the pair's readings in 0.01 °C. -/
  | thermalStageEnter (s : Spot) (a b : Int)
  /-- THERMAL_STAGE_LOWER (R384). -/
  | thermalStageLower (d : Die)
  /-- THERMAL_STAGE_EXIT (R384): the readings, and how long T has been below the threshold. -/
  | thermalStageExit (s : Spot) (a b : Int) (ms : Nat)
  /-- THERMAL_TRIP (R387): three consecutive samples of one sensor. -/
  | thermalTrip (s : Spot) (which : Fin 2) (r1 r2 r3 : Int)
  /-- HOST_THERMTRIP (R459). -/
  | hostThermtrip (h : Hub)
  /-- COOLANT_SAMPLE (R388): 0 inlet, 1 outlet, 2 flow, an FP32 value. -/
  | coolantSample (which : Fin 3) (v : W32)
  /-- COOLANT_TIMEOUT (R388). -/
  | coolantTimeout (which : Fin 3)
  /-- OUTLET_BELOW_INLET (R388). -/
  | outletBelowInlet (ms : Nat)
  /-- LOW_FLOW (R389): for how long the flow used has been low. -/
  | lowFlow (ms : Nat)
  /-- THETA_UPDATE (R391): mean over the second of the hottest temperature (0.01 °C), input W. -/
  | thetaUpdate (hottest : Int) (inputW : Nat)
  /-- POWER_FORECAST (R392). -/
  | powerForecast (p : List W32)
  /-- FORECAST_INTERVAL (R392): interval i begins at this input power. -/
  | forecastInterval (i : Fin 8) (inputW : Nat)
  /-- FORECAST_EXPIRY (R392). -/
  | forecastExpiry
  /-- SIMMER_CHECK (R394): the governing temperatures of the idle dies, over `ms`. -/
  | simmerCheck (temps : List (Die × Int)) (ms : Nat)
  /-- ROOT_TAKEOVER (R404): for how long the heartbeat has been missing. -/
  | rootTakeover (ms : Nat)
  /-- ROOT_LOST (R404). -/
  | rootLost
  /-- ENTROPY_FAILURE (R403). -/
  | entropyFailure (h : Hub)
  /-- OWNER_CLAIM (R417). -/
  | ownerClaim (c : Claim)
  /-- OWNER_RELEASE (R418): an owner record. -/
  | ownerRelease (h : OwnerHead)
  /-- KEY_ADD (R416): an owner record. -/
  | keyAdd (h : OwnerHead) (keyHash : BitVec 256)
  /-- KEY_REMOVE (R416): an owner record. -/
  | keyRemove (h : OwnerHead) (keyId : W64)
  /-- KEY_PRIMARY (R416): an owner record. -/
  | keyPrimary (h : OwnerHead) (keyId : W64)
  /-- IMAGE_KEY (R416): an owner record. -/
  | imageKey (h : OwnerHead) (key : Bytes)
  /-- UPDATE_APPROVE (R416): an owner record. -/
  | updateApprove (h : OwnerHead) (component : Byte) (digest : BitVec 256)
  /-- OPERATOR_GENERATION (R420): an owner record. -/
  | operatorGeneration (h : OwnerHead) (g : W32)
  /-- REVOCATION (R413). -/
  | revocation (r : Revoke)
  /-- ATTEST_REQUEST (R421): by a session of a level. -/
  | attestRequest (session : W16) (level : Level) (nonce : BitVec 256) (kind : Byte) (c : Byte)
  /-- OFFER (R424). -/
  | offer (c : CtxId)
  /-- OFFER_EXPIRY (R424). -/
  | offerExpiry (c : CtxId)
  /-- CTX_ACCEPT (R424). -/
  | ctxAccept (c : CtxId) (a : Accept)
  /-- CTX_KEY_LOAD (R426). -/
  | ctxKeyLoad (c : CtxId) (k : KeyLoad)
  /-- CLOSE (R429). -/
  | close (c : CtxId)
  /-- CLOSE_COMPLETE (R429). -/
  | closeComplete (c : CtxId)
  /-- DEBUG_TOKEN (R436). -/
  | debugToken (t : DebugTok)
  /-- HOST_LINK_TRAIN (R444): the modules that train. -/
  | hostLinkTrain (h : Hub) (modules : BitVec 4)
  /-- HOST_LINK_ERROR (R444): whether the retrain succeeds, and with which modules. -/
  | hostLinkError (h : Hub) (modules : BitVec 4)
  /-- HOST_LINK_RETRY (R444). -/
  | hostLinkRetry (h : Hub) (modules : BitVec 4)
  /-- H_WRITE (R452): packet kind, length field, address and payload. -/
  | hWrite (h : Hub) (kind : Byte) (length : W16) (addr : W64) (data : Bytes)
  /-- H_READ (R452). -/
  | hRead (h : Hub) (kind : Byte) (tag : Byte) (length : W16) (addr : W64)
  /-- P_CPL (R456): the completion of a mover's host read. -/
  | pCpl (h : Hub) (m : Fin 8) (status : Status) (data : Bytes)
  /-- DP_CTRL (R451). -/
  | dpCtrl (h : Hub) (v : W32)
  /-- DP_STATUS (R451). -/
  | dpStatus (h : Hub) (v : W32)
  /-- DP_STATUS_READ (R453). -/
  | dpStatusRead (h : Hub) (tag : Byte)
  /-- MB_IN_LEN (R449). -/
  | mbInLen (h : Hub) (len : W32)
  /-- MB_ACK_CONSUMED (R449). -/
  | mbAckConsumed (h : Hub)
  /-- MB_ACK_CLEAR_OVERRUN (R448). -/
  | mbAckClearOverrun (h : Hub)
  /-- DB_STATUS_CLEAR (R450). -/
  | dbStatusClear (h : Hub) (v : W32)
  /-- MOVER_TAIL (R455). -/
  | moverTail (h : Hub) (m : Fin 8) (v : W32)
  /-- MOVER_RESUME (R456). -/
  | moverResume (h : Hub) (m : Fin 8)
  /-- MOVER_ABORT (R456). -/
  | moverAbort (h : Hub) (m : Fin 8)
  /-- MOVER_PIECE (R456): one piece of the descriptor in progress. -/
  | moverPiece (h : Hub) (m : Fin 8)
  /-- DESCRIPTOR_COMPLETE (R456). -/
  | descriptorComplete (h : Hub) (m : Fin 8)
  /-- HELLO (R470): a complete message, and its handshake ID: the client's nonce, and its X25519 and ML-KEM-768 keys. -/
  | hello (h : FHead) (hid : W16) (body : HelloBody)
  /-- FINISH (R471). -/
  | finish (h : FHead) (level : Byte) (proof : Proof)
  /-- HANDSHAKE_TIMEOUT (R472). -/
  | handshakeTimeout (session : W16)
  /-- FJOCO_READ (R474). -/
  | fjocoRead (h : FHead) (index : W16) (sub : Byte)
  /-- FJOCO_WRITE (R474): for a DOMAIN, the value starts with the U32 total. -/
  | fjocoWrite (h : FHead) (index : W16) (sub : Byte) (value : Bytes)
  /-- SEG_READ (R476). -/
  | segRead (h : FHead) (index : W16) (sub : Byte) (off : W32)
  /-- SEG_WRITE (R477). -/
  | segWrite (h : FHead) (index : W16) (sub : Byte) (off : W32) (data : Bytes)
  /-- SEG_ABORT (R477). -/
  | segAbort (h : FHead) (index : W16) (sub : Byte)
  /-- SEG_TIMEOUT (R477). -/
  | segTimeout (session : W16)
  /-- SESSION_CLOSE (R473). -/
  | sessionClose (h : FHead)
  /-- SESSION_IDLE (R473). -/
  | sessionIdle (session : W16)
  /-- PDO_TX (R488). -/
  | pdoTx (n : Fin 8)
  /-- PDO_RX (R488). -/
  | pdoRx (h : FHead) (n : Fin 4) (data : Bytes)
  /-- TPDO_RATE (R487): by a session. -/
  | tpdoRate (session : W16) (n : Fin 8) (rate : W16)
  /-- TPDO_MAP (R487). -/
  | tpdoMap (session : W16) (n : Fin 8) (m : List MapEntry)
  /-- RPDO_MAP (R487). -/
  | rpdoMap (session : W16) (n : Fin 4) (m : List MapEntry)
  /-- EVENT_MASK (R490). -/
  | eventMask (session : W16) (mask : W16)
  /-- FIELD_LINK_LOSS (R495): the port, and whether its link (or only the beacon) is lost. -/
  | fieldLinkLoss (port : Fin 2) (link : Bool)
  /-- FIELD_LINK_RETURN (R495). -/
  | fieldLinkReturn (port : Fin 2) (link : Bool)
  /-- NEIGHBOR_DISCOVERY (R465): a solicitation for a link-local interface identifier. -/
  | neighborDiscovery (port : Fin 2) (linkLocalSource : Bool) (iid : W64)
  /-- TILE_HEARTBEAT_MISS (R522). -/
  | tileHeartbeatMiss (d : Die) (t : PTile)
  /-- DIE_HEARTBEAT_MISS (R522). -/
  | dieHeartbeatMiss (d : Die)
  /-- DIE_PROBE_RESULT (R530). -/
  | dieProbeResult (d : Die) (failed : Bool)
  /-- SINTER_HEARTBEAT_MISS (R522). -/
  | sinterHeartbeatMiss (s : Stk)
  /-- TILE_FAILURE (R529). -/
  | tileFailure (d : Die) (t : PTile)
  /-- DIE_FAILURE (R530). -/
  | dieFailure (d : Die)
  /-- DORMANT_DIE_FAILURE (R42). -/
  | dormantDieFailure (d : Die)
  /-- MIGRATION_START (R531): of the stacks of a failed in-service cell. -/
  | migrationStart (d : Die)
  /-- MIGRATION_COPY (R531): the next bank of a migration. -/
  | migrationCopy (src : Stk)
  /-- MIGRATION_DEST_FAIL (R531). -/
  | migrationDestFail (src : Stk)
  /-- RELOCATION (R532). -/
  | relocation (src : Stk)
  /-- STACK_LOSS (R533). -/
  | stackLoss (s : Stk)
  /-- REGION_RESTORE (R527). -/
  | regionRestore (c : CtxId)
  /-- REGION_RESUME (R527): whether every scan-in record passes its checks (R187). -/
  | regionResume (c : CtxId) (recordsOk : Bool)
  /-- CAUGHT_UP (R528). -/
  | caughtUp (c : CtxId)
  /-- RECOVERY_BUDGET_EXPIRY (R534). -/
  | recoveryBudgetExpiry (c : CtxId)
  /-- MARGIN_SUMMARY (R538). -/
  | marginSummary
  /-- SHADOW_COMPARE (R541): the reference's record of a frame of a point. -/
  | shadowCompare (point : Fin 64) (frame : Nat) (norm : W32) (proj : List W32)
  /-- ALERT_ACK (R521). -/
  | alertAck (v : Bool)
  /-- FAULT_LOG_CLEAR (R520). -/
  | faultLogClear (v : Bool)
  /-- STANDBY_LOSS (R549): the three sources in millivolts. -/
  | standbyLoss (aux p0 p1 : Nat)
  /-- GRAPH_START (R496). -/
  | graphStart (c : CtxId)
  /-- DROOP_STRETCH (R349): the sag at an island of a die. -/
  | droopStretch (d : Die) (i : Fin 21) (sagMv : Nat)
  /-- SENSORS_AGREE (R382): the readings, and for how long they have agreed. -/
  | sensorsAgree (s : Spot) (a b : Int) (ms : Nat)
  /-- THERMAL_CEILING_RAISE (R384). -/
  | thermalCeilingRaise (d : Die)
  /-- FIRMWARE_WATCHDOG (R511), and what the following warm start's tests will find. -/
  | firmwareWatchdog (i : StartIn)
  /-- QUENCH_N_HIGH (R557): for how long the pin has been high. -/
  | quenchNHigh (ns : Nat)
  /-- STANDBY_POWER_RETURN (R549). -/
  | standbyPowerReturn (aux p0 p1 : Nat)
  /-- TEST_PORT_ACCESS (R561). -/
  | testPortAccess (op : TapOp)
  /-- SWITCH_ON_RETRY (R372). -/
  | switchOnRetry (dom : Domain)
  deriving DecidableEq, Repr

end Sys2Proof
end

