-- ==== Sys2Proof/Config.lean ====
section
/-! DEFINITION. The values that the manual leaves open and the functions it names without defining.
A free value is an opaque constant: nothing proves a value of it. Every entry is a row of the
assumption log. -/

namespace Sys2Proof.Config

/-- The free word number n; a step that meets an open value reads State.freeCount and advances it. (DESIGN CHOICE, log 7) -/
opaque freeWord : Nat → BitVec 64

/-- The choices of an order that the manual does not fix: draw k makes the choice n (R60, R85). -/
opaque order : Nat → Nat → Nat

/-- The free value of a lane in draw k (R85). -/
opaque laneFree : Nat → Nat → BitVec 32

/-- Word n of what the factory records and the manual does not give: the ROM's measurement (0–3), the device
certificates (from 16) (R407, R422). (DESIGN CHOICE, log 78) -/
opaque factoryWord : Nat → BitVec 64

/-- The nth draw of the hub random source (R403). -/
opaque draw : Nat → BitVec 256

/-- What a unit computes: its configured operation on input payloads, for the operations that the
manual leaves to the image (R142, R154): unit key, graph version, output port, inputs. (DESIGN CHOICE, log 42) -/
opaque unitOutput : Nat → Nat → Nat → List Bytes → Bytes

/-- What the curve engine gives for an operation and an FP32 operand, before conversion: the manual
bounds its error and gives no value (R130). -/
opaque curve : Nat → BitVec 32 → BitVec 32

/-- Whether a signature block over a message verifies under the key with a hash (R408): key hash, message,
signature block. (DESIGN CHOICE, log 77) -/
opaque verifies : BitVec 256 → List (BitVec 8) → List (BitVec 8) → Bool

/-- The key block whose SHA3-256 is a key hash (R409). -/
opaque keyBlock : BitVec 256 → List (BitVec 8)

/-- The panel storage secret that the nth cold start has drawn (R425). -/
opaque storage : Nat → BitVec 256

/-- The payload of the nth scan record: the manual names what a record holds, and gives its bytes no layout (R183). (DESIGN CHOICE, log 141) -/
opaque scanPayload : Nat → List (BitVec 8)

/-- The record of a unit in a staging area: area and unit. The manual gives its bytes no layout (R155). (DESIGN CHOICE, log 142) -/
opaque stagedRecord : List (BitVec 8) → Nat → Option UnitCfg

/-- What a start that a write of panel_cmd or fw_cmd triggers meets in its tests. (DESIGN CHOICE, log 96) -/
opaque startIn : Nat → StartIn

/-- The DRAM row of a line of a stack, within its channel: the manual does not split row from column (R243, R255). (DESIGN CHOICE, log 169) -/
opaque dramRow : Nat → Nat

/-- The revision of HUB0, and the instruction code of IDCODE at the test port (R561). -/
opaque revision : BitVec 4
opaque idcodeIr : BitVec 8

end Sys2Proof.Config
end

