-- ==== Sys2Proof/Machine/Bits.lean ====
section
/-! DEFINITION. Bits, bit fields and little-endian fields of byte strings. -/

namespace Sys2Proof.Machine

/-- A bit as a number. -/
def b2n (b : Bool) : Nat := if b then 1 else 0

/-! ### Little-endian fields (R19) -/

/-- The value of a little-endian byte string. -/
def leNat : Bytes → Nat
  | [] => 0
  | b :: bs => b.toNat + 256 * leNat bs

/-- n little-endian bytes of a value. -/
def toLe (n v : Nat) : Bytes :=
  match n with
  | 0 => []
  | k + 1 => BitVec.ofNat 8 v :: toLe k (v / 256)

/-- Bits [lo + n − 1 : lo] of a value. -/
def bits (v lo n : Nat) : Nat := v / 2 ^ lo % 2 ^ n

end Sys2Proof.Machine
end

