-- ==== Sys2Proof/Machine/Crypto.lean ====
section
/-! DEFINITION. The functions of the crypto-hash engine (R136): SHA3-256, SHA3-512 and AES-256-GCM, from
their published standards FIPS 202, FIPS 197 and SP 800-38D, which the manual names. -/

namespace Sys2Proof.Machine

/-! ### SHA3 -/

/-- Rotation left of a 64-bit lane. -/
def rotl (n : Nat) (x : W64) : W64 := (x <<< n) ||| (x >>> (64 - n))

/-- The 24 round constants. -/
def keccakRC : List W64 :=
  [0x0000000000000001, 0x0000000000008082, 0x800000000000808A, 0x8000000080008000,
   0x000000000000808B, 0x0000000080000001, 0x8000000080008081, 0x8000000000008009,
   0x000000000000008A, 0x0000000000000088, 0x0000000080008009, 0x000000008000000A]
  ++ [0x000000008000808B, 0x800000000000008B, 0x8000000000008089, 0x8000000000008003,
   0x8000000000008002, 0x8000000000000080, 0x000000000000800A, 0x800000008000000A,
   0x8000000080008081, 0x8000000000008080, 0x0000000080000001, 0x8000000080008008]

/-- Rotation offsets by x + 5y. -/
def keccakRot : List Nat :=
  [0, 1, 62, 28, 27, 36, 44, 6, 55, 20, 3, 10, 43, 25, 39, 41, 45, 15, 21, 8, 18, 2, 61, 56, 14]

/-- One round on 25 lanes, lane x + 5y. -/
def keccakRound (rc : W64) (a : List W64) : List W64 :=
  let at' (l : List W64) (x y : Nat) : W64 := l.getD (x % 5 + 5 * (y % 5)) 0
  let c := (List.range 5).map (fun x =>
    at' a x 0 ^^^ at' a x 1 ^^^ at' a x 2 ^^^ at' a x 3 ^^^ at' a x 4)
  let d := (List.range 5).map (fun x => c.getD ((x + 4) % 5) 0 ^^^ rotl 1 (c.getD ((x + 1) % 5) 0))
  let t := (List.range 25).map (fun i => a.getD i 0 ^^^ d.getD (i % 5) 0)
  let b := (List.range 25).map (fun i =>
    let x := i % 5
    let y := i / 5
    let j := (x + 3 * y) % 5 + 5 * x
    rotl (keccakRot.getD j 0) (t.getD j 0))
  let r := (List.range 25).map (fun i =>
    at' b (i % 5) (i / 5) ^^^ (~~~(at' b (i % 5 + 1) (i / 5)) &&& at' b (i % 5 + 2) (i / 5)))
  match r with
  | h :: t => (h ^^^ rc) :: t
  | [] => []

/-- Keccak-f[1600]. -/
def keccakF (a : List W64) : List W64 := keccakRC.foldl (fun a rc => keccakRound rc a) a

/-- A block is absorbed. -/
def keccakAbsorb (a : List W64) (block : Bytes) : List W64 :=
  keccakF ((List.range 25).map (fun i =>
    a.getD i 0 ^^^ BitVec.ofNat 64 (leNat ((block.drop (8 * i)).take 8))))

/-- Blocks of a rate are absorbed; the last is padded after a domain suffix. -/
def keccakAll (suffix : Byte) (rate : Nat) : Nat → List W64 → Bytes → List W64
  | 0, a, _ => a
  | n + 1, a, d =>
    if d.length < rate then
      let z := rate - d.length
      let pad : Bytes := if z = 1 then [suffix ||| 0x80] else suffix :: (List.replicate (z - 2) 0 ++ [0x80])
      keccakAbsorb a (d ++ pad)
    else keccakAll suffix rate n (keccakAbsorb a (d.take rate)) (d.drop rate)

/-- SHA3 with a digest of n bytes. -/
def sha3 (n : Nat) (d : Bytes) : Bytes :=
  let rate := 200 - 2 * n
  ((keccakAll 0x06 rate (d.length / rate + 1) (List.replicate 25 0) d).flatMap
    (fun w => toLe 8 w.toNat)).take n

/-- The big-endian bytes of a length, without leading zeros but at least one. -/
def lenBytes (n : Nat) : Bytes :=
  if n < 256 then [BitVec.ofNat 8 n]
  else if n < 65536 then [BitVec.ofNat 8 (n / 256), BitVec.ofNat 8 n]
  else [BitVec.ofNat 8 (n / 65536), BitVec.ofNat 8 (n / 256), BitVec.ofNat 8 n]

/-- left_encode, encode_string and bytepad of SP 800-185. -/
def leftEncode (n : Nat) : Bytes := BitVec.ofNat 8 (lenBytes n).length :: lenBytes n
def encodeString (d : Bytes) : Bytes := leftEncode (8 * d.length) ++ d
def bytepad (w : Nat) (d : Bytes) : Bytes :=
  let b := leftEncode w ++ d
  b ++ List.replicate ((w - b.length % w) % w) 0

/-- KMAC256 with an output of at most 136 bytes (R405). -/
def kmac256 (key input : Bytes) (n : Nat) (custom : Bytes) : Bytes :=
  let d := bytepad 136 (encodeString [0x4B, 0x4D, 0x41, 0x43] ++ encodeString custom)
    ++ bytepad 136 (encodeString key) ++ input ++ lenBytes (8 * n) ++ [BitVec.ofNat 8 (lenBytes (8 * n)).length]
  ((keccakAll 0x04 136 (d.length / 136 + 1) (List.replicate 25 0) d).flatMap (fun w => toLe 8 w.toNat)).take n

/-! ### AES-256 -/

/-- Doubling in GF(2^8). -/
def xtime (a : Nat) : Nat := if 128 ≤ a then Nat.xor (a * 2 % 256) 0x1B else a * 2

/-- Product in GF(2^8), n bits of the second factor. -/
def gmulBits : Nat → Nat → Nat → Nat
  | 0, _, _ => 0
  | n + 1, a, b => Nat.xor (if b % 2 = 1 then a else 0) (gmulBits n (xtime a) (b / 2))

/-- Product in GF(2^8). -/
def gmul (a b : Nat) : Nat := gmulBits 8 a b

/-- The inverse in GF(2^8), a^254; 0 gives 0. -/
def ginv (a : Nat) : Nat :=
  let a2 := gmul a a
  let a4 := gmul a2 a2
  let a8 := gmul a4 a4
  let a16 := gmul a8 a8
  let a32 := gmul a16 a16
  let a64 := gmul a32 a32
  let a128 := gmul a64 a64
  gmul a2 (gmul a4 (gmul a8 (gmul a16 (gmul a32 (gmul a64 a128)))))

/-- The S-box. -/
def sbox (a : Nat) : Nat :=
  let b := ginv a
  let r (n : Nat) : Nat := (b * 2 ^ n) % 256 + b / 2 ^ (8 - n)
  Nat.xor (Nat.xor (Nat.xor (Nat.xor (Nat.xor b (r 1)) (r 2)) (r 3)) (r 4)) 0x63

/-- Exclusive or of two byte lists. -/
def xorList (a b : List Nat) : List Nat := List.zipWith Nat.xor a b

/-- Key expansion: n more 4-byte words; the words so far, newest first. -/
def aesExpand : Nat → Nat → List (List Nat) → List (List Nat)
  | 0, _, w => w
  | n + 1, i, w =>
    let prev := w.getD 0 []
    let t :=
      if i % 8 = 0 then
        let s := (prev.drop 1 ++ prev.take 1).map sbox
        xorList s [(List.range (i / 8 - 1)).foldl (fun c _ => xtime c) 1, 0, 0, 0]
      else if i % 8 = 4 then prev.map sbox
      else prev
    aesExpand n (i + 1) (xorList (w.getD 7 []) t :: w)

/-- The 15 round keys of a 32-byte key. -/
def aesKeys (key : List Nat) : List (List Nat) :=
  let w0 := (List.range 8).map (fun i => (key.drop (4 * i)).take 4)
  let w := (aesExpand 52 8 w0.reverse).reverse
  (List.range 15).map (fun r => ((List.range 4).map (fun i => w.getD (4 * r + i) [])).flatten)

/-- ShiftRows on a column-major block. -/
def shiftRows (s : List Nat) : List Nat :=
  (List.range 16).map (fun i => s.getD ((i + 4 * (i % 4)) % 16) 0)

/-- MixColumns. -/
def mixColumns (s : List Nat) : List Nat :=
  (List.range 16).map (fun i =>
    let c := i / 4 * 4
    let x (n : Nat) : Nat := s.getD (c + (i % 4 + n) % 4) 0
    Nat.xor (Nat.xor (gmul (x 0) 2) (gmul (x 1) 3)) (Nat.xor (x 2) (x 3)))

/-- AES-256 of one block under its round keys. (PRESUMED, log 119) -/
def aesBlock (keys : List (List Nat)) (b : List Nat) : List Nat :=
  let s := xorList b (keys.getD 0 [])
  let s := (List.range 13).foldl (fun s r =>
    xorList (mixColumns (shiftRows (s.map sbox))) (keys.getD (r + 1) [])) s
  xorList (shiftRows (s.map sbox)) (keys.getD 14 [])

/-! ### GCM -/

/-- A big-endian number of a byte list. -/
def beNat (l : List Nat) : Nat := l.foldl (fun n b => n * 256 + b) 0

/-- n big-endian bytes. -/
def beList (n v : Nat) : List Nat := ((List.range n).map (fun i => v / 256 ^ i % 256)).reverse

/-- n steps of the GHASH product: z, v, and the bits of x from the top. -/
def ghashMul : Nat → Nat → Nat → Nat → Nat
  | 0, z, _, _ => z
  | n + 1, z, v, x =>
    ghashMul n (if x.testBit n then Nat.xor z v else z)
      (if v % 2 = 1 then Nat.xor (v / 2) (0xE1 * 2 ^ 120) else v / 2) x

/-- GHASH of whole 16-byte blocks. -/
def ghashFrom (h y : Nat) (blocks : List (List Nat)) : Nat :=
  blocks.foldl (fun y b => ghashMul 128 0 h (Nat.xor y (beNat b))) y

/-- GHASH from the start. -/
def ghash (h : Nat) (blocks : List (List Nat)) : Nat := ghashFrom h 0 blocks

/-- A byte list in 16-byte blocks, the last filled with zeros. -/
def blocks16 (d : List Nat) : List (List Nat) :=
  (List.range ((d.length + 15) / 16)).map (fun i =>
    let b := (d.drop (16 * i)).take 16
    b ++ List.replicate (16 - b.length) 0)

/-- The key stream over data, from a counter on. -/
def gcmCtrFrom (keys : List (List Nat)) (iv : List Nat) (n : Nat) (d : List Nat) : List Nat :=
  ((List.range ((d.length + 15) / 16)).map (fun i =>
    xorList ((d.drop (16 * i)).take 16) (aesBlock keys (iv ++ beList 4 (i + n))))).flatten

/-- The key stream over data, counters from 2 on. -/
def gcmCtr (keys : List (List Nat)) (iv d : List Nat) : List Nat := gcmCtrFrom keys iv 2 d

/-- The tag from GHASH y over a bytes of associated data and n of ciphertext. -/
def gcmTagOf (keys : List (List Nat)) (iv : List Nat) (h y a n : Nat) : List Nat :=
  xorList (beList 16 (ghashFrom h y [beList 8 (8 * a) ++ beList 8 (8 * n)])) (aesBlock keys (iv ++ [0, 0, 0, 1]))

/-- The tag over associated data and ciphertext. -/
def gcmTag (keys : List (List Nat)) (iv aad c : List Nat) : List Nat :=
  let h := beNat (aesBlock keys (List.replicate 16 0))
  gcmTagOf keys iv h (ghash h (blocks16 aad ++ blocks16 c)) aad.length c.length

/-- Bytes as numbers and back. -/
def natsOf (d : Bytes) : List Nat := d.map (·.toNat)
def bytesOf (l : List Nat) : Bytes := l.map (BitVec.ofNat 8)

/-- A 256-bit key as its 32 bytes, the most significant first. -/
def keyBytes (k : BitVec 256) : List Nat := beList 32 k.toNat

/-- AES-256-GCM encryption: ciphertext and tag. -/
def gcmSeal (key : BitVec 256) (iv aad d : Bytes) : Bytes × Bytes :=
  let ks := aesKeys (keyBytes key)
  let c := gcmCtr ks (natsOf iv) (natsOf d)
  (bytesOf c, bytesOf (gcmTag ks (natsOf iv) (natsOf aad) c))

/-- AES-256-GCM decryption; none where the tag does not match. -/
def gcmOpen (key : BitVec 256) (iv aad c tag : Bytes) : Option Bytes :=
  let ks := aesKeys (keyBytes key)
  if bytesOf (gcmTag ks (natsOf iv) (natsOf aad) (natsOf c)) = tag then
    some (bytesOf (gcmCtr ks (natsOf iv) (natsOf c)))
  else none

end Sys2Proof.Machine
end

