-- ==== Sys2Proof/Machine/State.lean ====
section
/-! DEFINITION. The state of the panel as plain data, and the state at reset. One group of fields for
each chapter of the manual; everything that exists many times is a sparse table (Tbl) keyed by the
linear index of R7, an absent entry reading as the default that the operation on it names. -/

namespace Sys2Proof.Machine

/-! ### Outcomes -/

/-- Why the machine stops with a fault. (DESIGN CHOICE, log 117) -/
inductive Fault where
  /-- The test port shifted a data register that the manual names but does not define (R561).
  Raised by TEST_PORT_ACCESS only; safe: the model stops where the hardware goes on. -/
  | testRegister
  deriving DecidableEq, Repr

/-- Why the model gives no meaning. -/
inductive Refusal where
  /-- The command has no meaning yet; raised by the arms of exec that name it. Safe. -/
  | notModelled (mnemonic : String)
  deriving DecidableEq, Repr

/-! ### What a command answers and what the panel sends -/

/-- What the last command answered its sender. -/
inductive Answer where
  /-- the command had its effect and the spec gives it no answer -/
  | done
  /-- its trigger or condition does not hold: nothing happened -/
  | turnedAway
  /-- a completion status (R282) -/
  | status (st : Status)
  /-- a completion with data -/
  | data (st : Status) (d : Bytes)
  /-- a sync reply: status and the 64-bit value (R297) -/
  | word (st : Status) (w : W64)
  /-- a Fjoco response (R474) -/
  | fjoco (st : FStatus) (d : Bytes)
  deriving DecidableEq, Repr

/-! ### Fault log (R516–R521) -/

/-- A fault-log entry (R517). `logged` is the moment of logging, which R519 compares. -/
structure LogEntry where
  fault : Bool
  code : W16
  ctx : Byte
  held : Bool := false
  phys : Bool := false
  holdup : Bool := false
  loc : W64
  time : Nat
  detail : BitVec 80 := 0
  repeats : Nat := 0
  logged : Nat
  deriving DecidableEq, Repr

/-- The log: the main ring newest first, the persistent ring newest first with start counts, the
entries that the hold-up store keeps for the next start, and the latched third condition of
ALERT_N (R520, R521). -/
structure Log where
  main : List LogEntry := []
  count : Nat := 0
  lost : Nat := 0
  persistent : List (W32 × LogEntry) := []
  holdup : List LogEntry := []
  alert : Bool := false
  deriving DecidableEq, Repr

/-! ### Panel state (R16, chapter 16) -/

/-- The states of R16, in table order. -/
inductive PState where
  | off | boot | selftest | idle | run | quenched | safe | updating
  deriving DecidableEq, Repr

/-! ### Panel anatomy (chapter 01) -/

/-- Identity, defects and remap tables. (DESIGN CHOICE, log 11) -/
structure Anat where
  serial : BitVec 48 := 1
  /-- true: QP12-LC-HX, consigned host dies (R1) -/
  consigned : Bool := false
  /-- the ports' MAC addresses (R465) -/
  macA : BitVec 48 := 0
  macB : BitVec 48 := 0
  /-- identity words that differ from the word a die's position asks for: key kind × 2^12 + position -/
  identity : Tbl W64 := []
  fencedDies : List Nat := []
  fencedStacks : List Nat := []
  fencedHubs : List Nat := []
  fencedVents : List Nat := []
  factory : List W32 := []
  field : List W32 := []
  /-- defects applied but not stored, the table being full (R39) -/
  unstored : List W32 := []
  clearScheduled : Bool := false
  /-- die map word of a row (R47); absent: every entry unserved and no dormant column -/
  dieMap : Tbl W64 := []
  /-- tile map word of a die (R47); absent: columns 0 to 3 in every row -/
  tileMap : Tbl W64 := []
  remapGen : Nat := 0
  /-- stacks failed in service (R255, R533), beside those with a stack record -/
  failedStacks : List Nat := []
  /-- dies failed in service whose two stacks are still the home stacks of the logical die (R43) -/
  orphans : List (Nat × LDie) := []
  /-- dies whose attachment is out of service (R33) -/
  detached : List Nat := []
  deriving DecidableEq, Repr

/-! ### Tiles (chapter 03) -/

/-- States of a weight-stream buffer half (R77). -/
inductive HalfSt where
  | empty | filling | ready | inUse
  deriving DecidableEq, Repr

/-- A half of a weight-stream buffer (R77–R80): its state, the declared bytes, the bytes that have
arrived with their offsets, its unsettled tag and the reads made of it. -/
structure Half where
  st : HalfSt := .empty
  size : Nat := 0
  arrived : Nat := 0
  data : Tbl Byte := []
  unsettled : Bool := false
  /-- filled for the settle pass (R199) -/
  settle : Bool := false
  uses : Nat := 0
  /-- the fill's source, and of a strata fill the stored planes and lines of a row, the planes it takes, and the output
  of each column (R190–R192) -/
  src : Option FillSrc := none
  stored : Nat := 0
  rowLines : Nat := 0
  planes : List Nat := []
  cols : List Nat := []
  /-- of a tagged tensor: its pattern, the tags of its pages in order, each with four times its data bytes, or of its
  lines by line index, and the address of the first page, or its scratchpad offset (R224–R236) -/
  pat : Nat := 0
  tags : List Nat := []
  lineTags : Tbl Nat := []
  base : Nat := 0
  inSpad : Bool := false
  deriving DecidableEq, Repr

/-- A staging entry: a 64-element segment, its two block scales and block L1 norms (R83, R201). -/
structure StageEntry where
  data : Bytes := []
  scales : Byte × Byte := (0, 0)
  l1a : W32 := 0
  l1b : W32 := 0
  deriving DecidableEq, Repr

/-- One multiply-accumulate array with its buffers (R75–R84). -/
structure Arr where
  a : Half := {}
  b : Half := {}
  /-- the next half to fill, and the next to take: false A, true B (R78) -/
  fillB : Bool := false
  takeB : Bool := false
  shadow : Bytes := []
  shadowScales : Bytes := []
  active : Bytes := []
  activeScales : Bytes := []
  shadowSettle : Bool := false
  activeSettle : Bool := false
  activeUnsettled : Bool := false
  shadowUnsettled : Bool := false
  /-- the outputs of the columns of a strata load (R190, R200) -/
  shadowCols : List Nat := []
  activeCols : List Nat := []
  /-- the N:M patterns of the weights; 0: dense (R232) -/
  shadowPat : Nat := 0
  activePat : Nat := 0
  /-- staging entries that the active weights have served -/
  served : List Nat := []
  acc : Tbl W32 := []
  /-- accumulator entries that carry the unsettled tag (R212) -/
  accUnsettled : List Nat := []
  /-- rounds over unsettled weights: the outputs of their columns, and their cycles (R220) -/
  specRounds : List (List Nat × Nat) := []
  /-- partial envelopes E of R202, and certified (output, vector) entries -/
  env : Tbl W32 := []
  certified : List Nat := []
  staging : Tbl StageEntry := []
  /-- sparse dispatcher queue of each column: position and weight code (R84, R233) -/
  disp : Tbl (List (Nat × W16)) := []
  deriving DecidableEq, Repr

/-- A live entry of a credit table (R92–R95). `frozen` is the time a closed bank has taken (R94). -/
structure Credit where
  ctx : CtxId
  node : BitVec 12
  window : Nat
  units : Nat
  charged : Nat
  granted : Nat
  frozen : Nat
  /-- sequence numbers of packets already charged (R93) -/
  seen : List (BitVec 12 × W32)
  deriving DecidableEq, Repr

/-- A line of the cache partition (R97). -/
structure CLine where
  tag : Nat := 0
  valid : Bool := false
  dirty : Bool := false
  data : Bytes := []
  deriving DecidableEq, Repr

/-- States of a bank that firmware closes (R105–R107). -/
inductive BankSt where
  | open | closing (m : CloseMode) | closed (m : CloseMode) | opening (m : CloseMode)
  deriving DecidableEq, Repr

/-- A physical tile. (DESIGN CHOICE, log 14) -/
structure TileS where
  arr0 : Arr := {}
  arr1 : Arr := {}
  /-- lane-unit registers: register × 64 + lane (R85) -/
  lanes : Tbl W32 := []
  mask : W64 := 0
  /-- stochastic-rounding generator (R68) -/
  sr : W32 := 0
  bankPtr : Tbl Nat := []
  /-- times of corrected errors by bank × 1,024 + row (R88) -/
  corrected : Tbl (List Nat) := []
  /-- word addresses with a correctable and with an uncorrectable error (R88) -/
  weak : List Nat := []
  bad : List Nat := []
  /-- rows, as bank × 1,024 + row, that one of their bank's 16 spare rows serves (R75, R88) -/
  spares : List Nat := []
  /-- slots that hold unsettled data (R212) -/
  unsettled : List Nat := []
  credits : Tbl (Option Credit) := []
  /-- IDs revoked without a fault (R95) -/
  revoked : List Nat := []
  cacheSteps : Nat := 0
  /-- cache lines by set × 4 + way, and the pseudo-LRU bits of a set -/
  cache : Tbl CLine := []
  plru : Tbl (BitVec 3) := []
  /-- RESIDENT regions: offset and length -/
  resident : List (Nat × Nat) := []
  /-- 4 KiB rows whose dirty bit is set, for area 0 and area 1 (R102) -/
  dirty0 : List Nat := []
  dirty1 : List Nat := []
  banks : Tbl BankSt := []
  /-- requests that wait at a bank's arbiter, and those that RETRY holds until the bank reopens (R89, R106) -/
  bankWait : Tbl (List MemReq) := []
  bankHeld : Tbl (List MemReq) := []
  /-- sources that received BANK_CLOSED, by bank (R105) -/
  notify : Tbl (List (BitVec 12)) := []
  /-- since when some bank is closed: credit timers stand still (R94) -/
  shutAt : Option Nat := none
  deriving DecidableEq, Repr

/-- Answers to a credit request (R92). -/
inductive CreditAns where
  | grant (id : Fin 64) | denyFull | denyRange
  deriving DecidableEq, Repr

/-- A credit request of a source node (R92). -/
structure CreditReq where
  node : BitVec 12
  ctx : CtxId
  die : LDie
  tile : LTile
  window : Nat
  units : Nat
  deriving DecidableEq, Repr

/-- Tiles, keyed by physical die × 20 + physical tile; the replies that wait in front of a source
die, and its requests that were denied, with the time of the denial. -/
structure Tiles where
  tile : Tbl TileS := []
  replies : Tbl (List (CreditReq × CreditAns)) := []
  denied : Tbl (List (CreditReq × Nat)) := []
  deriving DecidableEq, Repr

/-! ### Commons and engines (chapter 04) -/

/-- Completion statuses of a descriptor (R124). -/
inductive DStatus where
  | ok | refused | error | discarded | aborted | mismatch
  deriving DecidableEq, Repr

/-- A descriptor that an engine holds (R118, R123). `result` and `st` are set when it finishes. -/
structure Desc where
  slot : Nat
  words : List W64
  started : Nat
  fin : Option (DStatus × W16 × W64)
  /-- watchdog time that does not count (R125) -/
  excused : Nat := 0
  /-- since when it has waited for what does not count (R125) -/
  waitSince : Option Nat := none
  /-- its progress: chunks completed, units of its operation done, and what the operation carries on, such as a hash
  state or the positions of a merge (R127, R138) -/
  chunks : Nat := 0
  units : Nat := 0
  keep : List Nat := []
  /-- unsettled work: its hint has been consumed, and the fault it holds with its time (R134, R217) -/
  confirmed : Bool := false
  held : Option (W16 × W64 × Nat) := none
  deriving DecidableEq, Repr

/-- A descriptor ring (R121, R122). (DESIGN CHOICE, log 15) -/
structure Ring where
  base : W64 := 0
  log2 : Byte := 0
  ctx : Option CtxId := none
  prio : Byte := 0
  tail : W32 := 0
  head : W32 := 0
  done : W32 := 0
  halted : Bool := false
  waitEpoch : Bool := false
  waitFence : Bool := false
  fault : W16 := 0
  /-- fetched descriptors that have not retired, in ring order -/
  descs : List Desc := []
  deriving DecidableEq, Repr

/-- An engine: its dataflow placement (R126), SR generators by context, rings are in Eng.rings. -/
structure EngineS where
  placed : Option CtxId := none
  sr : Tbl W32 := []
  /-- the ring that round robin prefers next (R123) -/
  next : Nat := 0
  /-- when the newest chunk ends (R127) -/
  busyTo : Nat := 0
  /-- top-K decisions by vector: candidates certified in and undecided (R206) -/
  certs : Tbl (List Nat × List Nat) := []
  /-- candidates of the fetch group whose certification is disabled (R203) -/
  disabled : List Nat := []
  deriving DecidableEq, Repr

/-- The commons of one physical die. -/
structure CommonsS where
  /-- segment owners (R114); absent: none -/
  seg : Tbl (Option (CtxId × Bool)) := []
  weak : List Nat := []
  bad : List Nat := []
  /-- bad words whose error has been counted, and rows with a counted error (R113) -/
  counted : List Nat := []
  errRows : List Nat := []
  corrected : Tbl (List Nat) := []
  unsettled : List Nat := []
  dirty0 : List Nat := []
  dirty1 : List Nat := []
  ptr : Tbl Nat := []
  banks : Tbl BankSt := []
  /-- requests that wait at a bank's arbiter, and those that RETRY holds until the bank reopens (R112, R117) -/
  bankWait : Tbl (List MemReq) := []
  bankHeld : Tbl (List MemReq) := []
  notify : Tbl (List (BitVec 12)) := []
  deriving DecidableEq, Repr

/-- Commons by physical die; engines by logical die × 8 + n; rings by engine × 8 + q. -/
structure Eng where
  commons : Tbl CommonsS := []
  engine : Tbl EngineS := []
  ring : Tbl Ring := []
  deriving DecidableEq, Repr

/-! ### Dataflow (chapters 05 and 06) -/

/-- Codes of switch_state (R160). -/
inductive SwitchSt where
  | none | steady | arming | draining | flushing | halted | suspended
  deriving DecidableEq, Repr

/-- Kinds of switch. -/
inductive SwKind where
  | drain | flush | rollback
  deriving DecidableEq, Repr

/-- A held fault of unsettled work (R217): code, location, detection time, further occurrences. -/
structure HeldFault where
  code : W16
  loc : W64
  time : Nat
  extra : Nat
  deriving DecidableEq, Repr

/-- A configuration slot: version and record (R154). -/
structure Slot where
  version : W32 := 0
  cfg : Option UnitCfg := none
  /-- LIVE values in force: join watchdog limit in µs, prefetch limit in percent (R158) -/
  join : W32 := 1000
  prefetch : Nat := 25
  deriving DecidableEq, Repr

/-- A dataflow unit (R142, R154), keyed by logical die × 128 + unit. -/
structure UnitS where
  ctx : Option CtxId := none
  active : Slot := {}
  previous : Slot := {}
  load : Slot := {}
  regs : Tbl W64 := []
  epoch : BitVec 4 := 0
  /-- the last switch was by FLUSH or ROLLBACK; event 0x6004 raised since (R153) -/
  lastFlush : Bool := false
  raised6004 : Bool := false
  /-- switched in the switch that is running -/
  switched : Bool := false
  /-- input ports on which EPOCH_END(E) has been consumed -/
  ended : List Nat := []
  /-- stopped at a token boundary: HALT, PAUSE -/
  stopped : Bool := false
  /-- when it was stopped or paused (R173) -/
  pausedAt : Option Nat := none
  /-- LIVE writes that wait: join watchdog limit, prefetch limit (R158) -/
  joinPending : Option W32 := none
  prefetchPending : Option Nat := none
  /-- when the present join wait began, and what waits before it since the last firing came to (R171) -/
  joinSince : Option Nat := none
  joinCount : Nat := 0
  /-- bytes or elements done by a SOURCE or SINK, tokens of the current frame -/
  pos : Nat := 0
  frame : Nat := 0
  /-- the 4 KiB page buffer of a reader or writer of pages (R228, R235) -/
  page : Bytes := []
  pageTag : BitVec 2 := 0
  /-- frames seen by a checksum point, its squared norm and projections so far, its generator (R540) -/
  sumFrame : Nat := 0
  sumNorm : W32 := 0
  sumProj : List W32 := []
  sumGen : W32 := 0
  /-- decided outputs of the fetch group: settling indices per vector, hinted indices (R204, R208) -/
  settleList : List W16 := []
  /-- bytes that settle fetches of the group have declared -/
  settleDone : Nat := 0
  ended2 : Bool := false
  hinted : List W16 := []
  /-- the number of the fetch group that the unit's settle lists are for (R208) -/
  groupNo : Nat := 0
  /-- codes of bad entries logged in this frame (R231) -/
  sparseLogged : List W16 := []
  /-- frame and number of the fetch group that the port's lists belong to -/
  group : Nat × Nat := (0, 0)
  prefetched : Nat := 0
  passOne : Nat := 0
  /-- held faults (R217) -/
  held : List HeldFault := []
  /-- EGRESS: tokens acknowledged, count at the checkpoint, tokens still to discard (R526) -/
  lqCredits : Nat := 0
  acked : Nat := 0
  ackedAtCkpt : Nat := 0
  suppress : Nat := 0
  deriving DecidableEq, Repr

/-- A queue (R145), keyed by logical die × 512 + queue ID: storage and window together in arrival
order, and the credits that its producer holds. -/
structure QueueS where
  decl : Option QueueDecl := none
  /-- slots in force: storage, and the window while the posture lets it spill -/
  slots : Nat := 0
  tokens : List Token := []
  /-- the storage slots of the oldest tokens, and the spill window's slots of the tokens behind them (R170) -/
  stored : List Nat := []
  window : List Nat := []
  /-- 64-bit words of the storage in error: correctable, uncorrectable (R149) -/
  weak : List Nat := []
  bad : List Nat := []
  credits : Nat := 0
  /-- credits that are to return before the producer holds one: a declaration with fewer slots is in force -/
  debt : Nat := 0
  deriving DecidableEq, Repr

/-- A logging port's input log (R525). -/
structure InLog where
  size : Nat := 0
  records : List Token := []
  /-- records written since the context's start that have been dropped from the front, and their bytes -/
  dropped : Nat := 0
  start : Nat := 0
  /-- delivered position, and positions at the two newest checkpoints -/
  pos : Nat := 0
  ckptA : Nat := 0
  ckptB : Nat := 0
  fullEvent : Option Nat := none
  /-- tokens that have arrived from a panel and wait for room; their credits are withheld -/
  waiting : List (BitVec 14 × Token) := []
  deriving DecidableEq, Repr

/-- Codes of group_state (R339). -/
inductive GroupSt where
  | unbound | idle | running | halted
  deriving DecidableEq, Repr

/-- A grant or a RING_DONE that a participant holds (R331): slot, run, step, and the half's address or the
wire bytes. -/
structure RingNote where
  slot : Nat
  run : Nat
  step : Nat
  word : Nat
  deriving DecidableEq, Repr

/-- A reduction group at a participant (R328–R335): the run counter of each slot, the firings that wait with
their slot and run, the run in progress and its step, the ring slots that the controller wrote and the next step to write,
and where the step in front stands: whether its data has been sent, whether it waited for its grant, and
whether a RING_DATA failed. -/
structure GroupRun where
  ctx : CtxId
  decl : GroupDecl
  st : GroupSt := .idle
  runs : Tbl Nat := []
  queued : List (Nat × Nat) := []
  slot : Nat := 0
  run : Nat := 0
  step : Nat := 0
  own : List Nat := []
  next : Nat := 0
  sentData : Bool := false
  waited : Bool := false
  lostData : Bool := false
  grants : List RingNote := []
  dones : List RingNote := []
  stepAt : Nat := 0
  deriving DecidableEq, Repr

/-- A sync cell (R295). -/
structure Cell where
  word : W64 := 0
  link : W64 := 0
  waiters : List (SyncReq × W64) := []
  deriving DecidableEq, Repr

/-- A scan image: checkpoint or SUSPEND (R182–R184). -/
structure Scan where
  /-- the checkpoint area; none for a SUSPEND -/
  area : Option (Fin 2) := none
  generation : Nat
  flow : SwitchSt × W32 × W32 × BitVec 4
  units : Tbl UnitS
  queues : Tbl QueueS
  tiles : Tbl TileS
  /-- rows and blocks captured: cell lists of scratchpad and commons by logical name -/
  spad : List (Nat × Byte)
  commons : List (Nat × Byte)
  rings : Tbl Ring
  cells : Tbl Cell
  engines : Tbl W32
  /-- top-K decisions of the engines that the context has placed (R138, R206) -/
  certs : Tbl (Tbl (List Nat × List Nat)) := []
  disabled : Tbl (List Nat) := []
  groups : Tbl (Option GroupRun)
  /-- rows and blocks that were copied: tile record and row, die and block (R102, R115) -/
  rows : List (Nat × Nat) := []
  blocks : List (Nat × Nat) := []
  /-- headers of the records written, by die, oldest first; a write failed (R183, R524) -/
  headers : List (LDie × Bytes) := []
  torn : Bool := false
  deriving DecidableEq, Repr

/-- A restore in progress (R527, R534). -/
structure Restore where
  kind : Nat
  detected : Nat
  generation : Nat
  die : Nat
  tile : Nat
  resumed : Bool
  remapUs : Nat
  resumedUs : Nat
  /-- scan-in is complete; the budget has passed; records that each log held at detection (R527, R528, R534) -/
  scanned : Bool := false
  late : Bool := false
  goals : List (Nat × Nat) := []
  deriving DecidableEq, Repr

/-- Shard states (R260). -/
inductive ShardSt where
  | absent | filling | verifying | valid | quarantined | failed
  deriving DecidableEq, Repr

/-- A shard of a context: its state, and its fill (R262): whether an attempt is to start, the source word
it uses, the bytes that have arrived, and the fill tag of a PEER attempt (R324). -/
structure ShardS where
  st : ShardSt := .absent
  want : Bool := false
  source : Nat := 0
  since : Nat := 0
  got : Nat := 0
  tag : Option Nat := none
  lastPatrol : Nat := 0
  deriving DecidableEq, Repr

/-- An entry of a fill plan (R262), as its 32 bytes. -/
abbrev PlanEntry := Bytes

/-- Codes of ctx_key_state (R427). -/
inductive KeySt where
  | closed | offered | opened | closing
  deriving DecidableEq, Repr

/-- A context. -/
structure CtxS where
  sw : SwitchSt := .none
  active : W32 := 0
  previous : W32 := 0
  staged : W32 := 0
  high : W32 := 0
  epoch : BitVec 4 := 0
  lastSwitch : Nat := 0
  kind : Option SwKind := none
  armedFrom : SwitchSt := .none
  target : W32 := 0
  switchStart : Nat := 0
  paused : Bool := false
  image : Option Image := none
  /-- speculation, reduction and spill postures in force (R195, R332, R169) -/
  specPosture : Byte := 1
  redPosture : Byte := 0
  spillPosture : Byte := 0
  started : Nat := 0
  /-- keys (chapter 13) -/
  key : KeySt := .closed
  offerNonce : Option (BitVec 256) := none
  offerAt : Nat := 0
  /-- the first of the free words that the offer is made of -/
  offerFree : Nat := 0
  cms : Option (BitVec 256) := none
  debugOk : Bool := false
  slots : Tbl (Option (BitVec 256 × W32)) := []
  stackKeys : List Nat := []
  /-- shards (chapter 08) -/
  manifest : Option Manifest := none
  shards : Tbl ShardS := []
  plan : List PlanEntry := []
  /-- requests that wait for a shard (R261): shard, since when, and the packet at its stack's node -/
  held : List (Nat × Nat × Option (BitVec 12 × Pkt)) := []
  /-- sync operations of other panels on cells of the region, as operation, request and operand, how many have
  been dropped from the front, and the count at the two newest checkpoints (R525) -/
  syncLog : List (Nat × SyncReq × W64) := []
  syncDropped : Nat := 0
  syncA : Nat := 0
  syncB : Nat := 0
  /-- checkpoints and restore (chapter 17) -/
  lastCkpt : Nat := 0
  ckptDue : Option Nat := none
  /-- the checkpoint in progress: its area and its start, and the image it captured -/
  ckptRun : Option (Fin 2 × Nat × Scan) := none
  area0 : Option Scan := none
  area1 : Option Scan := none
  ckptGen : Nat := 0
  ckptTime : Nat := 0
  /-- scans of the context so far (R183) -/
  scanGen : Nat := 0
  suspendImg : Option Scan := none
  restore : Option Restore := none
  relocations : List (Nat × Nat) := []
  deriving DecidableEq, Repr

/-- Contexts by number, units, queues and input logs (unit key). -/
structure Flow where
  ctx : Tbl CtxS := []
  unit : Tbl UnitS := []
  queue : Tbl QueueS := []
  inlog : Tbl InLog := []
  deriving DecidableEq, Repr

/-! ### Memory stacks (chapter 08) -/

/-- A merge entry of a stack channel (R256). -/
structure MergeEntry where
  line : Nat
  ctx : CtxId
  opened : Nat
  requesters : Nat
  deriving DecidableEq, Repr

/-- A stack. Line numbers count 128-byte lines of the stack. -/
structure StackS where
  /-- owners of banks: absent reads 0xFF, bank 63 0xFE (R248) -/
  owner : Tbl Byte := []
  written : List Nat := []
  poisoned : List Nat := []
  /-- lines whose ciphertext and tag are not those of the panel's last write: what they hold (R251, R254) -/
  raw : Tbl (Option (Bytes × Bytes)) := []
  uncorrectable : List Nat := []
  corrected : List Nat := []
  /-- lines that turned uncorrectable, with their times, of the last hour (R255) -/
  badTimes : List (Nat × Nat) := []
  /-- lines counted so, which count again only after a whole-line write replaced them (R255) -/
  reported : List Nat := []
  /-- rows that DRAM spare rows serve, by channel (R255) -/
  spares : Tbl (List Nat) := []
  banks : Tbl BankSt := []
  notify : Tbl (List (BitVec 12)) := []
  zeroising : List Nat := []
  merges : List MergeEntry := []
  misses : Nat := 0
  deriving DecidableEq, Repr

/-- Stacks by index. -/
structure Stacks where
  stack : Tbl StackS := []
  /-- manifest generations accepted: ID, key and generation (R259) -/
  accepted : List (W64 × W64 × W64) := []
  deriving DecidableEq, Repr

/-! ### Panel networks (chapter 09) -/

/-- A packet that its source keeps until it is acknowledged (R287). -/
structure SrcCopy where
  src : BitVec 12
  dst : BitVec 12
  vc : Nat
  seq : W32
  sends : Nat
  sentAt : Nat
  pkt : Pkt
  deriving DecidableEq, Repr

/-- An output port of a die switch (R284): for each VC the packets that use it or wait for it, each with the flits that
it has still to send, the VC that round robin prefers next, and the time to which its flits have been sent. -/
structure OutPort where
  lanes : Tbl (List (Pkt × Nat)) := []
  next : Nat := 0
  upTo : Nat := 0
  deriving DecidableEq, Repr

/-- A regulator of a die (R285). -/
structure Regulator where
  rate : W32 := 0
  burst : W32 := 0
  level : Nat := 0
  held : List Pkt := []
  last : Nat := 0
  deriving DecidableEq, Repr

/-- The networks. -/
structure Net where
  /-- regulators by die × 24 + VC × 3 + priority − 1 -/
  reg : Tbl Regulator := []
  /-- next sequence number to send and to accept, by src, dst and VC -/
  seqTx : Tbl Nat := []
  seqRx : Tbl Nat := []
  copies : List SrcCopy := []
  /-- arrived out of order, held for their place (R287) -/
  early : List (BitVec 12 × BitVec 12 × Nat × Pkt) := []
  /-- completions kept for duplicates (R288): destination, source, VC, sequence number, packet -/
  done : List (BitVec 12 × BitVec 12 × Nat × W32 × Pkt) := []
  /-- acknowledged requests that wait for their completion, and those answered BANK_CLOSED that their
  source holds until the reopen notice (R106, R287): source, destination, packet -/
  pendingReq : List (BitVec 12 × BitVec 12 × Pkt) := []
  parked : List (BitVec 12 × BitVec 12 × Pkt) := []
  /-- packets of a context that restores, discarded where they arrive (R46): source, VC, sequence number and
  destination -/
  void : List (BitVec 12 × BitVec 3 × W32 × W64) := []
  /-- ports of a die that are out of service beside those that defect records put out, in the bit order
  of port_state (R302); bit 10 is the router ring -/
  down : Tbl W16 := []
  routeGen : Nat := 0
  /-- output ports by die × 12 + port -/
  out : Tbl OutPort := []
  mcast : Tbl (Option (CtxId × Mcast)) := []
  cells : Tbl Cell := []
  /-- sync block owners: die × 32 + block, hubs from 156 × 32 -/
  block : Tbl Byte := []
  deriving DecidableEq, Repr

/-! ### Fabric (chapter 10) -/

/-- Codes of link_state (R307). -/
inductive LinkSt where
  | off | train | keyx | up | fault
  deriving DecidableEq, Repr

/-- A vent die and its link. -/
structure VentS where
  st : LinkSt := .off
  peer : W16 := 0
  tx : Byte := 0
  rx : Byte := 0
  lanes : Tbl LaneIn := []
  laneEvent : Tbl Nat := []
  keyedAt : Nat := 0
  /-- link keys: transmit and receive phases, counters, and the rekey in progress (R310–R312) -/
  keyed : Bool := false
  txPhase : Bool := false
  rxPhase : Bool := false
  txCtr : Nat := 0
  rxCtr : Nat := 0
  /-- the counter under the old key while that is kept, and whether keys of a new phase are ready -/
  rxOld : Nat := 0
  oldUntil : Option Nat := none
  newKeys : Bool := false
  rekeying : Bool := false
  /-- credits held, in 64-byte units, by class (R310) -/
  credits : Tbl Nat := []
  gcmFails : List Nat := []
  retryAt : Nat := 0
  retries : Nat := 0
  /-- frames that wait for credits (dateline class, source and destination panel, body), and when a lane group
  went out: side, group, time -/
  waiting : List (Bool × BitVec 14 × BitVec 14 × FrameBody) := []
  groupOut : List (Bool × Nat × Nat) := []
  fwHeld : Bool := false
  deriving DecidableEq, Repr

/-- The fabric. -/
structure Fab where
  vent : Tbl VentS := []
  down : List (W16 × Byte) := []
  routeGen : Nat := 0
  exports : List (CtxId × Export) := []
  fillTags : Tbl (Option (CtxId × Nat)) := []
  /-- groups by logical die × 4 + group -/
  group : Tbl (Option GroupRun) := []
  owner : Tbl (Option CtxId) := []
  linkq : Tbl (Option (CtxId × LDie)) := []
  deriving DecidableEq, Repr

/-! ### Clocks (chapter 11) -/

/-- An island: island_state code (0 running … 4 quenched), lock, and replica readings (R342–R353). -/
structure IslandS where
  st : Nat := 3
  locked : Bool := false
  since : Nat := 0
  last : Byte := 0xFF
  min : Byte := 0xFF
  below : Nat := 0
  failAt : Option Nat := none
  warnAt : Option Nat := none
  deriving DecidableEq, Repr

/-- The clock state of a die. (DESIGN CHOICE, log 16) -/
structure DieClk where
  step : Nat := 8
  /-- the die has fallen back to DRIFT (R352) -/
  drift : Bool := false
  thermalCeil : Nat := 30
  powerCeil : Nat := 30
  phaseCeil : Nat := 30
  /-- lowerings in force: when each ends, and the step it sets (R349, R353) -/
  stretch : List (Nat × Nat) := []
  margin : List (Nat × Nat) := []
  warming : Bool := false
  /-- the newest stretch of a period under LOCKSTEP: when, and its quarters (R350) -/
  droop : Option (Nat × Nat) := none
  deriving DecidableEq, Repr

/-- Clocks and QUENCH. -/
structure Clk where
  /-- ref_state (R344) and the losses it stands for -/
  refState : Nat := 3
  crystalOk : Bool := true
  pll0 : Bool := false
  pll1 : Bool := false
  /-- islands and dies that differ from the common state -/
  islandBase : IslandS := {}
  island : Tbl IslandS := []
  dieBase : DieClk := {}
  die : Tbl DieClk := []
  /-- QUENCH (R355–R361) -/
  quench : Nat := 0
  trigger : Nat := 0
  quenchAt : Nat := 0
  quenchFrom : PState := .off
  quenchCode : W16 := 0
  /-- quench_sram_dump at the trigger (R358) -/
  dumpAsked : Bool := false
  slot0 : Option Bytes := none
  slot1 : Option Bytes := none
  /-- the records behind a slot's header (R360) -/
  records0 : List Bytes := []
  records1 : List Bytes := []
  newest : Byte := 0xFF
  deriving DecidableEq, Repr

/-! ### Power and heat (chapter 12) -/

/-- A waiting switch-on (R372). -/
structure Waiting where
  dom : Domain
  since : Nat
  retry : Bool
  deriving DecidableEq, Repr

/-- Supply. (DESIGN CHOICE, log 17) -/
structure Pwr where
  inputMv : Nat := 0
  inputDa : Nat := 0
  inputW : Nat := 0
  pair0 : Nat := 0
  pair1 : Nat := 0
  lostPair : Option Nat := none
  group : Tbl Nat := []
  diePower : Tbl Nat := []
  /-- failed converters: bit 2g + m (R397) -/
  convFailed : W32 := 0
  busOn : Bool := false
  waiting : List Waiting := []
  /-- the common state of the domains, and the domains (by key) that differ from it -/
  allOn : Bool := false
  except : List Nat := []
  /-- domains whose electronic fuse is open (R374) -/
  fuseOpen : List Nat := []
  phase : Tbl W16 := []
  boostUntil : Tbl Nat := []
  capW : Nat := 66000
  capSource : Byte := 0
  lowSince : Option Nat := none
  foldback : Bool := false
  /-- minimum voltage records: min, time, code (R379) -/
  minMv : Tbl (Nat × Nat × Nat) := []
  rows : List Bytes := []
  rowsUntil : Nat := 0
  res : Tbl (List Nat) := []
  resMedian : Tbl Nat := []
  resHigh : Tbl Nat := []
  resEvent : Tbl Nat := []
  eventAt : Tbl Nat := []
  aux : Nat := 54000
  standby : Bool := true
  deriving DecidableEq, Repr

/-- A hot spot's sensor pair (R382, R383): readings in 0.01 °C, exclusions, a disagreement. -/
structure SpotS where
  a : Int := 2500
  b : Int := 2500
  exA : Bool := false
  exB : Bool := false
  hotter : Bool := false
  /-- the stage in force at this spot: of R384 for a die, of R386 in the order of its table for a stack -/
  stage : Nat := 0
  tripped : Bool := false
  deriving DecidableEq, Repr

/-- Thermal state. -/
structure Thm where
  spot : Tbl SpotS := []
  /-- per die: when event 0x2001 was raised, when stage 1 lowered and when the ceiling rose, each plus one -/
  event2001 : Tbl Nat := []
  lowered : Tbl Nat := []
  raised : Tbl Nat := []
  lastTrip : Option Nat := none
  /-- accepted coolant samples, newest first, per value; 0x3200.06 bits; rejected count -/
  samples : Tbl (List W32) := []
  used : Tbl W32 := []
  accepted : Tbl Nat := []
  timeout : BitVec 3 := 7
  below40 : Bool := false
  rejected : Nat := 0
  low20 : Option Nat := none
  outletLow : Option Nat := none
  theta : W32 := 0
  thetaFlow : W32 := 0
  forecast : List W32 := []
  forecastAt : Nat := 0
  /-- the forecast interval that raises ceilings: its power and its end (R392) -/
  boostP : Option (Nat × Nat) := none
  /-- what SIMMER takes off the flow request, in mL/min (R394) -/
  simmerCut : Nat := 0
  flowReq : W32 := 0x42C80000
  deriving DecidableEq, Repr

/-! ### Security (chapter 13) -/

/-- Trust. (DESIGN CHOICE, log 12; DESIGN CHOICE, log 20) -/
structure Sec where
  /-- the unique device secret as each hub holds it (R402) -/
  uds0 : BitVec 256 := 0
  uds1 : BitVec 256 := 0
  /-- vendor slot fuses: key hashes (R402) -/
  vendor : Tbl (BitVec 256) := []
  /-- vendor slots whose revoke bit is set, anti-rollback values of components 1–6 (R402) -/
  revoked : Byte := 0
  rollback : Tbl Nat := []
  factoryOff : Bool := false
  /-- hub 0 and hub 1: entropy failed, security core lost; acting root -/
  entropy : List Nat := []
  coresLost : List Nat := []
  root : Nat := 0
  draws : Nat := 0
  owned : Bool := false
  /-- owner key hashes, primary first (R416) -/
  ownerKeys : List (BitVec 256) := []
  sequence : W32 := 0
  imageKey : Bytes := []
  minGen : W32 := 0
  approvals : List (Byte × BitVec 256) := []
  claimNonce : BitVec 256 := 0
  /-- attestation reports by session (R421) -/
  reports : Tbl Bytes := []
  /-- the cold starts since which the panel storage secret stands (R425) -/
  storage : Nat := 0
  challenge : BitVec 256 := 0
  debug : Byte := 0
  deriving DecidableEq, Repr

/-! ### Host attachment (chapter 14) -/

/-- A DMA mover (R454–R456). -/
structure Mover where
  tail : W32 := 0
  head : W32 := 0
  done : W32 := 0
  status : W32 := 0
  prio : Byte := 0
  ring : Tbl Byte := []
  cur : Option MoverDesc := none
  /-- bytes moved of the current descriptor, the piece in flight -/
  moved : Nat := 0
  inFlight : Option Nat := none
  /-- the piece in front waits for a shard or a bank -/
  blocked : Bool := false
  /-- a piece has failed: status and fault code -/
  failed : Option (Status × W16) := none
  deriving DecidableEq, Repr

/-- An H_WRITE or H_READ that the hub has taken and not completed (R446, R452): the bytes done, the bytes read
so far. -/
structure HostReq where
  write : Bool
  tag : Byte
  addr : W64
  len : Nat
  data : Bytes
  done : Nat := 0
  got : Bytes := []
  deriving DecidableEq, Repr

/-- A host site. -/
structure Site where
  link : Nat := 0
  modules : BitVec 4 := 0
  retrains : List Nat := []
  /-- retrains that have failed since the link was UP -/
  fails : Nat := 0
  downAt : Nat := 0
  /-- packets in the order they arrived; the first waits for a shard or a bank -/
  reqs : List HostReq := []
  /-- when fault 0x7030 was last logged, plus one (R432) -/
  fwLast : Nat := 0
  /-- mailbox buffers, lengths and flags (R448) -/
  mbIn : Tbl Byte := []
  mbOut : Bytes := []
  inLen : W32 := 0
  busy : Bool := false
  busyAt : Nat := 0
  full : Bool := false
  overrun : Bool := false
  queue : List Bytes := []
  dbMask : W32 := 0xF
  dbStatus : W32 := 0
  addr : W64 := 0
  ctrl : W32 := 0x000FFF19
  stat : W32 := 0
  movers : Tbl Mover := []
  /-- the mover that round robin prefers next (R456) -/
  turn : Nat := 0
  deriving DecidableEq, Repr

/-- Both sites. -/
structure Hst where
  site : Tbl Site := []
  deriving DecidableEq, Repr

/-! ### Management (chapter 15) -/

/-- A segmented transfer of a session (R476, R477). -/
structure Xfer where
  write : Bool
  index : W16
  sub : Byte
  data : Bytes
  total : Nat
  last : Nat
  expired : Bool := false
  deriving DecidableEq, Repr

/-- A session (R466–R473). -/
structure Session where
  channel : Nat
  level : Level
  generation : W32 := 0
  keyId : W64 := 0
  /-- the 72 bytes of R470: keys to the panel and to the client, salts to the panel and to the client -/
  keys : Bytes := []
  opened : Nat := 0
  lastFrame : Nat := 0
  rxSeq : W32 := 0
  txSeq : W32 := 0
  /-- the last answered request: its sequence, and the RESPONSE sent: header, payload, tag (R473) -/
  lastReq : W32 := 0
  lastResp : Bytes × Bytes × Bytes := ([], [], [])
  xfer : Option Xfer := none
  mask : W16 := 0
  /-- event frames of the last second (R490) -/
  events : List Nat := []
  deriving DecidableEq, Repr

/-- A transmit or receive process-data object (R487). -/
structure Pdo where
  map : List MapEntry := []
  rate : W16 := 0
  owner : W16 := 0
  last : Nat := 0
  deriving DecidableEq, Repr

/-- A handshake (R470–R472): its session number, channel, client nonce, start, and the session's 72 bytes of keys. -/
structure Shake where
  session : Nat
  channel : Nat
  nonce : BitVec 256
  begun : Nat
  keys : Bytes := []
  deriving DecidableEq, Repr

/-- Management. -/
structure Mgmt where
  session : Tbl (Option Session) := []
  shakes : List Shake := []
  nextSession : Nat := 1
  tpdo : Tbl Pdo := []
  rpdo : Tbl Pdo := []
  ports : BitVec 4 := 0
  tagFails : Tbl (List Nat) := []
  deriving DecidableEq, Repr

/-! ### Start-up (chapter 16) -/

/-- Kinds of start (R514 last_start). -/
inductive StartKind where
  | cold | warm | trial
  deriving DecidableEq, Repr

/-- A start that runs: the step it waits at or has reached (R499, R500). -/
structure StartS where
  kind : StartKind
  step : Nat
  input : StartIn
  deriving DecidableEq, Repr

/-- A firmware slot (R509). `bodyOk` and the signature's verdict stay with the image. -/
structure FwSlot where
  /-- code of R509 -/
  st : Nat := 0
  version : W32 := 0
  svn : W32 := 0
  digest : BitVec 256 := 0
  /-- vendor slot whose key signed it, and whether signature and body still check -/
  signer : Byte := 0
  ok : Bool := true
  deriving DecidableEq, Repr

/-- Running panel commands (R486). -/
inductive Running where
  | none | start | selftest | calibrate
  deriving DecidableEq, Repr

/-- Start-up, calibration and firmware. -/
structure Boot where
  start : Option StartS := none
  takeovers : Nat := 0
  trialCut : Nat := 0
  startCount : W32 := 0
  lastStart : W32 := 0
  selftest : Bytes := []
  running : Running := .none
  cmdStatus : W32 := 0
  updFromSafe : Bool := false
  /-- firmware slots by component × 2 + slot -/
  fw : Tbl FwSlot := []
  /-- sequencer memory by die × 2^26 + offset, and the dies whose image is complete -/
  seqMem : Tbl Byte := []
  loaded : List Nat := []
  /-- values of the ten sections where they differ from the factory's (R506) -/
  cal : List (Tbl Int) := []
  calOrigin : Byte := 0
  calGen : W32 := 0
  deriving DecidableEq, Repr

/-! ### Recovery (chapter 17) -/

/-- A migration of a stack (R531): the failed die, its logical die, the stacks, the banks left to copy, the time
it began, the bytes it has to copy, and whether its budget has passed. -/
structure Migration where
  die : Nat
  logical : Nat
  src : Nat
  dst : Nat
  banks : List Nat
  since : Nat
  bytes : Nat
  late : Bool := false
  deriving DecidableEq, Repr

/-- Recovery. -/
structure Rec where
  tileMiss : Tbl Nat := []
  dieMiss : Tbl Nat := []
  sinterMiss : Tbl Nat := []
  /-- dies that the test chain probes, since when (R530), and whether the probe has found the die failed (R45) -/
  probing : List (Nat × Nat × Bool) := []
  migrations : List Migration := []
  log : List Bytes := []
  safeCause : W16 := 0
  /-- guarantees suspended (R536): yielding and favoured context, and the island concerned; the time of the last
  event of each pair -/
  suspensions : List (CtxId × Byte × Nat) := []
  lastSuspend : List (CtxId × Byte × Nat) := []
  /-- smallest headroom in mV since the last margin summary, and its die (R538) -/
  headroom : Option (Int × Nat) := none
  margin : Bytes := []
  shadowState : Byte := 0
  passing : Nat := 0
  /-- points compared of frames that are not complete: frame, point, pass (R541) -/
  compared : List (Nat × Nat × Bool) := []
  /-- checksum records of this panel: point, frame, norm, projections -/
  sums : List (Nat × Nat × W32 × List W32) := []
  deriving DecidableEq, Repr

/-! ### Pins (chapter 18) -/

/-- What the test port's instruction register selects (R561). -/
inductive TapReg where
  | idcode | bypass | other
  deriving DecidableEq, Repr

/-- Pins and the test port: the register in place, and the bits that came out on TDO. (DESIGN CHOICE, log 21) -/
structure Pins where
  rstHeld : Bool := false
  quenchLow : Bool := false
  quenchArmed : Bool := true
  thermtrip : Bool := false
  pgood : Bool := false
  tap : TapReg := .idcode
  tapBits : List Bool := []
  deriving DecidableEq, Repr

/-! ### Messages and the whole state -/

/-- What the panel sends, newest first in State.sent. -/
inductive Msg where
  /-- a packet injected at a node of the bulk network -/
  | pkt (node : BitVec 12) (p : Pkt)
  /-- a packet forwarded by a die's router through a port -/
  | hop (d : Nat) (port : Nat) (p : Pkt)
  /-- a control-network message: opcode, context and field -/
  | ctrl (node : BitVec 12) (op : Byte) (c : Nat) (field : Nat)
  /-- a reply to a sync request -/
  | sync (node : BitVec 12) (seq : W32) (st : Status) (v : W64)
  /-- a sync operation passed on: ARRIVE to a parent, RELEASE to children -/
  | arrive (cell : W64) (v : W64)
  | release (cell : W64)
  /-- a frame of a vent die: dateline class, source and destination panel, body -/
  | frame (v : Nat) (dateline : Bool) (src dest : BitVec 14) (b : FrameBody)
  /-- a host-link packet: site, kind, tag, status, payload -/
  | host (h : Nat) (kind : Byte) (tag : Byte) (st : Status) (d : Bytes)
  /-- a sideband message of a site (R450) -/
  | side (h : Nat) (d : Bytes)
  /-- a Neighbor Advertisement on a field port for an interface identifier (R465) -/
  | advert (port : Nat) (iid : W64)
  /-- a management frame: session or handshake ID, kind, payload (R467) -/
  | mgmt (session : Nat) (kind : Nat) (d : Bytes)
  deriving DecidableEq, Repr

/-- The panel, and the queue of the commands that wait, first in, first out. -/
structure State where
  st : PState := .off
  since : Nat := 0
  /-- TIME64, in ns since the last cold or warm start (R22) -/
  now : Nat := 0
  log : Log := {}
  anat : Anat := {}
  /-- scalar objects that differ from their defaults, by index × 256 + subindex; the stored values of
  the objects that take effect at a start -/
  dict : Tbl Nat := []
  stored : Tbl Nat := []
  /-- counters by (set × 2^20 + record) × 64 + offset / 4; times of zeroing by set -/
  ctrs : Tbl Nat := []
  ctrSince : Tbl Nat := []
  /-- memories: stack × 2^36, physical die × 2^25, (die × 20 + tile) × 2^22, plus offset -/
  stackMem : List Host.Cell := []
  commonsMem : List Host.Cell := []
  spadMem : List Host.Cell := []
  tiles : Tiles := {}
  eng : Eng := {}
  flow : Flow := {}
  stk : Stacks := {}
  net : Net := {}
  fab : Fab := {}
  clk : Clk := {}
  pwr : Pwr := {}
  thm : Thm := {}
  sec : Sec := {}
  hst : Hst := {}
  mgmt : Mgmt := {}
  boot : Boot := {}
  recov : Rec := {}
  pins : Pins := {}
  sent : List Msg := []
  answer : Answer := .done
  /-- free values drawn so far -/
  freeCount : Nat := 0
  pending : List Instr := []
  deriving DecidableEq, Repr

/-- The panel right after reset: OFF, before any start, with an empty queue. (DESIGN CHOICE, log 18) -/
def State.reset : State :=
  { boot := { fw := [2, 4, 6, 8, 10, 12].map (fun k => (k, { st := 3 })) } }

end Sys2Proof.Machine
end

