-- ==== Sys2Proof/Machine/Ops.lean ====
section
/-! DEFINITION. The named operations on the state that every family uses: sparse tables and byte
memories, the fault log, counters, scalar objects, answers, and the remap tables. -/

namespace Sys2Proof.Machine

/-! ### Sparse tables -/

/-- The entry i of a table; an absent entry reads d. -/
def tget {V : Type} (d : V) : Tbl V → Nat → V
  | [], _ => d
  | (k, v) :: t, i => if i < k then d else if i = k then v else tget d t i

/-- The table without its entry i, given that no key before it exceeds i. -/
def tskip {V : Type} (i : Nat) : Tbl V → Tbl V
  | [] => []
  | (k, v) :: t => if k ≤ i then tskip i t else (k, v) :: t

/-- Entry i becomes v; an entry that equals the default is not listed. -/
def tset {V : Type} [DecidableEq V] (d : V) : Tbl V → Nat → V → Tbl V
  | [], i, v => if v = d then [] else [(i, v)]
  | (k, w) :: t, i, v =>
    if i < k then (if v = d then (k, w) :: t else (i, v) :: (k, w) :: t)
    else if i = k then (if v = d then tskip i t else (i, v) :: t)
    else (k, w) :: tset d t i v

/-- Entry i becomes f of itself. -/
def tmod {V : Type} [DecidableEq V] (d : V) (t : Tbl V) (i : Nat) (f : V → V) : Tbl V :=
  tset d t i (f (tget d t i))

/-- The table without the entries whose key lies in [lo, hi). -/
def tclear {V : Type} (lo hi : Nat) : Tbl V → Tbl V
  | [] => []
  | (k, v) :: t => if lo ≤ k && k < hi then tclear lo hi t else (k, v) :: tclear lo hi t

/-- f applied to every listed entry with its key; the keys stay. -/
def tmap {V : Type} (f : Nat → V → V) : Tbl V → Tbl V
  | [] => []
  | (k, v) :: t => (k, f k v) :: tmap f t

/-- Strictly rising keys from lo on, and no entry that equals the default. -/
def twf {V : Type} [DecidableEq V] (d : V) : Nat → Tbl V → Bool
  | _, [] => true
  | lo, (k, v) :: t => decide (lo ≤ k) && decide (v ≠ d) && twf d (k + 1) t

/-! ### Byte memories: an unlisted byte reads zero (R250) -/

/-- The canonical form of a memory. -/
def Memory.wf (m : List Host.Cell) : Bool := twf (0 : Byte) 0 m

/-- One byte. (DESIGN CHOICE, log 8) -/
def byteAt (m : List Host.Cell) (a : Nat) : Byte := tget (0 : Byte) m a

/-- Writing one byte. -/
def putByte (m : List Host.Cell) (a : Nat) (b : Byte) : List Host.Cell := tset (0 : Byte) m a b

/-- n bytes from a on. -/
def bytesAt (m : List Host.Cell) (a : Nat) : Nat → Bytes
  | 0 => []
  | n + 1 => byteAt m a :: bytesAt m (a + 1) n

/-- Writing bytes from a on. -/
def putBytes (m : List Host.Cell) (a : Nat) : Bytes → List Host.Cell
  | [] => m
  | b :: bs => putBytes (putByte m a b) (a + 1) bs

/-- Zeroing the bytes of [lo, hi). -/
def zeroRange (m : List Host.Cell) (lo hi : Nat) : List Host.Cell := tclear lo hi m

/-! ### Lists without repeats -/

/-- Insert into a list kept without repeats. -/
def insertNew {A : Type} [DecidableEq A] (a : A) (l : List A) : List A := if a ∈ l then l else a :: l

/-- A number enters an ascending list once. -/
def insertAsc (n : Nat) : List Nat → List Nat
  | [] => [n]
  | m :: l => if n < m then n :: m :: l else if n = m then m :: l else m :: insertAsc n l

/-- The numbers of a list, ascending and once each. -/
def ascending (l : List Nat) : List Nat := l.foldr insertAsc []

/-! ### Scalar objects (chapter 15): index × 256 + subindex -/

/-- The values that scalar objects have before anything is written, where not zero. -/
def objDefault (index : Nat) : Nat :=
  match index with
  | 0x2241 => 1000 | 0x2243 => 10000 | 0x2244 => 1000 | 0x2245 => 100000 | 0x2246 => 25
  | 0x2248 => 30000 | 0x7302 => 10000 | _ => 0

/-- The defaults of objects that stand alone. -/
def objDefaultAt (index sub : Nat) : Nat :=
  match index, sub with
  | 0x2000, 0x06 => 1
  | 0x2100, 0x01 => 1 | 0x2100, 0x03 => 1 | 0x2100, 0x05 => 500
  | 0x2100, 0x08 => 0x3A800000 | 0x2100, 0x09 => 1000 | 0x2100, 0x0C => 1
  | 0x2260, 0x01 => 24 | 0x2260, 0x02 => 600
  | 0x3100, 0x03 => 10
  | 0x3201, 0x02 => 0x42C80000
  | 0x3210, 0x02 => 66000
  | 0x3220, 0x01 => 50 | 0x3220, 0x02 => 1
  | 0x7001, 0x01 => 600
  | 0x1100, 0x03 => 1 | 0x1100, 0x04 => 1 | 0x1100, 0x05 => 47770 | 0x1100, 0x07 => 60
  | 0x1100, 0x08 => 5000
  | 0x9000, 0x05 => 0x0086
  | i, s => if 0x4000 ≤ i ∧ i < 0x409C ∧ s = 0x0E then 30 else objDefault i

/-- The value in force of a scalar object. -/
def State.obj (s : State) (index sub : Nat) : Nat :=
  tget (objDefaultAt index sub) s.dict (index * 256 + sub)

/-- A scalar object takes a value in force. -/
def State.setObj (s : State) (index sub v : Nat) : State :=
  { s with dict := tset (objDefaultAt index sub) s.dict (index * 256 + sub) v }

/-! ### Counters (R73): saturating, zeroed by set -/

/-- The number of a counter set. -/
def ctrNum : CtrSet → Nat
  | .recovery => 0 | .arith => 1 | .tile => 2 | .engine => 3 | .unit => 4 | .queue => 5 | .spec => 6
  | .sparse => 7 | .stack => 8 | .net => 9 | .fabric => 10 | .ring => 11 | .clock => 12
  | .power => 13 | .security => 14 | .host => 15 | .mgmt => 16

/-- The key of the counter at a byte offset of a record. -/
def ctrKey (set : CtrSet) (record off : Nat) : Nat := (ctrNum set * 2 ^ 20 + record) * 64 + off / 4

/-- The value of a counter. (DESIGN CHOICE, log 22) -/
def State.ctr (s : State) (set : CtrSet) (record off : Nat) : Nat :=
  tget 0 s.ctrs (ctrKey set record off)

/-- A 32-bit counter rises by n and saturates (R73). -/
def State.count (s : State) (set : CtrSet) (record off n : Nat) : State :=
  { s with
    ctrs := tset 0 s.ctrs (ctrKey set record off) (min (s.ctr set record off + n) 0xFFFFFFFF) }

/-- What a 32-bit counter has counted moves elsewhere (R220). -/
def State.uncount (s : State) (set : CtrSet) (record off n : Nat) : State :=
  { s with ctrs := tset 0 s.ctrs (ctrKey set record off) (s.ctr set record off - n) }

/-- A 64-bit pair of counters at off and off + 4 rises by n (R73, R175). -/
def State.count64 (s : State) (set : CtrSet) (record off n : Nat) : State :=
  let v := min (s.ctr set record off + 2 ^ 32 * s.ctr set record (off + 4) + n) (2 ^ 64 - 1)
  { s with
    ctrs := tset 0 (tset 0 s.ctrs (ctrKey set record off) (v % 2 ^ 32))
      (ctrKey set record (off + 4)) (v / 2 ^ 32) }

/-- A counter that shows bits [47:16] of a sum; the low 16 bits stand at a hidden offset. -/
def State.countHigh (s : State) (set : CtrSet) (record off n : Nat) : State :=
  let v := tget 0 s.ctrs (ctrKey set record (off + 0x80)) + n
  let s := { s with ctrs := tset 0 s.ctrs (ctrKey set record (off + 0x80)) (v % 2 ^ 16) }
  if v < 2 ^ 16 then s else s.count set record off (v / 2 ^ 16)

/-- A counter that holds a maximum. -/
def State.countMax (s : State) (set : CtrSet) (record off n : Nat) : State :=
  { s with ctrs := tset 0 s.ctrs (ctrKey set record off) (max (s.ctr set record off) n) }

/-- Every counter of a set becomes zero, and the time is kept (R73). -/
def State.clearCounters (s : State) (set : CtrSet) : State :=
  { s with
    ctrs := tclear (ctrNum set * 2 ^ 26) ((ctrNum set + 1) * 2 ^ 26) s.ctrs
    ctrSince := tset 0 s.ctrSince (ctrNum set) s.now }

/-! ### Host sites and sessions: one home each -/

/-- A host site. -/
def State.site (s : State) (h : Nat) : Site := tget {} s.hst.site h

/-- A host site becomes f of itself. -/
def State.modSite (s : State) (h : Nat) (f : Site → Site) : State :=
  { s with hst := { s.hst with site := tmod {} s.hst.site h f } }

/-- A session. -/
def State.session (s : State) (n : Nat) : Option Session := tget none s.mgmt.session n

/-- A session entry is set. -/
def State.setSession (s : State) (n : Nat) (x : Option Session) : State :=
  { s with mgmt := { s.mgmt with session := tset none s.mgmt.session n x } }

/-- The panel sends a message. -/
def State.send (s : State) (m : Msg) : State := { s with sent := m :: s.sent }

/-- The next free word, and the state that has drawn it. -/
def State.free (s : State) : W64 × State :=
  (Config.freeWord s.freeCount, { s with freeCount := s.freeCount + 1 })

/-- n free bytes. -/
def State.freeBytes (s : State) (n : Nat) : Bytes × State :=
  ((List.range n).map (fun i => (Config.freeWord (s.freeCount + i)).setWidth 8),
    { s with freeCount := s.freeCount + n })

/-! ### Doorbells and frames (R448–R450, R466) -/

/-- The mainband of a site carries traffic: its link is UP and the hub's islands run (R444, R460). -/
def State.hostLive (s : State) (h : Nat) : Bool := (s.site h).link == 2 && s.st != .quenched

/-- A doorbell cause whose mask bit is set: DB_STATUS takes its bit, and a NOTIFY goes out, over the sideband
while the mainband does not run (R450). (DEDUCED, log 91) -/
def State.doorbell (s : State) (h cause : Nat) : State :=
  let x := s.site h
  if !x.dbMask.toNat.testBit cause then s
  else
    let v := x.dbStatus ||| BitVec.ofNat 32 (2 ^ cause)
    let t := s.modSite h (fun y => { y with dbStatus := v })
    if s.hostLive h then t.send (.host h 7 0 .ok (toLe 4 v.toNat))
    else if x.link = 0 ∨ x.link = 4 then t
    else t.send (.side h (toLe 4 v.toNat))

/-- Completion status codes (R282). -/
def stCode : Status → Nat
  | .ok => 0 | .denied => 1 | .addrError => 2 | .poisoned => 3 | .tagFail => 4 | .bankClosed => 5
  | .nocredit => 6 | .notOwned => 7 | .syncFull => 8 | .unreachable => 9 | .pathFault => 10

/-- DP_STATUS takes the status and the code of a failed write, and doorbell cause 2 is raised (R453, R458). -/
def State.portError (s : State) (h : Nat) (st : Status) (code : W16) : State :=
  (s.modSite h (fun y => { y with
    stat := BitVec.ofNat 32 (stCode st + 16 + code.toNat * 2 ^ 16) })).doorbell h 2

/-- Every transaction in flight on a site ends with a status (R444, R459, R460): reads complete, posted writes are
reported, descriptors in progress fail. -/
def State.endHost (s : State) (h : Nat) (st : Status) (code : W16) : State :=
  let t := s.modSite h (fun y => { y with
    reqs := []
    movers := tmap (fun _ (m : Mover) =>
      if m.cur.isSome && m.failed.isNone then { m with failed := some (st, code), inFlight := none, blocked := false }
      else m) y.movers })
  (s.site h).reqs.foldl (fun (t : State) q =>
    let t := t.count .host h 0x14 1
    if q.write then t.portError h st code else (t.count .host h 0x04 1).send (.host h 3 q.tag st [])) t

/-- A frame is written into MB_OUT. -/
def State.mailPut (s : State) (h : Nat) (f : Bytes) : State :=
  ((s.modSite h (fun y => { y with mbOut := f, full := true })).count .host h 0x1C 1).doorbell h 0

/-- A frame for a mailbox waits until the one before it is consumed (R449). -/
def State.mailOut (s : State) (h : Nat) (f : Bytes) : State :=
  if (s.site h).full then s.modSite h (fun y => { y with queue := y.queue ++ [f] }) else s.mailPut h f

/-- A frame's header (R466). -/
def frameHead (kind session seq index sub status len : Nat) : Bytes :=
  [BitVec.ofNat 8 (16 + kind)] ++ toLe 2 session ++ toLe 4 seq ++ toLe 2 index
    ++ [BitVec.ofNat 8 sub, BitVec.ofNat 8 status] ++ toLe 2 len ++ [0, 0, 0]

/-- A session ends: its process data is unbound, and with it its transfers and its event stream (R473). -/
def State.endSession (s : State) (n : Nat) : State :=
  let drop (p : Nat × Pdo) : Nat × Pdo := if p.2.owner.toNat = n then (p.1, { p.2 with owner := 0, rate := 0 }) else p
  { s with
    mgmt := { s.mgmt with
      session := tset none s.mgmt.session n none
      tpdo := s.mgmt.tpdo.map drop
      rpdo := s.mgmt.rpdo.map drop }
    sec := { s.sec with reports := tset [] s.sec.reports n [] } }

/-- A frame on a channel: counted, sent, and on a mailbox channel written into MB_OUT. -/
def State.channelOut (s : State) (channel session kind : Nat) (head d tag : Bytes) : State :=
  let s := (s.count .mgmt channel 0x04 1).send (.mgmt session kind d)
  if channel < 2 then s else s.mailOut (channel - 2) (head ++ d ++ tag)

/-- The tag of a frame of the panel (R468): of an empty plaintext, over header and payload, under the panel's key and salt
of the session's 72 bytes (R470). (DESIGN CHOICE, log 102) -/
def frameTag (keys : Bytes) (seq : Nat) (head d : Bytes) : Bytes :=
  (gcmSeal (BitVec.ofNat 256 (beNat (natsOf ((keys.drop 32).take 32)))) ((keys.drop 68).take 4 ++ toLe 4 seq ++ [0, 0, 0, 0])
    (head ++ d) []).2

/-- A frame to a session under its next sequence; the last sequence ends the session (R473). -/
def State.frameOut (s : State) (n kind index sub status : Nat) (d : Bytes) : State :=
  match s.session n with
  | none => s
  | some x =>
    let q := x.txSeq.toNat + 1
    let head := frameHead kind n q index sub status d.length
    let s := (s.setSession n (some { x with txSeq := BitVec.ofNat 32 q })).channelOut x.channel n kind head d
      (frameTag x.keys q head d)
    if q = 0xFFFFFFFF then s.endSession n else s

/-! ### Fault log (R516–R521) -/

/-- The class digit of a code (R15). -/
def codeClass (code : W16) : Nat := code.toNat / 0x1000

/-- A fault of a class whose alert_mask bit is set asserts ALERT_N until it is acknowledged. -/
def State.alertFor (s : State) (e : LogEntry) : State :=
  if e.fault && (s.obj 0x9000 0x05).testBit (codeClass e.code) then
    { s with log := { s.log with alert := true } } else s

/-- The 32 bytes of an entry (R517). -/
def LogEntry.bytes (e : LogEntry) : Bytes :=
  let flag (b : Bool) (n : Nat) : Nat := if b then n else 0
  toLe 2 e.code.toNat ++ [e.ctx, BitVec.ofNat 8 (flag e.fault 1 + flag e.held 2 + flag e.phys 4 + flag e.holdup 8)]
    ++ toLe 8 e.loc.toNat ++ toLe 8 e.time ++ toLe 10 e.detail.toNat ++ toLe 2 e.repeats

/-- The entry goes to a session in an EVENT frame, at most 100 frames a second; one left out counts as
dropped (R490, R494). -/
def State.eventFrame (s : State) (e : LogEntry) (n : Nat) : State :=
  match s.session n with
  | none => s
  | some x =>
    if x.mask.toNat.testBit (codeClass e.code) then
      let recent := x.events.filter (fun t => decide (s.now < t + 1000000000))
      if recent.length < 100 then
        (s.setSession n (some { x with events := s.now :: recent })).frameOut n 0xC 0 0 0 e.bytes
      else (s.setSession n (some { x with events := recent })).count .mgmt x.channel 0x38 1
    else s

/-- The EVENT frames of one entry. (DEDUCED, log 92) -/
def State.notifyEvent (s : State) (e : LogEntry) : State :=
  (s.mgmt.session.map (·.1)).foldl (fun (s : State) n => s.eventFrame e n) s

/-- Does a new occurrence fold into an entry (R519)? -/
def foldsInto (e f : LogEntry) : Bool :=
  e.code == f.code && e.loc == f.loc && e.ctx == f.ctx && e.held == f.held
    && !e.holdup && !f.holdup && decide (e.logged < f.logged + 1000000000)

/-- The occurrence folds into the newest entry that it matches, or none does. -/
def foldLog (e : LogEntry) : List LogEntry → Option (List LogEntry)
  | [] => none
  | f :: l =>
    if foldsInto e f then some ({ f with repeats := min (f.repeats + 1) 0xFFFF } :: l)
    else (foldLog e l).map (f :: ·)

/-- A new entry in the main ring, and a fault in the persistent ring (R520). -/
def pushLog (start : W32) (e : LogEntry) (l : Log) : Log :=
  { l with
    main := (e :: l.main).take 65536
    count := l.count + 1
    lost := if l.main.length ≥ 65536 then l.lost + 1 else l.lost
    persistent := if e.fault then ((start, e) :: l.persistent).take 4096 else l.persistent }

/-- Logging an entry: folding, both rings, EVENT frames and ALERT_N. -/
def State.logEntry (s : State) (e : LogEntry) : State :=
  match foldLog e s.log.main with
  | some m => ({ s with log := { s.log with main := m } }).alertFor e
  | none =>
    (({ s with log := pushLog s.boot.startCount e s.log }).notifyEvent e).alertFor e

/-- A location (R518): its 64 bits and whether it is in physical form. -/
structure Loc where
  word : W64
  phys : Bool
  deriving DecidableEq, Repr

/-- Raising a fault or an event at a location. -/
def State.raise (s : State) (fault : Bool) (code : W16) (ctx : Option CtxId) (l : Loc)
    (detail : Nat := 0) : State :=
  s.logEntry {
    fault := fault, code := code
    ctx := match ctx with | some c => BitVec.ofNat 8 c.val | none => 0xFF
    phys := l.phys, loc := l.word, time := s.now, detail := BitVec.ofNat 80 detail
    logged := s.now }

/-- A fault. -/
def State.fault (s : State) (code : W16) (ctx : Option CtxId) (l : Loc) (detail : Nat := 0) :
    State := s.raise true code ctx l detail

/-- An event. -/
def State.event (s : State) (code : W16) (ctx : Option CtxId) (l : Loc) (detail : Nat := 0) :
    State := s.raise false code ctx l detail

/-! ### Locations (R246, R518) -/

/-- The panel field "here": bits [63:50] all ones. -/
def hereBits : Nat := 0x3FFF * 2 ^ 50

/-- The physical form: kind, index, tile (R518). -/
def physLoc (kind index tile : Nat) : Loc :=
  ⟨BitVec.ofNat 64 (hereBits + 0xF * 2 ^ 46 + kind * 2 ^ 43 + index * 2 ^ 34 + tile * 2 ^ 29), true⟩

/-- A fabric address of this panel: space, location, offset below (R246). -/
def hereLoc (space loc rest : Nat) : Loc :=
  ⟨BitVec.ofNat 64 (hereBits + space * 2 ^ 46 + loc * 2 ^ 37 + rest), false⟩

/-- A caldera die, a sinter base, a hub, a vent die, a physical tile, a host site. -/
def locDie (d : Nat) : Loc := physLoc 0 d 0
def locStackPhys (s : Nat) : Loc := physLoc 1 s 0
def locHub (h : Nat) : Loc := physLoc 2 h 0
def locVent (v : Nat) : Loc := physLoc 3 v 0
def locTile (d t : Nat) : Loc := physLoc 4 d t
def locHost (h : Nat) : Loc := physLoc 5 h 0
/-- A stack as an address, at an offset. -/
def locStack (s off : Nat) : Loc := hereLoc 0 s off
/-- A logical die in commons form, at an offset. -/
def locCommons (d off : Nat) : Loc := hereLoc 1 d off
/-- A logical tile's scratchpad, at an offset. -/
def locSpad (d t off : Nat) : Loc := hereLoc 2 d (t * 2 ^ 32 + off)
/-- A logical die in engine-control form (R189). -/
def locEngine (d : Nat) : Loc := hereLoc 4 d 0

/-- The hub that acts as root (R404), and its location (R441). (DEDUCED, log 85) -/
def State.rootHub (s : State) : Nat := if s.sec.root = 1 then 1 else 0
def State.rootLoc (s : State) : Loc := locHub s.rootHub

/-! ### Answers and messages -/

/-- The command had its effect; it has no other answer. -/
def State.ok (s : State) : State := { s with answer := .done }

/-- The command's trigger or condition does not hold. (DESIGN CHOICE, log 6) -/
def State.turnAway (s : State) : State := { s with answer := .turnedAway }

/-- A completion status. -/
def State.status (s : State) (st : Status) : State := { s with answer := .status st }

/-- A Fjoco status. -/
def State.fstatus (s : State) (st : FStatus) : State := { s with answer := .fjoco st [] }

/-- The next draw of the hub random source (R403). -/
def State.draw (s : State) : BitVec 256 × State :=
  (Config.draw s.sec.draws, { s with sec := { s.sec with draws := s.sec.draws + 1 } })

/-! ### Time -/

/-- A happening whose time has come: the clock stands at t or later. A command that names the end of a wait
says that the wait is over. (DESIGN CHOICE, log 4) -/
def State.notBefore (s : State) (t : Nat) : State := { s with now := max s.now t }

/-! ### Panel state -/

/-- The key of a power domain (R371, R372). -/
def domKey : Domain → Nat
  | .stack k => k.val
  | .core d => 312 + d.val
  | .vent v => 468 + v.val
  | .host h => 516 + h.val
  | .island d i => 1000 + d.val * 32 + i.val
  | .spare d t => 6000 + d.val * 20 + t.val

/-- A domain is powered. -/
def State.domOn (s : State) (k : Nat) : Bool := s.pwr.allOn != s.pwr.except.contains k

/-- A domain is switched on or off. -/
def State.setDom (s : State) (k : Nat) (on : Bool) : State :=
  { s with pwr := { s.pwr with
      except := if s.pwr.allOn = on then s.pwr.except.filter (· != k)
        else insertNew k s.pwr.except } }

/-- The key of an island (R342): dies, sinter bases, hubs, vent dies. -/
def islandKey : Island → Nat
  | .die d i => d.val * 37 + i.val
  | .sinter k => 5772 + k.val
  | .hub h i => 6084 + h.val * 24 + i.val
  | .vent v i => 6132 + v.val * 2 + i.val

/-- The panel enters a state (R16); 0x2000.05 keeps the time, and doorbell cause 3 is raised (R448). -/
def State.enter (s : State) (p : PState) : State :=
  let t := { s with st := p, since := s.now }
  if p = s.st then t else (t.doorbell 0 3).doorbell 1 3

/-! ### Contexts, units, queues, tiles: one home each -/

/-- Context c. -/
def State.ctx (s : State) (c : CtxId) : CtxS := tget {} s.flow.ctx c.val

/-- Context c becomes f of itself. -/
def State.modCtx (s : State) (c : CtxId) (f : CtxS → CtxS) : State :=
  { s with flow := { s.flow with ctx := tmod {} s.flow.ctx c.val f } }

/-- The key of a unit. -/
def unitKey (d : LDie) (u : Nat) : Nat := d.val * 128 + u

/-- The unit of a key. -/
def State.unit (s : State) (k : Nat) : UnitS := tget {} s.flow.unit k

/-- A unit becomes f of itself. -/
def State.modUnit (s : State) (k : Nat) (f : UnitS → UnitS) : State :=
  { s with flow := { s.flow with unit := tmod {} s.flow.unit k f } }

/-- The key of a queue. -/
def queueKey (d : LDie) (q : Nat) : Nat := d.val * 512 + q

/-- The queue of a key. -/
def State.queue (s : State) (k : Nat) : QueueS := tget {} s.flow.queue k

/-- A queue becomes f of itself. -/
def State.modQueue (s : State) (k : Nat) (f : QueueS → QueueS) : State :=
  { s with flow := { s.flow with queue := tmod {} s.flow.queue k f } }

/-- The physical tile of a key die × 20 + tile. -/
def State.tile (s : State) (k : Nat) : TileS := tget {} s.tiles.tile k

/-- A physical tile becomes f of itself. -/
def State.modTile (s : State) (k : Nat) (f : TileS → TileS) : State :=
  { s with tiles := { s.tiles with tile := tmod {} s.tiles.tile k f } }

/-- The commons of a physical die. -/
def State.commons (s : State) (d : Nat) : CommonsS := tget {} s.eng.commons d

/-- A commons becomes f of itself. -/
def State.modCommons (s : State) (d : Nat) (f : CommonsS → CommonsS) : State :=
  { s with eng := { s.eng with commons := tmod {} s.eng.commons d f } }

/-- The key of an engine: logical die × 8 + n; of a ring: engine × 8 + q. -/
def engKey (d : LDie) (e : Nat) : Nat := d.val * 8 + e
def ringKey (d : LDie) (e q : Nat) : Nat := (d.val * 8 + e) * 8 + q

/-- An engine. -/
def State.engine (s : State) (k : Nat) : EngineS := tget {} s.eng.engine k

/-- An engine becomes f of itself. -/
def State.modEngine (s : State) (k : Nat) (f : EngineS → EngineS) : State :=
  { s with eng := { s.eng with engine := tmod {} s.eng.engine k f } }

/-- A ring. -/
def State.ring (s : State) (k : Nat) : Ring := tget {} s.eng.ring k

/-- A ring becomes f of itself. -/
def State.modRing (s : State) (k : Nat) (f : Ring → Ring) : State :=
  { s with eng := { s.eng with ring := tmod {} s.eng.ring k f } }

/-- A stack. -/
def State.stack (s : State) (k : Nat) : StackS := tget {} s.stk.stack k

/-- A stack becomes f of itself. -/
def State.modStack (s : State) (k : Nat) (f : StackS → StackS) : State :=
  { s with stk := { s.stk with stack := tmod {} s.stk.stack k f } }

/-- A vent die. -/
def State.vent (s : State) (v : Nat) : VentS := tget {} s.fab.vent v

/-- A vent die becomes f of itself. -/
def State.modVent (s : State) (v : Nat) (f : VentS → VentS) : State :=
  { s with fab := { s.fab with vent := tmod {} s.fab.vent v f } }

/-- The clock state of a die. -/
def State.dieClk (s : State) (d : Nat) : DieClk := tget s.clk.dieBase s.clk.die d

/-- The clock state of a die becomes f of itself. -/
def State.modDieClk (s : State) (d : Nat) (f : DieClk → DieClk) : State :=
  { s with clk := { s.clk with die := tmod s.clk.dieBase s.clk.die d f } }

/-- An island by key. -/
def State.island (s : State) (k : Nat) : IslandS := tget s.clk.islandBase s.clk.island k

/-- An island becomes f of itself. -/
def State.modIsland (s : State) (k : Nat) (f : IslandS → IslandS) : State :=
  { s with clk := { s.clk with island := tmod s.clk.islandBase s.clk.island k f } }

/-- A sync cell by key (die × 512 + cell, hubs from 144 × 512 + hub × 4,096). -/
def State.cell (s : State) (k : Nat) : Cell := tget {} s.net.cells k

/-- A sync cell becomes f of itself. -/
def State.modCell (s : State) (k : Nat) (f : Cell → Cell) : State :=
  { s with net := { s.net with cells := tmod {} s.net.cells k f } }

/-- A hot spot. -/
def State.spot (s : State) (k : Nat) : SpotS := tget {} s.thm.spot k

/-- A hot spot becomes f of itself. -/
def State.modSpot (s : State) (k : Nat) (f : SpotS → SpotS) : State :=
  { s with thm := { s.thm with spot := tmod {} s.thm.spot k f } }

/-- A context of each number, for operations on all of them. -/
def allCtx : List CtxId := List.finRange 32

/-- A suspension names the context as yielding: its join and engine watchdogs do not count (R536). -/
def State.yields (s : State) (c : CtxId) : Bool := s.recov.suspensions.any (fun p => p.1 == c)

/-- The context runs (R482): STEADY, ARMING, DRAINING, FLUSHING or HALTED. -/
def CtxS.runs (x : CtxS) : Bool :=
  match x.sw with
  | .steady | .arming | .draining | .flushing | .halted => true
  | .none | .suspended => false

/-- Some context holds a graph (R496). -/
def State.holdsGraph (s : State) : Bool := s.flow.ctx.any (fun p => p.2.sw != .none)

/-- RUN or IDLE follows whether a context holds a graph (R496). -/
def State.settleRun (s : State) : State :=
  match s.st with
  | .idle => if s.holdsGraph then s.enter .run else s
  | .run => if s.holdsGraph then s else s.enter .idle
  | _ => s

end Sys2Proof.Machine
end

