-- ==== Sys2Proof/Machine/Float.lean ====
section
/-! DEFINITION. Number formats, rounding and saturation (R49–R68): exact dyadic values, the element
formats of R54, FP32 arithmetic, conversions with their counters, MX and strata blocks, and the
stochastic-rounding generator. -/

namespace Sys2Proof.Machine

/-- A value: NaN, a signed infinity, or ± m × 2^e. -/
inductive FVal where
  | nan
  | inf (neg : Bool)
  | fin (neg : Bool) (m : Nat) (e : Int)
  deriving DecidableEq, Repr

/-- A binary floating-point format (R49): field widths, bias, and which specials it has. `top` is the
treatment of the all-ones exponent: 0 infinities and NaNs, 1 only S.1…1.1…1 is NaN, 2 none. (PRESUMED, log 118) -/
structure FFmt where
  ebits : Nat
  mbits : Nat
  bias : Nat
  top : Nat
  deriving DecidableEq, Repr

def fp32 : FFmt := ⟨8, 23, 127, 0⟩
def bf16 : FFmt := ⟨8, 7, 127, 0⟩
def fp16 : FFmt := ⟨5, 10, 15, 0⟩
def e4m3 : FFmt := ⟨4, 3, 7, 1⟩
def e5m2 : FFmt := ⟨5, 2, 15, 0⟩
def e2m1 : FFmt := ⟨2, 1, 1, 2⟩

/-- The exponent of a subnormal's last bit. -/
def FFmt.qmin (f : FFmt) : Int := 1 - (f.bias : Int) - (f.mbits : Int)

/-- Reading an element of a floating-point format. -/
def fdec (f : FFmt) (raw : Nat) : FVal :=
  let man := raw % 2 ^ f.mbits
  let ex := raw / 2 ^ f.mbits % 2 ^ f.ebits
  let neg := raw / 2 ^ (f.mbits + f.ebits) % 2 == 1
  if ex + 1 = 2 ^ f.ebits ∧ f.top = 0 then (if man = 0 then .inf neg else .nan)
  else if ex + 1 = 2 ^ f.ebits ∧ f.top = 1 ∧ man + 1 = 2 ^ f.mbits then .nan
  else if ex = 0 then .fin neg man f.qmin
  else .fin neg (man + 2 ^ f.mbits) (f.qmin + ((ex : Int) - 1))

/-- How a magnitude between two neighbours is rounded (R63, R67, R202): to nearest even, up when the
16-bit draw is below the fraction, away from zero, or toward zero. -/
inductive Rnd where
  | rne
  | stoch (r : Nat)
  | away
  | trunc
  deriving DecidableEq, Repr

/-- m × 2^e to a multiple of 2^q: the multiplier. -/
def roundQ (rnd : Rnd) (m : Nat) (e q : Int) : Nat :=
  if q ≤ e then m * 2 ^ (e - q).toNat
  else
    let sh := (q - e).toNat
    let lo := m / 2 ^ sh
    let rem := m % 2 ^ sh
    match rnd with
    | .rne =>
      if 2 * rem > 2 ^ sh ∨ (2 * rem = 2 ^ sh ∧ lo % 2 = 1) then lo + 1 else lo
    | .stoch r => if r < rem * 65536 / 2 ^ sh then lo + 1 else lo
    | .away => if rem = 0 then lo else lo + 1
    | .trunc => lo

/-- What rounding into a format gives: a finite raw magnitude, or an overflow. -/
def roundMag (f : FFmt) (rnd : Rnd) (m : Nat) (e : Int) : Option Nat :=
  if m = 0 then some 0
  else
    let q := max (e + (Nat.log2 m : Int) - f.mbits) f.qmin
    let k := roundQ rnd m e q
    let k' := if k = 2 ^ (f.mbits + 1) then 2 ^ f.mbits else k
    let q' := if k = 2 ^ (f.mbits + 1) then q + 1 else q
    if k' < 2 ^ f.mbits then some k'
    else
      let ex := (q' - f.qmin).toNat + 1
      let raw := ex * 2 ^ f.mbits + (k' - 2 ^ f.mbits)
      let max := match f.top with
        | 0 => (2 ^ f.ebits - 1) * 2 ^ f.mbits - 1
        | 1 => 2 ^ (f.ebits + f.mbits) - 2
        | _ => 2 ^ (f.ebits + f.mbits) - 1
      if raw ≤ max then some raw else none

/-- The largest finite magnitude of a format. -/
def FFmt.maxRaw (f : FFmt) : Nat :=
  match f.top with
  | 0 => (2 ^ f.ebits - 1) * 2 ^ f.mbits - 1
  | 1 => 2 ^ (f.ebits + f.mbits) - 2
  | _ => 2 ^ (f.ebits + f.mbits) - 1

/-- The canonical NaN of a format (R61). -/
def FFmt.nanRaw (f : FFmt) : Nat :=
  match f.top with
  | 0 => (2 ^ f.ebits - 1) * 2 ^ f.mbits + 2 ^ (f.mbits - 1)
  | _ => 2 ^ (f.ebits + f.mbits) - 1

/-- The raw infinity of a format with infinities. -/
def FFmt.infRaw (f : FFmt) : Nat := (2 ^ f.ebits - 1) * 2 ^ f.mbits

/-- The sign bit of a format. -/
def FFmt.signBit (f : FFmt) (neg : Bool) : Nat := if neg then 2 ^ (f.ebits + f.mbits) else 0

/-- An FP32 result, rounded to nearest even; overflow gives infinity (R61). -/
def toF32 (v : FVal) : W32 :=
  match v with
  | .nan => 0x7FC00000
  | .inf n => BitVec.ofNat 32 (fp32.signBit n + fp32.infRaw)
  | .fin n m e =>
    match roundMag fp32 .rne m e with
    | some r => BitVec.ofNat 32 (fp32.signBit n + r)
    | none => BitVec.ofNat 32 (fp32.signBit n + fp32.infRaw)

/-- The largest finite FP32 magnitude. -/
def f32Max : Nat := fp32.maxRaw

/-- An FP32 result rounded toward +infinity (`up`) or toward −infinity (R202). -/
def toF32Dir (up : Bool) (v : FVal) : W32 :=
  match v with
  | .nan => 0x7FC00000
  | .inf n => BitVec.ofNat 32 (fp32.signBit n + fp32.infRaw)
  | .fin n m e =>
    let out := up != n
    match roundMag fp32 (if out then .away else .trunc) m e with
    | some r => BitVec.ofNat 32 (fp32.signBit n + r)
    | none => BitVec.ofNat 32 (fp32.signBit n + (if out then fp32.infRaw else f32Max))

/-- The value of an FP32 word. -/
def ofF32 (w : W32) : FVal := fdec fp32 w.toNat

/-- The signed numerator of a finite value at a common exponent. -/
def signed (neg : Bool) (m : Nat) : Int := if neg then -(m : Int) else m

/-- Exact sum (R61): opposite infinities give NaN; an exact zero is +0 unless both are −0. -/
def vadd (a b : FVal) : FVal :=
  match a, b with
  | .nan, _ | _, .nan => .nan
  | .inf x, .inf y => if x = y then .inf x else .nan
  | .inf x, _ => .inf x
  | _, .inf y => .inf y
  | .fin n m e, .fin n' m' e' =>
    let q := min e e'
    let t := signed n (m * 2 ^ (e - q).toNat) + signed n' (m' * 2 ^ (e' - q).toNat)
    if t = 0 then .fin (n && n') 0 q else .fin (t < 0) t.natAbs q

/-- Exact product (R61): infinity times zero gives NaN. -/
def vmul (a b : FVal) : FVal :=
  match a, b with
  | .nan, _ | _, .nan => .nan
  | .inf x, .inf y => .inf (x != y)
  | .inf x, .fin n m _ => if m = 0 then .nan else .inf (x != n)
  | .fin n m _, .inf y => if m = 0 then .nan else .inf (n != y)
  | .fin n m e, .fin n' m' e' => .fin (n != n') (m * m') (e + e')

/-- Negation and magnitude. -/
def vneg : FVal → FVal
  | .nan => .nan | .inf n => .inf (!n) | .fin n m e => .fin (!n) m e
def vabs : FVal → FVal
  | .nan => .nan | .inf _ => .inf false | .fin _ m e => .fin false m e

/-- An integer as a value, times a power of two. -/
def vint (i : Int) (e : Int := 0) : FVal := .fin (i < 0) i.natAbs e

/-- FP32 operations, one rounding each. -/
def fadd (a b : W32) : W32 := toF32 (vadd (ofF32 a) (ofF32 b))
def fsub (a b : W32) : W32 := toF32 (vadd (ofF32 a) (vneg (ofF32 b)))
def fmul (a b : W32) : W32 := toF32 (vmul (ofF32 a) (ofF32 b))
def ffma (a b c : W32) : W32 := toF32 (vadd (vmul (ofF32 a) (ofF32 b)) (ofF32 c))

/-- Quotient of positive magnitudes with two guard bits and a sticky bit. -/
def quotMag (m m' : Nat) : Nat × Int :=
  let sh := Nat.log2 m' + 30
  let q := m * 2 ^ sh / m'
  let r := m * 2 ^ sh % m'
  (2 * q + (if r = 0 then 0 else 1), -(sh : Int) - 1)

/-- FP32 division, rounded once. -/
def fdiv (a b : W32) : W32 :=
  match ofF32 a, ofF32 b with
  | .nan, _ | _, .nan => 0x7FC00000
  | .inf _, .inf _ => 0x7FC00000
  | .inf x, .fin n _ _ => toF32 (.inf (x != n))
  | .fin n _ _, .inf y => toF32 (.fin (n != y) 0 0)
  | .fin n m e, .fin n' m' e' =>
    if m' = 0 then (if m = 0 then 0x7FC00000 else toF32 (.inf (n != n')))
    else toF32 (.fin (n != n') (quotMag m m').1 ((quotMag m m').2 + e - e'))

/-- Integer square root by bisection from the top bit. -/
def isqrtFrom : Nat → Nat → Nat → Nat
  | 0, _, acc => acc
  | k + 1, n, acc =>
    let t := acc + 2 ^ k
    isqrtFrom k n (if t * t ≤ n then t else acc)

/-- FP32 square root, rounded once. -/
def fsqrt (a : W32) : W32 :=
  match ofF32 a with
  | .nan => 0x7FC00000
  | .inf false => a
  | .inf true => 0x7FC00000
  | .fin n m e =>
    if m = 0 then a
    else if n then 0x7FC00000
    else
      let sh : Nat := if (e % 2 = 0) then 64 else 65
      let n := m * 2 ^ sh
      let r := isqrtFrom 64 n 0
      toF32 (.fin false (2 * r + (if r * r = n then 0 else 1)) ((e - sh) / 2 - 1))

/-- IEEE comparison: a < b; false with a NaN. -/
def flt (a b : W32) : Bool :=
  match ofF32 a, ofF32 b with
  | .nan, _ | _, .nan => false
  | .inf x, .inf y => x && !y
  | .inf x, _ => x
  | _, .inf y => !y
  | .fin n m e, .fin n' m' e' =>
    let q := min e e'
    decide (signed n (m * 2 ^ (e - q).toNat) < signed n' (m' * 2 ^ (e' - q).toNat))

/-- Is the word a NaN? -/
def fnan (a : W32) : Bool := ofF32 a == .nan
/-- IEEE equality; +0 and −0 are equal. -/
def feq (a b : W32) : Bool := !fnan a && !fnan b && !flt a b && !flt b a
/-- a ≤ b. -/
def fle (a b : W32) : Bool := flt a b || feq a b

/-! ### Fractions of physical quantities -/

/-- The exact rational value of an FP32 word; NaN and infinities read 0. -/
def ratF32 (w : W32) : Rat :=
  match ofF32 w with
  | .fin n m e => (signed n m : Rat) * (if 0 ≤ e then (2 : Rat) ^ e.toNat else 1 / (2 : Rat) ^ (-e).toNat)
  | _ => 0

/-- A rational rounded to nearest even in FP32. -/
def f32OfRat (q : Rat) : W32 :=
  toF32 (.fin (q < 0) (quotMag (q.num.natAbs * 2 ^ 160) q.den).1
    ((quotMag (q.num.natAbs * 2 ^ 160) q.den).2 - 160))

/-- The FP32 word of a natural number. -/
def f32OfNat (n : Nat) : W32 := toF32 (.fin false n 0)

/-! ### Element formats (R54) -/

/-- The format code and plane field are legal (R54). -/
def fmtOk (code : Nat) : Bool := code < 14

/-- Bits of an element. -/
def elemBits (code : Nat) : Nat :=
  match code with
  | 0 | 13 => 32
  | 1 | 2 | 11 => 16
  | 7 | 10 => 4
  | _ => 8

/-- The floating-point format of a code, if it is one. -/
def ffmtOf (code : Nat) : Option FFmt :=
  match code with
  | 0 => some fp32 | 1 => some bf16 | 2 => some fp16
  | 3 | 5 => some e4m3 | 4 | 6 => some e5m2 | 7 => some e2m1
  | _ => none

/-- Two's complement value of n bits. -/
def sext (n raw : Nat) : Int := if raw < 2 ^ (n - 1) then raw else (raw : Int) - 2 ^ n

/-- The value of an element before any block scale; MXINT8 carries 2^−6 (R51), a strata element is
sign and magnitude over 128 (R52). -/
def elemVal (code raw : Nat) : FVal :=
  match ffmtOf code with
  | some f => fdec f raw
  | none =>
    match code with
    | 8 => vint (sext 8 raw)
    | 9 => vint (sext 8 raw) (-6)
    | 10 => vint (sext 4 raw)
    | 11 => vint (sext 16 raw)
    | 12 => .fin (raw / 128 % 2 == 1) (raw % 128) (-7)
    | _ => vint (sext 32 raw)

/-- The power of two of an E8M0 scale byte; 0xFF is NaN. -/
def scaleVal (x : Nat) : FVal := if x = 255 then .nan else .fin false 1 ((x : Int) - 127)

/-- A value times a block scale. -/
def vscale (x : Nat) (v : FVal) : FVal := vmul (scaleVal x) v

/-- Is a word finite? -/
def ffinite (w : W32) : Bool := match ofF32 w with | .fin _ _ _ => true | _ => false

/-! ### Conversion (R63, R64) -/

/-- What a conversion counts (R73). -/
structure ConvCount where
  overflow : Nat := 0
  sat : Nat := 0
  nanZero : Nat := 0
  sr : Nat := 0
  nanScale : Nat := 0
  invalid : Nat := 0
  deriving DecidableEq, Repr

/-- Counts added. -/
def ConvCount.plus (a b : ConvCount) : ConvCount :=
  ⟨a.overflow + b.overflow, a.sat + b.sat, a.nanZero + b.nanZero, a.sr + b.sr,
    a.nanScale + b.nanScale, a.invalid + b.invalid⟩

/-- The conversion control is legal: rnd 0 or 1, ovf 0, 1 or 2 (R63). -/
def convOk (conv : Nat) : Bool := conv / 4 % 4 < 2 && conv % 4 < 3

/-- Does the control select stochastic rounding? -/
def convSr (conv : Nat) : Bool := conv / 4 % 4 == 1

/-- SAT applies to a target: NONSAT is the default of BF16 and FP16 (R64). -/
def convSat (code conv : Nat) : Bool :=
  match conv % 4 with
  | 1 => true
  | 2 => false
  | _ => code != 1 && code != 2

/-- Integer targets clamp (R64): INT8 and MXINT8 to ±127 (R61), INT4, INT16, INT32. -/
def intRange (code : Nat) : Int × Int :=
  match code with
  | 8 | 9 => (-127, 127)
  | 10 => (-8, 7)
  | 11 => (-32768, 32767)
  | _ => (-2147483648, 2147483647)

/-- A two's complement field. -/
def intRaw (n : Nat) (i : Int) : Nat := (i % 2 ^ n).toNat

/-- Conversion of a value into a floating-point target. -/
def convFloat (f : FFmt) (sat : Bool) (rnd : Rnd) (v : FVal) : Nat × ConvCount :=
  match v with
  | .nan => if f.top = 2 then (0, { nanZero := 1 }) else (f.nanRaw, {})
  | .inf n =>
    match f.top with
    | 0 => (f.signBit n + f.infRaw, {})
    | 1 => if sat then (f.signBit n + f.maxRaw, { sat := 1 }) else (f.nanRaw, { overflow := 1 })
    | _ => (f.signBit n + f.maxRaw, { sat := 1 })
  | .fin n m e =>
    match roundMag f rnd m e with
    | some r => (f.signBit n + r, {})
    | none =>
      if f.top = 2 ∨ sat then (f.signBit n + f.maxRaw, { sat := 1 })
      else if f.top = 0 then (f.signBit n + f.infRaw, { overflow := 1 })
      else (f.nanRaw, { overflow := 1 })

/-- Conversion of a value into an integer target. -/
def convInt (code : Nat) (rnd : Rnd) (v : FVal) : Nat × ConvCount :=
  let w := elemBits code
  let (lo, hi) := intRange code
  match v with
  | .nan => (0, { nanZero := 1 })
  | .inf n => (intRaw w (if n then lo else hi), { sat := 1 })
  | .fin n m e =>
    let q : Int := if code = 9 then -6 else 0
    let i := signed n (roundQ rnd m e q)
    if i < lo then (intRaw w lo, { sat := 1 })
    else if hi < i then (intRaw w hi, { sat := 1 })
    else (intRaw w i, {})

/-- One strata element from a value already divided by its scale (R66): sign and magnitude. -/
def strataElem (conv draw : Nat) (v : FVal) : Nat × ConvCount :=
  match v with
  | .fin n m e =>
    let k := roundQ (if convSr conv then .stoch draw else .rne) m e (-7)
    ((if n then 128 else 0) + min k 127, if 127 < k then { sat := 1 } else {})
  | .inf n => ((if n then 128 else 0) + 127, { sat := 1 })
  | .nan => (0, { nanZero := 1 })

/-- Conversion of one element under a control; FP32 and INT32 targets round to nearest even, and a bare strata
element saturates its magnitude at 127. (DESIGN CHOICE, log 157) -/
def convElem (code conv draw : Nat) (v : FVal) : Nat × ConvCount :=
  let rnd := if convSr conv then Rnd.stoch draw else .rne
  match ffmtOf code with
  | some f =>
    if code = 0 then ((toF32 v).toNat, {})
    else convFloat f (convSat code conv) rnd v
  | none => if code = 12 then strataElem conv draw v else if code = 13 then convInt 13 .rne v else convInt code rnd v

/-! ### The stochastic-rounding generator (R68) -/

/-- One step of the shift register. -/
def lfsrStep (w : W32) : W32 :=
  (w <<< 1) ||| (BitVec.ofNat 32
    ((w.toNat / 2 ^ 31 + w.toNat / 2 ^ 21 + w.toNat / 2 + w.toNat) % 2))

/-- n steps. -/
def lfsr : Nat → W32 → W32
  | 0, w => w
  | n + 1, w => lfsr n (lfsrStep w)

/-- The generator after one draw, and the 16-bit draw. -/
def srDraw (g : W32) : W32 × Nat := (lfsr 16 g, (lfsr 16 g).toNat % 65536)

/-- The value a generator g of logical die d starts with from a seed (R68). -/
def srSeed (seed : W32) (d g : Nat) : W32 :=
  let v := seed ^^^ BitVec.ofNat 32 ((d * 32 + g + 1) * 0x9E3779B9)
  if v = 0 then 1 else v

/-- Every value of the source format is one of the target format: such a conversion ignores the control and draws
nothing (R63, R68). -/
def convExact (src dst : Nat) : Bool :=
  dst == 0 || dst == 13 || src == dst && (src == 1 || src == 2 || src == 3 || src == 4 || src == 8 || src == 10 || src == 11)
    || (src == 3 || src == 4 || src == 8 || src == 10) && (dst == 1 || dst == 2)
    || src == 10 && (dst == 3 || dst == 4 || dst == 8 || dst == 11) || src == 8 && dst == 11

/-- Elements of a list converted in order, each drawing when the control asks for it. -/
def convList (code conv : Nat) (g : W32) : List FVal → List Nat × W32 × ConvCount
  | [] => ([], g, {})
  | v :: vs =>
    let draws := convSr conv && code != 0 && code != 13
    let (g', r) := if draws then srDraw g else (g, 0)
    let (x, k) := convElem code conv r v
    let (xs, g'', ks) := convList code conv g' vs
    (x :: xs, g'', (k.plus ks).plus (if draws then { sr := 1 } else {}))

/-! ### MX and strata blocks (R65, R66) -/

/-- floor(log2 |v|) of the largest magnitude of a block; none when every element is zero. -/
def blockExp : List FVal → Option Int
  | [] => none
  | v :: vs =>
    match v, blockExp vs with
    | .fin _ m e, r =>
      if m = 0 then r
      else
        let x := e + (Nat.log2 m : Int)
        some (match r with | some y => max x y | none => x)
    | _, r => r

/-- Does a block hold a NaN or an infinity? -/
def blockSpecial (vs : List FVal) : Bool :=
  vs.any (fun v => match v with | .fin _ _ _ => false | _ => true)

/-- emax of an MX element format (R65). -/
def mxEmax (code : Nat) : Int :=
  match code with | 5 => 8 | 6 => 15 | 7 => 2 | _ => 0

/-- A block scaled down by 2^E. -/
def scaleDown (x : Nat) (vs : List FVal) : List FVal :=
  vs.map (fun v => vmul (.fin false 1 (127 - (x : Int))) v)

/-- An FP32 block to an MX block (R65): scale byte and elements. -/
def mxBlock (code conv : Nat) (g : W32) (vs : List FVal) : Nat × List Nat × W32 × ConvCount :=
  if blockSpecial vs then
    (0xFF, vs.map (fun _ => 0), if convSr conv then lfsr (16 * vs.length) g else g,
      { nanScale := 1, sr := if convSr conv then vs.length else 0 })
  else
    let x := match blockExp vs with
      | none => 0
      | some e => (max 0 (min 254 (e - mxEmax code + 127))).toNat
    let (es, g', k) := convList code conv g (scaleDown x vs)
    (x, es, g', k)

/-- Strata elements in order. -/
def strataList (conv : Nat) (g : W32) : List FVal → List Nat × W32 × ConvCount
  | [] => ([], g, {})
  | v :: vs =>
    let (g', r) := if convSr conv then srDraw g else (g, 0)
    let (x, k) := strataElem conv r v
    let (xs, g'', ks) := strataList conv g' vs
    (x :: xs, g'', (k.plus ks).plus (if convSr conv then { sr := 1 } else {}))

/-- An FP32 block to a strata block (R66). -/
def strataBlock (conv : Nat) (g : W32) (vs : List FVal) : Nat × List Nat × W32 × ConvCount :=
  if blockSpecial vs then
    (0xFF, vs.map (fun _ => 0), if convSr conv then lfsr (16 * vs.length) g else g,
      { nanScale := 1, sr := if convSr conv then vs.length else 0 })
  else
    let x := match blockExp vs with
      | none => 0
      | some e => (max 0 (min 254 (e + 1 + 127))).toNat
    let (es, g', k) := strataList conv g (scaleDown x vs)
    (x, es, g', k)

/-- Truncated magnitude of k planes (R52). -/
def strataTrunc (k mag : Nat) : Nat := mag / 2 ^ (8 - k) * 2 ^ (8 - k)

/-- Filled magnitude of a STRATA-k weight (R52). -/
def strataFill (k mag : Nat) : Nat :=
  if k = 1 then 64
  else if 8 ≤ k then mag
  else
    let t := strataTrunc k mag
    if t = 0 then 0 else t + 2 ^ (7 - k)

/-- A STRATA-k weight's value before its block scale. -/
def strataVal (k raw : Nat) : FVal := .fin (raw / 128 % 2 == 1) (strataFill k (raw % 128)) (-7)

/-! ### Counting (R73) -/

/-- The arithmetic counters of a record rise by what a conversion counted. -/
def State.countConv (s : State) (record : Nat) (k : ConvCount) : State :=
  (((((s.count .arith record 0x00 k.invalid).count .arith record 0x04 k.overflow).count
    .arith record 0x08 k.sat).count .arith record 0x0C k.nanScale).count
    .arith record 0x10 k.nanZero).count .arith record 0x14 k.sr

/-- What an FP32 operation on operands counts (R73): a NaN made from operands that are none, and, for an addition, an
overflow of finite operands. -/
def arithNote (adds : Bool) (xs : List W32) (r : W32) : ConvCount :=
  if fnan r then { invalid := b2n (!xs.any fnan) }
  else if adds && !ffinite r && xs.all ffinite then { overflow := 1 } else {}

/-- An addition, with its counts. -/
def addNote (a : W32 × ConvCount) (b : W32) : W32 × ConvCount :=
  (fadd a.1 b, a.2.plus (arithNote true [a.1, b] (fadd a.1 b)))

/-- A value is neither NaN nor an infinity. -/
def FVal.isFin : FVal → Bool
  | .fin _ _ _ => true
  | _ => false

/-- An exact product is added to an FP32 sum, with its counts (R60, R73). -/
def sumNote (a : W32 × ConvCount) (p : FVal) : W32 × ConvCount :=
  let r := toF32 (vadd (ofF32 a.1) p)
  (r, a.2.plus (if fnan r then { invalid := b2n (!fnan a.1 && p != .nan) }
    else if !ffinite r && ffinite a.1 && p.isFin then { overflow := 1 } else {}))

/-- A product of two elements, with its count (R61, R73). -/
def mulNote (a b : FVal) : FVal × ConvCount :=
  (vmul a b, { invalid := b2n (vmul a b == .nan && a != .nan && b != .nan) })

/-- A list of counts added. -/
def sumCounts (l : List ConvCount) : ConvCount := l.foldl ConvCount.plus {}

/-- Arithmetic record of a logical tile, of an engine (R74). -/
def arithTile (d t : Nat) : Nat := d * 16 + t
def arithEngine (d e : Nat) : Nat := 2304 + d * 8 + e

/-- R58: the activation formats that a weight format accepts. -/
def pairOk (w a : Nat) : Bool :=
  match w with
  | 3 | 4 => a == 3 || a == 4
  | 5 | 6 | 7 => a == 5 || a == 6 || a == 3 || a == 4
  | 8 | 10 => a == 8 || a == 11
  | 9 | 12 => a == 9 || a == 8 || a == 11
  | 1 | 2 => a == 1 || a == 2 || a == 3 || a == 4
  | _ => false

end Sys2Proof.Machine
end

