-- ==== Sys2Proof/Machine/Cal.lean ====
section
/-! DEFINITION. The calibration table (R505–R507) and the coolant values (R388, R389). -/

namespace Sys2Proof.Machine

/-- Elements of a section (R506). -/
def calCount (sec : Nat) : Nat :=
  match sec with
  | 1 | 2 => 3588 | 3 | 4 => 6228 | 5 => 468 | 6 => 7276 | 7 => 2184 | 8 => 1536 | 9 => 156 | _ => 6

/-- Bytes of an element (R506). -/
def calBytesPer (sec : Nat) : Nat :=
  match sec with
  | 5 => 1 | 9 | 10 => 4 | _ => 2

/-- The factory's values: the manual gives ranges only, so these are the model's. (DESIGN CHOICE, log 19) -/
def calFactory (sec i : Nat) : Int :=
  match sec with
  | 1 => 550 + 15 * ((i % 23 : Nat) : Int)
  | 2 => if i % 23 = 0 then 0 else 16
  | 3 => 2048
  | 4 => 0x0810
  | 5 => [20, 35, 50].getD (i % 3) 0
  | 6 => 0
  | 7 => 32768
  | 8 => 5000
  | 9 => 100
  | _ => [0x3FC00000, 0x3FA00000, 0x3F900000, 0x3F800000, 0x3F600000, 0x3F400000].getD i 0

/-- The value of an element. -/
def State.cal (s : State) (sec i : Nat) : Int := tget (calFactory sec i) (s.boot.cal.getD (sec - 1) []) i

/-- One element's range (R506); section 4 packs act in [15:8] and warn in [7:0]; section 10 is F32. -/
def calElemOk (sec i : Nat) (v : Int) : Bool :=
  match sec with
  | 1 => 550 ≤ v && v ≤ 950
  | 2 => 0 ≤ v && v ≤ 300 && (i % 23 != 0 || v == 0)
  | 3 => 0 ≤ v && v ≤ 4095
  | 4 => 0 ≤ v && v < 65536 && v / 256 < v % 256 && v % 256 ≤ 60
  | 5 => 5 ≤ v && v ≤ 100
  | 6 => -1000 ≤ v && v ≤ 1000
  | 7 => 24576 ≤ v && v ≤ 40960
  | 8 => 100 ≤ v && v ≤ 20000
  | 9 => 1 ≤ v && v ≤ 10000
  | _ => decide ((1 : Rat) / 10 ≤ ratF32 (BitVec.ofInt 32 v)) && decide (ratF32 (BitVec.ofInt 32 v) ≤ 5)

/-- The value an element has in a new table, whose entries differ from the factory's. -/
def calNew (t : List (Tbl Int)) (sec i : Nat) : Int := tget (calFactory sec i) (t.getD (sec - 1) []) i

/-- The order that a section keeps between neighbours (R506): Vcal non-decreasing in N, droop levels
ascending per die, θcal non-increasing. -/
def calPairOk (t : List (Tbl Int)) (sec i : Nat) : Bool :=
  match sec with
  | 1 => i % 23 == 22 || decide (calNew t 1 i ≤ calNew t 1 (i + 1))
  | 5 => i % 3 == 2 || decide (calNew t 5 i < calNew t 5 (i + 1))
  | 10 => i == 5 || decide (ratF32 (BitVec.ofInt 32 (calNew t 10 (i + 1)))
      ≤ ratF32 (BitVec.ofInt 32 (calNew t 10 i)))
  | _ => true

/-- A section is in range: only elements that differ from the factory's can be out of it. -/
def calSectionOk (t : List (Tbl Int)) (sec : Nat) : Bool :=
  (t.getD (sec - 1) []).all (fun p =>
    decide (p.1 < calCount sec) && calElemOk sec p.1 p.2 && calPairOk t sec p.1
      && (p.1 == 0 || calPairOk t sec (p.1 - 1)))

/-- Every value of a table is in range. -/
def calOk (t : List (Tbl Int)) : Bool := (List.range 10).all (fun k => calSectionOk t (k + 1))

/-- Offset of a section: 32 + 160 bytes, then sections padded to 8. -/
def calOffset : Nat → Nat
  | 0 => 192
  | 1 => 192
  | sec + 2 => calOffset (sec + 1)
      + (calCount (sec + 1) * calBytesPer (sec + 1) + 7) / 8 * 8

/-- The directory (R505): id, element bytes, count, offset. -/
def calDirectory : List (Nat × Nat × Nat × Nat) :=
  (List.range 10).map (fun k => (k + 1, calBytesPer (k + 1), calCount (k + 1), calOffset (k + 1)))

/-- Bytes of the whole table. -/
def calLength : Nat := calOffset 10 + 24

/-- The bytes of the table (R505). -/
def State.calTable (s : State) : Bytes :=
  [0x51, 0x43, 0x41, 0x4C] ++ toLe 2 1 ++ [s.boot.calOrigin, 10]
    ++ toLe 8 s.anat.serial.toNat ++ toLe 4 s.boot.calGen.toNat ++ List.replicate 12 0
    ++ calDirectory.flatMap (fun e => [BitVec.ofNat 8 e.1, BitVec.ofNat 8 e.2.1, 0, 0]
        ++ toLe 4 e.2.2.1 ++ toLe 4 e.2.2.2 ++ [0, 0, 0, 0])
    ++ (List.range 10).flatMap (fun k =>
        let sec := k + 1
        let b := (List.range (calCount sec)).flatMap (fun i =>
          toLe (calBytesPer sec) ((s.cal sec i) % 2 ^ 32).toNat)
        b ++ List.replicate ((8 - b.length % 8) % 8) 0)

/-- A new table comes into force (R507, R508): origin, generation and event 0x3011. -/
def State.putCal (s : State) (t : List (Tbl Int)) (origin : Byte) : State :=
  { s with boot := { s.boot with
      cal := t, calOrigin := origin, calGen := s.boot.calGen + 1 } }.event 0x3011 none (locHub 0)

/-! ### Coolant (R388, R389, R391) -/

/-- The fallback of a coolant value: inlet 45 °C, flow 40 L/min (R388). -/
def coolantFallback (which : Nat) : W32 :=
  match which with
  | 0 => 0x42340000
  | 2 => 0x42200000
  | _ => 0

/-- The value used: the fallback in timeout, otherwise the median kept. -/
def State.coolant (s : State) (which : Nat) : W32 :=
  if s.thm.timeout.getLsbD which then coolantFallback which
  else tget (coolantFallback which) s.thm.used which

/-- The coolant qualifies for leaving BOOT (R389). -/
def State.coolantOk (s : State) : Bool :=
  !s.thm.timeout.getLsbD 0 && !s.thm.timeout.getLsbD 2
    && fle 0x42200000 (s.coolant 2) && fle (s.coolant 0) 0x42340000

/-- θcal at a flow: six points, linear between, constant beyond (R391, R506). -/
def State.thetaCal (s : State) (flow : Rat) : Rat :=
  let p (i : Nat) : Rat := ratF32 (BitVec.ofInt 32 (s.cal 10 i))
  let seg (a b : Rat) (i : Nat) : Rat := p i + (p (i + 1) - p i) * (flow - a) / (b - a)
  if flow ≤ 40 then p 0
  else if flow ≤ 60 then seg 40 60 0
  else if flow ≤ 80 then seg 60 80 1
  else if flow ≤ 100 then seg 80 100 2
  else if flow ≤ 150 then seg 100 150 3
  else if flow ≤ 200 then seg 150 200 4
  else p 5

end Sys2Proof.Machine
end

