-- ==== Sys2Proof/Machine/Curve.lean ====
section
/-! DEFINITION. The element functions of the curve engine (R130): enclosures of the exact results in fixed point of
160 fraction bits, and the error bound that a result of the engine keeps. -/

namespace Sys2Proof.Machine

/-! ### Fixed point -/

/-- One in fixed point. -/
def fxOne : Int := 2 ^ 160

/-- ln 2 and √(2/π) in fixed point. -/
def fxLn2 : Int := 1013035739299659071135698605846798551586536899366
def fxRoot2Pi : Int := 1166109592014436081468383460887399764390691815008

/-- A product, and a quotient by a positive number. -/
def fxMul (a b : Int) : Int := a * b / 2 ^ 160
def fxDiv (a b : Int) : Int := a * 2 ^ 160 / b

/-- A finite value in fixed point; exact for every FP32 value. -/
def fxOf (neg : Bool) (m : Nat) (e : Int) : Int := signed neg (m * 2 ^ (e + 160).toNat)

/-- n terms of Σ r^i / i! from term i, whose value is t. -/
def fxExpSum (r : Int) : Nat → Nat → Int → Int
  | 0, _, _ => 0
  | n + 1, i, t => t + fxExpSum r n (i + 1) (fxMul t r / (i + 1 : Nat))

/-- e^x as a fixed-point number times a power of two. -/
def fxExp (x : Int) : Int × Int :=
  let n := x / fxLn2
  (fxExpSum (x - n * fxLn2) 48 0 fxOne, n)

/-- e^−|x|, zero from 128 on. -/
def fxExpNeg (x : Int) : Int :=
  if 128 * fxOne ≤ x then 0
  else
    let (c, n) := fxExp (-x)
    c / 2 ^ (-n).toNat

/-- n terms of Σ z^(2i+1) / (2i+1) from term i, whose power is p. -/
def fxAtanhSum (z2 : Int) : Nat → Nat → Int → Int
  | 0, _, _ => 0
  | n + 1, i, p => p / (2 * i + 1 : Nat) + fxAtanhSum z2 n (i + 1) (fxMul p z2)

/-- ln of m × 2^e, m above 0. -/
def fxLog (m : Nat) (e : Int) : Int :=
  let b := Nat.log2 m
  let y : Int := (m * 2 ^ 161 / 2 ^ b : Nat)
  let up := 3 * fxOne < y
  let y := if up then y / 4 else y / 2
  let k := e + b + (if up then 1 else 0)
  let z := fxDiv (y - fxOne) (y + fxOne)
  2 * fxAtanhSum (fxMul z z) 72 0 z + k * fxLn2

/-- n terms of Σ (−1)^i x^(2i+1) / (2^i i! (2i+1)) from term i, whose leading part is t. -/
def fxErfSum (x2 : Int) : Nat → Nat → Int → Int
  | 0, _, _ => 0
  | n + 1, i, t => t / (2 * i + 1 : Nat) + fxErfSum x2 n (i + 1) (-(fxMul t x2 / (2 * (i + 1) : Nat)))

/-- The exact result of an element function of a finite operand, as a number times a power of two: EXP, LOG of a
value above 0, GELU in its erf form, SILU, SIGMOID and TANH. -/
def curveExact (op : Nat) (neg : Bool) (m : Nat) (e : Int) : Int × Int :=
  let small := decide (e + (Nat.log2 m : Int) < 7)
  let x := if small then fxOf neg m e else signed neg (2 ^ 167)
  let a := x.natAbs
  match op with
  | 0x10 => if small then ((fxExp x).1, (fxExp x).2 - 160) else if neg then (0, 0) else (1, 200)
  | 0x11 => (fxLog m e, -160)
  | 0x15 =>
    if 8 * fxOne ≤ (a : Int) then (if neg then (0, 0) else (m, e))
    else
      let erf := fxMul fxRoot2Pi (fxErfSum (fxMul x x) 200 0 x)
      (fxMul x (fxOne + erf), -161)
  | 0x16 | 0x17 =>
    let t := fxExpNeg a
    let g := if neg then fxDiv t (fxOne + t) else fxDiv fxOne (fxOne + t)
    if op = 0x17 then (g, -160)
    else if small then (fxMul x g, -160) else if neg then (0, 0) else (m, e)
  | _ =>
    let t := fxExpNeg (2 * a)
    let g := fxDiv (fxOne - t) (fxOne + t)
    (if neg then -g else g, -160)

/-! ### The bound -/

/-- The exponent of one ULP of FP32 at a magnitude m × 2^e. -/
def ulpExp (m : Nat) (e : Int) : Int := if m = 0 then -149 else max (-149) (e + (Nat.log2 m : Int) - 23)

/-- A finite FP32 word lies within n ULP of c × 2^e, or, where `abs16` is set, within 2^−16 of it. -/
def withinCurve (n : Nat) (abs16 : Bool) (c e : Int) (cand : W32) : Bool :=
  match ofF32 cand with
  | .fin neg m k =>
    let u := ulpExp c.natAbs e
    let lo := min k (min e (min u (-16)))
    let v := signed neg (m * 2 ^ (k - lo).toNat)
    let x := c * 2 ^ (e - lo).toNat
    let bound : Nat := n * 2 ^ (u - lo).toNat
    let bound := if abs16 then max bound (2 ^ (-16 - lo).toNat) else bound
    decide ((v - x).natAbs ≤ bound)
  | _ => false

/-- A result of an element function of R130's table that keeps its bound: the candidate where it does, the rounded
exact result otherwise. -/
def curveBounded (op : Nat) (neg : Bool) (m : Nat) (e : Int) (cand : W32) : W32 :=
  let (c, k) := curveExact op neg m e
  let wide := 0x15 ≤ op
  if withinCurve (if wide then 4 else 2) wide c k cand then cand else toF32 (.fin (c < 0) c.natAbs k)

end Sys2Proof.Machine
end

