-- ==== Sys2Proof/Machine/Link.lean ====
section
/-! DEFINITION. Links of the fabric and routes over the torus (R304–R318): directions, the choice of vent
die, frames and their credits. -/

namespace Sys2Proof.Machine

/-! ### The torus (R306, R315, R316) -/

/-- The panel's own coordinate in force (R315). -/
def State.coord (s : State) : Nat × Nat × Nat :=
  let w := s.obj 0x7000 0x01
  (bits w 0 5, bits w 5 5, bits w 10 4)

/-- Sizes of the torus in force; a standalone panel has 1 in each dimension (R315). -/
def State.dims (s : State) : Nat × Nat × Nat :=
  let w := s.obj 0x7000 0x02
  (bits w 0 5 + 1, bits w 5 5 + 1, bits w 10 4 + 1)

/-- Panel linear index (R311). -/
def panelIndex (p : Nat × Nat × Nat) : Nat := (p.2.2 * 32 + p.2.1) * 32 + p.1

/-- Coordinate and size in a dimension: 0 x, 1 y, 2 z. -/
def axis (p : Nat × Nat × Nat) (i : Nat) : Nat := if i = 0 then p.1 else if i = 1 then p.2.1 else p.2.2

/-- The panel with a coordinate replaced. -/
def setAxis (p : Nat × Nat × Nat) (i v : Nat) : Nat × Nat × Nat :=
  if i = 0 then (v, p.2.1, p.2.2) else if i = 1 then (p.1, v, p.2.2) else (p.1, p.2.1, v)

/-- The coordinate one step in a direction (2i positive, 2i + 1 negative). -/
def stepAxis (n v : Nat) (neg : Bool) : Nat := if neg then (v + n - 1) % n else (v + 1) % n

/-- The neighbour panel in direction d. -/
def State.neighbour (s : State) (d : Nat) : Nat × Nat × Nat :=
  setAxis s.coord (d / 2) (stepAxis (max 1 (axis s.dims (d / 2))) (axis s.coord (d / 2)) (d % 2 == 1))

/-- The arc from a panel crosses a down link in the sign given, over n steps. -/
def State.arcDown (s : State) (i : Nat) (neg : Bool) : Nat → Nat × Nat × Nat → Bool
  | 0, _ => false
  | n + 1, p =>
    s.fab.down.contains (BitVec.ofNat 16 (panelIndex p), BitVec.ofNat 8 (2 * i + (if neg then 1 else 0)))
      || s.arcDown i neg n (setAxis p i (stepAxis (axis s.dims i) (axis p i) neg))

/-- The sign of travel in one dimension, none for no travel; a failed arc gives `bad`. -/
inductive Travel where
  | stay | go (neg : Bool) | bad
  deriving DecidableEq, Repr

/-- Travel in dimension i from p to coordinate t. -/
def State.travel (s : State) (i : Nat) (p : Nat × Nat × Nat) (t : Nat) : Travel :=
  let n := axis s.dims i
  let up := (t + n - axis p i) % n
  if up = 0 then .stay
  else
    let neg := decide (n - up < up)
    let len (g : Bool) : Nat := if g then n - up else up
    if !s.arcDown i neg (len neg) p then .go neg
    else if !s.arcDown i (!neg) (len (!neg)) p then .go (!neg)
    else .bad

/-- Travel in all three dimensions to a panel. -/
def State.fabricRoute (s : State) (q : Nat × Nat × Nat) : Travel × Travel × Travel :=
  let p := s.coord
  (s.travel 0 p q.1, s.travel 1 (q.1, p.2.1, p.2.2) q.2.1, s.travel 2 (q.1, q.2.1, p.2.2) q.2.2)

/-- The first direction of a route, if it has one and none of its arcs is down. -/
def firstDir : Travel × Travel × Travel → Option Nat
  | (.bad, _, _) | (_, .bad, _) | (_, _, .bad) => none
  | (.go n, _, _) => some (if n then 1 else 0)
  | (.stay, .go n, _) => some (if n then 3 else 2)
  | (.stay, .stay, .go n) => some (if n then 5 else 4)
  | (.stay, .stay, .stay) => none

/-- Is the dimension of a vent die's direction used (R315)? -/
def State.dimUsed (s : State) (v : Nat) : Bool :=
  let t := s.obj 0x7000 0x02
  match v / 16 with
  | 0 => bits t 0 5 != 0
  | 1 => bits t 5 5 != 0
  | _ => bits t 10 4 != 0

/-- The vent die of a direction from k0 on: the first that is UP (R317). -/
def State.ventFor (s : State) (dir k0 : Nat) : Option Nat :=
  ((List.range 8).map (fun i => dir * 8 + (k0 + i) % 8)).find? (fun v => (s.vent v).st == .up)

/-- k0 of R317 from the source die and the location field of dest. -/
def ventPick (die : Nat) (dest : W64) : Nat := (die + bits dest.toNat 37 9) % 8

/-! ### Frames (R309, R310) -/

/-- Bytes of a frame's body. -/
def bodyBytes : FrameBody → Nat
  | .bulk p => 32 + p.payload.length
  | .control _ _ _ => 16
  | .sync _ _ _ | .syncResp _ _ _ => 24
  | _ => 16

/-- The credit class of a body in a dateline class; none for a link message. -/
def bodyClass (dl : Bool) : FrameBody → Option Nat
  | .bulk p => some (p.vc.toNat * 2 + (if dl then 1 else 0))
  | .control op _ _ => some (16 + (if op.toNat < 0x10 then 0 else 2) + (if dl then 1 else 0))
  | .sync _ _ _ | .syncResp _ _ _ => some (20 + (if dl then 1 else 0))
  | _ => none

/-- Credits of a class when a link comes up: 32 KiB for bulk, 4 KiB for control and sync. -/
def fullCredits (cls : Nat) : Nat := if cls < 16 then 512 else 64

/-- Credits that the transmitter holds; a class never used holds the whole buffer. -/
def VentS.credit (x : VentS) (cls : Nat) : Nat := tget (fullCredits cls) x.credits cls

/-- This panel's src_panel field. -/
def State.srcPanel (s : State) : BitVec 14 :=
  BitVec.ofNat 14 (s.coord.1 * 512 + s.coord.2.1 * 16 + s.coord.2.2)

/-- The src_panel form of an address's panel bits, and its place in an address. -/
def addrPanel (a : W64) : BitVec 14 :=
  BitVec.ofNat 14 (bits a.toNat 59 5 * 512 + bits a.toNat 54 5 * 16 + bits a.toNat 50 4)
def panelWord (p : BitVec 14) : W64 :=
  BitVec.ofNat 64 (bits p.toNat 9 5 * 2 ^ 59 + bits p.toNat 4 5 * 2 ^ 54 + bits p.toNat 0 4 * 2 ^ 50)

/-- The link out of this panel in a direction joins coordinate N − 1 and coordinate 0 (R318). -/
def State.dateline (s : State) (dir : Nat) : Bool :=
  if dir % 2 = 0 then axis s.coord (dir / 2) + 1 == axis s.dims (dir / 2) else axis s.coord (dir / 2) == 0

/-- A frame goes out under the next counter. -/
def State.putFrame (s : State) (v : Nat) (dl : Bool) (src dest : BitVec 14) (b : FrameBody) : State :=
  ((s.modVent v (fun y => { y with txCtr := y.txCtr + 1 })).count .fabric v 0x00 1).countHigh
    .fabric v 0x2C (32 + bodyBytes b) |>.send (.frame v dl src dest b)

/-- A frame leaves a vent die, or waits for credits behind those that wait. -/
def State.sendFrame (s : State) (v : Nat) (dl : Bool) (src dest : BitVec 14) (b : FrameBody) : State :=
  let x := s.vent v
  let need := (bodyBytes b + 63) / 64
  match bodyClass dl b with
  | none => s.putFrame v dl src dest b
  | some c =>
    if x.waiting = [] ∧ need ≤ x.credit c then
      (s.modVent v (fun y =>
        { y with credits := tset (fullCredits c) y.credits c (y.credit c - need) })).putFrame v dl src dest b
    else (s.modVent v (fun y => { y with waiting := y.waiting ++ [(dl, src, dest, b)] })).count .fabric v 0x20 1

/-- A packet for another panel leaves by its vent die; nothing where the panel cannot be reached. -/
def State.fabricOut (s : State) (die : Nat) (dest : W64) (b : FrameBody) : State :=
  let q := (bits dest.toNat 59 5, bits dest.toNat 54 5, bits dest.toNat 50 4)
  match firstDir (s.fabricRoute q) with
  | none => s
  | some dir =>
    match s.ventFor dir (ventPick die dest) with
    | some v => s.sendFrame v (s.dateline dir) s.srcPanel (addrPanel dest) b
    | none => s

/-- Can a panel be reached? -/
def State.panelReachable (s : State) (dest : W64) : Bool :=
  (firstDir (s.fabricRoute (bits dest.toNat 59 5, bits dest.toNat 54 5, bits dest.toNat 50 4))).isSome

/-! ### The down-link map (R316) -/

/-- A link message goes out on every UP vent die. -/
def State.flood (s : State) (b : FrameBody) : State :=
  (List.range 48).foldl (fun (s : State) v =>
    if (s.vent v).st = .up then s.sendFrame v false s.srcPanel s.srcPanel b else s) s

/-- A change of the map: the entry, the generation, event 0x9014 or 0x9016, and the flood. -/
def State.setDown (s : State) (panel : W16) (dir : Nat) (up : Bool) (l : Loc) : State :=
  let e := (panel, BitVec.ofNat 8 dir)
  let had := s.fab.down.contains e
  if had = !up then s
  else if !up ∧ 1024 ≤ s.fab.down.length then s.event 0x9016 none l dir
  else
    let s := { s with fab := { s.fab with
      down := if up then s.fab.down.filter (· != e) else s.fab.down ++ [e], routeGen := s.fab.routeGen + 1 } }
    (s.event 0x9014 none l dir).flood (.linkstate panel (BitVec.ofNat 8 dir) up)

/-- Whether this panel's links of a vent die's direction have an UP vent die decides its entry. -/
def State.noteDirection (s : State) (v : Nat) : State :=
  let any := (List.range 8).any (fun k => (s.vent (v / 8 * 8 + k)).st == .up)
  s.setDown (BitVec.ofNat 16 (panelIndex s.coord)) (v / 8) any (locVent v)

/-- The detail of a link's entries (R340). -/
def State.ventDetail (s : State) (v lane : Nat) : Nat := v + lane * 2 ^ 8 + (s.vent v).peer.toNat * 2 ^ 16

/-- A vent die's link goes OFF (R307). (DEDUCED, log 62) -/
def State.linkOff (s : State) (v : Nat) : State :=
  let was := (s.vent v).st
  let s := if was = .up then (s.event 0x9001 none (locVent v) (s.ventDetail v 0)).count .fabric v 0x28 1 else s
  (s.modVent v (fun x => { x with st := .off, keyed := false, waiting := [] })).noteDirection v

end Sys2Proof.Machine
end

