-- ==== Sys2Proof/Machine/Maps.lean ====
section
/-! DEFINITION. Panel anatomy: identity words and fences, the defect map, the remap tables and what
they name, attachments, and the rules that rebuild them (R26–R48, R565). -/

namespace Sys2Proof.Machine

/-! ### Geometry (R7, R31, R32) -/

/-- Physical die index of a column and a row. -/
def dieAt (c r : Nat) : Nat := r * 13 + c

/-- The attached die of a vent die (R31, R32). -/
def ventDie (v : Nat) : Nat :=
  let k := v % 8
  let w := if k ≤ 3 then k else k + 4
  match v / 8 with
  | 0 => dieAt 12 w
  | 1 => dieAt 0 w
  | 2 => dieAt k 11
  | 3 => dieAt k 0
  | 4 => dieAt (k + 5) 11
  | _ => dieAt (k + 5) 0

/-- The attached dies of a hub (R31). -/
def hubDies (h : Nat) : List Nat := [4, 5, 6, 7].map (fun r => dieAt (if h = 0 then 0 else 12) r)

/-! ### Identity (R35, R36) -/

/-- The identity word that a die's place asks for. -/
def identityWord (kind position : Nat) (serial : BitVec 48) : W64 :=
  BitVec.ofNat 64 (kind * 2 ^ 60 + position * 2 ^ 48 + serial.toNat)

/-- The identity word of the die of a kind at a place of the chain. -/
def State.identity (s : State) (kind position : Nat) : W64 :=
  tget (identityWord kind position s.anat.serial) s.anat.identity (kind * 4096 + position)

/-- The word does not match its place or the panel (R36). -/
def State.mismatch (s : State) (kind position : Nat) : Bool :=
  s.identity kind position != identityWord kind position s.anat.serial

/-! ### Defect records (R37, R38) -/

/-- Fields of a defect record. -/
def recKind (w : W32) : Nat := bits w.toNat 29 3
def recIndex (w : W32) : Nat := bits w.toNat 20 9
def recDetail (w : W32) : Nat := bits w.toNat 0 20

/-- A record of a kind, an index and a detail. -/
def mkRec (kind index detail : Nat) : W32 :=
  BitVec.ofNat 32 (kind * 2 ^ 29 + index * 2 ^ 20 + detail)

/-- Every defect that is in force. -/
def State.defects (s : State) : List W32 := s.anat.factory ++ s.anat.field ++ s.anat.unstored

/-- The die has a die record. -/
def State.dieRecord (s : State) (d : Nat) : Bool :=
  s.defects.any (fun w => recKind w == 3 && recIndex w == d)

/-- The stack has a stack record. -/
def State.stackRecord (s : State) (k : Nat) : Bool :=
  s.defects.any (fun w => recKind w == 4 && recIndex w == k)

/-- Bad rows that records name in a scratchpad bank. -/
def State.badRows (s : State) (d t b : Nat) : Nat :=
  (s.defects.filter (fun w => recKind w == 1 && recIndex w == d
    && recDetail w / 1024 == t * 32 + b)).length

/-- The tile has a record, or a bank with more bad rows than its 16 spares (R38). -/
def State.tileBad (s : State) (d t : Nat) : Bool :=
  s.defects.any (fun w => recKind w == 0 && recIndex w == d && recDetail w % 32 == t)
    || (List.range 32).any (fun b => decide (16 < s.badRows d t b))

/-- Bad lanes or lines that records name at a port of a die. -/
def State.badLanes (s : State) (d p : Nat) : Nat :=
  (s.defects.filter (fun w => recKind w == 2 && recIndex w == d
    && recDetail w / 2 ^ 16 == p)).length

/-- Spare lanes or lines of a port: neighbour 16, skip none, stack 64 (R38). -/
def portSpares (p : Nat) : Nat := if p < 4 then 16 else if p < 8 then 0 else 64

/-- The port has more bad lanes than spares (R38). -/
def State.portBad (s : State) (d p : Nat) : Bool := decide (portSpares p < s.badLanes d p)

/-- The good physical columns of a tile row (R44). -/
def State.goodTiles (s : State) (d v : Nat) : List Nat :=
  (List.range 5).filter (fun u => !s.tileBad d (v * 5 + u))

/-- More bad tiles in a row than its spare (R38): the die is failed. -/
def State.dieShort (s : State) (d : Nat) : Bool :=
  (List.range 4).any (fun v => decide ((s.goodTiles d v).length < 4))

/-- The die is fenced (R36). -/
def State.dieFenced (s : State) (d : Nat) : Bool := s.anat.fencedDies.contains d

/-- A failed die: by a record or by short tile rows. -/
def State.dieBad (s : State) (d : Nat) : Bool := s.dieRecord d || s.dieShort d || s.dieFenced d

/-- A stack port that is out of service is treated as a failed stack (R38). -/
def State.stackBad (s : State) (k : Nat) : Bool :=
  s.stackRecord k || s.portBad (k / 2) (8 + k % 2) || s.anat.failedStacks.contains k
    || s.anat.fencedStacks.contains k

/-- A cell is good (R27). -/
def State.cellGood (s : State) (d : Nat) : Bool :=
  !s.dieBad d && !s.stackBad (2 * d) && !s.stackBad (2 * d + 1)

/-- A field record is stored under R39: duplicates of factory records and repeats are not, and a full
table applies it unstored with event 0x4030 at HUB0, whose detail is the record. A defect that stands already
raises nothing. (DESIGN CHOICE, log 153) -/
def State.addField (s : State) (w : W32) : State :=
  if s.anat.factory.contains w || s.anat.field.contains w || s.anat.unstored.contains w then s
  else if s.anat.field.length < 4096 then
    { s with anat := { s.anat with field := s.anat.field ++ [w] } }
  else
    { s with anat := { s.anat with unstored := s.anat.unstored ++ [w] } }.event 0x4030 none
      (locHub 0) w.toNat

/-! ### Remap tables (R41–R47) -/

/-- The die map word of a row. (DESIGN CHOICE, log 13) -/
def State.dieMapWord (s : State) (r : Nat) : W64 := tget 0x000FEEEEEEEEEEEE s.anat.dieMap r

/-- The physical column that serves logical column c of row r. -/
def State.column (s : State) (r c : Nat) : Option Nat :=
  let n := bits (s.dieMapWord r).toNat (4 * c) 4
  if n < 13 then some n else none

/-- The dormant column of a row. -/
def State.dormant (s : State) (r : Nat) : Option Nat :=
  let n := bits (s.dieMapWord r).toNat 48 4
  if n < 13 then some n else none

/-- A word with its four bits at lo replaced. -/
def setNibble (w : W64) (lo v : Nat) : W64 :=
  BitVec.ofNat 64 (w.toNat - bits w.toNat lo 4 * 2 ^ lo + v * 2 ^ lo)

/-- The physical die that serves a logical die. -/
def State.phys (s : State) (l : LDie) : Option Nat :=
  (s.column (l.val / 12) (l.val % 12)).map (fun c => dieAt c (l.val / 12))

/-- The logical die that a physical die serves. -/
def State.logical (s : State) (d : Nat) : Option LDie :=
  (List.finRange 144).find? (fun l => s.phys l == some d)

/-- The tile map word of a die; in a die without bad tiles each row reads columns 0 to 3. -/
def State.tileMapWord (s : State) (d : Nat) : W64 := tget 0x0000688688688688 s.anat.tileMap d

/-- The physical tile that serves a logical tile of a physical die. -/
def State.physTile (s : State) (d : Nat) (t : LTile) : Nat :=
  t.val / 4 * 5 + bits (s.tileMapWord d).toNat (12 * (t.val / 4) + 3 * (t.val % 4)) 3

/-- The logical tile that a physical tile serves. -/
def State.logicalTile (s : State) (d t : Nat) : Option LTile :=
  (List.finRange 16).find? (fun l => s.physTile d l == t)

/-- The key of the physical tile that serves t of L. -/
def State.tileKey (s : State) (l : LDie) (t : LTile) : Option Nat :=
  (s.phys l).map (fun d => d * 20 + s.physTile d t)

/-- The location that a die's network logs (R303). -/
def State.dieLoc (s : State) (d : Nat) : Loc :=
  match s.logical d with
  | some l => locEngine l.val
  | none => locDie d

/-- The physical die is dormant. -/
def State.isDormant (s : State) (d : Nat) : Bool := s.dormant (d / 13) == some (d % 13)

/-- Roles of a die (R47, R565): 0 in service, 1 dormant, 2 failed, 3 fenced, 4 unused. -/
def State.dieRole (s : State) (d : Nat) : Nat :=
  if s.dieFenced d then 3
  else if s.dieRecord d || s.dieShort d then 2
  else if (s.logical d).isSome then 0
  else if s.isDormant d then 1
  else 4

/-- Roles of a stack (R270, R565): 0 in service, 1 reserve, 2 failed, 3 fenced, 4 unused. The home
stacks of a failed die stay in service until their migration ends, and those of the die that took its name
are reserve until then, or until a relocation leads there (R43, R533). (DEDUCED, log 110) -/
def State.stackRole (s : State) (k : Nat) : Nat :=
  if s.anat.fencedStacks.contains k then 3
  else if s.stackBad k then 2
  else if s.isDormant (k / 2) then 1
  else if s.anat.orphans.any (fun p => s.phys p.2 == some (k / 2))
      && !(s.flow.ctx.any (fun p => p.2.relocations.any (fun r => r.2 == k))) then 1
  else if (s.logical (k / 2)).isSome || s.anat.orphans.any (fun p => p.1 == k / 2) then 0
  else 4

/-- The cell whose stacks are the home stacks of a logical die (R30, R43). -/
def State.homeCell (s : State) (l : LDie) : Option Nat :=
  match s.anat.orphans.find? (fun p => p.2 == l) with
  | some p => some p.1
  | none => s.phys l

/-- The tile rows of a die, rebuilt from its good columns (R44). -/
def tileRowsWord (rows : List (List Nat)) : Nat :=
  match rows with
  | [] => 0
  | r :: rs =>
    (r.getD 0 0 + 8 * r.getD 1 0 + 64 * r.getD 2 0 + 512 * r.getD 3 0) + 4096 * tileRowsWord rs

/-- The tile map of a die is rebuilt (R44). -/
def State.buildTiles (s : State) (d : Nat) : State :=
  { s with
    anat := { s.anat with
      tileMap := tset 0x0000688688688688 s.anat.tileMap d
        (BitVec.ofNat 64 (tileRowsWord ((List.range 4).map (s.goodTiles d)))) } }

/-- A row's word from its ascending good columns, at least 12 of them (R41). -/
def rowWord (good : List Nat) : W64 :=
  BitVec.ofNat 64
    (((List.range 12).map (fun c => good.getD c 0 * 16 ^ c)).sum
      + (if good.length = 13 then good.getD 12 15 else 15) * 2 ^ 48)

/-- The good columns of a row. -/
def State.goodColumns (s : State) (r : Nat) : List Nat :=
  (List.range 13).filter (fun c => s.cellGood (dieAt c r))

/-- A remap change is counted (R45), and the current log writes rows for 10 s (R380). -/
def State.remapped (s : State) : State :=
  { s with
    anat := { s.anat with remapGen := s.anat.remapGen + 1 }
    pwr := { s.pwr with rowsUntil := s.now + 10000000000 } }

/-- R42 for an in-service die: the dormant die takes the logical name, or the entry is unserved. -/
def State.rehome (s : State) (l : LDie) : State :=
  let r := l.val / 12
  let c := l.val % 12
  let w := s.dieMapWord r
  match s.dormant r with
  | some k =>
    { s with anat := { s.anat with
        dieMap := tset 0x000FEEEEEEEEEEEE s.anat.dieMap r
          (setNibble (setNibble w (4 * c) k) 48 15) } }.remapped
  | none =>
    ({ s with anat := { s.anat with
        dieMap := tset 0x000FEEEEEEEEEEEE s.anat.dieMap r (setNibble w (4 * c) 14) } }.remapped).fault
      0x6030 none (locEngine l.val)

/-- An unused die's core rail group is switched off (R565). -/
def State.darken (s : State) (d : Nat) : State := if s.dieRole d = 4 then s.setDom (312 + d) false else s

/-- The row loses its dormant column: a remap change with event 0x6031 (R42, R533). -/
def State.dropDormant (s : State) (r : Nat) : State :=
  match s.dormant r with
  | some k =>
    (({ s with anat := { s.anat with
        dieMap := tset 0x000FEEEEEEEEEEEE s.anat.dieMap r
          (setNibble (s.dieMapWord r) 48 15) } }.remapped).event 0x6031 none (locDie (dieAt k r))).darken (dieAt k r)
  | none => s

/-- Every attached die. -/
def attachedDies : List Nat := hubDies 0 ++ hubDies 1 ++ (List.range 48).map ventDie

/-- The outward edge port of an attached die towards a hub or a vent die (R31): north, east, south, west. -/
def hubPort (h : Nat) : Nat := if h = 0 then 3 else 1
def ventPort (v : Nat) : Nat := match v / 8 with | 0 => 1 | 1 => 3 | 2 => 2 | 4 => 2 | _ => 0

/-- Attachments of a failed die go out of service with event 0x5020, and their links go OFF (R33, R307). (DESIGN CHOICE, log 106) -/
def State.detach (s : State) (d : Nat) : State :=
  if attachedDies.contains d && !s.anat.detached.contains d then
    let s := { s with anat := { s.anat with detached := d :: s.anat.detached } }.event 0x5020 none (locDie d)
    ((List.range 48).filter (fun v => ventDie v == d && (s.vent v).st != .off)).foldl State.linkOff s
  else s

/-- The attachments of every attached die that is failed or fenced at a start (R33). -/
def State.detachBad (s : State) : State :=
  (attachedDies.eraseDups.filter s.dieBad).foldl State.detach s

/-- A die that records of tiles or rows count as failed gets its die record (R38). -/
def State.recordShort (s : State) (d : Nat) : State :=
  if s.dieShort d && !s.dieRecord d then s.addField (mkRec 3 d 0) else s

/-! ### Routes (R278) -/

/-- The routes were computed again: route_generation advances, with event 0x5005. -/
def State.reroute (s : State) : State :=
  { s with net := { s.net with routeGen := s.net.routeGen + 1 } }.event 0x5005 none (locHub 0)
    (s.net.routeGen + 1)

end Sys2Proof.Machine
end

