-- ==== Sys2Proof/Machine/Region.lean ====
section
/-! DEFINITION. Context regions as one thing: halting, discarding unsettled work, revoking credits,
zeroising, scan images, restore, the recovery log, and the failures of tiles, dies and stacks
(R95, R103, R163, R182–R187, R219, R427–R429, R516–R535). -/

namespace Sys2Proof.Machine

/-! ### Keys of memories -/

/-- First byte of a physical tile's scratchpad, of a commons, of a stack, in their memories. -/
def spadBase (tileKey : Nat) : Nat := tileKey * 2 ^ 22
def commonsBase (die : Nat) : Nat := die * 2 ^ 25
def stackBase (k : Nat) : Nat := k * 2 ^ 36

/-- The cells of [lo, hi) with their keys moved to start at base. -/
def takeCells (m : List Host.Cell) (lo hi base : Nat) : List (Nat × Byte) :=
  m.filterMap (fun p => if lo ≤ p.1 ∧ p.1 < hi then some (base + (p.1 - lo), p.2) else none)

/-- Cells written back with keys moved from base to lo. -/
def layCells (m : List Host.Cell) (base lo : Nat) : List (Nat × Byte) → List Host.Cell
  | [] => m
  | p :: ps => layCells (putByte m (lo + (p.1 - base)) p.2) base lo ps

/-! ### What a region holds (R177) -/

/-- The tile that a unit belongs to (R142). -/
def unitTile (u : Nat) : Option Nat :=
  if u < 16 then some u else if u < 32 then some (u - 16)
  else if u < 64 then some ((u - 32) / 2) else if u < 96 then some ((u - 64) / 2) else none

/-- Tiles of the region. -/
def CtxS.tiles (x : CtxS) : List (LDie × LTile) := (x.image.map (·.tiles)).getD []

/-- Logical dies that the region names. -/
def CtxS.dies (x : CtxS) : List LDie :=
  match x.image with
  | none => []
  | some i =>
    (i.tiles.map (·.1) ++ i.segments.map (·.1) ++ i.streams.map (·.1) ++ i.rings.map (·.die)
      ++ i.dieBlocks.map (·.1)).eraseDups

/-- The region holds a logical die or a tile of it. -/
def CtxS.holdsDie (x : CtxS) (d : LDie) : Bool := x.dies.contains d

/-- The region holds a logical tile. -/
def CtxS.holdsTile (x : CtxS) (d : LDie) (t : LTile) : Bool := x.tiles.contains (d, t)

/-- The context holds a bank of a stack. -/
def State.holdsStack (s : State) (c : CtxId) (k : Nat) : Bool :=
  (s.stack k).owner.any (fun p => p.2.toNat == c.val)

/-- Every context of which p holds. -/
def State.contextsWhere (s : State) (p : CtxS → Bool) : List CtxId :=
  allCtx.filter (fun c => p (s.ctx c))

/-- f applied for every context of a list, in order. -/
def State.forCtx (s : State) (l : List CtxId) (f : State → CtxId → State) : State := l.foldl f s

/-- Every unit of a context becomes f of itself. -/
def State.mapUnits (s : State) (c : CtxId) (f : UnitS → UnitS) : State :=
  { s with flow := { s.flow with
      unit := tmap (fun _ u => if u.ctx = some c then f u else u) s.flow.unit } }

/-- Every queue of a context's units becomes f of itself. -/
def State.mapQueues (s : State) (c : CtxId) (f : QueueS → QueueS) : State :=
  { s with flow := { s.flow with
      queue := tmap (fun k q =>
        if (s.unit (k / 512 * 128 + k % 512 / 4)).ctx = some c then f q else q) s.flow.queue } }

/-- Every physical tile of a context's region becomes f of itself. -/
def State.mapTiles (s : State) (c : CtxId) (f : TileS → TileS) : State :=
  (s.ctx c).tiles.foldl (fun (s : State) p =>
    match s.tileKey p.1 p.2 with
    | some k => s.modTile k f
    | none => s) s

/-! ### Halting, pausing, resuming (R143, R160, R171, R173) -/

/-- The units of a context. -/
def State.unitsOf (s : State) (c : CtxId) : List (Nat × UnitS) :=
  s.flow.unit.filter (fun p => p.2.ctx == some c)

/-- A unit's logical die and number from its key. -/
def keyDie (k : Nat) : LDie := ⟨k / 128 % 144, Nat.mod_lt _ (by decide)⟩
def keyUnit (k : Nat) : Nat := k % 128

/-- A join's watchdog stops counting, and keeps its count (R171). -/
def UnitS.joinHold (u : UnitS) (now : Nat) : UnitS :=
  { u with joinCount := u.joinCount + (match u.joinSince with | some t => now - t | none => 0), joinSince := none }

/-- A join's watchdog restarts from zero (R160, R171). -/
def UnitS.joinReset (u : UnitS) : UnitS := { u with joinCount := 0, joinSince := none }

/-- A unit pauses: its pause time runs, and its watchdog does not (R171, R173). -/
def UnitS.pause (u : UnitS) (now : Nat) : UnitS :=
  { u.joinHold now with pausedAt := some (u.pausedAt.getD now) }

/-- Cycles of the island of a unit since a time: at step N its clock runs at N × 100 MHz (R346); a commons-island unit
runs at its die's step too. -/
def State.cyclesSince (s : State) (k t : Nat) : Nat :=
  match s.phys (keyDie k) with
  | some p => (s.now - t) * (s.dieClk p).step / 10
  | none => 0

/-- A unit goes on: the cycles of its pause are counted (R173, R175). -/
def State.unpause (s : State) (k : Nat) : State :=
  match (s.unit k).pausedAt with
  | none => s
  | some t => (s.modUnit k (fun u => { u with pausedAt := none })).count .unit k 0x1C (s.cyclesSince k t)

/-- Every unit of the context that nothing else stops goes on. -/
def State.unpauseAll (s : State) (c : CtxId) : State :=
  (s.unitsOf c).foldl (fun (s : State) p => if p.2.stopped then s else s.unpause p.1) s

/-- Every unit of the context stops at its next token boundary. -/
def State.stopUnits (s : State) (c : CtxId) : State :=
  s.mapUnits c (fun u => { u.pause s.now with stopped := true })

/-- Every unit of the context continues; join watchdogs restart from zero. -/
def State.resumeUnits (s : State) (c : CtxId) : State :=
  (s.mapUnits c (fun u => { u.joinReset with stopped := false })).unpauseAll c

/-- The context halts: units stop and hold their state, switch_state is HALTED. -/
def State.haltCtx (s : State) (c : CtxId) : State :=
  (s.stopUnits c).modCtx c (fun x => { x with sw := .halted, kind := none })

/-! ### Unsettled work (R212, R216, R217, R219) -/

/-- Faults that a held fault stands for. -/
def HeldFault.total (h : HeldFault) : Nat := 1 + h.extra

/-- A half that holds unsettled planes is discarded: EMPTY. -/
def Half.dropUnsettled (h : Half) : Half := if h.unsettled then {} else h

/-- Unsettled halves and accumulator entries of an array are released. -/
def Arr.dropUnsettled (a : Arr) : Arr :=
  { a with
    a := a.a.dropUnsettled
    b := a.b.dropUnsettled
    acc := a.acc.filter (fun p => !a.accUnsettled.contains p.1)
    accUnsettled := [], specRounds := []
    shadow := if a.shadowUnsettled then [] else a.shadow
    shadowScales := if a.shadowUnsettled then [] else a.shadowScales
    shadowCols := if a.shadowUnsettled then [] else a.shadowCols
    active := if a.activeUnsettled then [] else a.active
    activeScales := if a.activeUnsettled then [] else a.activeScales
    activeCols := if a.activeUnsettled then [] else a.activeCols
    shadowUnsettled := false, activeUnsettled := false }

/-- Prefetched plane records (128 bytes each) that lie in the unsettled halves of a tile. -/
def TileS.unsettledRecords (t : TileS) : Nat :=
  ([t.arr0.a, t.arr0.b, t.arr1.a, t.arr1.b].map
    (fun h => if h.unsettled then h.size / 128 else 0)).sum

/-- Lines of one output, and plane records of its settle set per line (R191, R199). -/
def outputLines (l : LayerDecl) : Nat := (l.inputs + 1023) / 1024
def settlePlanes (l : LayerDecl) : Nat := if l.r = 8 then 9 - l.j else l.r
/-- Plane records of an output's settle set, and of the group's first pass. -/
def settleRecords (l : LayerDecl) : Nat := outputLines l * settlePlanes l
def firstRecords (l : LayerDecl) : Nat := l.outputs * outputLines l * l.j

/-- A descriptor of the geyser engine with settled = 0 (R118 bit 43 of word 0). -/
def Desc.unsettled (d : Desc) : Bool := !(d.words.getD 0 0).toNat.testBit 43

/-- The tokens of a queue for which p holds stay, storage first; room that storage gains takes the oldest of the
window. -/
def QueueS.keep (q : QueueS) (p : Token → Bool) : QueueS :=
  let n := q.stored.length
  let a := ((q.tokens.take n).zip q.stored).filter (fun x => p x.1)
  let b := ((q.tokens.drop n).zip q.window).filter (fun x => p x.1)
  { q with tokens := (a ++ b).map (·.1), stored := a.map (·.2), window := b.map (·.2) }

/-- n credits come back to a queue's producer; those it owes are paid first (R147). -/
def QueueS.credit (q : QueueS) (n : Nat) : QueueS :=
  { q with debt := q.debt - n, credits := q.credits + (n - q.debt) }

/-- The unsettled tokens of a queue are dropped and counted at its consumer, and their credits come back before the
region goes on (R182, R185). -/
def State.dropHidden (s : State) (key : Nat) : State :=
  let q := s.queue key
  let n := (q.tokens.filter (fun t => !t.settled)).length
  if n = 0 then s
  else (s.modQueue key (fun q => (q.keep (·.settled)).credit n)).count .spec
    (key / 512 * 16 + (unitTile (key % 512 / 4)).getD 0) 0x2C n

/-- Discarding the context's unsettled state: halves to EMPTY, accumulator entries released, tokens
dropped, geyser descriptors with settled = 0 DISCARDED, held faults dropped and counted. -/
def State.dropUnsettled (s : State) (c : CtxId) : State :=
  let s := (s.ctx c).tiles.foldl (fun (s : State) p =>
    match s.tileKey p.1 p.2 with
    | some k => s.modTile k (fun t => { t with arr0 := t.arr0.dropUnsettled, arr1 := t.arr1.dropUnsettled })
    | none => s) s
  let s := s.flow.unit.foldl (fun (s : State) p =>
    match p.2.active.cfg.bind (·.layer) with
    | some l =>
      if p.2.ctx = some c ∧ p.2.hinted ≠ [] then
        s.count .spec (p.1 / 128 * 16 + (unitTile (p.1 % 128)).getD 0) 0x2C (p.2.hinted.length * settleRecords l)
      else s
    | none => s) s
  let s := s.flow.unit.foldl (fun (s : State) p =>
    if p.2.ctx = some c ∧ p.2.held ≠ [] then
      s.count .spec (p.1 / 128 * 16 + (unitTile (p.1 % 128)).getD 0) 0x3C
        (p.2.held.map HeldFault.total).sum
    else s) s
  let s := s.mapUnits c (fun u => { u with held := [], prefetched := 0, hinted := [] })
  let s := s.flow.queue.foldl (fun (s : State) p =>
    if (s.unit (p.1 / 512 * 128 + p.1 % 512 / 4)).ctx = some c then s.dropHidden p.1 else s) s
  { s with eng := { s.eng with
      ring := tmap (fun _ r =>
        if r.ctx = some c then
          { r with descs := r.descs.map (fun d =>
              if d.unsettled && !d.confirmed then { d with fin := some (.discarded, 0, 0) } else d) }
        else r) s.eng.ring } }

/-! ### Credits (R95) -/

/-- A tile without the live credits of a context; their IDs are revoked. -/
def TileS.revokeCredits (t : TileS) (c : CtxId) : TileS :=
  { t with
    credits := t.credits.filter (fun p => (p.2.map (·.ctx)) != some c)
    revoked := (t.credits.filter (fun p => (p.2.map (·.ctx)) == some c)).map (·.1) ++ t.revoked }

/-- All live credits of a context at the tiles of its region are revoked. -/
def State.revokeCredits (s : State) (c : CtxId) : State := s.mapTiles c (·.revokeCredits c)

/-! ### Zeroisation (R103, R115, R138, R250, R296) -/

/-- What zeroisation leaves of a tile: its banks' supply, its generator and its spare rows. Every word takes a new
codeword, which ends its errors (R88). -/
def TileS.zeroised (t : TileS) : TileS :=
  { banks := t.banks, notify := t.notify, sr := t.sr, corrected := t.corrected, spares := t.spares
    shutAt := t.shutAt
    bankPtr := t.bankPtr
    revoked := t.credits.map (·.1) ++ t.revoked }

/-- A physical tile is zeroised: state and every scratchpad row (R103 steps 1 and 3). -/
def State.zeroTile (s : State) (k : Nat) : State :=
  let s := s.modTile k TileS.zeroised
  { s with spadMem := zeroRange s.spadMem (spadBase k) (spadBase (k + 1)) }

/-- A commons segment is zeroed with its ECC and its unsettled bits, and passes to an owner (R115). -/
def State.passSegment (s : State) (d seg : Nat) (owner : Option (CtxId × Bool)) : State :=
  let lo := seg * 2 ^ 20
  let s := s.modCommons d (fun x =>
    { x with
      seg := tset none x.seg seg owner
      bad := x.bad.filter (fun a => !(lo ≤ a * 8 && a * 8 < lo + 2 ^ 20))
      weak := x.weak.filter (fun a => !(lo ≤ a * 8 && a * 8 < lo + 2 ^ 20))
      counted := x.counted.filter (fun a => !(lo ≤ a * 8 && a * 8 < lo + 2 ^ 20))
      unsettled := x.unsettled.filter (fun a => !(lo ≤ a * 128 && a * 128 < lo + 2 ^ 20))
      dirty0 := x.dirty0.filter (fun b => b / 256 != seg)
      dirty1 := x.dirty1.filter (fun b => b / 256 != seg) })
  { s with commonsMem := zeroRange s.commonsMem (commonsBase d + lo) (commonsBase d + lo + 2 ^ 20) }

/-- The owner of a stack bank: none on an unused stack (R565), else bank 63 is FIRMWARE and the other banks of a
reserve stack are RESERVE (R29, R248). (DEDUCED, log 156) -/
def State.bankOwner (s : State) (k b : Nat) : Byte :=
  match s.stackRole k with
  | 4 => 0xFF
  | 1 => if b = 63 then 0xFE else tget 0xFD (s.stack k).owner b
  | _ => if b = 63 then 0xFE else tget 0xFF (s.stack k).owner b

/-- The state of a stack bank. Banks 0 to 62 of a reserve stack stay at retention while no migration fills it (R265). -/
def State.stackBankSt (s : State) (k b : Nat) : BankSt :=
  tget (if b < 63 && s.bankOwner k b == 0xFD && !s.recov.migrations.any (fun m => m.dst == k) then .closed .retain
    else .open) (s.stack k).banks b

/-- Line numbers of a bank: 2^23 lines of 128 bytes. -/
def inBank (b line : Nat) : Bool := line / 2 ^ 23 == b

/-- Zeroisation of a stack bank: written flags, tags and contents go (R250). (DEDUCED, log 160) -/
def State.zeroBank (s : State) (k b : Nat) : State :=
  let s := s.modStack k (fun x =>
    { x with
      written := x.written.filter (fun l => !inBank b l)
      uncorrectable := x.uncorrectable.filter (fun l => !inBank b l)
      corrected := x.corrected.filter (fun l => !inBank b l)
      reported := x.reported.filter (fun l => !inBank b l)
      poisoned := x.poisoned.filter (fun l => !inBank b l)
      raw := x.raw.filter (fun p => !inBank b p.1)
      zeroising := x.zeroising.filter (fun z => z != b) })
  { s with
    stackMem := zeroRange s.stackMem (stackBase k + b * 2 ^ 30) (stackBase k + (b + 1) * 2 ^ 30) }

/-- A bank passes to an owner: the entry changes, and zeroisation begins (R250). -/
def State.passBank (s : State) (k b : Nat) (o : Byte) : State :=
  (s.modStack k (fun x =>
    { x with
      owner := if o = 0xFF then x.owner.filter (fun p => p.1 != b) else tset 0xFF x.owner b o
      zeroising := insertNew b x.zeroising }))

/-- Sync cells of a block are zeroed, unlinked and lose their waiters (R296). -/
def State.passBlock (s : State) (first blockKey : Nat) (o : Byte) : State :=
  { s with net := { s.net with
      cells := tclear first (first + 16) s.net.cells
      block := tset 0xFF s.net.block blockKey o } }

/-- First cell key of a die or a hub (dies first, 512 cells each, then hubs, 4,096 each). -/
def dieCells (d : Nat) : Nat := d * 512
def hubCells (h : Nat) : Nat := 144 * 512 + h * 4096
/-- Key of a sync block of a logical die or of a hub. -/
def dieBlock (d b : Nat) : Nat := d * 32 + b
def hubBlock (h b : Nat) : Nat := 144 * 32 + h * 256 + b

/-! ### Scan images (R182–R187) -/

/-- The cells of the RESIDENT areas of a context's tiles, by logical name. -/
def State.residentSpad (s : State) (c : CtxId) : List (Nat × Byte) :=
  ((s.ctx c).tiles.map (fun p =>
    match s.tileKey p.1 p.2 with
    | some k =>
      ((s.tile k).resident.map (fun r =>
        takeCells s.spadMem (spadBase k + r.1) (spadBase k + r.1 + r.2)
          ((p.1.val * 16 + p.2.val) * 2 ^ 22 + r.1))).flatten
    | none => [])).flatten

/-- The cells of the RESIDENT commons segments of a context, by logical die. -/
def State.residentCommons (s : State) (c : CtxId) : List (Nat × Byte) :=
  (((s.ctx c).image.map (·.segments)).getD []).flatMap (fun g =>
    if g.2.2 then
      match s.phys g.1 with
      | some d =>
        takeCells s.commonsMem (commonsBase d + g.2.1.val * 2 ^ 20)
          (commonsBase d + (g.2.1.val + 1) * 2 ^ 20) (commonsBase g.1.val + g.2.1.val * 2 ^ 20)
      | none => []
    else [])

/-- Is a sync cell in a block of the context? -/
def State.cellOf (s : State) (c : CtxId) (k : Nat) : Bool :=
  (tget 0xFF s.net.block (k / 16)).toNat == c.val

/-- switch_state (R160). -/
def swCode : SwitchSt → Nat
  | .none => 0 | .steady => 1 | .arming => 2 | .draining => 3 | .flushing => 4 | .halted => 5 | .suspended => 6

/-- The RESIDENT rows of a context's tiles of which p holds, as tile record and row (R102). -/
def State.rowsOf (s : State) (c : CtxId) (p : TileS → Nat → Bool) : List (Nat × Nat) :=
  (s.ctx c).tiles.flatMap (fun q =>
    match s.tileKey q.1 q.2 with
    | some k => (((s.tile k).resident.flatMap (fun r => List.range' (r.1 / 4096) (r.2 / 4096))).filter
        (p (s.tile k))).map (fun n => (q.1.val * 16 + q.2.val, n))
    | none => [])

/-- The blocks of a context's RESIDENT segments of which p holds, as die and block (R115). -/
def State.blocksOf (s : State) (c : CtxId) (p : CommonsS → Nat → Bool) : List (Nat × Nat) :=
  ((((s.ctx c).image.map (·.segments)).getD []).filter (fun g => g.2.2)).flatMap (fun g =>
    match s.phys g.1 with
    | some d => ((List.range' (g.2.1.val * 256) 256).filter (p (s.commons d))).map (fun b => (g.1.val, b))
    | none => [])

/-- The rows and blocks that a scan into an area copies: those whose bit for it is set; every one for a SUSPEND
(R102, R115, R182). -/
def State.copied (s : State) (c : CtxId) (area : Option (Fin 2)) : List (Nat × Nat) × List (Nat × Nat) :=
  let bit (l0 l1 : List Nat) (n : Nat) : Bool := match area with
    | some 0 => l0.contains n
    | some 1 => l1.contains n
    | none => true
  (s.rowsOf c (fun t n => bit t.dirty0 t.dirty1 n), s.blocksOf c (fun x b => bit x.dirty0 x.dirty1 b))

/-- A queue as a scan captures it: every credit that is on its way has come home (R185). -/
def QueueS.captured (q : QueueS) : QueueS := { q with credits := q.slots - q.tokens.length, debt := 0 }

/-- A WAIT of a unit of the context, which is part of that unit's state (R300). -/
def State.ownWait (s : State) (c : CtxId) (r : SyncReq) : Bool :=
  !r.firmware && r.panel == s.srcPanel && r.ctx.toNat == c.val

/-- The scan image of a context as it stands. -/
def State.scanOut (s : State) (c : CtxId) (area : Option (Fin 2)) (generation : Nat) : Scan :=
  let x := s.ctx c
  { area := area
    generation := generation
    rows := (s.copied c area).1
    blocks := (s.copied c area).2
    certs := (s.eng.engine.filter (fun p => p.2.placed == some c)).map (fun p => (p.1, p.2.certs))
    disabled := (s.eng.engine.filter (fun p => p.2.placed == some c)).map (fun p => (p.1, p.2.disabled))
    flow := (x.sw, x.active, x.previous, x.epoch)
    units := (s.flow.unit.filter (fun p => p.2.ctx == some c)).map
      (fun p => (p.1, { p.2 with ackedAtCkpt := p.2.acked }))
    queues := (s.flow.queue.filter
      (fun p => (s.unit (p.1 / 512 * 128 + p.1 % 512 / 4)).ctx == some c)).map (fun p => (p.1, p.2.captured))
    tiles := x.tiles.filterMap (fun p =>
      (s.tileKey p.1 p.2).map (fun k => (p.1.val * 16 + p.2.val, s.tile k)))
    spad := s.residentSpad c
    commons := s.residentCommons c
    rings := s.eng.ring.filter (fun p => p.2.ctx == some c)
    cells := (s.net.cells.filter (fun p => s.cellOf c p.1)).map
      (fun p => (p.1, { p.2 with waiters := p.2.waiters.filter (fun q => s.ownWait c q.1) }))
    engines := s.eng.engine.map (fun p => (p.1, tget 0 p.2.sr c.val))
    groups := s.fab.group.filter (fun p => (p.2.map (·.ctx)) == some c) }

/-- A group comes back from a scan image: its run counters and its run are the image's; grants and RING_DONEs
received since stay (R334, R336). -/
def mergeGroup (now old : Option GroupRun) : Option GroupRun :=
  match now, old with
  | some n, some o => some { o with grants := n.grants, dones := n.dones, st := if n.st = .halted then .halted else o.st }
  | _, o => o

/-- The rows of a tile, as bank × 1,024 + row, that defect records name. -/
def State.recordedRows (s : State) (d t : Nat) : List Nat :=
  (s.defects.filter (fun w => recKind w == 1 && recIndex w == d && recDetail w / 2 ^ 15 == t)).map
    (fun w => recDetail w % 2 ^ 15)

/-- A checkpointed tile comes back into the physical tile that now serves its name (R187). -/
def State.scanTile (s : State) (p : Nat × TileS) : State :=
  match s.tileKey ⟨p.1 / 16 % 144, by omega⟩ ⟨p.1 % 16, by omega⟩ with
  | some k =>
    let rows := s.recordedRows (k / 20) (k % 20)
    let back (t : TileS) (a : Nat) : Bool :=
      !(rows.contains (a / 16 % 32 * 1024 + a / 512))
        && !(p.2.resident.any (fun r => decide (r.1 ≤ a * 8) && decide (a * 8 < r.1 + r.2)))
        && !(t.spares.contains (a / 16 % 32 * 1024 + a / 512))
    let s := s.modTile k (fun t =>
      { p.2 with
        banks := t.banks, notify := t.notify, bad := t.bad.filter (back t), weak := t.weak.filter (back t)
        corrected := t.corrected.filter (fun q => !rows.contains q.1), spares := rows.foldl (fun l r => insertNew r l) t.spares
        shutAt := t.shutAt
        credits := [], revoked := t.revoked
        dirty0 := p.2.resident.flatMap (fun r => List.range' (r.1 / 4096) (r.2 / 4096))
        dirty1 := p.2.resident.flatMap (fun r => List.range' (r.1 / 4096) (r.2 / 4096)) })
    { s with
      spadMem := p.2.resident.foldl
        (fun m (r : Nat × Nat) => zeroRange m (spadBase k + r.1) (spadBase k + r.1 + r.2)) s.spadMem }
  | none => s

/-- RESIDENT scratchpad rows are written back. -/
def State.scanSpad (s : State) (l : List (Nat × Byte)) : State :=
  l.foldl (fun (s : State) p =>
    match s.tileKey ⟨p.1 / 2 ^ 26 % 144, by omega⟩ ⟨p.1 / 2 ^ 22 % 16, by omega⟩ with
    | some k => { s with spadMem := putByte s.spadMem (spadBase k + p.1 % 2 ^ 22) p.2 }
    | none => s) s

/-- RESIDENT commons segments are written back, which ends the errors and the unsettled bits of their words; every
block of them has then been written since both checkpoints. -/
def State.scanCommons (s : State) (c : CtxId) (l : List (Nat × Byte)) : State :=
  let s := (((s.ctx c).image.map (·.segments)).getD []).foldl (fun (s : State) g =>
    if g.2.2 then
      match s.phys g.1 with
      | some d =>
        let s := s.passSegment d g.2.1.val (some (c, true))
        s.modCommons d (fun x => { x with
          dirty0 := List.range' (g.2.1.val * 256) 256 ++ x.dirty0
          dirty1 := List.range' (g.2.1.val * 256) 256 ++ x.dirty1 })
      | none => s
    else s) s
  l.foldl (fun (s : State) p =>
    match s.phys ⟨p.1 / 2 ^ 25 % 144, by omega⟩ with
    | some d => { s with commonsMem := putByte s.commonsMem (commonsBase d + p.1 % 2 ^ 25) p.2 }
    | none => s) s

/-- Scan-in: records bind by logical names; cell words come back before any unit resumes, and with them the WAITs that
were in progress, whose generation is that of the words (R300). -/
def State.scanIn (s : State) (c : CtxId) (g : Scan) : State :=
  let s := g.tiles.foldl State.scanTile s
  let s := (s.scanSpad g.spad).scanCommons c g.commons
  let units := g.units.foldl (fun (t : Tbl UnitS) (p : Nat × UnitS) =>
    let now := (tget {} s.flow.unit p.1).acked
    tset {} t p.1 { p.2 with stopped := true, pausedAt := some s.now, held := [], suppress := now - p.2.acked, acked := now })
    s.flow.unit
  let queues := g.queues.foldl (fun (t : Tbl QueueS) (p : Nat × QueueS) => tset {} t p.1 p.2)
    s.flow.queue
  let rings := g.rings.foldl (fun (t : Tbl Ring) (p : Nat × Ring) => tset {} t p.1 p.2) s.eng.ring
  let engines := g.engines.foldl (fun (t : Tbl EngineS) (p : Nat × W32) =>
    tmod {} t p.1 (fun e => { e with sr := tset 0 e.sr c.val p.2 })) s.eng.engine
  let engines := g.certs.foldl (fun (t : Tbl EngineS) (p : Nat × Tbl (List Nat × List Nat)) =>
    tmod {} t p.1 (fun e => { e with certs := p.2, disabled := tget [] g.disabled p.1 })) engines
  let cells := g.cells.foldl (fun (t : Tbl Cell) (p : Nat × Cell) =>
    tmod {} t p.1 (fun e => { p.2 with waiters := e.waiters ++ p.2.waiters }))
    (tmap (fun k (e : Cell) =>
      if s.cellOf c k then { waiters := e.waiters.filter (fun q => !s.ownWait c q.1) } else e) s.net.cells)
  let groups := g.groups.foldl (fun (t : Tbl (Option GroupRun)) (p : Nat × Option GroupRun) =>
    tset none t p.1 (mergeGroup (tget none t p.1) p.2)) s.fab.group
  let logs := tmap (fun k (l : InLog) =>
    if (s.unit k).ctx = some c then
      { l with pos := match g.area with | some 0 => l.ckptA | some 1 => l.ckptB | none => l.pos }
    else l) s.flow.inlog
  let s := { s with
    flow := { s.flow with unit := units, queue := queues, inlog := logs }
    eng := { s.eng with ring := rings, engine := engines }
    net := { s.net with cells := cells }
    fab := { s.fab with group := groups } }
  s.modCtx c (fun x => { x with active := g.flow.2.1, previous := g.flow.2.2.1, epoch := g.flow.2.2.2 })

/-- The newest complete checkpoint of a context (R184, R524). -/
def CtxS.newest (x : CtxS) : Option Scan :=
  match x.area0, x.area1 with
  | some a, some b => if a.generation < b.generation then some b else some a
  | some a, none => some a
  | none, b => b

/-! ### Recovery log (R534) -/

/-- A 32-byte recovery record. -/
def recoveryRecord (kind ctx outcome die tile detected remap resumed caught generation : Nat) :
    Bytes :=
  [BitVec.ofNat 8 kind, BitVec.ofNat 8 ctx, BitVec.ofNat 8 outcome, 0] ++ toLe 2 die
    ++ [BitVec.ofNat 8 tile, 0] ++ toLe 8 detected ++ toLe 4 remap ++ toLe 4 resumed
    ++ toLe 4 caught ++ toLe 4 generation

/-- The newest record of a context still in progress is replaced; none: the record is added. -/
def putRecovery (r : Bytes) : List Bytes → List Bytes
  | [] => []
  | x :: xs =>
    if x.take 2 = r.take 2 ∧ (x.drop 8).take 8 = (r.drop 8).take 8 then r :: xs else x :: putRecovery r xs

/-- A new record in the ring of 1,024, newest first. -/
def State.logRecovery (s : State) (r : Bytes) : State :=
  { s with recov := { s.recov with log := (r :: s.recov.log).take 1024 } }

/-- Migrations that satisfy p stop; the records of a logical die that none migrates any more get outcome 3 (R534, R542). (DEDUCED, log 172) -/
def State.stopMigrations (s : State) (p : Migration → Bool) : State :=
  let left := s.recov.migrations.filter (fun m => !p m)
  let gone (r : Bytes) : Bool := r.take 1 == [5] && (r.drop 2).take 1 == [0] && s.recov.migrations.any (fun m =>
    p m && (r.drop 4).take 2 == toLe 2 m.logical && !left.any (fun y => y.logical == m.logical))
  { s with recov := { s.recov with
    migrations := left
    log := s.recov.log.map (fun r => if gone r then r.take 2 ++ [3] ++ r.drop 3 else r) } }

/-- The record of a recovery is brought up to date. -/
def State.updateRecovery (s : State) (r : Bytes) : State :=
  { s with recov := { s.recov with log := putRecovery r s.recov.log } }

/-! ### Restore (R527) -/

/-- An output port without the packets that p names. -/
def OutPort.without (o : OutPort) (p : Pkt → Bool) : OutPort :=
  let l := (tmap (fun _ (l : List (Pkt × Nat)) => l.filter (fun q => !p q.1)) o.lanes).filter (fun l => l.2 != [])
  { o with lanes := l }

/-- The packets of a context that are in flight on this panel are discarded (R46): their sources and destinations
let them pass in sequence and serve none of them, and no request waits for its completion. (DEDUCED, log 126) -/
def State.voidPackets (s : State) (c : CtxId) : State :=
  let mine (p : Pkt) : Bool := p.ctx.toNat == c.val && !p.firmware
  let near (p : Pkt) : Bool := mine p && p.srcPanel == s.srcPanel
  let key (p : Pkt) : BitVec 12 × BitVec 3 × W32 × W64 := (p.srcNode, p.vc, p.seq, p.dest)
  let sent := (s.net.copies.filter (fun x => mine x.pkt)).map (fun x => key x.pkt)
  let early := (s.net.early.filter (fun e => near e.2.2.2)).map (fun e => key e.2.2.2)
  let regd := s.net.reg.flatMap (fun r => (r.2.held.filter mine).map key)
  { s with
    net := { s.net with
      void := sent ++ early ++ regd ++ s.net.void
      pendingReq := s.net.pendingReq.filter (fun e => !mine e.2.2)
      parked := s.net.parked.filter (fun e => !mine e.2.2)
      out := tmap (fun _ (o : OutPort) => o.without near) s.net.out }
    flow := { s.flow with ctx := tmod {} s.flow.ctx c.val (fun x => { x with
      held := x.held.filter (fun h => match h.2.2 with | some e => !near e.2 | none => true) }) } }

/-- Steps 1 to 3 of R527 and the record of R534: the region's restore begins. A switch in progress
and a checkpoint in progress are abandoned (R167, R184). -/
def State.beginRestore (s : State) (c : CtxId) (kind die tile : Nat) (since : Option Nat := none) : State :=
  if (s.ctx c).sw = .none ∨ s.st ≠ .run ∧ s.st ≠ .idle then s
  else
    let t := since.getD s.now
    let remap := if kind = 1 then 0 else (s.now - t) / 1000
    let gen := (((s.ctx c).newest).map (·.generation)).getD 0
    let s := (((s.stopUnits c).dropUnsettled c).revokeCredits c).voidPackets c
    let s := s.modCtx c (fun x =>
      { x with
        kind := none
        ckptRun := none
        restore := some { kind := kind, detected := t, generation := gen, die := die, tile := tile
                          resumed := false, remapUs := remap, resumedUs := 0
                          goals := (s.flow.inlog.filter (fun p => (s.unit p.1).ctx == some c)).map (fun p =>
                            (p.1, p.2.dropped + p.2.records.length)) } })
    (s.count .recovery 0 0x0C 1).logRecovery
      (recoveryRecord kind c.val 0 die tile t remap 0 0xFFFFFFFF gen)

/-- A region restores for a fault whose rule names region restore (kind 1). -/
def State.needRestore (s : State) (c : CtxId) : State := s.beginRestore c 1 0xFFFF 0xFF

/-- Every context of a list restores. -/
def State.restoreAll (s : State) (l : List CtxId) (kind die tile : Nat) (since : Option Nat := none) : State :=
  l.foldl (fun s c => s.beginRestore c kind die tile since) s

/-! ### Suspended guarantees (R536, R537) -/

/-- Event 0x6020 or 0x6021 for a context that yields to a safety action at a die, at most once a second of each
kind and pair (R536): yielding and favoured context, rank, die. -/
def State.suspendEvent (s : State) (code : W16) (c : CtxId) (d : Nat) : State :=
  if s.recov.lastSuspend.any (fun p => p.1 == c && p.2.1 == code.setWidth 8 && decide (s.now < p.2.2 + 1000000000)) then s
  else
    { s with recov := { s.recov with lastSuspend :=
      (c, code.setWidth 8, s.now) :: s.recov.lastSuspend.filter (fun p => !(p.1 == c && p.2.1 == code.setWidth 8)) } }.event
      code (some c) (s.dieLoc d) (c.val + 0xFF * 2 ^ 8 + 1 * 2 ^ 16 + d * 2 ^ 24)

/-- The suspensions that the islands of a range of keys caused end. -/
def State.unsuspend (s : State) (lo hi : Nat) : State :=
  let mine (p : CtxId × Byte × Nat) : Bool := decide (lo ≤ p.2.2) && decide (p.2.2 < hi)
  let old := s.recov.suspensions.filter mine
  let s := { s with recov := { s.recov with
    suspensions := s.recov.suspensions.filter (fun p => !mine p) } }
  old.foldl (fun (s : State) p => s.suspendEvent 0x6021 p.1 (p.2.2 / 37)) s

/-! ### Failures -/

/-- The engines, rings and sync cells that answer to a logical name are those of the die that has just taken it:
bound as the name's were (R530), and empty until scan-in. Every physical die has 8 engines and 512 cells (R48);
those of a die without a logical name hold nothing and answer to nobody, so the tables list them by name. -/
def State.freshDie (s : State) (l : LDie) : State :=
  { s with
    eng := { s.eng with
      engine := tmap (fun k (e : EngineS) => if k / 8 = l.val then { e with sr := [], certs := [], disabled := [] } else e) s.eng.engine
      ring := tmap (fun k (r : Ring) =>
        if k / 64 = l.val then { base := r.base, log2 := r.log2, ctx := r.ctx, prio := r.prio } else r) s.eng.ring }
    net := { s.net with cells := tclear (dieCells l.val) (dieCells l.val + 512) s.net.cells } }

/-- A die fails (R530): fault 0x6011, die record, re-homing or event for a dormant die, attachments, its
commons segments bound on the new die, a migration to it stopped (R542), and the restore of every region that
holds the logical die. (DEDUCED, log 155; DEDUCED, log 159) -/
def State.dieFail (s : State) (d : Nat) (cause : Nat := 0) (since : Option Nat := none) : State :=
  if s.dieRecord d then s
  else
    let l := s.logical d
    let dormant := s.isDormant d
    let s := s.fault 0x6011 none (locDie d) cause
    let s := (((s.unsuspend (d * 37) (d * 37 + 37)).addField (mkRec 3 d 0)).detach d).setDom (312 + d) false
    let s := s.stopMigrations (fun m => m.dst / 2 == d)
    match l with
    | some l =>
      let cs := s.contextsWhere (fun x => x.holdsDie l)
      let had := s.dormant (d / 13)
      let s := s.rehome l
      match had with
      | some k =>
        let s := s.reroute.freshDie l
        let s := { s with anat := { s.anat with orphans := (d, l) :: s.anat.orphans } }
        let s := (s.commons d).seg.foldl (fun (s : State) p => s.passSegment (dieAt k (d / 13)) p.1 p.2) s
        (s.count .recovery 0 0x14 1).restoreAll cs 3 l.val 0xFF since
      | none => cs.foldl State.haltCtx s
    | none => if dormant then s.dropDormant (d / 13) else s

/-- A tile that the defect map now counts as bad leaves its row (R44, R529): the row's map is rebuilt, the tiles
that take a name are zeroised and keep the IDs revoked at the tiles that served it (R95), and the regions that hold
a moved name restore; a row left with fewer than four good tiles fails its die. -/
def State.tileGone (s : State) (d t : Nat) : State :=
  if (s.goodTiles d (t / 5)).length < 4 then s.dieFail d
  else
    let before := s
    let s := s.buildTiles d
    if s.tileMapWord d = before.tileMapWord d then s
    else
      let s := (s.remapped).count .recovery 0 0x10 1
      let moved := (List.finRange 16).filter (fun q => q.val / 4 == t / 5 && s.physTile d q != before.physTile d q)
      let s := moved.foldl (fun (s : State) q =>
        let k := d * 20 + s.physTile d q
        let was := before.tile (d * 20 + before.physTile d q)
        (s.zeroTile k).modTile k (fun y => { y with
          revoked := was.credits.map (·.1) ++ was.revoked
          banks := [], notify := [], shutAt := none })) s
      match s.logical d with
      | some l =>
        let cs := s.contextsWhere (fun x => moved.any (x.holdsTile l))
        s.restoreAll cs 2 l.val ((moved.head?.map (·.val)).getD 0xFF)
      | none => s

/-- A tile fails (R529): fault 0x6010, tile record, and the tile leaves its row. -/
def State.tileFail (s : State) (d t : Nat) (cause : Nat := 0) : State :=
  if s.tileBad d t then s
  else
    ((((s.fault 0x6010 none (locTile d t) cause).unsuspend (d * 37 + t) (d * 37 + t + 1)).addField (mkRec 0 d t))).tileGone
      d t

/-- A defect record of a scratchpad row is stored (R88); the record that leaves its bank without a spare row makes
the tile bad (R38), which fails it as R529 says. -/
def State.addRow (s : State) (d t bank row : Nat) : State :=
  let r := s.addField (mkRec 1 d (t * 2 ^ 15 + bank * 2 ^ 10 + row))
  if r.tileBad d t && !s.tileBad d t && s.st != .off then
    ((r.fault 0x6010 none (locTile d t)).unsuspend (d * 37 + t) (d * 37 + t + 1)).tileGone d t
  else r

/-- A context relocates old stacks to new ones (R532): the list entries, and a new epoch. -/
def State.relocateCtx (s : State) (pairs : List (Nat × Nat)) (c : CtxId) : State :=
  let s := s.modCtx c (fun x =>
    { x with relocations := x.relocations ++ pairs, epoch := x.epoch + 1 })
  let s := s.mapQueues c (fun q =>
    { q with tokens := q.tokens.map (fun t => { t with epoch := t.epoch + 1 }) })
  s.mapUnits c (fun u => { u with epoch := u.epoch + 1 })

/-- The stack and offset that a placement word names. -/
def placementOf (w : W64) : Nat × Nat := (bits w.toNat 37 9, bits w.toNat 0 36)

/-- The shards of a context that lie on stack k as its relocations stand, with their offset and length. -/
def CtxS.shardsOn (x : CtxS) (k : Nat) : List (Nat × Nat × Nat) :=
  match x.manifest with
  | none => []
  | some m =>
    (List.range m.entries.length).filterMap (fun i =>
      match m.entries[i]? with
      | none => none
      | some e =>
        let p := placementOf e.placement
        let now := ((x.relocations.find? (fun r => r.1 == p.1)).map (·.2)).getD p.1
        if now = k then some (i, p.2, e.length.toNat) else none)

/-- Banks of stack k whose copy a migration has finished (R531). -/
def State.copiedBanks (s : State) (k : Nat) : List Nat :=
  match s.recov.migrations.find? (fun m => m.src == k) with
  | some m => ((s.stack k).owner.map (·.1)).filter (fun b => !m.banks.contains b)
  | none => []

/-- Banks that a shard at an offset with a length lies in. -/
def shardBanks (off len : Nat) : List Nat :=
  List.range' (off / 2 ^ 30) ((off + len - 1) / 2 ^ 30 + 1 - off / 2 ^ 30)

/-- Shards of a failed stack that no migration has copied become ABSENT, and refill where a new stack takes its place; what was held for
them completes POISONED, with fault 0x4004 at its unit (R268, R533, R567). -/
def State.dropShards (s : State) (k : Nat) (refill : Bool) : State :=
  let copied := s.copiedBanks k
  allCtx.foldl (fun (s : State) c =>
    let l := ((s.ctx c).shardsOn k).filter (fun q => !(shardBanks q.2.1 q.2.2).all copied.contains)
    let lost (h : Nat × Nat × Option (BitVec 12 × Pkt)) : Bool := l.any (fun q => q.1 == h.1)
    let gone := (s.ctx c).held.filter lost
    let s := s.modCtx c (fun x =>
      { x with
        held := x.held.filter (fun h => !lost h)
        shards := l.foldl (fun (t : Tbl ShardS) q => tset {} t q.1 { want := refill, since := s.now }) x.shards })
    gone.foldl (fun (s : State) h =>
      s.fault 0x4004 (some c) (locStack k (((l.find? (fun q => q.1 == h.1)).map (·.2.1)).getD 0)) h.1) s) s

/-- Banks of a stack that a context holds and in which no shard lies, as a mask (R533). -/
def State.bareBanks (s : State) (k : Nat) (owners : Tbl Byte) (c : CtxId) : Nat :=
  let used := s.copiedBanks k ++ allCtx.flatMap (fun c => ((s.ctx c).shardsOn k).flatMap (fun q =>
    shardBanks q.2.1 q.2.2))
  ((owners.filter (fun p => p.2.toNat == c.val && !used.contains p.1)).map (fun p => 2 ^ p.1)).sum

/-- Stack `new` takes the place of the lost stack k (R533): owners, relocations, for each context event 0x4007
with the mask of its banks that held no shard, and the restore of every context that holds a bank. (DEDUCED, log 123) -/
def State.replaceStack (s : State) (k new : Nat) (holders : List CtxId) : State :=
  let owners := (s.stack k).owner
  let masks := holders.map (fun c => (c, s.bareBanks k owners c))
  let s := (s.dropShards k true).modStack new (fun x => { x with owner := owners })
  let s := s.stopMigrations (fun m => m.src == k)
  let s := holders.foldl (fun s c => s.relocateCtx [(k, new)] c) s
  let s := { s with anat := { s.anat with
    orphans := s.anat.orphans.filter (fun p => !(p.1 == k / 2 && s.stackBad (4 * (k / 2) + 1 - k))) } }
  (masks.foldl (fun (s : State) p =>
      if p.2 = 0 then s else s.event 0x4007 (some p.1) (locStack k 0) p.2) s).restoreAll holders 4 0xFFFF 0xFF

/-- Checkpoint areas that lie in stack k are gone: area 0 in the west home stack of each die of the region,
area 1 in the east one (R524). -/
def State.loseAreas (s : State) (k : Nat) : State :=
  allCtx.foldl (fun (s : State) c =>
    let x := s.ctx c
    let lies (a : Nat) : Bool := x.dies.any (fun d => match s.homeCell d with
      | some h => ((x.relocations.find? (fun r => r.1 == 2 * h + a)).map (·.2)).getD (2 * h + a) == k
      | none => false)
    s.modCtx c (fun y => { y with
      area0 := if lies 0 then none else y.area0, area1 := if lies 1 then none else y.area1 })) s

/-- A stack is lost (R533); the loss of a migration's destination ends the migration only (R531). (DEDUCED, log 114) -/
def State.loseStack (s : State) (k : Nat) : State :=
  if s.stackBad k then s
  else
    let cell := k / 2
    let role := s.stackRole k
    let holders := allCtx.filter (fun c => s.holdsStack c k)
    let had := s.dormant (cell / 13)
    let moved := (s.anat.orphans.find? (fun p => p.1 == cell)).bind (fun p => s.phys p.2)
    let s := (s.loseAreas k).fault 0x4006 none (locStack k 0)
    let s := (s.addField (mkRec 4 k 0)).count .recovery 0 0x1C 1
    if role = 1 then s.dropDormant (cell / 13)
    else if role ≠ 0 ∨ s.recov.migrations.any (fun m => m.dst == k) then s
    else
      match moved, had with
      | some d, _ => s.replaceStack k (2 * d + k % 2) holders
      | none, some dcol => (s.dieFail cell).replaceStack k (2 * dieAt dcol (cell / 13) + k % 2) holders
      | none, none => holders.foldl State.haltCtx (s.dropShards k false)

/-! ### SAFE and QUENCH (R355–R357, R390, R535) -/

/-- Scans in progress are abandoned; what they had before stays (R184). -/
def State.dropScans (s : State) : State :=
  { s with flow := { s.flow with ctx := tmap (fun _ (x : CtxS) => { x with ckptRun := none, paused := false }) s.flow.ctx } }

/-- A start or command that runs is abandoned; an interrupted trial is counted (R511). -/
def State.dropStart (s : State) : State :=
  { s with boot := { s.boot with
      start := none
      running := .none
      trialCut := match s.boot.start with
        | some ⟨.trial, _, _⟩ => s.boot.trialCut + 1
        | _ => s.boot.trialCut } }

/-- Restores in progress stop, with outcome 3 (R542). -/
def State.stopRecoveries (s : State) : State :=
  allCtx.foldl (fun s c =>
    match (s.ctx c).restore with
    | some r =>
      if r.resumed then s
      else (s.modCtx c (fun x => { x with restore := none })).updateRecovery
        (recoveryRecord r.kind c.val 3 r.die r.tile r.detected r.remapUs 0 0xFFFFFFFF r.generation)
    | none => s) (s.stopMigrations (fun _ => true))

/-- QUENCH is taken (R355–R357): clocks stop, and quench_status is 1 with event 0x3007. Trigger 0 is
the pin, 1 the command, 2 a fault. -/
def State.takeQuench (s : State) (trigger : Nat) (code : W16) : State :=
  match s.st with
  | .off | .quenched => s
  | p =>
    let s := { s with clk := { s.clk with
        quench := 1, trigger := trigger, quenchAt := s.now, quenchFrom := p, quenchCode := code
        dumpAsked := s.obj 0xA000 0x02 == 1 } }
    (((s.endHost 0 .pathFault 0).endHost 1 .pathFault 0).dropStart.dropScans.enter .quenched).event 0x3007 none (locHub 0)
      trigger

/-- The panel enters SAFE (R535), or takes QUENCH in its place while quench_on_fault is 1 and a fault
is the cause (R355). Every unit halts, dies run at step 8, and the flow request is at its maximum. -/
def State.enterSafe (s : State) (cause : Option W16) : State :=
  match s.st with
  | .boot | .selftest | .idle | .run =>
    if cause.isSome && s.obj 0xA000 0x03 == 1 then s.takeQuench 2 (cause.getD 0)
    else
      let s := allCtx.foldl (fun s c => s.stopUnits c) s.dropStart.dropScans.stopRecoveries
      let s := { s with
        recov := { s.recov with safeCause := cause.getD 0 }
        thm := { s.thm with flowReq := BitVec.ofNat 32 (s.obj 0x3201 0x02) }
        clk := { s.clk with
          dieBase := { s.clk.dieBase with step := 8 }
          die := tmap (fun _ (x : DieClk) => { x with step := 8 }) s.clk.die } }
      s.enter .safe
  | _ => s

/-- A fault whose rule names SAFE. -/
def State.safeFault (s : State) (code : W16) (l : Loc) (detail : Nat := 0) : State :=
  (s.fault code none l detail).enterSafe (some code)

end Sys2Proof.Machine
end

