-- ==== Sys2Proof/Machine/Lines.lean ====
section
/-! DEFINITION. What a line of a stack holds: AES-256-XTS ciphertext and its tag, under the keys of the bank's owner
(R251–R254, R425). -/

namespace Sys2Proof.Machine

/-! ### The inverse of AES-256 -/

/-- The inverse S-box. -/
def sboxInv (a : Nat) : Nat :=
  let r (n : Nat) : Nat := (a * 2 ^ n) % 256 + a / 2 ^ (8 - n)
  ginv (Nat.xor (Nat.xor (Nat.xor (r 1) (r 3)) (r 6)) 0x05)

/-- The inverse of ShiftRows. -/
def shiftRowsInv (s : List Nat) : List Nat := (List.range 16).map (fun i => s.getD ((i + 12 * (i % 4)) % 16) 0)

/-- The inverse of MixColumns. -/
def mixColumnsInv (s : List Nat) : List Nat :=
  (List.range 16).map (fun i =>
    let c := i / 4 * 4
    let x (n : Nat) : Nat := s.getD (c + (i % 4 + n) % 4) 0
    Nat.xor (Nat.xor (gmul (x 0) 14) (gmul (x 1) 11)) (Nat.xor (gmul (x 2) 13) (gmul (x 3) 9)))

/-- The inverse cipher of one block. -/
def aesBlockInv (keys : List (List Nat)) (b : List Nat) : List Nat :=
  let s := xorList b (keys.getD 14 [])
  let s := (List.range 13).foldl (fun s r =>
    mixColumnsInv (xorList ((shiftRowsInv s).map sboxInv) (keys.getD (13 - r) []))) s
  xorList ((shiftRowsInv s).map sboxInv) (keys.getD 0 [])

/-! ### XTS over one line (R252) -/

/-- The tweak of a line: its number at [28:0] and its stack index at [37:29]. -/
def lineTweak (k l : Nat) : Bytes := toLe 16 (l % 2 ^ 29 + k % 2 ^ 9 * 2 ^ 29)

/-- A 128-bit tweak times α, as a little-endian number. -/
def xtsNext (t : Nat) : Nat :=
  if t < 2 ^ 127 then t * 2 else Nat.xor (t * 2 % 2 ^ 128) 0x87

/-- One data unit of a line under a 64-byte key, each block through a cipher between its two masks. -/
def xtsLine (f : List (List Nat) → List Nat → List Nat) (key : Bytes) (k l : Nat) (d : Bytes) : Bytes :=
  let k1 := aesKeys (natsOf (key.take 32))
  let k2 := aesKeys (natsOf (key.drop 32))
  let t0 := leNat (bytesOf (aesBlock k2 (natsOf (lineTweak k l))))
  ((List.range 8).foldl (fun (a : Bytes × Nat) i =>
    let m := natsOf (toLe 16 a.2)
    (a.1 ++ bytesOf (xorList (f k1 (xorList (natsOf ((d.drop (16 * i)).take 16)) m)) m), xtsNext a.2)) ([], t0)).1

/-- Encryption and decryption of a line. -/
def lineSeal (key : Bytes) (k l : Nat) (d : Bytes) : Bytes := xtsLine aesBlock key k l d
def lineOpen (key : Bytes) (k l : Nat) (d : Bytes) : Bytes := xtsLine aesBlockInv key k l d

/-- The tag of a line: 64 bits of KMAC256 over tweak and ciphertext, with "QLINE". -/
def lineTag (key : Bytes) (k l : Nat) (c : Bytes) : Bytes :=
  kmac256 key (lineTweak k l ++ c) 8 [0x51, 0x4C, 0x49, 0x4E, 0x45]

/-! ### Keys (R425) -/

/-- A key of a stack: under the context master secret with "QCTXK", or for FIRMWARE and RESERVE banks under the
panel storage secret with "QPANK". None for a bank that has no owner or a context without keys. -/
def State.stackKey (s : State) (k b : Nat) (purpose : Bytes) (n : Nat) : Option Bytes :=
  let o := (s.bankOwner k b).toNat
  if h : o < 32 then
    ((s.ctx ⟨o, h⟩).cms).map (fun m => kmac256 (bytesOf (keyBytes m)) (purpose ++ toLe 2 k) n [0x51, 0x43, 0x54, 0x58, 0x4B])
  else if o = 0xFD ∨ o = 0xFE then
    some (kmac256 (bytesOf (keyBytes (Config.storage s.sec.storage))) (purpose ++ toLe 2 k) n [0x51, 0x50, 0x41, 0x4E, 0x4B])
  else none

/-- The XTS key and the TAG key of a line. -/
def State.xtsKey (s : State) (k l : Nat) : Bytes := (s.stackKey k (l / 2 ^ 23) [0x58, 0x54, 0x53] 64).getD []
def State.tagKey (s : State) (k l : Nat) : Bytes := (s.stackKey k (l / 2 ^ 23) [0x54, 0x41, 0x47] 32).getD []

/-! ### What a line holds, and its check (R253, R254) -/

/-- The ciphertext and the tag in a line: what the panel's last write stored, unless something else has changed it. -/
def State.lineHolds (s : State) (k l : Nat) : Bytes × Bytes :=
  match tget none (s.stack k).raw l with
  | some x => x
  | none =>
    let c := lineSeal (s.xtsKey k l) k l (bytesAt s.stackMem (stackBase k + l * 128) 128)
    (c, lineTag (s.tagKey k l) k l c)

/-- The tag of a line does not match what the line holds: ciphertext that has changed, or has come from another line or
stack (R254). -/
def State.tagBad (s : State) (k l : Nat) : Bool :=
  match tget none (s.stack k).raw l with
  | some x => x.2 != lineTag (s.tagKey k l) k l x.1
  | none => false

/-- Lines that hold what the panel did not write last, and pass the check, are decrypted: an older value of the line
written back in place (R254). -/
def State.openRaw (s : State) (k : Nat) (lines : List Nat) : State :=
  lines.foldl (fun (s : State) l =>
    match tget none (s.stack k).raw l with
    | none => s
    | some x =>
      { s with stackMem := putBytes s.stackMem (stackBase k + l * 128) (lineOpen (s.xtsKey k l) k l x.1) }.modStack k
        (fun y => { y with raw := tset none y.raw l none })) s

end Sys2Proof.Machine
end

