-- ==== Sys2Proof/Machine/Operands.lean ====
section
/-! DEFINITION. The one operand form that commands share: a fabric address, decoded at this panel (R246, R247).
Every other operand is a field of its command. -/

namespace Sys2Proof.Machine

/-! ### Addresses (R246, R247) -/

/-- What an address of this panel names. -/
inductive Target where
  | stack (k : Nat) (off : Nat)
  | commons (l : LDie) (off : Nat)
  | spad (l : LDie) (t : LTile) (off : Nat)
  /-- a sync cell by key -/
  | cell (k : Nat)
  | engine (l : LDie) (off : Nat)
  | hub (h : Nat) (off : Nat)
  deriving DecidableEq, Repr

/-- A decoded address. -/
inductive Decoded where
  | here (t : Target)
  /-- another panel: x, y, z -/
  | remote (x y z : Nat)
  | bad
  deriving DecidableEq, Repr

/-- A panel triple means this panel (R247). -/
def State.isHere (s : State) (x y z : Nat) : Bool :=
  (x, y, z) == (31, 31, 15) || (x, y, z) == s.coord

/-- The location and offset of a space on this panel (R246); none where the address is refused. -/
def decodeSpace (space loc rest : Nat) : Option Target :=
  let bit36 := rest / 2 ^ 36
  let low := rest % 2 ^ 36
  match space with
  | 0 => if loc < 312 ∧ bit36 = 0 then some (.stack loc low) else none
  | 1 => if h : loc < 144 then
      if bit36 = 0 ∧ low < 2 ^ 25 then some (.commons ⟨loc, h⟩ low) else none
    else none
  | 2 => if h : loc < 144 then
      if h' : rest / 2 ^ 32 < 16 then
        if rest % 2 ^ 32 < 2 ^ 22 then some (.spad ⟨loc, h⟩ ⟨rest / 2 ^ 32, h'⟩ (rest % 2 ^ 32))
        else none
      else none
    else none
  | 3 => if bit36 = 0 ∧ low < 2 ^ 16 then
      if loc < 144 then
        if low / 8 < 512 then some (.cell (dieCells loc + low / 8)) else none
      else if loc = 0x1F0 ∨ loc = 0x1F1 then
        if low / 8 < 4096 then some (.cell (hubCells (loc - 0x1F0) + low / 8)) else none
      else none
    else none
  | 4 => if h : loc < 144 then
      if bit36 = 0 ∧ low < 0x8000 then some (.engine ⟨loc, h⟩ low) else none
    else none
  | 5 => if loc < 2 ∧ bit36 = 0 then some (.hub loc low) else none
  | _ => none

/-- Decoding a fabric address at this panel. (DESIGN CHOICE, log 35) -/
def State.decode (s : State) (a : W64) : Decoded :=
  let n := a.toNat
  let x := bits n 59 5
  let y := bits n 54 5
  let z := bits n 50 4
  if s.isHere x y z then
    match decodeSpace (bits n 46 4) (bits n 37 9) (bits n 0 37) with
    | some t => .here t
    | none => .bad
  else if x < s.dims.1 ∧ y < s.dims.2.1 ∧ z < s.dims.2.2 then .remote x y z
  else .bad

end Sys2Proof.Machine
end

