-- ==== Sys2Proof/Machine/Mem.lean ====
section
/-! DEFINITION. The accesses to stack, commons and scratchpad memory: decoding,
ownership and permissions, banks, ECC, tags, unsettled bits, credits, shards (R87–R96, R111–R117,
R242–R261, R567). -/

namespace Sys2Proof.Machine

/-! ### Outcomes of an access -/

/-- Who accesses: a context or firmware, the unit, and whether a speculation role may read unsettled
data (R213). -/
structure Who where
  ctx : CtxId
  firmware : Bool
  role : Role
  unit : Nat
  deriving DecidableEq, Repr

/-- The outcome of an access: data, a refusal with its status and fault code (0 none), or a request
that is held until a shard is VALID (R261). -/
inductive Acc where
  | ok (d : Bytes)
  | fail (st : Status) (code : W16)
  | held (shard : Nat)
  deriving DecidableEq, Repr

/-! ### Banks (R105–R107, R266) -/

/-- A bank that is closed, closing or opening answers BANK_CLOSED. -/
def BankSt.shut : BankSt → Bool
  | .open => false
  | _ => true

/-- Banks that a byte range of a memory touches: slots of 128 bytes in `n` banks. -/
def slotBanks (n off len : Nat) : List Nat :=
  ((List.range' (off / 128) ((off + len + 127) / 128 - off / 128)).map (· % n)).eraseDups

/-! ### Stacks -/

/-- Lines that a range touches. -/
def linesOf (off len : Nat) : List Nat := List.range' (off / 128) ((off + len + 127) / 128 - off / 128)

/-- The stack a context's request reaches (R10, R532). -/
def State.relocated (s : State) (w : Who) (k : Nat) : Nat :=
  if w.firmware then k
  else match (s.ctx w.ctx).relocations.find? (fun p => p.1 == k) with
    | some p => p.2
    | none => k

/-- The shard of a context that holds a byte of a stack (R257). -/
def State.shardAt (s : State) (c : CtxId) (k off : Nat) : Option Nat :=
  match (s.ctx c).manifest with
  | none => none
  | some m =>
    ((List.range m.entries.length).find? (fun i =>
      match m.entries[i]? with
      | some e =>
        let p := placementOf e.placement
        s.relocated ⟨c, false, .none, 0⟩ p.1 == k && decide (p.2 ≤ off)
          && decide (off < p.2 + e.length.toNat)
      | none => false))

/-- A shard is sealed. -/
def CtxS.sealed (x : CtxS) (i : Nat) : Bool :=
  match x.manifest with
  | some m => match m.entries[i]? with
    | some e => e.flags.toNat.testBit 0
    | none => false
  | none => false

/-- A shard's record. -/
def CtxS.shard (x : CtxS) (i : Nat) : ShardS := tget {} x.shards i

/-- A shard's record becomes f of itself. -/
def State.modShard (s : State) (c : CtxId) (i : Nat) (f : ShardS → ShardS) : State :=
  s.modCtx c (fun x => { x with shards := tmod {} x.shards i f })

/-- Is a byte range inside the context's speculative scratch region (R215)? -/
def CtxS.inScratch (x : CtxS) (k off : Nat) : Bool :=
  match x.image with
  | none => false
  | some i => i.scratch.any (fun r =>
      let p := placementOf r.2.1
      p.1 == k && decide (p.2 ≤ off) && decide (off < p.2 + r.2.2))

/-- Who may access the speculative scratch region: the settle pass and the geyser engine (R215). -/
def Who.mayScratch (w : Who) : Bool := w.role == .settle || w.role == .geyser

/-- The refusals of R249, in the order of its table; none where the request passes. -/
def State.stackRefusal (s : State) (w : Who) (k off : Nat) (write : Bool) : Option Acc :=
  let o := (s.bankOwner k (off / 2 ^ 30)).toNat
  if w.firmware then none
  else if 0xFD ≤ o ∨ o ≠ w.ctx.val then some (.fail .denied 0x4001)
  else
    let x := s.ctx w.ctx
    match s.shardAt w.ctx k off with
    | some i =>
      if write ∧ x.sealed i ∨ (x.shard i).st = .failed then some (.fail .denied 0x4001)
      else if (x.shard i).st ≠ .valid then some (.held i)
      else none
    | none =>
      if x.inScratch k off ∧ !w.mayScratch then some (.fail .denied 0x6043) else none

/-- A counter with its high half shown: bytes moved, low half at a hidden offset (R269). -/
def State.countBytes (s : State) (k off n : Nat) : State :=
  let v := tget 0 s.ctrs (ctrKey .stack k (off + 0x58)) + n
  let s := { s with ctrs := tset 0 s.ctrs (ctrKey .stack k (off + 0x58)) (v % 2 ^ 32) }
  if 2 ^ 32 ≤ v then s.count .stack k off (v / 2 ^ 32) else s

/-- A line that turns uncorrectable counts once; the 17th of an hour fails the stack (R255). -/
def State.noteBadLines (s : State) (k : Nat) (lines : List Nat) : State :=
  let x := s.stack k
  let recent := x.badTimes.filter (fun p => decide (s.now < p.2 + 3600000000000))
  let new := lines.filter (fun l => x.uncorrectable.contains l && !x.reported.contains l)
  let all := new.map (fun l => (l, s.now)) ++ recent
  let s := if new = [] then s else s.modStack k (fun y => { y with badTimes := all, reported := new ++ y.reported })
  if 16 < all.length then s.loseStack k else s

/-- A sealed line that fails R253 quarantines its shard: event 0x4010, and the refill starts (R268). -/
def State.quarantine (s : State) (c : CtxId) (i : Nat) (k off : Nat) : State :=
  let s := s.modShard c i (fun x => { x with st := .quarantined, want := true, source := 0, since := s.now })
  (s.count .stack k 0x24 1).event 0x4010 (some c) (locStack k off) i

/-- Zeroisation that is pending completes before a request proceeds (R250). -/
def State.finishZero (s : State) (k b : Nat) : State :=
  if (s.stack k).zeroising.contains b then s.zeroBank k b else s

/-- The check of lines on a read, R253 steps 1 to 4: none where every line passes. -/
def State.lineCheck (s : State) (k : Nat) (lines : List Nat) : Option Status :=
  let x := s.stack k
  if lines.any (fun l => x.uncorrectable.contains l || x.poisoned.contains l) then some .poisoned
  else if lines.any (fun l => x.written.contains l && s.tagBad k l) then some .tagFail
  else none

/-- The fault code of a failed line check. -/
def lineCode : Status → W16
  | .poisoned => 0x4004
  | .tagFail => 0x4003
  | _ => 0

/-- What a failed line check does: counters, uncorrectable lines, and the quarantine of a sealed shard,
whose request is then held. -/
def State.lineFail (s : State) (w : Who) (k off : Nat) (lines : List Nat) (st : Status) :
    State × Acc :=
  let s := s.count .stack k (if st = .poisoned then 0x04 else 0x08) 1
  match (if w.firmware then none else s.shardAt w.ctx k off) with
  | some i =>
    if (s.ctx w.ctx).sealed i then ((s.quarantine w.ctx i k off).noteBadLines k lines, .held i)
    else (s.noteBadLines k lines, .fail st (lineCode st))
  | none => (s.noteBadLines k lines, .fail st (lineCode st))

/-- The banks of a stack that a range touches. -/
def bankSpan (off len : Nat) : List Nat :=
  List.range' (off / 2 ^ 30) ((off + max len 1 - 1) / 2 ^ 30 + 1 - off / 2 ^ 30)

/-- The first refusal of R249 over the banks of a range. -/
def State.spanRefusal (s : State) (w : Who) (k off len : Nat) (write : Bool) : Option Acc :=
  (bankSpan off len).findSome? (fun b => s.stackRefusal w k (max off (b * 2 ^ 30)) write)

/-- What turns a request away before any access, counted: a refusal of R249, a closed bank, or a shard that is not
VALID, for which it is held (R249, R261, R266). (DEDUCED, log 168) -/
def State.stackTurns (s : State) (w : Who) (k off len : Nat) (write : Bool) : Option (State × Acc) :=
  let closed := (bankSpan off len).any (fun b => (s.stackBankSt k b).shut)
  match s.spanRefusal w k off len write with
  | some (.fail st code) => some (s.count .stack k 0x18 1, .fail st code)
  | r =>
    if closed then some (s.count .stack k 0x1C 1, .fail .bankClosed 0x4063)
    else r.map (fun a => (s, a))

/-- A read of stack memory. -/
def State.stackRead (s : State) (w : Who) (k off len : Nat) : State × Acc :=
  let k := s.relocated w k
  let lines := linesOf off len
  if s.stackBad k then (s, .fail .poisoned 0x4004)
  else match s.stackTurns w k off len false with
    | some (t, r) => (t, r)
    | none =>
      let s := (bankSpan off len).foldl (fun (s : State) b => s.finishZero k b) s
      let fixed := (lines.filter (fun l => (s.stack k).corrected.contains l)).length
      let s := if fixed = 0 then s else s.count .stack k 0x00 fixed
      match s.lineCheck k lines with
      | some st => s.lineFail w k off lines st
      | none =>
        let s := s.openRaw k lines
        (s.countBytes k 0x28 len, .ok (bytesAt s.stackMem (stackBase k + off) len))

/-- While a migration copies stack k, a write of a bank it has copied goes to the destination too (R531). -/
def State.mirror (s : State) (k off : Nat) (d : Bytes) (lines : List Nat) : State :=
  match s.recov.migrations.find? (fun m => m.src == k) with
  | none => s
  | some m =>
    if m.banks.contains (off / 2 ^ 30) || s.stackBad m.dst then s
    else
      let s := s.modStack m.dst (fun x => { x with
        written := lines.foldl (fun l n => insertNew n l) x.written
        poisoned := x.poisoned.filter (fun l => !lines.contains l) })
      { s with stackMem := putBytes s.stackMem (stackBase m.dst + off) d }

/-- Bytes of a stack change: their lines hold them from now on, unmarked, and a running migration's copy takes them. -/
def State.stackLand (s : State) (k off : Nat) (d : Bytes) : State :=
  let lines := linesOf off d.length
  let s := s.modStack k (fun x =>
    { x with
      written := lines.foldl (fun l n => insertNew n l) x.written
      poisoned := x.poisoned.filter (fun l => !lines.contains l)
      uncorrectable := x.uncorrectable.filter (fun l => !lines.contains l)
      reported := x.reported.filter (fun l => !lines.contains l)
      raw := x.raw.filter (fun p => !lines.contains p.1)
      corrected := x.corrected.filter (fun l => !lines.contains l)
      merges := x.merges.filter (fun m => !lines.contains m.line) })
  { s with stackMem := putBytes s.stackMem (stackBase k + off) d }.mirror k off d lines

/-- The speculative scratch regions of a context hold free bytes: after a restore, a remap or a context start their
contents are unspecified (R215). (DEDUCED, log 167) -/
def State.forgetScratch (s : State) (c : CtxId) : State :=
  match (s.ctx c).image with
  | none => s
  | some i => i.scratch.foldl (fun (s : State) r =>
      let p := placementOf r.2.1
      let (b, s) := s.freeBytes r.2.2
      s.stackLand (s.relocated ⟨c, false, .settle, 0⟩ p.1) p.2 b) s

/-- A write of stack memory: whole lines are stored without a check and clear their flags; a partial
line is checked first, and nothing is written when it fails (R252). -/
def State.stackWrite (s : State) (w : Who) (k off : Nat) (d : Bytes) : State × Acc :=
  let k := s.relocated w k
  let lines := linesOf off d.length
  let part := lines.filter (fun l => l * 128 < off || off + d.length < l * 128 + 128)
  if s.stackBad k then (s, .fail .poisoned 0x4004)
  else match s.stackTurns w k off d.length true with
    | some (t, r) => (t, r)
    | none =>
      let s := (bankSpan off d.length).foldl (fun (s : State) b => s.finishZero k b) s
      match s.lineCheck k part with
      | some st => s.lineFail w k off part st
      | none =>
        (((s.openRaw k part).countBytes k 0x2C d.length).stackLand k off d, .ok [])

/-! ### Commons (R111–R117) -/

/-- May this reader see unsettled data of its own context (R213)? -/
def Who.mayUnsettled (w : Who) : Bool := w.role != .none

/-- The 64-bit words and 128-byte slots of a range. -/
def wordsOf (off len : Nat) : List Nat := List.range' (off / 8) ((off + len + 7) / 8 - off / 8)
def slotsOf (off len : Nat) : List Nat := linesOf off len

/-- A segment of the range is not held by the context (R114). -/
def State.segRefused (s : State) (w : Who) (d off len : Nat) : Bool :=
  !w.firmware && ((List.range' (off / 2 ^ 20) ((off + len - 1) / 2 ^ 20 + 1 - off / 2 ^ 20)).any (fun g =>
    ((tget none (s.commons d).seg g).map (·.1)) != some w.ctx))

/-- A poisoned word of the commons is read: the first read of each event counts, and a second error in
one row fails the die (R113). -/
def State.commonsPoison (s : State) (d : Nat) (words : List Nat) : State :=
  let x := s.commons d
  let new := words.filter (fun a => x.bad.contains a && !x.counted.contains a)
  let rows := new.map (fun a => a / 1024)
  let again := rows.any (fun r => x.errRows.contains r || decide (1 < (rows.filter (fun q => q == r)).length))
  let s := s.modCommons d (fun y =>
    { y with counted := new ++ y.counted, errRows := rows.foldl (fun l r => insertNew r l) y.errRows })
  if again then s.dieFail d else s

/-- A read of the commons of logical die l. -/
def State.commonsRead (s : State) (w : Who) (l : LDie) (off len : Nat) : State × Acc :=
  match s.phys l with
  | none => (s, .fail .unreachable 0x5002)
  | some d =>
    let x := s.commons d
    if s.segRefused w d off len then (s, .fail .denied 0x4070)
    else if (slotBanks 64 off len).any (fun b => (tget BankSt.open x.banks b).shut) then
      (s, .fail .bankClosed 0x4063)
    else if (slotsOf off len).any (fun n => x.unsettled.contains n) && !w.mayUnsettled then
      (s, .fail .denied 0x6043)
    else
      let fixed := ((wordsOf off len).filter (fun a => x.weak.contains a)).length
      let s := if fixed = 0 then s else s.count .engine (l.val * 8) 0x1C fixed
      if (wordsOf off len).any (fun a => x.bad.contains a) then
        ((s.count .engine (l.val * 8) 0x20 1).commonsPoison d (wordsOf off len), .fail .poisoned 0x4071)
      else (s, .ok (bytesAt s.commonsMem (commonsBase d + off) len))

/-- The runs of a write that land: the bytes of a word of `bad`, of which the write covers only a part, are left
out (R88, R113). -/
def landing (bad : List Nat) (off : Nat) (d : Bytes) : List (Nat × Bytes) :=
  let lost (a : Nat) : Bool := bad.contains a && !(off ≤ a * 8 && a * 8 + 8 ≤ off + d.length)
  let first := off / 8
  let last := (off + d.length - 1) / 8
  let lo := if lost first then (first + 1) * 8 - off else 0
  let hi := if lost last then last * 8 - off else d.length
  if lo < hi then [(off + lo, (d.take hi).drop lo)] else []

/-- The bytes of a write land in a commons: words, unsettled bits and dirty bits follow; unsettled data sets the
slots' bits, settled data clears them (R113, R116). -/
def State.commonsPut (s : State) (p off : Nat) (d : Bytes) (unsettled : Bool) : State :=
  let x := s.commons p
  let len := d.length
  let whole := (wordsOf off len).filter (fun a => off ≤ a * 8 && a * 8 + 8 ≤ off + len)
  let slots := slotsOf off len
  let blocks := (List.range' (off / 4096) ((off + len + 4095) / 4096 - off / 4096)).filter
    (fun b => ((tget none x.seg (b / 256)).map (·.2)) == some true)
  let s := s.modCommons p (fun y =>
    { y with
      bad := y.bad.filter (fun a => !whole.contains a)
      weak := y.weak.filter (fun a => !whole.contains a)
      counted := y.counted.filter (fun a => !whole.contains a)
      unsettled := if unsettled then slots.foldl (fun l n => insertNew n l) y.unsettled
        else y.unsettled.filter (fun n => !slots.contains n)
      dirty0 := blocks.foldl (fun l n => insertNew n l) y.dirty0
      dirty1 := blocks.foldl (fun l n => insertNew n l) y.dirty1 })
  { s with commonsMem := putBytes s.commonsMem (commonsBase p + off) d }

/-- A write of the commons; of a word that is uncorrectable and only partly covered nothing is written (R113). -/
def State.commonsWrite (s : State) (w : Who) (l : LDie) (off : Nat) (d : Bytes) (unsettled : Bool) :
    State × Acc :=
  match s.phys l with
  | none => (s, .fail .unreachable 0x5002)
  | some p =>
    let x := s.commons p
    let len := d.length
    let whole := (wordsOf off len).filter (fun a => off ≤ a * 8 && a * 8 + 8 ≤ off + len)
    let part := (wordsOf off len).filter (fun a => !whole.contains a)
    let resident := (List.range' (off / 2 ^ 20) ((off + len - 1) / 2 ^ 20 + 1 - off / 2 ^ 20)).any (fun g =>
      ((tget none x.seg g).map (·.2)) == some true)
    if s.segRefused w p off len then (s, .fail .denied 0x4070)
    else if (slotBanks 64 off len).any (fun b => (tget BankSt.open x.banks b).shut) then
      (s, .fail .bankClosed 0x4063)
    else if unsettled && resident then (s, .fail .denied 0x6043)
    else if part.any (fun a => x.bad.contains a) then
      ((landing x.bad off d).foldl (fun (s : State) q => s.commonsPut p q.1 q.2 unsettled) s, .fail .poisoned 0x4071)
    else (s.commonsPut p off d unsettled, .ok [])

/-! ### Scratchpads (R87–R96) -/

/-- The record of a logical tile in the tile counter sets. -/
def tileRec (d : LDie) (t : Nat) : Nat := d.val * 16 + t

/-- The unit behind a requester of a scratchpad bank. -/
def portUnit (t : LTile) (p : Nat) : Nat :=
  if p < 4 then t.val
  else if p < 7 then 16 + t.val
  else if p < 9 then 32 + 2 * t.val + (p - 7)
  else if p = 9 then 64 + 2 * t.val
  else 0x7F

/-- The requester of a scratchpad bank that a unit's access comes from (R89). (DEDUCED, log 166) -/
def spadPort (w : Who) (t : LTile) (write : Bool) : Nat :=
  let u := w.unit
  if u = t.val then (if write then 2 else 0)
  else if u = 16 + t.val then (if write then 6 else 4)
  else if u = 32 + 2 * t.val then 7
  else if u = 33 + 2 * t.val then 8
  else if 64 ≤ u ∧ u < 96 ∧ (u - 64) / 2 = t.val then 9
  else 10

/-- A requester loses a cycle at a bank: the tile's counter and the requesting unit's (R89, R91). -/
def State.loseTurn (s : State) (l : LDie) (t : LTile) (r : MemReq) : State :=
  let s := s.count .tile (tileRec l t.val) 0x00 1
  if portUnit t r.port < 112 then s.count .unit (unitKey l (portUnit t r.port)) 0x18 1 else s

/-- The banks of an access are granted to its requester: their pointers advance past it, and requests that wait there
lose the cycle. The second slot of a lane read comes over the second read port (R86, R89). -/
def State.bankTurn (s : State) (l : LDie) (t : LTile) (k port off len : Nat) : State :=
  ((slotsOf off len).zipIdx).foldl (fun (s : State) q =>
    let b := q.1 % 32
    let p := if port = 4 then 4 + q.2 % 2 else port
    ((tget [] (s.tile k).bankWait b).foldl (fun (s : State) r => s.loseTurn l t r) s).modTile k (fun y =>
      { y with bankPtr := tset 0 y.bankPtr b ((p + 1) % 13) })) s

/-- First offset of the cache partition: rows 1,024 − 64s on (R96). -/
def TileS.cacheFrom (t : TileS) : Nat := (1024 - 64 * t.cacheSteps) * 4096

/-- The spill windows of a tile's queues whose configuration is ACTIVE (R170). -/
def State.inSpill (s : State) (l : LDie) (t : LTile) (off len : Nat) : Bool :=
  s.flow.queue.any (fun p =>
    p.1 / 512 == l.val && unitTile (p.1 % 512 / 4) == some t.val &&
    match p.2.decl with
    | some q => q.spillable && decide (0 < q.spillLen) && decide (off < q.spillOff + q.spillLen)
        && decide (q.spillOff < off + len)
    | none => false)

/-- Why a scratchpad access is refused, before its bank and its data are looked at (R92, R96). -/
def State.spadRefused (s : State) (w : Who) (l : LDie) (t : LTile) (k off len : Nat) : Bool :=
  !w.firmware && !(s.ctx w.ctx).holdsTile l t || decide ((s.tile k).cacheFrom < off + len)
    || (s.ctx w.ctx).spillPosture == 1 && s.inSpill l t off len

/-- Poisoned words are read: the count, and their rows' field records (R88). -/
def State.spadPoison (s : State) (l : LDie) (t : LTile) (k : Nat) (words : List Nat) : State :=
  let s := s.count .tile (l.val * 16 + t.val) 0x38 1
  (words.filter (fun a => (s.tile k).bad.contains a)).foldl (fun (s : State) a =>
    s.addRow (k / 20) (k % 20) (a / 16 % 32) (a / 512)) s

/-- Corrected errors of a read are counted; a row with more than 8 in a second gets a record (R88). -/
def State.spadCorrect (s : State) (l : LDie) (t : LTile) (k : Nat) (words : List Nat) : State :=
  (words.filter (fun a => (s.tile k).weak.contains a)).foldl (fun (s : State) a =>
    let row := a / 16 % 32 * 1024 + a / 512
    let times := s.now :: (tget [] (s.tile k).corrected row).filter
      (fun x => decide (s.now < x + 1000000000))
    let s := s.count .tile (l.val * 16 + t.val) 0x34 1
    let s := s.modTile k (fun y => { y with corrected := tset [] y.corrected row times })
    if 8 < times.length then
      s.addRow (k / 20) (k % 20) (row / 1024) (row % 1024)
    else s) s

/-- A read of a scratchpad. -/
def State.spadRead (s : State) (w : Who) (l : LDie) (t : LTile) (off len : Nat) : State × Acc :=
  match s.tileKey l t with
  | none => (s, .fail .unreachable 0x5002)
  | some k =>
    let x := s.tile k
    if s.spadRefused w l t k off len then (s, .fail .denied 0x4062)
    else if (slotBanks 32 off len).any (fun b => (tget BankSt.open x.banks b).shut) then
      (s.count .tile (l.val * 16 + t.val) 0x24 1, .fail .bankClosed 0x4063)
    else if (slotsOf off len).any (fun n => x.unsettled.contains n) && !w.mayUnsettled then
      (s, .fail .denied 0x6043)
    else
      let s := s.bankTurn l t k (spadPort w t false) off len
      if (wordsOf off len).any (fun a => x.bad.contains a) then
        (s.spadPoison l t k (wordsOf off len), .fail .poisoned 0x4064)
      else (s.spadCorrect l t k (wordsOf off len), .ok (bytesAt s.spadMem (spadBase k + off) len))

/-- Rows of RESIDENT regions that a range touches (R102). -/
def TileS.residentRows (t : TileS) (off len : Nat) : List Nat :=
  (List.range' (off / 4096) ((off + len + 4095) / 4096 - off / 4096)).filter
    (fun r => t.resident.any (fun g => decide (g.1 / 4096 ≤ r) && decide (r < (g.1 + g.2) / 4096)))

/-- A range lies in one RESIDENT region (R79). -/
def TileS.inResident (t : TileS) (off n : Nat) : Bool :=
  t.resident.any (fun r => decide (r.1 ≤ off) && decide (off + n ≤ r.1 + r.2))

/-- The bytes of a write land in a tile's scratchpad: words, unsettled bits and dirty bits follow. -/
def State.spadPut (s : State) (k off : Nat) (d : Bytes) (unsettled : Bool) : State :=
  let len := d.length
  let whole := (wordsOf off len).filter (fun a => off ≤ a * 8 && a * 8 + 8 ≤ off + len)
  let slots := slotsOf off len
  let rows := (s.tile k).residentRows off len
  let s := s.modTile k (fun y =>
    { y with
      bad := y.bad.filter (fun a => !whole.contains a)
      weak := y.weak.filter (fun a => !whole.contains a)
      unsettled := if unsettled then slots.foldl (fun l n => insertNew n l) y.unsettled
        else y.unsettled.filter (fun n => !slots.contains n)
      dirty0 := rows.foldl (fun l n => insertNew n l) y.dirty0
      dirty1 := rows.foldl (fun l n => insertNew n l) y.dirty1 })
  { s with spadMem := putBytes s.spadMem (spadBase k + off) d }

/-- A write of a scratchpad by the tile's own units, an engine with its own credits, or firmware. -/
def State.spadWrite (s : State) (w : Who) (l : LDie) (t : LTile) (off : Nat) (d : Bytes)
    (unsettled : Bool) : State × Acc :=
  match s.tileKey l t with
  | none => (s, .fail .unreachable 0x5002)
  | some k =>
    let x := s.tile k
    let len := d.length
    let part := (wordsOf off len).filter (fun a => !(off ≤ a * 8 && a * 8 + 8 ≤ off + len))
    if s.spadRefused w l t k off len then (s, .fail .denied 0x4062)
    else if (slotBanks 32 off len).any (fun b => (tget BankSt.open x.banks b).shut) then
      (s.count .tile (l.val * 16 + t.val) 0x24 1, .fail .bankClosed 0x4063)
    else if unsettled && x.residentRows off len != [] then (s, .fail .denied 0x6043)
    else
      let s := s.bankTurn l t k (spadPort w t true) off len
      if part.any (fun a => x.bad.contains a) then
      (((landing x.bad off d).foldl (fun (s : State) p => s.spadPut k p.1 p.2 unsettled) s).spadPoison l t k part,
        .fail .poisoned 0x4064)
    else (s.spadPut k off d unsettled, .ok [])

/-! ### Any space of this panel -/

/-- A read at a target. -/
def State.readAt (s : State) (w : Who) (t : Target) (len : Nat) : State × Acc :=
  match t with
  | .stack k off => if off + len ≤ 2 ^ 36 then s.stackRead w k off len else (s, .fail .addrError 0x4002)
  | .commons l off =>
    if off + len ≤ 2 ^ 25 then s.commonsRead w l off len else (s, .fail .addrError 0x4002)
  | .spad l u off =>
    if off + len ≤ 2 ^ 22 then s.spadRead w l u off len else (s, .fail .addrError 0x4002)
  | _ => (s, .fail .addrError 0x4002)

/-- A write at a target. -/
def State.writeAt (s : State) (w : Who) (t : Target) (d : Bytes) (unsettled : Bool := false) :
    State × Acc :=
  match t with
  | .stack k off =>
    if 2 ^ 36 < off + d.length then (s, .fail .addrError 0x4002)
    else if unsettled && !(s.ctx w.ctx).inScratch k off then (s, .fail .denied 0x6043)
    else s.stackWrite w k off d
  | .commons l off =>
    if off + d.length ≤ 2 ^ 25 then s.commonsWrite w l off d unsettled
    else (s, .fail .addrError 0x4002)
  | .spad l u off =>
    if off + d.length ≤ 2 ^ 22 then s.spadWrite w l u off d unsettled
    else (s, .fail .addrError 0x4002)
  | _ => (s, .fail .addrError 0x4002)

/-- A read at a fabric address of this panel. -/
def State.readFA (s : State) (w : Who) (a : W64) (len : Nat) : State × Acc :=
  match s.decode a with
  | .here t => s.readAt w t len
  | _ => (s, .fail .addrError 0x4002)

/-- A write at a fabric address of this panel. -/
def State.writeFA (s : State) (w : Who) (a : W64) (d : Bytes) (unsettled : Bool := false) :
    State × Acc :=
  match s.decode a with
  | .here t => s.writeAt w t d unsettled
  | _ => (s, .fail .addrError 0x4002)

/-! ### The banks of a range (R105, R117, R266) -/

/-- The state of a bank that firmware closes. -/
def State.bankSt (s : State) : BankRef → BankSt
  | .spad d t b => tget .open (s.tile (d.val * 20 + t.val)).banks b.val
  | .commons d b => tget .open (s.commons d.val).banks b.val
  | .stack k b => s.stackBankSt k.val b.val

/-- The banks that an access of n bytes touches. -/
def State.rangeBanks (s : State) (w : Who) (a : W64) (n : Nat) : List BankRef :=
  match s.decode a with
  | .here (.spad l t off) =>
    (match s.tileKey l t with
      | some k => if h : k / 20 < 156 then
          (slotBanks 32 off (max n 1)).map (fun b =>
            .spad ⟨k / 20, h⟩ ⟨k % 20, Nat.mod_lt _ (by decide)⟩ ⟨b % 32, Nat.mod_lt _ (by decide)⟩)
        else []
      | none => [])
  | .here (.commons l off) =>
    (match s.phys l with
      | some d => if h : d < 156 then
          (slotBanks 64 off (max n 1)).map (fun b => .commons ⟨d, h⟩ ⟨b % 64, Nat.mod_lt _ (by decide)⟩)
        else []
      | none => [])
  | .here (.stack k off) =>
    let q := s.relocated w k
    if h : q < 312 then (bankSpan off n).map (fun b => .stack ⟨q, h⟩ ⟨b % 64, Nat.mod_lt _ (by decide)⟩) else []
  | _ => []

/-- A bank notes the source of a request that it answered BANK_CLOSED (R105, R266). -/
def State.noteBank (s : State) (n : BitVec 12) : BankRef → State
  | .spad d t b => s.modTile (d.val * 20 + t.val) (fun x =>
      { x with notify := tset [] x.notify b.val (insertNew n (tget [] x.notify b.val)) })
  | .commons d b => s.modCommons d.val (fun x =>
      { x with notify := tset [] x.notify b.val (insertNew n (tget [] x.notify b.val)) })
  | .stack k b => s.modStack k.val (fun x =>
      { x with notify := tset [] x.notify b.val (insertNew n (tget [] x.notify b.val)) })

/-- Every closed bank of a refused access notes its source. -/
def State.noteClosed (s : State) (w : Who) (a : W64) (len : Nat) (n : BitVec 12) : State :=
  ((s.rangeBanks w a len).filter (fun b => (s.bankSt b).shut)).foldl (fun (s : State) b => s.noteBank n b) s

/-! ### What a unit does with a failed access -/

/-- The faults after which the region restores. -/
def restoresFor (code : W16) : Bool :=
  code == 0x4003 || code == 0x4004 || code == 0x4064 || code == 0x4071 || code == 0x6008

/-- The location of an access of a requester: the line of the physical stack, after its context's relocations (R10,
R518), the commons or scratchpad address it names; an address that names nothing on
this panel is logged as it stands, with panel "here". (DEDUCED, log 122) -/
def State.targetLoc (s : State) (w : Who) (a : W64) : Loc :=
  match s.decode a with
  | .here (.stack k off) => locStack (s.relocated w k) (off / 128 * 128)
  | .here (.commons l off) => locCommons l.val off
  | .here (.spad l t off) => locSpad l.val t.val off
  | .remote _ _ _ => locHub 0
  | _ => ⟨BitVec.ofNat 64 (hereBits + bits a.toNat 0 50), false⟩

/-- The first element of a list that a condition names, or a default. -/
def firstOr (l : List Nat) (p : Nat → Bool) (dflt : Nat) : Nat := (l.find? p).getD dflt

/-- The location that a fault of an access of n bytes logs: where the data is poisoned, the stack line or the slot
that holds the poison (R88, R113, R255), and the access's own address otherwise. -/
def State.failLoc (s : State) (w : Who) (a : W64) (n : Nat) (code : W16) : Loc :=
  if code = 0x4003 ∨ code = 0x4004 ∨ code = 0x4064 ∨ code = 0x4071 then
    match s.decode a with
    | .here (.stack k off) =>
      let y := s.stack (s.relocated w k)
      locStack (s.relocated w k) (128 * firstOr (linesOf off n)
        (fun l => y.uncorrectable.contains l || y.poisoned.contains l || y.written.contains l && s.tagBad (s.relocated w k) l)
        (off / 128))
    | .here (.commons l off) =>
      locCommons l.val (firstOr (wordsOf off n) (fun a => (s.commons ((s.phys l).getD 0)).bad.contains a) (off / 8)
        / 16 * 128)
    | .here (.spad l t off) =>
      locSpad l.val t.val (firstOr (wordsOf off n) (fun a => (s.tile ((s.tileKey l t).getD 0)).bad.contains a)
        (off / 8) / 16 * 128)
    | _ => s.targetLoc w a
  else s.targetLoc w a

/-- A unit's failed access of n bytes raises its fault, with the unit or another detail. POISONED and TAG_FAIL restore the region; BANK_CLOSED
follows bank_closed_policy: under FAIL fault 0x4063 and the context halts, under RETRY the request
waits and a scratchpad counts the stall; NOCREDIT asks for a credit again; the others halt the context. A held request
waits for its shard. -/
def State.unitFail (s : State) (w : Who) (a : W64) (r : Acc) (n : Nat := 1) (detail : Nat := w.unit) : State :=
  match r with
  | .ok _ => s
  | .held i => s.modCtx w.ctx (fun x =>
      if x.held.any (fun p => p.1 == i) then x else { x with held := (i, s.now, none) :: x.held })
  | .fail st code =>
    if st = .bankClosed then
      if s.obj 0x2242 (w.ctx.val + 1) = 1 then
        (s.fault 0x4063 (some w.ctx) (s.targetLoc w a) w.unit).haltCtx w.ctx
      else match s.decode a with
        | .here (.spad l t _) => s.count .tile (tileRec l t.val) 0x00 1
        | _ => s
    else if st = .nocredit then s
    else
      let s := s.fault code (some w.ctx) (s.failLoc w a n code) detail
      if restoresFor code then s.needRestore w.ctx else s.haltCtx w.ctx

end Sys2Proof.Machine
end

