-- ==== Sys2Proof/Machine/Pkt.lean ====
section
/-! DEFINITION. Packets of the panel networks (chapter 09): checks over their bytes, nodes, routes, the
regulators, sequence numbers and the copies that a source keeps (R272–R292). -/

namespace Sys2Proof.Machine

/-! ### CRC-32C and CRC-8 (R280) -/

/-- n steps of the reflected CRC-32C register. -/
def crc32Bits : Nat → Nat → Nat
  | 0, c => c
  | n + 1, c => crc32Bits n (if c % 2 = 1 then Nat.xor (c / 2) 0x82F63B78 else c / 2)

/-- The register after a byte string. -/
def crc32Run (c : Nat) : Bytes → Nat
  | [] => c
  | b :: bs => crc32Run (crc32Bits 8 (Nat.xor c b.toNat)) bs

/-- CRC-32C of a byte string. -/
def crc32c (d : Bytes) : W32 := BitVec.ofNat 32 (Nat.xor (crc32Run 0xFFFFFFFF d) 0xFFFFFFFF)

/-- n steps of the CRC-8 register, polynomial x^8 + x^2 + x + 1. -/
def crc8Bits : Nat → Nat → Nat
  | 0, c => c
  | n + 1, c => crc8Bits n (if 128 ≤ c then Nat.xor (c * 2 % 256) 7 else c * 2)

/-- CRC-8 of a byte string. (PRESUMED, log 52) -/
def crc8 (d : Bytes) : Byte := BitVec.ofNat 8 (d.foldl (fun c b => crc8Bits 8 (Nat.xor c b.toNat)) 0)

/-! ### The header (R280) -/

/-- Header bytes 0 to 23. -/
def pktFront (p : Pkt) : Bytes :=
  toLe 8 p.dest.toNat ++ toLe 2 p.srcNode.toNat ++ toLe 2 p.srcPanel.toNat ++ [p.opcode]
    ++ toLe 1 (p.vc.toNat * 32 + p.prio.toNat * 8 + b2n p.yx * 4 + b2n p.merge * 2 + b2n p.mcast)
    ++ toLe 1 (p.ctx.toNat + b2n p.firmware * 32 + b2n p.spec * 64 + b2n p.resp * 128)
    ++ toLe 1 p.unit.toNat ++ toLe 2 p.sideband.toNat
    ++ toLe 2 (p.kind.toNat * 2 ^ 14 + p.length.toNat) ++ toLe 4 p.seq.toNat

/-- Header bytes 28 to 30. -/
def pktBack (p : Pkt) : Bytes := toLe 2 p.aux.toNat ++ toLe 1 p.status.toNat

/-- The CRC-32C that the packet should carry. -/
def pktCrc (p : Pkt) : W32 := crc32c ((pktFront p) ++ (pktBack p) ++ p.payload)

/-- The head check that the packet should carry. -/
def pktHead (p : Pkt) : Byte := crc8 ((pktFront p) ++ toLe 4 p.crc.toNat ++ (pktBack p))

/-- The packet with its two check fields computed. -/
def pktSeal (p : Pkt) : Pkt :=
  let q := { p with crc := (pktCrc p) }
  { q with headCheck := pktHead q }

/-- Flit bytes of a packet (R280). -/
def pktFlits (p : Pkt) : Nat := (32 + p.payload.length + 63) / 64 * 64

/-- The status of a code; reserved codes read as none. -/
def codeSt (n : Nat) : Option Status :=
  [.ok, .denied, .addrError, .poisoned, .tagFail, .bankClosed, .nocredit, .notOwned, .syncFull,
    .unreachable, .pathFault][n]?

/-! ### Nodes (R275, R276) -/

/-- Node IDs by kind. -/
def nodeDie (d : Nat) : BitVec 12 := BitVec.ofNat 12 d
def nodeStack (k : Nat) : BitVec 12 := BitVec.ofNat 12 (0x200 + k)
def nodeHub (h : Nat) : BitVec 12 := BitVec.ofNat 12 (0x400 + h)
def nodeVent (v : Nat) : BitVec 12 := BitVec.ofNat 12 (0x600 + v)

/-- Kind and index of a node. -/
def nodeKind (n : BitVec 12) : Nat := n.toNat / 512
def nodeIndex (n : BitVec 12) : Nat := n.toNat % 512

/-- Places of the neighbour and skip port bits: north, east, south, west (R302). -/
def portDir (dc dr : Int) : Nat :=
  if dr < 0 then 0 else if 0 < dc then 1 else if 0 < dr then 2 else 3

/-- The router ring of a die is out of service: the die is blocked (R273). -/
def State.blocked (s : State) (d : Nat) : Bool :=
  s.dieFenced d || (tget 0 s.net.down d).toNat.testBit 10

/-- A port of a die is in service. -/
def State.portOk (s : State) (d p : Nat) : Bool :=
  !(tget 0 s.net.down d).toNat.testBit p && !s.portBad d p

/-- The link between two dies in line is in service at both ends. -/
def State.linkOk (s : State) (d e : Nat) (skip : Bool) : Bool :=
  let dir := portDir ((e % 13 : Nat) - (d % 13 : Nat)) ((e / 13 : Nat) - (d / 13 : Nat))
  let o := if skip then 4 else 0
  s.portOk d (o + dir) && s.portOk e (o + (dir + 2) % 4)

/-- The attached die through which a source row reaches a hub (R276): the nearest row, the lower on a
tie, passing over dies that are blocked, detached or without their outward port (R33, R38). -/
def State.hubDie (s : State) (h row : Nat) : Option Nat :=
  ((hubDies h).filter (fun d =>
      !s.blocked d && !s.anat.detached.contains d && s.portOk d (hubPort h) && !s.anat.fencedHubs.contains h)).foldl
    (fun (b : Option Nat) d =>
      match b with
      | none => some d
      | some e =>
        if ((d / 13 : Nat) - (row : Int)).natAbs < ((e / 13 : Nat) - (row : Int)).natAbs then some d
        else some e) none

/-- The die at which a node is reached from a row. -/
def State.nodeDieOf (s : State) (n : BitVec 12) (row : Nat) : Option Nat :=
  match nodeKind n with
  | 0 => if nodeIndex n < 156 then some (nodeIndex n) else none
  | 1 => if nodeIndex n < 312 then some (nodeIndex n / 2) else none
  | 2 => if nodeIndex n < 2 then s.hubDie (nodeIndex n) row else none
  | 3 => if nodeIndex n < 48 ∧ !s.anat.detached.contains (ventDie (nodeIndex n))
        ∧ s.portOk (ventDie (nodeIndex n)) (ventPort (nodeIndex n)) then
      some (ventDie (nodeIndex n)) else none
  | _ => none

/-! ### Routes (R277, R278) -/

/-- One step from die d toward coordinate `t` of one dimension; none where the path fails. The second
part says that a skip link was taken. -/
def State.stepToward (s : State) (d : Nat) (column : Bool) (t : Nat) : Option (Nat × Bool) :=
  let here := if column then d % 13 else d / 13
  let up := decide (here < t)
  let move (n : Nat) : Nat :=
    if column then (if up then d + n else d - n) else (if up then d + 13 * n else d - 13 * n)
  let gap := if up then t - here else here - t
  if !s.blocked (move 1) && s.linkOk d (move 1) false then some (move 1, false)
  else if 2 ≤ gap ∧ !s.blocked (move 2) ∧ s.linkOk d (move 2) true then some (move 2, true)
  else none

/-- Steps along one dimension until the coordinate is reached; the dies visited. -/
def State.walk (s : State) (column : Bool) (t : Nat) : Nat → Nat → Option (List (Nat × Bool))
  | 0, _ => none
  | n + 1, d =>
    if (if column then d % 13 else d / 13) = t then some []
    else match s.stepToward d column t with
      | some p => (s.walk column t n p.1).map (p :: ·)
      | none => none

/-- The path from a die to a die under an order; none where it fails. -/
def State.path (s : State) (yx : Bool) (d e : Nat) : Option (List (Nat × Bool)) :=
  let t1 := if yx then e / 13 else e % 13
  let t2 := if yx then e % 13 else e / 13
  match s.walk (!yx) t1 14 d with
  | none => none
  | some p =>
    let mid := ((p.getLast?).map (·.1)).getD d
    (s.walk yx t2 14 mid).map (p ++ ·)

/-- The route order of a pair of dies: XY, else YX, else unreachable. -/
def State.routeOf (s : State) (d e : Nat) : Option Bool :=
  if (s.path false d e).isSome then some false
  else if (s.path true d e).isSome then some true
  else none

/-- The detail of R303: source and destination node and VC. -/
def netDetail (src dst : BitVec 12) (vc : Nat) : Nat := src.toNat + dst.toNat * 2 ^ 12 + vc * 2 ^ 24

/-! ### Injection (R278, R285, R287) -/

/-- The key of a sequence counter; multicast packets count by source and group. -/
def seqKey (src dst : BitVec 12) (vc : Nat) : Nat := (src.toNat * 4096 + dst.toNat) * 8 + vc
def mcKey (src : BitVec 12) (group : Nat) (dst : BitVec 12) : Nat :=
  2 ^ 40 + (src.toNat * 256 + group) * 4096 + dst.toNat

/-- The node that stands for destinations on other panels, and the sequence key of one of them: its
panel, space and location (R319). (DEDUCED, log 49) -/
def nodeAway : BitVec 12 := 0xFFF
def awayKey (src : BitVec 12) (dest : W64) (vc : Nat) : Nat :=
  2 ^ 60 + ((dest.toNat / 2 ^ 37) * 4096 + src.toNat) * 8 + vc

/-- The die whose counters and regulators a node's traffic belongs to (R285, R301). -/
def State.homeDie (s : State) (n : BitVec 12) : Nat := (s.nodeDieOf n 0).getD 0

/-- A packet leaves its source: counters, the kept copy, and the message; one for another panel leaves
in a frame. -/
def State.launch (s : State) (src dst : BitVec 12) (p : Pkt) : State :=
  let d := s.homeDie src
  let s := (s.count .net d 0x00 1).countHigh .net d 0x04 (pktFlits p)
  let s := ({ s with net := { s.net with
      copies := { src := src, dst := dst, vc := p.vc.toNat, seq := p.seq, sends := 1
                  sentAt := s.now, pkt := p } :: s.net.copies } }).send (.pkt src p)
  if dst = nodeAway then s.fabricOut d p.dest (.bulk p) else s

/-- The packet is itself a multicast; the flag of a READ asks for one (R292). -/
def toMany (p : Pkt) : Bool := p.mcast && p.opcode != 0x01

/-- A group's entry. -/
def State.mcastGroup (s : State) (g : Nat) : Option (CtxId × Mcast) := tget none s.net.mcast g

/-- The location in the dest of a group's packets: its root's logical name, 511 where that has none. (DESIGN CHOICE, log 151) -/
def State.groupRoot (s : State) (m : Mcast) : Nat := ((s.logical m.root.val).map (·.val)).getD 511

/-- An address with another die. -/
def aimDie (a : W64) (l : LDie) : W64 :=
  BitVec.ofNat 64 (a.toNat / 2 ^ 46 * 2 ^ 46 + l.val * 2 ^ 37 + a.toNat % 2 ^ 37)

/-- The one die to which a multicast packet is sent again; none for a packet that goes along the tree. -/
def State.aloneDie (s : State) (m : Mcast) (p : Pkt) : Option LDie :=
  if bits p.dest.toNat 37 9 = s.groupRoot m then none
  else (m.dests.find? (fun x => x.1.val == bits p.dest.toNat 37 9)).map (·.1)

/-- A kept copy as it is sent again: of a multicast, to its own destination alone (R292). -/
def State.againPkt (s : State) (x : SrcCopy) : Pkt :=
  match toMany x.pkt, s.logical (nodeIndex x.dst) with
  | true, some l => pktSeal { x.pkt with dest := aimDie x.pkt.dest l }
  | _, _ => x.pkt

/-- A multicast packet leaves its source once; a copy is kept for each destination (R292). -/
def State.launchGroup (s : State) (src : BitVec 12) (m : Mcast) (p : Pkt) : State :=
  let d := s.homeDie src
  let s := (s.count .net d 0x00 1).countHigh .net d 0x04 (pktFlits p)
  let kept := m.dests.filterMap (fun x => (s.phys x.1).map (fun e =>
    { src := src, dst := nodeDie e, vc := p.vc.toNat, seq := p.seq, sends := 1, sentAt := s.now, pkt := p : SrcCopy }))
  ({ s with net := { s.net with copies := kept ++ s.net.copies } }).send (.pkt src p)

/-- A packet or a multicast leaves its source. -/
def State.leave (s : State) (src dst : BitVec 12) (p : Pkt) : State :=
  match toMany p, s.mcastGroup (p.aux.toNat % 256) with
  | true, some (_, m) => s.launchGroup src m p
  | true, none => s
  | false, _ => s.launch src dst p

/-- The bytes that a regulator's bucket holds now. -/
def Regulator.fill (r : Regulator) (now : Nat) : Nat :=
  min r.burst.toNat (r.level + r.rate.toNat * (now - r.last) / 1000)

/-- When the bucket will hold n bytes; none where it never will. -/
def Regulator.fillsAt (r : Regulator) (n : Nat) : Option Nat :=
  if n ≤ r.level then some r.last
  else if r.burst.toNat < n ∨ r.rate = 0 then none
  else some (r.last + ((n - r.level) * 1000 + r.rate.toNat - 1) / r.rate.toNat)

/-- A packet passes its source die's regulator or waits in it. (DEDUCED, log 53) -/
def State.regulate (s : State) (src dst : BitVec 12) (p : Pkt) : State :=
  let d := s.homeDie src
  let key := d * 24 + p.vc.toNat * 3 + (p.prio.toNat - 1)
  let r := tget {} s.net.reg key
  if p.prio = 0 ∨ r.burst = 0 then s.leave src dst p
  else if r.held = [] ∧ (pktFlits p) ≤ r.fill s.now then
    ({ s with net := { s.net with
        reg := tset {} s.net.reg key { r with level := r.fill s.now - (pktFlits p), last := s.now } } }).leave
      src dst p
  else
    ({ s with net := { s.net with
        reg := tset {} s.net.reg key { r with held := r.held ++ [p] } } }).count .net d 0x24 1

/-- A packet is given its sequence number, route and checks, and is injected. An unreachable
destination completes at the source with fault 0x5002 of the issuing context. -/
def State.inject (s : State) (src dst : BitVec 12) (p : Pkt) : State × Status :=
  let a := s.homeDie src
  let owner : Option CtxId := if p.firmware then none else some ⟨p.ctx.toNat, p.ctx.isLt⟩
  match s.nodeDieOf dst (a / 13) with
  | none => (s.fault 0x5002 owner (s.dieLoc a) (netDetail src dst p.vc.toNat), .unreachable)
  | some b =>
    match s.routeOf a b with
    | none => (s.fault 0x5002 owner (s.dieLoc a) (netDetail src dst p.vc.toNat), .unreachable)
    | some yx =>
      let key := seqKey src dst p.vc.toNat
      let n := tget 0 s.net.seqTx key
      let q := pktSeal { p with
        yx := yx, seq := BitVec.ofNat 32 n, srcNode := src
        srcPanel := s.srcPanel }
      (({ s with net := { s.net with seqTx := tset 0 s.net.seqTx key ((n + 1) % 2 ^ 32) } }).regulate
        src dst q, .ok)

/-- Injection toward another panel: an unreachable one completes at the source with fault 0x9015. -/
def State.injectAway (s : State) (src : BitVec 12) (p : Pkt) : State × Status :=
  if !s.panelReachable p.dest then
    (s.fault 0x9015 none (s.dieLoc (s.homeDie src)) (p.dest.toNat / 2 ^ 50), .unreachable)
  else
    let key := awayKey src p.dest p.vc.toNat
    let n := tget 0 s.net.seqTx key
    let q := pktSeal { p with seq := BitVec.ofNat 32 n, srcNode := src, srcPanel := s.srcPanel }
    (({ s with net := { s.net with seqTx := tset 0 s.net.seqTx key ((n + 1) % 2 ^ 32) } }).regulate
      src nodeAway q, .ok)

/-- A packet with nothing set. -/
def pktBlank : Pkt :=
  { dest := 0, srcNode := 0, srcPanel := 0, opcode := 0, vc := 0, prio := 0, yx := false
    merge := false, mcast := false, ctx := 0, firmware := false, spec := false, resp := false
    unit := 0, sideband := 0, kind := 0, length := 0, seq := 0, crc := 0, aux := 0, status := 0
    headCheck := 0, payload := [] }

/-- The completion of a request: its source gets opcode, status and data on the request's VC. -/
def pktReply (p : Pkt) (op : Byte) (st : Status) (d : Bytes) : Pkt :=
  { pktBlank with
    dest := BitVec.ofNat 64 (hereBits + 4 * 2 ^ 46 + p.srcNode.toNat % 512 * 2 ^ 37)
    opcode := op, vc := p.vc, prio := p.prio, ctx := p.ctx, firmware := p.firmware
    spec := p.spec, resp := true, unit := p.unit, aux := p.aux
    length := BitVec.ofNat 13 d.length, status := BitVec.ofNat 4 (stCode st), payload := d }

/-- An engine-space address of a logical die of this panel, with an offset. -/
def engineAddr (l : LDie) (off : Nat) : W64 := (locEngine l.val).word + BitVec.ofNat 64 off

/-- A multicast packet from a node, numbered by its source and group; its dest names the group's root. -/
def State.injectGroup (s : State) (src : BitVec 12) (g : Nat) (p : Pkt) : State :=
  match s.mcastGroup g with
  | none => s
  | some (_, m) =>
    let key := mcKey src g 0
    let n := tget 0 s.net.seqTx key
    let q := pktSeal { p with
      dest := BitVec.ofNat 64 (p.dest.toNat / 2 ^ 46 * 2 ^ 46 + s.groupRoot m * 2 ^ 37 + p.dest.toNat % 2 ^ 37)
      mcast := true, aux := BitVec.ofNat 16 g, srcNode := src, srcPanel := s.srcPanel, seq := BitVec.ofNat 32 n
      yx := false }
    ({ s with net := { s.net with seqTx := tset 0 s.net.seqTx key ((n + 1) % 2 ^ 32) } }).regulate src src q

/-- A control packet from a node (R291). (DESIGN CHOICE, log 152) -/
def State.ctrl (s : State) (node : BitVec 12) (op : Byte) (c field : Nat) : State :=
  (s.count .net (s.homeDie node) 0x2C 1).send (.ctrl node op c field)

end Sys2Proof.Machine
end

