-- ==== Sys2Proof/Machine/Sync.lean ====
section
/-! DEFINITION. Synchronisation cells (R295–R300, R568): the cell word, ownership, the operations, and
what a firing does. -/

namespace Sys2Proof.Machine

/-! ### The cell word (R295) -/

def cGen (w : W64) : Nat := bits w.toNat 48 16
def cTarget (w : W64) : Nat := bits w.toNat 32 16
def cPending (w : W64) : Bool := w.toNat.testBit 31
def cValue (w : W64) : Nat := bits w.toNat 0 31

/-- A cell word from its fields; generation counts modulo 2^16 and value modulo 2^31. -/
def cWord (gen target : Nat) (pending : Bool) (value : Nat) : W64 :=
  BitVec.ofNat 64 (gen % 2 ^ 16 * 2 ^ 48 + target % 2 ^ 16 * 2 ^ 32 + b2n pending * 2 ^ 31
    + value % 2 ^ 31)

/-! ### Where a cell lies (R246, R296) -/

/-- Cells of hubs have keys from here on. -/
def hubFirst : Nat := 144 * 512

/-- The sync fabric address of a cell on this panel. -/
def cellAddr (k : Nat) : W64 :=
  if k < hubFirst then (hereLoc 3 (k / 512) (k % 512 * 8)).word
  else (hereLoc 3 (0x1F0 + (k - hubFirst) / 4096) ((k - hubFirst) % 4096 * 8)).word

/-- The first cell and the number of cells of the die or hub that holds a cell. -/
def cellHome (k : Nat) : Nat × Nat :=
  if k < hubFirst then (k / 512 * 512, 512)
  else (hubFirst + (k - hubFirst) / 4096 * 4096, 4096)

/-- Waiters that a die or hub serves at once (R297). -/
def waitLimit (k : Nat) : Nat := if k < hubFirst then 256 else 1024

/-- The physical die whose sync unit serves a cell; none for a hub. -/
def State.cellDie (s : State) (k : Nat) : Option Nat :=
  if h : k / 512 < 144 then s.phys ⟨k / 512, h⟩ else none

/-- The node that holds a cell. -/
def State.cellNode (s : State) (k : Nat) : BitVec 12 :=
  if k < hubFirst then nodeDie ((s.cellDie k).getD 0) else nodeHub ((k - hubFirst) / 4096)

/-- The owner of a cell's block: blocks 30 and 31 of a die and 240 to 255 of a hub are firmware's. -/
def State.cellOwner (s : State) (k : Nat) : Byte :=
  let b := k / 16
  if k < hubFirst ∧ 30 ≤ b % 32 ∨ hubFirst ≤ k ∧ 240 ≤ (k - hubFirst) / 16 % 256 then 0xFE
  else tget 0xFF s.net.block b

/-- The requester owns the cell; firmware reaches every cell. -/
def State.ownsCell (s : State) (r : SyncReq) (k : Nat) : Bool :=
  r.firmware || (s.cellOwner k).toNat == r.ctx.toNat

/-- The location of a die's or hub's sync unit (R303). -/
def State.cellLoc (s : State) (k : Nat) : Loc :=
  if k < hubFirst then
    match s.cellDie k with
    | some d => s.dieLoc d
    | none => locEngine (k / 512)
  else locHub ((k - hubFirst) / 4096)

/-- A counter of the die's sync unit. -/
def State.countSync (s : State) (k off : Nat) : State :=
  match s.cellDie k with
  | some d => s.count .net d off 1
  | none => s

/-- The node that a sync address names; the issuer's own where it names none. -/
def State.syncNode (s : State) (r : SyncReq) : BitVec 12 :=
  match s.decode r.addr with
  | .here (.cell k) => s.cellNode k
  | _ => r.node

/-- A response goes to its issuer, over the fabric where that is on another panel. -/
def State.syncReply (s : State) (r : SyncReq) (st : Status) (w : W64) : State :=
  if r.panel = s.srcPanel then s.send (.sync r.node r.seq st w)
  else s.fabricOut (s.homeDie (s.syncNode r)) (panelWord r.panel) (.syncResp r st w)

/-- A panel lies in an export entry's box (R322). -/
def inBox (e : Export) (panel : BitVec 14) : Bool :=
  let within (lo n v : Nat) : Bool :=
    decide (bits e.boxLow.toNat lo n ≤ v) && decide (v ≤ bits e.boxHigh.toNat lo n)
  within 0 5 (bits panel.toNat 9 5) && within 5 5 (bits panel.toNat 4 5) && within 10 4 (bits panel.toNat 0 4)

/-- An export entry matches a request of another panel completely: box, context, right and range (R323). -/
def exportHit (e : Export) (panel : BitVec 14) (ctx : BitVec 5) (right : Nat) (a : W64) (n : Nat) : Bool :=
  inBox e panel && (e.remoteCtx == 0xFF || e.remoteCtx.toNat == ctx.toNat) && e.rights.toNat.testBit right
    && decide (bits e.base.toNat 0 50 ≤ bits a.toNat 0 50)
    && decide (bits a.toNat 0 50 + n ≤ bits e.base.toNat 0 50 + e.length.toNat)

/-- An operation of another panel is one of R321's and the cell's owner exports the cell. -/
def State.syncExported (s : State) (r : SyncReq) (op k : Nat) : Bool :=
  (op == 0 || op == 3 || op == 4 || op == 5 || op == 6)
    && s.fab.exports.any (fun p => p.1.val == (s.cellOwner k).toNat && exportHit p.2 r.panel r.ctx 2 r.addr 8)

/-- A remote operation that changes a cell enters the region's log (R525). -/
def State.logSync (s : State) (r : SyncReq) (op k : Nat) (v : W64) : State :=
  let o := (s.cellOwner k).toNat
  if h : o < 32 then
    if r.panel ≠ s.srcPanel ∧ (op = 3 ∨ op = 5 ∨ op = 6) then
      s.modCtx ⟨o, h⟩ (fun x => { x with syncLog := x.syncLog ++ [(op, r, v)] })
    else s
  else s

/-! ### Outcomes -/

/-- The outcome of a sync operation: its response, or a wait. -/
inductive SyncOut where
  | resp (st : Status) (w : W64)
  | waits
  deriving DecidableEq, Repr

/-- The context that a request names. -/
def syncCtx (r : SyncReq) : Option CtxId := if r.firmware then none else some ⟨r.ctx.toNat, r.ctx.isLt⟩

/-- An address, operation or operand that the sync unit refuses. -/
def State.syncBad (s : State) (r : SyncReq) (k : Option Nat) : State × SyncOut :=
  let loc := match k with | some k => s.cellLoc k | none => s.dieLoc (s.homeDie r.node)
  let s := match k with | some k => s.countSync k 0x34 | none => s.count .net (s.homeDie r.node) 0x34 1
  (s.fault 0x5011 (syncCtx r) loc (netDetail r.node ((k.map s.cellNode).getD r.node) 0), .resp .addrError 0)

/-- A cell that the requester does not own, or that is not exported to its panel. -/
def State.syncDenied (s : State) (r : SyncReq) (k : Nat) : State × SyncOut :=
  ((s.countSync k 0x34).fault (if r.panel = s.srcPanel then 0x5010 else 0x9020)
    (if r.panel = s.srcPanel then syncCtx r else none) (s.cellLoc k)
    (netDetail r.node (s.cellNode k) 0), .resp .notOwned 0)

/-! ### Firing (R298, R568) -/

/-- A cell fires: generation rises, every waiter is answered in arrival order, and RELEASE goes to every
die and hub. -/
def State.fireCell (s : State) (k : Nat) : State :=
  let x := s.cell k
  let w := cWord (cGen x.word + 1) (cTarget x.word) (cPending x.word) (cValue x.word)
  let s := x.waiters.foldl (fun (s : State) q => s.syncReply q.1 .ok w) s
  (s.modCell k (fun x => { x with word := w, waiters := [] })).send (.release (cellAddr k))

/-- ARRIVE(n) at a cell. -/
def State.arriveCell (s : State) (k n : Nat) : State :=
  let x := s.cell k
  let v := (cValue x.word + n) % 2 ^ 31
  let t := cTarget x.word
  let w := cWord (cGen x.word) t (cPending x.word) v
  if t ≠ 0 ∧ t ≤ v ∧ !cPending x.word then
    if x.link = 0 then
      (s.modCell k (fun x => { x with word := cWord (cGen w) t false (v - t) })).fireCell k
    else
      (s.modCell k (fun x => { x with word := cWord (cGen w) t true (v - t) })).send
        (.arrive x.link 1)
  else s.modCell k (fun x => { x with word := w })

/-- RELEASE(p) at a die or hub whose cells begin at `first`: its pending children fire in ascending cell number.
The two forms of this panel's addresses name the same parent (R247). -/
def State.releaseAt (s : State) (first n : Nat) (p : W64) : State :=
  (List.range' first n).foldl (fun (s : State) k =>
    if (s.cell k).link ≠ 0 ∧ s.decode (s.cell k).link = s.decode p ∧ cPending (s.cell k).word then
      (s.modCell k (fun x =>
        { x with word := cWord (cGen x.word) (cTarget x.word) false (cValue x.word) })).fireCell k
    else s) s

/-! ### Operations (R297) -/

/-- Waiters at the die or hub of a cell. -/
def State.waiters (s : State) (k : Nat) : Nat :=
  ((s.net.cells.filter (fun c => (cellHome k).1 ≤ c.1 && c.1 < (cellHome k).1 + (cellHome k).2)).map
    (fun c => c.2.waiters.length)).sum

/-- A path leads from the node of a sync operation to the node of its cell: the mesh between dies by R277, the sync tree
between a die and a hub while the row root of the die is not blocked, and else the mesh to or from the hub (R299). -/
def State.syncReach (s : State) (src dst : BitVec 12) : Bool :=
  let mesh (d : Nat) (hub : BitVec 12) : Bool :=
    !s.blocked (d / 13 * 13 + 6) || (s.nodeDieOf hub (d / 13)).any (fun e => (s.routeOf d e).isSome)
  match nodeKind src, nodeKind dst with
  | 0, 0 => (s.routeOf (nodeIndex src) (nodeIndex dst)).isSome
  | 0, 2 => mesh (nodeIndex src) dst
  | 2, 0 => mesh (nodeIndex dst) src
  | _, _ => true

/-- A sync operation whose destination cannot be reached completes at its source (R278). -/
def State.syncLost (s : State) (r : SyncReq) (dst : BitVec 12) : State × SyncOut :=
  (s.fault 0x5002 (syncCtx r) (s.dieLoc (s.homeDie r.node)) (netDetail r.node dst 0), .resp .unreachable 0)

/-- The checks of every operation: address and operand first, ownership second. The operation `f` runs
on a cell that passes, and answers its response. -/
def State.syncOp (s : State) (r : SyncReq) (op : Nat) (operandOk : Bool) (f : Nat → State → State × SyncOut) :
    State × SyncOut :=
  if r.addr.toNat % 8 ≠ 0 then s.syncBad r none
  else match s.decode r.addr with
    | .here (.cell k) =>
      if k < hubFirst ∧ (s.cellDie k).isNone then s.syncLost r 0xFFF
      else if r.panel = s.srcPanel ∧ !s.syncReach r.node (s.cellNode k) then s.syncLost r (s.cellNode k)
      else if !operandOk then s.syncBad r (some k)
      else if r.panel ≠ s.srcPanel ∧ !s.syncExported r op k then s.syncDenied r k
      else if r.panel = s.srcPanel ∧ !s.ownsCell r k then s.syncDenied r k
      else f k (s.countSync k 0x30)
    | _ => s.syncBad r none

/-- The word before the operation. -/
def before (s : State) (k : Nat) : SyncOut := .resp .ok (s.cell k).word

def syncRead (k : Nat) (s : State) : State × SyncOut := (s, before s k)

/-- WRITE is firmware's only. -/
def syncWrite (r : SyncReq) (v : W64) (k : Nat) (s : State) : State × SyncOut :=
  if r.firmware then (s.modCell k (fun x => { x with word := v }), before s k) else s.syncDenied r k

def syncInit (v : W64) (k : Nat) (s : State) : State × SyncOut :=
  (s.modCell k (fun x => { x with word := cWord (cGen x.word) (bits v.toNat 0 16) false 0 }), before s k)

def syncArrive (v : W64) (k : Nat) (s : State) : State × SyncOut :=
  (s.arriveCell k (bits v.toNat 0 8), before s k)

def syncWait (r : SyncReq) (v : W64) (k : Nat) (s : State) : State × SyncOut :=
  if cGen (s.cell k).word ≠ bits v.toNat 0 16 then (s, before s k)
  else if waitLimit k ≤ s.waiters k then (s.countSync k 0x38, .resp .syncFull (s.cell k).word)
  else (s.modCell k (fun x => { x with waiters := x.waiters ++ [(r, v)] }), .waits)

def syncFetchAdd (v : W64) (k : Nat) (s : State) : State × SyncOut :=
  (s.modCell k (fun x => { x with
    word := cWord (cGen x.word) (cTarget x.word) (cPending x.word)
      (cValue x.word + bits v.toNat 0 31) }), before s k)

def syncCas (v : W64) (k : Nat) (s : State) : State × SyncOut :=
  (if cValue (s.cell k).word = bits v.toNat 32 31 then
      s.modCell k (fun x => { x with
        word := cWord (cGen x.word) (cTarget x.word) (cPending x.word) (bits v.toNat 0 31) })
    else s, before s k)

/-- The operand of LINK names a sync cell of this panel, or none. -/
def State.linkOperand (s : State) (v : W64) : Bool :=
  v == 0 || v.toNat % 8 == 0 && match s.decode v with | .here (.cell _) => true | _ => false

def syncLink (r : SyncReq) (v : W64) (k : Nat) (s : State) : State × SyncOut :=
  match s.decode v with
  | .here (.cell p) =>
    if v = 0 ∨ s.ownsCell r p then (s.modCell k (fun x => { x with link := v }), before s k)
    else s.syncDenied r k
  | _ => (s.modCell k (fun x => { x with link := v }), before s k)

def syncReadLink (k : Nat) (s : State) : State × SyncOut := (s, .resp .ok (s.cell k).link)

/-- The response goes to the issuer, and is the command's answer. -/
def syncAnswer (r : SyncReq) (x : State × SyncOut) : State :=
  match x.2 with
  | .resp st w => { x.1.syncReply r st w with answer := .word st w }
  | .waits => x.1.ok

end Sys2Proof.Machine
end

