-- ==== Sys2Proof/Machine/Credit.lean ====
section
/-! DEFINITION. The credit table of a tile and the writes that come to a scratchpad from another unit than the tile's
own (R92–R95). -/

namespace Sys2Proof.Machine

/-- The answer of the target tile to a credit request (R92). (DEDUCED, log 31) -/
def State.creditAnswer (s : State) (r : CreditReq) : CreditAns :=
  match s.tileKey r.die r.tile with
  | none => .denyRange
  | some k =>
    let t := s.tile k
    if r.units = 0 ∨ 64 < r.units ∨ r.window % 4096 ≠ 0
        ∨ t.cacheFrom < r.window + 4096 * r.units ∨ !(s.ctx r.ctx).holdsTile r.die r.tile then .denyRange
    else match (List.finRange 64).find? (fun i => (tget none t.credits i.val).isNone) with
      | some i => .grant i
      | none => .denyFull

/-- The target answers a credit request in its table and its counters. -/
def State.askCredit (s : State) (r : CreditReq) : State :=
  let rec_ := tileRec r.die r.tile.val
  match s.creditAnswer r, s.tileKey r.die r.tile with
    | .grant i, some k =>
      (s.modTile k (fun t =>
        { t with
          credits := tset none t.credits i.val (some
            { ctx := r.ctx, node := r.node, window := r.window, units := r.units, charged := 0
              granted := s.now, frozen := 0, seen := [] })
          revoked := t.revoked.filter (· != i.val) })).count .tile rec_ 0x10 1
    | .denyFull, _ => s.count .tile rec_ 0x14 1
    | _, _ => s

/-- A credited write arrives at its tile (R93): it lands and is charged once, or is refused. -/
def State.creditedWrite (s : State) (c : CtxId) (node : BitVec 12) (seq : W32) (l : LDie) (t : LTile)
    (off id : Nat) (d : Bytes) : State × Acc :=
  match s.tileKey l t with
  | none => (s, .fail .unreachable 0x5002)
  | some k =>
    let rec_ := tileRec l t.val
    match tget none (s.tile k).credits id with
    | some q =>
      if q.ctx = c ∧ q.window ≤ off ∧ off + d.length ≤ q.window + q.units * 4096 then
        match s.spadWrite ⟨c, false, .none, 0x7F⟩ l t off d false with
        | (s, .ok x) =>
          let again := q.seen.contains (node, seq)
          let charged := if again then q.charged else q.charged + d.length
          let q' := if charged < q.units * 4096 then
              some { q with charged := charged, seen := if again then q.seen else (node, seq) :: q.seen }
            else none
          (s.modTile k (fun y => { y with credits := tset none y.credits id q' }), .ok x)
        | (s, .fail .bankClosed code) =>
          (s.noteClosed ⟨c, false, .none, 0x7F⟩ (locSpad l.val t.val off).word d.length node, .fail .bankClosed code)
        | r => r
      else
        ((s.count .tile rec_ 0x18 1).fault 0x4060 (some c) (locSpad l.val t.val off), .fail .nocredit 0)
    | none =>
      if (s.tile k).revoked.contains id then (s.count .tile rec_ 0x1C 1, .fail .nocredit 0)
      else
        ((s.count .tile rec_ 0x18 1).fault 0x4060 (some c) (locSpad l.val t.val off), .fail .nocredit 0)

/-- The credit requests for the windows of n bytes of a scratchpad: at most 64 windows each (R92, R119). -/
def creditAsks (node : BitVec 12) (c : CtxId) (l : LDie) (t : LTile) (off n : Nat) : List CreditReq :=
  let first := off / 4096
  let m := (off + n - 1) / 4096 + 1 - first
  (List.range ((m + 63) / 64)).map (fun i => ⟨node, c, l, t, (first + 64 * i) * 4096, min 64 (m - 64 * i)⟩)

/-- Credits that are asked for one after the other: the IDs granted, and the first answer that is no grant. -/
def State.takeCredits (s : State) : List CreditReq → List (Fin 64) → State × List (Fin 64) × Option CreditAns
  | [], ids => (s, ids, none)
  | r :: rs, ids =>
    match s.creditAnswer r with
    | .grant i => (s.askCredit r).takeCredits rs (i :: ids)
    | a => (s.askCredit r, ids, some a)

/-- Credits go back to their tile. -/
def State.giveBack (s : State) (k : Nat) (ids : List (Fin 64)) : State :=
  s.modTile k (fun t => { t with credits := ids.foldl (fun m i => tset none m i.val none) t.credits })

/-- Where a unit's writes come from: its node, and the tile whose unit it is. -/
structure Sender where
  node : BitVec 12
  own : Option (LDie × LTile)
  deriving DecidableEq, Repr

/-- The sender of a unit of a die. -/
def State.senderOf (s : State) (d : LDie) (u : Nat) : Sender :=
  ⟨nodeDie ((s.phys d).getD 0), (unitTile u).map (fun t => (d, ⟨t % 16, Nat.mod_lt _ (by decide)⟩))⟩

/-- A write of a unit. Into the scratchpad of another tile it takes a credit of its windows first and returns it when
it has landed: DENY_FULL delays it, DENY_RANGE refuses it (R92, R93). -/
def State.writeOut (s : State) (w : Who) (x : Sender) (a : W64) (d : Bytes) (unsettled : Bool := false) : State × Acc :=
  match s.decode a with
  | .here (.spad l t off) =>
    if w.firmware ∨ x.own = some (l, t) ∨ d = [] then s.writeFA w a d unsettled
    else
      let k := (s.tileKey l t).getD 0
      let q := s.takeCredits (creditAsks x.node w.ctx l t off d.length) []
      (match q.2.2, q.2.1 with
        | none, i :: _ =>
          let r := q.1.creditedWrite w.ctx x.node 0 l t off i.val d
          (r.1.giveBack k q.2.1, r.2)
        | some .denyRange, _ => (q.1.giveBack k q.2.1, .fail .denied 0x4062)
        | _, _ => (q.1.giveBack k q.2.1, .fail .nocredit 0))
  | _ => s.writeFA w a d unsettled

/-- An access waits and is made again: for a shard, for a credit, or for a closed bank under RETRY (R92, R106, R261). -/
def State.accWaits (s : State) (c : CtxId) : Acc → Bool
  | .held _ => true
  | .fail .nocredit _ => true
  | .fail .bankClosed _ => s.obj 0x2242 (c.val + 1) != 1
  | _ => false

end Sys2Proof.Machine
end

