-- ==== Sys2Proof/Machine/Port.lean ====
section
/-! DEFINITION. The data port and the DMA movers of a host site: hub-space registers, the window, descriptors, and
what a site's packets do in the order they arrive (R432, R445–R458). -/

namespace Sys2Proof.Machine

/-! ### The firewall (R432) -/

/-- A refused host access: fault 0x7030 at most once per second per site, and the counter. (DEDUCED, log 86) -/
def State.firewall (s : State) (h : Nat) : State :=
  let s := s.count .security 0 0x08 1
  let last := (s.site h).fwLast
  if last ≠ 0 ∧ s.now < last - 1 + 1000000000 then s
  else (s.modSite h (fun x => { x with fwLast := s.now + 1 })).fault 0x7030 none (locHub h) h

/-- The context one of whose host windows holds a range wholly; windows stand until a close unbinds the region
(R432, R460). -/
def State.windowOf (s : State) (a : W64) (n : Nat) : Option CtxId :=
  match s.decode a with
  | .here (.stack _ _) => allCtx.find? (fun c =>
      let x := s.ctx c
      (x.key == .opened || x.key == .closing) && ((x.image.map (·.windows)).getD []).any (fun w =>
        decide (bits w.1.toNat 0 50 ≤ bits a.toNat 0 50)
          && decide (bits a.toNat 0 50 + n ≤ bits w.1.toNat 0 50 + w.2)))
  | _ => none

/-- The data-port unit of a context. (DESIGN CHOICE, log 88) -/
def whoHost (c : CtxId) : Who := ⟨c, false, .none, 0x7F⟩

/-! ### Bursts (R452) -/

/-- What a burst or a piece meets: data, a failure, or a wait for a shard or a closed bank. -/
inductive Burst where
  | done (d : Bytes)
  | failed (st : Status) (code : W16)
  | waits
  deriving DecidableEq, Repr

/-- A range cut at 4 KiB boundaries (R280); a range of at most 4,096 bytes has at most two parts. -/
def cutPage (a : W64) (n : Nat) : List (W64 × Nat × Nat) :=
  let first := 4096 - a.toNat % 4096
  if n ≤ first then [(a, 0, n)] else [(a, 0, first), (a + BitVec.ofNat 64 first, first, n - first)]

/-- A burst waits for a shard: the wait is noted once. (DESIGN CHOICE, log 93) -/
def State.waitShard (s : State) (c : CtxId) (i : Nat) : State :=
  s.modCtx c (fun x => if x.held.any (fun p => p.1 == i) then x else { x with held := (i, s.now, none) :: x.held })

/-- The first refusal of the sinter bases over the parts of a burst, before any of them is accessed. -/
def State.burstRefusal (s : State) (c : CtxId) (write : Bool) (parts : List (W64 × Nat × Nat)) : Option Acc :=
  parts.findSome? (fun p =>
    match s.decode p.1 with
    | .here (.stack k off) => s.stackRefusal (whoHost c) (s.relocated (whoHost c) k) off write
    | _ => none)

/-- What an access of a part means for its burst: a closed bank follows bank_closed_policy (R106). -/
def State.partResult (s : State) (h : Nat) (c : CtxId) (a : W64) (n : Nat) (r : Acc) : State × Burst :=
  match r with
  | .ok d => (s, .done d)
  | .held i => (s.waitShard c i, .waits)
  | .fail st code =>
    if st = .bankClosed ∧ s.obj 0x2242 (c.val + 1) ≠ 1 then (s.noteClosed (whoHost c) a n (nodeHub h), .waits)
    else if st = .nocredit then (s, .waits)
    else (s.fault code (some c) (s.targetLoc (whoHost c) a) 0x7F, .failed st code)

/-- The parts of a burst in order; the first that fails or waits ends it. -/
def State.burstParts (s : State) (h : Nat) (c : CtxId) (w : Option Bytes) (got : Bytes) :
    List (W64 × Nat × Nat) → State × Burst
  | [] => (s, .done got)
  | p :: l =>
    let r := match w with
      | some d => s.writeOut (whoHost c) ⟨nodeHub h, none⟩ p.1 ((d.drop p.2.1).take p.2.2)
      | none => s.readFA (whoHost c) p.1 p.2.2
    let r := r.1.partResult h c p.1 p.2.2 r.2
    match r.2 with
    | .done d => r.1.burstParts h c w (got ++ d) l
    | b => (r.1, b)

/-- A burst of a site at a target: the firewall, the checks of the sinter base, the access. -/
def State.burst (s : State) (h : Nat) (a : W64) (n : Nat) (w : Option Bytes) : State × Burst :=
  match s.windowOf a n with
  | none => (s.firewall h, .failed .denied 0x7030)
  | some c =>
    let parts := cutPage a n
    match s.burstRefusal c w.isSome parts with
    | some (.fail st code) =>
      let k := match s.decode a with
        | .here (.stack k _) => s.relocated (whoHost c) k
        | _ => 0
      ((s.count .stack k 0x18 1).fault code (some c) (s.targetLoc (whoHost c) a) 0x7F, .failed st code)
    | some (.held i) => (s.waitShard c i, .waits)
    | _ => s.burstParts h c w [] parts

/-! ### Registers (R447, R451, R455) -/

/-- DP_CTRL's fields: auto-increment, stride, burst length. -/
def Site.inc (x : Site) : Bool := x.ctrl.getLsbD 0
def Site.stride (x : Site) : Nat := 2 ^ bits x.ctrl.toNat 1 5
def Site.burstLen (x : Site) : Nat := bits x.ctrl.toNat 8 13 + 1

/-- A DP_CTRL word that R451 accepts. -/
def ctrlOk (v : W32) : Bool :=
  bits v.toNat 6 2 == 0 && bits v.toNat 21 11 == 0 && decide (bits v.toNat 1 5 ≤ 30)
    && decide (bits v.toNat 8 13 + 1 ≤ 4096)
    && (!v.getLsbD 0 || decide (bits v.toNat 8 13 + 1 ≤ 2 ^ bits v.toNat 1 5))

/-- Mover m of a site. -/
def Site.mover (x : Site) (m : Nat) : Mover := tget {} x.movers m

/-- A mover becomes f of itself. -/
def State.modMover (s : State) (h m : Nat) (f : Mover → Mover) : State :=
  s.modSite h (fun x => { x with movers := tmod {} x.movers m f })

/-- A tail write: one that is more than 256 ahead of done is ignored. -/
def State.moverTail (s : State) (h m : Nat) (v : W32) : State :=
  s.modMover h m (fun x => if 256 < (v - x.done).toNat then x else { x with tail := v })

/-- Resume clears halted (R456). -/
def State.moverResume (s : State) (h m : Nat) : State := s.modMover h m (fun x => { x with status := 0 })

/-- The bytes of a mover's ring. -/
def ringBytes (x : Mover) (off n : Nat) : Bytes := (List.range' off n).map (tget 0 x.ring)

/-- Bytes 23 to 29 of a descriptor: status, bytes_done, fault (R454). -/
def State.putResult (s : State) (h m slot : Nat) (st : Status) (n : Nat) (code : W16) : State :=
  s.modMover h m (fun x => { x with
    ring := ([BitVec.ofNat 8 (stCode st)] ++ toLe 4 n ++ toLe 2 code.toNat).zipIdx.foldl
      (fun (t : Tbl Byte) p => tset 0 t (slot * 32 + 23 + p.2) p.1) x.ring })

/-- The descriptor of a slot. -/
def readMover (x : Mover) (slot : Nat) : MoverDesc :=
  let b := ringBytes x (slot * 32) 24
  { host := BitVec.ofNat 64 (leNat (b.take 8)), fabric := BitVec.ofNat 64 (leNat ((b.drop 8).take 8))
    length := BitVec.ofNat 32 (leNat ((b.drop 16).take 4)), sequence := BitVec.ofNat 16 (leNat ((b.drop 20).take 2))
    flags := b.getD 22 0 }

/-- Abort: every started or fetched descriptor completes PATH_FAULT, and head and done go to tail. (DEDUCED, log 90) -/
def State.moverAbort (s : State) (h m : Nat) : State :=
  let x := (s.site h).mover m
  let n := (x.head - x.done).toNat
  let t := (List.range n).foldl (fun (t : State) i =>
    let t := ((t.putResult h m ((x.done.toNat + i) % 256) .pathFault (if i = 0 then x.moved else 0) 0).count
      .host h 0x0C 1).count .host h 0x14 1
    if (readMover x ((x.done.toNat + i) % 256)).flags.getLsbD 2 then t.doorbell h 1 else t) s
  t.modMover h m (fun y => { y with
    head := y.tail, done := y.tail, cur := none, moved := 0, inFlight := none, failed := none, blocked := false })

/-- A register word of the data port takes a value. (DEDUCED, log 87) -/
def State.setPort (s : State) (h off : Nat) (v : W32) : State × Bool :=
  match off with
  | 0x00 => (s.modSite h (fun x => { x with addr := BitVec.ofNat 64 (bits x.addr.toNat 32 32 * 2 ^ 32 + v.toNat) }), true)
  | 0x04 => (s.modSite h (fun x => { x with addr := BitVec.ofNat 64 (v.toNat * 2 ^ 32 + bits x.addr.toNat 0 32) }), true)
  | 0x08 => if ctrlOk v then (s.modSite h (fun x => { x with ctrl := v }), true) else (s, false)
  | 0x10 => (if v.getLsbD 4 then s.modSite h (fun x => { x with stat := 0 }) else s, true)
  | _ => (s, true)

/-- A register word of mover m takes a value. -/
def State.setMover (s : State) (h m off : Nat) (v : W32) : State :=
  match off with
  | 0x00 => s.moverTail h m v
  | 0x10 =>
    let s := if v.getLsbD 0 then s.moverResume h m else s
    if v.getLsbD 1 then s.moverAbort h m else s
  | 0x14 => s.modMover h m (fun x => { x with prio := BitVec.ofNat 8 (v.toNat % 4) })
  | _ => s

/-- A mover's status word: halted and its fault, and empty. -/
def Mover.statusWord (x : Mover) : W32 := x.status ||| (if x.tail = x.done then 2 else 0)

/-- A register word of hub space, by offset; rings are read by bytes. -/
def State.hubWord (s : State) (h off : Nat) : W32 :=
  let x := s.site h
  match off / 0x10000 with
  | 1 =>
    (match off % 0x10000 with
    | 0x00 => BitVec.ofNat 32 x.addr.toNat
    | 0x04 => BitVec.ofNat 32 (x.addr.toNat / 2 ^ 32)
    | 0x08 => x.ctrl
    | 0x10 => x.stat
    | _ => 0)
  | 2 =>
    let y := x.mover (off % 0x10000 / 0x100)
    (match off % 0x100 with
    | 0x00 => y.tail | 0x04 => y.head | 0x08 => y.done | 0x0C => y.statusWord | 0x14 => y.prio.setWidth 32 | _ => 0)
  | _ => 0

/-- A byte of hub space. -/
def State.hubByte (s : State) (h off : Nat) : Byte :=
  if off / 0x10000 = 3 then tget 0 ((s.site h).mover (off % 0x10000 / 0x2000)).ring (off % 0x2000)
  else BitVec.ofNat 8 ((s.hubWord h (off / 4 * 4)).toNat / 256 ^ (off % 4))

/-- Where a hub-space range lies (R447): 0 outside, 1 peer port, 2 registers or rings, 3 window. -/
def hubRegion (off n : Nat) : Nat :=
  if off + n ≤ 0x1000 then 1
  else if 0x10000 ≤ off ∧ off + n ≤ 0x10100 ∨ 0x20000 ≤ off ∧ off + n ≤ 0x20800 ∨ 0x30000 ≤ off ∧ off + n ≤ 0x40000 then 2
  else if 0x100000 ≤ off ∧ off < 0x110000 then 3
  else 0

/-- A word of the data port or of a mover takes a value. -/
def State.setHubWord (s : State) (h off : Nat) (v : W32) : State × Bool :=
  if off / 0x10000 = 1 then s.setPort h (off % 0x10000) v
  else (s.setMover h (off % 0x10000 / 0x100) (off % 0x100) v, true)

/-- Bytes written to registers or rings: each word that they touch takes its value once; false where a word is
refused. -/
def State.hubWrite (s : State) (h off : Nat) (d : Bytes) : State × Bool :=
  if off / 0x10000 = 3 then
    (d.zipIdx.foldl (fun (s : State) p =>
      let o := off % 0x10000 + p.2
      s.modMover h (o / 0x2000) (fun x => { x with ring := tset 0 x.ring (o % 0x2000) p.1 })) s, true)
  else
    (List.range' (off / 4) ((off + d.length + 3) / 4 - off / 4)).foldl (fun (q : State × Bool) w =>
      let b := (List.range 4).map (fun i =>
        if off ≤ w * 4 + i then d.getD (w * 4 + i - off) (q.1.hubByte h (w * 4 + i)) else q.1.hubByte h (w * 4 + i))
      let r := q.1.setHubWord h (w * 4) (BitVec.ofNat 32 (leNat b))
      (r.1, q.2 && r.2)) (s, true)

/-! ### Packets of a site in order (R446, R452, R453) -/

/-- A window access goes on from where it stands: none while it waits. -/
def State.access (s : State) (h : Nat) : Nat → HostReq → State × HostReq × Option (Status × W16)
  | 0, q => (s, q, some (.ok, 0))
  | fuel + 1, q =>
    if q.len ≤ q.done then (s, q, some (.ok, 0))
    else
      let x := s.site h
      let n := min x.burstLen (q.len - q.done)
      match s.burst h x.addr n (if q.write then some ((q.data.drop q.done).take n) else none) with
      | (t, .done d) =>
        let t := t.countHigh .host h 0x08 n
        let t := if x.inc then t.modSite h (fun y => { y with addr := y.addr + BitVec.ofNat 64 x.stride }) else t
        t.access h fuel { q with done := q.done + n, got := q.got ++ d }
      | (t, .failed st code) => (t, q, some (st, code))
      | (t, .waits) => (t, q, none)

/-- A malformed packet or register write (R445, R463). -/
def State.badHost (s : State) (h : Nat) (detail : Nat := 0) : State := s.fault 0x5033 none (locHub h) (h + detail * 256)

/-- What the packet in front meets: its data stands in `got`. -/
def State.hostServe (s : State) (h : Nat) (q : HostReq) : State × HostReq × Option (Status × W16) :=
  match hubRegion q.addr.toNat q.len with
  | 1 => (s.firewall h, q, some (.denied, 0x7030))
  | 2 =>
    if q.write then
      let r := s.hubWrite h q.addr.toNat q.data
      if r.2 then (r.1, q, some (.ok, 0)) else (r.1.badHost h, q, some (.addrError, 0x5033))
    else (s, { q with got := (List.range' q.addr.toNat q.len).map (s.hubByte h) }, some (.ok, 0))
  | 3 => if q.len = 0 then (s.badHost h, q, some (.addrError, 0x5033)) else s.access h (q.len + 1) q
  | _ => (s.badHost h, q, some (.addrError, 0x5033))

/-- A packet completes: an H_CPL for a read, DP_STATUS for a posted write that failed. -/
def State.hostDone (s : State) (h : Nat) (q : HostReq) (st : Status) (code : W16) : State :=
  let s := if st = .ok then s else s.count .host h 0x14 1
  if q.write then
    let s := s.count .host h 0x00 1
    if st = .ok then s.status .ok else { s.portError h st code with answer := .status st }
  else
    let d := if st = .ok then q.got else []
    { (s.count .host h 0x04 1).send (.host h 3 q.tag st d) with answer := .data st d }

/-- The packets of a site, oldest first, until one waits. -/
def State.drainSite (s : State) (h : Nat) : Nat → State
  | 0 => s
  | fuel + 1 =>
    match (s.site h).reqs with
    | [] => s
    | q :: rest =>
      match s.hostServe h q with
      | (t, r, none) => t.modSite h (fun x => { x with reqs := r :: rest })
      | (t, r, some (st, code)) =>
        ((t.modSite h (fun x => { x with reqs := rest })).hostDone h r st code).drainSite h fuel

/-- Both sites go on with what waited. -/
def State.drainSites (s : State) : State :=
  [0, 1].foldl (fun (s : State) h =>
    (s.modSite h (fun x => { x with movers := tmap (fun _ (m : Mover) => { m with blocked := false }) x.movers })).drainSite h
      ((s.site h).reqs.length + 1)) s

/-- A packet arrives behind those that wait. -/
def State.hostPush (s : State) (h : Nat) (q : HostReq) : State :=
  (s.ok.modSite h (fun x => { x with reqs := x.reqs ++ [q] })).drainSite h ((s.site h).reqs.length + 1)

/-! ### Movers (R454–R456) -/

/-- The descriptor may run. -/
def moverGood (d : MoverDesc) : Bool :=
  d.flags.toNat < 8 && decide (0 < d.length.toNat) && decide (d.length.toNat ≤ 2 ^ 30)

/-- The detail of a mover's entries: site, mover, sequence (R463). -/
def moverDetail (h m : Nat) (seq : W16) : Nat := h + m * 2 ^ 16 + seq.toNat * 2 ^ 24

/-- The next descriptor is fetched; a bad one fails at once with fault 0x5033. -/
def State.fetchMover (s : State) (h m : Nat) : State :=
  let x := (s.site h).mover m
  let d := readMover x (x.head.toNat % 256)
  let s := s.modMover h m (fun y => { y with
    head := y.head + 1, cur := some d, moved := 0
    failed := if moverGood d then none else some (.addrError, 0x5033) })
  if moverGood d then s else s.fault 0x5033 none (locHub h) (moverDetail h m d.sequence)

/-- A piece of a mover moves at a fabric address: `w` for data from the host. -/
def State.moverBurst (s : State) (h m : Nat) (d : MoverDesc) (n : Nat) (w : Option Bytes) : State × Bool :=
  let x := (s.site h).mover m
  match s.burst h (d.fabric + BitVec.ofNat 64 x.moved) n w with
  | (t, .done b) =>
    let t := (t.modMover h m (fun y => { y with moved := y.moved + n, blocked := false })).countHigh .host h 0x10 n
    (if w.isSome then t else t.send (.host h 4 0 .ok (toLe 8 (d.host + BitVec.ofNat 64 x.moved).toNat ++ b)), true)
  | (t, .failed st code) => (t.modMover h m (fun y => { y with failed := some (st, code), inFlight := none }), true)
  | (t, .waits) => (t.modMover h m (fun y => { y with blocked := true }), false)

/-- Accesses of both sites that wait for a shard whose limit has passed end DENIED with code 0x4012 (R458). -/
def State.failSites (s : State) (c : CtxId) (i : Nat) : State :=
  let hit (s : State) (a : W64) : Bool :=
    match s.decode a, s.windowOf a 1 with
    | .here (.stack k off), some o =>
      o == c && s.shardAt c (s.relocated (whoHost c) k) off == some i
    | _, _ => false
  [0, 1].foldl (fun (s : State) h =>
    let x := s.site h
    let late (m : Mover) : Bool :=
      m.blocked && (m.cur.map (fun d => hit s (d.fabric + BitVec.ofNat 64 m.moved))).getD false
    let s := s.modSite h (fun y =>
      { y with movers := tmap (fun _ (m : Mover) =>
          if late m then { m with failed := some (.denied, 0x4012), blocked := false } else m) y.movers })
    match x.reqs with
    | q :: rest =>
      if hubRegion q.addr.toNat q.len = 3 ∧ hit s x.addr then
        ((s.modSite h (fun y => { y with reqs := rest })).hostDone h q .denied 0x4012).drainSite h (rest.length + 1)
      else s
    | [] => s) s

end Sys2Proof.Machine
end

