-- ==== Sys2Proof/Machine/Queue.lean ====
section
/-! DEFINITION. Dataflow queues and tokens (R145–R153, R168–R171): storage and spill windows, credits,
the checks on the token at the head of an input, and what a producer writes. -/

namespace Sys2Proof.Machine

/-! ### Tokens (R150, R151) -/

/-- The 16-bit sideband of a token. -/
def tokSideband (t : Token) : W16 :=
  BitVec.ofNat 16 (b2n t.eof * 2 ^ 12 + t.fmt.toNat * 2 ^ 10 + b2n t.settled * 2 ^ 9
    + t.ctx.toNat * 2 ^ 4 + t.epoch.toNat)

/-- The token that a sideband, an entry kind and a payload make. -/
def tokOf (sb : W16) (kind : Nat) (d : Bytes) : Token :=
  let n := sb.toNat
  { endMark := kind == 1, eof := n.testBit 12, fmt := BitVec.ofNat 2 (n / 2 ^ 10)
    settled := n.testBit 9, ctx := BitVec.ofNat 5 (n / 2 ^ 4), epoch := BitVec.ofNat 4 n
    payload := d, poisoned := false }

/-- EPOCH_END of an epoch of a context (R151). -/
def tokEnd (c : CtxId) (e : BitVec 4) : Token :=
  { endMark := true, eof := false, fmt := 0, settled := true, ctx := BitVec.ofNat 5 c.val
    epoch := e, payload := [], poisoned := false }

/-! ### Units -/

/-- The engine number of the geyser engine (R118). -/
def geyser : Nat := 5

/-- The speculation role of a unit with its active record (R213). -/
def unitRole (u : Nat) (g : UnitCfg) : Role :=
  if u = 96 + geyser then .geyser
  else if (u < 16 ∨ 64 ≤ u ∧ u < 96) ∧ g.layer.isSome then .plane
  else .none

/-- A unit's island is switched off for heat (R354): its tile's, or island 20. -/
def State.heatOff (s : State) (d : LDie) (u : Nat) : Bool :=
  match s.phys d with
  | some p =>
    let i := match unitTile u with
      | some t => s.physTile p ⟨t % 16, by omega⟩
      | none => 20
    (s.island (p * 37 + i)).st == 1
  | none => false

/-- Engine e of a die serves context c: the panel is in IDLE or RUN, the context is neither paused, halted nor
suspended (R143, R160), and the die and its commons island are on (R354). A ring is bound at the load of its
context's image (R121), so its descriptors run whether or not a graph has started. (DEDUCED, log 158) -/
def State.engineLive (s : State) (c : CtxId) (d : LDie) (e : Nat) : Bool :=
  (s.st == .run || s.st == .idle) && !(s.ctx c).paused && (s.ctx c).sw != .halted && (s.ctx c).sw != .suspended
    && (s.phys d).isSome && !s.heatOff d (96 + e)

/-- The context and record under which a unit runs now; none while it is stopped, paused, unserved, not
configured or off for heat. -/
def State.live (s : State) (d : LDie) (u : Nat) : Option (CtxId × UnitCfg) :=
  let x := s.unit (unitKey d u)
  match x.ctx, x.active.cfg with
  | some c, some g =>
    if s.st = .run ∧ !x.stopped ∧ !(s.ctx c).paused ∧ (s.ctx c).runs ∧ (s.phys d).isSome ∧ !s.heatOff d u then
      some (c, g)
    else none
  | _, _ => none

/-- Who a unit is in a memory access. -/
def whoUnit (c : CtxId) (u : Nat) (g : UnitCfg) : Who := ⟨c, false, unitRole u g, u⟩

/-- The location of R189. -/
def unitLoc (d : LDie) : Loc := locEngine d.val

/-! ### Queues (R145–R149, R169, R170) -/

/-- Does a queue spill under a spill posture? -/
def spills (posture : Byte) (g : QueueDecl) : Bool :=
  posture == 1 && g.spillable && !g.mayUnsettled && decide (0 < g.width)

/-- Slots of a queue, window included. -/
def queueSlots (posture : Byte) (g : QueueDecl) : Nat :=
  g.depth + (if spills posture g then g.spillLen / g.width else 0)

/-- Producer and consumer lie in the same tile (R148). -/
def sameTile (key : Nat) (g : QueueDecl) : Bool :=
  g.prodDie.val == key / 512 && (unitTile g.prodUnit.val).isSome
    && unitTile g.prodUnit.val == unitTile (key % 512 / 4)

/-- The context of the unit that holds a queue. -/
def State.queueCtx (s : State) (key : Nat) : Option CtxId :=
  (s.unit (key / 512 * 128 + key % 512 / 4)).ctx

/-- A free slot of n, the next after the youngest where that is free. -/
def freeSlot (n : Nat) (used : List Nat) : Nat :=
  let i := match used.getLast? with
    | some x => if x + 1 < n then x + 1 else 0
    | none => 0
  if used.contains i then ((List.range n).find? (fun j => !used.contains j)).getD 0 else i

/-- The 64-bit words of a storage slot. -/
def queueWords (g : QueueDecl) (i : Nat) : List Nat := List.range' (i * (g.width / 8)) (g.width / 8)

/-- A token takes a slot of the storage, whose words take new codewords (R149). -/
def QueueS.claim (q : QueueS) (g : QueueDecl) : QueueS :=
  let i := freeSlot g.depth q.stored
  { q with
    stored := q.stored ++ [i]
    weak := q.weak.filter (fun a => !(queueWords g i).contains a)
    bad := q.bad.filter (fun a => !(queueWords g i).contains a) }

/-- The tile and the first byte of slot i of a queue's spill window. -/
def spillPlace (key : Nat) (g : QueueDecl) (i : Nat) : LDie × LTile × Nat :=
  (⟨key / 512 % 144, Nat.mod_lt _ (by decide)⟩, ⟨(unitTile (key % 512 / 4)).getD 0 % 16, Nat.mod_lt _ (by decide)⟩,
    g.spillOff + i * g.width)

/-- A payload is written into a slot of the window, at the router-port requester (R89, R170). -/
def State.windowPut (s : State) (key : Nat) (g : QueueDecl) (i : Nat) (d : Bytes) : State :=
  let p := spillPlace key g i
  match s.tileKey p.1 p.2.1 with
  | none => s
  | some k => if d = [] then s else (s.bankTurn p.1 p.2.1 k 10 p.2.2 d.length).spadPut k p.2.2 d false

/-- A payload is read back from a slot of the window; an uncorrectable word poisons it (R88, R149, R170). -/
def State.windowGet (s : State) (key : Nat) (g : QueueDecl) (i : Nat) (t : Token) : State × Token :=
  let p := spillPlace key g i
  match s.tileKey p.1 p.2.1 with
  | none => (s, t)
  | some k =>
    if t.payload = [] then (s, t)
    else
      let n := t.payload.length
      let s := s.bankTurn p.1 p.2.1 k 10 p.2.2 n
      if (wordsOf p.2.2 n).any (fun a => (s.tile k).bad.contains a) then (s, { t with poisoned := true })
      else (s.spadCorrect p.1 p.2.1 k (wordsOf p.2.2 n),
        { t with payload := bytesAt s.spadMem (spadBase k + p.2.2) n })

/-- While the window holds tokens and storage has room, the window's oldest token moves into storage (R170). -/
def State.refill (s : State) (key : Nat) : Nat → State
  | 0 => s
  | n + 1 =>
    let q := s.queue key
    match q.decl, q.window, q.tokens[q.stored.length]? with
    | some g, i :: rest, some t =>
      if q.stored.length < g.depth then
        let r := s.windowGet key g i t
        (r.1.modQueue key (fun q => { (q.claim g) with
          window := rest, tokens := q.tokens.set q.stored.length r.2 })).refill key n
      else s
    | _, _, _ => s

/-- Data tokens of a list: EPOCH_END markers are none (R151). -/
def dataTokens (l : List Token) : Nat := (l.filter (fun t => !t.endMark)).length

/-- A token enters a queue: storage, or the window while storage is full or the window is used. -/
def State.pushQueue (s : State) (key : Nat) (t : Token) : State :=
  let q := s.queue key
  match q.decl with
  | none => s
  | some g =>
    let t := { t with since := s.now }
    let full := decide (g.depth ≤ q.stored.length) || !q.window.isEmpty
    let i := freeSlot (g.spillLen / g.width) q.window
    let s := if full then
        (s.windowPut key g i t.payload).modQueue key (fun q => { q with window := q.window ++ [i], tokens := q.tokens ++ [t] })
      else s.modQueue key (fun q => { (q.claim g) with tokens := q.tokens ++ [t] })
    if t.endMark then s
    else
      let s := s.countMax .queue key 0x04 (dataTokens q.tokens + 1)
      if full then s.count .queue key 0x0C 1 else s

/-- n credits of a queue go back to its producer: at once within a tile, else as QCREDIT, whose count has 10 bits
beside the 9 of the queue ID (R147, R291). -/
def State.returnCredit (s : State) (key n : Nat) : State :=
  match (s.queue key).decl with
  | none => s
  | some g =>
    if sameTile key g then s.modQueue key (fun q => q.credit n)
    else
      (List.range ((n + 1022) / 1023)).foldl (fun (s : State) i =>
        s.ctrl (nodeDie ((s.phys ⟨key / 512 % 144, by omega⟩).getD 0)) 0x02
          ((s.queueCtx key).map (·.val) |>.getD 0) (key % 512 + min 1023 (n - i * 1023) * 512)) s

/-- n credits arrive at a queue's producer: no more than free slots, since those of packets that a restore has discarded
count no more (R46, R147). -/
def QueueS.taken (q : QueueS) (n : Nat) : QueueS :=
  let x := q.credit n
  { x with credits := min x.credits (x.slots - x.tokens.length) }

/-- The head of a queue is removed. -/
def State.popQueue (s : State) (key : Nat) : State :=
  ((s.modQueue key (fun q => { q with
    tokens := q.tokens.tail, stored := q.stored.tail
    window := if q.stored.isEmpty then q.window.tail else q.window })).refill key 1).returnCredit key 1

/-- Every token that `p` selects leaves a queue, and their credits return; the number of data tokens among them
(R151). -/
def State.dropTokens (s : State) (key : Nat) (p : Token → Bool) : State × Nat :=
  let gone := (s.queue key).tokens.filter p
  if gone = [] then (s, 0)
  else
    (((s.modQueue key (fun q => q.keep (fun t => !p t))).refill key (s.queue key).window.length).returnCredit key
      gone.length, dataTokens gone)

/-! ### The token at the head (R153) -/

/-- What becomes of the token at the head of an input. -/
inductive Fate where
  | accept
  | wait
  /-- another context's token -/
  | foreign
  /-- an unsettled token that the unit may not read -/
  | hidden
  | flushed
  | mismatch
  deriving DecidableEq, Repr

/-- The checks of R153 in order. -/
def tokenFate (c : CtxId) (role : Role) (u : UnitS) (t : Token) : Fate :=
  if t.ctx ≠ BitVec.ofNat 5 c.val then .foreign
  else if !t.settled ∧ role = .none then .hidden
  else if t.epoch = u.epoch then .accept
  else if t.epoch = u.epoch + 1 then .wait
  else if t.epoch = u.epoch - 1 ∧ u.lastFlush then .flushed
  else .mismatch

/-- The detail of R189: unit and queue. -/
def unitDetail (u key : Nat) : Nat := u + key % 512 * 2 ^ 8

/-- Head tokens are disposed of until one is accepted or waits; EPOCH_END of the current epoch is
consumed and noted. At most n tokens are looked at. -/
def State.clearHead (s : State) (c : CtxId) (d : LDie) (u : Nat) (role : Role) (port : Nat) :
    Nat → State
  | 0 => s
  | n + 1 =>
    let key := queueKey d (u * 4 + port)
    match (s.queue key).tokens.head? with
    | none => s
    | some t =>
      match tokenFate c role (s.unit (unitKey d u)) t with
      | .wait => s
      | .accept =>
        if t.endMark then
          ((s.popQueue key).modUnit (unitKey d u) (fun x =>
            { x with ended := insertNew port x.ended })).clearHead c d u role port n
        else s
      | .foreign =>
        ((s.popQueue key).fault 0x6005 (some c) (unitLoc d) (unitDetail u key)).haltCtx c
      | .hidden =>
        ((s.popQueue key).fault 0x6043 (some c) (unitLoc d) (unitDetail u key)).haltCtx c
      | .flushed =>
        (if t.endMark then s.popQueue key
          else ((s.popQueue key).count .unit (unitKey d u) 0x20 1).count .queue key 0x10 1).clearHead c d u role port n
      | .mismatch =>
        let s := if t.endMark then s.popQueue key else (s.popQueue key).count .unit (unitKey d u) 0x24 1
        let s := if (s.unit (unitKey d u)).raised6004 then s
          else (s.event 0x6004 (some c) (unitLoc d) (unitDetail u key)).modUnit (unitKey d u)
            (fun x => { x with raised6004 := true })
        s.clearHead c d u role port n

/-- The inputs of a unit are cleared, and each port's accepted head token is named. -/
def State.heads (s : State) (c : CtxId) (d : LDie) (u : Nat) (g : UnitCfg) :
    State × List (QueueDecl × Option Token) :=
  let s := g.inputs.foldl (fun (s : State) i =>
    s.clearHead c d u (unitRole u g) i.port.val
      ((s.queue (queueKey d (u * 4 + i.port.val))).tokens.length)) s
  (s, g.inputs.map (fun i =>
    let t := (s.queue (queueKey d (u * 4 + i.port.val))).tokens.head?
    (i, t.filter (fun t => !t.endMark &&
      tokenFate c (unitRole u g) (s.unit (unitKey d u)) t == .accept))))

/-- The words of the head token's slot in error: how many are correctable, and whether one is not (R149). -/
def State.headErrors (s : State) (key : Nat) : Nat × Bool :=
  let q := s.queue key
  match q.decl, q.stored with
  | some g, i :: _ =>
    (((queueWords g i).filter q.weak.contains).length, (queueWords g i).any q.bad.contains)
  | _, _ => (0, false)

/-- The head token is poisoned: it arrived so, or its storage has an uncorrectable error (R149). -/
def State.headPoisoned (s : State) (key : Nat) (t : Token) : Bool := t.poisoned || (s.headErrors key).2

/-- An accepted token is consumed: corrected errors of its storage count at the tile, or for the commons island at
the die's commons; a poisoned one raises 0x6008 and the region restores (R88, R149). (DEDUCED, log 140) -/
def State.consume (s : State) (c : CtxId) (d : LDie) (u : Nat) (i : QueueDecl) (t : Token) : State :=
  let key := queueKey d (u * 4 + i.port.val)
  let e := s.headErrors key
  let s := if e.1 = 0 then s
    else match unitTile u with
      | some t => s.count .tile (tileRec d t) 0x34 e.1
      | none => s.count .engine (d.val * 8) 0x1C e.1
  let s := (s.popQueue key).count .queue key 0x00 1
  if t.poisoned || e.2 then (s.fault 0x6008 (some c) (unitLoc d) (unitDetail u key)).needRestore c else s

/-! ### Writing tokens (R147, R148, R152) -/

/-- The queues of an output port. -/
def outQueues (g : UnitCfg) (port : Nat) : List (LDie × Fin 448) :=
  ((g.outputs.find? (fun o => o.port.val == port)).map (·.queues)).getD []

/-- The producer holds a credit on every queue of a port. -/
def State.canEmit (s : State) (g : UnitCfg) (port : Nat) : Bool :=
  (outQueues g port).all (fun q => decide (0 < (s.queue (queueKey q.1 q.2.val)).credits))

/-- The producer holds n credits on every queue of a port. -/
def State.canEmitN (s : State) (g : UnitCfg) (port n : Nat) : Bool :=
  (outQueues g port).all (fun q => decide (n ≤ (s.queue (queueKey q.1 q.2.val)).credits))

/-- The payload width of an output port. -/
def State.outWidth (s : State) (g : UnitCfg) (port : Nat) : Nat :=
  match (outQueues g port).head? with
  | some q => (((s.queue (queueKey q.1 q.2.val)).decl).map (·.width)).getD 128
  | none => 128

/-- Every output port holds a credit. -/
def State.canEmitAll (s : State) (g : UnitCfg) : Bool := g.outputs.all (fun o => s.canEmit g o.port.val)

/-- A finished firing waits for a queue credit: out_wait_cycles, and full_cycles of full queues. -/
def State.outWait (s : State) (d : LDie) (u : Nat) (g : UnitCfg) : State :=
  let s := s.count .unit (unitKey d u) 0x14 1
  (g.outputs.flatMap (·.queues)).foldl (fun (s : State) q =>
    if (s.queue (queueKey q.1 q.2.val)).credits = 0 then s.count .queue (queueKey q.1 q.2.val) 0x08 1
    else s) s

/-- A TOKEN packet of a unit on VC1. -/
def tokenPkt (c : CtxId) (u : Nat) (l : LDie) (aux : Nat) (t : Token) : Pkt :=
  { pktBlank with
    dest := engineAddr l 0, opcode := 0x05, vc := 1, prio := 3
    ctx := BitVec.ofNat 5 c.val, unit := BitVec.ofNat 7 u, sideband := tokSideband t
    kind := if t.endMark then 1 else 0, length := BitVec.ofNat 13 t.payload.length
    aux := BitVec.ofNat 16 aux, payload := t.payload }

/-- A token goes to one queue: directly within the tile, else as a TOKEN packet on VC1. The packet of an output port that
feeds a multicast group is sent by the port (`alone` is false). -/
def State.emitTo (s : State) (c : CtxId) (d : LDie) (u : Nat) (q : LDie × Fin 448) (t : Token) (alone : Bool := true) :
    State :=
  let key := queueKey q.1 q.2.val
  match (s.queue key).decl with
  | none => s
  | some g =>
    if !t.settled && !g.mayUnsettled then
      (s.count .spec (tileRec d ((unitTile u).getD 0)) 0x2C 1).fault 0x6043 (some c) (unitLoc d)
        (unitDetail u key)
    else
      let s := s.modQueue key (fun x => { x with credits := x.credits - 1 })
      if sameTile key g then s.pushQueue key t
      else if alone then
        (s.inject (nodeDie ((s.phys d).getD 0)) (nodeDie ((s.phys q.1).getD 0)) (tokenPkt c u q.1 q.2.val t)).1
      else s

/-- A queue takes a port's token from a packet: it exists, lies outside the unit's tile and may carry the token. -/
def State.takesPacket (s : State) (q : LDie × Fin 448) (t : Token) : Bool :=
  let key := queueKey q.1 q.2.val
  (s.queue key).decl.any (fun g => (t.settled || g.mayUnsettled) && !sameTile key g)

/-- A token goes to every queue of a port: to each in a packet of its own, or to all in one packet of the port's group
(R292). -/
def State.emit (s : State) (c : CtxId) (d : LDie) (u : Nat) (g : UnitCfg) (port : Nat) (t : Token) :
    State :=
  let l := outQueues g port
  match (g.outputs.find? (fun o => o.port.val == port)).bind (·.group) with
  | none => l.foldl (fun (s : State) q => s.emitTo c d u q t) s
  | some m =>
    let s' := l.foldl (fun (s : State) q => s.emitTo c d u q t false) s
    if l.any (fun q => s.takesPacket q t) then
      s'.injectGroup (nodeDie ((s.phys d).getD 0)) m.toNat (tokenPkt c u d m.toNat t)
    else s'

/-- A data token of a unit in its current epoch. -/
def State.mkToken (s : State) (c : CtxId) (d : LDie) (u : Nat) (eof : Bool) (fmt : BitVec 2)
    (settled : Bool) (p : Bytes) : Token :=
  { endMark := false, eof := eof, fmt := fmt, settled := settled, ctx := BitVec.ofNat 5 c.val
    epoch := (s.unit (unitKey d u)).epoch, payload := p, poisoned := false }

end Sys2Proof.Machine
end

