-- ==== Sys2Proof/Machine/Sparse.lean ====
section
/-! DEFINITION. Sparse arrangements (R223–R241): N:M, BITMAP and ZERO pages, their encoding, the checks on
reading, and the page writer. -/

namespace Sys2Proof.Machine

/-! ### Patterns (R226) -/

/-- N and M of a pattern; 0 is no pattern. -/
def patN (p : Nat) : Nat := match p with | 1 => 1 | 2 => 2 | 3 => 1 | 4 => 2 | 5 => 4 | _ => 1
def patM (p : Nat) : Nat := match p with | 1 => 4 | 2 => 4 | 3 => 8 | 4 => 8 | 5 => 8 | _ => 1
/-- Index bits. -/
def patB (p : Nat) : Nat := match p with | 1 => 2 | 2 => 2 | 3 => 3 | 4 => 3 | 5 => 3 | _ => 0

/-- Strata plane counts that admit a pattern (R236). -/
def patAdmits (p k : Nat) : Bool :=
  match p with
  | 1 => 1 ≤ k | 2 => 3 ≤ k | 3 => 1 ≤ k | 4 => 2 ≤ k | 5 => 4 ≤ k | _ => true

/-! ### Packed elements and bit strings -/

/-- Raw elements of w bits, packed as R50 fixes. -/
def unpackElems (w : Nat) : Bytes → List Nat
  | [] => []
  | b :: bs =>
    if w = 4 then b.toNat % 16 :: b.toNat / 16 :: unpackElems w bs
    else if w = 8 then b.toNat :: unpackElems w bs
    else match bs with
      | [] => [b.toNat]
      | c :: cs =>
        if w = 16 then (b.toNat + 256 * c.toNat) :: unpackElems w cs
        else match cs with
          | d :: e :: es =>
            (b.toNat + 256 * c.toNat + 65536 * d.toNat + 16777216 * e.toNat) :: unpackElems w es
          | _ => [b.toNat + 256 * c.toNat]

/-- Elements of w bits into bytes. -/
def packElems (w : Nat) : List Nat → Bytes
  | [] => []
  | x :: xs =>
    if w = 4 then
      match xs with
      | [] => [BitVec.ofNat 8 (x % 16)]
      | y :: ys => BitVec.ofNat 8 (x % 16 + y % 16 * 16) :: packElems w ys
    else toLe (w / 8) x ++ packElems w xs

/-- A list in pieces of n, for as many pieces as `fuel` allows. -/
def chunks {A : Type} (n : Nat) : Nat → List A → List (List A)
  | 0, _ => []
  | f + 1, l => if l.isEmpty then [] else l.take n :: chunks n f (l.drop n)

/-- A list in pieces of n. -/
def chunk {A : Type} (n : Nat) (l : List A) : List (List A) := chunks n (l.length + 1) l

/-- Fields of b bits into one number, the first lowest. -/
def packBits (b : Nat) : List Nat → Nat
  | [] => 0
  | x :: xs => x + 2 ^ b * packBits b xs

/-- Is a raw element zero? +0 and −0 are; for a floating format the sign bit does not count (R228). -/
def rawZero (fmt raw : Nat) : Bool :=
  match ffmtOf fmt with
  | some f => raw % 2 ^ (f.ebits + f.mbits) == 0
  | none => if fmt = 12 then raw % 128 == 0 else raw == 0

/-! ### Writing (R226–R228) -/

/-- The slots of an N:M group: positions of its nonzero elements, then unused positions with zeros, in
ascending order. -/
def nmSlots (fmt n : Nat) (g : List Nat) : List (Nat × Nat) :=
  let nz := (g.zipIdx).filter (fun p => !rawZero fmt p.1)
  let z := (g.zipIdx).filter (fun p => rawZero fmt p.1)
  let keep := (nz ++ (z.take (n - nz.length)).map (fun (p : Nat × Nat) => (0, p.2))).map (fun (p : Nat × Nat) => p.2)
  (g.zipIdx).filterMap (fun p =>
    if keep.contains p.2 then some (p.2, if rawZero fmt p.1 then 0 else p.1) else none)

/-- Some group has more than N nonzero elements. -/
def nmOverflow (fmt pat : Nat) (es : List Nat) : Bool :=
  (chunk (patM pat) es).any (fun g =>
    decide (patN pat < (g.filter (fun x => !rawZero fmt x)).length))

/-- A page or line in N:M form: values, then indices. -/
def nmEncode (fmt pat : Nat) (es : List Nat) : Bytes :=
  let slots := (chunk (patM pat) es).flatMap (nmSlots fmt (patN pat))
  packElems (elemBits fmt) (slots.map (·.2))
    ++ toLe ((patB pat * slots.length + 7) / 8) (packBits (patB pat) (slots.map (·.1)))

/-- A page in BITMAP form. -/
def bitmapEncode (fmt : Nat) (es : List Nat) : Bytes :=
  toLe ((es.length + 7) / 8) (packBits 1 (es.map (fun x => b2n (!rawZero fmt x))))
    ++ packElems (elemBits fmt) (es.filter (fun x => !rawZero fmt x))

/-- Arrangements that a writer declares: DENSE, NM with its pattern, BITMAP. -/
inductive Declared where
  | dense
  | nm (pat : Nat)
  | bitmap
  deriving DecidableEq, Repr

/-- The arrangement that a sparse declaration gives its writer. -/
def declaredOf (x : SparseDecl) : Declared :=
  match x.arr.toNat with
  | 1 => .nm x.pat
  | 2 => .bitmap
  | _ => .dense

/-- The tag and the bytes of a completed page, and the overflow and fallback counts (R228). -/
def choosePage (fmt : Nat) (decl : Declared) (d : Bytes) : Nat × Bytes × Nat × Nat :=
  let es := unpackElems (elemBits fmt) d
  let nz := (es.filter (fun x => !rawZero fmt x)).length
  if nz = 0 then (3, [], 0, 0)
  else match decl with
    | .nm pat => if nmOverflow fmt pat es then (0, d, 1, 0) else (1, nmEncode fmt pat es, 0, 0)
    | .bitmap =>
      if (es.length + 7) / 8 + (nz * elemBits fmt + 7) / 8 < 4096 then (2, bitmapEncode fmt es, 0, 0)
      else (0, d, 0, 1)
    | .dense => (0, d, 0, 0)

/-- The side-table byte with the entry of page p replaced. -/
def setTag (old : Byte) (p tag : Nat) : Byte :=
  let sh := 2 * (p % 4)
  BitVec.ofNat 8 (old.toNat - bits old.toNat sh 2 * 2 ^ sh + tag * 2 ^ sh)

/-- Counts of a written page (R239). -/
def State.countPage (s : State) (rec_ tag ovf fall : Nat) : State :=
  let s := if tag = 1 ∨ tag = 2 then s.count .sparse rec_ 0x10 1 else s
  let s := if tag = 3 then s.count .sparse rec_ 0x14 1 else s
  let s := if ovf = 0 then s else s.count .sparse rec_ 0x18 ovf
  if fall = 0 then s else s.count .sparse rec_ 0x1C fall

/-- Page bytes are written under a tag: the data bytes, then the side-table entry; a failed access raises its
fault and leaves the entry. False where the page is not acknowledged whole (R228). -/
def State.writeTagged (s : State) (w : Who) (y : Sender) (x : SparseDecl) (p tag : Nat) (d : Bytes) : State × Bool :=
  let a := x.base + BitVec.ofNat 64 (p * 4096)
  let ta := x.table + BitVec.ofNat 64 (p / 4)
  let q := if d = [] then (s, Acc.ok []) else s.writeOut w y a d
  match q.2 with
  | .ok _ =>
    match q.1.readFA w ta 1 with
    | (s, .ok [b]) =>
      (match s.writeOut w y ta [setTag b p tag] with
        | (s, .ok _) => (s, true)
        | (s, r) => (s.unitFail w ta r, false))
    | (s, r) => (s.unitFail w ta r 1, false)
  | r => (q.1.unitFail w a r d.length, false)

/-- A completed page is written in the arrangement that R228 chooses. -/
def State.writePage (s : State) (w : Who) (y : Sender) (x : SparseDecl) (rec_ p : Nat) (d : Bytes) : State × Bool :=
  let (tag, body, ovf, fall) := choosePage x.fmt.toNat (declaredOf x) d
  match s.writeTagged w y x p tag body with
  | (s, true) => (s.countPage rec_ tag ovf fall, true)
  | r => r

/-- Pages from page p on are written; false where one of them waits or fails. -/
def State.writePages (s : State) (w : Who) (y : Sender) (x : SparseDecl) (rec_ : Nat) :
    Nat → List Bytes → State × Bool
  | _, [] => (s, true)
  | p, d :: l =>
    match s.writePage w y x rec_ p d with
    | (s, true) => s.writePages w y x rec_ (p + 1) l
    | r => r

/-! ### Reading and its checks (R229–R231) -/

/-- A bad entry: its slot or bit position and its fault code. -/
abbrev Bad := Nat × W16

/-- Bad slots of a group: positions that do not ascend. -/
def nmBad (base : Nat) (prev : Option Nat) : List Nat → List Bad
  | [] => []
  | x :: xs =>
    match prev with
    | some p => if x ≤ p then (base, 0x8002) :: nmBad (base + 1) (some x) xs
        else nmBad (base + 1) (some x) xs
    | none => nmBad (base + 1) (some x) xs

/-- The N:M slots of an encoded page with n dense elements: positions and raw values by group. -/
def nmDecode (fmt pat n : Nat) (d : Bytes) : List (List (Nat × Nat)) :=
  let w := elemBits fmt
  let slots := n / patM pat * patN pat
  let vb := (slots * w + 7) / 8
  let vals := unpackElems w (d.take vb)
  let idx := leNat (d.drop vb)
  chunk (patN pat) ((List.range slots).map (fun i => (bits idx (patB pat * i) (patB pat), vals.getD i 0)))

/-- Bad entries of an N:M page whose first element is element `first` of a tensor of `total`. -/
def nmCheck (pat first total : Nat) (groups : List (List (Nat × Nat))) : List Bad :=
  (groups.zipIdx).flatMap (fun g =>
    let base := g.2 * patN pat
    let beyond := (g.1.zipIdx).filterMap (fun q =>
      if total ≤ first + g.2 * patM pat + q.1.1 then some (base + q.2, (0x8001 : W16)) else none)
    beyond ++ (nmBad base none (g.1.map (·.1))).filter (fun b => !beyond.any (fun c => c.1 == b.1)))

/-- The n dense elements that N:M slots stand for, bad slots as zero. -/
def nmExpand (pat n : Nat) (groups : List (List (Nat × Nat))) (bad : List Bad) : List Nat :=
  let slots := (groups.zipIdx).flatMap (fun g => (g.1.zipIdx).map (fun q =>
    (g.2 * patM pat + q.1.1, if bad.any (fun b => b.1 == g.2 * patN pat + q.2) then 0 else q.1.2)))
  (List.range n).map (fun i =>
    match slots.find? (fun q => q.1 == i && q.2 != 0) with | some q => q.2 | none => 0)

/-- The bits of a bitmap section of n elements, and where each set bit's value lies. -/
def bitmapDecode (fmt n : Nat) (d : Bytes) : List (Nat × Nat × Nat) :=
  let hb := (n + 7) / 8
  let map := leNat (d.take hb)
  let vals := unpackElems (elemBits fmt) (d.drop hb)
  (((List.range n).filter (fun i => map.testBit i)).zipIdx).map (fun p => (p.1, vals.getD p.2 0, p.2))

/-- Bad entries of a BITMAP page: bits beyond the tensor, and values that reach byte 4,095. -/
def bitmapCheck (fmt n first total : Nat) (es : List (Nat × Nat × Nat)) : List Bad :=
  es.filterMap (fun e =>
    if total ≤ first + e.1 then some (e.1, 0x8001)
    else if 4096 ≤ (n + 7) / 8 + ((e.2.2 + 1) * elemBits fmt + 7) / 8 then some (e.1, 0x8002)
    else none)

/-- The first bad entry of a code. -/
def firstBad (code : W16) (bad : List Bad) : List Bad :=
  match bad.filter (fun b => b.2 == code) with
  | [] => []
  | b :: l => [l.foldl (fun m x => if x.1 < m.1 then x else m) b]

/-- Bad entries of a page act (R231): counts, one fault for each code in a unit's frame, and under STOP the
context halts. Detail: unit, page, first bad position. -/
def State.sparseFault (s : State) (c : CtxId) (d : LDie) (u rec_ page : Nat) (bad : List Bad) : State :=
  match bad with
  | [] => s
  | _ :: _ =>
    let n1 := (bad.filter (fun x => x.2 == 0x8001)).length
    let s := ((s.count .sparse rec_ 0x20 n1).count .sparse rec_ 0x24 (bad.length - n1)).count
      .sparse rec_ 0x28 bad.length
    let s := (firstBad 0x8001 bad ++ firstBad 0x8002 bad).foldl (fun (s : State) b =>
      if (s.unit (unitKey d u)).sparseLogged.contains b.2 then s
      else (s.fault b.2 (some c) (unitLoc d) (u + page * 2 ^ 8 + b.1 * 2 ^ 40)).modUnit (unitKey d u)
        (fun x => { x with sparseLogged := b.2 :: x.sparseLogged })) s
    if s.obj 0x2247 (c.val + 1) = 0 then s.haltCtx c else s

/-- A page's dense bytes from its tag and its data bytes, with its bad entries. -/
def expandPage (x : SparseDecl) (p tag : Nat) (d : Bytes) : Bytes × List Bad :=
  let fmt := x.fmt.toNat
  let n := 4096 * 8 / elemBits fmt
  match tag with
  | 0 => (d, [])
  | 1 =>
    let g := nmDecode fmt x.pat n d
    let bad := nmCheck x.pat (p * n) x.elems g
    (packElems (elemBits fmt) (nmExpand x.pat n g bad), bad)
  | 2 =>
    let es := bitmapDecode fmt n d
    let bad := bitmapCheck fmt n (p * n) x.elems es
    (packElems (elemBits fmt) ((List.range n).map (fun i =>
      match es.find? (fun e => e.1 == i && !bad.any (fun b => b.1 == i)) with
      | some e => e.2.1
      | none => 0)), bad)
  | _ => (List.replicate 4096 0, [])

/-- Data bytes of a page of a tag, as far as they are known before the page is read. -/
def pageBytes (x : SparseDecl) (tag : Nat) : Nat :=
  let n := 4096 * 8 / elemBits x.fmt.toNat
  match tag with
  | 1 => n * patN x.pat / patM x.pat * elemBits x.fmt.toNat / 8
      + (n * patN x.pat / patM x.pat * patB x.pat + 7) / 8
  | 3 => 0
  | _ => 4096

/-- Reading one tagged page: the side-table entry, then the data bytes; counts of R239. -/
def State.readPage (s : State) (w : Who) (x : SparseDecl) (rec_ p : Nat) :
    State × Except (W64 × Acc) (Nat × Bytes) :=
  let ta := x.table + BitVec.ofNat 64 (p / 4)
  match s.readFA w ta 1 with
  | (s, .ok [b]) =>
    let tag := bits b.toNat (2 * (p % 4)) 2
    let s := s.count .sparse rec_ (match tag with | 0 => 0x00 | 1 => 0x04 | 2 => 0x08 | _ => 0x0C) 1
    if tag = 3 then (s, .ok (3, []))
    else
      let a := x.base + BitVec.ofNat 64 (p * 4096)
      match s.readFA w a (pageBytes x tag) with
      | (s, .ok d) => (s, .ok (tag, d))
      | (s, r) => (s, .error (a, r))
  | (s, r) => (s, .error (ta, r))

/-- The sparse declaration is one that R225 and R236 admit. -/
def sparseOk (x : SparseDecl) : Bool :=
  let fmt := x.fmt.toNat
  let w := elemBits fmt
  fmtOk fmt && x.base.toNat % 4096 == 0
    && (x.arr == 0 || x.arr == 3 || (w ≤ 16 && x.c % 64 == 0))
    && (fmt != 12 || (x.arr != 2 && (x.arr != 1 || patAdmits x.pat (x.planes.toNat + 1))))
    && (x.arr != 1 || (1 ≤ x.pat && x.pat ≤ 5))

end Sys2Proof.Machine
end

