-- ==== Sys2Proof/Machine/Tile.lean ====
section
/-! DEFINITION. What the units of a tile do: rounds of an array and their operand values, the bound of
certified skip, the output stage, the lane unit, the cache, credits and bank closing (R52–R60, R75–R107,
R196–R205, R232, R233). -/

namespace Sys2Proof.Machine

/-! ### Arrays and halves -/

/-- Array a of a tile. -/
def TileS.arr (t : TileS) (a : Fin 2) : Arr := if a = 0 then t.arr0 else t.arr1

/-- Array a of a tile becomes f of itself. -/
def TileS.modArr (t : TileS) (a : Fin 2) (f : Arr → Arr) : TileS :=
  if a = 0 then { t with arr0 := f t.arr0 } else { t with arr1 := f t.arr1 }

/-- Half A or B of an array. -/
def Arr.half (x : Arr) (b : Bool) : Half := if b then x.b else x.a

/-- A half becomes f of itself. -/
def Arr.modHalf (x : Arr) (b : Bool) (f : Half → Half) : Arr :=
  if b then { x with b := f x.b } else { x with a := f x.a }

/-- The FILLING half, the older fill first (R78). -/
def Arr.fillings (x : Arr) : List Bool :=
  [x.fillB, !x.fillB].filter (fun b => (x.half b).st == .filling)

/-- The half in a state, A first. -/
def Arr.inState (x : Arr) (st : HalfSt) : Option Bool :=
  if x.a.st = st then some false else if x.b.st = st then some true else none

/-- The array pair's parameters (R55, R63). -/
def arrayCfg (g : UnitCfg) : Option ArrayCfg :=
  match g.op with
  | .array x => some x
  | _ => none

/-- Slice modes (R55): outputs per round. -/
def modeOuts (w : Nat) : Nat :=
  match w with
  | 7 | 10 => 128
  | 12 => 512
  | _ => 64

/-- What a pass over a strata layer does with each weight (R52, R53, R196–R199): the planes fetched
apart from the sign plane's place, and whether the fill applies. -/
inductive PassKind where
  /-- planes 0 to n − 1 with the fill of n planes -/
  | single (n : Nat)
  /-- planes 0 to j − 1, no fill -/
  | first (j : Nat)
  /-- plane 0 and planes j to 7, no fill -/
  | rest (j : Nat)
  deriving DecidableEq, Repr

/-- The layer runs the two-pass schedule under the context's posture (R195). -/
def twoPass (posture : Byte) (g : LayerDecl) : Bool :=
  posture != 0 && g.mode != .none

/-- The pass of a load of a strata layer. -/
def layerPass (posture : Byte) (g : LayerDecl) (settle : Bool) : PassKind :=
  if twoPass posture g then
    if settle then (if g.r = 8 then .rest g.j else .single g.r) else .first g.j
  else .single g.r

/-- The pass of a load. -/
def passKind (posture : Byte) (x : ArrayCfg) (layer : Option LayerDecl) (settle : Bool) : PassKind :=
  match layer with
  | none => .single (x.wPlanes.toNat + 1)
  | some g => layerPass posture g settle

/-- Plane records of a load of a pass. -/
def passPlanes : PassKind → Nat
  | .single n => n
  | .first j => j
  | .rest j => 9 - j

/-- Weight bytes and scale bytes of a load (R81, R232). -/
def loadBytes (x : ArrayCfg) (pass : PassKind) (pat : Nat) : Nat × Nat :=
  let w := x.wFmt.toNat
  let dense := match w with
    | 1 | 2 => 8192
    | 12 => 4096 * passPlanes pass
    | _ => 4096
  let slots := match w with | 12 => 32768 | 7 | 10 => 8192 | _ => 4096
  let idx := if pat = 0 then 0 else slots * patB pat / 8
  let span := if pat = 0 then 1 else patM pat / patN pat
  let scale := match w with
    | 5 | 6 | 9 => 128 * span
    | 7 => 256 * span
    | 12 => 1024 * span
    | _ => 0
  (dense + idx, scale)

/-- Load cycles: the weight path takes 512 bytes a cycle, the scale path 64 (R81). -/
def loadCycles (b : Nat × Nat) : Nat := max ((b.1 + 511) / 512) ((b.2 + 63) / 64)

/-- Round length in array cycles (R55, R59). -/
def roundCycles (x : ArrayCfg) (pass : PassKind) : Nat :=
  let n := match x.wFmt.toNat with
    | 1 | 2 => 4
    | 12 => passPlanes pass
    | _ => 1
  if x.aFmt.toNat = 11 then 2 * n else n

/-- Strata magnitude of weight bits under a pass. `bit p` is plane p of the weight. -/
def passMag (pass : PassKind) (bit : Nat → Bool) : Nat :=
  let m := fun (lo hi : Nat) => ((List.range' lo (hi - lo)).map (fun p => b2n (bit p) * 2 ^ (7 - p))).sum
  match pass with
  | .first j => m 1 j
  | .rest j => m (max j 1) 8
  | .single n =>
    if n = 1 then 64
    else
      let t := m 1 n
      if 8 ≤ n then t else if t = 0 then 0 else t + 2 ^ (7 - n)

/-- The stored planes of a load in order: plane numbers. -/
def passPlaneList : PassKind → List Nat
  | .single n => List.range n
  | .first j => List.range j
  | .rest j => 0 :: List.range' j (8 - j)

/-- Plane p's place among the stored planes. -/
def planePlace (pass : PassKind) (p : Nat) : Option Nat := (passPlaneList pass).idxOf? p

/-- Bit n of a byte string. -/
def bitOf (d : Bytes) (n : Nat) : Bool := ((d.getD (n / 8) 0).toNat).testBit (n % 8)

/-- The signed integer or exact value of slot i of output column m in the active weights. Dense
weights lie column by column, 64 slots each; in dual four-slice mode the high nibbles belong to the
columns from 64 on; strata planes lie one after the other, 8 bytes a column. (DEDUCED, log 28) -/
def weightVal (x : ArrayCfg) (pass : PassKind) (d : Bytes) (m i : Nat) : FVal :=
  match x.wFmt.toNat with
  | 1 => elemVal 1 (leNat ((d.drop ((m * 64 + i) * 2)).take 2))
  | 2 => elemVal 2 (leNat ((d.drop ((m * 64 + i) * 2)).take 2))
  | 7 => elemVal 7 ((d.getD (m % 64 * 64 + i) 0).toNat / 16 ^ (m / 64) % 16)
  | 10 => elemVal 10 ((d.getD (m % 64 * 64 + i) 0).toNat / 16 ^ (m / 64) % 16)
  | 12 =>
    let bit := fun p => match planePlace pass p with
      | some q => bitOf d (q * 32768 + m * 64 + i)
      | none => false
    .fin (bit 0) (passMag pass bit) (-7)
  | f => elemVal f (d.getD (m * 64 + i) 0).toNat

/-- Does the pairing accumulate blocks as exact integers (R60)? -/
def intPair (w : Nat) : Bool := w == 8 || w == 9 || w == 10 || w == 12

/-- The raw element i of a staging entry. -/
def stagedRaw (aFmt : Nat) (e : StageEntry) (i : Nat) : Nat :=
  if elemBits aFmt = 16 then leNat ((e.data.drop (2 * i)).take 2) else (e.data.getD i 0).toNat

/-- Sum of exact products. -/
def exactSum : List FVal → FVal
  | [] => .fin false 0 0
  | v :: vs => vadd v (exactSum vs)

/-- The first n elements of a list in an order that choices fix. (DEDUCED, log 23) -/
def pickOrder {α : Type} (f : Nat → Nat) : Nat → List α → List α
  | 0, _ => []
  | n + 1, l =>
    match l[f n % l.length]? with
    | some x => x :: pickOrder f n (l.eraseIdx (f n % l.length))
    | none => []

/-- A block result in FP32 with its counts: exact sums round once, floating sums at every addition, in an order that
the manual does not give. -/
def blockResult (f : Nat → Nat) (int : Bool) (ps : List FVal) : W32 × ConvCount :=
  if int then (toF32 (exactSum ps), {})
  else (pickOrder f ps.length ps).foldl sumNote (0, {})

/-- A block's scale factor; formats without scales read 0x7F. -/
def blockScale (xw xa : Nat) : FVal := vmul (scaleVal xw) (scaleVal xa)

/-- Scale byte of block b of output column m; dense spans hold two blocks a column. -/
def scaleByte (x : ArrayCfg) (scales : Bytes) (blocks m b : Nat) : Nat :=
  match x.wFmt.toNat with
  | 5 | 6 | 7 | 9 | 12 => (scales.getD (m * blocks + b) 0x7F).toNat
  | _ => 0x7F

/-- The activation scale byte of block b of an entry. -/
def actScale (aFmt : Nat) (e : StageEntry) (b : Nat) : Nat :=
  match aFmt with
  | 5 | 6 | 9 => (if b = 0 then e.scales.1 else e.scales.2).toNat
  | _ => 0x7F

/-- The product that slot i of column m adds, with its count and the dense block it belongs to. For N:M weights slot i
selects its activation by its index; `e n` is the n-th staging entry of the span. -/
def slotProduct (x : ArrayCfg) (pass : PassKind) (pat : Nat) (d : Bytes) (e : Nat → StageEntry)
    (m i : Nat) : Nat × FVal × ConvCount :=
  let w := weightVal x pass d m i
  let pos :=
    if pat = 0 then i
    else
      let base := (loadBytes x pass 0).1 * 8
      let idx := (List.range (patB pat)).map (fun k =>
        b2n (bitOf d (base + (m * 64 + i) * patB pat + k)) * 2 ^ k)
      i / patN pat * patM pat + idx.sum
  (pos / 32, mulNote w (elemVal x.aFmt.toNat (stagedRaw x.aFmt.toNat (e (pos / 64)) (pos % 64))))

/-- The dense 32-element blocks of a span. -/
def spanBlocks (pat : Nat) : Nat := if pat = 0 then 2 else 2 * patM pat / patN pat

/-- A block's products are scaled and added to an accumulator, with the counts of the block: a weight block whose
scale byte is 0xFF counts where a column reads it, an activation block for column 0. (DEDUCED, log 132) -/
def addBlock (x : ArrayCfg) (choice : Nat → Nat) (m b xw xa : Nat) (ps : List (FVal × ConvCount))
    (acc : W32 × ConvCount) : W32 × ConvCount :=
  let r := blockResult (fun i => choice (m * 2048 + 64 * (b + 1) + i)) (intPair x.wFmt.toNat) (ps.map (·.1))
  let p := mulNote (ofF32 r.1) (blockScale xw xa)
  let q := addNote acc (toF32 p.1)
  (q.1, sumCounts (q.2 :: r.2 :: p.2 :: { nanScale := b2n (xw == 0xFF) + b2n (xa == 0xFF && m == 0) } ::
    ps.map (·.2)))

/-- One output's accumulator after a round, with its counts; block results are added in an order that is not fixed. -/
def accumulate (x : ArrayCfg) (pass : PassKind) (pat : Nat) (d scales : Bytes) (e : Nat → StageEntry)
    (choice : Nat → Nat) (m : Nat) (acc : W32) : W32 × ConvCount :=
  let ps := (List.range 64).map (slotProduct x pass pat d e m)
  let nb := spanBlocks pat
  (pickOrder (fun i => choice (m * 2048 + i)) nb (List.range nb)).foldl (fun acc b =>
    addBlock x choice m b (scaleByte x scales nb m b) (actScale x.aFmt.toNat (e (b / 2)) (b % 2))
      ((ps.filter (fun p => p.1 == b)).map (·.2)) acc) (acc, {})

/-- The accumulator entries of the columns of a round, from entry `out` on: column m has the output that its load
names, and a masked column has none (R200, R211). -/
def colEntries (cols : List Nat) (n out : Nat) : List (Nat × Nat) :=
  if cols = [] then (List.range n).map (fun m => (m, out + m))
  else ((cols.zipIdx).filter (fun q => decide (q.1 < 65536))).map (fun q => (q.2, out + q.1))

/-- The accumulators of a round's columns; the counts of the whole round. -/
def roundAccs (es : List (Nat × Nat)) (old : Nat → W32) (f : Nat → W32 → W32 × ConvCount) (acc : Tbl W32) :
    Tbl W32 × ConvCount :=
  es.foldl (fun (q : Tbl W32 × ConvCount) e =>
    let r := f e.1 (old e.2)
    (tset 0 q.1 e.2 r.1, q.2.plus r.2)) (acc, {})

/-- The accumulator file has room for a round's entries beside those that hold a sum (R82). An entry that holds zero
counts as free. (DEDUCED, log 134) -/
def Arr.room (x : Arr) (es : List (Nat × Nat)) : Bool :=
  decide ((x.acc.filter (fun p => !es.any (fun e => e.2 == p.1))).length + es.length ≤ 16384)

/-! ### Fills (R78, R190–R192, R200) -/

/-- The planes that a fill of a layer takes, in the order of its load. -/
def fillPlanes (posture : Byte) (g : LayerDecl) (pass : FillPass) : List Nat :=
  passPlaneList (layerPass posture g (pass != .first))

/-- The outputs of a strata load's columns: 512 outputs in order, or of the settle list or the hints in ascending
order (R199, R200, R210). -/
def fillCols (g : LayerDecl) (x : UnitS) (pass : FillPass) (first : Nat) : List Nat :=
  match pass with
  | .first => List.range' first (min 512 (g.outputs - first))
  | .settle => ((ascending (x.settleList.map (·.toNat))).drop first).take 512
  | .prefetch => ((ascending (x.hinted.map (·.toNat))).drop first).take 512

/-- Staging entries that a load of a pattern spans (R232). -/
def patSpan (pat : Nat) : Nat := if pat = 0 then 1 else patM pat / patN pat

/-- Of a strata line of a pattern: index bits of a slot, slots, bytes of the index record and of a plane record, and the
64-slot segments (R236). -/
def idxBits (pat : Nat) : Nat := if pat = 0 then 0 else patB pat
def lineSlots (pat : Nat) : Nat := 1024 / patSpan pat
def idxRecord (pat : Nat) : Nat := lineSlots pat * idxBits pat / 8
def planeRecord (pat : Nat) : Nat := lineSlots pat / 8
def lineSegs (pat : Nat) : Nat := 16 / patSpan pat

/-- The line of an output in the row of lines of segment sg. -/
def Half.line (h : Half) (o sg : Nat) : Nat := o * h.rowLines + sg / lineSegs h.pat

/-- A fill takes the lines of its kind: those that are tagged NM, or those that are tagged DENSE; an untagged tensor's
lines are dense. (DEDUCED, log 150) -/
def Half.takes (h : Half) (line : Nat) : Bool :=
  h.lineTags == [] || tget 3 h.lineTags line == (if h.pat = 0 then 0 else 1)

/-- The columns of the load of segment sg; an output whose line the fill does not take is masked. -/
def Half.colsAt (h : Half) (sg : Nat) : List Nat :=
  if h.lineTags = [] then h.cols
  else h.cols.map (fun o => if o < 65536 && h.takes (h.line o sg) then o else 65536)

/-- Bytes that a load of a strata fill takes in its half: planes, index bits, scales. -/
def Half.stride (h : Half) : Nat := h.planes.length * 4096 + 4096 * idxBits h.pat + 1024 * patSpan h.pat

/-- The bytes of a half that its fill reaches. -/
def Half.extent (h : Half) : Nat :=
  match h.src with
  | some (.strata _ _ loads _ _) => loads * h.stride
  | _ => h.size

/-- The pieces of a strata fill: offset from the tensor's address, length, and place in the half (R190–R192, R236). -/
def Half.pieces (h : Half) : List (Nat × Nat × Nat) :=
  match h.src with
  | some (.strata _ seg loads _ _) =>
    (List.range loads).flatMap (fun i =>
      let sg := seg + i
      let z := sg % lineSegs h.pat
      let w := 2 * patSpan h.pat
      let b := 8 * idxBits h.pat
      let at_ := i * h.stride
      ((h.cols.zipIdx).filter (fun q => h.takes (h.line q.1 sg))).flatMap (fun q =>
        let a := h.line q.1 sg * (32 + 128 * h.stored)
        (a + w * z, w, at_ + h.planes.length * 4096 + 64 * 8 * b + w * q.2) ::
          (if h.pat = 0 then [] else [(a + 32 + b * z, b, at_ + h.planes.length * 4096 + b * q.2)])
            ++ (h.planes.zipIdx).map (fun p =>
              (a + 32 + idxRecord h.pat + planeRecord h.pat * p.1 + 8 * z, 8, at_ + p.2 * 4096 + 8 * q.2))))
  | _ => []

/-- The declared bytes of a strata fill: those of its pieces (R192). -/
def Half.pieceBytes (h : Half) : Nat := (h.pieces.map (fun q => q.2.1)).sum

/-- The lines of a strata fill, by line index (R191). -/
def Half.lines (h : Half) : List Nat :=
  match h.src with
  | some (.strata _ seg loads _ _) =>
    let rows := ascending ((List.range loads).map (fun i => (seg + i) / lineSegs h.pat))
    (h.cols.filter (fun o => decide (o < 65536))).flatMap (fun o => rows.map (fun r => o * h.rowLines + r))
  | _ => []

/-- The pages of a fill with data, as offset from its first page's slot, length and place in the half: place, tag and
length of each page follow those before it. -/
def Half.pageReads (h : Half) : List (Nat × Nat × Nat) :=
  ((h.tags.zipIdx).foldl (fun (r : List (Nat × Nat × Nat) × Nat) q =>
    if q.1 % 4 = 3 then r else (r.1 ++ [(q.2 * 4096, q.1 / 4, r.2)], r.2 + q.1 / 4)) ([], 0)).1

/-- Bytes of a fill's pages; the rest of the half is scale bytes. -/
def Half.pagesBytes (h : Half) : Nat := (h.tags.map (· / 4)).sum
def Half.scaleBytes (h : Half) : Nat := h.size - h.pagesBytes

/-- Bytes enter a half at an offset; a half that has all its declared bytes is READY (R78). -/
def Half.put (h : Half) (off : Nat) (d : Bytes) : Half :=
  { h with
    data := putBytes h.data off d
    arrived := h.arrived + d.length
    st := if h.size ≤ h.arrived + d.length then .ready else .filling }

/-- What a FILLING half takes of data that was read at an address: the bytes of its range, or the pieces of its
records, at their offsets (R78, R192). (DEDUCED, log 41) -/
def Half.land (h : Half) (resident : Bool) (a : Nat) (d : Bytes) : Half :=
  match h.src, resident with
  | some (.stack base), false =>
    if base.toNat ≤ a ∧ a + d.length ≤ base.toNat + h.size then h.put (a - base.toNat) d else h
  | some (.resident off), true =>
    if off ≤ a ∧ a + d.length ≤ off + h.size then h.put (a - off) d else h
  | some (.pages _ _ sc), r =>
    let h := (h.pageReads.filter (fun q =>
        h.inSpad == r && decide (h.base + q.1 ≤ a) && decide (a + d.length ≤ h.base + q.1 + q.2.1))).foldl
      (fun (h : Half) q => h.put (q.2.2 + (a - h.base - q.1)) d) h
    match sc with
    | some b => if !r && decide (b.toNat ≤ a) && decide (a + d.length ≤ b.toNat + h.scaleBytes) then
        h.put (h.pagesBytes + (a - b.toNat)) d else h
    | none => h
  | some (.strata base _ _ _ _), false =>
    (h.pieces.filter (fun q => decide (a ≤ base.toNat + q.1) && decide (base.toNat + q.1 + q.2.1 ≤ a + d.length))).foldl
      (fun (h : Half) q => h.put q.2.2 ((d.drop (base.toNat + q.1 - a)).take q.2.1)) h
  | _, _ => h

/-- Data lands in every FILLING half of an array that its fill places it in. -/
def Arr.land (x : Arr) (resident : Bool) (a : Nat) (d : Bytes) : Arr :=
  x.fillings.foldl (fun (y : Arr) b => y.modHalf b (fun h => h.land resident a d)) x

/-! ### Loads of tagged pages (R81, R226, R232, R234) -/

/-- Pages that a load takes: its slots, over those of a page. -/
def loadPages (x : ArrayCfg) (pat : Nat) : Nat :=
  (loadBytes x (.single 1) 0).1 / (4096 / patSpan pat)

/-- The page whose data begins at an offset of the half: its place among the fill's pages and its tag. -/
def Half.pageAt (h : Half) (off : Nat) : Option (Nat × Nat) :=
  (((h.tags.zipIdx).foldl (fun (r : Option (Nat × Nat) × Nat) q =>
    (if r.1.isNone && r.2 == off && q.1 % 4 != 3 then some (q.2, q.1 % 4) else r.1, r.2 + q.1 / 4)) (none, 0))).1

/-- Page i of the fill: its tag and its data bytes. -/
def Half.page (h : Half) (i : Nat) : Nat × Bytes :=
  (h.tags.getD i 3 % 4, bytesAt h.data ((h.tags.take i).map (· / 4)).sum (h.tags.getD i 3 / 4))

/-- The first page of the group that a load takes of the pages at an offset: N:M pages come in groups of as many as a
load takes, and so do DENSE ones. -/
def groupOf (x : ArrayCfg) (pat i : Nat) : Nat := i / loadPages x pat * loadPages x pat

/-- The weights of a load from page i on: value bytes, then index bytes; pages of another tag are zeros. -/
def Half.loadOf (h : Half) (x : ArrayCfg) (tag i : Nat) : Bytes :=
  let pat := if tag = 1 then h.pat else 0
  let first := groupOf x pat i
  let n := loadPages x pat
  let vals := 4096 / patSpan pat
  let idx := vals * 8 / elemBits x.wFmt.toNat * idxBits pat / 8
  let ps := (List.range n).map (fun j =>
    let p := h.page (first + j)
    if p.1 = tag then p.2 else List.replicate (vals + idx) 0)
  ps.flatMap (fun p => p.take vals) ++ ps.flatMap (fun p => (p.drop vals).take idx)

/-- The load from page i on is the last of its half. -/
def Half.lastLoad (h : Half) (x : ArrayCfg) (tag i : Nat) : Bool :=
  let pat := if tag = 1 then h.pat else 0
  ((h.tags.drop (groupOf x pat i + loadPages x pat)).map (· / 4)).sum == 0

/-- Loads of a fill that ZERO pages cover: they issue no rounds (R234). -/
def Half.zeroLoads (h : Half) (x : ArrayCfg) : Nat :=
  match h.src with
  | some (.pages _ _ _) =>
    ((chunk (loadPages x h.pat) h.tags).filter (fun g => g.all (fun t => t % 4 == 3))).length
  | some (.strata _ seg loads _ _) =>
    if h.lineTags = [] then 0
    else ((List.range loads).filter (fun i =>
      (h.cols.filter (fun o => decide (o < 65536))).all (fun o => tget 3 h.lineTags (h.line o (seg + i)) == 3))).length
  | _ => 0

/-- A range before others; it joins the first where that follows it. -/
def joinRun (a : Nat × Nat) : List (Nat × Nat) → List (Nat × Nat)
  | [] => [a]
  | b :: l => if a.1 + a.2 = b.1 then (a.1, a.2 + b.2) :: l else a :: b :: l

/-- Ranges that follow one another become one. -/
def joinRuns (l : List (Nat × Nat)) : List (Nat × Nat) := l.foldr joinRun []

/-- A range cut at 4 KiB boundaries into at most k parts (R280). -/
def cutRange : Nat → Nat → Nat → List (Nat × Nat)
  | 0, _, _ => []
  | k + 1, a, n =>
    if n = 0 then []
    else
      let m := min n (4096 - a % 4096)
      (a, m) :: cutRange k (a + m) (n - m)

/-- The reads of a fill: whole fetch units of each line that it takes pieces of, or the bytes of its range (R192). -/
def Half.reads (h : Half) : List (Nat × Nat) :=
  match h.src with
  | some (.stack base) => cutRange 17 base.toNat h.size
  | some (.pages _ _ sc) =>
    (if h.inSpad then [] else h.pageReads.flatMap (fun q => cutRange 3 (h.base + q.1) q.2.1))
      ++ (match sc with | some b => cutRange 17 b.toNat h.scaleBytes | none => [])
  | some (.strata base _ _ _ _) =>
    let len := 32 + 128 * h.stored
    let head := 32 + idxRecord h.pat
    let n := planeRecord h.pat
    ((h.lines.filter h.takes).map (fun l => base.toNat + l * len)).flatMap (fun a =>
      (joinRuns ((a, head) :: h.planes.map (fun p => (a + head + n * p, n)))).flatMap (fun q => cutRange 3 q.1 q.2))
  | _ => []

/-! ### The bound (R201–R203) -/

/-- L1 norm of a block of integer activations. -/
def blockL1 (aFmt : Nat) (e : StageEntry) (b : Nat) : W32 :=
  BitVec.ofNat 32 ((List.range 32).map (fun i =>
    (sext (elemBits aFmt) (stagedRaw aFmt e (b * 32 + i))).natAbs)).sum

/-- E after a round: every block adds f × 2^7 × L1, rounding toward +infinity. f carries 2^−7 for the
strata weight and 2^−6 for MXINT8 activations. -/
def envelope (x : ArrayCfg) (pat : Nat) (scales : Bytes) (e : Nat → StageEntry) (m : Nat) (env : W32) :
    W32 :=
  let nb := spanBlocks pat
  let k : Int := if x.aFmt.toNat = 9 then -6 else 0
  (List.range nb).foldl (fun env b =>
    let l1 := (if b % 2 = 0 then (e (b / 2)).l1a else (e (b / 2)).l1b).toNat
    let f := blockScale (scaleByte x scales nb m b) (actScale x.aFmt.toNat (e (b / 2)) (b % 2))
    toF32Dir true (vadd (ofF32 env) (toF32Dir true (vmul f (.fin false l1 k)) |> ofF32))) env

/-- The activation scale of a strata layer; MXINT8 activations use 1.0 (R193). -/
def layerScale (x : ArrayCfg) (g : LayerDecl) : W32 := if x.aFmt = 9 then 0x3F800000 else g.sA

/-- h of R202, every operation rounding toward +infinity. -/
def boundH (x : ArrayCfg) (g : LayerDecl) (bias env : W32) (nb : Nat) : W32 :=
  let up := toF32Dir true
  let sa := vabs (ofF32 (layerScale x g))
  let b := vmul (ofF32 env) (.fin false 1 (-((g.j : Int) - 1)))
  let t := up (vadd (ofF32 (up (vmul sa (ofF32 env)))) (vabs (ofF32 bias)))
  up (vadd (ofF32 (up (vmul sa (ofF32 (up b))))) (ofF32 (up (vmul (.fin false (nb + 2) (-21)) (ofF32 t)))))

/-- Upper and lower ends of the interval. -/
def boundUp (y h : W32) : W32 := toF32Dir true (vadd (ofF32 y) (ofF32 h))
def boundLo (y h : W32) : W32 := toF32Dir false (vadd (ofF32 y) (vneg (ofF32 h)))

/-- Dead zone (R193). -/
def deadzone (tau y : W32) : W32 := if fnan y then 0x7FC00000 else if fle tau y then y else 0

/-! ### The output stage (R60, R82, R193) -/

/-- The value of an output from its accumulator: channel scale, activation scale, then bias. -/
def outValue (x : ArrayCfg) (layer : Option LayerDecl) (bias : W32) (o : Nat) (z : W32) : W32 :=
  let z := if x.wFmt.toNat = 8 ∨ x.wFmt.toNat = 10 then fmul z (x.chanScale.getD o 0x3F800000) else z
  match layer with
  | some g => fadd (fmul z (layerScale x g)) (if g.bias.isSome then bias else 0x80000000)
  | none => if x.aFmt.toNat = 8 ∨ x.aFmt.toNat = 11 then fmul z x.aScale else z

/-- FP32 words into elements of a format: bytes, generator, counts. MX blocks of 32 give their elements
first and their scale bytes after them. -/
def stageBytes (fmt conv : Nat) (g : W32) (ws : List W32) : Bytes × W32 × ConvCount :=
  match fmt with
  | 5 | 6 | 7 | 9 =>
    let r := (chunk 32 ws).foldl (fun (q : List Nat × List Nat × W32 × ConvCount) blk =>
      let (x, es, g, k) := mxBlock fmt conv q.2.2.1 (blk.map ofF32)
      (q.1 ++ es, q.2.1 ++ [x], g, q.2.2.2.plus k)) ([], [], g, {})
    (packElems (elemBits fmt) r.1 ++ r.2.1.map (BitVec.ofNat 8), r.2.2.1, r.2.2.2)
  | 12 =>
    let r := (chunk 32 ws).foldl (fun (q : List Nat × List Nat × W32 × ConvCount) blk =>
      let (x, es, g, k) := strataBlock conv q.2.2.1 (blk.map ofF32)
      (q.1 ++ es, q.2.1 ++ [x], g, q.2.2.2.plus k)) ([], [], g, {})
    (packElems 8 r.1 ++ r.2.1.map (BitVec.ofNat 8), r.2.2.1, r.2.2.2)
  | _ =>
    let (es, g, k) := convList fmt conv g (ws.map ofF32)
    (packElems (elemBits fmt) es, g, k)

/-! ### The lane unit (R85, R86) -/

/-- Lane i of register r. -/
def TileS.lane (t : TileS) (r i : Nat) : W32 := tget 0 t.lanes (r * 64 + i)

/-- A register is written from a function of the lane. -/
def TileS.setReg (t : TileS) (r : Nat) (f : Nat → W32) : TileS :=
  { t with lanes := (List.range 64).foldl (fun l i => tset 0 l (r * 64 + i) (f i)) t.lanes }

/-- Smaller and larger of two; a NaN operand gives the canonical NaN. (DEDUCED, log 27) -/
def fmin (a b : W32) : W32 := if fnan a || fnan b then 0x7FC00000 else if flt b a then b else a
def fmax (a b : W32) : W32 := if fnan a || fnan b then 0x7FC00000 else if flt a b then b else a

/-- Pairs of a list combined. -/
def pairUp {α : Type} (f : α → α → α) : List α → List α
  | a :: b :: l => f a b :: pairUp f l
  | l => l

/-- A list combined two elements at a time, whichever the choices name, n times: the manual gives the
reductions of the lane unit no order. -/
def reduceAny {α : Type} (c : Nat → Nat) (f : α → α → α) (zero : α) : Nat → List α → α
  | 0, l => l.headD zero
  | n + 1, l =>
    match pickOrder (fun i => c (2 * n + i)) 2 l with
    | [x, y] =>
      let i := c (2 * n + 1) % l.length
      let rest := l.eraseIdx i
      reduceAny c f zero n (f x y :: rest.eraseIdx (c (2 * n) % rest.length))
    | _ => l.headD zero

/-- A reduction over 64 partial sums in six rounds of pairs (R131). -/
def reduce64 {α : Type} (f : α → α → α) (zero : α) (l : List α) : α :=
  (pairUp f (pairUp f (pairUp f (pairUp f (pairUp f (pairUp f l)))))).headD zero

/-- A shift of an INT32 lane; a count of 32 or more leaves a free value. (DEDUCED, log 26) -/
def laneShift (left : Bool) (free : W32) (v n : W32) : W32 :=
  if 32 ≤ n.toNat then free
  else if left then v <<< n.toNat else v.sshiftRight n.toNat

/-- Two sums with their counts are added (R73). -/
def addSums (a b : W32 × ConvCount) : W32 × ConvCount :=
  let r := addNote (a.1, {}) b.1
  (r.1, (a.2.plus b.2).plus r.2)

/-- What lane i of an operation counts (R73): a NaN made from operands that are none, and an overflow of a sum. A
reduction counts once. -/
def laneNote (t : TileS) (op : LaneOp) (k : Nat) (a b c i : Nat) (r : W32) : ConvCount :=
  let x := t.lane a i
  let y := t.lane b i
  match op with
  | .fma => arithNote true [x, y, t.lane c i] r
  | .add | .sub => arithNote true [x, y] r
  | .mul => arithNote false [x, y] r
  | .reduceSum => if i = 0 then
      (reduceAny (Config.order k) addSums (0, {}) 63 ((List.range 64).map (fun n => (t.lane a n, ({} : ConvCount))))).2
    else {}
  | _ => {}

/-- A lane operation without a memory access or a conversion. NEG and ABS act on the sign bit of any value, and a
reduction gives its result to all 64 lanes. (DESIGN CHOICE, log 133) -/
def laneResult (t : TileS) (op : LaneOp) (k : Nat) (a b c i : Nat) : W32 :=
  let free := Config.laneFree k i
  let x := t.lane a i
  let y := t.lane b i
  match op with
  | .fma => ffma x y (t.lane c i)
  | .add => fadd x y
  | .sub => fsub x y
  | .mul => fmul x y
  | .min => fmin x y
  | .max => fmax x y
  | .abs => x &&& 0x7FFFFFFF
  | .neg => x ^^^ 0x80000000
  | .select => if t.mask.toNat.testBit i then x else y
  | .reduceSum => reduceAny (Config.order k) fadd 0 63 ((List.range 64).map (t.lane a))
  | .reduceMax => reduceAny (Config.order k) fmax 0 63 ((List.range 64).map (t.lane a))
  | .iadd => x + y
  | .ishl => laneShift true free x y
  | .ishr => laneShift false free x y
  | .convFrom f => toF32 (elemVal f.toNat (x.toNat % 2 ^ elemBits f.toNat))
  | .cmpLt | .cmpEq | .icmpLt | .convTo _ _ | .load _ | .store _ | .stage _ _ => x

/-- The mask that a compare writes. -/
def laneMask (t : TileS) (p : W32 → W32 → Bool) (a b : Nat) : W64 :=
  BitVec.ofNat 64 (packBits 1 ((List.range 64).map (fun i => b2n (p (t.lane a i) (t.lane b i)))))

/-- The 256 bytes of a register. -/
def TileS.regBytes (t : TileS) (r : Nat) : Bytes :=
  (List.range 64).flatMap (fun i => toLe 4 (t.lane r i).toNat)

/-! ### The cache partition (R96–R99) -/

/-- The set of an address in a cache of s steps. -/
def cacheSet (steps : Nat) (a : W64) : Nat := a.toNat / 128 % (512 * steps)

/-- The way of a set that holds a line. -/
def TileS.cacheWay (t : TileS) (a : W64) : Option Nat :=
  (List.range 4).find? (fun w =>
    let l := tget {} t.cache (cacheSet t.cacheSteps a * 4 + w)
    l.valid && l.tag == a.toNat / 128)

/-- The way that pseudo-LRU replaces: an invalid way first, else the tree's choice. Bit 0 points to the
pair, bits 1 and 2 to the way of each pair. (DEDUCED, log 30) -/
def TileS.cacheVictim (t : TileS) (a : W64) : Nat :=
  let set := cacheSet t.cacheSteps a
  match (List.range 4).find? (fun w => !(tget {} t.cache (set * 4 + w)).valid) with
  | some w => w
  | none =>
    let b := (tget 0 t.plru set).toNat
    if b % 2 = 0 then b / 2 % 2 else 2 + b / 4 % 2

/-- The tree after a use of a way: it points away from it. -/
def plruTouch (b : BitVec 3) (w : Nat) : BitVec 3 :=
  let n := b.toNat
  if w < 2 then BitVec.ofNat 3 (1 + (1 - w % 2) * 2 + n / 4 * 4)
  else BitVec.ofNat 3 (n / 2 % 2 * 2 + (1 - w % 2) * 4)

/-- A line of the cache is replaced by a value. -/
def TileS.putLine (t : TileS) (set w : Nat) (l : CLine) : TileS :=
  { t with
    cache := tset {} t.cache (set * 4 + w) l
    plru := tset 0 t.plru set (plruTouch (tget 0 t.plru set) w) }

/-- A dirty line goes back to its stack. -/
def State.writeBack (s : State) (who : Who) (rec_ : Nat) (l : CLine) : State × Acc :=
  if l.valid && l.dirty then
    (s.count .tile rec_ 0x30 1).writeFA who (BitVec.ofNat 64 (l.tag * 128)) l.data
  else (s, .ok [])

/-- A victim makes room for a line of an address; its place is named. -/
def State.cacheMiss (s : State) (who : Who) (rec_ k : Nat) (a : W64) (whole : Bool) :
    State × Except Acc (Nat × Bytes) :=
  let s := s.count .tile rec_ 0x2C 1
  let t := s.tile k
  let w := t.cacheVictim a
  let old := tget {} t.cache (cacheSet t.cacheSteps a * 4 + w)
  match s.writeBack who rec_ old with
  | (s, .ok _) =>
    if whole then (s, .ok (w, List.replicate 128 0))
    else match s.readFA who (a &&& ~~~(127 : W64)) 128 with
      | (s, .ok d) => (s, .ok (w, d))
      | (s, r) => (s, .error r)
  | (s, r) => (s, .error r)

/-- A cacheable access to bytes of one line: `put` none reads. -/
def State.cacheAccess (s : State) (who : Who) (rec_ k : Nat) (a : W64) (put : Option Bytes) (len : Nat) :
    State × Acc :=
  let t := s.tile k
  let o := a.toNat % 128
  let set := cacheSet t.cacheSteps a
  let finish (s : State) (w : Nat) (d : Bytes) (dirty : Bool) : State × Acc :=
    let d' := match put with
      | some b => d.take o ++ b ++ d.drop (o + b.length)
      | none => d
    (s.modTile k (fun t => t.putLine set w
      { tag := a.toNat / 128, valid := true, dirty := dirty || put.isSome, data := d' }),
      .ok ((d'.drop o).take len))
  match t.cacheWay a with
  | some w =>
    let l := tget {} t.cache (set * 4 + w)
    finish (s.count .tile rec_ 0x28 1) w l.data l.dirty
  | none =>
    match s.cacheMiss who rec_ k a (put.isSome && len == 128) with
    | (s, .ok (w, d)) => finish s w d false
    | (s, .error r) => (s, r)

/-- A cacheable access of a tile's unit through its cache, line by line; without a partition, and outside the stacks of
this panel, it goes to the memory itself (R97). -/
def State.cached (s : State) (who : Who) (rec_ k : Nat) (a : W64) (put : Option Bytes) (len : Nat) :
    Nat → State × Acc
  | 0 => (s, .ok [])
  | n + 1 =>
    if len = 0 then (s, .ok [])
    else if (s.tile k).cacheSteps = 0 ∨ !(match s.decode a with | .here (.stack _ _) => true | _ => false) then
      match put with
      | some d => s.writeFA who a d
      | none => s.readFA who a len
    else
      let m := min len (128 - a.toNat % 128)
      match s.cacheAccess who rec_ k a (put.map (·.take m)) m with
      | (s, .ok d) =>
        match s.cached who rec_ k (a + BitVec.ofNat 64 m) (put.map (·.drop m)) (len - m) n with
        | (s, .ok e) => (s, .ok (d ++ e))
        | r => r
      | r => r

/-- Cache operations of R98. -/
inductive CacheOp where
  | clean | invalidate | cleanInvalidate
  deriving DecidableEq, Repr

/-- One line under a cache operation; false where its write-back is not acknowledged, and the line stays as it is. -/
def State.cacheLineOp (s : State) (who : Who) (rec_ k : Nat) (op : CacheOp) (p : Nat × CLine) : State × Bool :=
  let q := match op with
    | .invalidate => (s, Acc.ok [])
    | _ => s.writeBack who rec_ p.2
  match q.2 with
  | .ok _ =>
    (q.1.modTile k (fun t =>
      { t with cache := tset {} t.cache p.1 (match op with
          | .clean => { p.2 with dirty := false }
          | _ => {}) }), true)
  | r => (q.1.unitFail who (BitVec.ofNat 64 (p.2.tag * 128)) r 128, false)

/-- A cache operation over the lines that p selects; false where a write-back has not been acknowledged (R98). -/
def State.cacheRange (s : State) (who : Who) (rec_ k : Nat) (op : CacheOp) (p : Nat → Bool) : State × Bool :=
  ((s.tile k).cache.filter (fun q => q.2.valid && p q.2.tag)).foldl
    (fun (r : State × Bool) q =>
      let x := r.1.cacheLineOp who rec_ k op q
      (x.1, r.2 && x.2)) (s, true)

/-- The lines of [base, base + bytes); no bytes name the whole partition. -/
def lineRange (base : W64) (bytes : Nat) (tag : Nat) : Bool :=
  bytes == 0 || (decide (base.toNat / 128 ≤ tag) && decide (tag * 128 < base.toNat + bytes))

/-- Size of the cache in force (R99): the partition is written back and emptied, rows that leave it are
zeroed, rows that enter it lose their contents. -/
def State.resizeCache (s : State) (who : Who) (rec_ k steps : Nat) : State :=
  let old := (s.tile k).cacheSteps
  if old = steps then s
  else
    let s := (s.cacheRange who rec_ k .cleanInvalidate (fun _ => true)).1
    let lo := (1024 - 64 * max old steps) * 4096
    let s := s.modTile k (fun t =>
      { t with
        cacheSteps := steps, cache := [], plru := []
        bad := t.bad.filter (fun a => decide (a * 8 < lo)), weak := t.weak.filter (fun a => decide (a * 8 < lo))
        unsettled := t.unsettled.filter (fun n => decide (n * 128 < lo)) })
    { s with spadMem := zeroRange s.spadMem (spadBase k + lo) (spadBase (k + 1)) }

/-! ### Credits (R92–R95) -/

/-- The logical die at which a source node's replies arrive. -/
def State.sourceDie (s : State) (n : BitVec 12) : Nat := ((s.logical (s.homeDie n)).map (·.val)).getD 0

/-- A credit request of a node is answered, and the answer goes back to its source die. -/
def State.creditRequest (s : State) (r : CreditReq) : State :=
  let ans := s.creditAnswer r
  let s := s.askCredit r
  let key := s.sourceDie r.node
  let s := { s with tiles := { s.tiles with
    replies := tset [] s.tiles.replies key (tget [] s.tiles.replies key ++ [(r, ans)]) } }
  s.ctrl (nodeDie ((s.phys r.die).getD 0)) 0x03 r.ctx.val
    (match ans with | .grant i => i.val | .denyFull => 0x40 | .denyRange => 0x80)

/-- Some bank of a tile is closed. -/
def TileS.anyShut (t : TileS) : Bool := t.banks.any (fun p => p.2.shut)

/-- Credit timers go on when the last closed bank of a tile reopens (R94). -/
def TileS.thaw (t : TileS) (now : Nat) : TileS :=
  match t.shutAt with
  | some t0 =>
    if t.anyShut then t
    else
      { t with
        shutAt := none
        credits := t.credits.map (fun p =>
          (p.1, p.2.map (fun q => { q with frozen := q.frozen + (now - max t0 q.granted) }))) }
  | none => t

end Sys2Proof.Machine
end

