-- ==== Sys2Proof/Machine/Engine.lean ====
section
/-! DEFINITION. The engines of the commons: descriptor fields, the checks of R120, memory accesses of a
running operation, and what each operation computes (R118–R137, R566). -/

namespace Sys2Proof.Machine

/-! ### Descriptor fields (R118) -/

/-- Word i of a descriptor. -/
def dw (w : List W64) (i : Nat) : Nat := (w.getD i 0).toNat

def dOp (w : List W64) : Nat := bits (dw w 0) 56 8
def dEngine (w : List W64) : Nat := bits (dw w 0) 53 3
def dCtx (w : List W64) : Nat := bits (dw w 0) 48 5
def dEpoch (w : List W64) : BitVec 4 := BitVec.ofNat 4 (bits (dw w 0) 44 4)
def dSettled (w : List W64) : Bool := (dw w 0).testBit 43
def dFence (w : List W64) : Bool := (dw w 0).testBit 42
def dSync (w : List W64) : Option Nat := if (dw w 0).testBit 41 then some (bits (dw w 0) 32 9) else none
def dSeq (w : List W64) : Nat := bits (dw w 0) 16 16
def dConv (w : List W64) : Nat := bits (dw w 0) 12 4
def dSrc (w : List W64) : Nat := bits (dw w 0) 8 4
def dDst (w : List W64) : Nat := bits (dw w 0) 4 4
def dPlanes (w : List W64) : Nat := bits (dw w 0) 1 3 + 1
def dCount (w : List W64) : Nat := dw w 4 / 2 ^ 32
def dA (w : List W64) : Nat := dw w 4 % 2 ^ 32

/-- The eight words of a slot. -/
def slotWords (d : Bytes) : List W64 :=
  (List.range 8).map (fun i => BitVec.ofNat 64 (leNat ((d.drop (8 * i)).take 8)))

/-! ### Ranges of an operation (R119, R120, R128) -/

/-- A range: address, bytes, alignment. -/
abbrev Rng := W64 × Nat × Nat

/-- Bytes of n elements of a format. -/
def eb (fmt n : Nat) : Nat := (n * elemBits fmt + 7) / 8
/-- Alignment of a format's elements. -/
def al (fmt : Nat) : Nat := max 1 (elemBits fmt / 8)
/-- The format has MX block scales. -/
def isMx (fmt : Nat) : Bool := fmt == 5 || fmt == 6 || fmt == 7 || fmt == 9
/-- Bytes of an array of n elements of a format: the scale bytes of an MX format, which the operation's words name no
place for, follow its elements. (DESIGN CHOICE, log 128) -/
def vb (fmt n : Nat) : Nat := eb fmt n + (if isMx fmt then (n + 31) / 32 else 0)
/-- The scale bytes of such an array. -/
def scalesAt (a : W64) (fmt n : Nat) : W64 := a + BitVec.ofNat 64 (eb fmt n)
/-- Bytes of a strata line of k planes (R190). -/
def lineBytes (k : Nat) : Nat := 32 + 128 * k

/-- What the descriptor's operation asks of R120: legal parameters, legal formats, source ranges,
destination ranges, whether source A may equal the destination, and which ranges may meet no other one (the
scale arrays of CONVERT, R566; the residue of SIGN1_ENC, which is source and destination). -/
structure OpCheck where
  params : Bool
  fmts : Bool
  src : List Rng
  dst : List Rng
  inPlace : Bool := false
  alone : List Rng := []
  deriving DecidableEq, Repr

/-- Bytes of COMBINE's address table that its buffer slots reach. -/
def tableLen (w : List W64) : Nat :=
  8 * ((List.range (bits (dA w) 2 4)).foldl (fun m i => max m (bits (dw w 5) (8 * i) 8 + 1)) 0)

/-- Addresses of COMBINE's buffers from its table. -/
def combineBuffers (w : List W64) (table : Bytes) : List W64 :=
  (List.range (bits (dA w) 2 4)).map (fun i =>
    BitVec.ofNat 64 (leNat ((table.drop (8 * bits (dw w 5) (8 * i) 8)).take 8)))

/-- FP32 or BF16; a reserved code is left to the check of formats (R54). -/
def isFloat2 (f : Nat) : Bool := f == 0 || f == 1 || !fmtOk f

/-- The parameters, formats and ranges by opcode. `extra` holds the run table of a merge or the buffer table of COMBINE. -/
def opRanges (w : List W64) (extra : Bytes) : OpCheck :=
  let n := dCount w
  let a := dA w
  let f := dSrc w
  let g := dDst w
  let w1 := w.getD 1 0
  let w2 := w.getD 2 0
  let w3 := w.getD 3 0
  let w5 := w.getD 5 0
  let w6 := w.getD 6 0
  let k := dPlanes w
  let fm := fmtOk f && fmtOk g && convOk (dConv w)
  match dOp w with
  | 0x01 => ⟨decide (a ≤ 65536), true, [(w1, (n - 1) * w5.toNat + a, 1)],
      [(w3, (n - 1) * w6.toNat + a, 1)], false, []⟩
  | 0x02 =>
    let m := bits a 0 16 * bits a 16 16
    ⟨decide (1 ≤ m) && decide (bits a 0 16 ≤ 4096) && decide (bits a 16 16 ≤ 4096)
        && (elemBits f == 8 || elemBits f == 16 || elemBits f == 32 || !fmtOk f), fmtOk f,
      [(w1, m * al f, al f)], [(w3, m * al f, al f)], false, []⟩
  | 0x03 => ⟨f != 12 && g != 12 && (isMx f || w2 == 0) && (isMx g || w5 == 0), fm,
      (w1, eb f n, al f) :: (if isMx f then [(w2, (n + 31) / 32, 1)] else []),
      (w3, eb g n, al g) :: (if isMx g then [(w5, (n + 31) / 32, 1)] else []),
      decide (elemBits g ≤ elemBits f),
      (if isMx f then [(w2, (n + 31) / 32, 1)] else []) ++ (if isMx g then [(w5, (n + 31) / 32, 1)] else [])⟩
  | 0x04 =>
    let arr := dw w 7 % 8
    ⟨isFloat2 f && (g == 12 || !fmtOk g) && decide (arr < 6) && (arr == 0 || (w6 != 0 && patAdmits arr k)), fm,
      [(w1, (n - 1) * w5.toNat + 1024 * al f, al f)],
      (w3, n * lineBytes k, 1) :: (if w6 = 0 then [] else [(w6, (n + 3) / 4, 1)]), false, []⟩
  | 0x05 => ⟨decide (k ≤ dw w 5 % 8 + 1), true,
      [(w1, n * lineBytes (dw w 5 % 8 + 1), 1)], [(w3, n * lineBytes k, 1)], false, []⟩
  | 0x06 => ⟨(f == 0 || !fmtOk f) && (isMx g || !fmtOk g), fm, [(w1, 4 * n, 4)],
      [(w3, eb g n, al g), (w2, (n + 31) / 32, 1)], false, []⟩
  | 0x10 | 0x11 | 0x12 | 0x13 | 0x14 | 0x15 | 0x16 | 0x17 | 0x18 =>
    ⟨isFloat2 f && (isFloat2 g || g == 3 || g == 4), fm, [(w1, eb f n, al f)], [(w3, eb g n, al g)], true, []⟩
  | 0x20 | 0x21 =>
    ⟨decide (1 ≤ a) && decide (a ≤ 2 ^ 20) && !flt (w5.setWidth 32) 0, fmtOk f,
      [(w1, vb f (n * a), al f)], [(w3, n * (if dOp w = 0x20 then 8 else 4), 4)], false, []⟩
  | 0x22 =>
    ⟨decide (1 ≤ a) && decide (a ≤ 2 ^ 20), fm,
      [(w1, vb f n, al f), (w2, 8 * ((n + a - 1) / a), 4)] ++ (if w5 = 0 then [] else [(w5, 4 * a, 4)])
        ++ (if w6 = 0 then [] else [(w6, 4 * a, 4)]),
      [(w3, vb g n, al g)], true, []⟩
  | 0x30 => ⟨decide (n ≤ 2 ^ 24) && decide (a % 4 < 3), true, [(w1, 8 * n, 8)],
      [(w3, 8 * n, 8), (w5, 8 * n, 8)], false, []⟩
  | 0x31 | 0x32 =>
    let runs := bits a 0 7
    ⟨decide (1 ≤ runs) && decide (runs ≤ 64) && decide (bits a 8 2 < 3)
        && ((List.range runs).map (fun i => leNat ((extra.drop (4 * i)).take 4))).sum == n, true,
      [(w1, 8 * n, 8), (w2, 4 * runs, 4)], [(w3, 8 * n, 8)], false, []⟩
  | 0x33 => ⟨decide (n ≤ 2 ^ 24) && decide (bits a 11 2 < 3), true, [(w1, 8 * n, 8)],
      [(w3, 8 * min n (bits a 0 10 + 1), 8)], false, []⟩
  | 0x40 => ⟨decide (n ≤ 2 ^ 24) && decide (4 ≤ a) && decide (a ≤ 65536) && a % 4 == 0, true,
      [(w1, w5.toNat % 2 ^ 32 * a, 4), (w2, 4 * n, 4)], [(w3, n * a, 4)], false, []⟩
  | 0x41 => ⟨decide (n ≤ 2 ^ 24) && decide (4 ≤ a) && decide (a ≤ 65536) && a % 4 == 0, true,
      [(w1, n * a, 4), (w2, 4 * n, 4)], [(w3, w5.toNat % 2 ^ 32 * a, 4)], false, []⟩
  | 0x42 => ⟨decide (n ≤ 2 ^ 24) && decide (4 ≤ a) && decide (a ≤ 65536) && a % 4 == 0
        && isFloat2 f && isFloat2 g, fm,
      [(w1, n * a, 4), (w2, 4 * n, 4)], [(w3, w5.toNat % 2 ^ 32 * (a / al f * al g), al g)], false, []⟩
  | 0x50 => ⟨true, fmtOk f, [(w1, n * a, 1)], [], false, []⟩
  | 0x51 => ⟨decide (n ≤ 4096) && decide (1 ≤ a) && decide (a ≤ 64), true, [(w1, 8 * n, 4)], [], false, []⟩
  | 0x60 =>
    ⟨decide (bits a 0 2 < 3) && decide (1 ≤ bits a 2 4) && decide (bits a 2 4 ≤ 8), fm,
      (combineBuffers w extra).map (fun b => (b, vb f n, al f)) ++ [(w2, tableLen w, 8)], [(w3, vb g n, al g)], true, []⟩
  | 0x61 => ⟨true, fmtOk f, [(w1, vb f n, al f)],
      [(w3, (n + 1023) / 1024 * 132, 4), (w2, 4 * n, 4)], false, [(w2, 4 * n, 4)]⟩
  | 0x62 => ⟨true, fm, [(w1, (n + 1023) / 1024 * 132, 4)], [(w3, vb g n, al g)], true, []⟩
  | 0x63 => ⟨true, true, [], [], true, []⟩
  | 0x70 => ⟨true, true, [(w1, n, 1), (w2, a, 1)], [(w3, n + 16, 1)], true, []⟩
  | 0x71 => ⟨true, true, [(w1, n + 16, 1), (w2, a, 1)], [(w3, n, 1)], true, []⟩
  | 0x72 => ⟨true, true, [(w1, n, 1)], [(w3, 32, 1)], false, []⟩
  | 0x73 => ⟨true, true, [(w1, n, 1)], [(w3, 64, 1)], false, []⟩
  | 0x74 => ⟨true, true, [(w1, n, 1), (w2, 32, 1)], [], false, []⟩
  | _ => ⟨false, true, [], [], false, []⟩

/-- The operation names element formats in src_fmt or dst_fmt. -/
def usesFmt (w : List W64) : Bool :=
  let o := dOp w
  o == 2 || o == 3 || o == 4 || o == 6 || decide (0x10 ≤ o ∧ o < 0x30) || o == 0x42 || o == 0x50 || o == 0x60 || o == 0x61
    || o == 0x62

/-- The checks by opcode; a descriptor with a count of zero touches no range (R120). -/
def opCheck (w : List W64) (extra : Bytes) : OpCheck :=
  let k := opRanges w extra
  if dCount w = 0 then { k with src := [], dst := [], alone := [] } else k

/-- Every byte of a range is within the context's permissions on this panel, outside reserve stacks and
cache partitions. -/
def State.rangeOk (s : State) (c : CtxId) (r : Rng) : Bool :=
  r.2.1 == 0 ||
  match s.decode r.1 with
  | .here (.stack k off) =>
    decide (off + r.2.1 ≤ 2 ^ 36) && s.stackRole k != 1 &&
    let b := off / 2 ^ 30
    (List.range' b ((off + r.2.1 - 1) / 2 ^ 30 + 1 - b)).all (fun i =>
      (s.bankOwner (s.relocated ⟨c, false, .none, 0⟩ k) i).toNat == c.val)
  | .here (.commons l off) =>
    decide (off + r.2.1 ≤ 2 ^ 25) &&
    match s.phys l with
    | some d =>
      let g := off / 2 ^ 20
      (List.range' g ((off + r.2.1 - 1) / 2 ^ 20 + 1 - g)).all (fun i =>
        ((tget none (s.commons d).seg i).map (·.1)) == some c)
    | none => false
  | .here (.spad l t off) =>
    (s.ctx c).holdsTile l t &&
    match s.tileKey l t with
    | some k => decide (off + r.2.1 ≤ (s.tile k).cacheFrom)
    | none => false
  | _ => false

/-- Two ranges share a byte. -/
def rangesMeet (a b : Rng) : Bool :=
  decide (a.1.toNat < b.1.toNat + b.2.1) && decide (b.1.toNat < a.1.toNat + a.2.1)
    && decide (0 < a.2.1) && decide (0 < b.2.1)

/-- R120's checks in order; none where the descriptor passes. A reserved format code is refused before the ranges,
whose lengths it leaves open. -/
def State.descFault (s : State) (c : CtxId) (d : LDie) (e : Nat) (w : List W64) (extra : Bytes) :
    Option W16 :=
  let k := opCheck w extra
  let keyOp := dOp w == 0x70 || dOp w == 0x71
  let unsettledOk := k.dst.all (fun r =>
    match s.decode r.1 with
    | .here (.commons l _) => l == d && s.rangeOk c r
    | _ => r.2.1 == 0)
  let overlap := k.dst.any (fun x => (k.src.zipIdx).any (fun y =>
      rangesMeet x y.1 && !(k.inPlace && y.2 == 0 && x.1 == y.1.1)))
  let shared := k.alone.any (fun x => decide (1 < (k.src ++ k.dst).countP (rangesMeet x)))
  let far := match dOp w with
    | 0x30 => [w.getD 5 0]
    | 0x60 => [w.getD 2 0]
    | _ => []
  let inCommons (a : W64) : Bool := match s.decode a with | .here (.commons _ _) => true | _ => false
  if dOp w / 16 ≠ e ∨ dEngine w ≠ e ∨ !k.params then some 0x6040
  else if dCtx w ≠ c.val then some 0x6044
  else if usesFmt w && (!fmtOk (dSrc w) || !fmtOk (dDst w)) && !k.fmts then some 0x8011
  else if !(k.src ++ k.dst).all (s.rangeOk c) || (0 < dCount w && !far.all inCommons) then some 0x6041
  else if overlap || shared || (k.src ++ k.dst).any (fun r => r.1.toNat % r.2.2 != 0 && r.2.1 != 0) then
    some 0x6042
  else if !dSettled w && (e != geyser || !unsettledOk) then some 0x6043
  else if !k.fmts then some (if convOk (dConv w) then 0x8011 else 0x8010)
  else if keyOp && (tget none (s.ctx c).slots (dw w 5 % 8)).isNone then some 0x7021
  else none

/-! ### Accesses of a running operation -/

/-- An engine of a die at work for a context. -/
structure EngW where
  who : Who
  die : LDie
  eng : Nat
  deriving DecidableEq, Repr

/-- The counter records of an engine: R139's and R73's. -/
def EngW.cnt (w : EngW) : Nat := w.die.val * 8 + w.eng
def EngW.arith (w : EngW) : Nat := arithEngine w.die.val w.eng

/-- Why an operation does not complete: an access waits, with whether its time counts for the watchdog and the bytes it
writes; it has no queue credit; it ends in ERROR with a fault code, or at a failed access of n bytes; or it ends
MISMATCH. -/
inductive Stop where
  | wait (excused : Bool) (a : W64) (n : Nat) (d : Option (Bytes × Bool))
  | blocked
  | err (code : W16)
  | access (a : W64) (n : Nat) (r : Acc)
  | mismatch
  deriving DecidableEq, Repr

/-- A failed access under the context's policy: a closed bank under RETRY and a waiting shard wait. -/
def State.stopOf (s : State) (w : Who) (a : W64) (n : Nat) (d : Option (Bytes × Bool)) (r : Acc) : Stop :=
  match r with
  | .held _ => .wait false a n d
  | .fail .bankClosed _ => if s.obj 0x2242 (w.ctx.val + 1) = 1 then .access a n r else .wait true a n d
  | _ => .access a n r

/-- A request that is held for a shard waits for it (R261). -/
def State.noteHeld (s : State) (w : Who) (a : W64) (r : Acc) : State :=
  match r with
  | .held i => s.unitFail w a (.held i)
  | _ => s

/-- A read of what the engine holds of its operands already: it moves no new source bytes. -/
def State.epeek (s : State) (w : Who) (a : W64) (n : Nat) : State × Except Stop Bytes :=
  if n = 0 then (s, .ok [])
  else match s.readFA w a n with
    | (t, .ok d) => (t, .ok d)
    | (t, r) => (t.noteHeld w a r, .error (t.stopOf w a n none r))

/-- A read as the engine issues it; its bytes count (R139). -/
def State.eread (s : State) (w : EngW) (a : W64) (n : Nat) : State × Except Stop Bytes :=
  match s.epeek w.who a n with
  | (t, .ok d) => (t.countHigh .engine w.cnt 0x24 n, .ok d)
  | r => r

/-- A write as the engine issues it; a scratchpad write takes credits of its windows first and gives them back when
it has landed: DENY_FULL delays it, DENY_RANGE refuses it (R92, R119). (DEDUCED, log 163) -/
def State.ewrite (s : State) (w : EngW) (a : W64) (d : Bytes) (unsettled : Bool) : State × Option Stop :=
  let land (s : State) : State × Option Stop :=
    match s.writeFA w.who a d unsettled with
    | (t, .ok _) => (t.countHigh .engine w.cnt 0x28 d.length, none)
    | (t, r) => (t.noteHeld w.who a r, some (t.stopOf w.who a d.length (some (d, unsettled)) r))
  if d = [] then (s, none)
  else match s.decode a with
    | .here (.spad l t off) =>
      let k := (s.tileKey l t).getD 0
      let q := s.takeCredits (creditAsks (nodeDie ((s.phys w.die).getD 0)) w.who.ctx l t off d.length) []
      (match q.2.2 with
        | none =>
          let r := land q.1
          (r.1.giveBack k q.2.1, r.2)
        | some .denyRange => (q.1.giveBack k q.2.1, some (.access a d.length (.fail .denied 0x4062)))
        | some _ => (q.1.giveBack k q.2.1, some (.wait true a d.length (some (d, unsettled)))))
    | _ => land s

/-! ### Units and chunks (R127) -/

/-- An operation: how many units it has, its engine cycles at R128's rate, what unit i does with what the operation
carries on, and its result word after i units. -/
structure EngOp where
  units : List W64 → Nat
  cycles : List W64 → Nat
  unit : EngW → List W64 → Nat → List Nat → State → State × List Nat × Option Stop
  result : List W64 → Nat → List Nat → Nat

/-- A unit that carries nothing on. -/
def plainUnit (f : EngW → List W64 → Nat → State → State × Option Stop)
    (w : EngW) (x : List W64) (i : Nat) (k : List Nat) (s : State) : State × List Nat × Option Stop :=
  let r := f w x i s
  (r.1, k, r.2)

/-- A unit meets an access that waits: it does nothing but that access. -/
def State.meets (s : State) (w : EngW) (a : W64) (n : Nat) (d : Option (Bytes × Bool)) : State :=
  match d with
  | none => (s.eread w a n).1
  | some (b, u) => (s.ewrite w a b u).1

/-- n units from unit i, until one waits or fails: the units done, what is carried on, and the stop. -/
def runUnits (f : Nat → List Nat → State → State × List Nat × Option Stop) (w : EngW) :
    Nat → Nat → List Nat → State → State × Nat × List Nat × Option Stop
  | 0, i, k, s => (s, i, k, none)
  | n + 1, i, k, s =>
    match f i k s with
    | (t, k', none) => runUnits f w n (i + 1) k' t
    | (_, _, some (.wait x a m d)) => (s.meets w a m d, i, k, some (.wait x a m d))
    | (t, k', some e) => (t, i, k', some e)

/-- Cycles for n items at r an engine cycle. -/
def cyc (n r : Nat) : Nat := (n + r - 1) / r

/-- An address moved by bytes. -/
def plus (a : W64) (n : Nat) : W64 := a + BitVec.ofNat 64 n

/-- One unit that reads bytes, makes bytes of them and writes those. -/
def State.unitMap (s : State) (w : EngW) (src : W64) (n : Nat) (dst : W64)
    (f : Bytes → Bytes) : State × Option Stop :=
  match s.eread w src n with
  | (s, .ok b) => s.ewrite w dst (f b) false
  | (s, .error e) => (s, some e)

/-! ### Elements -/

/-- The generator of an engine for a context. -/
def State.engSr (s : State) (k : Nat) (c : CtxId) : W32 := tget 0 (s.engine k).sr c.val

/-- The generator takes a value. -/
def State.setEngSr (s : State) (k : Nat) (c : CtxId) (g : W32) : State :=
  s.modEngine k (fun e => { e with sr := tset 0 e.sr c.val g })

/-- Values into a destination format: element bytes, MX scale bytes, generator and counts. -/
def convVals (fmt conv : Nat) (g : W32) (vs : List FVal) : Bytes × Bytes × W32 × ConvCount :=
  if isMx fmt then
    let r := (chunk 32 vs).foldl (fun (q : List Nat × Bytes × W32 × ConvCount) blk =>
      let (x, es, g, n) := mxBlock fmt conv q.2.2.1 blk
      (q.1 ++ es, q.2.1 ++ [BitVec.ofNat 8 x], g, q.2.2.2.plus n)) ([], [], g, {})
    (packElems (elemBits fmt) r.1, r.2.1, r.2.2.1, r.2.2.2)
  else
    let (es, g, n) := convList fmt conv g vs
    (packElems (elemBits fmt) es, [], g, n)

/-- Values into a destination format, under the engine's generator and counters. -/
def State.engConv (s : State) (w : EngW) (fmt conv : Nat) (vs : List FVal) : State × Bytes × Bytes :=
  let k := engKey w.die w.eng
  let (es, ss, g, n) := convVals fmt conv (s.engSr k w.who.ctx) vs
  ((s.setEngSr k w.who.ctx g).countConv w.arith n, es, ss)

/-- Elements i to i + m of an array of a format; `sc` holds the scale bytes of an MX format. -/
def State.readVals (s : State) (w : EngW) (f : Nat) (a sc : W64) (i m : Nat) : State × Except Stop (List FVal) :=
  let b := elemBits f
  let from_ := i * b / 8
  match s.eread w (plus a from_) (((i + m) * b + 7) / 8 - from_) with
  | (s, .error e) => (s, .error e)
  | (s, .ok d) =>
    let es := ((unpackElems b d).drop (if b = 4 then i % 2 else 0)).take m
    if !isMx f then (s, .ok (es.map (elemVal f)))
    else match s.eread w (plus sc (i / 32)) ((i + m + 31) / 32 - i / 32) with
      | (s, .error e) => (s, .error e)
      | (s, .ok x) =>
        (s.countConv w.arith { nanScale := (x.filter (· == 0xFF)).length },
          .ok ((es.zipIdx).map (fun p => vscale ((x.getD ((i + p.2) / 32 - i / 32) 0).toNat) (elemVal f p.1))))

/-- Values become elements from element i of an array. -/
def State.putVals (s : State) (w : EngW) (g conv : Nat) (a sc : W64) (i : Nat) (vs : List FVal) :
    State × Option Stop :=
  let (s, es, ss) := s.engConv w g conv vs
  match s.ewrite w (plus a (i * elemBits g / 8)) es false with
  | (s, none) => if isMx g then s.ewrite w (plus sc (i / 32)) ss false else (s, none)
  | r => r

/-- Elements a conversion takes at a time: one, two of a packed format, a block of an MX format. -/
def convUnit (f g : Nat) : Nat :=
  if isMx f || isMx g then 32 else if elemBits f = 4 || elemBits g = 4 then 2 else 1

/-- The units of an element operation, and the elements that i of them make. -/
def elemUnits (x : List W64) : Nat := cyc (dCount x) (convUnit (dSrc x) (dDst x))
def elemsDone (x : List W64) (i : Nat) : Nat := min (dCount x) (i * convUnit (dSrc x) (dDst x))

/-- An operation on elements of src_fmt into elements of dst_fmt, one unit of them at a time. -/
def elemOp (rate : Nat) (f : EngW → List W64 → Nat → Nat → State → State × Option Stop) : EngOp where
  units := elemUnits
  cycles x := cyc (dCount x) rate
  unit := plainUnit (fun w x i s =>
    let u := convUnit (dSrc x) (dDst x)
    f w x (i * u) (min u (dCount x - i * u)) s)
  result x i _ := elemsDone x i

/-- An operation on rows, lines or records. -/
def rowOp (cycles : List W64 → Nat) (f : EngW → List W64 → Nat → State → State × Option Stop) : EngOp where
  units := dCount
  cycles := cycles
  unit := plainUnit f
  result _ i _ := i

/-- An operation that is one unit: a pass whose destination is written at its end. -/
def wholeOp (cycles : List W64 → Nat) (f : EngW → List W64 → State → State × Nat × Option Stop) : EngOp where
  units _ := 1
  cycles := cycles
  unit w x _ _ s :=
    let r := f w x s
    (r.1, [r.2.1], r.2.2)
  result _ _ k := k.headD 0

/-! ### Shaper (R128, R129, R566) -/

/-- COPY. -/
def opCopy : EngOp := rowOp (fun x => cyc (dCount x * dA x) 128) (fun w x i s =>
  s.unitMap w (plus (x.getD 1 0) (i * dw x 5)) (dA x) (plus (x.getD 3 0) (i * dw x 6)) id)

/-- TRANSPOSE: element by element in the source's order; the count is not used. (DESIGN CHOICE, log 129) -/
def opTranspose : EngOp where
  units x := bits (dA x) 0 16 * bits (dA x) 16 16
  cycles x := cyc (bits (dA x) 0 16 * bits (dA x) 16 16 * al (dSrc x)) 128
  unit := plainUnit (fun w x i s =>
    let rows := bits (dA x) 0 16
    let cols := bits (dA x) 16 16
    let e := al (dSrc x)
    s.unitMap w (plus (x.getD 1 0) (i * e)) e (plus (x.getD 3 0) ((i % cols * rows + i / cols) * e)) id)
  result _ i _ := i

/-- CONVERT (R566). -/
def opConvert : EngOp := elemOp 64 (fun w x i m s =>
  let f := dSrc x
  let g := dDst x
  match s.readVals w f (x.getD 1 0) (x.getD 2 0) i m with
  | (s, .error e) => (s, some e)
  | (s, .ok vs) =>
    let vs := if isMx f && isMx g then vs.map (fun v => ofF32 (toF32 v)) else vs
    s.putVals w g (if convExact f g then 2 else dConv x) (x.getD 3 0) (x.getD 5 0) i vs)

/-- A plane record: plane p of the weights, one bit each. -/
def planeBytes (ws : List Nat) (p : Nat) : Bytes :=
  toLe ((ws.length + 7) / 8) (packBits 1 (ws.map (fun x => x / 2 ^ (7 - p) % 2)))

/-- A strata line from its block scales and its 1,024 elements, DENSE or N:M; the tag and overflow. -/
def strataLine (k pat : Nat) (scales : List Nat) (es : List Nat) : Nat × Bytes × Nat :=
  let hdr := scales.map (BitVec.ofNat 8)
  let kept := es.map (fun x => if k = 8 then x else x / 2 ^ (8 - k) * 2 ^ (8 - k))
  let dense := hdr ++ (List.range k).flatMap (planeBytes kept)
  if pat = 0 then (0, dense, 0)
  else if es.all (fun x => x % 128 == 0) then (3, [], 0)
  else if nmOverflow 12 pat es then (0, dense, 1)
  else
    let slots := (chunk (patM pat) es).flatMap (nmSlots 12 (patN pat))
    let idx := toLe (1024 * patN pat / patM pat * patB pat / 8) (packBits (patB pat) (slots.map (·.1)))
    (1, hdr ++ idx ++ (List.range k).flatMap (planeBytes (slots.map (·.2))), 0)

/-- STRATA_PACK (R129): a line whose side-table entry cannot be written writes no byte (R124). -/
def opStrataPack : EngOp := rowOp (fun x => dCount x * 32) (fun w x i s =>
  let f := dSrc x
  let k := dPlanes x
  let pat := if x.getD 6 0 = 0 then 0 else dw x 7 % 8
  match s.eread w (plus (x.getD 1 0) (i * dw x 5)) (1024 * al f) with
  | (s, .error e) => (s, some e)
  | (s, .ok b) =>
    let vs := (unpackElems (elemBits f) b).map (elemVal f)
    let key := engKey w.die 0
    let r := (chunk 32 vs).foldl (fun (q : List Nat × List Nat × W32 × ConvCount) blk =>
      let (sc, es, g, n) := strataBlock (dConv x) q.2.2.1 blk
      (q.1 ++ [sc], q.2.1 ++ es, g, q.2.2.2.plus n)) ([], [], s.engSr key w.who.ctx, {})
    let s := (s.setEngSr key w.who.ctx r.2.2.1).countConv w.arith r.2.2.2
    let (tag, body, ovf) := strataLine k pat r.1 r.2.1
    let line (s : State) : State × Option Stop := s.ewrite w (plus (x.getD 3 0) (i * lineBytes k)) body false
    if x.getD 6 0 = 0 then line s
    else
      let ta := plus (x.getD 6 0) (i / 4)
      match s.epeek w.who ta 1 with
      | (s, .error e) => (s, some e)
      | (s, .ok o) =>
        match s.ewrite w ta [setTag (o.headD 0) i tag] false with
        | (s, none) =>
          (match line s with
            | (t, none) => (t.countPage (tileRec w.die 0) tag ovf 0, none)
            | (t, some e) => ((t.ewrite w ta o false).1, some e))
        | r => r)

/-- STRATA_TRIM: the header and the first k plane records of each line. -/
def opStrataTrim : EngOp := rowOp (fun x => cyc (dCount x * lineBytes (dPlanes x)) 128) (fun w x i s =>
  s.unitMap w (plus (x.getD 1 0) (i * lineBytes (dw x 5 % 8 + 1))) (lineBytes (dPlanes x))
    (plus (x.getD 3 0) (i * lineBytes (dPlanes x))) id)

/-- MX_PACK (R65): element array at the destination, scale array at source B. -/
def opMxPack : EngOp := elemOp 64 (fun w x i m s =>
  match s.readVals w 0 (x.getD 1 0) 0 i m with
  | (s, .error e) => (s, some e)
  | (s, .ok vs) => s.putVals w (dDst x) (dConv x) (x.getD 3 0) (x.getD 2 0) i vs)

/-! ### Curve (R130) -/

/-- A value within 1 ULP of an exact one: the neighbour below or above, or one step from a
representable value. -/
def withinUlp (lo hi cand : W32) : W32 :=
  if lo = hi then (if cand = lo - 1 ∨ cand = lo + 1 then cand else lo)
  else if cand = hi then hi else lo

/-- Both roundings of a quotient of finite nonzero values. -/
def recipBounds (m : Nat) (e : Int) (neg : Bool) : W32 × W32 :=
  let q := quotMag 1 m
  (toF32Dir neg (.fin neg q.1 (q.2 - e)), toF32Dir (!neg) (.fin neg q.1 (q.2 - e)))

/-- Both roundings of the root of m × 2^e, or of its inverse. -/
def rootBounds (inverse : Bool) (m : Nat) (e : Int) : W32 × W32 :=
  let sh : Nat := if e % 2 = 0 then 64 else 65
  let n := m * 2 ^ sh
  let r := isqrtFrom 64 n 0
  let m' := 2 * r + (if r * r = n then 0 else 1)
  let e' := (e - sh) / 2 - 1
  if inverse then
    let q := quotMag 1 m'
    (toF32Dir false (.fin false q.1 (q.2 - e')), toF32Dir true (.fin false q.1 (q.2 - e')))
  else (toF32Dir false (.fin false m' e'), toF32Dir true (.fin false m' e'))

/-- An element function in FP32 before conversion: special inputs as IEEE 754 has them, and for a finite operand any
value that keeps R130's bound: 1 ULP for RECIP, RSQRT and SQRT, 2 ULP for EXP and LOG, 2^−16 or 4 ULP for the others. (DEDUCED, log 25) -/
def curveOf (op : Nat) (v : FVal) : W32 :=
  let c := Config.curve op (toF32 v)
  match op, v with
  | _, .nan => 0x7FC00000
  | 0x10, .inf n => if n then 0 else 0x7F800000
  | 0x11, .inf n => if n then 0x7FC00000 else 0x7F800000
  | 0x11, .fin n m e =>
    if m = 0 then 0xFF800000 else if n then 0x7FC00000 else curveBounded 0x11 n m e c
  | 0x12, .inf n => if n then 0x80000000 else 0
  | 0x12, .fin n m e =>
    if m = 0 then (if n then 0xFF800000 else 0x7F800000)
    else withinUlp (recipBounds m e n).1 (recipBounds m e n).2 c
  | 0x13, .inf n => if n then 0x7FC00000 else 0
  | 0x13, .fin n m e =>
    if m = 0 then (if n then 0xFF800000 else 0x7F800000)
    else if n then 0x7FC00000 else withinUlp (rootBounds true m e).1 (rootBounds true m e).2 c
  | 0x14, .inf n => if n then 0x7FC00000 else 0x7F800000
  | 0x14, .fin n m e =>
    if m = 0 then toF32 v
    else if n then 0x7FC00000 else withinUlp (rootBounds false m e).1 (rootBounds false m e).2 c
  | 0x15, .inf n => if n then 0 else 0x7F800000
  | 0x16, .inf n => if n then 0 else 0x7F800000
  | 0x17, .inf n => if n then 0 else 0x3F800000
  | 0x18, .inf n => if n then 0xBF800000 else 0x3F800000
  | _, .inf _ => c
  | _, .fin n m e => curveBounded op n m e c

/-- An element function of one value, with the NaN that it makes counted (R130). -/
def curveNote (op : Nat) (v : FVal) : W32 × ConvCount :=
  let y := curveOf op v
  (y, if fnan y && v != .nan then { invalid := 1 } else {})

/-- An element function over count elements. -/
def opCurve : EngOp := elemOp 64 (fun w x i m s =>
  match s.readVals w (dSrc x) (x.getD 1 0) 0 i m with
  | (s, .error e) => (s, some e)
  | (s, .ok vs) =>
    let ys := vs.map (curveNote (dOp x))
    let s := s.countConv w.arith ((ys.map (·.2)).foldl ConvCount.plus {})
    s.putVals w (dDst x) (dConv x) (x.getD 3 0) 0 i (ys.map (fun y => ofF32 y.1)))

/-! ### Norm (R131) -/

/-- 64 partial sums, element i into sum i mod 64, combined pairwise, with their counts. (DEDUCED, log 24) -/
def rowSum (vs : List W32) : W32 × ConvCount :=
  reduce64 (fun a b => let r := addNote a b.1; (r.1, r.2.plus b.2)) (0, {}) ((List.range 64).map (fun k =>
    ((vs.zipIdx).filter (fun p => p.2 % 64 == k)).foldl (fun acc p => addNote acc p.1) (0, {})))

/-- The statistics of a row: mean and 1/√(var + ε), or 1/√(mean of squares + ε). -/
def rowStats (rms : Bool) (eps : W32) (vs : List W32) : Bytes × ConvCount :=
  let n := f32OfNat vs.length
  let q := rowSum (vs.map (fun v => fmul v v))
  let sq := fdiv q.1 n
  if rms then (toLe 4 (fdiv 0x3F800000 (fsqrt (fadd sq eps))).toNat, q.2)
  else
    let t := rowSum vs
    let mean := fdiv t.1 n
    let var := fsub sq (fmul mean mean)
    let var := if flt var 0 then 0 else var
    (toLe 4 mean.toNat ++ toLe 4 (fdiv 0x3F800000 (fsqrt (fadd var eps))).toNat, q.2.plus t.2)

/-- LN_STATS and RMS_STATS. -/
def opStats (rms : Bool) : EngOp := rowOp (fun x => cyc (dCount x * dA x) 64) (fun w x i s =>
  let f := dSrc x
  let a := dA x
  match s.readVals w f (x.getD 1 0) (scalesAt (x.getD 1 0) f (dCount x * a)) (i * a) a with
  | (s, .error e) => (s, some e)
  | (s, .ok vs) =>
    let r := rowStats rms ((x.getD 5 0).setWidth 32) (vs.map toF32)
    (s.countConv w.arith r.2).ewrite w (plus (x.getD 3 0) (i * (if rms then 4 else 8))) r.1 false)

/-- An FP32 word of an array, or a default where the array's address is zero. -/
def State.readF32 (s : State) (w : EngW) (a : W64) (i : Nat) (dflt : W32) : State × Except Stop W32 :=
  if a = 0 then (s, .ok dflt)
  else match s.eread w (plus a (4 * i)) 4 with
    | (s, .ok b) => (s, .ok (BitVec.ofNat 32 (leNat b)))
    | (s, .error e) => (s, .error e)

/-- (x − mean) × rstd × γ + β, one rounding for each operation, with its counts. -/
def normValue (v mean rstd gamma beta : W32) : W32 × ConvCount :=
  let a := fsub v mean
  let b := fmul a rstd
  let c := fmul b gamma
  let d := fadd c beta
  (d, ((arithNote true [v, mean] a).plus (arithNote false [a, rstd] b)).plus
    ((arithNote false [b, gamma] c).plus (arithNote true [c, beta] d)))

/-- Elements from element j of NORM_APPLY: each with its row's statistics and its column's γ and β. -/
def State.normVals (w : EngW) (x : List W64) : Nat → List FVal → State → State × Except Stop (List W32 × ConvCount)
  | _, [], s => (s, .ok ([], {}))
  | j, v :: vs, s =>
    let a := max 1 (dA x)
    let at' := plus (x.getD 2 0) (8 * (j / a))
    match (if j % a = 0 then s.eread w at' 8 else s.epeek w.who at' 8) with
    | (s, .error e) => (s, .error e)
    | (s, .ok st) =>
      match s.readF32 w (x.getD 5 0) (j % a) 0x3F800000 with
      | (s, .error e) => (s, .error e)
      | (s, .ok gamma) =>
        match s.readF32 w (x.getD 6 0) (j % a) 0 with
        | (s, .error e) => (s, .error e)
        | (s, .ok beta) =>
          let y := normValue (toF32 v) (BitVec.ofNat 32 (leNat (st.take 4))) (BitVec.ofNat 32 (leNat (st.drop 4))) gamma beta
          match State.normVals w x (j + 1) vs s with
          | (s, .ok (ys, n)) => (s, .ok (y.1 :: ys, y.2.plus n))
          | r => r

/-- NORM_APPLY: count elements in rows of A. (DEDUCED, log 29) -/
def opNormApply : EngOp := elemOp 64 (fun w x i m s =>
  let f := dSrc x
  let g := dDst x
  match s.readVals w f (x.getD 1 0) (scalesAt (x.getD 1 0) f (dCount x)) i m with
  | (s, .error e) => (s, some e)
  | (s, .ok vs) =>
    match State.normVals w x i vs s with
    | (s, .error e) => (s, some e)
    | (s, .ok (ys, n)) =>
      (s.countConv w.arith n).putVals w g (dConv x) (x.getD 3 0) (scalesAt (x.getD 3 0) g (dCount x)) i (ys.map ofF32))

/-! ### Merge tree (R132) -/

/-- A record: key and payload. -/
abbrev Rec8 := W32 × W32

/-- Records of a byte string. -/
def recs (b : Bytes) : List Rec8 :=
  (chunk 8 b).map (fun r => (BitVec.ofNat 32 (leNat (r.take 4)), BitVec.ofNat 32 (leNat (r.drop 4))))

/-- The bytes of records. -/
def recBytes (l : List Rec8) : Bytes := l.flatMap (fun r => toLe 4 r.1.toNat ++ toLe 4 r.2.toNat)

/-- The rank of a key in its type's order; equal keys have equal ranks. -/
def keyRank (ty : Nat) (k : W32) : Int :=
  match ty with
  | 0 => k.toNat
  | 1 => k.toInt
  | _ =>
    if fnan k then 2 ^ 40
    else if k.toNat % 2 ^ 31 = 0 then 0
    else if k.toNat < 2 ^ 31 then (k.toNat : Int)
    else -((k.toNat : Int) - 2 ^ 31)

/-- a stands strictly before b. -/
def recBefore (ty : Nat) (desc : Bool) (a b : Rec8) : Bool :=
  if desc then decide (keyRank ty b.1 < keyRank ty a.1) else decide (keyRank ty a.1 < keyRank ty b.1)

/-- Stable insertion from the right. -/
def insertRec (ty : Nat) (desc : Bool) (r : Rec8) : List Rec8 → List Rec8
  | [] => [r]
  | x :: xs => if recBefore ty desc x r then x :: insertRec ty desc r xs else r :: x :: xs

/-- Stable sort. -/
def sortRecs (ty : Nat) (desc : Bool) : List Rec8 → List Rec8
  | [] => []
  | r :: rs => insertRec ty desc r (sortRecs ty desc rs)

/-- Passes of SORT over n records: the runs of 64 and the merges of 64 runs. -/
def sortPasses (n : Nat) : Nat :=
  1 + ((List.range 5).find? (fun p => decide (n ≤ 64 * 64 ^ p))).getD 5

/-- SORT. -/
def opSort : EngOp := wholeOp (fun x => cyc (dCount x) 4 * sortPasses (dCount x)) (fun w x s =>
  match s.eread w (x.getD 1 0) (8 * dCount x) with
  | (s, .error e) => (s, 0, some e)
  | (s, .ok b) =>
    match s.ewrite w (x.getD 3 0) (recBytes (sortRecs (dA x % 4) ((dA x).testBit 2) (recs b))) false with
    | (s, e) => (s, if e.isNone then dCount x else 0, e))

/-- What a merge carries on: the length of each run, the records taken of each, records written, and for MERGE_SUM
the key and the sum in hand. -/
structure MergeAt where
  lens : List Nat
  taken : List Nat
  out : Nat
  hand : Option Rec8
  deriving DecidableEq, Repr

/-- It is kept as numbers. -/
def MergeAt.keep (m : MergeAt) : List Nat :=
  m.lens ++ m.taken ++ (match m.hand with
    | some r => [m.out, 1, r.1.toNat, r.2.toNat]
    | none => [m.out, 0, 0, 0])

/-- It comes back from its numbers for n runs. -/
def mergeAt (n : Nat) (k : List Nat) : MergeAt :=
  let z := k.drop (2 * n)
  ⟨k.take n, (k.drop n).take n, z.getD 0 0,
    if z.getD 1 0 = 1 then some (BitVec.ofNat 32 (z.getD 2 0), BitVec.ofNat 32 (z.getD 3 0)) else none⟩

/-- The record at a place of the source. -/
def State.peekRec (s : State) (w : EngW) (a : W64) (i : Nat) : State × Except Stop Rec8 :=
  match s.epeek w.who (plus a (8 * i)) 8 with
  | (s, .ok b) => (s, .ok ((recs b).headD (0, 0)))
  | (s, .error e) => (s, .error e)

/-- The run whose next record stands first, the lowest index on a tie, with that record: its index, its place in the
source and the places taken before it. -/
def State.mergeHead (w : EngW) (a : W64) (ty : Nat) (desc : Bool) :
    List (Nat × Nat) → Nat → Nat → Option (Nat × Nat × Rec8) → State → State × Except Stop (Option (Nat × Nat × Rec8))
  | [], _, _, b, s => (s, .ok b)
  | (len, n) :: rs, i, base, b, s =>
    if n < len then
      match s.peekRec w a (base + n) with
      | (s, .error e) => (s, .error e)
      | (s, .ok r) =>
        let b := match b with
          | none => some (i, base + n, r)
          | some q => if recBefore ty desc r q.2.2 then some (i, base + n, r) else b
        State.mergeHead w a ty desc rs (i + 1) (base + len) b s
    else State.mergeHead w a ty desc rs (i + 1) (base + len) b s

/-- One record of MERGE or MERGE_SUM: the next in order, which may not stand before the one its run gave last. The
last unit of MERGE_SUM writes the sum in hand. -/
def mergeUnit (sum : Bool) (w : EngW) (x : List W64) (i : Nat) (k : List Nat) (s : State) :
    State × List Nat × Option Stop :=
  let runs := bits (dA x) 0 7
  let ty := bits (dA x) 8 2
  let desc := (dA x).testBit 10
  let table := if k = [] then s.eread w (x.getD 2 0) (4 * runs) else (s, .ok [])
  match table with
  | (s, .error e) => (s, k, some e)
  | (s, .ok t) =>
    let m := if k = [] then ⟨unpackElems 32 t, List.replicate runs 0, 0, none⟩ else mergeAt runs k
    let put (s : State) (m : MergeAt) (r : Rec8) (m' : MergeAt) : State × List Nat × Option Stop :=
      match s.ewrite w (plus (x.getD 3 0) (8 * m.out)) (recBytes [r]) false with
      | (s, none) => (s, m'.keep, none)
      | (s, e) => (s, m.keep, e)
    if i = dCount x then
      match m.hand with
      | some r => put s m r { m with out := m.out + 1, hand := none }
      | none => (s, m.keep, none)
    else
      match State.mergeHead w (x.getD 1 0) ty desc (m.lens.zip m.taken) 0 0 none s with
      | (s, .error e) => (s, m.keep, some e)
      | (s, .ok none) => (s, m.keep, some (.err 0x8021))
      | (s, .ok (some (j, p, r))) =>
        let before := if m.taken.getD j 0 = 0 then (s, .ok r) else s.peekRec w (x.getD 1 0) (p - 1)
        match before with
        | (s, .error e) => (s, m.keep, some e)
        | (s, .ok q) =>
          if recBefore ty desc r q then (s, m.keep, some (.err 0x8021))
          else
            let s := s.countHigh .engine w.cnt 0x24 8
            let m' := { m with taken := m.taken.set j (m.taken.getD j 0 + 1) }
            if !sum then put s m r { m' with out := m.out + 1 }
            else match m.hand with
              | none => (s, { m' with hand := some r }.keep, none)
              | some h =>
                if keyRank ty r.1 = keyRank ty h.1 then
                  let y := addNote (h.2, {}) r.2
                  (s.countConv w.arith y.2, { m' with hand := some (h.1, y.1) }.keep, none)
                else put s m h { m' with out := m.out + 1, hand := some r }

/-- MERGE and MERGE_SUM. -/
def opMerge (sum : Bool) : EngOp where
  units x := dCount x + b2n sum
  cycles x := cyc (dCount x) 4
  unit := mergeUnit sum
  result x _ k := (mergeAt (bits (dA x) 0 7) k).out

/-- TOPK: best first, ties to the lower position. -/
def opTopk : EngOp := wholeOp (fun x => cyc (dCount x) 16) (fun w x s =>
  match s.eread w (x.getD 1 0) (8 * dCount x) with
  | (s, .error e) => (s, 0, some e)
  | (s, .ok b) =>
    let l := (sortRecs (bits (dA x) 11 2) (!(dA x).testBit 10) (recs b)).take (bits (dA x) 0 10 + 1)
    let r := s.ewrite w (x.getD 3 0) (recBytes l) false
    (r.1, if r.2.isNone then l.length else 0, r.2))

/-! ### Gather and scatter (R133) -/

/-- The index of row i, and what the policy makes of it: a row, a skip, or a fault. -/
def State.rowIndex (s : State) (w : EngW) (x : List W64) (i : Nat) :
    State × Except Stop (Option Nat) :=
  match s.eread w (plus (x.getD 2 0) (4 * i)) 4 with
  | (s, .error e) => (s, .error e)
  | (s, .ok b) =>
    let j := leNat b
    if j < dw x 5 % 2 ^ 32 then (s, .ok (some j))
    else if (dw x 5).testBit 32 then (s.count .engine (w.die.val * 8 + 4) 0x18 1, .ok none)
    else (s, .error (.err 0x8020))

/-- Cycles of an indexed row operation. -/
def rowCycles (x : List W64) : Nat := dCount x * max 1 (cyc (dA x) 128)

/-- GATHER. -/
def opGather : EngOp := rowOp rowCycles (fun w x i s =>
  let a := dA x
  match s.rowIndex w x i with
  | (s, .error e) => (s, some e)
  | (s, .ok none) => s.ewrite w (plus (x.getD 3 0) (i * a)) (List.replicate a 0) false
  | (s, .ok (some j)) => s.unitMap w (plus (x.getD 1 0) (j * a)) a (plus (x.getD 3 0) (i * a)) id)

/-- SCATTER. -/
def opScatter : EngOp := rowOp rowCycles (fun w x i s =>
  let a := dA x
  match s.rowIndex w x i with
  | (s, .error e) => (s, some e)
  | (s, .ok none) => (s, none)
  | (s, .ok (some j)) => s.unitMap w (plus (x.getD 1 0) (i * a)) a (plus (x.getD 3 0) (j * a)) id)

/-- SCATTER_ADD. -/
def opScatterAdd : EngOp := rowOp (fun x => cyc (dCount x * (dA x / al (dSrc x))) 64) (fun w x i s =>
  let a := dA x
  let f := dSrc x
  let g := dDst x
  let m := a / al f
  match s.rowIndex w x i with
  | (s, .error e) => (s, some e)
  | (s, .ok none) => (s, none)
  | (s, .ok (some j)) =>
    match s.readVals w f (plus (x.getD 1 0) (i * a)) 0 0 m with
    | (s, .error e) => (s, some e)
    | (s, .ok src) =>
      let at' := plus (x.getD 3 0) (j * m * al g)
      match s.epeek w.who at' (m * al g) with
      | (s, .error e) => (s, some e)
      | (s, .ok o) =>
        let sums := List.zipWith (fun p q => addNote (toF32 (elemVal g p), {}) (toF32 q)) (unpackElems (elemBits g) o) src
        (s.countConv w.arith ((sums.map (·.2)).foldl ConvCount.plus {})).putVals w g (dConv x) at' 0 0
          (sums.map (fun y => ofF32 y.1)))

/-! ### Reduction (R135) -/

/-- Order of max and min: −0 below +0. -/
def ford (a b : W32) : Bool := flt a b || (feq a b && a.toNat ≥ 2 ^ 31 && b.toNat < 2 ^ 31)

/-- The operator of COMBINE. -/
def combineOp (op : Nat) (a b : W32) : W32 :=
  match op with
  | 0 => fadd a b
  | 1 => if fnan a || fnan b then 0x7FC00000 else if ford a b then b else a
  | _ => if fnan a || fnan b then 0x7FC00000 else if ford b a then b else a

/-- The operator of COMBINE with its counts. -/
def combineNote (op : Nat) (a : W32 × ConvCount) (b : W32) : W32 × ConvCount :=
  (combineOp op a.1 b, a.2.plus (if op = 0 then arithNote true [a.1, b] (combineOp op a.1 b) else {}))

/-- Elements i to i + m of all buffers, buffer by buffer. -/
def State.readEach (w : EngW) (f n i m : Nat) : List W64 → State → State × Except Stop (List (List W32))
  | [], s => (s, .ok [])
  | a :: as, s =>
    match s.readVals w f a (scalesAt a f n) i m with
    | (s, .error e) => (s, .error e)
    | (s, .ok vs) =>
      match State.readEach w f n i m as s with
      | (s, .ok l) => (s, .ok (vs.map toF32 :: l))
      | r => r

/-- COMBINE: the address table is read as far as the buffer slots reach. -/
def opCombine : EngOp := elemOp 64 (fun w x i m s =>
  match (if i = 0 then s.eread w (x.getD 2 0) (tableLen x) else s.epeek w.who (x.getD 2 0) (tableLen x)) with
  | (s, .error e) => (s, some e)
  | (s, .ok t) =>
    match State.readEach w (dSrc x) (dCount x) i m (combineBuffers x t) s with
    | (s, .error e) => (s, some e)
    | (s, .ok bufs) =>
      let ys := (List.range m).map (fun j =>
        match bufs.map (fun b => b.getD j 0) with
        | [] => ((0 : W32), ({} : ConvCount))
        | v :: vs => vs.foldl (combineNote (dA x % 4)) (v, {}))
      let g := dDst x
      (s.countConv w.arith ((ys.map (·.2)).foldl ConvCount.plus {})).putVals w g (dConv x) (x.getD 3 0)
        (scalesAt (x.getD 3 0) g (dCount x)) i (ys.map (fun y => ofF32 y.1)))

/-- A SIGN1 block: scale, signs, the residue it leaves, and whether it is a NaN block. -/
def sign1Block (v : List W32) : W32 × List Bool × List W32 × Bool :=
  if v.any (fun x => !ffinite x) then
    (0x7FC00000, v.map (fun x => flt x 0), v.map (fun _ => 0), true)
  else
    let scale := fdiv (v.foldl (fun s x => fadd s (x &&& 0x7FFFFFFF)) 0) (f32OfNat v.length)
    let sg := v.map (fun x => flt x 0)
    (scale, sg, List.zipWith (fun x b => fsub x (if b then scale ^^^ 0x80000000 else scale)) v sg, false)

/-- An operation on SIGN1 blocks of 1,024 elements. -/
def sign1Op (f : EngW → List W64 → Nat → Nat → State → State × Option Stop) : EngOp where
  units x := cyc (dCount x) 1024
  cycles x := cyc (dCount x) 64
  unit := plainUnit (fun w x i s => f w x i (min 1024 (dCount x - i * 1024)) s)
  result x i _ := min (dCount x) (i * 1024)

/-- SIGN1_ENC. -/
def opSign1Enc : EngOp := sign1Op (fun w x i m s =>
  let f := dSrc x
  match s.readVals w f (x.getD 1 0) (scalesAt (x.getD 1 0) f (dCount x)) (i * 1024) m with
  | (s, .error e) => (s, some e)
  | (s, .ok vs) =>
    match s.eread w (plus (x.getD 2 0) (i * 4096)) (4 * m) with
    | (s, .error e) => (s, some e)
    | (s, .ok rb) =>
      let v := List.zipWith (fun p q => addNote (toF32 p, {}) (BitVec.ofNat 32 q)) vs (unpackElems 32 rb)
      let (scale, sg, res, nan) := sign1Block (v.map (·.1))
      let s := s.countConv w.arith ((v.map (·.2)).foldl ConvCount.plus { nanScale := b2n nan })
      match s.ewrite w (plus (x.getD 2 0) (i * 4096)) (res.flatMap (fun r => toLe 4 r.toNat)) false with
      | (s, none) => s.ewrite w (plus (x.getD 3 0) (i * 132))
          (toLe 4 scale.toNat ++ toLe 128 (packBits 1 (sg.map b2n))) false
      | r => r)

/-- SIGN1_DEC. -/
def opSign1Dec : EngOp := sign1Op (fun w x i m s =>
  let g := dDst x
  let sc := scalesAt (x.getD 3 0) g (dCount x)
  match s.eread w (plus (x.getD 1 0) (i * 132)) 132 with
  | (s, .error e) => (s, some e)
  | (s, .ok b) =>
    let scale := BitVec.ofNat 32 (leNat (b.take 4))
    let ys := (List.range m).map (fun j => if bitOf (b.drop 4) j then scale ^^^ 0x80000000 else scale)
    let q := if (dA x).testBit 0 then s.readVals w g (x.getD 3 0) sc (i * 1024) m else (s, .ok [])
    match q with
    | (s, .error e) => (s, some e)
    | (s, .ok old) =>
      let zs := if (dA x).testBit 0 then List.zipWith (fun y p => addNote (toF32 p, {}) y) ys old
        else ys.map (fun y => (y, {}))
      (s.countConv w.arith ((zs.map (·.2)).foldl ConvCount.plus {})).putVals w g (dConv x) (x.getD 3 0) sc (i * 1024)
        (zs.map (fun z => ofF32 z.1)))

/-! ### Crypto-hash (R136) -/

/-- The initialisation vector of words 6 and 7. -/
def gcmIv (x : List W64) : Bytes := toLe 8 (dw x 6) ++ toLe 4 (dw x 7 % 2 ^ 32)

/-- The round keys of the key that a descriptor names. -/
def State.slotKeys (s : State) (w : EngW) (x : List W64) : List (List Nat) :=
  aesKeys (keyBytes (match tget none (s.ctx w.who.ctx).slots (dw x 5 % 8) with
    | some p => p.1
    | none => 0))

/-- GHASH over the associated data, before the first block. -/
def State.gcmStart (s : State) (w : EngW) (x : List W64) (h : Nat) (k : List Nat) : State × Except Stop Nat :=
  match k with
  | y :: _ => (s, .ok y)
  | [] =>
    match s.eread w (x.getD 2 0) (dA x) with
    | (s, .ok aad) => (s, .ok (ghash h (blocks16 (natsOf aad))))
    | (s, .error e) => (s, .error e)

/-- 16 bytes of GCM: the key stream of their counter, and GHASH over the ciphertext. -/
def gcmUnit (dec : Bool) (w : EngW) (x : List W64) (i : Nat) (k : List Nat) (s : State) :
    State × List Nat × Option Stop :=
  let n := dCount x
  let ks := s.slotKeys w x
  let h := beNat (aesBlock ks (List.replicate 16 0))
  match s.gcmStart w x h k with
  | (s, .error e) => (s, k, some e)
  | (s, .ok y) =>
    if 16 * i < n then
      match s.eread w (plus (x.getD 1 0) (16 * i)) (min 16 (n - 16 * i)) with
      | (s, .error e) => (s, [y], some e)
      | (s, .ok b) =>
        let out := gcmCtrFrom ks (natsOf (gcmIv x)) (i + 2) (natsOf b)
        let c := if dec then natsOf b else out
        match s.ewrite w (plus (x.getD 3 0) (16 * i)) (bytesOf out) false with
        | (s, none) => (s, [ghashFrom h y (blocks16 c)], none)
        | (s, e) => (s, [y], e)
    else
      let tag := bytesOf (gcmTagOf ks (natsOf (gcmIv x)) h y (dA x) n)
      if !dec then
        match s.ewrite w (plus (x.getD 3 0) n) tag false with
        | (s, e) => (s, [y], e)
      else
        match s.eread w (plus (x.getD 1 0) n) 16 with
        | (s, .error e) => (s, [y], some e)
        | (s, .ok t) =>
          if t = tag then (s, [y], none)
          else match s.ewrite w (x.getD 3 0) (List.replicate n 0) false with
            | (s, none) => (s, [y], some (.err 0x7020))
            | (s, some e) => (s, [y], some e)

/-- GCM_ENC and GCM_DEC: the data, then the tag; a tag that does not match zeroes the destination and raises
0x7020. -/
def opGcm (dec : Bool) : EngOp where
  units x := cyc (dCount x) 16 + 1
  cycles x := cyc (dCount x) 64
  unit := gcmUnit dec
  result x i _ := min (dCount x) (16 * i)

/-- One block of a hash with a digest of n bytes; the last block holds the padding, and what follows it does with the
digest. -/
def hashUnit (n : Nat) (last : EngW → List W64 → Bytes → State → State × Option Stop)
    (w : EngW) (x : List W64) (i : Nat) (k : List Nat) (s : State) : State × List Nat × Option Stop :=
  let rate := 200 - 2 * n
  let a : List W64 := if k = [] then List.replicate 25 0 else k.map (BitVec.ofNat 64)
  let m := min rate (dCount x - i * rate)
  match s.eread w (plus (x.getD 1 0) (i * rate)) m with
  | (s, .error e) => (s, k, some e)
  | (s, .ok b) =>
    let a := keccakAll 0x06 rate 1 a b
    if m < rate then
      match last w x ((a.flatMap (fun v => toLe 8 v.toNat)).take n) s with
      | (s, e) => (s, k, e)
    else (s, a.map (·.toNat), none)

/-- A hash of count bytes. -/
def hashOp (n : Nat) (last : EngW → List W64 → Bytes → State → State × Option Stop) : EngOp where
  units x := dCount x / (200 - 2 * n) + 1
  cycles x := 24 * (dCount x / (200 - 2 * n) + 1)
  unit := hashUnit n last
  result x i _ := if i = dCount x / (200 - 2 * n) + 1 then dCount x else 0

/-- SHA3_256 and SHA3_512: the digest goes to the destination. -/
def opSha3 (n : Nat) : EngOp := hashOp n (fun w x b s => s.ewrite w (x.getD 3 0) b false)

/-- HASH_VERIFY: MISMATCH where the digest is not the expected one. -/
def opHashVerify : EngOp := hashOp 32 (fun w x b s =>
  match s.eread w (x.getD 2 0) 32 with
  | (s, .error e) => (s, some e)
  | (s, .ok t) => (s, if t = b then none else some .mismatch))

/-! ### Rings (R121–R125) -/

/-- The detail of R141: sequence and ring. -/
def ringDetail (w : List W64) (q : Nat) : Nat := dSeq w + q * 2 ^ 16

/-- Completion status codes (R124). -/
def dstCode : DStatus → Nat
  | .ok => 0 | .refused => 1 | .error => 2 | .discarded => 3 | .aborted => 4 | .mismatch => 5

/-- The completion record. -/
def completion (w : List W64) (e : Nat) (f : DStatus × W16 × W64) : Bytes :=
  toLe 2 (dSeq w) ++ [BitVec.ofNat 8 (dstCode f.1), BitVec.ofNat 8 (0xD0 + e)] ++ toLe 2 f.2.1.toNat
    ++ [0, 0] ++ toLe 8 f.2.2.toNat

/-- Slots of a ring. -/
def Ring.slots (r : Ring) : Nat := 2 ^ r.log2.toNat

/-- Commons address of a slot. -/
def Ring.slotOff (r : Ring) (p : Nat) : Nat := r.base.toNat + p % r.slots * 64

/-- Descriptors in progress of an engine; one that has been captured with its context's pause has left the engine
(R138). -/
def State.inProgress (s : State) (d : LDie) (e : Nat) : Nat :=
  ((List.range 8).map (fun q =>
    let r := s.ring (ringKey d e q)
    if r.ctx.any (fun c => s.engineLive c d e) then (r.descs.filter (fun x => x.fin.isNone)).length else 0)).sum

/-- The epoch that an engine compares with (R137): its own while the context places it, else the
context's. -/
def State.engineEpoch (s : State) (d : LDie) (e : Nat) (c : CtxId) : BitVec 4 :=
  if (s.unit (unitKey d (96 + e))).ctx = some c then (s.unit (unitKey d (96 + e))).epoch
  else (s.ctx c).epoch

/-- Who an engine is. -/
def whoEngine (c : CtxId) (e : Nat) : Who :=
  ⟨c, false, if e = geyser then .geyser else .none, 96 + e⟩

/-- The first running descriptor of a ring becomes f of itself. -/
def modRunning (f : Desc → Desc) : List Desc → List Desc
  | [] => []
  | x :: xs => if x.fin.isNone then f x :: xs else x :: modRunning f xs

/-- An engine of a die for a context. -/
def engW (c : CtxId) (d : LDie) (e : Nat) : EngW := ⟨whoEngine c e, d, e⟩

/-- The free bytes that a SORT leaves in its work area when it retires, in any status (R132). -/
def State.freeWork (s : State) (w : EngW) (x : Desc) : State :=
  if dOp x.words = 0x30 then
    let (b, s) := s.freeBytes (8 * dCount x.words)
    { (s.ewrite w (x.words.getD 5 0) b false).1 with ctrs := s.ctrs }
  else s

/-- The detail of a failed access of an engine: sequence and ring for the codes of R141, the unit otherwise. -/
def accessDetail (w : Who) (x : Desc) (q : Nat) (code : W16) : Nat :=
  if code = 0x4070 ∨ code = 0x6043 then ringDetail x.words q else w.unit

/-- A running descriptor ends. A fault of unsettled work is held; others are logged, and a failed access
acts as every unit's does. -/
def State.endDesc (s : State) (d : LDie) (e q : Nat) (w : Who) (x : Desc) (done : Nat) (stop : Option Stop) : State :=
  let set (s : State) (f : DStatus × W16 × W64) (h : Option (W16 × W64 × Nat)) : State :=
    (s.freeWork (engW w.ctx d e) x).modRing (ringKey d e q) (fun r =>
      { r with descs := modRunning (fun y => { y with fin := some f, held := h }) r.descs })
  match stop with
  | none => set s (.ok, 0, BitVec.ofNat 64 done) none
  | some .mismatch => set s (.mismatch, 0, BitVec.ofNat 64 done) none
  | some (.wait _ _ _ _) | some .blocked => s
  | some (.err code) =>
    if x.unsettled then
      set s (.error, code, BitVec.ofNat 64 done) (some (code, (locEngine d.val).word, s.now))
    else
      set (s.fault code (some w.ctx) (locEngine d.val) (ringDetail x.words q))
        (.error, code, BitVec.ofNat 64 done) none
  | some (.access a n r) =>
    let code := match r with | .fail _ c => c | _ => 0
    if x.unsettled then set s (.error, code, BitVec.ofNat 64 done) (some (code, (s.failLoc w a n code).word, s.now))
    else (set s (.error, code, BitVec.ofNat 64 done) none).unitFail w a r n (accessDetail w x q code)

/-! ### The engine's choice (R123, R126, R127) -/

/-- A ring may be served: bound to a context that the engine serves now, the placing one if there is one. -/
def State.ringServed (s : State) (d : LDie) (e q : Nat) : Bool :=
  match (s.ring (ringKey d e q)).ctx with
  | none => false
  | some c => s.engineLive c d e &&
    ((s.engine (engKey d e)).placed.isNone || (s.engine (engKey d e)).placed == some c)

/-- The ring has a descriptor in progress that does not wait. -/
def State.ringRunning (s : State) (d : LDie) (e q : Nat) : Bool :=
  s.ringServed d e q && ((s.ring (ringKey d e q)).descs.find? (fun x => x.fin.isNone)).any (fun x => x.waitSince.isNone)

/-- The ring has a descriptor that is ready to start. -/
def State.ringReady (s : State) (d : LDie) (e q : Nat) : Bool :=
  let r := s.ring (ringKey d e q)
  s.ringServed d e q && !r.halted && r.head != r.tail && !r.waitEpoch && !r.waitFence && decide (s.inProgress d e < 4)

/-- The priority of a ring: ring_prio [1:0]. -/
def Ring.level (r : Ring) : Nat := r.prio.toNat % 4

/-- The next chunk is ring q's: no ring of a higher priority has a descriptor in progress or ready, and no ring of
its own priority that has one in progress comes before it in round robin. (DESIGN CHOICE, log 130) -/
def State.ringTurn (s : State) (d : LDie) (e q : Nat) : Bool :=
  let p (i : Nat) : Nat := (s.ring (ringKey d e i)).level
  let place (i : Nat) : Nat := (i + 8 - (s.engine (engKey d e)).next % 8) % 8
  (List.range 8).all (fun i => i == q ||
    !(decide (p q < p i) && (s.ringRunning d e i || s.ringReady d e i)
      || p q == p i && s.ringRunning d e i && decide (place i < place q)))

/-- No ring of a higher priority than ring q's has a descriptor that is ready: q's may start (R123). -/
def State.startTurn (s : State) (d : LDie) (e q : Nat) : Bool :=
  (List.range 8).all (fun i => i == q ||
    !(decide ((s.ring (ringKey d e q)).level < (s.ring (ringKey d e i)).level) && s.ringReady d e i))

/-- A dataflow unit has an input token that is ready: every input that is no back edge holds one that it accepts, and
its outputs have credits. -/
def State.tokenReady (s : State) (d : LDie) (u : Nat) : Bool :=
  match s.live d u with
  | none => false
  | some (c, g) =>
    let need := g.inputs.filter (fun i => !i.backEdge)
    !need.isEmpty && g.outputs.all (fun o => s.canEmit g o.port.val) && need.all (fun i =>
      match (s.queue (queueKey d (u * 4 + i.port.val))).tokens.head? with
      | some t => tokenFate c (unitRole u g) (s.unit (unitKey d u)) t == .accept
      | none => false)

/-- The engine cycles of a descriptor's next chunk, at most 256. -/
def EngOp.chunkCycles (f : EngOp) (x : Desc) : Nat := min 256 (f.cycles x.words - 256 * x.chunks)

/-- The next chunk is a descriptor's last. -/
def EngOp.lastChunk (f : EngOp) (x : Desc) : Bool := decide (f.cycles x.words ≤ 256 * (x.chunks + 1))

/-- Units that are done when the next chunk ends. -/
def EngOp.unitsAfter (f : EngOp) (x : Desc) : Nat :=
  if f.lastChunk x then f.units x.words else f.units x.words * (256 * (x.chunks + 1)) / f.cycles x.words

/-- The units of a descriptor's next chunk. -/
def State.runChunk (s : State) (w : EngW) (f : EngOp) (x : Desc) : State × Nat × List Nat × Option Stop :=
  runUnits (fun i k t => f.unit w x.words i k t) w (f.unitsAfter x - x.units) x.units x.keep s

/-- Time that a descriptor has waited ends, and counts as excused (R125). -/
def Desc.wakes (x : Desc) (now : Nat) : Desc :=
  { x with excused := x.excused + (match x.waitSince with | some t => now - t | none => 0), waitSince := none }

/-- Its excused wait begins, or goes on. -/
def Desc.sleeps (x : Desc) (now : Nat) : Desc :=
  { x with waitSince := some (x.waitSince.getD now) }

/-- The ring's descriptor in progress becomes f of itself. -/
def State.modDesc (s : State) (d : LDie) (e q : Nat) (f : Desc → Desc) : State :=
  s.modRing (ringKey d e q) (fun r => { r with descs := modRunning f r.descs })

/-- The engine has worked for some cycles: busy_cycles, and the nanoseconds until its chunk ends at 3.0 GHz. -/
def State.engBusy (s : State) (d : LDie) (e cycles : Nat) : State :=
  (s.count64 .arith (arithEngine d.val e) 0x18 cycles).modEngine (engKey d e) (fun y =>
    { y with busyTo := max y.busyTo s.now + (cycles + 2) / 3 })

/-- One chunk of the descriptor in progress of ring q of an engine (R127). -/
def State.engineChunk (s : State) (d : LDie) (e q : Nat) (c : CtxId) (f : EngOp) (x : Desc) : State :=
  let w := engW c d e
  let y := x.wakes s.now
  let (t, i, k, stop) := s.runChunk w f x
  let progress (t : State) (z : Desc) : State :=
    t.modDesc d e q (fun v => { v with
      units := i, keep := k, chunks := z.chunks, excused := z.excused, waitSince := z.waitSince })
  match stop with
  | some (.wait excused _ _ _) => (progress t (if excused then x.sleeps s.now else y)).turnAway
  | some .blocked => (progress t (x.sleeps s.now)).turnAway
  | _ =>
    let t := (t.engBusy d e (f.chunkCycles x)).modEngine (engKey d e) (fun z => { z with next := (q + 1) % 8 })
    match stop with
    | none =>
      if f.lastChunk x then (t.endDesc d e q w.who x (f.result x.words i k) none).ok
      else (progress t { y with chunks := x.chunks + 1 }).ok
    | some .mismatch => (t.endDesc d e q w.who x (f.result x.words (i + 1) k) (some .mismatch)).ok
    | _ => (t.endDesc d e q w.who x (f.result x.words i k) stop).ok

/-- The operation command of an engine: the next chunk of ring q's descriptor in progress, when it is of the opcode and
its turn has come; an input token that is ready goes first, and the time until then does not count (R125). -/
def State.engineRun (s : State) (d : LDie) (e q op : Nat) (f : EngOp) : State :=
  let r := s.ring (ringKey d e q)
  match r.ctx, r.descs.find? (fun x => x.fin.isNone) with
  | some c, some x =>
    if dOp x.words ≠ op ∨ !s.engineLive c d e ∨ !s.ringTurn d e q then s.turnAway
    else if s.tokenReady d (96 + e) then (s.modDesc d e q (fun y => y.sleeps s.now)).turnAway
    else s.engineChunk d e q c f x
  | _, _ => s.turnAway

end Sys2Proof.Machine
end

