-- ==== Sys2Proof/Machine/Ring.lean ====
section
/-! DEFINITION. Reduction groups at a participant (R326–R336): the ring controller, the steps, grants and
RING_DONEs, and the ring record. -/

namespace Sys2Proof.Machine

/-! ### The participant -/

/-- The key of a participant: logical die × 4 + group. -/
def groupKey (d : LDie) (g : Nat) : Nat := d.val * 4 + g

/-- The participant of a key. -/
def State.group (s : State) (k : Nat) : Option GroupRun := tget none s.fab.group k

/-- A participant becomes f of itself. -/
def State.modGroup (s : State) (k : Nat) (f : GroupRun → GroupRun) : State :=
  { s with fab := { s.fab with group := tset none s.fab.group k ((s.group k).map f) } }

/-- The wire code of R331: 0 FULL FP32, 1 FULL BF16, 2 SIGN1. -/
def State.wireOf (s : State) (x : GroupRun) : Nat :=
  if (s.ctx x.ctx).redPosture = 1 then 2 else if x.decl.fullBf16 then 1 else 0

/-- Wire bytes of n elements (R332). -/
def wireBytes (wire n : Nat) : Nat :=
  match wire with
  | 0 => 4 * n
  | 1 => 2 * n
  | _ => (n + 1023) / 1024 * 132

/-- Bytes of a bucket element. -/
def bucketElem (g : GroupDecl) : Nat := if g.bucketBf16 then 2 else 4

/-- Elements of a bucket (R328). -/
def groupElems (g : GroupDecl) : Nat := g.bucketBytes / bucketElem g

/-- The first element of chunk c, and its element count (R330). -/
def chunkStart (g : GroupDecl) (c : Nat) : Nat := c * groupElems g / g.p
def chunkSize (g : GroupDecl) (c : Nat) : Nat := chunkStart g (c + 1) - chunkStart g c

/-- The offset of a chunk's residue: chunks in order, without the participant's own (R332). -/
def residueOff (g : GroupDecl) (c : Nat) : Nat :=
  4 * (if c < g.q then chunkStart g c else chunkStart g c - chunkSize g g.q)

/-- The chunk of step s: q − s for a sending step, q at the last (R330). -/
def stepChunk (g : GroupDecl) (step : Nat) : Nat := if step = g.p then g.q else (g.q + g.p - step) % g.p

/-- The address of staging half h. -/
def stageHalf (g : GroupDecl) (h : Nat) : W64 := if h % 2 = 0 then g.stage0 else g.stage1

/-- Group, slot, run and step in a detail (R340). (DEDUCED, log 57) -/
def groupDetail (x : GroupRun) : Nat :=
  x.decl.group.val + x.slot * 2 ^ 8 + x.run % 2 ^ 32 * 2 ^ 24 + x.step * 2 ^ 56

/-- A participant's fault: the group halts. -/
def State.ringFault (s : State) (k : Nat) (code : W16) : State :=
  match s.group k with
  | none => s
  | some x =>
    ((s.count .ring k 0x24 1).fault code (some x.ctx) (locEngine x.decl.die.val) (groupDetail x)).modGroup k
      (fun y => { y with st := .halted })

/-! ### The ring record (R334) -/

/-- Last completed run, run in progress, last step sent, last step received. (DEDUCED, log 55) -/
structure RingRec where
  completed : Nat
  inProgress : Nat
  stepSent : Nat
  stepReceived : Nat
  deriving DecidableEq, Repr

/-- The record of a slot; none where its bank cannot be read now. -/
def State.readRec (s : State) (c : CtxId) (x : GroupSlot) : Option RingRec :=
  match (s.epeek (whoEngine c 6) x.record 16).2 with
  | .ok b => some ⟨leNat (b.take 4), leNat ((b.drop 4).take 4), leNat ((b.drop 8).take 4), leNat ((b.drop 12).take 4)⟩
  | .error _ => none

/-- The record of a slot is written. -/
def State.writeRec (s : State) (c : CtxId) (x : GroupSlot) (r : RingRec) : State :=
  (s.writeFA (whoEngine c 6) x.record
    (toLe 4 r.completed ++ toLe 4 r.inProgress ++ toLe 4 r.stepSent ++ toLe 4 r.stepReceived) false).1

/-- The record of a slot becomes f of itself. -/
def State.modRec (s : State) (c : CtxId) (x : GroupSlot) (f : RingRec → RingRec) : State :=
  match s.readRec c x with
  | some r => s.writeRec c x (f r)
  | none => s

/-! ### Sending (R326) -/

/-- A group's packet leaves the die. -/
def State.ringSend (s : State) (x : GroupRun) (op : Byte) (dest : W64) (aux : Nat) (d : Bytes) : State × Status :=
  let src := nodeDie ((s.phys x.decl.die).getD 0)
  let p := { pktBlank with
    dest := dest, opcode := op, vc := BitVec.ofNat 3 (4 + x.decl.group.val), prio := 2
    ctx := BitVec.ofNat 5 x.ctx.val, unit := 102, aux := BitVec.ofNat 16 aux
    length := BitVec.ofNat 13 d.length, payload := d }
  match s.decode dest with
  | .remote _ _ _ => s.injectAway src p
  | .here (.stack k _) => s.inject src (nodeStack k) p
  | .here (.engine l _) =>
    match s.phys l with
    | some e => s.inject src (nodeDie e) p
    | none => (s, .unreachable)
  | _ => (s, .addrError)

/-- Bytes 0 to 11 of a grant or RING_DONE (R331). -/
def ringHead (x : GroupRun) (wire step : Nat) : Bytes :=
  toLe 1 x.decl.group.val ++ toLe 1 wire ++ toLe 2 x.slot ++ toLe 4 x.run ++ toLe 2 step ++ toLe 2 x.decl.p

/-- The grant of a step goes to the predecessor: the half that the step's data goes into, as an address of
this panel. -/
def State.sendGrant (s : State) (k step : Nat) : State :=
  match s.group k with
  | none => s
  | some x =>
    if x.st = .halted then s
    else
      let half := panelWord s.srcPanel + BitVec.ofNat 64 (bits (stageHalf x.decl step).toNat 0 50)
      (s.ringSend x 0x10
        (panelWord x.decl.predPanel + BitVec.ofNat 64 (4 * 2 ^ 46 + x.decl.predDie.val * 2 ^ 37)) 0
        (ringHead x (s.wireOf x) step ++ toLe 4 0 ++ toLe 8 half.toNat ++ toLe 8 0)).1

/-- Bytes in pieces of at most 4 KiB that do not cross a 4 KiB boundary (R280). -/
def cut4k : Nat → Nat → Bytes → List (Nat × Bytes)
  | 0, _, _ => []
  | _, _, [] => []
  | n + 1, off, b =>
    let m := 4096 - off % 4096
    (off, b.take m) :: cut4k n (off + m) (b.drop m)

/-- The wire bytes of a step go into the granted half. -/
def State.sendWire (s : State) (k : Nat) (half : W64) (step : Nat) (b : Bytes) : State :=
  match s.group k with
  | none => s
  | some x =>
    let s := s.countHigh .ring k 0x10 b.length
    (cut4k (b.length / 4096 + 2) half.toNat b).foldl (fun (s : State) q =>
      let r := s.ringSend x 0x11 (BitVec.ofNat 64 q.1) (x.decl.group.val * 2 ^ 14 + step % 2 ^ 14) q.2
      if r.2 = .ok then r.1 else r.1.modGroup k (fun y => { y with lostData := true })) s

/-- RING_DATA of the group that has no WRITE_DONE yet. -/
def State.ringPending (s : State) (x : GroupRun) : Bool :=
  let src := nodeDie ((s.phys x.decl.die).getD 0)
  let mine (p : Pkt) : Bool := p.opcode == 0x11 && p.vc.toNat == 4 + x.decl.group.val && p.ctx.toNat == x.ctx.val
  s.net.copies.any (fun c => c.src == src && mine c.pkt) || s.net.pendingReq.any (fun e => e.1 == src && mine e.2.2)
    || s.net.parked.any (fun e => e.1 == src && mine e.2.2)
    || s.net.reg.any (fun r => r.1 / 24 == nodeIndex src && r.2.held.any mine)

/-! ### The controller (R329, R334) -/

/-- The done cell of a slot as a cell of the group's die, which the last descriptor signals itself. -/
def State.doneHere (s : State) (g : GroupDecl) (x : GroupSlot) : Option Nat :=
  match s.decode x.doneCell with
  | .here (.cell k) => if k < hubFirst ∧ k / 512 = g.die.val then some (k % 512) else none
  | _ => none

/-- The done cell is signalled. -/
def State.signalDone (s : State) (x : GroupRun) (y : GroupSlot) : State :=
  (s.syncOp ⟨nodeDie ((s.phys x.decl.die).getD 0), BitVec.ofNat 5 x.ctx.val, false, 102, y.doneCell, 0, s.srcPanel⟩ 3 true
    (syncArrive 1)).1

/-- The descriptor of a step (R333). -/
def State.stepWords (s : State) (x : GroupRun) (y : GroupSlot) (step : Nat) : List W64 :=
  let g := x.decl
  let final := step = g.p
  let c := stepChunk g step
  let wire := s.wireOf x
  let cell : Nat := match decide final, s.doneHere g y with
    | true, some n => 2 ^ 41 + n * 2 ^ 32
    | _, _ => 0
  let w0 := 0x63 * 2 ^ 56 + 6 * 2 ^ 53 + x.ctx.val * 2 ^ 48 + (s.engineEpoch g.die 6 x.ctx).toNat * 2 ^ 44
    + 2 ^ 43 + cell + step % 2 ^ 16 * 2 ^ 16 + b2n g.bucketBf16 * 2 ^ 8 + g.outFmt.toNat * 2 ^ 4
  [BitVec.ofNat 64 w0, y.bucket + BitVec.ofNat 64 (chunkStart g c * bucketElem g)
    , if wire = 2 ∧ !decide final then y.residue + BitVec.ofNat 64 (residueOff g c) else 0
    , if final then y.out else 0
    , BitVec.ofNat 64 (chunkSize g c * 2 ^ 32 + step % 2 ^ 14 + g.group.val * 2 ^ 14 + b2n (decide final) * 2 ^ 16 + wire * 2 ^ 17)
    , BitVec.ofNat 64 (x.run % 2 ^ 32 + x.slot * 2 ^ 32)
    , if step = 1 then 0 else stageHalf g (step - 1)
    , 0]

/-- The controller writes the descriptors that the ring has room for, in step order, and moves its tail. -/
def State.writeSteps (s : State) (k : Nat) : Nat → State
  | 0 => s
  | n + 1 =>
    match s.group k with
    | none => s
    | some x =>
      let rk := ringKey x.decl.die 6 x.decl.ring.val
      let r := s.ring rk
      match x.decl.slots[x.slot]? with
      | none => s
      | some y =>
        if x.st ≠ .running ∨ x.decl.p < x.next ∨ r.slots ≤ (r.tail - r.done).toNat then s
        else
          match s.commonsWrite (whoEngine x.ctx 6) x.decl.die (r.slotOff r.tail.toNat)
              ((s.stepWords x y x.next).flatMap (fun w => toLe 8 w.toNat)) false with
          | (t, .ok _) =>
            let t := t.modRing rk (fun r => { r with tail := r.tail + 1 })
            (t.modGroup k (fun z =>
              { z with next := z.next + 1, own := insertNew (r.tail.toNat % r.slots) z.own })).writeSteps k n
          | (_, _) => s

/-- Room for the descriptors of one ring. -/
def State.topUp (s : State) (k : Nat) : State :=
  match s.group k with
  | none => s
  | some x => s.writeSteps k (s.ring (ringKey x.decl.die 6 x.decl.ring.val)).slots

/-- The firings that wait take their turn: a run that the record shows complete is skipped, the run in
progress resumes after its last step sent, any other starts at step 1. -/
def State.nextRun (s : State) (k : Nat) : Nat → State
  | 0 => s
  | n + 1 =>
    match s.group k with
    | none => s
    | some x =>
      match x.st, x.queued with
      | .idle, (slot, run) :: rest =>
        match x.decl.slots[slot]? with
        | none => (s.modGroup k (fun y => { y with queued := rest })).nextRun k n
        | some y =>
          match s.readRec x.ctx y with
          | none => s
          | some r =>
            if run ≤ r.completed then
              (((s.modGroup k (fun z => { z with queued := rest })).signalDone x y).count .ring k 0x08 1).nextRun k n
            else
              let again := r.inProgress = run
              let first := if again then r.stepSent + 1 else 1
              let s := s.modGroup k (fun z =>
                { z with
                  st := .running, queued := rest, slot := slot, run := run, step := first, next := first
                  sentData := false, waited := false, lostData := false, stepAt := s.now
                  grants := z.grants.filter (fun q => again || decide (q.run ≥ run))
                  dones := if again then z.dones else [] })
              let s := if again then s.count .ring k 0x20 1
                else
                  let s := (s.writeRec x.ctx y { r with inProgress := run, stepSent := 0, stepReceived := 0 }).count
                    .ring k 0x00 1
                  let s := s.sendGrant k 1
                  if 2 < x.decl.p then s.sendGrant k 2 else s
              s.topUp k
      | _, _ => s

/-- BUCKET_RUN_START: the next run number of the slot, and a firing that waits its turn. -/
def State.runStart (s : State) (k slot : Nat) : State :=
  (s.modGroup k (fun x =>
    { x with
      runs := tset 0 x.runs slot (tget 0 x.runs slot + 1)
      queued := x.queued ++ [(slot, tget 0 x.runs slot + 1)] })).nextRun k
    (((s.group k).map (fun x => x.queued.length)).getD 0 + 2)

/-! ### Grants and RING_DONEs (R331) -/

/-- A grant arrives from the successor. (DEDUCED, log 56) -/
def State.takeGrant (s : State) (k gByte wire slot run step p half : Nat) : State :=
  match s.group k with
  | none => s
  | some x =>
    if x.st = .halted then s
    else if gByte ≠ x.decl.group.val ∨ wire ≠ s.wireOf x ∨ p ≠ x.decl.p % 2 ^ 16 then s.ringFault k 0x9032
    else s.modGroup k (fun y => { y with grants := insertNew ⟨slot, run, step, half⟩ y.grants })

/-- A RING_DONE arrives from the predecessor. -/
def State.takeDone (s : State) (k slot run step bytes : Nat) : State :=
  match s.group k with
  | none => s
  | some x =>
    if x.st = .halted then s
    else
      let mine := match x.decl.slots[slot]? with
        | none => false
        | some y =>
          if x.st = .running then x.slot == slot && x.run == run
          else match s.readRec x.ctx y with
            | some r => r.inProgress == run
            | none => false
      if !mine then s.ringFault k 0x9032
      else
        let s := match x.decl.slots[slot]? with
          | some y => s.modRec x.ctx y (fun r => { r with stepReceived := step })
          | none => s
        s.modGroup k (fun y => { y with dones := insertNew ⟨slot, run, step, bytes⟩ y.dones })

/-- The participant of a packet's payload, and its fields: group, wire, slot, run, step, P. -/
def ringFields (b : Bytes) : Nat × Nat × Nat × Nat × Nat × Nat :=
  let f (o n : Nat) : Nat := leNat ((b.drop o).take n)
  (f 0 1, f 1 1, f 2 2, f 4 4, f 8 2, f 10 2)

/-! ### A step (R330, R332) -/

/-- The elements of a chunk as FP32. -/
def chunkVals (bf16 : Bool) (b : Bytes) : List W32 :=
  if bf16 then (unpackElems 16 b).map (fun p => toF32 (elemVal 1 p))
  else (unpackElems 32 b).map (BitVec.ofNat 32)

/-- decode of R330 for n elements. -/
def wireDecode (wire n : Nat) (b : Bytes) : List W32 :=
  match wire with
  | 0 => chunkVals false (b.take (4 * n))
  | 1 => chunkVals true (b.take (2 * n))
  | _ =>
    (List.range n).map (fun i =>
      let block := b.drop (i / 1024 * 132)
      let scale := BitVec.ofNat 32 (leNat (block.take 4))
      if ((block.getD (4 + i % 1024 / 8) 0).toNat).testBit (i % 8) then scale ^^^ 0x80000000 else scale)

/-- encode of R330: the wire bytes, the new residue (SIGN1), and the blocks that hold NaN. -/
def wireEncode (wire : Nat) (v res : List W32) : Bytes × List W32 × Nat :=
  match wire with
  | 0 => (v.flatMap (fun x => toLe 4 x.toNat), res, 0)
  | 1 => (v.flatMap (fun x => toLe 2 (convElem 1 0 0 (ofF32 x)).1), res, 0)
  | _ =>
    let blocks := (chunk 1024 (List.zipWith fadd v res)).map sign1Block
    (blocks.flatMap (fun k => toLe 4 k.1.toNat ++ toLe 128 (packBits 1 (k.2.1.map b2n)))
      , blocks.flatMap (fun k => k.2.2.1), (blocks.filter (fun k => k.2.2.2)).length)

/-- The reduction engine at work on a group. -/
def groupW (x : GroupRun) : EngW := engW x.ctx x.decl.die 6

/-- local[c], with the partial sum that arrived added from step 2 on. -/
def State.stepSum (s : State) (x : GroupRun) (wire : Nat) (w : List W64) : State × Except Stop (List W32) :=
  let who := groupW x
  let n := dCount w
  match s.eread who (w.getD 1 0) (n * bucketElem x.decl) with
  | (s, .error e) => (s, .error e)
  | (s, .ok b) =>
    let mine := chunkVals x.decl.bucketBf16 b
    if w.getD 6 0 = 0 then (s, .ok mine)
    else
      match s.eread who (w.getD 6 0) (wireBytes wire n) with
      | (s, .error e) => (s, .error e)
      | (s, .ok r) =>
        let sums := List.zipWith (fun p q => addNote (p, {}) q) (wireDecode wire n r) mine
        (s.countConv who.arith ((sums.map (·.2)).foldl ConvCount.plus {}), .ok (sums.map (·.1)))

/-- A sending step computes, rewrites its residue, and sends its RING_DATA. -/
def State.stepSend (s : State) (k : Nat) (x : GroupRun) (step : Nat) (w : List W64) (half : Nat) :
    State × Option Stop :=
  let who := groupW x
  let wire := s.wireOf x
  match s.stepSum x wire w with
  | (s, .error e) => (s, some e)
  | (s, .ok v) =>
    match (if wire = 2 then s.eread who (w.getD 2 0) (4 * v.length) else (s, .ok [])) with
    | (s, .error e) => (s, some e)
    | (s, .ok rb) =>
      let r := wireEncode wire v (chunkVals false rb)
      let q := if wire = 2 then s.ewrite who (w.getD 2 0) (r.2.1.flatMap (fun y => toLe 4 y.toNat)) false else (s, none)
      match q with
      | (s, some e) => (s, some e)
      | (s, none) =>
        let s := if wire = 2 then s.count .ring k 0x14 ((v.length + 1023) / 1024) else s
        let s := if r.2.2 = 0 then s else s.countConv (arithEngine x.decl.die.val 6) { nanScale := r.2.2 }
        (s.sendWire k (BitVec.ofNat 64 half) step r.1, none)

/-- The final step: the result goes to the owned output. -/
def State.stepFinal (s : State) (x : GroupRun) (w : List W64) : State × Option Stop :=
  match s.stepSum x (s.wireOf x) w with
  | (s, .error e) => (s, some e)
  | (s, .ok v) =>
    let g := dDst w
    s.putVals (groupW x) g (dConv w) (w.getD 3 0) (scalesAt (w.getD 3 0) g v.length) 0 (v.map ofF32)

/-- How far RING_STEP got: it waits with nothing done, it has sent its data and waits, or it ends. -/
inductive StepOut where
  | waits (s : State)
  | moved (s : State)
  | ends (s : State) (stop : Option Stop)

/-- One look at the step in front. A step that the record shows sent, or of a completed run, has no effect
(R334). -/
def State.stepRun (s : State) (k : Nat) (x : GroupRun) (w : List W64) : StepOut :=
  let slot := bits (dw w 5) 32 10
  let run := bits (dw w 5) 0 32
  let final := (dA w).testBit 16
  let step := if final then x.decl.p else bits (dA w) 0 14
  let have_ (l : List RingNote) (n : Nat) : Option RingNote :=
    l.find? (fun q => q.slot == slot && q.run == run && q.step == n)
  match x.decl.slots[slot]? with
  | none => .ends s (some (.err 0x6040))
  | some y =>
    match s.readRec x.ctx y with
    | none => .waits s
    | some r =>
      if run ≤ r.completed ∨ r.inProgress = run ∧ step ≤ r.stepSent ∧ !x.sentData then .ends s none
      else if 2 ≤ step ∧ (have_ x.dones (step - 1)).isNone then .waits s
      else if final then
        match s.stepFinal x w with
        | (s, none) =>
          .ends (s.writeRec x.ctx y { r with completed := run, inProgress := 0 }) none
        | (s, some e) => .ends s (some e)
      else if x.sentData then
        if x.lostData || s.ringPending x then .waits s
        else
          let z := { x with slot := slot, run := run }
          let s := (s.ringSend z 0x12
            (panelWord x.decl.succPanel + BitVec.ofNat 64 (4 * 2 ^ 46 + x.decl.succDie.val * 2 ^ 37)) 0
            (ringHead z (s.wireOf x) step ++ toLe 4 (wireBytes (s.wireOf x) (dCount w)))).1
          .ends (((s.count .ring k 0x0C 1).writeRec x.ctx y { r with stepSent := step }).modGroup k (fun z =>
            { z with sentData := false, waited := false, step := step + 1, stepAt := s.now
                     dones := z.dones.filter (fun q => decide (q.run = run) && decide (step ≤ q.step)) })) none
      else
        match have_ x.grants step with
        | none =>
          .waits (if x.waited then s
            else (s.count .ring k 0x1C 1).modGroup k (fun z => { z with waited := true }))
        | some g =>
          match s.stepSend k x step w g.word with
          | (s, none) =>
            .moved (s.modGroup k (fun z => { z with sentData := true, stepAt := s.now, grants := z.grants.erase g }))
          | (s, some e) => .ends s (some e)

/-- The participant whose ring q of a die this is, and its key. -/
def State.groupOfRing (s : State) (d : LDie) (q : Nat) (g : Nat) : Option (Nat × GroupRun) :=
  match s.group (groupKey d g) with
  | some x => if x.decl.ring.val = q then some (groupKey d g, x) else none
  | none => none

/-- RING_STEP: the descriptor in progress of ring q of the reduction engine. -/
def State.ringStepRun (s : State) (d : LDie) (q : Nat) : State :=
  let rk := ringKey d 6 q
  let r := s.ring rk
  let wait (s : State) : State := s.modDesc d 6 q (fun y => y.sleeps s.now)
  match r.ctx, r.descs.find? (fun x => x.fin.isNone) with
  | some c, some x =>
    match s.groupOfRing d q (bits (dA x.words) 14 2) with
    | none => s.turnAway
    | some (k, g) =>
      if dOp x.words ≠ 0x63 ∨ !s.engineLive c d 6 ∨ !s.ringTurn d 6 q ∨ g.ctx ≠ c ∨ g.st ≠ .running then s.turnAway
      else if s.tokenReady d (96 + 6) then (wait s).turnAway
      else
        match s.stepRun k g x.words with
        | .waits t => (wait t).turnAway
        | .moved t => (wait t).ok
        | .ends t stop => (((t.engBusy d 6 (cyc (dCount x.words) 64)).modEngine (engKey d 6) (fun z =>
            { z with next := (q + 1) % 8 })).endDesc d 6 q (whoEngine c 6) x (dCount x.words) stop).ok
  | _, _ => s.turnAway

/-- A RING_STEP that software wrote (R329). -/
def State.foreignStep (s : State) (d : LDie) (q slot : Nat) (w : List W64) : Bool :=
  dOp w == 0x63 && !(List.range 4).any (fun g =>
    match s.groupOfRing d q g with
    | some (_, x) => x.own.contains slot
    | none => false)

/-- The controller's descriptor of a slot has been fetched. -/
def State.tookStep (s : State) (d : LDie) (q slot : Nat) (w : List W64) : State :=
  if dOp w ≠ 0x63 then s
  else (List.range 4).foldl (fun (s : State) g =>
    match s.groupOfRing d q g with
    | some (k, _) => s.modGroup k (fun x => { x with own := x.own.filter (· != slot) })
    | none => s) s

/-- A RING_STEP has retired OK: the next half that it read last is granted, the run ends at its last step, and
the controller goes on. -/
def State.ringRetired (s : State) (d : LDie) (q : Nat) (w : List W64) : State :=
  match s.groupOfRing d q (bits (dA w) 14 2) with
  | none => s
  | some (k, x) =>
    let step := bits (dA w) 0 14
    if x.st ≠ .running then s
    else if (dA w).testBit 16 then
      let s := match x.decl.slots[x.slot]? with
        | some y => if (s.doneHere x.decl y).isSome then s else s.signalDone x y
        | none => s
      ((s.count .ring k 0x04 1).modGroup k (fun z => { z with st := .idle, dones := [], sentData := false })).nextRun k
        (x.queued.length + 1)
    else
      let s := if 2 ≤ step ∧ step + 1 < x.decl.p then s.sendGrant k (step + 1) else s
      s.topUp k

end Sys2Proof.Machine
end

