-- ==== Sys2Proof/Machine/Tiles.lean ====
section
/-! DEFINITION. The commands of the tiles (chapter 03): array rounds, staging, weight loads and buffer
halves, the output stage with its certifier, the lane unit, scratchpad accesses, cache operations,
credits and banks. -/

namespace Sys2Proof.Machine

/-! ### Arrays -/

/-- A waiting cycle of an array pair: the tile's counter and the unit's internal wait (R173). (DESIGN CHOICE, log 10) -/
def State.tileWait (s : State) (d : LDie) (t : LTile) (u off : Nat) : State :=
  ((s.count .tile (tileRec d t.val) off 1).count .unit (unitKey d u) 0x18 1).turnAway

/-- At a round boundary the shadow becomes active (R81). -/
def Arr.activate (x : Arr) : Arr :=
  { x with
    active := x.shadow, activeScales := x.shadowScales, activeSettle := x.shadowSettle
    activeUnsettled := x.shadowUnsettled, activeCols := x.shadowCols, activePat := x.shadowPat
    shadow := [], shadowScales := [], shadowSettle := false, shadowUnsettled := false, shadowCols := [], shadowPat := 0
    served := [] }

/-- The staging entries of a span, from entry e on. -/
def Arr.stage (x : Arr) (e n : Nat) : StageEntry := tget {} x.staging (e + n)

/-- Outputs of a configuration in flight for a vector. -/
def outsOf (x : ArrayCfg) (layer : Option LayerDecl) : Nat :=
  match layer with
  | some g => g.outputs
  | none => modeOuts x.wFmt.toNat

/-- z_j of array a does not fit in its accumulator file, and pass 1 writes it to the partial window (R198). -/
def spillsZ (g : LayerDecl) (a : Fin 2) : Bool :=
  g.r == 8 && decide (16384 < (if a = 0 then g.own.1 else g.own.2) * g.v)

/-- The place of an entry's z_j in the partial window: 4 × V bytes for each output that the array pair completes, whose
outputs follow one another (R198). (DEDUCED, log 135) -/
def windowPlace (g : LayerDecl) (i : Nat) : Nat :=
  4 * ((i % max 1 g.outputs) % max 1 (g.own.1 + g.own.2) * g.v + i / max 1 g.outputs)

/-- An accumulator entry before a settle round: z_j comes back from the partial window when the file
does not hold it (R198). -/
def State.accStart (s : State) (x : Arr) (a : Fin 2) (k : Nat) (layer : Option LayerDecl) (i : Nat) : W32 :=
  match layer with
  | some g =>
    match g.partialWindow with
    | some w =>
      if x.activeSettle ∧ spillsZ g a ∧ !x.acc.any (fun p => p.1 == i) then
        BitVec.ofNat 32 (leNat (bytesAt s.spadMem (spadBase k + w + windowPlace g i) 4))
      else tget 0 x.acc i
    | none => tget 0 x.acc i
  | none => tget 0 x.acc i

/-- A round over the active weights into the accumulators from `out` on. -/
def State.roundOn (s : State) (c : CtxId) (d : LDie) (t : LTile) (a : Fin 2) (k : Nat) (g : UnitCfg)
    (x : ArrayCfg) (entry out : Nat) : State :=
  let arr := (s.tile k).arr a
  let pass := passKind (s.ctx c).specPosture x g.layer arr.activeSettle
  let pat := arr.activePat
  let choice := Config.order s.freeCount
  let s := s.free.2
  let e := arr.stage entry
  let isFirst := match pass with | .first _ => true | _ => false
  let idle := match pass with | .first 1 => true | _ => false
  let es := colEntries arr.activeCols (modeOuts x.wFmt.toNat) out
  let acc := if idle then (arr.acc, ({} : ConvCount)) else
    roundAccs es (s.accStart arr a k g.layer) (accumulate x pass pat arr.active arr.activeScales e choice) arr.acc
  let env := if isFirst then
      es.foldl (fun env q => tset 0 env q.2 (envelope x pat arr.activeScales e q.1 (tget 0 env q.2))) arr.env
    else arr.env
  let s := s.modTile k (fun t => t.modArr a (fun y =>
    { y with
      acc := acc.1, env := env
      served := entry :: y.served
      specRounds := if y.activeUnsettled && !idle then (y.activeCols, roundCycles x pass) :: y.specRounds else y.specRounds
      accUnsettled := if y.activeUnsettled then
          es.foldl (fun l q => insertNew q.2 l) y.accUnsettled
        else y.accUnsettled }))
  if idle then s
  else ((if arr.activeUnsettled then s.count .unit (unitKey d t.val) 0x18 (roundCycles x pass)
    else s.count64 .unit (unitKey d t.val) 0x08 (roundCycles x pass)).count64 .arith (arithTile d.val t.val) 0x18
    (roundCycles x pass)).countConv (arithTile d.val t.val) acc.2

/-- The span numbers of the columns' issued round-entries: the oldest. -/
def oldestSpan (n : Nat) (disp : Tbl (List (Nat × W16))) : Nat :=
  (((List.range n).flatMap (fun m => tget [] disp (128 + m))).map (fun q => q.1 / 512)).foldl min 1000000000

/-- What a column has issued and not yet added: the round-entry behind what it carries of a block that the
round-entry before has begun (R60). -/
def issuedOf (disp : Tbl (List (Nat × W16))) (m : Nat) : List (Nat × W16) :=
  tget [] disp (256 + m) ++ tget [] disp (128 + m)

/-- The weights of a column's issue whose block goes on in its next round-entry: they are carried to it, since a block
has one exact sum (R60). Positions / 32 number the blocks of all spans. -/
def carriedOf (disp : Tbl (List (Nat × W16))) (m : Nat) : List (Nat × W16) :=
  match (tget [] disp m).head? with
  | some q => if q.2 = 0 then [] else (issuedOf disp m).filter (fun p => p.1 / 32 == q.1 / 32 && p.2 != 0)
  | none => []

/-- Every column issues the round-entry at its queue's head. -/
def issueNext (n : Nat) (disp : Tbl (List (Nat × W16))) : Tbl (List (Nat × W16)) :=
  (List.range n).foldl (fun q m =>
    tset [] (tset [] (tset [] q (256 + m) (carriedOf disp m)) (128 + m) ((tget [] disp m).take 64)) m
      ((tget [] disp m).drop 64)) disp

/-- A column's issued round-entry adds its products to an accumulator; scale bytes of the span come
from the scale path, 16 blocks a column. A block whose scale byte is 0xFF makes the output NaN whether or not it
holds a weight (R61). -/
def issueColumn (choice : Nat → Nat) (x : ArrayCfg) (arr : Arr) (entry base m : Nat) (acc : W32) : W32 × ConvCount :=
  let all := issuedOf arr.disp m
  let carried := carriedOf arr.disp m
  let span := (all.head?.map (fun q => q.1 / 512)).getD base
  let mine := all.filter (fun q => q.2 != 0 && !carried.contains q)
  (pickOrder (fun i => choice (m * 2048 + i)) 16 (List.range 16)).foldl (fun acc b =>
    let e := arr.stage entry ((span - base) * 8 + b / 2)
    let xw := scaleByte x arr.shadowScales 16 m b
    let xa := actScale x.aFmt.toNat e (b % 2)
    let ps := (mine.filter (fun q => q.1 % 512 / 32 == b)).map (fun q =>
      mulNote (elemVal x.wFmt.toNat q.2.toNat) (elemVal x.aFmt.toNat (stagedRaw x.aFmt.toNat e (q.1 % 64))))
    if ps = [] ∧ xw ≠ 0xFF ∧ xa ≠ 0xFF then acc else addBlock x choice m b xw xa ps acc) (acc, {})

/-- A round from the dispatcher queues (R233): every column with an entry at its queue's head consumes
it; further vectors of the same entries follow without consuming. None where no entry is there, or where a segment that
an entry needs is not staged. -/
def State.roundDispatched (s : State) (d : LDie) (t : LTile) (a : Fin 2) (k : Nat) (x : ArrayCfg)
    (entry out : Nat) : Option State :=
  let arr := (s.tile k).arr a
  let n := modeOuts x.wFmt.toNat
  let issued := (List.range n).any (fun m => tget [] arr.disp (128 + m) != [])
  let again := issued && !arr.served.contains entry
  let waiting := (List.range n).any (fun m => tget [] arr.disp m != [])
  if !again && !waiting then none
  else
    let arr' := if again then arr else { arr with served := [], disp := issueNext n arr.disp }
    let base := oldestSpan n arr'.disp
    let nz := ((List.range n).map (fun m =>
      ((tget [] arr'.disp (128 + m)).filter (fun q => q.2 != 0)).length)).sum
    let needed := (List.range n).flatMap (fun m =>
      (issuedOf arr'.disp m).map (fun q => (q.1 / 512 - base) * 8 + q.1 % 512 / 64))
    if needed.any (fun i => (arr.stage entry i).data == []) then none
    else
      let choice := Config.order s.freeCount
      let s := s.free.2
      let acc := roundAccs (colEntries [] n out) (fun i => tget 0 arr'.acc i) (issueColumn choice x arr' entry base) arr'.acc
      let s := s.modTile k (fun y => y.modArr a (fun _ =>
        { arr' with acc := acc.1, served := entry :: arr'.served }))
      let s := (s.count .sparse (tileRec d t.val) 0x30 1).count .sparse (tileRec d t.val) 0x2C nz
      let cycles := roundCycles x (.single 1)
      some (((s.count64 .unit (unitKey d t.val) 0x08 cycles).count64 .arith (arithTile d.val t.val) 0x18 cycles).countConv
        (arithTile d.val t.val) acc.2)

/-- The round takes its weights from the dispatcher queues (R233). -/
def roundBitmap (g : UnitCfg) : Bool :=
  match g.sparse with
  | some p => p.arr == 2
  | none => false

/-- The round makes the shadow active; the columns and the pattern of the weights that it uses. -/
def Arr.turns (x : Arr) (entry : Nat) : Bool := x.active == [] || x.served.contains entry
def Arr.nextCols (x : Arr) (entry : Nat) : List Nat := if x.turns entry then x.shadowCols else x.activeCols
def Arr.nextPat (x : Arr) (entry : Nat) : Nat := if x.turns entry then x.shadowPat else x.activePat

/-- The staging entries that a round reads: one when dense, M/N at N:M, 8 when dispatched (R232, R233). -/
def Arr.roundSpan (x : Arr) (bitmap : Bool) (entry : Nat) : Nat :=
  if bitmap then 8 else patSpan (x.nextPat entry)

/-- ARRAY_ROUND (R55–R60, R82, R83). A round without weights, without its segment or without room for its sums waits. The
shadow becomes active at the round that names an entry which the active weights have served, or that finds none
active. (DESIGN CHOICE, log 136) -/
def execArrayRound (d : LDie) (t : LTile) (a : Fin 2) (entry : Fin 256) (out : Nat) (s : State) :
    Host.Outcome State Fault Refusal :=
  match s.live d t.val, s.tileKey d t with
  | some (c, g), some k =>
    match arrayCfg g with
    | none => .next s.turnAway
    | some x =>
      let bitmap := roundBitmap g
      let arr := (s.tile k).arr a
      let span := arr.roundSpan bitmap entry.val
      if g.layer = none ∧ 16384 < out + modeOuts x.wFmt.toNat then .next s.turnAway
      else if !arr.room (colEntries (if bitmap then [] else arr.nextCols entry.val) (modeOuts x.wFmt.toNat) out) then
        .next (s.count .unit (unitKey d t.val) 0x18 1).turnAway
      else
        let staged := (List.range span).all (fun n => (arr.stage entry.val n).data != [])
        if !staged then .next (s.tileWait d t t.val 0x0C)
        else if bitmap then
          match s.roundDispatched d t a k x entry.val out with
          | some s' => .next s'.ok
          | none => .next (s.tileWait d t t.val (if arr.disp = [] then 0x04 else 0x0C))
        else if arr.turns entry.val then
          if arr.shadow = [] then .next (s.tileWait d t t.val 0x04)
          else
            .next (((s.modTile k (fun y => y.modArr a Arr.activate)).roundOn c d t a k g x entry.val
              out).ok)
        else .next ((s.roundOn c d t a k g x entry.val out).ok)
  | _, _ => .next s.turnAway

/-- STAGING_FILL (R83, R201): a segment enters staging, and its block L1 norms are formed. -/
def execStagingFill (d : LDie) (t : LTile) (a : Fin 2) (entry : Fin 256) (data : Bytes)
    (scales : Byte × Byte) (s : State) : Host.Outcome State Fault Refusal :=
  match s.live d t.val, s.tileKey d t with
  | some (_, g), some k =>
    match arrayCfg g with
    | none => .next s.turnAway
    | some x =>
      if data.length ≠ 8 * elemBits x.aFmt.toNat then .next s.turnAway
      else
        let e : StageEntry := { data := data, scales := scales }
        let e := if intPair x.wFmt.toNat then
            { e with l1a := blockL1 x.aFmt.toNat e 0, l1b := blockL1 x.aFmt.toNat e 1 }
          else e
        .next ((s.modTile k (fun y => y.modArr a (fun z =>
          { z with staging := tset {} z.staging entry.val e }))).ok)
  | _, _ => .next s.turnAway

/-- What the loader takes from a half. -/
structure Load where
  weights : Bytes
  scales : Bytes
  cols : List Nat
  pat : Nat
  /-- it is the last load of the half -/
  last : Bool
  deriving DecidableEq, Repr

/-- The load at an offset of a half (R81, R232); none where the half does not reach. -/
def Half.load (h : Half) (x : ArrayCfg) (pass : PassKind) (off : Nat) : Option Load :=
  let n := loadBytes x pass h.pat
  match h.src with
  | some (.pages _ _ _) =>
    (h.pageAt off).bind (fun q =>
      if q.2 = 2 then none
      else
        let pat := if q.2 = 1 then h.pat else 0
        let sc := (loadBytes x pass pat).2
        some { weights := h.loadOf x q.2 q.1, cols := h.cols, pat := pat, last := h.lastLoad x q.2 q.1
               scales := if h.scaleBytes = 0 then []
                 else bytesAt h.data (h.pagesBytes + q.1 / loadPages x pat * sc) sc })
  | some (.strata _ seg _ _ _) =>
    if h.extent < off + n.1 + n.2 then none
    else some { weights := bytesAt h.data off n.1, scales := bytesAt h.data (off + n.1) n.2
                cols := h.colsAt (seg + off / h.stride), pat := h.pat, last := off + n.1 + n.2 == h.extent }
  | _ =>
    if h.extent < off + n.1 + n.2 then none
    else some { weights := bytesAt h.data off n.1, scales := bytesAt h.data (off + n.1) n.2
                cols := h.cols, pat := 0, last := off + n.1 + n.2 == h.extent }

/-- SHADOW_LOAD (R81): the loader reads one load from the half that is IN_USE, as often as the reuse count (R78). -/
def execShadowLoad (d : LDie) (t : LTile) (a : Fin 2) (off : Nat) (s : State) :
    Host.Outcome State Fault Refusal :=
  match s.live d t.val, s.tileKey d t with
  | some (c, g), some k =>
    match arrayCfg g with
    | none => .next s.turnAway
    | some x =>
      let arr := (s.tile k).arr a
      if arr.shadow ≠ [] then .next s.turnAway
      else match arr.inState .inUse with
        | none => .next (s.tileWait d t t.val 0x04)
        | some b =>
          match (arr.half b).load x (passKind (s.ctx c).specPosture x g.layer (arr.half b).settle) off with
          | none => .next s.turnAway
          | some l =>
            if x.reuse ≤ (arr.half b).uses then .next s.turnAway
            else
              let s := s.modTile k (fun y => y.modArr a (fun z =>
                { z.modHalf b (fun q => if l.last then { q with uses := q.uses + 1 } else q) with
                  shadow := l.weights, shadowScales := l.scales, shadowSettle := (arr.half b).settle
                  shadowUnsettled := (arr.half b).unsettled, shadowCols := l.cols, shadowPat := l.pat }))
              let s := if (arr.half b).settle then s.count .spec (tileRec d t.val) 0x1C 1 else s
              .next s.ok
  | _, _ => .next s.turnAway

/-! ### Buffer halves (R77–R80) -/

/-- The weight stream port of array a of a tile (R142). -/
def streamUnit (t : LTile) (a : Fin 2) : Nat := 64 + 2 * t.val + a.val

/-- The empty half that a fill declares, with the state it starts in; none where the fill does not fit its layer or its
RESIDENT region (R78, R79, R192, R195). -/
def State.declaredHalf (s : State) (c : CtxId) (g : UnitCfg) (t : TileS) (x : UnitS) (f : FillDecl) (bytes : Nat) :
    Option Half :=
  let posture := (s.ctx c).specPosture
  let h : Half :=
    { st := if bytes = 0 then .ready else .filling
      size := bytes, unsettled := f.pass == .prefetch, settle := f.pass != .first, src := some f.src }
  let admitted := match f.pass with
    | .first => true
    | .settle => g.layer.isSome && x.settleList != []
    | .prefetch => g.layer.isSome && posture == 2
  if !admitted then none
  else match f.src, g.layer with
    | .stack _, _ => if g.sparse.any (fun x => x.arr != 0) then none else some h
    | .resident off, _ => if t.inResident off bytes then some h else none
    | .pages _ _ _, _ => if g.sparse.isSome && f.pass == .first then some h else none
    | .strata base _ _ first nm, some l =>
      let p := ((g.sparse.filter (fun x => x.arr == 1)).map (·.pat)).getD 0
      if nm && p == 0 || g.sparse.any (fun x => x.base != base) then none
      else some { h with
        stored := l.k, rowLines := (l.inputs + 1023) / 1024, planes := fillPlanes posture l f.pass
        cols := fillCols l x f.pass first, pat := if nm then p else 0 }
    | .strata _ _ _ _ _, none => none

/-- Side-table entries of pages or lines of a tensor, read by the port; none where one is not read (R229). -/
def State.readTags (s : State) (w : Who) (x : SparseDecl) : List Nat → State × Option (Tbl Nat)
  | [] => (s, some [])
  | p :: l =>
    let a := x.table + BitVec.ofNat 64 (p / 4)
    match s.readFA w a 1 with
    | (s, .ok b) =>
      (match s.readTags w x l with
        | (s, some r) => (s, some (tset 3 r p (bits (b.headD 0).toNat (2 * (p % 4)) 2)))
        | r => r)
    | (s, r) => (s.unitFail w a r 1, none)

/-- The data bytes of tagged pages in order; a BITMAP page's are in its bitmap, which the port reads first. -/
def State.pageLengths (s : State) (w : Who) (x : SparseDecl) : List (Nat × Nat) → State × Option (List Nat)
  | [] => (s, some [])
  | (p, tag) :: l =>
    let n := 4096 * 8 / elemBits x.fmt.toNat
    let a := x.base + BitVec.ofNat 64 (p * 4096)
    let m : State × Option Nat :=
      if tag = 2 then match s.readFA w a (n / 8) with
        | (s, .ok b) => (s, some (n / 8 + (((List.range n).filter (bitOf b)).length * elemBits x.fmt.toNat + 7) / 8))
        | (s, r) => (s.unitFail w a r (n / 8), none)
      else (s, some (pageBytes x tag))
    match m with
    | (s, some m) =>
      (match s.pageLengths w x l with
        | (s, some r) => (s, some ((tag + 4 * m) :: r))
        | r => r)
    | (s, none) => (s, none)

/-- A half with the tags of what its fill takes; none where an entry is not read, a RESIDENT region does not hold the
pages, or the declared bytes are not those of the pages or pieces and of their loads' scales (R79, R192, R235). -/
def State.taggedHalf (s : State) (c : CtxId) (d : LDie) (t : LTile) (g : UnitCfg) (x : Option ArrayCfg) (h : Half) :
    State × Option Half :=
  let w : Who := ⟨c, false, .settle, g.unit.val⟩
  let fits (h : Half) (n : Nat) : Option Half := if h.size = n then some h else none
  match h.src, g.sparse with
  | some (.pages first count sc), some y =>
    let l := List.range' first count
    (match s.readTags w y l with
      | (s, some tags) =>
        (match s.pageLengths w y (l.map (fun p => (p, tget 3 tags p))) with
          | (s, some tl) =>
            let h := { h with tags := tl, pat := if y.arr = 1 then y.pat else 0, base := (y.base + BitVec.ofNat 64 (first * 4096)).toNat }
            let n := match x, sc with
              | some x, some _ => (tl.length + loadPages x h.pat - 1) / loadPages x h.pat * (loadBytes x (.single 1) h.pat).2
              | _, _ => 0
            (match s.decode (BitVec.ofNat 64 h.base), s.tileKey d t with
              | .here (.spad l' t' off), some k =>
                (s, if l' = d ∧ t' = t ∧ (s.tile k).inResident off (count * 4096) then
                    fits { h with base := off, inSpad := true } (h.pagesBytes + n) else none)
              | _, _ => (s, fits h (h.pagesBytes + n)))
          | (s, none) => (s, none))
      | (s, none) => (s, none))
  | some (.strata _ _ _ _ _), some y =>
    (match s.readTags w y h.lines with
      | (s, some tags) =>
        let h := { h with lineTags := h.lines.foldl (fun (r : Tbl Nat) l => tset 65536 r l (tget 3 tags l)) [] }
        (s, fits h h.pieceBytes)
      | (s, none) => (s, none))
  | some (.strata _ _ _ _ _), none => (s, fits h h.pieceBytes)
  | _, _ => (s, some h)

/-- Pages and lines that a fill reads count by tag (R239). -/
def State.countTags (s : State) (d : LDie) (t : LTile) (tags : List Nat) : State :=
  let n (k : Nat) : Nat := (tags.filter (fun x => x == k)).length
  (List.range 4).foldl (fun (s : State) k => if n k = 0 then s else s.count .sparse (tileRec d t.val) (4 * k) (n k)) s

/-- A read of an address is under way from a node for a weight stream port. -/
def State.underWay (s : State) (src : BitVec 12) (a : Nat) : Bool :=
  let mine (p : Pkt) : Bool := p.opcode == 0x01 && 64 ≤ p.unit.toNat && p.unit.toNat < 96 && p.dest.toNat == a
  s.net.copies.any (fun x => x.src == src && mine x.pkt) || s.net.pendingReq.any (fun e => e.1 == src && mine e.2.2)

/-- A stream port issues a read on VC0: at priority 1, a prefetch at priority 0 with the speculative flag (R283). -/
def State.issueFetch (s : State) (c : CtxId) (d : LDie) (u : Nat) (f : FillDecl) (q : Nat × Nat) : State :=
  let a := BitVec.ofNat 64 q.1
  let w : Who := ⟨c, false, .settle, u⟩
  match s.decode a with
  | .here (.stack k _) =>
    (s.inject (nodeDie ((s.phys d).getD 0)) (nodeStack (s.relocated w k))
      { pktBlank with
        dest := a, opcode := 0x01, vc := 0, prio := if f.pass = .prefetch then 0 else 1
        merge := f.merge, mcast := f.group.isSome, aux := ((f.group.map (·.toNat)).getD 0 : Nat)
        ctx := BitVec.ofNat 5 c.val, spec := f.pass == .prefetch, unit := BitVec.ofNat 7 u
        length := BitVec.ofNat 13 q.2 }).1
  | _ => s.unitFail w a (.fail .addrError 0x4002) q.2

/-- Plane records in reads of a tensor's lines, whatever their size: a line's header and index record are none. -/
def Half.planeRecords (h : Half) (base : Nat) (l : List (Nat × Nat)) : Nat :=
  ((l.map (·.2)).sum - (32 + idxRecord h.pat)
    * (l.filter (fun q => (q.1 - base) % (32 + 128 * h.stored) == 0)).length) / planeRecord h.pat

/-- The reads of a half that no read under way brings are issued: a record feeds every half of the die that waits for it
(R192, R211). The counts of plane records follow (R221). -/
def State.fetchHalf (s : State) (c : CtxId) (d : LDie) (t : LTile) (u : Nat) (f : FillDecl) (h : Half) : State :=
  let l := h.reads.filter (fun q => !s.underWay (nodeDie ((s.phys d).getD 0)) q.1)
  let s := l.foldl (fun (s : State) q => s.issueFetch c d u f q) s
  let s := s.countTags d t (h.tags.map (· % 4) ++ (if h.lineTags = [] then [] else h.lines.filterMap (fun n =>
    if h.takes n || (h.pat == 0 && tget 3 h.lineTags n == 3) then some (tget 3 h.lineTags n) else none)))
  match f.src with
  | .strata base _ _ _ _ =>
    let n := h.planeRecords base.toNat l
    (match f.pass with
      | .first => (s.count .spec (tileRec d t.val) 0x00 n).modUnit (unitKey d u) (fun x => { x with passOne := x.passOne + n })
      | .settle => (s.count .spec (tileRec d t.val) 0x04 n).modUnit (unitKey d u)
          (fun x => { x with settleDone := x.settleDone + (l.map (·.2)).sum })
      | .prefetch => s)
  | _ => s

/-- HALF_FILL_START (R78): the next half, when EMPTY, is FILLING with its declared byte count, and its reads leave. -/
def execHalfFillStart (d : LDie) (t : LTile) (a : Fin 2) (f : FillDecl) (bytes : Nat) (s : State) :
    Host.Outcome State Fault Refusal :=
  let u := streamUnit t a
  match s.live d u, s.tileKey d t with
  | some (c, g), some k =>
    let arr := (s.tile k).arr a
    if 65536 < bytes then .next s.turnAway
    else if (arr.half arr.fillB).st ≠ .empty then
      .next (((s.count .tile (tileRec d t.val) 0x08 1).count .unit (unitKey d u) 0x18 1).turnAway)
    else
      match s.declaredHalf c g (s.tile k) (s.unit (unitKey d u)) f bytes with
      | none => .next s.turnAway
      | some h =>
        match s.taggedHalf c d t g ((s.live d t.val).bind (fun p => arrayCfg p.2)) h with
        | (s, none) => .next s.turnAway
        | (s, some h) =>
          let s := s.modTile k (fun y => y.modArr a (fun z => { z.modHalf z.fillB (fun _ => h) with fillB := !z.fillB }))
          .next (s.fetchHalf c d t u f h).ok
  | _, _ => .next s.turnAway

/-- Bad entries of a page or line of a half act: unsettled ones are held with the half (R217, R231). -/
def State.badEntries (s : State) (c : CtxId) (d : LDie) (t : LTile) (u page : Nat) (unsettled : Bool) (bad : List Bad) : State :=
  match bad with
  | [] => s
  | b :: l =>
    if unsettled then
      s.modUnit (unitKey d u) (fun y =>
        { y with held := match y.held with
            | [] => [{ code := b.2, loc := (unitLoc d).word, time := s.now, extra := l.length }]
            | z :: zs => { z with extra := z.extra + l.length + 1 } :: zs })
    else s.sparseFault c d u (tileRec d t.val) page bad

/-- Data of a page with its bad entries as zeros, by its tag, and those entries (R230). -/
def checkPage (x : SparseDecl) (p tag : Nat) (d : Bytes) : Bytes × List Bad :=
  let w := elemBits x.fmt.toNat
  let n := 4096 * 8 / w
  if tag = 1 then
    let g := nmDecode x.fmt.toNat x.pat n d
    let bad := nmCheck x.pat (p * n) x.elems g
    let vals := packElems w ((g.flatten.zipIdx).map (fun q => if bad.any (fun z => z.1 == q.2) then 0 else q.1.2))
    (vals ++ d.drop vals.length, bad)
  else if tag = 2 then
    let es := bitmapDecode x.fmt.toNat n d
    let bad := bitmapCheck x.fmt.toNat n (p * n) x.elems es
    (d.take (n / 8) ++ packElems w (es.map (fun e => if bad.any (fun z => z.1 == e.1) then 0 else e.2.1)), bad)
  else (d, [])

/-- The index bits of a column of an N:M strata load, as positions by group, and its bad slots: the line index, the
first slot and the bad entries (R230, R236). -/
def Half.badSlots (h : Half) (x : SparseDecl) (i m o : Nat) : Nat × Nat × List Bad :=
  match h.src with
  | some (.strata _ seg _ _ _) =>
    let b := idxBits h.pat
    let z := (seg + i) % lineSegs h.pat
    let at_ := i * h.stride + h.planes.length * 4096 + 8 * b * m
    let v := leNat (bytesAt h.data at_ (8 * b))
    let groups := chunk (patN h.pat) ((List.range 64).map (fun j => (bits v (b * j) b, 0)))
    let line := h.line o (seg + i)
    (line, 64 * z, nmCheck h.pat (line * 1024 + z * 64 * patSpan h.pat) x.elems groups)
  | _ => (0, 0, [])

/-- A slot of a column of a strata load counts as zero: its plane bits go. -/
def Half.zeroSlot (h : Half) (i m j : Nat) : Half :=
  (List.range h.planes.length).foldl (fun (h : Half) p =>
    let a := i * h.stride + p * 4096 + 8 * m + j / 8
    let old := ((bytesAt h.data a 1).headD 0).toNat
    { h with data := putBytes h.data a [BitVec.ofNat 8 (if old.testBit (j % 8) then old - 2 ^ (j % 8) else old)] }) h

/-- What a half that is taken holds of a tagged tensor is checked entry by entry; bad entries count as zero (R230). -/
def State.checkHalf (s : State) (c : CtxId) (d : LDie) (t : LTile) (a : Fin 2) (k : Nat) (b : Bool)
    (x : SparseDecl) : State :=
  let u := streamUnit t a
  let h := ((s.tile k).arr a).half b
  let put (s : State) (f : Half → Half) : State := s.modTile k (fun y => y.modArr a (fun z => z.modHalf b f))
  match h.src with
  | some (.pages first _ _) =>
    (h.tags.zipIdx).foldl (fun (s : State) q =>
      let off := ((h.tags.take q.2).map (· / 4)).sum
      let r := checkPage x (first + q.2) (q.1 % 4) (bytesAt h.data off (q.1 / 4))
      if r.2 = [] then s
      else (put s (fun y => { y with data := putBytes y.data off r.1 })).badEntries c d t u (first + q.2) h.unsettled r.2) s
  | some (.strata _ seg loads _ _) =>
    if h.pat = 0 then s
    else (List.range loads).foldl (fun (s : State) i => ((h.colsAt (seg + i)).zipIdx).foldl (fun (s : State) q =>
      if 65536 ≤ q.1 then s
      else
        let r := h.badSlots x i q.2 q.1
        (put s (fun y => r.2.2.foldl (fun (y : Half) z => y.zeroSlot i q.2 z.1) y)).badEntries c d t u r.1 h.unsettled
          (r.2.2.map (fun z => (z.1 + r.2.1, z.2)))) s) s
  | _ => s

/-- Rounds that the ZERO loads of a half would have taken: one for each vector (R234). -/
def State.skipZeros (s : State) (d : LDie) (t : LTile) (g : UnitCfg) (h : Half) : State :=
  match arrayCfg g with
  | some x =>
    let n := h.zeroLoads x * (g.layer.map (·.v)).getD x.reuse
    if n = 0 then s else s.count .sparse (tileRec d t.val) 0x38 n
  | none => s

/-- HALF_TAKE (R78): the loader takes the next half when it is READY. -/
def execHalfTake (d : LDie) (t : LTile) (a : Fin 2) (s : State) : Host.Outcome State Fault Refusal :=
  match s.live d t.val, s.tileKey d t with
  | some (c, g), some k =>
    let arr := (s.tile k).arr a
    if (arr.inState .inUse).isSome then .next s.turnAway
    else if (arr.half arr.takeB).st ≠ .ready then .next (s.tileWait d t t.val 0x04)
    else
      let s := s.modTile k (fun y => y.modArr a (fun z =>
        { z.modHalf z.takeB (fun h => { h with st := .inUse }) with takeB := !z.takeB }))
      let s := s.skipZeros d t g (arr.half arr.takeB)
      match (s.unit (unitKey d (streamUnit t a))).active.cfg.bind (·.sparse) with
      | some x => .next ((s.checkHalf c d t a k arr.takeB x).ok)
      | none => .next s.ok
  | _, _ => .next s.turnAway

/-- HALF_RELEASE (R78): after the reuse count of reads the half is EMPTY. -/
def execHalfRelease (d : LDie) (t : LTile) (a : Fin 2) (s : State) : Host.Outcome State Fault Refusal :=
  match s.live d t.val, s.tileKey d t with
  | some (_, g), some k =>
    match arrayCfg g, ((s.tile k).arr a).inState .inUse with
    | some x, some b =>
      if x.reuse ≤ (((s.tile k).arr a).half b).uses then
        .next ((s.modTile k (fun y => y.modArr a (fun z => z.modHalf b (fun _ => {})))).ok)
      else .next s.turnAway
    | _, _ => .next s.turnAway
  | _, _ => .next s.turnAway

/-! ### The output stage and its certifier (R82, R193, R197–R206) -/

/-- The biases of outputs from `first` on, read at the layer's address (R193). -/
def State.biases (s : State) (w : Who) (l : LayerDecl) (first count : Nat) : State × Except (W64 × Acc) (Nat → W32) :=
  match l.bias with
  | none => (s, .ok (fun _ => 0))
  | some a =>
    let a := a + BitVec.ofNat 64 (4 * first)
    match s.readFA w a (4 * count) with
    | (s, .ok d) => (s, .ok (fun o => BitVec.ofNat 32 (leNat ((d.drop (4 * (o - first))).take 4))))
    | (s, r) => (s, .error (a, r))

/-- What the certifier finds for one output: every (vector, certified inactive?) and whether
certification is disabled on some vector. -/
def certifyOutput (x : ArrayCfg) (g : LayerDecl) (bias : Nat → W32) (arr : Arr) (o vectors : Nat) :
    List (Nat × Bool) × Bool :=
  let nb := (g.inputs + 31) / 32
  let each := (List.range vectors).map (fun v =>
    let i := v * g.outputs + o
    let y := outValue x (some g) (bias o) o (tget 0 arr.acc i)
    let env := tget 0 arr.env i
    let h := boundH x g (bias o) env nb
    let fine := ffinite (layerScale x g) && ffinite env && ffinite h && ffinite y
    (v, fine && flt (boundUp y h) g.tau, !fine))
  (each.map (fun p => (p.1, p.2.1)), each.any (·.2.2))

/-- An output settles: certification is disabled, or some vector is undecided (R203, R204). -/
def settlesAt (r : List (Nat × Bool) × Bool) : Bool := r.2 || r.1.any (fun p => !p.2)

/-- Accumulators and marks of an output's vectors are released. -/
def Arr.release (x : Arr) (l : List Nat) : Arr :=
  { x with
    acc := x.acc.filter (fun p => !l.contains p.1)
    accUnsettled := x.accUnsettled.filter (fun i => !l.contains i) }

/-- SETTLE tokens of at most 28 indices, and GROUP_END, to the weight stream ports that a port feeds. -/
def settlePayload (tag : W16) (kind : Nat) (group : Nat) (is : List W16) : Bytes :=
  toLe 2 tag.toNat ++ [BitVec.ofNat 8 kind, BitVec.ofNat 8 is.length] ++ toLe 4 group
    ++ (List.range 28).flatMap (fun i => toLe 2 (is.getD i 0).toNat)

/-- The queues at the stream ports that a unit writes settle lists and hints to. -/
def settleQueues (g : UnitCfg) : List (LDie × Fin 448) :=
  (g.outputs.flatMap (·.queues)).filter (fun q => decide (64 ≤ q.2.val / 4) && decide (q.2.val / 4 < 96))

/-- The stream ports' queues have credit for n tokens (R147). -/
def State.settleRoom (s : State) (g : UnitCfg) (n : Nat) : Bool :=
  (settleQueues g).all (fun q => decide (n ≤ (s.queue (queueKey q.1 q.2.val)).credits))

/-- A settle-list token goes to every stream port that the unit feeds. -/
def State.sendSettle (s : State) (c : CtxId) (d : LDie) (u : Nat) (g : UnitCfg) (settled : Bool)
    (payload : Bytes) : State :=
  (settleQueues g).foldl (fun (s : State) q => s.emitTo c d u q (s.mkToken c d u false 0 settled payload)) s

/-- z_j of entries goes to the partial window, whose rows become dirty (R102, R198). -/
def State.spillZ (s : State) (k : Nat) (arr : Arr) (g : LayerDecl) (is : List Nat) : State :=
  match g.partialWindow with
  | some w => is.foldl (fun (s : State) i => s.spadPut k (w + windowPlace g i) (toLe 4 (tget 0 arr.acc i).toNat) false) s
  | none => s

/-- What pass 1 leaves of entries whose (y, h) is known: E goes, z_j of an output that is not needed again or that the
window holds is released, and with r < 8 always (R198, R199). -/
def State.afterFirst (s : State) (a : Fin 2) (k : Nat) (g : LayerDecl) (settles : Bool) (is : List Nat) : State :=
  let arr := (s.tile k).arr a
  let s := if settles && spillsZ g a then s.spillZ k arr g is else s
  s.modTile k (fun y => y.modArr a (fun z =>
    let z := { z with env := z.env.filter (fun p => !is.contains p.1) }
    if !settles || decide (g.r < 8) || spillsZ g a then z.release is else z))

/-- One output of a DEADZONE layer is decided: certified pairs, or the settle list (R204). -/
def State.decideOutput (s : State) (d : LDie) (t : LTile) (a : Fin 2) (k : Nat) (x : ArrayCfg) (g : LayerDecl)
    (bias : Nat → W32) (vectors : Nat) (o : Nat) : State :=
  let rec_ := tileRec d t.val
  let r := certifyOutput x g bias ((s.tile k).arr a) o vectors
  let yes := (r.1.filter (·.2)).map (fun p => p.1 * g.outputs + o)
  let s := (s.count .spec rec_ 0x0C yes.length)
  let s := if r.2 then s.count .spec rec_ 0x20 1 else s
  let s := if settlesAt r then s.count .spec rec_ 0x18 1
    else s.count .spec rec_ 0x08 ((g.inputs + 1023) / 1024 * (g.r - g.j))
  let s := if settlesAt r then s.modTile k (fun y => y.modArr a (fun z => { z with certified := yes ++ z.certified })) else s
  s.afterFirst a k g (settlesAt r) (r.1.map (fun p => p.1 * g.outputs + o))

/-- A partial page that the next bytes do not follow is written DENSE, over the bytes it has (R228). -/
def State.flushPage (s : State) (w : Who) (y : Sender) (x : SparseDecl) (key off : Nat) : State × Bool :=
  let u := s.unit key
  if u.page = [] ∨ u.pos + u.page.length = off then (s, true)
  else
    match s.writeTagged w y x (u.pos / 4096) 0 u.page with
    | (s, true) => (s.modUnit key (fun z => { z with page := [] }), true)
    | r => r

/-- The page that a frame leaves incomplete is written DENSE over its bytes, or as a page where the tensor ends inside
it (R228). -/
def State.endPage (s : State) (w : Who) (y : Sender) (x : SparseDecl) (rec_ key : Nat) : State × Bool :=
  let u := s.unit key
  if u.page = [] then (s, true)
  else
    let r := if (x.elems * elemBits x.fmt.toNat + 7) / 8 ≤ u.pos + u.page.length ∧ u.pos % 4096 = 0 then
        s.writePage w y x rec_ (u.pos / 4096) (u.page ++ List.replicate (4096 - u.page.length) 0)
      else s.writeTagged w y x (u.pos / 4096) 0 u.page
    (if r.2 then r.1.modUnit key (fun z => { z with page := [] }) else r.1, r.2)

/-- Bytes enter the page buffer of an output stage; complete pages are written, and at the end of a frame the
incomplete one (R228). -/
def State.stagePages (s : State) (w : Who) (y : Sender) (x : SparseDecl) (rec_ key off : Nat) (eof : Bool) (bytes : Bytes) :
    State × Bool :=
  match s.flushPage w y x key off with
  | (s, true) =>
    let u := s.unit key
    let pos := if u.page = [] then off else u.pos
    let b := u.page ++ bytes
    let n := b.length / 4096
    (match s.writePages w y x rec_ (pos / 4096) (chunk 4096 (b.take (n * 4096))) with
      | (s, true) =>
        let s := s.modUnit key (fun z => { z with page := b.drop (n * 4096), pos := pos + n * 4096 })
        if eof then s.endPage w y x rec_ key else (s, true)
      | r => r)
  | r => r

/-- The payloads of an output stage leave in tokens, DENSE ones, the last with the firing's eof (R152). -/
def State.stageTokens (s : State) (c : CtxId) (d : LDie) (u : Nat) (g : UnitCfg) (o : StageOut) (l : List Bytes)
    (settled : Bool) : State :=
  (l.zipIdx).foldl (fun (s : State) p =>
    s.emit c d u g 0 (s.mkToken c d u (o.eof && p.2 + 1 == l.length) 0 settled p.1)) s

/-- The written bytes go to the scratchpad, or in tokens of the output queue's width. False where the write or a queue
credit waits, or the write fails. (DEDUCED, log 32) -/
def State.stageStore (s : State) (c : CtxId) (d : LDie) (t : LTile) (g : UnitCfg) (x : ArrayCfg) (o : StageOut)
    (unsettled : Bool) (bytes : Bytes) : State × Bool :=
  let w : Who := ⟨c, false, .plane, t.val⟩
  match o.dest with
  | some off =>
    match x.dest with
    | some y => s.stagePages w (s.senderOf d t.val) y (tileRec d t.val) (unitKey d t.val) off o.eof bytes
    | none =>
      match s.spadWrite w d t off bytes unsettled with
      | (s, .ok _) => (s, true)
      | (s, r) => (s.unitFail w (locSpad d.val t.val off).word r bytes.length, false)
  | none =>
    let l := chunk (max (s.outWidth g 0) 1) bytes
    if !s.canEmitN g 0 l.length then (s.outWait d t.val g, false)
    else
      (s.stageTokens c d t.val g o l (!unsettled), true)

/-- The word of an output: its value, under the dead zone of its layer (R193). -/
def outWord (x : ArrayCfg) (layer : Option LayerDecl) (bias : Nat → W32) (o : Nat) (z : W32) : W32 :=
  let y := outValue x layer (bias o) o z
  match layer with
  | some g => if g.mode = .deadzone then deadzone g.tau y else y
  | none => y

/-- Outputs whose value is written now: their words vector by vector. -/
def stageWords (x : ArrayCfg) (layer : Option LayerDecl) (bias : Nat → W32) (arr : Arr) (vectors : Nat) (outs : List Nat)
    (zeroed : List Nat) : List W32 :=
  (List.range vectors).flatMap (fun v => outs.map (fun o =>
    let i := v * outsOf x layer + o
    if zeroed.contains i then 0 else outWord x layer bias o (tget 0 arr.acc i)))

/-- Words convert under the tile's generator, with their counts, and are stored (R63, R68, R73). False as in stageStore:
then nothing has converted. -/
def State.stageConvert (s : State) (c : CtxId) (d : LDie) (t : LTile) (k : Nat) (g : UnitCfg) (x : ArrayCfg)
    (o : StageOut) (unsettled : Bool) (ws : List W32) : State × Bool :=
  let (bytes, gen, cnt) := stageBytes x.outFmt.toNat x.conv.toNat (s.tile k).sr ws
  match s.stageStore c d t g x o unsettled bytes with
  | (s, true) => ((s.modTile k (fun y => { y with sr := gen })).countConv (arithTile d.val t.val) cnt, true)
  | r => r

/-- The words of outputs convert and are stored; the accumulators are released. -/
def State.stageWrite (s : State) (c : CtxId) (d : LDie) (t : LTile) (a : Fin 2) (k : Nat) (g : UnitCfg)
    (x : ArrayCfg) (bias : Nat → W32) (o : StageOut) (outs zeroed : List Nat) : State × Bool :=
  let arr := (s.tile k).arr a
  let all := (List.range o.vectors).flatMap (fun v => outs.map (fun i => v * outsOf x g.layer + i))
  match s.stageConvert c d t k g x o (all.any (fun i => arr.accUnsettled.contains i))
      (stageWords x g.layer bias arr o.vectors outs zeroed) with
  | (s, true) =>
    (s.modTile k (fun y => y.modArr a (fun z =>
      { z.release all with certified := z.certified.filter (fun i => !all.contains i) })), true)
  | r => r

/-- A command that has run, or that waits. -/
def State.okOr (r : State × Bool) : State := if r.2 then r.1.ok else r.1.turnAway

/-- Pass 1 of a TOPK layer: (y, h) of each candidate and vector goes to the context's commons segments at `dest`
(R206). -/
def State.stageBounds (s : State) (c : CtxId) (d : LDie) (t : LTile) (a : Fin 2) (k : Nat) (x : ArrayCfg) (l : LayerDecl)
    (bias : Nat → W32) (o : StageOut) (outs : List Nat) : State × Bool :=
  let arr := (s.tile k).arr a
  let nb := (l.inputs + 31) / 32
  let all := (List.range o.vectors).flatMap (fun v => outs.map (fun i => (v * l.outputs + i, i)))
  let bytes := all.flatMap (fun p =>
    toLe 4 (outValue x (some l) (bias p.2) p.2 (tget 0 arr.acc p.1)).toNat
      ++ toLe 4 (boundH x l (bias p.2) (tget 0 arr.env p.1) nb).toNat)
  let w : Who := ⟨c, false, .certifier, t.val⟩
  match s.commonsWrite w d (o.dest.getD 0) bytes (arr.accUnsettled != []) with
  | (s, .ok _) => (s.afterFirst a k l true (all.map (·.1)), true)
  | (s, r) => (s.unitFail w (locCommons d.val (o.dest.getD 0)).word r bytes.length, false)

/-- The outputs of a DEADZONE layer on their first visit: those that do not settle are written as +0, and the others go
to the settle list and to the stream ports (R204, R208). False where a write or a queue credit waits: nothing is decided. -/
def State.stageDecide (s : State) (c : CtxId) (d : LDie) (t : LTile) (a : Fin 2) (k : Nat) (g : UnitCfg) (x : ArrayCfg)
    (l : LayerDecl) (bias : Nat → W32) (o : StageOut) (fresh : List Nat) : State × Bool :=
  let key := unitKey d t.val
  let arr := (s.tile k).arr a
  let settles := fresh.filter (fun i => settlesAt (certifyOutput x l bias arr i o.vectors))
  let zeros := fresh.filter (fun i => !settles.contains i)
  let idx := settles.map (fun i => BitVec.ofNat 16 i)
  let lists := chunk 28 idx
  let last := decide (o.firstOutput + o.count = l.outputs) && fresh != []
  if !s.settleRoom g (lists.length + b2n last) then (s.outWait d t.val g, false)
  else
    match (if zeros = [] then (s, true)
      else s.stageConvert c d t k g x o false (zeros.flatMap (fun _ => List.replicate o.vectors (0 : W32)))) with
    | (s, false) => (s, false)
    | (s, true) =>
      let s := fresh.foldl (fun (s : State) i => s.decideOutput d t a k x l bias o.vectors i) s
      let group := (s.unit key).groupNo
      let s := s.modUnit key (fun y => { y with settleList := y.settleList ++ idx })
      let s := lists.foldl (fun (s : State) p => s.sendSettle c d t.val g true (settlePayload l.tag 0 group p)) s
      (if last then
        (s.sendSettle c d t.val g true (settlePayload l.tag 2 group [])).modUnit key (fun y => { y with groupNo := if o.eof then 0 else y.groupNo + 1 })
      else s, true)

/-- The partial z and E of outputs leave in tokens: 8 bytes for each output and vector, vector by vector (R197). (DESIGN CHOICE, log 137) -/
def State.stageSend (s : State) (c : CtxId) (d : LDie) (t : LTile) (a : Fin 2) (k : Nat) (g : UnitCfg) (x : ArrayCfg)
    (o : StageOut) (outs : List Nat) : State × Bool :=
  let arr := (s.tile k).arr a
  let all := (List.range o.vectors).flatMap (fun v => outs.map (fun i => v * outsOf x g.layer + i))
  let l := chunk (max (s.outWidth g 0) 8) (all.flatMap (fun i =>
    toLe 4 (tget 0 arr.acc i).toNat ++ toLe 4 (tget 0 arr.env i).toNat))
  if !s.canEmitN g 0 l.length then (s.outWait d t.val g, false)
  else
    let s := s.stageTokens c d t.val g o l (arr.accUnsettled == [])
    (s.modTile k (fun y => y.modArr a (fun z =>
      { z.release all with env := z.env.filter (fun p => !all.contains p.1) })), true)

/-- Partial z and E from a token of an input port are added to the outputs' own: z under R60, E rounding toward +∞
(R197). -/
def State.stageCombine (s : State) (c : CtxId) (d : LDie) (t : LTile) (a : Fin 2) (k : Nat) (g : UnitCfg) (x : ArrayCfg)
    (port : Fin 4) (o : StageOut) (outs : List Nat) : State × Bool :=
  let all := (List.range o.vectors).flatMap (fun v => outs.map (fun i => v * outsOf x g.layer + i))
  let r := s.heads c d t.val g
  match r.2.find? (fun p => p.1.port == port) with
  | some (i, some tok) =>
    if tok.payload.length < 8 * all.length then (r.1, false)
    else
      let part (n : Nat) : W32 := BitVec.ofNat 32 (leNat ((tok.payload.drop (4 * n)).take 4))
      let q := (all.zipIdx).foldl (fun (q : Tbl W32 × Tbl W32 × ConvCount) e =>
          let z := addNote (tget 0 q.1 e.1, {}) (part (2 * e.2))
          (tset 0 q.1 e.1 z.1,
            tset 0 q.2.1 e.1 (toF32Dir true (vadd (ofF32 (tget 0 q.2.1 e.1)) (ofF32 (part (2 * e.2 + 1))))),
            q.2.2.plus z.2))
        (((r.1.tile k).arr a).acc, ((r.1.tile k).arr a).env, ({} : ConvCount))
      (((r.1.consume c d t.val i tok).modTile k (fun y => y.modArr a (fun z =>
        { z with
          acc := q.1, env := q.2.1
          accUnsettled := if tok.settled then z.accUnsettled else all ++ z.accUnsettled }))).countConv
        (arithTile d.val t.val) q.2.2, true)
  | _ => ((r.1.count .unit (unitKey d t.val) 0x10 1), false)

/-- Outputs of a layer are completed. Under the two-pass schedule the first visit of an output decides it and the second
writes what settled. -/
def State.stageLayer (s : State) (c : CtxId) (d : LDie) (t : LTile) (a : Fin 2) (k : Nat) (g : UnitCfg) (x : ArrayCfg)
    (l : LayerDecl) (bias : Nat → W32) (o : StageOut) (outs : List Nat) : State × Bool :=
  let key := unitKey d t.val
  if !twoPass (s.ctx c).specPosture l then s.stageWrite c d t a k g x bias o outs []
  else if l.mode = .topk then
    if ((s.tile k).arr a).activeSettle then s.stageWrite c d t a k g x bias o outs []
    else s.stageBounds c d t a k x l bias o outs
  else
    let list := (s.unit key).settleList
    let due := outs.filter (fun i => list.contains (BitVec.ofNat 16 i))
    let fresh := outs.filter (fun i => !list.contains (BitVec.ofNat 16 i))
    match (if due = [] then (s, true) else s.stageWrite c d t a k g x bias o due ((s.tile k).arr a).certified) with
    | (s, false) => (s, false)
    | (s, true) =>
      let s := s.modUnit key (fun y => { y with settleList := y.settleList.filter (fun i => !due.contains i.toNat) })
      if fresh = [] then (s, true) else s.stageDecide c d t a k g x l bias o fresh

/-- OUTPUT_STAGE_WRITE (R82, R197, R204, R206). A write or a queue that waits turns the command away, and it is sent
again. -/
def execOutputStageWrite (d : LDie) (t : LTile) (a : Fin 2) (o : StageOut) (s : State) :
    Host.Outcome State Fault Refusal :=
  match s.live d t.val, s.tileKey d t with
  | some (c, g), some k =>
    match arrayCfg g with
    | none => .next s.turnAway
    | some x =>
      let outs := List.range' o.firstOutput o.count
      if 16384 < outsOf x g.layer * o.vectors ∧ g.layer.isNone then .next s.turnAway
      else match o.part with
        | .send => .next (State.okOr (s.stageSend c d t a k g x o outs))
        | .combine port => .next (State.okOr (s.stageCombine c d t a k g x port o outs))
        | .finish =>
          match g.layer with
          | none => .next (State.okOr (s.stageWrite c d t a k g x (fun _ => 0) o outs []))
          | some l =>
            let w : Who := ⟨c, false, .none, t.val⟩
            match s.biases w l o.firstOutput o.count with
            | (s, .error (b, r)) => .next (s.unitFail w b r (4 * o.count)).turnAway
            | (s, .ok bias) => .next (State.okOr (s.stageLayer c d t a k g x l bias o outs))
  | _, _ => .next s.turnAway

/-! ### The lane unit -/

/-- A lane memory access: below 2^22 a scratchpad offset, from there on an address, through the cache where the lane
unit's configuration marks its accesses cacheable (R86, R97). -/
def State.laneAccess (s : State) (c : CtxId) (d : LDie) (t : LTile) (k : Nat) (cacheable : Bool) (off : Nat)
    (put : Option Bytes) : State × Acc :=
  let w : Who := ⟨c, false, .none, 16 + t.val⟩
  let a := BitVec.ofNat 64 off
  if off < 2 ^ 22 then
    match put with
    | some b => s.spadWrite w d t off b false
    | none => s.spadRead w d t off 256
  else if cacheable then s.cached w (tileRec d t.val) k a put 256 4
  else match put with
    | some b => s.writeOut w (s.senderOf d (16 + t.val)) a b
    | none => s.readFA w a 256

/-- What a lane access leaves: an instruction whose access waits or fails does not complete. -/
def State.laneEnd (s : State) (w : Who) (a : W64) (r : Acc) : State := (s.unitFail w a r 256).turnAway

/-- 64 outputs of an array, from entry `first` on, straight from its output stage (R86): none where the outputs are not
of one vector, are unsettled, or are decided in two passes. -/
def State.stageLanes (s : State) (c : CtxId) (d : LDie) (t : LTile) (k : Nat) (a : Fin 2) (first : Nat) :
    State × Option (List W32) :=
  match s.live d t.val with
  | some (c', g) =>
    match arrayCfg g with
    | none => (s, none)
    | some x =>
      let n := max 1 (outsOf x g.layer)
      let arr := (s.tile k).arr a
      let is := List.range' first 64
      let w : Who := ⟨c, false, .none, 16 + t.val⟩
      if c' ≠ c ∨ n < first % n + 64 ∨ is.any (fun i => arr.accUnsettled.contains i)
          ∨ g.layer.any (fun l => twoPass (s.ctx c).specPosture l) then (s, none)
      else
        let q := match g.layer with
          | some l => s.biases w l (first % n) 64
          | none => (s, .ok (fun _ => 0))
        (match q.2 with
          | .error (b, r) => (q.1.unitFail w b r 256, none)
          | .ok bias =>
            (q.1.modTile k (fun y => y.modArr a (fun z => z.release is)),
              some (is.map (fun i => outWord x g.layer bias (i % n) (tget 0 arr.acc i)))))
  | none => (s, none)

/-- LANE_INSTRUCTION (R85): one instruction on all 64 lanes. A reserved format code or control is refused with its fault
(R54, R63); an access that waits turns the instruction away (R106). A lane conversion to or from an MX or strata format
converts each lane as one element at block scale 1. (DESIGN CHOICE, log 138) -/
def execLaneInstruction (d : LDie) (t : LTile) (i : LaneInstr) (s : State) :
    Host.Outcome State Fault Refusal :=
  match s.live d (16 + t.val), s.tileKey d t with
  | some (c, g), some k =>
    let x := s.tile k
    let a := i.a.val
    let b := i.b.val
    let s := s.count64 .unit (unitKey d (16 + t.val)) 0x08 1
    let addr (off : Nat) : W64 :=
      if off < 2 ^ 22 then (locSpad d.val t.val off).word else BitVec.ofNat 64 off
    let cacheable := match g.op with | .lane _ _ y => y | _ => false
    let w : Who := ⟨c, false, .none, 16 + t.val⟩
    let refuse (code : W16) : State := (s.fault code (some c) (unitLoc d) (16 + t.val)).turnAway
    match i.op with
    | .cmpLt => .next ((s.modTile k (fun y => { y with mask := laneMask x flt a b })).ok)
    | .cmpEq => .next ((s.modTile k (fun y => { y with mask := laneMask x feq a b })).ok)
    | .icmpLt =>
      .next ((s.modTile k (fun y => { y with mask := laneMask x (fun p q => p.slt q) a b })).ok)
    | .convFrom f => if fmtOk f.toNat then
        .next ((s.modTile k (fun y =>
          y.setReg i.dst.val (fun n => laneResult x (.convFrom f) 0 a b i.c.val n))).ok)
      else .next (refuse 0x8011)
    | .convTo f cv =>
      if !fmtOk f.toNat then .next (refuse 0x8011)
      else if !convOk cv.toNat then .next (refuse 0x8010)
      else
        let (es, gen, cnt) := convList f.toNat cv.toNat x.sr ((List.range 64).map (fun n => ofF32 (x.lane a n)))
        .next (((s.modTile k (fun y =>
          { y.setReg i.dst.val (fun n => BitVec.ofNat 32 (es.getD n 0)) with sr := gen })).countConv
          (arithTile d.val t.val) cnt).ok)
    | .load off =>
      match s.laneAccess c d t k cacheable off none with
      | (s, .ok bs) =>
        .next ((s.modTile k (fun y =>
          y.setReg i.dst.val (fun n => BitVec.ofNat 32 (leNat ((bs.drop (4 * n)).take 4))))).ok)
      | (s, r) => .next (s.laneEnd w (addr off) r)
    | .store off =>
      match s.laneAccess c d t k cacheable off (some (x.regBytes a)) with
      | (s, .ok _) => .next s.ok
      | (s, r) => .next (s.laneEnd w (addr off) r)
    | .stage arr first =>
      match s.stageLanes c d t k arr first with
      | (s, some ws) => .next ((s.modTile k (fun y => y.setReg i.dst.val (fun n => ws.getD n 0))).ok)
      | (s, none) => .next s.turnAway
    | op =>
      let f := s.free
      let r := laneResult x op s.freeCount a b i.c.val
      .next (((f.2.modTile k (fun y => y.setReg i.dst.val r)).countConv (arithTile d.val t.val)
        (sumCounts ((List.range 64).map (fun n => laneNote x op s.freeCount a b i.c.val n (r n))))).ok)
  | _, _ => .next s.turnAway

/-! ### Scratchpad accesses (R88–R90, R106) -/

/-- Bytes of a request. -/
def reqSize (r : MemReq) : Nat := if r.write then r.data.length else r.len

/-- A request that a bank's arbiter takes: of one of its requesters, 1 to 128 bytes, inside the memory (R89, R112). -/
def reqFits (r : MemReq) (ports size : Nat) : Bool :=
  decide (r.port < ports) && decide (0 < reqSize r) && decide (reqSize r ≤ 128) && decide (r.addr + reqSize r ≤ size)

/-- A request that crosses a 128-byte boundary is split in two (R89, R112). -/
def reqSplit (r : MemReq) : List MemReq :=
  let n := 128 - r.addr % 128
  if reqSize r ≤ n then [r]
  else [{ r with data := r.data.take n, len := n }, { r with addr := r.addr + n, data := r.data.drop n, len := r.len - n }]

/-- The accesses of the requests of a cycle that start at a bank (R87, R89, R111, R112). -/
def atBank (ports banks size bank : Nat) (reqs : List MemReq) : List MemReq :=
  (reqs.filter (fun r => r.addr / 128 % banks == bank && reqFits r ports size)).flatMap reqSplit

/-- The request that a round-robin pointer grants: the first requester at or after it, else the lowest. -/
def roundRobin (ptr n : Nat) (reqs : List MemReq) : Option MemReq :=
  (List.range n).findSome? (fun i => reqs.find? (fun r => r.port == (ptr + i) % n))

/-- Requests wait at their banks. -/
def enqueue (banks : Nat) (w : Tbl (List MemReq)) (reqs : List MemReq) : Tbl (List MemReq) :=
  reqs.foldl (fun w r => tset [] w (r.addr / 128 % banks) (tget [] w (r.addr / 128 % banks) ++ [r])) w

/-- A request at a closed bank (R106): it counts; RETRY holds it until the bank reopens, FAIL raises 0x4063 and
halts. -/
def State.bankShut (s : State) (d : LDie) (t : LTile) (k : Nat) (r : MemReq) : State :=
  let s := s.count .tile (tileRec d t.val) 0x24 1
  if s.obj 0x2242 (r.ctx.val + 1) = 1 then
    (s.fault 0x4063 (some r.ctx) (locSpad d.val t.val r.addr) (portUnit t r.port)).haltCtx r.ctx
  else (s.loseTurn d t r).modTile k (fun y => { y with bankHeld := enqueue 32 y.bankHeld [r] })

/-- The granted access. Data of the weight-fill port lands in the halves that fill from its RESIDENT region (R79). -/
def State.spadGrant (s : State) (d : LDie) (t : LTile) (k : Nat) (r : MemReq) : State :=
  let w : Who := ⟨r.ctx, r.firmware, r.role, portUnit t r.port⟩
  let a := (locSpad d.val t.val r.addr).word
  if r.write then
    match s.spadWrite w d t r.addr r.data r.unsettled with
    | (s, .ok _) => s.status .ok
    | (s, .fail st c) => (s.unitFail w a (.fail st c) (reqSize r)).status st
    | (s, x) => s.unitFail w a x
  else
    match s.spadRead w d t r.addr r.len with
    | (s, .ok b) =>
      let s := if r.port = 9 then s.modTile k (fun y =>
          { y with arr0 := y.arr0.land true r.addr b, arr1 := y.arr1.land true r.addr b }) else s
      { s with answer := .data .ok b }
    | (s, .fail st c) => (s.unitFail w a (.fail st c) (reqSize r)).status st
    | (s, x) => s.unitFail w a x

/-- The accesses of a cycle at a tile wait at their banks, or meet a closed one. -/
def State.spadArrive (s : State) (d : LDie) (t : LTile) (k : Nat) (reqs : List MemReq) : State :=
  reqs.foldl (fun (s : State) r =>
    if (tget BankSt.open (s.tile k).banks (r.addr / 128 % 32)).shut then s.bankShut d t k r
    else s.modTile k (fun y => { y with bankWait := enqueue 32 y.bankWait [r] })) s

/-- SCRATCHPAD_ACCESS (R89): the accesses that arrive wait at their banks; the bank grants one requester, and every other
one there loses a cycle and goes on waiting. -/
def execScratchpadAccess (d : LDie) (t : LTile) (bank : Fin 32) (reqs : List MemReq) (s : State) :
    Host.Outcome State Fault Refusal :=
  match s.tileKey d t with
  | none => .next s.turnAway
  | some k =>
    let mine := atBank 13 32 (2 ^ 22) bank.val reqs
    let s := s.spadArrive d t k mine
    match roundRobin (tget 0 (s.tile k).bankPtr bank.val) 13 (tget [] (s.tile k).bankWait bank.val) with
    | none => .next (if mine = [] then s.turnAway else s.status .bankClosed)
    | some r =>
      let s := s.modTile k (fun y =>
        { y with bankWait := tset [] y.bankWait bank.val ((tget [] y.bankWait bank.val).erase r) })
      .next (s.spadGrant d t k r)

/-! ### Commons accesses (R112, R117) -/

/-- The unit behind a requester of a commons bank: 0–7 and 8–15 the engines' read and write ports, 16
the sequencer, 17 the tiles, 18 the router, 19 the scan port. -/
def commonsUnit (p : Nat) : Nat := if p < 16 then 96 + p % 8 else 0x7F

/-- A request at a closed commons bank: RETRY holds it until the bank reopens, FAIL raises 0x4063 and halts (R106,
R117). -/
def State.commonsShut (s : State) (d : LDie) (p : Nat) (r : MemReq) : State :=
  if s.obj 0x2242 (r.ctx.val + 1) = 1 then
    (s.fault 0x4063 (some r.ctx) (locCommons d.val r.addr) (commonsUnit r.port)).haltCtx r.ctx
  else s.modCommons p (fun y => { y with bankHeld := enqueue 64 y.bankHeld [r] })

/-- The granted access; the router port never carries an unsettled slot. -/
def State.commonsGrant (s : State) (d : LDie) (r : MemReq) : State :=
  let w : Who := ⟨r.ctx, r.firmware, if r.port = 18 then .none else r.role, commonsUnit r.port⟩
  let a := (locCommons d.val r.addr).word
  if r.write then
    match s.commonsWrite w d r.addr r.data r.unsettled with
    | (s, .ok _) => s.status .ok
    | (s, .fail st c) => (s.unitFail w a (.fail st c) (reqSize r)).status st
    | (s, x) => s.unitFail w a x
  else
    match s.commonsRead w d r.addr r.len with
    | (s, .ok b) => { s with answer := .data .ok b }
    | (s, .fail st c) => (s.unitFail w a (.fail st c) (reqSize r)).status st
    | (s, x) => s.unitFail w a x

/-- The accesses of a cycle at a commons wait at their banks, or meet a closed one. -/
def State.commonsArrive (s : State) (d : LDie) (p : Nat) (reqs : List MemReq) : State :=
  reqs.foldl (fun (s : State) r =>
    if (tget BankSt.open (s.commons p).banks (r.addr / 128 % 64)).shut then s.commonsShut d p r
    else s.modCommons p (fun y => { y with bankWait := enqueue 64 y.bankWait [r] })) s

/-- COMMONS_ACCESS (R112): the accesses that arrive wait at their banks; the bank grants one requester, round-robin from
its pointer, and the others go on waiting. -/
def execCommonsAccess (d : LDie) (bank : Fin 64) (reqs : List MemReq) (s : State) :
    Host.Outcome State Fault Refusal :=
  match s.phys d with
  | none => .next s.turnAway
  | some p =>
    let mine := atBank 20 64 (2 ^ 25) bank.val reqs
    let s := s.commonsArrive d p mine
    match roundRobin (tget 0 (s.commons p).ptr bank.val) 20 (tget [] (s.commons p).bankWait bank.val) with
    | none => .next (if mine = [] then s.turnAway else s.status .bankClosed)
    | some r =>
      let s := s.modCommons p (fun y =>
        { y with
          ptr := tset 0 y.ptr bank.val ((r.port + 1) % 20)
          bankWait := tset [] y.bankWait bank.val ((tget [] y.bankWait bank.val).erase r) })
      .next (s.commonsGrant d r)

/-! ### Cache operations (R98) -/

/-- The issuing unit of a cache operation: of the context that holds the tile. -/
def State.cacheWho (s : State) (d : LDie) (t : LTile) : Option (Who × Nat) :=
  match s.tileKey d t, allCtx.find? (fun c => (s.ctx c).holdsTile d t) with
  | some k, some c => some (⟨c, false, .none, 16 + t.val⟩, k)
  | _, _ => none

/-- A cache operation on a tile; it completes when every write-back has been acknowledged, and waits otherwise (R98). -/
def State.cacheCmd (s : State) (d : LDie) (t : LTile) (op : CacheOp) (base : W64) (bytes : Nat) : State :=
  match s.cacheWho d t with
  | some (w, k) => State.okOr (s.cacheRange w (tileRec d t.val) k op (lineRange base bytes))
  | none => s.turnAway

/-- CLEAN (R98): dirty lines in range are written back and stay valid. -/
def execClean (d : LDie) (t : LTile) (base : W64) (bytes : Nat) (s : State) :
    Host.Outcome State Fault Refusal := .next (s.cacheCmd d t .clean base bytes)

/-- INVALIDATE (R98): lines in range go without write-back. -/
def execInvalidate (d : LDie) (t : LTile) (base : W64) (bytes : Nat) (s : State) :
    Host.Outcome State Fault Refusal := .next (s.cacheCmd d t .invalidate base bytes)

/-- CLEAN_INVALIDATE (R98): dirty lines in range are written back, and every line in range goes. -/
def execCleanInvalidate (d : LDie) (t : LTile) (base : W64) (bytes : Nat) (s : State) :
    Host.Outcome State Fault Refusal := .next (s.cacheCmd d t .cleanInvalidate base bytes)

/-! ### Credits (R92–R95) -/

/-- SP_CREDIT_REQ (R92): the request of a source node and its answer. -/
def execSpCreditReq (node : BitVec 12) (c : CtxId) (d : LDie) (t : LTile) (window n : Nat) (s : State) :
    Host.Outcome State Fault Refusal :=
  match s.phys d with
  | none => .next s.turnAway
  | some _ => .next ((s.creditRequest ⟨node, c, d, t, window, n⟩).ok)

/-- SP_CREDIT_REPLY (R92): the reply in front of a source die acts: GRANT gives the ID, DENY_FULL waits
for another request, DENY_RANGE raises fault 0x4062. -/
def execSpCreditReply (src : LDie) (s : State) : Host.Outcome State Fault Refusal :=
  match tget [] s.tiles.replies src.val with
  | [] => .next s.turnAway
  | (r, ans) :: rest =>
    let s := { s with tiles := { s.tiles with replies := tset [] s.tiles.replies src.val rest } }
    match ans with
    | .grant i => .next { s with answer := .word .ok (BitVec.ofNat 64 i.val) }
    | .denyFull =>
      .next ({ s with tiles := { s.tiles with
        denied := tset [] s.tiles.denied src.val (tget [] s.tiles.denied src.val ++ [(r, s.now)]) } }.status
        .nocredit)
    | .denyRange =>
      .next ((s.fault 0x4062 (some r.ctx) (locSpad r.die.val r.tile.val r.window)).status .denied)

/-- DENY_FULL_RETRY (R92): at least 1 µs after a DENY_FULL the source asks again. -/
def execDenyFullRetry (src : LDie) (s : State) : Host.Outcome State Fault Refusal :=
  match tget [] s.tiles.denied src.val with
  | [] => .next s.turnAway
  | (r, t0) :: rest =>
    let s := s.notBefore (t0 + 1000)
    .next (({ s with tiles := { s.tiles with
      denied := tset [] s.tiles.denied src.val rest } }.creditRequest r).ok)

/-- CREDIT_RETURN (R93): the source returns a credit, which retires. -/
def execCreditReturn (d : LDie) (t : LTile) (id : Fin 64) (s : State) :
    Host.Outcome State Fault Refusal :=
  match s.tileKey d t with
  | none => .next s.turnAway
  | some k =>
    if (tget none (s.tile k).credits id.val).isSome then
      .next ((s.modTile k (fun y => { y with credits := tset none y.credits id.val none })).ok)
    else .next s.turnAway

/-- CREDIT_EXPIRY (R94): the lifetime has elapsed, time with a closed bank apart; uncharged bytes raise
event 0x4061. -/
def execCreditExpiry (d : LDie) (t : LTile) (id : Fin 64) (s : State) :
    Host.Outcome State Fault Refusal :=
  match s.tileKey d t with
  | none => .next s.turnAway
  | some k =>
    match tget none (s.tile k).credits id.val with
    | none => .next s.turnAway
    | some q =>
      if (s.tile k).shutAt = none then
        let s := s.notBefore (q.granted + q.frozen + s.obj 0x2241 (q.ctx.val + 1) * 1000)
        let s := s.modTile k (fun y => { y with credits := tset none y.credits id.val none })
        if q.charged < q.units * 4096 then
          .next (((s.count .tile (tileRec d t.val) 0x20 1).event 0x4061 (some q.ctx)
            (locSpad d.val t.val q.window)).ok)
        else .next s.ok
      else .next s.turnAway

/-! ### Bank power-down (R105–R107, R117, R266) -/

/-- A bank takes a state; a tile's credit timers stand still from its first closed bank on. -/
def State.setBank (s : State) (r : BankRef) (x : BankSt) : State :=
  match r with
  | .spad d t b =>
    s.modTile (d.val * 20 + t.val) (fun y =>
      let z := { y with banks := tset .open y.banks b.val x }
      let z := if z.shutAt.isNone && z.anyShut then { z with shutAt := some s.now } else z
      z.thaw s.now)
  | .commons d b => s.modCommons d.val (fun y => { y with banks := tset .open y.banks b.val x })
  | .stack k b => s.modStack k.val (fun y => { y with banks := tset .open y.banks b.val x })

/-- A tile is in a context region: its banks are never OFF (R100). -/
def State.inRegion (s : State) (d : Die) (t : PTile) : Bool :=
  match s.logical d.val, s.logicalTile d.val t.val with
  | some l, some u => allCtx.any (fun c => (s.ctx c).holdsTile l u)
  | _, _ => false

/-- A commons of a die in a context region. -/
def State.commonsHeld (s : State) (d : Die) (b : Fin 64) : Bool :=
  (s.commons d.val).seg.any (fun p => p.2.isSome) && b.val < 64

/-- Is the close mode one that R100, R117 and R266 admit for the bank? -/
def State.modeOk (s : State) (r : BankRef) (m : CloseMode) : Bool :=
  match r, m with
  | _, .retain => true
  | .spad d t _, .off => !s.inRegion d t
  | .commons d b, .off => !s.commonsHeld d b
  | .stack k b, .off => s.bankOwner k.val b.val == 0xFF || s.bankOwner k.val b.val == 0xFD

/-- Requests that are present at a bank's arbiter when it closes are accepted and complete (R105). -/
def State.drainBank (s : State) : BankRef → State
  | .spad d t b =>
    let k := d.val * 20 + t.val
    match s.logical d.val, s.logicalTile d.val t.val with
    | some l, some u =>
      (tget [] (s.tile k).bankWait b.val).foldl (fun (s : State) r => s.spadGrant l u k r)
        (s.modTile k (fun y => { y with bankWait := tset [] y.bankWait b.val [] }))
    | _, _ => s
  | .commons d b =>
    match s.logical d.val with
    | some l =>
      (tget [] (s.commons d.val).bankWait b.val).foldl (fun (s : State) r => s.commonsGrant l r)
        (s.modCommons d.val (fun y => { y with bankWait := tset [] y.bankWait b.val [] }))
    | none => s
  | .stack _ _ => s

/-- Requests that RETRY held are presented again when their bank has reopened (R106). -/
def State.presentHeld (s : State) : BankRef → State
  | .spad d t b => s.modTile (d.val * 20 + t.val) (fun y =>
      { y with
        bankWait := tset [] y.bankWait b.val (tget [] y.bankWait b.val ++ tget [] y.bankHeld b.val)
        bankHeld := tset [] y.bankHeld b.val [] })
  | .commons d b => s.modCommons d.val (fun y =>
      { y with
        bankWait := tset [] y.bankWait b.val (tget [] y.bankWait b.val ++ tget [] y.bankHeld b.val)
        bankHeld := tset [] y.bankHeld b.val [] })
  | .stack _ _ => s

/-- BANK_CLOSE (R105): what is at the bank completes, and the bank is closed to new requests. -/
def execBankClose (b : BankRef) (m : CloseMode) (s : State) : Host.Outcome State Fault Refusal :=
  if s.bankSt b = .open ∧ s.modeOk b m then .next (((s.drainBank b).setBank b (.closing m)).ok)
  else .next s.turnAway

/-- BANK_CLOSE_COMPLETE (R107): accepted requests are done, and the bank is at retention or unpowered. -/
def execBankCloseComplete (b : BankRef) (s : State) : Host.Outcome State Fault Refusal :=
  match s.bankSt b with
  | .closing m => .next ((s.setBank b (.closed m)).ok)
  | _ => .next s.turnAway

/-- BANK_REOPEN (R107): supply is restored. -/
def execBankReopen (b : BankRef) (s : State) : Host.Outcome State Fault Refusal :=
  match s.bankSt b with
  | .closed m => .next ((s.setBank b (.opening m)).ok)
  | _ => .next s.turnAway

/-- The contents of a bank go: slots of 128 bytes whose bank number is b, or the bank of a stack. -/
def State.zeroBankOf (s : State) : BankRef → State
  | .spad d t b =>
    let k := d.val * 20 + t.val
    let keep (a : Nat) : Bool := a / 16 % 32 != b.val
    let s := s.modTile k (fun y =>
      { y with
        bad := y.bad.filter keep, weak := y.weak.filter keep
        unsettled := y.unsettled.filter (fun n => n % 32 != b.val) })
    { s with spadMem := s.spadMem.filter (fun p =>
        !(decide (spadBase k ≤ p.1) && decide (p.1 < spadBase (k + 1)) && p.1 / 128 % 32 == b.val)) }
  | .commons d b =>
    let keep (a : Nat) : Bool := a / 16 % 64 != b.val
    let s := s.modCommons d.val (fun y =>
      { y with
        bad := y.bad.filter keep, weak := y.weak.filter keep, counted := y.counted.filter keep
        unsettled := y.unsettled.filter (fun n => n % 64 != b.val) })
    { s with commonsMem := s.commonsMem.filter (fun p =>
        !(decide (commonsBase d.val ≤ p.1) && decide (p.1 < commonsBase (d.val + 1))
          && p.1 / 128 % 64 == b.val)) }
  | .stack k b => s.zeroBank k.val b.val

/-- The nodes that a bank notifies, and the state without them. -/
def State.takeNotify (s : State) : BankRef → List (BitVec 12) × State
  | .spad d t b =>
    let k := d.val * 20 + t.val
    (tget [] (s.tile k).notify b.val, s.modTile k (fun y => { y with notify := tset [] y.notify b.val [] }))
  | .commons d b =>
    (tget [] (s.commons d.val).notify b.val,
      s.modCommons d.val (fun y => { y with notify := tset [] y.notify b.val [] }))
  | .stack k b =>
    (tget [] (s.stack k.val).notify b.val,
      s.modStack k.val (fun y => { y with notify := tset [] y.notify b.val [] }))

/-- The node that holds a bank. -/
def bankNode : BankRef → BitVec 12
  | .spad d _ _ => nodeDie d.val
  | .commons d _ => nodeDie d.val
  | .stack k _ => nodeStack k.val

/-- BANK_REOPEN_COMPLETE (R107): the bank is open, zero after OFF, and reopen notices go out. -/
def execBankReopenComplete (b : BankRef) (s : State) : Host.Outcome State Fault Refusal :=
  match s.bankSt b with
  | .opening m =>
    let s := if m = .off then s.zeroBankOf b else s
    let (nodes, s) := ((s.setBank b .open).presentHeld b).takeNotify b
    .next ((nodes.foldl (fun (s : State) n => s.ctrl (bankNode b) 0x04 0xFE n.toNat) s).ok)
  | _ => .next s.turnAway

/-- The banks that a packet's request touches. -/
def State.pktBanks (s : State) (p : Pkt) : List BankRef :=
  s.rangeBanks ⟨⟨p.ctx.toNat, p.ctx.isLt⟩, p.firmware, .none, p.unit.toNat⟩ p.dest (if p.opcode = 0x01 then p.length.toNat else p.payload.length)

/-- REOPEN (R106): a source that holds requests to the bank sends them again. -/
def execReopen (node : BitVec 12) (b : BankRef) (s : State) : Host.Outcome State Fault Refusal :=
  let mine := s.net.parked.filter (fun p => p.1 == node && (s.pktBanks p.2.2).contains b)
  let s := { s with net := { s.net with
    parked := s.net.parked.filter (fun p => !(p.1 == node && (s.pktBanks p.2.2).contains b)) } }
  let s := mine.foldl (fun (s : State) p => (s.inject p.1 p.2.1 p.2.2).1) s.ok
  .next (if nodeKind node = 2 ∧ nodeIndex node < 2 then s.drainSites else s)

end Sys2Proof.Machine
end

