-- ==== Sys2Proof/Machine/Engines.lean ====
section
/-! DEFINITION. The commands of the commons and its engines: bank accesses, ring registers, fetch and
retirement of descriptors, and one command for each operation (R111–R141, R206, R207, R209, R566). -/

namespace Sys2Proof.Machine

/-! ### Commons accesses (R112, R116) -/

/-! ### Ring registers (R121, R122) -/

/-- A register access by a context that the ring is not bound to (R121). -/
def State.ringForeign (s : State) (c : CtxId) (d : LDie) (q : RingId) : State × Status :=
  (s.fault 0x6044 (some c) (locEngine d.val) (q.val * 2 ^ 16), .denied)

/-- A register write of context c at a ring: f acts where the ring is bound to it. -/
def State.ringBound (s : State) (c : CtxId) (d : LDie) (e : EngId) (q : RingId)
    (f : State → State) : State × Status :=
  if (s.ring (ringKey d e q)).ctx ≠ some c then s.ringForeign c d q else (f s, .ok)

/-- The doorbell: a tail more than the slot count ahead of done is ignored. -/
def State.ringTail (s : State) (c : CtxId) (d : LDie) (e : EngId) (q : RingId) (v : W32) : State :=
  let k := ringKey d e q
  let r := s.ring k
  if r.slots < (v - r.done).toNat then
    (s.modRing k (fun r => { r with fault := 0x6040 })).fault 0x6040 (some c) (locEngine d.val) (q.val * 2 ^ 16)
  else s.modRing k (fun r => { r with tail := v })

/-- A descriptor that was running and leaves its destination unspecified gets free bytes there: every
running one under FLUSH and ROLLBACK, else SORT and the in-place forms (R122, R137). -/
def State.scramble (s : State) (w : EngW) (x : Desc) (all : Bool) : State :=
  let k := opCheck x.words []
  if x.fin.isSome ∨ !(all || dOp x.words == 0x30 || k.inPlace && x.words.getD 1 0 == x.words.getD 3 0)
  then s
  else k.dst.foldl (fun (s : State) r =>
    let (b, s) := s.freeBytes r.2.1
    { (s.ewrite w r.1 b false).1 with ctrs := s.ctrs }) s

/-- Counters of a retirement (R139). -/
def State.countRetire (s : State) (d : LDie) (e : Nat) (st : DStatus) : State :=
  s.count .engine (d.val * 8 + e)
    (match st with
      | .ok | .mismatch => 0x00 | .refused => 0x04 | .error => 0x08 | .discarded => 0x0C
      | .aborted => 0x10) 1

/-- The completion record goes over bytes 0 to 15 of the slot. -/
def State.putRecord (s : State) (d : LDie) (e q : Nat) (c : CtxId) (x : Desc)
    (f : DStatus × W16 × W64) : State × Acc :=
  s.commonsWrite (whoEngine c e) d ((s.ring (ringKey d e q)).base.toNat + x.slot * 64)
    (completion x.words e f) false

/-- A held fault is logged with its own time and the held flag. -/
def State.reportHeld (s : State) (c : CtxId) (h : W16 × W64 × Nat) (detail : Nat) : State :=
  s.logEntry {
    fault := true, code := h.1, ctx := BitVec.ofNat 8 c.val, held := true, loc := h.2.1, time := h.2.2
    detail := BitVec.ofNat 80 detail, logged := s.now }

/-- What a retirement does beside its record: its counter, the fault that settled work held, dropped and counted
where the work is discarded or never settles, and the cell that an OK descriptor signals (R124, R134). -/
def State.retired (s : State) (c : CtxId) (d : LDie) (e q : Nat) (x : Desc) (f : DStatus × W16 × W64) : State :=
  let s := s.countRetire d e f.1
  let s := match x.held with
    | some h =>
      if f.1 = DStatus.discarded ∨ f.1 = DStatus.aborted ∨ !x.confirmed then s.count .engine (d.val * 8 + e) 0x2C 1
      else
        let s := s.reportHeld c h (ringDetail x.words q)
        if restoresFor h.1 then s.needRestore c else s
    | none => s
  match f.1, dSync x.words with
  | .ok, some cell =>
    (s.syncOp ⟨nodeDie ((s.phys d).getD 0), BitVec.ofNat 5 c.val, false, BitVec.ofNat 7 (96 + e),
        cellAddr (d.val * 512 + cell), 0, s.srcPanel⟩ 3 true (syncArrive 1)).1
  | _, _ => s

/-- Resume: fetching continues after the refused descriptor. -/
def State.ringGo (s : State) (d : LDie) (e : EngId) (q : RingId) : State :=
  s.modRing (ringKey d e q) (fun r => { r with halted := false })

/-- Abort: every fetched descriptor retires, those that have not finished as ABORTED; head and done become
tail. (DEDUCED, log 164) -/
def State.ringStop (s : State) (c : CtxId) (d : LDie) (e : EngId) (q : RingId) : State :=
  let k := ringKey d e q
  let s := (s.ring k).descs.foldl (fun (s : State) x =>
    let f := x.fin.getD (.aborted, 0, 0)
    let s := (s.scramble (engW c d e) x false)
    ((s.putRecord d e q c x f).1).retired c d e q x f) s
  s.modRing k (fun r =>
    { r with head := r.tail, done := r.tail, descs := [], waitEpoch := false, waitFence := false })

/-- TAIL (R122). -/
def execTail (c : CtxId) (d : LDie) (e : EngId) (q : RingId) (v : W32) (s : State) :
    Host.Outcome State Fault Refusal :=
  if (s.phys d).isNone then .next s.turnAway
  else
    let r := s.ringBound c d e q (fun s => s.ringTail c d e q v)
    .next (r.1.status r.2)

/-- RING_RESUME (R122). -/
def execRingResume (c : CtxId) (d : LDie) (e : EngId) (q : RingId) (s : State) :
    Host.Outcome State Fault Refusal :=
  if (s.phys d).isNone then .next s.turnAway
  else
    let r := s.ringBound c d e q (fun s => s.ringGo d e q)
    .next (r.1.status r.2)

/-- RING_ABORT (R122). -/
def execRingAbort (c : CtxId) (d : LDie) (e : EngId) (q : RingId) (s : State) :
    Host.Outcome State Fault Refusal :=
  if (s.phys d).isNone then .next s.turnAway
  else
    let r := s.ringBound c d e q (fun s => s.ringStop c d e q)
    .next (r.1.status r.2)

/-- The bytes of a ring's registers from offset 0x00. -/
def Ring.image (r : Ring) : Bytes :=
  toLe 8 r.base.toNat ++ [r.log2, (match r.ctx with | some c => BitVec.ofNat 8 c.val | none => 0xFF), r.prio]
    ++ [0, 0, 0, 0, 0] ++ toLe 4 r.tail.toNat ++ toLe 4 r.head.toNat ++ toLe 4 r.done.toNat
    ++ toLe 4 (b2n r.halted + 2 * b2n (r.head == r.tail) + 4 * b2n r.waitEpoch + 8 * b2n r.waitFence
      + r.fault.toNat * 2 ^ 16)

/-- The ring that an engine-control offset names (R122). -/
def ringAt (off : Nat) : Option (EngId × RingId) :=
  if off % 0x1000 < 0x800 then some (⟨off / 0x1000 % 8, by omega⟩, ⟨off % 0x1000 / 0x100 % 8, by omega⟩) else none

/-- A read of ring registers; reserved offsets read zero. -/
def State.ringRead (s : State) (d : LDie) (off len : Nat) : Bytes :=
  match ringAt off with
  | some (e, q) => (List.range len).map (fun i => (s.ring (ringKey d e q)).image.getD (off % 0x100 + i) 0)
  | none => List.replicate len 0

/-- A write of one ring register, by firmware or a unit of the bound context. (DEDUCED, log 34) -/
def State.ringWrite (s : State) (fw : Bool) (c : CtxId) (d : LDie) (off : Nat) (b : Bytes) : State × Status :=
  match ringAt off with
  | none => (s, .ok)
  | some (e, q) =>
    let v := leNat b
    let act (s : State) : State :=
      let k := ringKey d e q
      match off % 0x100, b.length with
      | 0x00, 8 => if fw then s.modRing k (fun r => { r with base := BitVec.ofNat 64 v }) else s
      | 0x08, 1 => if fw then s.modRing k (fun r => { r with log2 := BitVec.ofNat 8 v }) else s
      | 0x0A, 1 => s.modRing k (fun r => { r with prio := BitVec.ofNat 8 (v % 4) })
      | 0x10, 4 => s.ringTail c d e q (BitVec.ofNat 32 v)
      | 0x20, 4 =>
        let s := if v % 2 = 1 then s.ringGo d e q else s
        if v / 2 % 2 = 1 then s.ringStop c d e q else s
      | _, _ => s
    if fw then (act s, .ok) else s.ringBound c d e q act

/-! ### Fetch (R120, R137) -/

/-- What a check of R120 reads beside the descriptor: the run table of a merge (source B), or COMBINE's
address table. -/
def extraLen (w : List W64) : Nat :=
  if dOp w = 0x31 ∨ dOp w = 0x32 then 4 * bits (dA w) 0 7
  else if dOp w = 0x60 then tableLen w else 0

/-- A descriptor is refused: fault, status, halted ring. An unsettled one of the geyser engine, which alone
accepts settled = 0, holds its fault (R134). (DEDUCED, log 121) -/
def State.refuseDesc (s : State) (d : LDie) (e q : Nat) (c : CtxId) (x : Desc) (code : W16) :
    State :=
  let k := ringKey d e q
  let holds := x.unsettled && e == geyser
  let s := if holds then s
    else s.fault code (some c) (locEngine d.val) (ringDetail x.words q)
  s.modRing k (fun r =>
    { r with
      halted := true
      fault := code
      head := r.head + 1
      descs := r.descs ++ [{ x with
        fin := some (.refused, code, 0)
        confirmed := !holds
        held := if holds then some (code, (locEngine d.val).word, s.now) else none }] })

/-- A fetched slot is looked at: epoch, fence, checks. (DEDUCED, log 33) -/
def State.takeDesc (s : State) (d : LDie) (e q : Nat) (c : CtxId) (slot : Nat) (w : List W64) : State :=
  let k := ringKey d e q
  let now := s.engineEpoch d e c
  let x : Desc := { slot := slot, words := w, started := s.now, fin := none }
  let push (s : State) (y : Desc) : State :=
    s.modRing k (fun r =>
      { r with head := r.head + 1, descs := r.descs ++ [y], waitEpoch := false, waitFence := false })
  if dEpoch w = now + 1 then (s.modRing k (fun r => { r with waitEpoch := true })).ok
  else if dEpoch w ≠ now then (push s { x with fin := some (.discarded, 0, 0) }).ok
  else if dFence w ∧ (s.ring k).descs ≠ [] then
    (s.modRing k (fun r => { r with waitEpoch := false, waitFence := true })).ok
  else if dOp w / 16 ≠ e ∨ dEngine w ≠ e then (s.refuseDesc d e q c x 0x6040).ok
  else if dCtx w ≠ c.val then (s.refuseDesc d e q c x 0x6044).ok
  else if s.foreignStep d q slot w then (s.refuseDesc d e q c x 0x6040).ok
  else
    let r := s.epeek (whoEngine c e) (w.getD 2 0) (if dCount w = 0 ∧ dOp w = 0x60 then 0 else extraLen w)
    match r.2 with
    | .error (.wait _ _ _ _) => r.1.turnAway
    | .error (.access a n (.fail st code)) =>
      if st = .poisoned ∨ st = .tagFail then
        (r.1.unitFail (whoEngine c e) a (.fail st code) n (accessDetail (whoEngine c e) x q code)).ok
      else (s.refuseDesc d e q c x 0x6041).ok
    | .error (.err code) => (s.refuseDesc d e q c x code).ok
    | .error _ => s.turnAway
    | .ok extra =>
      match r.1.descFault c d e w extra with
      | some code => (r.1.refuseDesc d e q c x code).ok
      | none =>
        if dCount w = 0 then (push r.1 { x with fin := some (.ok, 0, 0) }).ok
        else ((push r.1 x).tookStep d q slot w).ok

/-- DESCRIPTOR_FETCH (R120, R123, R126). -/
def execDescriptorFetch (d : LDie) (e : EngId) (q : RingId) (s : State) :
    Host.Outcome State Fault Refusal :=
  let k := ringKey d e q
  let r := s.ring k
  match r.ctx with
  | none => .next s.turnAway
  | some c =>
    let placed := (s.engine (engKey d e)).placed
    if !s.engineLive c d e.val ∨ r.halted ∨ r.head = r.tail
        ∨ (placed.isSome ∧ placed ≠ some c) ∨ 4 ≤ s.inProgress d e ∨ !s.startTurn d e q then .next s.turnAway
    else
      match s.commonsRead (whoEngine c e) d (r.slotOff r.head.toNat) 64 with
      | (t, .ok b) => .next (t.takeDesc d e q c (r.head.toNat % r.slots) (slotWords b))
      | (t, .fail .bankClosed code) =>
        .next ((t.unitFail (whoEngine c e) (locCommons d.val (r.slotOff r.head.toNat)).word
          (.fail .bankClosed code) 64).status .bankClosed)
      | (t, x) =>
        .next ((t.unitFail (whoEngine c e) (locCommons d.val (r.slotOff r.head.toNat)).word x 64).ok)

/-! ### Retirement (R124, R134, R217) -/

/-- DESCRIPTOR_RETIRE (R124): the oldest descriptor of the ring, when it has finished and its work has
settled, is discarded or was settled from the start. -/
def execDescriptorRetire (d : LDie) (e : EngId) (q : RingId) (s : State) :
    Host.Outcome State Fault Refusal :=
  let k := ringKey d e q
  match (s.ring k).ctx, (s.ring k).descs with
  | some c, x :: rest =>
    match x.fin with
    | none => .next s.turnAway
    | some f =>
      if x.unsettled ∧ !x.confirmed ∧ f.1 ≠ .discarded ∧ f.1 ≠ .aborted ∨ (s.phys d).isNone then
        .next s.turnAway
      else
        match s.putRecord d e q c x f with
        | (t, .ok _) =>
          let t := (t.modRing k (fun r =>
            { r with done := r.done + 1, descs := rest, waitFence := r.waitFence && rest != [] })).retired
            c d e q x f
          let t := if f.1 = DStatus.ok ∧ e.val = 6 ∧ dOp x.words = 0x63 then t.ringRetired d q.val x.words else t
          .next t.ok
        | (t, _) => .next t.turnAway
  | _, _ => .next s.turnAway

/-- ENGINE_WATCHDOG (R125): a descriptor has run for longer than engine_watchdog, waits apart. (DESIGN CHOICE, log 43) -/
def execEngineWatchdog (d : LDie) (e : EngId) (q : RingId) (s : State) :
    Host.Outcome State Fault Refusal :=
  let k := ringKey d e q
  match (s.ring k).ctx, (s.ring k).descs.find? (fun x => x.fin.isNone) with
  | some c, some x =>
    if s.yields c then .next s.turnAway
    else
      let s := s.notBefore (x.started + (x.wakes s.now).excused + s.obj 0x2243 (c.val + 1) * 1000 + 1)
      let s := s.freeWork (engW c d e) x
      let s := if x.unsettled then s
        else s.fault 0x6045 (some c) (locEngine d.val) (ringDetail x.words q)
      .next ((s.modRing k (fun r =>
        { r with
          halted := true
          descs := modRunning (fun y =>
            { y with
              fin := some (.error, 0x6045, BitVec.ofNat 64 y.units)
              held := if y.unsettled then some (0x6045, (locEngine d.val).word, s.now) else none })
            r.descs })).ok)
  | _, _ => .next s.turnAway

/-! ### Shaper (R128, R129, R566) -/

/-- COPY. -/
def execCopy (d : LDie) (q : RingId) (s : State) : Host.Outcome State Fault Refusal :=
  .next (s.engineRun d 0 q 0x01 opCopy)

/-- TRANSPOSE. -/
def execTranspose (d : LDie) (q : RingId) (s : State) : Host.Outcome State Fault Refusal :=
  .next (s.engineRun d 0 q 0x02 opTranspose)

/-- CONVERT. -/
def execConvert (d : LDie) (q : RingId) (s : State) : Host.Outcome State Fault Refusal :=
  .next (s.engineRun d 0 q 0x03 opConvert)

/-- STRATA_PACK. -/
def execStrataPack (d : LDie) (q : RingId) (s : State) : Host.Outcome State Fault Refusal :=
  .next (s.engineRun d 0 q 0x04 opStrataPack)

/-- STRATA_TRIM. -/
def execStrataTrim (d : LDie) (q : RingId) (s : State) : Host.Outcome State Fault Refusal :=
  .next (s.engineRun d 0 q 0x05 opStrataTrim)

/-- MX_PACK. -/
def execMxPack (d : LDie) (q : RingId) (s : State) : Host.Outcome State Fault Refusal :=
  .next (s.engineRun d 0 q 0x06 opMxPack)

/-! ### Curve (R130) -/

/-- EXP. -/
def execExp (d : LDie) (q : RingId) (s : State) : Host.Outcome State Fault Refusal :=
  .next (s.engineRun d 1 q 0x10 opCurve)

/-- LOG. -/
def execLog (d : LDie) (q : RingId) (s : State) : Host.Outcome State Fault Refusal :=
  .next (s.engineRun d 1 q 0x11 opCurve)

/-- RECIP. -/
def execRecip (d : LDie) (q : RingId) (s : State) : Host.Outcome State Fault Refusal :=
  .next (s.engineRun d 1 q 0x12 opCurve)

/-- RSQRT. -/
def execRsqrt (d : LDie) (q : RingId) (s : State) : Host.Outcome State Fault Refusal :=
  .next (s.engineRun d 1 q 0x13 opCurve)

/-- SQRT. -/
def execSqrt (d : LDie) (q : RingId) (s : State) : Host.Outcome State Fault Refusal :=
  .next (s.engineRun d 1 q 0x14 opCurve)

/-- GELU. -/
def execGelu (d : LDie) (q : RingId) (s : State) : Host.Outcome State Fault Refusal :=
  .next (s.engineRun d 1 q 0x15 opCurve)

/-- SILU. -/
def execSilu (d : LDie) (q : RingId) (s : State) : Host.Outcome State Fault Refusal :=
  .next (s.engineRun d 1 q 0x16 opCurve)

/-- SIGMOID. -/
def execSigmoid (d : LDie) (q : RingId) (s : State) : Host.Outcome State Fault Refusal :=
  .next (s.engineRun d 1 q 0x17 opCurve)

/-- TANH. -/
def execTanh (d : LDie) (q : RingId) (s : State) : Host.Outcome State Fault Refusal :=
  .next (s.engineRun d 1 q 0x18 opCurve)

/-! ### Norm (R131) -/

/-- LN_STATS. -/
def execLnStats (d : LDie) (q : RingId) (s : State) : Host.Outcome State Fault Refusal :=
  .next (s.engineRun d 2 q 0x20 (opStats false))

/-- RMS_STATS. -/
def execRmsStats (d : LDie) (q : RingId) (s : State) : Host.Outcome State Fault Refusal :=
  .next (s.engineRun d 2 q 0x21 (opStats true))

/-- NORM_APPLY. -/
def execNormApply (d : LDie) (q : RingId) (s : State) : Host.Outcome State Fault Refusal :=
  .next (s.engineRun d 2 q 0x22 opNormApply)

/-! ### Merge tree (R132) -/

/-- SORT. -/
def execSort (d : LDie) (q : RingId) (s : State) : Host.Outcome State Fault Refusal :=
  .next (s.engineRun d 3 q 0x30 opSort)

/-- MERGE. -/
def execMerge (d : LDie) (q : RingId) (s : State) : Host.Outcome State Fault Refusal :=
  .next (s.engineRun d 3 q 0x31 (opMerge false))

/-- MERGE_SUM. -/
def execMergeSum (d : LDie) (q : RingId) (s : State) : Host.Outcome State Fault Refusal :=
  .next (s.engineRun d 3 q 0x32 (opMerge true))

/-- TOPK. -/
def execTopk (d : LDie) (q : RingId) (s : State) : Host.Outcome State Fault Refusal :=
  .next (s.engineRun d 3 q 0x33 opTopk)

/-! ### Gather and scatter (R133) -/

/-- GATHER. -/
def execGather (d : LDie) (q : RingId) (s : State) : Host.Outcome State Fault Refusal :=
  .next (s.engineRun d 4 q 0x40 opGather)

/-- SCATTER. -/
def execScatter (d : LDie) (q : RingId) (s : State) : Host.Outcome State Fault Refusal :=
  .next (s.engineRun d 4 q 0x41 opScatter)

/-- SCATTER_ADD. -/
def execScatterAdd (d : LDie) (q : RingId) (s : State) : Host.Outcome State Fault Refusal :=
  .next (s.engineRun d 4 q 0x42 opScatterAdd)

/-! ### Geyser (R134, R206–R209) -/

/-- The strata layer that the geyser engine's record declares, with its record. -/
def State.geyserLayer (s : State) (d : LDie) : Option (UnitCfg × LayerDecl) :=
  match (s.unit (unitKey d (96 + geyser))).active.cfg with
  | some g => g.layer.map (fun l => (g, l))
  | none => none

/-- Saturation to INT8. -/
def sat8 (i : Int) : Int := max (-128) (min 127 i)

/-- One fully connected layer on its weights and biases as bytes: INT8 weights in rows, INT32 biases, arithmetic
shift, saturation, ReLU. -/
def predictLayer (relu : Bool) (l : PredLayer) (weights biases : Bytes) (x : List Int) : List Int :=
  (List.range l.width).map (fun o =>
    let row := (weights.drop (o * x.length)).take x.length
    let bias := (BitVec.ofNat 32 (leNat ((biases.drop (4 * o)).take 4)) : W32).toInt
    let y := sat8 (((List.zipWith (fun (w : Byte) (a : Int) => w.toInt * a) row x).sum + bias) / 2 ^ l.shift)
    if relu then max 0 y else y)

/-- The predictor's last layer for a feature vector; its weights and biases are read where the declaration places
them (R134, R209). (DEDUCED, log 165) -/
def State.predictRun (w : Who) : List PredLayer → List Int → State → State × Except Stop (List Int)
  | [], x, s => (s, .ok x)
  | l :: ls, x, s =>
    match s.epeek w l.weights (l.width * x.length) with
    | (s, .error e) => (s, .error e)
    | (s, .ok ws) =>
      match s.epeek w l.biases (4 * l.width) with
      | (s, .error e) => (s, .error e)
      | (s, .ok bs) => State.predictRun w ls (predictLayer (ls != []) l ws bs x) s

/-- Feature i of a row: the integer element, or the high byte of an INT16 one. -/
def feature (fmt : Nat) (row : Bytes) (i : Nat) : Int :=
  if fmt = 11 then (row.getD (2 * i + 1) 0).toInt else (row.getD i 0).toInt

/-- The outputs of a hinted group. -/
def groupOutputs (n groups g : Nat) : List Nat :=
  List.range' (g * n / groups) ((g + 1) * n / groups - g * n / groups)

/-- Settle-list tokens go out in order while the stream ports' queues have credits (R147): the position reached, and
whether all are out. -/
def State.sendList (c : CtxId) (d : LDie) (u : Nat) (g : UnitCfg) (settled : Bool) :
    List Bytes → Nat → State → State × Nat × Bool
  | [], n, s => (s, n, true)
  | p :: ps, n, s =>
    if (settleQueues g).all (fun q => decide (0 < (s.queue (queueKey q.1 q.2.val)).credits)) then
      State.sendList c d u g settled ps (n + 1) (s.sendSettle c d u g settled p)
    else (s, n, false)

/-- The settle-list tokens of some outputs: at most 28 indices each (R208). -/
def settleTokens (tag : W16) (kind group : Nat) (is : List Nat) : List Bytes :=
  (chunk 28 (is.map (BitVec.ofNat 16))).map (settlePayload tag kind group)

/-- The groups that a vector's outputs hint, added to those hinted so far. -/
def hintedGroups (theta : Byte) (old : List Nat) (y : List Int) : List Nat :=
  (y.zipIdx).map (fun p => if theta.toInt < p.1 then 1 else old.getD p.2 0)

/-- PREDICT of one vector: a group is hinted when its output exceeds θ for any vector; after the last vector HINT
tokens carry the hinted groups' outputs. It runs under CERTIFIED+PREFETCH only (R195). (DEDUCED, log 162) -/
def predictUnit (w : EngW) (x : List W64) (i : Nat) (k : List Nat) (s : State) : State × List Nat × Option Stop :=
  match s.geyserLayer w.die with
  | none => (s, k, some (.err 0x6050))
  | some (g, l) =>
    match l.predictor with
    | none => (s, k, some (.err 0x6050))
    | some p =>
      let groups := (p.layers.getLast?.map (·.width)).getD 1
      let sending := k.getD groups 0 == 1
      let row (s : State) : State × Except Stop (List Nat) :=
        match s.eread w (plus (x.getD 1 0) (i * dA x)) (dA x) with
        | (s, .error e) => (s, .error e)
        | (s, .ok b) =>
          match s.epeek w.who p.featureMap (2 * p.features) with
          | (s, .error e) => (s, .error e)
          | (s, .ok m) =>
            match State.predictRun w.who p.layers ((unpackElems 16 m).map (feature (dSrc x) b)) s with
            | (s, .error e) => (s, .error e)
            | (s, .ok y) => (s, .ok (hintedGroups p.theta k y))
      if (s.ctx w.who.ctx).specPosture ≠ 2 then (s, k, none)
      else match (if sending then (s, .ok (k.take groups)) else row s) with
        | (s, .error e) => (s, k, some e)
        | (s, .ok flags) =>
          if i + 1 < dCount x then (s, flags, none)
          else
            let idx := ((List.range groups).filter (fun q => flags.getD q 0 == 1)).flatMap (groupOutputs l.outputs groups)
            let from_ := k.getD (groups + 1) 0
            let u := 96 + geyser
            let r := State.sendList w.who.ctx w.die u g false
              ((settleTokens l.tag 1 (s.unit (unitKey w.die u)).groupNo idx).drop from_) from_ s
            (r.1, flags ++ [1, r.2.1], if r.2.2 then none else some .blocked)

/-- PREDICT: 4,096 multiply-accumulates an engine cycle, 196,608 at most for a vector. -/
def opPredict : EngOp where
  units := dCount
  cycles x := dCount x * 48
  unit := predictUnit
  result _ i _ := i

/-- The k-th largest (from 1) of a list in FP32 order. -/
def kthLargest (k : Nat) (l : List W32) : W32 :=
  ((sortRecs 2 true (l.map (fun v => (v, 0)))).map (·.1)).getD (k - 1) 0xFF800000

/-- The decisions for one vector's (Lo, Up) pairs: certified in, certified out, undecided. (DEDUCED, log 38) -/
def certify (k : Nat) (b : List (W32 × W32)) : List Nat × List Nat × List Nat :=
  let u := kthLargest (k + 1) (b.map (·.2))
  let l := kthLargest k (b.map (·.1))
  let all := List.range b.length
  let at' (i : Nat) : W32 × W32 := b.getD i (0xFF800000, 0x7F800000)
  let ins := all.filter (fun i => decide (b.length ≤ k) || flt u (at' i).1)
  let outs := all.filter (fun i => !ins.contains i && flt (at' i).2 l)
  (ins, outs, all.filter (fun i => !ins.contains i && !outs.contains i))

/-- The tile whose array pair produces a layer's candidates on a die: the first with the layer's tag. -/
def State.layerTile (s : State) (d : LDie) (tag : W16) : Nat :=
  ((List.range 16).find? (fun t =>
    match (s.unit (unitKey d t)).active.cfg with
    | some g => (g.layer.map (·.tag)) == some tag
    | none => false)).getD 0

/-- The decisions of CERTIFY_TOPK for the next vector of the fetch group, from its candidates' (y, h); under OFF h
is 0, and nothing counts as certified (R207). -/
def State.certifyVector (s : State) (w : EngW) (x : List W64) (l : LayerDecl) (b : Bytes) : State :=
  let off := (s.ctx w.who.ctx).specPosture == 0
  let rs : List Rec8 := (recs b).map (fun r => (r.1, if off then 0 else r.2))
  let ok := rs.map (fun r => ffinite r.1 && ffinite r.2)
  let bounds := rs.map (fun r =>
    if ffinite r.1 && ffinite r.2 then (boundLo r.1 r.2, boundUp r.1 r.2)
    else ((0xFF800000 : W32), (0x7F800000 : W32)))
  let (ins, outs, und) := certify (dA x) bounds
  let rec_ := tileRec w.die (s.layerTile w.die l.tag)
  let ek := engKey w.die geyser
  let vec := (s.engine ek).certs.length
  let before := if vec = 0 then [] else (s.engine ek).disabled
  let new := (List.range ok.length).filter (fun i => !ok.getD i true && !before.contains i)
  (if off then s
    else ((s.count .spec rec_ 0x10 ins.length).count .spec rec_ 0x14 outs.length).count .spec rec_ 0x20 new.length).modEngine
    ek (fun y => { y with certs := y.certs ++ [(vec, (ins, und))], disabled := before ++ new })

/-- The candidates of a fetch group that settle. -/
def settlesOf (l : LayerDecl) (certs : Tbl (List Nat × List Nat)) : List Nat :=
  (List.range l.candidates).filter (fun i =>
    (certs.map (·.2)).any (fun q => q.2.contains i || !l.indices && q.1.contains i))

/-- CERTIFY_TOPK for the next vector of the fetch group; after the last vector the settle list and
GROUP_END go to the stream ports, but not under OFF, where the values are full ones (R195). -/
def certifyUnit (w : EngW) (x : List W64) (_i : Nat) (k : List Nat) (s : State) : State × List Nat × Option Stop :=
  match s.geyserLayer w.die with
  | none => (s, k, some (.err 0x6050))
  | some (g, l) =>
    let ek := engKey w.die geyser
    let u := 96 + geyser
    let first : State × Option Stop :=
      if k != [] then (s, none)
      else match s.eread w (x.getD 1 0) (8 * dCount x) with
        | (s, .error e) => (s, some e)
        | (s, .ok b) =>
          let s := s.certifyVector w x l b
          if (s.engine ek).certs.length < l.v ∨ (s.ctx w.who.ctx).specPosture = 0 then (s, none)
          else
            let n := (settlesOf l (s.engine ek).certs).length
            let rec_ := tileRec w.die (s.layerTile w.die l.tag)
            ((s.count .spec rec_ 0x18 n).count .spec rec_ 0x08
              ((l.candidates - n) * ((l.inputs + 1023) / 1024 * (l.r - l.j))), none)
    match first with
    | (s, some e) => (s, k, some e)
    | (s, none) =>
      if (s.engine ek).certs.length < l.v ∨ (s.ctx w.who.ctx).specPosture = 0 then (s, [0], none)
      else
        let group := (s.unit (unitKey w.die u)).groupNo
        let from_ := k.headD 0
        let all := settleTokens l.tag 0 group (settlesOf l (s.engine ek).certs) ++ [settlePayload l.tag 2 group []]
        let r := State.sendList w.who.ctx w.die u g true (all.drop from_) from_ s
        if r.2.2 then (r.1.modUnit (unitKey w.die u) (fun y => { y with groupNo := y.groupNo + 1 }), [r.2.1], none)
        else (r.1, [r.2.1], some .blocked)

/-- CERTIFY_TOPK. -/
def opCertify : EngOp where
  units _ := 1
  cycles x := cyc (dCount x) 64 + 32
  unit := certifyUnit
  result x i _ := i * dCount x

/-- PREDICT (R209). -/
def execPredict (d : LDie) (q : RingId) (s : State) : Host.Outcome State Fault Refusal :=
  .next (s.engineRun d geyser q 0x50 opPredict)

/-- CERTIFY_TOPK (R206). -/
def execCertifyTopk (d : LDie) (q : RingId) (s : State) : Host.Outcome State Fault Refusal :=
  .next (s.engineRun d geyser q 0x51 opCertify)

/-- TOPK_SELECTION (R207): once the settled values have arrived, every certified-in candidate and the
best undecided ones are written as K records. -/
def execTopkSelection (d : LDie) (vec : Nat) (settled : List (Nat × W32)) (dst : Nat) (s : State) :
    Host.Outcome State Fault Refusal :=
  let ek := engKey d geyser
  match s.live d (96 + geyser), (s.engine ek).certs.find? (fun p => p.1 == vec), s.geyserLayer d with
  | some (c, _), some (_, ins, und), some (_, l) =>
    let val (i : Nat) : Option W32 := (settled.find? (fun p => p.1 == i)).map (·.2)
    if (s.engine ek).certs.length < l.v ∨ !(und.all (fun i => (val i).isSome))
        ∨ !l.indices ∧ !(ins.all (fun i => (val i).isSome)) then .next s.turnAway
    else
      let best := ((sortRecs 2 true (und.map (fun i => ((val i).getD 0, BitVec.ofNat 32 i)))).take
        (l.kSel - ins.length)).map (fun r => r.2.toNat)
      let chosen := ins ++ best
      let out : List Rec8 := if l.indices then
          sortRecs 0 false (chosen.map (fun i => (BitVec.ofNat 32 i, 0))) |>.map (fun r => (0, r.1))
        else sortRecs 2 true ((sortRecs 0 false (chosen.map (fun i => (BitVec.ofNat 32 i, 0)))).map
          (fun r => ((val r.1.toNat).getD 0, r.1)))
      let w := whoEngine c geyser
      let r := s.commonsWrite w d dst (recBytes out) false
      let s := r.1.modEngine ek (fun y =>
        { y with certs := y.certs.map (fun p => if p.1 = vec then (p.1, [], []) else p) })
      let s := if (s.engine ek).certs.all (fun p => p.2 == ([], [])) then
          s.modEngine ek (fun y => { y with certs := [] })
        else s
      .next ((s.unitFail w (locCommons d.val dst).word r.2).ok)
  | _, _, _ => .next s.turnAway

/-! ### Reduction (R135) -/

/-- COMBINE. -/
def execCombine (d : LDie) (q : RingId) (s : State) : Host.Outcome State Fault Refusal :=
  .next (s.engineRun d 6 q 0x60 opCombine)

/-- SIGN1_ENC. -/
def execSign1Enc (d : LDie) (q : RingId) (s : State) : Host.Outcome State Fault Refusal :=
  .next (s.engineRun d 6 q 0x61 opSign1Enc)

/-- SIGN1_DEC. -/
def execSign1Dec (d : LDie) (q : RingId) (s : State) : Host.Outcome State Fault Refusal :=
  .next (s.engineRun d 6 q 0x62 opSign1Dec)

/-- RING_STEP (R330–R334). -/
def execRingStep (d : LDie) (q : RingId) (s : State) : Host.Outcome State Fault Refusal :=
  .next (s.ringStepRun d q)

/-- BUCKET_RUN_START (R329, R334): the fill cell of a slot has fired. -/
def execBucketRunStart (d : LDie) (g : Fin 4) (slot : Nat) (s : State) : Host.Outcome State Fault Refusal :=
  .next (match s.group (groupKey d g) with
    | some x =>
      if (x.st = .idle ∨ x.st = .running) ∧ slot < x.decl.slots.length ∧ (s.ctx x.ctx).runs then
        (s.runStart (groupKey d g) slot).ok
      else s.turnAway
    | none => s.turnAway)

/-- RING_STEP_TIMEOUT (R335): a step has waited longer than ring_step_timeout. -/
def execRingStepTimeout (d : LDie) (g : Fin 4) (s : State) : Host.Outcome State Fault Refusal :=
  let k := groupKey d g
  .next (match s.group k with
    | some x =>
      if x.st = .running then
        (((s.notBefore (x.stepAt + s.obj 0x7302 (g.val + 1) * 1000000 + 1)).ringFault k 0x9031).haltCtx x.ctx).ok
      else s.turnAway
    | none => s.turnAway)

/-- RING_GRANT (R331). -/
def execRingGrant (d : LDie) (g : Fin 4) (wire : Byte) (slot : W16) (run : W32) (step p : W16) (half : W64)
    (s : State) : Host.Outcome State Fault Refusal :=
  .next (if (s.group (groupKey d g)).isSome then
      (s.takeGrant (groupKey d g) g.val wire.toNat slot.toNat run.toNat step.toNat p.toNat half.toNat).ok
    else s.turnAway)

/-- RING_DONE (R331, R334). -/
def execRingDone (d : LDie) (g : Fin 4) (_wire : Byte) (slot : W16) (run : W32) (step _p : W16) (bytes : W32)
    (s : State) : Host.Outcome State Fault Refusal :=
  .next (if (s.group (groupKey d g)).isSome then
      (s.takeDone (groupKey d g) slot.toNat run.toNat step.toNat bytes.toNat).ok
    else s.turnAway)

/-! ### Crypto-hash (R136) -/

/-- GCM_ENC. -/
def execGcmEnc (d : LDie) (q : RingId) (s : State) : Host.Outcome State Fault Refusal :=
  .next (s.engineRun d 7 q 0x70 (opGcm false))

/-- GCM_DEC. -/
def execGcmDec (d : LDie) (q : RingId) (s : State) : Host.Outcome State Fault Refusal :=
  .next (s.engineRun d 7 q 0x71 (opGcm true))

/-- SHA3_256. -/
def execSha3256 (d : LDie) (q : RingId) (s : State) : Host.Outcome State Fault Refusal :=
  .next (s.engineRun d 7 q 0x72 (opSha3 32))

/-- SHA3_512. -/
def execSha3512 (d : LDie) (q : RingId) (s : State) : Host.Outcome State Fault Refusal :=
  .next (s.engineRun d 7 q 0x73 (opSha3 64))

/-- HASH_VERIFY. -/
def execHashVerify (d : LDie) (q : RingId) (s : State) : Host.Outcome State Fault Refusal :=
  .next (s.engineRun d 7 q 0x74 opHashVerify)

end Sys2Proof.Machine
end

