-- ==== Sys2Proof/Machine/Image.lean ====
section
/-! DEFINITION. What a context's image and configurations must satisfy, and binding and unbinding its
region (R58, R79, R99–R103, R121, R145–R146, R154–R158, R169, R177–R178, R194, R225, R232, R322, R327–R328,
R427–R433). -/

namespace Sys2Proof.Machine

/-! ### Which context a unit belongs to -/

/-- The image's region holds a unit. -/
def imageHolds (i : Image) (d : LDie) (u : Nat) : Bool :=
  match unitTile u with
  | some t => i.tiles.any (fun p => p.1 == d && p.2.val == t)
  | none =>
    if u < 104 then i.graph.units.any (fun g => g.die == d && g.unit.val == u)
    else i.streams.any (fun p => p.1 == d && 104 + p.2.val == u)

/-- The context whose region holds a unit. -/
def State.regionCtx (s : State) (d : LDie) (u : Nat) : Option CtxId :=
  match (s.unit (unitKey d u)).ctx with
  | some c => some c
  | none => allCtx.find? (fun c =>
      match (s.ctx c).image with
      | some i => imageHolds i d u
      | none => false)

/-! ### Ports (R142) -/

def inPorts (u : Nat) : Nat := if 32 ≤ u ∧ u < 96 ∨ 104 ≤ u then 1 else 4
def outPorts (u : Nat) : Nat := if 64 ≤ u ∧ u < 96 then 0 else if 32 ≤ u ∧ u < 64 ∨ 104 ≤ u then 1 else 4

/-! ### One unit's record -/

/-- Operand pairings that an array accepts (R58). -/
def operandPair (w a : Nat) : Bool :=
  match w with
  | 3 | 4 => a == 3 || a == 4
  | 5 | 6 | 7 => a == 3 || a == 4 || a == 5 || a == 6
  | 8 | 10 => a == 8 || a == 11
  | 9 | 12 => a == 9 || a == 8 || a == 11
  | 1 | 2 => a == 1 || a == 2 || a == 3 || a == 4
  | _ => false

/-- The partial window of R198, where the outputs that an array of the tile completes need it, lies in one RESIDENT
region of its tile; it holds every output that the pair completes. An engine's record of the layer has none. -/
def windowOk (i : Image) (g : UnitCfg) (l : LayerDecl) : Bool :=
  if l.mode = .none ∨ l.r < 8 ∨ max l.own.1 l.own.2 * l.v ≤ 16384 then true
  else match unitTile g.unit.val, l.partialWindow with
    | some t, some w => i.resident.any (fun r => r.die == g.die && r.tile.val == t
        && decide (r.off ≤ w) && decide (w + 4 * l.v * (l.own.1 + l.own.2) ≤ r.off + r.len))
    | some _, none => false
    | none, _ => true

/-- A predictor declaration is inside the limits of R209. -/
def predictorOk (p : Predictor) : Bool :=
  decide (1 ≤ p.features) && decide (p.features ≤ 256)
    && decide (1 ≤ p.layers.length) && decide (p.layers.length ≤ 3)
    && p.layers.all (fun l => decide (1 ≤ l.width) && decide (l.width ≤ 256) && decide (l.shift ≤ 31))

/-- A strata layer declaration passes R194. -/
def layerOk (i : Image) (g : UnitCfg) (l : LayerDecl) : Bool :=
  decide (1 ≤ l.k) && decide (l.k ≤ 8) && decide (1 ≤ l.r) && decide (l.r ≤ l.k)
    && (l.mode == .none || decide (1 ≤ l.j) && decide (l.j < l.r))
    && decide (1 ≤ l.v) && decide (l.v ≤ 32) && ffinite l.tau
    && (l.mode != .topk || decide (1 ≤ l.kSel) && decide (l.kSel ≤ 64)
      && decide (l.kSel + 1 ≤ l.candidates) && decide (l.candidates ≤ 4096) && l.candidates == l.outputs)
    && decide (l.outputs ≤ 65536) && windowOk i g l
    && (match l.predictor with | some p => predictorOk p | none => true)

/-- May the unit read unsettled data by its record (R178, R213)? -/
def readsUnsettled (g : UnitCfg) : Bool := unitRole g.unit.val g != .none

/-- The fields of one queue (R145, R178). -/
def queueOk (i : Image) (g : UnitCfg) (q : QueueDecl) : Bool :=
  decide (q.port.val < inPorts g.unit.val) && [8, 16, 32, 64, 128].contains q.width
    && decide (2 ≤ q.depth) && decide (q.depth ≤ 4096)
    && (imageHolds i q.prodDie q.prodUnit.val && decide (q.prodPort.val < outPorts q.prodUnit.val)
      || (match g.op with | .ingress _ => true | _ => false))
    && (!q.mayUnsettled || q.prodDie == g.die && readsUnsettled g)

/-- Does an input define its unit's frames? Port 0 does where the record marks none (R145). -/
def isFrame (g : UnitCfg) (q : QueueDecl) : Bool :=
  q.frameInput || g.inputs.all (fun x => !x.frameInput) && q.port == 0

/-- The inputs of a record: distinct ports, one frame input. -/
def inputsOk (i : Image) (g : UnitCfg) : Bool :=
  g.inputs.all (queueOk i g) && (g.inputs.map (·.port)).eraseDups.length == g.inputs.length
    && (g.inputs == [] || (g.inputs.filter (isFrame g)).length == 1)

/-- The outputs of a record: 1 to 4 queues a port; the group of one that has a group is of the image and reaches every
die of those queues but the unit's own (R292). -/
def outputsOk (i : Image) (g : UnitCfg) : Bool :=
  g.outputs.all (fun o => decide (o.port.val < outPorts g.unit.val) && decide (1 ≤ o.queues.length)
      && decide (o.queues.length ≤ 4)
      && o.group.all (fun m => i.mcasts.any (fun x => x.id.val == m.toNat
        && o.queues.all (fun q => q.1 == g.die || x.dests.any (fun y => y.1 == q.1)))))
    && (g.outputs.map (·.port)).eraseDups.length == g.outputs.length

/-- The cache size of a tile in a graph: its array pair's record gives it, else the image (R99). -/
def stepsOf (i : Image) (us : List UnitCfg) (d : LDie) (t : Nat) : Nat :=
  match us.find? (fun p => p.die == d && p.unit.val == t) with
  | some p => p.cacheSteps
  | none => ((i.cache.find? (fun x => x.1 == d && x.2.1.val == t)).map (·.2.2)).getD 0

/-- A spillable queue meets R169: its consumer is a unit of a tile, and its window lies in the tile's scratchpad outside
the cache partition and every RESIDENT region. -/
def spillOk (i : Image) (us : List UnitCfg) (g : UnitCfg) (q : QueueDecl) : Bool :=
  !q.spillable || !q.mayUnsettled && (match unitTile g.unit.val with
    | none => false
    | some t => q.spillOff % 4096 == 0 && decide (4096 ≤ q.spillLen) && decide (q.spillLen ≤ 262144)
        && decide (q.spillOff + q.spillLen ≤ (1024 - 64 * stepsOf i us g.die t) * 4096)
        && i.resident.all (fun r => r.die != g.die || r.tile.val != t
          || decide (q.spillOff + q.spillLen ≤ r.off) || decide (r.off + r.len ≤ q.spillOff)))

/-- The queue of an input of a record: die and queue ID. -/
def inQueue (g : UnitCfg) (q : QueueDecl) : LDie × Nat := (g.die, g.unit.val * 4 + q.port.val)

/-- How often the output ports of a graph name a queue. -/
def feeds (us : List UnitCfg) (x : LDie × Nat) : Nat :=
  ((us.flatMap (fun p => p.outputs.flatMap (·.queues))).filter (fun y => y.1 == x.1 && y.2.val == x.2)).length

/-- An input's queue is fed by the one output port that its declaration names (R145); an INGRESS port's by its link. -/
def fedOk (us : List UnitCfg) (g : UnitCfg) (q : QueueDecl) : Bool :=
  (match g.op with | .ingress _ => true | _ => false)
  || feeds us (inQueue g q) == 1 && us.any (fun p => p.die == q.prodDie && p.unit == q.prodUnit
      && p.outputs.any (fun o => o.port == q.prodPort && o.queues.any (fun y => y.1 == g.die && y.2.val == (inQueue g q).2)))

/-- An output's queue is an input of a unit of the same region, which names this port as its producer (R145, R177). -/
def feedOk (us : List UnitCfg) (g : UnitCfg) (o : OutDecl) (x : LDie × Fin 448) : Bool :=
  us.any (fun t => t.die == x.1 && t.inputs.any (fun q => (inQueue t q).2 == x.2.val
    && q.prodDie == g.die && q.prodUnit == g.unit && q.prodPort == o.port))

/-- The first queue of a record that breaks a rule of its fields or of its ends (R145, R169, R177, R178). -/
def badQueue (i : Image) (us : List UnitCfg) (g : UnitCfg) : Option Nat :=
  match g.inputs.find? (fun q => !queueOk i g q || !spillOk i us g q || !fedOk us g q) with
  | some q => some (inQueue g q).2
  | none => g.outputs.findSome? (fun o => (o.queues.find? (fun x => !feedOk us g o x)).map (·.2.val))

/-- The unit's operation fits its kind, and a link queue is declared. -/
def opOk (i : Image) (g : UnitCfg) : Bool :=
  let u := g.unit.val
  match g.op with
  | .array _ => u < 16
  | .lane _ _ _ => 16 ≤ u && u < 32
  | .mover _ _ => 32 ≤ u && u < 64
  | .wstream => 64 ≤ u && u < 96
  | .engine op _ _ _ _ => 96 ≤ u && u < 104 && op.toNat / 16 == u - 96
  | .source _ _ _ _ | .sink _ => 104 ≤ u
  | .egress lq _ _ | .ingress lq => 104 ≤ u && i.linkQueues.contains (lq, g.die)

/-- The staging entries of V vectors hold a span of the weights: V × M/N ≤ 256, and V ≤ 32 with BITMAP (R232, R233). -/
def stagingOk (x : SparseDecl) (v : Nat) : Bool :=
  match x.arr.toNat with
  | 1 => decide (v * patM x.pat / patN x.pat ≤ 256)
  | 2 => decide (v ≤ 32)
  | _ => true

/-- Why a record is refused: none, or the fault of the first check that fails. -/
def unitRefusal (i : Image) (g : UnitCfg) : Option W16 :=
  if !imageHolds i g.die g.unit.val || !inputsOk i g || !outputsOk i g || !opOk i g
      || decide (4 < g.cacheSteps) then some 0x6001
  else if i.resident.any (fun r => r.die == g.die && some r.tile.val == unitTile g.unit.val
      && decide ((1024 - 64 * g.cacheSteps) * 4096 < r.off + r.len)) then some 0x4065
  else match g.op with
    | .array a =>
      if !fmtOk a.wFmt.toNat || !fmtOk a.aFmt.toNat || !fmtOk a.outFmt.toNat then some 0x8011
      else if !convOk a.conv.toNat then some 0x8010
      else if !operandPair a.wFmt.toNat a.aFmt.toNat then some 0x8012
      else if 65536 < a.fillBytes then some 0x4065
      else match g.layer with
        | some l => if !layerOk i g l then some 0x6050
          else match g.sparse with
            | some x => if !sparseOk x || !stagingOk x l.v then some 0x8004 else none
            | none => none
        | none => match g.sparse with
          | some x => if !sparseOk x || !stagingOk x a.reuse then some 0x8004 else if a.dest.any (fun y => !sparseOk y) then some 0x8004 else none
          | none => if a.dest.any (fun y => !sparseOk y) then some 0x8004 else none
    | .lane fmt conv _ =>
      if !fmtOk fmt.toNat then some 0x8011 else if !convOk conv.toNat then some 0x8010 else none
    | .engine _ src dst conv _ =>
      if !fmtOk src.toNat || !fmtOk dst.toNat then some 0x8011
      else if !convOk conv.toNat then some 0x8010
      else match g.layer with
        | some l => if !layerOk i g l then some 0x6050 else none
        | none => none
    | _ =>
      match g.layer with
      | some l => if !layerOk i g l then some 0x6050 else
        if g.sparse.any (fun x => !sparseOk x) then some 0x8004 else none
      | none => if g.sparse.any (fun x => !sparseOk x) then some 0x8004 else none

/-- Queue bytes of a pool, and spill bytes of a tile. -/
def poolBytes (us : List UnitCfg) (d : LDie) (t : Option Nat) : Nat :=
  ((us.filter (fun g => g.die == d && unitTile g.unit.val == t)).flatMap
    (fun g => g.inputs.map (fun q => q.depth * q.width))).sum

def spillBytes (us : List UnitCfg) (d : LDie) (t : Nat) : Nat :=
  ((us.filter (fun g => g.die == d && unitTile g.unit.val == some t)).flatMap
    (fun g => g.inputs.map (fun q => if q.spillable then q.spillLen else 0))).sum

/-- The pools of R146 and the spill total of R169 hold for the unit's tile or die, whose commons-island pool the
units of other contexts share. -/
def poolsOk (others us : List UnitCfg) (g : UnitCfg) : Bool :=
  match unitTile g.unit.val with
  | some t => decide (poolBytes us g.die (some t) ≤ 65536) && decide (spillBytes us g.die t ≤ 262144)
  | none => decide (poolBytes (us ++ others) g.die none ≤ 262144)

/-- The detail of R189: the unit and a queue of it. -/
def queueDetail (u : Nat) (q : Option Nat) : Nat := u + (q.getD 0) * 2 ^ 8

/-- The location of a refused unit: its tile's scratchpad for 0x4065 (R110), its die's engine space otherwise. -/
def refusalLoc (code : W16) (d : LDie) (u : Nat) : Loc :=
  match code == 0x4065, unitTile u with
  | true, some t => locSpad d.val t 0
  | _, _ => locEngine d.val

/-- The first unit of a graph that is refused: its fault, die, unit and detail. `others` are the units of other
contexts. -/
def graphRefusal (i : Image) (others us : List UnitCfg) : Option (W16 × LDie × Nat × Nat) :=
  us.findSome? (fun g =>
    match unitRefusal i g, badQueue i us g with
    | some code, q => some (code, g.die, g.unit.val, queueDetail g.unit.val (if code = 0x6001 then q else none))
    | none, some q => some (0x6001, g.die, g.unit.val, queueDetail g.unit.val (some q))
    | none, none => if poolsOk others us g then none
        else some (0x6001, g.die, g.unit.val, queueDetail g.unit.val ((g.inputs.head?).map (fun q => (inQueue g q).2))))

/-- The units of the other contexts: those of their graphs in force, and of images that no graph runs. -/
def State.othersUnits (s : State) (c : CtxId) : List UnitCfg :=
  (allCtx.filter (· != c)).flatMap (fun o =>
    match s.unitsOf o with
    | [] => (((s.ctx o).image.map (·.graph.units)).getD [])
    | us => us.filterMap (fun p => p.2.active.cfg))

/-! ### The image (R177) -/

/-- No element of a list is in another. -/
def apart {A : Type} [BEq A] (a b : List A) : Bool := a.all (fun x => !b.contains x)

/-- Two ranges of fabric addresses meet. -/
def rangeMeets (a : W64) (n : Nat) (b : W64) (m : Nat) : Bool :=
  bits a.toNat 0 50 < bits b.toNat 0 50 + m && bits b.toNat 0 50 < bits a.toNat 0 50 + n

/-- The stack ranges that an image names beside its banks: scan areas, speculative scratch regions, input logs
(R177). -/
def imageRanges (i : Image) : List (W64 × Nat) :=
  i.scan.map (fun x => (x.2.2.1, x.2.2.2)) ++ i.suspend.map (fun x => (x.2.1, x.2.2)) ++ i.scratch.map (fun x => (x.2.1, x.2.2))
    ++ i.logAt.flatMap (fun x =>
      let n := ((i.logs.find? (fun l => l.1 == x.1 && l.2.1 == x.2.1)).map (·.2.2)).getD (2 ^ 20)
      [(x.2.2.1, n), (x.2.2.2, n)])

/-- Two images share nothing. -/
def imagesApart (a b : Image) : Bool :=
  apart a.tiles b.tiles && apart (a.segments.map (fun g => (g.1, g.2.1))) (b.segments.map (fun g => (g.1, g.2.1)))
    && apart a.banks b.banks && apart a.dieBlocks b.dieBlocks && apart a.hubBlocks b.hubBlocks
    && apart a.streams b.streams && apart (a.mcasts.map (fun (m : Mcast) => m.id)) (b.mcasts.map (fun (m : Mcast) => m.id))
    && apart (a.rings.map (fun r => (r.die, r.eng, r.ring))) (b.rings.map (fun r => (r.die, r.eng, r.ring)))
    && apart a.linkQueues b.linkQueues
    && apart ((a.graph.units.filter (fun g => 96 ≤ g.unit.val && g.unit.val < 104)).map (fun g => (g.die, g.unit)))
        ((b.graph.units.filter (fun g => 96 ≤ g.unit.val && g.unit.val < 104)).map (fun g => (g.die, g.unit)))
    && (imageRanges a).all (fun x => (imageRanges b).all (fun y => !rangeMeets x.1 x.2 y.1 y.2))

/-- A unit, or else a die, at which two images meet. -/
def meetingUnit (a b : Image) : Option (LDie × Nat) :=
  ((a.tiles.find? b.tiles.contains).map (fun t => (t.1, t.2.val)))
  <|> ((a.streams.find? b.streams.contains).map (fun t => (t.1, 104 + t.2.val)))
  <|> ((a.rings.find? (fun r => b.rings.any (fun q => q.die == r.die && q.eng == r.eng && q.ring == r.ring))).map
    (fun r => (r.die, 96 + r.eng.val)))
  <|> ((a.graph.units.find? (fun g => 96 ≤ g.unit.val && g.unit.val < 104
      && b.graph.units.any (fun h => h.die == g.die && h.unit == g.unit))).map (fun g => (g.die, g.unit.val)))
  <|> ((a.segments.find? (fun g => b.segments.any (fun h => h.1 == g.1 && h.2.1 == g.2.1))).map (fun g => (g.1, 0)))

/-- Cell blocks and banks that belong to firmware or the reserve are not assigned (R248, R296). -/
def State.grantable (s : State) (i : Image) : Bool :=
  i.banks.all (fun p => p.2.val != 63 && s.stackRole p.1.val != 1)
    && i.dieBlocks.all (fun p => decide (p.2.val < 30)) && i.hubBlocks.all (fun p => decide (p.2.val < 240))

/-- A ring declaration lies in a RESIDENT segment of its context (R121, R122). -/
def ringOk (i : Image) (r : RingDecl) : Bool :=
  r.base % 4096 == 0 && decide (4 ≤ r.log2) && decide (r.log2 ≤ 12) && decide (r.prio < 4)
    && decide (r.base + 64 * 2 ^ r.log2 ≤ 2 ^ 25)
    && (List.range' (r.base / 2 ^ 20) ((r.base + 64 * 2 ^ r.log2 - 1) / 2 ^ 20 + 1 - r.base / 2 ^ 20)).all
      (fun g => i.segments.any (fun x => x.1 == r.die && x.2.1.val == g && x.2.2))

/-- The RESIDENT regions of a tile satisfy R101. -/
def residentOk (i : Image) (r : Resident) : Bool :=
  let mine := i.resident.filter (fun x => x.die == r.die && x.tile == r.tile)
  let steps : Nat := ((i.cache.find? (fun x => x.1 == r.die && x.2.1 == r.tile)).map (·.2.2)).getD 0
  i.tiles.contains (r.die, r.tile) && decide (steps ≤ 4) && !r.unsettled && r.off % 4096 == 0 && r.len % 4096 == 0
    && decide (0 < r.len) && decide (r.off + r.len ≤ (1024 - 64 * steps) * 4096)
    && decide (mine.length ≤ 8)
    && (mine.filter (fun x => decide (x.off < r.off + r.len) && decide (r.off < x.off + x.len))).length == 1

/-- A range of stack space lies in banks that the image holds. -/
def ownsStack (i : Image) (a : W64) (n : Nat) : Bool :=
  let p := placementOf a
  bits a.toNat 46 4 == 0 && decide (0 < n) && decide (p.2 + n ≤ 2 ^ 36)
    && (List.range' (p.2 / 2 ^ 30) ((p.2 + n - 1) / 2 ^ 30 + 1 - p.2 / 2 ^ 30)).all
      (fun b => i.banks.any (fun x => x.1.val == p.1 && x.2.val == b))

/-- A range of sync space lies in cell blocks that the image holds. -/
def ownsCells (i : Image) (a : W64) (n : Nat) : Bool :=
  let loc := bits a.toNat 37 9
  let off := bits a.toNat 0 16
  bits a.toNat 46 4 == 3 && decide (0 < n) && decide (off + n ≤ 2 ^ 16)
    && (List.range' (off / 128) ((off + n - 1) / 128 + 1 - off / 128)).all (fun b =>
      if loc < 144 then i.dieBlocks.any (fun x => x.1.val == loc && x.2.val == b)
      else i.hubBlocks.any (fun x => 0x1F0 + x.1.val == loc && x.2.val == b))

/-- An export entry is inside the context's own banks or cells (R322). -/
def exportOk (c : CtxId) (i : Image) (e : Export) : Bool :=
  e.context.toNat == c.val && bits e.base.toNat 50 14 == 0x3FFF
    && (ownsStack i e.base e.length.toNat && e.base.toNat % 128 == 0 || ownsCells i e.base e.length.toNat)

/-- The largest chunk (R330). -/
def groupChunk (g : GroupDecl) : Nat := (groupElems g + g.p - 1) / g.p

/-- A reduction group declaration is inside R328's limits. -/
def groupOk (i : Image) (g : GroupDecl) : Bool :=
  let wire := max (groupChunk g * (if g.fullBf16 then 2 else 4)) ((groupChunk g + 1023) / 1024 * 132)
  let need := (wire + 4095) / 4096 * 4096
  decide (2 ≤ g.p) && decide (g.p ≤ 16384) && decide (g.q < g.p)
    && decide (4 * 2 ^ 20 ≤ g.bucketBytes) && decide (g.bucketBytes ≤ 256 * 2 ^ 20) && g.bucketBytes % 4096 == 0
    && decide (g.p ≤ groupElems g) && decide (1 ≤ g.slots.length) && decide (g.slots.length ≤ 1024)
    && fmtOk g.outFmt.toNat && decide (need ≤ g.stageBytes)
    && ownsStack i g.stage0 g.stageBytes && ownsStack i g.stage1 g.stageBytes
    && i.rings.any (fun r => r.die == g.die && r.eng == 6 && r.ring == g.ring)
    && g.slots.all (fun x => ownsStack i x.record 64)

/-- The group number is free for the context (R327). -/
def State.groupFree (s : State) (c : CtxId) (g : GroupDecl) : Bool :=
  match tget none s.fab.owner g.group.val with
  | some o => o == c
  | none => true

/-- A staging area lies in a RESIDENT commons segment of its image, and the scan areas, input logs and scratch regions in
its banks (R155, R177, R215, R525). (DEDUCED, log 143) -/
def areasOk (i : Image) : Bool :=
  i.staging.all (fun x => decide (0 < x.2.2) && decide (x.2.1 / 2 ^ 20 = (x.2.1 + x.2.2 - 1) / 2 ^ 20)
      && i.segments.any (fun g => g.1 == x.1 && g.2.1.val == x.2.1 / 2 ^ 20 && g.2.2))
    && (imageRanges i).all (fun x => x.2 == 0 || ownsStack i x.1 x.2)

/-- A host window satisfies R433. -/
def windowFree (i : Image) (manifest : Option Manifest) (w : W64 × Nat) : Bool :=
  w.1.toNat % 4096 == 0 && decide (4096 ≤ w.2) && decide (w.2 ≤ 2 ^ 32) && ownsStack i w.1 w.2
    && (i.reserved ++ imageRanges i).all (fun r => !rangeMeets w.1 w.2 r.1 r.2)
    && i.groups.all (fun g => !rangeMeets w.1 w.2 g.stage0 g.stageBytes && !rangeMeets w.1 w.2 g.stage1 g.stageBytes
      && g.slots.all (fun x => !rangeMeets w.1 w.2 x.record 64
        && (x.residue == 0 || !rangeMeets w.1 w.2 x.residue (groupElems g * 4))))
    && (match manifest with
      | some m => m.entries.all (fun e => !e.flags.toNat.testBit 0
          || !rangeMeets w.1 w.2 e.placement e.length.toNat)
      | none => true)

/-- Why an image is refused: fault, location and detail; none where it loads. -/
def State.imageRefusal (s : State) (c : CtxId) (i : Image) : Option (W16 × Loc × Nat) :=
  let others := (allCtx.filter (· != c)).filterMap (fun o => (s.ctx o).image)
  if !(others.all (imagesApart i)) || !s.grantable i || !areasOk i
      || !(i.regs.all (fun r => decide (4160 ≤ r.2.2.2.toNat))) then
    (match others.findSome? (meetingUnit i), i.tiles with
      | some (d, u), _ => some (0x6001, locEngine d.val, u)
      | none, t :: _ => some (0x6001, locEngine t.1.val, t.2.val)
      | none, [] => some (0x6001, locHub 0, 0))
  else match i.rings.find? (fun r => !ringOk i r) with
  | some r => some (0x6040, locEngine r.die.val, r.ring.val * 2 ^ 16)
  | none => match i.resident.find? (fun r => !residentOk i r) with
  | some r => some (0x4065, locSpad r.die.val r.tile.val 0, 0)
  | none => if decide (32 < i.exports.length) || !(i.exports.all (exportOk c i))
        || decide (256 < ((s.fab.exports.filter (fun p => p.1 != c)).length + i.exports.length)) then
      some (0x9021, locHub 0, 0)
  else match i.groups.find? (fun g => s.obj 0x2100 0x06 == 1 || !groupOk i g || !s.groupFree c g) with
  | some g => some (0x9030, locEngine g.die.val, g.group.val)
  | none => if decide (8 < i.windows.length) || !(i.windows.all (windowFree i (s.ctx c).manifest)) then
      some (0x7031, s.rootLoc, 0)
  else match graphRefusal i (s.othersUnits c) i.graph.units with
  | some (code, d, u, x) => some (code, refusalLoc code d u, x)
  | none => none

/-! ### Unbinding a region (R95, R103, R115, R138, R250, R296, R429) -/

/-- A ring is unbound and cleared; its fetched descriptors count as ABORTED (R138). -/
def State.unbindRings (s : State) (c : CtxId) : State :=
  let s := s.eng.ring.foldl (fun (s : State) p =>
    if p.2.ctx = some c ∧ p.2.descs ≠ [] then s.count .engine (p.1 / 8) 0x10 p.2.descs.length else s) s
  { s with eng := { s.eng with
      ring := s.eng.ring.filter (fun p => p.2.ctx != some c)
      engine := tmap (fun _ (e : EngineS) =>
        { e with
          sr := tset 0 e.sr c.val 0
          placed := if e.placed = some c then none else e.placed
          certs := if e.placed = some c then [] else e.certs
          disabled := if e.placed = some c then [] else e.disabled }) s.eng.engine } }

/-- What an image holds: a commons segment, whatever its RESIDENT declaration. -/
def holdsSegment (i : Image) (g : LDie × Fin 32 × Bool) : Bool := i.segments.any (fun h => h.1 == g.1 && h.2.1 == g.2.1)

/-- Tiles of the region that the next image does not hold are zeroised (R100, R103); `ending` discards their
cached lines in place of CLEAN. -/
def State.unbindTiles (s : State) (c : CtxId) (ending : Bool) (next : Option Image) : State :=
  ((s.ctx c).tiles.filter (fun p => !next.any (fun i => i.tiles.contains p))).foldl (fun (s : State) p =>
    match s.tileKey p.1 p.2 with
    | some k =>
      let s := if ending then s
        else (s.cacheRange ⟨c, false, .none, 16 + p.2.val⟩ (tileRec p.1 p.2.val) k .clean (fun _ => true)).1
      s.zeroTile k
    | none => s) s

/-- Everything the image of a context binds is released. What the context's next image holds as well stays with
the context, and keeps its contents. (DEDUCED, log 125) -/
def State.unbind (s : State) (c : CtxId) (ending : Bool) (next : Option Image) : State :=
  match (s.ctx c).image with
  | none => s
  | some i =>
    let s := ((if ending then s.revokeCredits c else s).unbindTiles c ending next).unbindRings c
    let s := (i.segments.filter (fun g => !next.any (fun j => holdsSegment j g))).foldl (fun (s : State) g =>
      match s.phys g.1 with
      | some d => s.passSegment d g.2.1.val none
      | none => s) s
    let s := (i.dieBlocks.filter (fun b => !next.any (fun j => j.dieBlocks.contains b))).foldl (fun (s : State) b =>
      s.passBlock (dieCells b.1.val + b.2.val * 16) (dieBlock b.1.val b.2.val) 0xFF) s
    let s := (i.hubBlocks.filter (fun b => !next.any (fun j => j.hubBlocks.contains b))).foldl (fun (s : State) b =>
      s.passBlock (hubCells b.1.val + b.2.val * 16) (hubBlock b.1.val b.2.val) 0xFF) s
    let s := s.stk.stack.foldl (fun (s : State) p =>
      p.2.owner.foldl (fun (s : State) o =>
        if o.2.toNat = c.val ∧ !next.any (fun j => j.banks.any (fun b => b.1.val == p.1 && b.2.val == o.1)) then
          s.passBank p.1 o.1 0xFF
        else s) s) s
    let mine (k : Nat) : Bool := (s.unit (k / 512 * 128 + k % 512 / 4)).ctx == some c
    let s := { s with
      flow := { s.flow with
        queue := s.flow.queue.filter (fun p => !mine p.1)
        inlog := s.flow.inlog.filter (fun p => (s.unit p.1).ctx != some c)
        unit := s.flow.unit.filter (fun p => p.2.ctx != some c) }
      fab := { s.fab with
        exports := s.fab.exports.filter (fun p => p.1 != c)
        group := s.fab.group.filter (fun (p : Nat × Option GroupRun) => (p.2.map (fun (x : GroupRun) => x.ctx)) != some c)
        owner := s.fab.owner.filter (fun p => p.2 != some c)
        linkq := s.fab.linkq.filter (fun (p : Nat × Option (CtxId × LDie)) => (p.2.map (fun (x : CtxId × LDie) => x.1)) != some c) }
      net := { s.net with
        mcast := s.net.mcast.filter (fun (p : Nat × Option (CtxId × Mcast)) => (p.2.map (fun (x : CtxId × Mcast) => x.1)) != some c)
        copies := s.net.copies.filter (fun p => p.pkt.ctx != BitVec.ofNat 5 c.val || p.pkt.firmware) } }
    s.modCtx c (fun x => { x with image := none, stackKeys := [] })

/-! ### Binding a region (R177) -/

/-- A bank of a tile that enters a region has its supply back: banks of a region are never OFF (R100). (DEDUCED, log 144) -/
def BankSt.powered : BankSt → BankSt
  | .closed .off | .closing .off => .open
  | b => b

/-- What an image assigns: tiles, segments, banks with their keys, cell blocks, rings, exports, groups,
link queues, multicast groups. What the context's last image held as well stays as it is: the size of a cache changes at
a switch only (R99). -/
def State.bind (s : State) (c : CtxId) (last : Option Image) (i : Image) : State :=
  let s := i.tiles.foldl (fun (s : State) p =>
    match s.tileKey p.1 p.2 with
    | some k =>
      let steps := ((i.cache.find? (fun x => x.1 == p.1 && x.2.1 == p.2)).map (·.2.2)).getD 0
      let kept := last.any (fun j => j.tiles.contains p)
      (if kept then s else s.zeroTile k).modTile k (fun t =>
        { t with
          banks := if kept then t.banks else t.banks.map (fun b => (b.1, b.2.powered))
          resident := (i.resident.filter (fun r => r.die == p.1 && r.tile == p.2)).map (fun r => (r.off, r.len))
          cacheSteps := if kept then t.cacheSteps else steps })
    | none => s) s
  let s := i.segments.foldl (fun (s : State) g =>
    match s.phys g.1 with
    | some d =>
      if last.any (fun j => holdsSegment j g) then
        s.modCommons d (fun x => { x with seg := tset none x.seg g.2.1.val (some (c, g.2.2)) })
      else s.passSegment d g.2.1.val (some (c, g.2.2))
    | none => s) s
  let s := (i.dieBlocks.filter (fun b => !last.any (fun j => j.dieBlocks.contains b))).foldl (fun (s : State) b =>
    s.passBlock (dieCells b.1.val + b.2.val * 16) (dieBlock b.1.val b.2.val) (BitVec.ofNat 8 c.val)) s
  let s := (i.hubBlocks.filter (fun b => !last.any (fun j => j.hubBlocks.contains b))).foldl (fun (s : State) b =>
    s.passBlock (hubCells b.1.val + b.2.val * 16) (hubBlock b.1.val b.2.val) (BitVec.ofNat 8 c.val)) s
  let s := i.banks.foldl (fun (s : State) p =>
    (if s.bankOwner p.1.val p.2.val = BitVec.ofNat 8 c.val then s
      else s.passBank p.1.val p.2.val (BitVec.ofNat 8 c.val)).modCtx c (fun x =>
      { x with stackKeys := insertNew p.1.val x.stackKeys })) s
  let s := i.rings.foldl (fun (s : State) r =>
    s.modRing (ringKey r.die r.eng.val r.ring.val) (fun _ =>
      { base := BitVec.ofNat 64 r.base, log2 := BitVec.ofNat 8 r.log2, ctx := some c
        prio := BitVec.ofNat 8 r.prio })) s
  { s with
    fab := { s.fab with
      exports := s.fab.exports ++ i.exports.map (fun e => (c, e))
      owner := i.groups.foldl (fun (t : Tbl (Option CtxId)) (g : GroupDecl) => tset none t g.group.val (some c)) s.fab.owner
      group := i.groups.foldl (fun (t : Tbl (Option GroupRun)) (g : GroupDecl) =>
        tset none t (g.die.val * 4 + g.group.val) (some { ctx := c, decl := g })) s.fab.group
      linkq := i.linkQueues.foldl (fun (t : Tbl (Option (CtxId × LDie))) (q : Fin 4096 × LDie) =>
        tset none t (q.1.val * 256 + q.2.val) (some (c, q.2))) s.fab.linkq }
    net := { s.net with
      mcast := i.mcasts.foldl (fun (t : Tbl (Option (CtxId × Mcast))) (m : Mcast) => tset none t m.id.val (some (c, m)))
        s.net.mcast } }.modCtx c (fun x => { x with image := some i })

/-- Every residue of a group goes to zero (R332, R335). -/
def State.zeroGroup (s : State) (g : GroupDecl) : State :=
  let s := s.count .ring (g.die.val * 4 + g.group.val) 0x18 1
  g.slots.foldl (fun (s : State) x =>
    let p := placementOf x.residue
    { s with
      stackMem := zeroRange s.stackMem (stackBase p.1 + p.2)
        (stackBase p.1 + p.2 + (groupElems g - chunkSize g g.q) * 4) }) s

/-- The ring of two declarations is the same: members, order, bucket and slots (R335). -/
def sameRing (a b : GroupDecl) : Bool :=
  a.p == b.p && a.q == b.q && a.predPanel == b.predPanel && a.predDie == b.predDie
    && a.succPanel == b.succPanel && a.succDie == b.succDie && a.bucketBytes == b.bucketBytes && a.slots == b.slots

/-- Residues of groups whose declaration differs from the last one are zeroed (R335). (DEDUCED, log 44) -/
def State.resetResidues (s : State) (old : Tbl (Option GroupRun)) (i : Image) : State :=
  i.groups.foldl (fun (s : State) g =>
    match tget none old (g.die.val * 4 + g.group.val) with
    | none => s
    | some o => if sameRing o.decl g then s else s.zeroGroup g) s

/-! ### Configurations in force -/

/-- A queue has n slots from now on: the producer holds a credit for each that no token has, and that no token or
credit on its way will have; where fewer slots than those are declared, it owes the difference (R147). -/
def QueueS.resize (q : QueueS) (n : Nat) : QueueS :=
  let out := q.slots + q.debt - q.credits
  { q with slots := n, credits := n - out, debt := out - n }

/-- The queues of a unit take the declarations of its record, and its producers the credits of a new or changed queue
(R147, R169). -/
def State.declareQueues (s : State) (posture : Byte) (d : LDie) (u : Nat) (g : Option UnitCfg) : State :=
  (List.range 4).foldl (fun (s : State) p =>
    let key := queueKey d (u * 4 + p)
    let new := (g.bind (fun g => g.inputs.find? (fun q => q.port.val == p)))
    let q := s.queue key
    let n := (new.map (queueSlots posture)).getD 0
    if q.decl = new ∧ q.slots = n then s
    else s.modQueue key (fun q => { q with decl := new }.resize n)) s

/-- The record of a unit becomes ACTIVE: queues, an engine's placement, a tile's cache. -/
def State.activate (s : State) (c : CtxId) (d : LDie) (u : Nat) (g : Option UnitCfg) : State :=
  let s := s.declareQueues (s.ctx c).spillPosture d u g
  let s := if 96 ≤ u ∧ u < 104 then
      s.modEngine (engKey d (u - 96)) (fun e => { e with placed := if g.isSome then some c else none })
    else s
  match g, decide (u < 16), s.tileKey d ⟨u % 16, Nat.mod_lt _ (by decide)⟩ with
  | some g, true, some k =>
    s.resizeCache ⟨c, false, .none, 16 + u⟩ (tileRec d u) k g.cacheSteps
  | _, _, _ => s

end Sys2Proof.Machine
end

