-- ==== Sys2Proof/Machine/Placed.lean ====
section
/-! DEFINITION. Engines as dataflow units (R126): the operation of a configuration on the payloads of its input
queues, with the configuration's parameters in place of descriptor words 4 to 7. -/

namespace Sys2Proof.Machine

/-- A configuration as the words of a descriptor without addresses: opcode, control, formats and words 4 to 7. -/
def placedWords (op : Byte) (src dst conv : BitVec 4) (params : List W64) : List W64 :=
  [BitVec.ofNat 64 (op.toNat * 2 ^ 56 + conv.toNat * 2 ^ 12 + src.toNat * 2 ^ 8 + dst.toNat * 2 ^ 4), 0, 0, 0] ++ params

/-- What a firing of a placed engine reads beside its tokens: γ and β of NORM_APPLY, and a key. -/
structure PlacedIn where
  gamma : List W32
  beta : List W32
  key : BitVec 256
  deriving DecidableEq, Repr

/-- The elements of a payload in a format; an MX payload holds its scale bytes after its elements. -/
def payloadVals (f n : Nat) (b : Bytes) : List FVal :=
  let es := (unpackElems (elemBits f) (b.take (eb f n))).take n
  let sc := b.drop (eb f n)
  if isMx f then (es.zipIdx).map (fun p => vscale ((sc.getD (p.2 / 32) 0).toNat) (elemVal f p.1))
  else es.map (elemVal f)

/-- The output payload of a placed operation, with the generator and the counts that it leaves; none where the
configuration leaves open what the operation works on (GATHER and SCATTER name no table, the geyser engine's
operations and RING_STEP work on descriptors, SIGN1_ENC has no place for its residue, GCM_DEC and HASH_VERIFY end in a status). -/
def placedOutput (x : List W64) (g : W32) (y : PlacedIn) (ins : List Bytes) : Option (Bytes × W32 × ConvCount) :=
  let n := dCount x
  let a := dA x
  let f := dSrc x
  let b := ins.headD []
  let second := ins.getD 1 []
  let out (vs : List W32) (k : ConvCount) : Option (Bytes × W32 × ConvCount) :=
    let r := convVals (dDst x) (dConv x) g (vs.map ofF32)
    some (r.1 ++ r.2.1, r.2.2.1, k.plus r.2.2.2)
  let plain (d : Bytes) : Option (Bytes × W32 × ConvCount) := some (d, g, {})
  match dOp x with
  | 0x01 => plain b
  | 0x02 =>
    let rows := bits a 0 16
    let cols := bits a 16 16
    let e := al f
    plain ((List.range (rows * cols)).flatMap (fun i => (b.drop ((i % rows * cols + i / rows) * e)).take e))
  | 0x03 | 0x06 =>
    let r := convVals (dDst x) (if convExact f (dDst x) then 2 else dConv x) g (payloadVals f n b)
    some (r.1 ++ r.2.1, r.2.2.1, r.2.2.2)
  | 0x04 =>
    let r := (chunk 32 (payloadVals f 1024 b)).foldl (fun (q : List Nat × List Nat × W32 × ConvCount) blk =>
      let (sc, es, g, n) := strataBlock (dConv x) q.2.2.1 blk
      (q.1 ++ [sc], q.2.1 ++ es, g, q.2.2.2.plus n)) ([], [], g, {})
    some ((strataLine (dPlanes x) 0 r.1 r.2.1).2.1, r.2.2.1, r.2.2.2)
  | 0x05 => plain (b.take (lineBytes (dPlanes x)))
  | 0x10 | 0x11 | 0x12 | 0x13 | 0x14 | 0x15 | 0x16 | 0x17 | 0x18 =>
    let ys := (payloadVals f n b).map (curveNote (dOp x))
    out (ys.map (·.1)) ((ys.map (·.2)).foldl ConvCount.plus {})
  | 0x20 | 0x21 =>
    let rs := (chunk a (payloadVals f (n * a) b)).map (fun r =>
      rowStats (dOp x == 0x21) ((x.getD 5 0).setWidth 32) (r.map toF32))
    some (rs.flatMap (·.1), g, (rs.map (·.2)).foldl ConvCount.plus {})
  | 0x22 =>
    let m := max 1 a
    let word (i : Nat) : W32 := BitVec.ofNat 32 (leNat ((second.drop (4 * i)).take 4))
    let ys := ((payloadVals f n b).zipIdx).map (fun p =>
      normValue (toF32 p.1) (word (2 * (p.2 / m))) (word (2 * (p.2 / m) + 1))
        (y.gamma.getD (p.2 % m) 0x3F800000) (y.beta.getD (p.2 % m) 0))
    out (ys.map (·.1)) ((ys.map (·.2)).foldl ConvCount.plus {})
  | 0x30 => plain (recBytes (sortRecs (a % 4) (a.testBit 2) (recs b)))
  | 0x31 | 0x32 =>
    let all := sortRecs (bits a 8 2) (a.testBit 10) (ins.flatMap recs)
    if dOp x = 0x31 then plain (recBytes all)
    else
      let r := all.foldl (fun (q : List Rec8 × Option (W32 × W32 × ConvCount) × ConvCount) r =>
        match q.2.1 with
        | none => (q.1, some (r.1, r.2, {}), q.2.2)
        | some (k, v, c) =>
          if keyRank (bits a 8 2) r.1 = keyRank (bits a 8 2) k then
            let z := addNote (v, c) r.2
            (q.1, some (k, z.1, z.2), q.2.2)
          else (q.1 ++ [(k, v)], some (r.1, r.2, {}), q.2.2.plus c)) ([], none, {})
      match r.2.1 with
      | some (k, v, c) => some (recBytes (r.1 ++ [(k, v)]), g, r.2.2.plus c)
      | none => plain []
  | 0x33 => plain (recBytes ((sortRecs (bits a 11 2) (!a.testBit 10) (recs b)).take (bits a 0 10 + 1)))
  | 0x60 =>
    let bufs := (ins.take (bits a 2 4)).map (fun d => (payloadVals f n d).map toF32)
    let ys := (List.range n).map (fun j =>
      match bufs.map (fun d => d.getD j 0) with
      | [] => ((0 : W32), ({} : ConvCount))
      | v :: vs => vs.foldl (combineNote (a % 4)) (v, {}))
    out (ys.map (·.1)) ((ys.map (·.2)).foldl ConvCount.plus {})
  | 0x62 =>
    let ys := (List.range n).map (fun i =>
      let blk := b.drop (i / 1024 * 132)
      let scale : W32 := BitVec.ofNat 32 (leNat (blk.take 4))
      if bitOf (blk.drop 4) (i % 1024) then scale ^^^ 0x80000000 else scale)
    let zs := if a.testBit 0 then
        List.zipWith (fun z p => addNote (toF32 p, {}) z) ys (payloadVals (dDst x) n second)
      else ys.map (fun z => (z, {}))
    out (zs.map (·.1)) ((zs.map (·.2)).foldl ConvCount.plus {})
  | 0x70 =>
    let r := gcmSeal y.key (gcmIv x) (second.take a) (b.take n)
    plain (r.1 ++ r.2)
  | 0x72 => plain (sha3 32 (b.take n))
  | 0x73 => plain (sha3 64 (b.take n))
  | _ => none

/-- The operation of an opcode. -/
def opOf (op : Nat) : EngOp :=
  match op with
  | 0x01 => opCopy | 0x02 => opTranspose | 0x03 => opConvert | 0x04 => opStrataPack | 0x05 => opStrataTrim
  | 0x06 => opMxPack | 0x20 => opStats false | 0x21 => opStats true | 0x22 => opNormApply | 0x30 => opSort
  | 0x31 => opMerge false | 0x32 => opMerge true | 0x33 => opTopk | 0x40 => opGather | 0x41 => opScatter
  | 0x42 => opScatterAdd | 0x50 => opPredict | 0x51 => opCertify | 0x60 => opCombine | 0x61 => opSign1Enc
  | 0x62 => opSign1Dec | 0x70 => opGcm false | 0x71 => opGcm true | 0x72 => opSha3 32 | 0x73 => opSha3 64
  | 0x74 => opHashVerify | _ => opCurve

/-- γ, β and the key of a placed operation, as far as they can be read. -/
def State.placedIn (s : State) (w : EngW) (x : List W64) : PlacedIn :=
  let words (a : W64) : List W32 :=
    if a = 0 then []
    else match (s.epeek w.who a (4 * dA x)).2 with
      | .ok b => (unpackElems 32 b).map (BitVec.ofNat 32)
      | .error _ => []
  if dOp x = 0x22 then ⟨words (x.getD 5 0), words (x.getD 6 0), 0⟩
  else ⟨[], [], match tget none (s.ctx w.who.ctx).slots (dw x 5 % 8) with | some p => p.1 | none => 0⟩

/-- A firing of a placed engine: its output payload, or the free one where the configuration leaves the operation
open; the generator and the counters of the engine follow. -/
def State.placedFire (s : State) (c : CtxId) (d : LDie) (e : Nat) (x : List W64) (free : Bytes) (ins : List Bytes) :
    State × Bytes :=
  let w := engW c d e
  let k := engKey d e
  let s := s.engBusy d e (max 1 ((opOf (dOp x)).cycles x))
  match placedOutput x (s.engSr k c) (s.placedIn w x) ins with
  | some (b, g, n) => ((s.setEngSr k c g).countConv w.arith n, b)
  | none => (s, free)

end Sys2Proof.Machine
end

