-- ==== Sys2Proof/Machine/Firing.lean ====
section
/-! DEFINITION. Firings of dataflow units (R144, R152, R179–R181, R228, R235, R525, R526, R540). -/

namespace Sys2Proof.Machine

/-! ### What every firing does -/

/-- The sparse counter record of a unit: its tile, or tile 0 for a stream port (R239). -/
def sparseRec (d : LDie) (u : Nat) : Nat := tileRec d ((unitTile u).getD 0)

/-- A completed firing: counters (R175), and the join watchdog restarts (R171). -/
def State.fired (s : State) (_c : CtxId) (d : LDie) (u : Nat) (g : UnitCfg) (eof : Bool) : State :=
  let k := unitKey d u
  let s := (s.count .unit k 0x00 1).count64 .unit k 0x08 1
  let s := if eof then (s.count .unit k 0x04 (max 1 g.outputs.length)).modUnit k
      (fun x => { x with sparseLogged := [] }) else s
  s.modUnit k UnitS.joinReset

/-! ### The input log (R525) -/

/-- Bytes of a log record: payload, sideband and entry kind. (DEDUCED, log 36) -/
def logBytes (t : Token) : Nat := t.payload.length + 4

/-- The log of a port. -/
def State.logOf (s : State) (k : Nat) : InLog := tget {} s.flow.inlog k

/-- A log becomes f of itself. -/
def State.modLog (s : State) (k : Nat) (f : InLog → InLog) : State :=
  { s with flow := { s.flow with inlog := tmod {} s.flow.inlog k f } }

/-- Room for another record. -/
def InLog.room (l : InLog) (t : Token) : Bool :=
  decide ((l.records.map logBytes).sum + logBytes t ≤ l.size)

/-- Bytes of a log from its start to record i of those it keeps. -/
def InLog.offset (l : InLog) (i : Nat) : Nat := l.start + ((l.records.take i).map logBytes).sum

/-- The bytes of a log record. -/
def logRecord (t : Token) : Bytes :=
  toLe 2 (tokSideband t).toNat ++ [if t.endMark then 1 else 0, BitVec.ofNat 8 t.payload.length] ++ t.payload

/-- The two mirrors of a port's log ring, in the west and the east home stack of its die (R525). -/
def State.logRings (s : State) (c : CtxId) (d : LDie) (u : Nat) : List W64 :=
  match (s.ctx c).image with
  | none => []
  | some i => (i.logAt.filter (fun x => x.1 == d && 104 + x.2.1.val == u)).flatMap (fun x => [x.2.2.1, x.2.2.2])

/-- The runs of n bytes at an offset of a ring of a size, which wraps: place and length, in order. -/
def ringRuns (size off n : Nat) : List (Nat × Nat) :=
  let o := off % max size 1
  let m := min n (size - o)
  if m = n then [(o, n)] else [(o, m), (0, n - m)]

/-- A record is written into both mirrors of a log's ring; false where neither takes it whole (R525). -/
def State.logPut (s : State) (c : CtxId) (d : LDie) (u : Nat) (t : Token) : State × Bool :=
  let l := s.logOf (unitKey d u)
  let b := logRecord t
  let w : Who := ⟨c, false, .none, u⟩
  let put (s : State) (ring : W64) : State × Bool :=
    ((ringRuns l.size (l.offset l.records.length) b.length).foldl (fun (r : (State × Bool) × Nat) q =>
      let x := r.1.1.writeFA w (ring + BitVec.ofNat 64 q.1) ((b.drop r.2).take q.2)
      ((x.1, r.1.2 && (match x.2 with | .ok _ => true | _ => false)), r.2 + q.2)) ((s, true), 0)).1
  match s.logRings c d u with
  | [] => (s, true)
  | rings => rings.foldl (fun (r : State × Bool) ring =>
      let x := put r.1 ring
      (x.1, r.2 || x.2)) (s, false)

/-- Record i of those a log keeps is read back; false where neither mirror gives it. -/
def State.logGet (s : State) (c : CtxId) (d : LDie) (u i : Nat) : State × Bool :=
  let l := s.logOf (unitKey d u)
  let n := ((l.records[i]?).map logBytes).getD 0
  let w : Who := ⟨c, false, .none, u⟩
  let get (s : State) (ring : W64) : State × Bool :=
    (ringRuns l.size (l.offset i) n).foldl (fun (r : State × Bool) q =>
      let x := r.1.readFA w (ring + BitVec.ofNat 64 q.1) q.2
      (x.1, r.2 && (match x.2 with | .ok _ => true | _ => false))) (s, true)
  match s.logRings c d u with
  | [] => (s, true)
  | rings => rings.foldl (fun (r : State × Bool) ring => if r.2 then r else get r.1 ring) (s, false)

/-- Event 0x6016 of a full log, at most once per checkpoint interval per port. -/
def State.logFull (s : State) (c : CtxId) (d : LDie) (u : Nat) : State :=
  let k := unitKey d u
  let due := match (s.logOf k).fullEvent with
    | none => true
    | some t => decide (t + s.obj 0x2100 0x05 * 1000000 ≤ s.now)
  if due then
    (s.event 0x6016 (some c) (unitLoc d) u).modLog k (fun l => { l with fullEvent := some s.now })
  else s

/-- Queue credits of a link queue go back to the panel that sent its tokens (R325). -/
def State.returnLink (s : State) (c : CtxId) (d : LDie) (panel : BitVec 14) (lq n : Nat) : State :=
  let die := (s.phys d).getD 0
  (s.count .net die 0x2C 1).fabricOut die (panelWord panel)
    (.control 0x02 (BitVec.ofNat 5 c.val) (BitVec.ofNat 19 (lq + n * 4096)))

/-- Tokens that wait are written into the log as it has room, and their credits return; a full log raises event
0x6016. -/
def State.logArrivals (s : State) (c : CtxId) (d : LDie) (u lq : Nat) : Nat → State
  | 0 => s
  | n + 1 =>
    let k := unitKey d u
    match (s.logOf k).waiting with
    | [] => s
    | (panel, t) :: rest =>
      if (s.logOf k).room t then
        match s.logPut c d u t with
        | (s, false) => s
        | (s, true) =>
          ((s.modLog k (fun l => { l with records := l.records ++ [t], waiting := rest })).returnLink c d panel lq 1).logArrivals
            c d u lq n
      else s.logFull c d u

/-- The record at the delivered position, if it has been written. -/
def InLog.next (l : InLog) : Option Token := l.records[l.pos - l.dropped]?

/-- The next record of a port's log, read back; none where there is none or neither mirror gives it. -/
def State.logNext (s : State) (c : CtxId) (d : LDie) (u : Nat) : State × Option Token :=
  let l := s.logOf (unitKey d u)
  match l.next with
  | none => (s, none)
  | some t =>
    let r := s.logGet c d u (l.pos - l.dropped)
    if r.2 then (r.1, some t)
    else (r.1.unitFail ⟨c, false, .none, u⟩ (((s.logRings c d u).head?).getD 0) (.fail .poisoned 0x4004), none)

/-- A record is delivered: the position advances; a record written before the newest restore counts as
replayed. -/
def State.logDelivered (s : State) (k : Nat) (replay : Bool) : State :=
  let s := s.modLog k (fun l => { l with pos := l.pos + 1 })
  if replay then s.count .recovery 0 0x20 1 else s

/-! ### Pages (R228, R235) -/

/-- The next page of a tagged tensor comes into the page buffer: EXPAND its dense bytes, RAW its data
bytes. Bad entries act under R231. None where the read does not complete. -/
def State.loadPage (s : State) (c : CtxId) (d : LDie) (u : Nat) (g : UnitCfg) (x : SparseDecl) : State × Bool :=
  let k := unitKey d u
  let w := whoUnit c u g
  let p := (s.unit k).pos / 4096
  match s.readPage w x (sparseRec d u) p with
  | (s, .error (a, r)) => (s.unitFail w a r, false)
  | (s, .ok (tag, body)) =>
    let (dense, bad) := if x.raw then (body, []) else expandPage x p tag body
    let s := s.sparseFault c d u (sparseRec d u) p bad
    (s.modUnit k (fun y =>
      { y with page := dense, pageTag := if x.raw then BitVec.ofNat 2 tag else 0, pos := y.pos + 4096 }), true)

/-- Bytes of the page that a RAW writer collects, from what has arrived. -/
def rawLength (x : SparseDecl) (tag : BitVec 2) (b : Bytes) : Nat :=
  let n := 4096 * 8 / elemBits x.fmt.toNat
  if tag = 2 then
    if b.length < n / 8 then n / 8 + 1
    else n / 8 + (((List.range n).filter (fun i => bitOf b i)).length * elemBits x.fmt.toNat + 7) / 8
  else pageBytes x tag.toNat

/-- A payload enters the page buffer of a writer; complete pages are written, and an incomplete one at
the end of a frame is written DENSE, or as a page where the tensor ends inside it. False where a page is not
acknowledged whole: the payload has not entered (R144, R228). -/
def State.writeIntoPage (s : State) (c : CtxId) (d : LDie) (u : Nat) (g : UnitCfg) (x : SparseDecl) (t : Token) :
    State × Bool :=
  let k := unitKey d u
  let w := whoUnit c u g
  let y := s.senderOf d u
  let b := (s.unit k).page ++ t.payload
  let p := (s.unit k).pos / 4096
  let total := (x.elems * elemBits x.fmt.toNat + 7) / 8
  let after (r : State × Bool) (rest : Bytes) : State × Bool :=
    (if r.2 then r.1.modUnit k (fun z => { z with page := rest, pos := z.pos + 4096 }) else r.1, r.2)
  if x.raw then
    if t.fmt = 3 then after (s.writeTagged w y x p 3 []) []
    else if rawLength x t.fmt b ≤ b.length then after (s.writeTagged w y x p t.fmt.toNat b) []
    else (s.modUnit k (fun z => { z with page := b }), true)
  else if 4096 ≤ b.length then after (s.writePage w y x (sparseRec d u) p (b.take 4096)) (b.drop 4096)
  else if t.eof && total ≤ p * 4096 + b.length then
    after (s.writePage w y x (sparseRec d u) p (b ++ List.replicate (4096 - b.length) 0)) []
  else if t.eof then after (s.writeTagged w y x p 0 b) []
  else (s.modUnit k (fun z => { z with page := b }), true)

/-! ### Checksum points (R540) -/

/-- 32 bits drawn from the checksum generator. -/
def sumDraw (g : W32) : W32 := lfsr 32 g

/-- The generator at the start of frame f of point q. -/
def State.sumSeed (s : State) (q f : Nat) : W32 :=
  let v := BitVec.ofNat 32 (s.obj 0x2100 0x0C)
    ^^^ BitVec.ofNat 32 ((q * 2 ^ 20 + f % 2 ^ 20 + 1) * 0x9E3779B9)
  if v = 0 then 1 else v

/-- One element enters norm and projections. -/
def sumElem (g : W32) (norm : W32) (proj : List W32) (x : W32) : W32 × W32 × List W32 :=
  let lo := sumDraw g
  let hi := sumDraw lo
  let r := hi.toNat * 2 ^ 32 + lo.toNat
  (hi, fadd norm (fmul x x), (proj.zipIdx).map (fun p =>
    fadd p.1 (if r.testBit p.2 then x ^^^ 0x80000000 else x)))

/-- The bytes of a checksum record. -/
def sumRecord (frame point : Nat) (norm : W32) (proj : List W32) : Bytes :=
  toLe 8 frame ++ toLe 2 point ++ [0, 0] ++ toLe 4 norm.toNat ++ proj.flatMap (fun p => toLe 4 p.toNat)

/-- A token passes a checksum point; the last of a frame writes the record. (DEDUCED, log 37) -/
def State.checksum (s : State) (c : CtxId) (d : LDie) (u : Nat) (g : UnitCfg) (t : Token) : State :=
  match g.checksum with
  | none => s
  | some (q, addr) =>
    let k := unitKey d u
    let x := s.unit k
    let fmt := (g.sparse.map (fun y => y.fmt.toNat)).getD 0
    let start := x.sumProj.isEmpty
    let z := ((unpackElems (elemBits fmt) t.payload).foldl (fun (a : W32 × W32 × List W32) e =>
        sumElem a.1 a.2.1 a.2.2 (toF32 (elemVal fmt e)))
      (if start then (s.sumSeed q.val x.sumFrame, 0, List.replicate 64 0) else (x.sumGen, x.sumNorm, x.sumProj)))
    if t.eof then
      let norm := fsqrt z.2.1
      let proj := z.2.2.map (fun p => fmul 0x3E000000 p)
      let w := whoUnit c u g
      let a := addr + BitVec.ofNat 64 (x.sumFrame % 1024 * 272)
      let (s, r) := s.writeOut w (s.senderOf d u) a (sumRecord x.sumFrame q.val norm proj)
      let s := s.unitFail w a r
      let s := if (s.ctx c).restore.isSome then s else { s with
        recov := { s.recov with sums := ((q.val, x.sumFrame, norm, proj) :: s.recov.sums).take 1024 } }
      s.modUnit k (fun y => { y with sumFrame := y.sumFrame + 1, sumNorm := 0, sumProj := [], sumGen := 0 })
    else s.modUnit k (fun y => { y with sumGen := z.1, sumNorm := z.2.1, sumProj := z.2.2 })

/-! ### SOURCE and page readers -/

/-- The next payload of a source, with its format; none where it has ended or its read waits. -/
def State.sourceNext (s : State) (c : CtxId) (d : LDie) (u : Nat) (g : UnitCfg) (addr : W64) (bytes : Nat) :
    State × Option (BitVec 2 × Bytes) :=
  let k := unitKey d u
  let w := whoUnit c u g
  let n := s.outWidth g 0
  match g.sparse with
  | none =>
    let pos := (s.unit k).pos
    if bytes ≤ pos then (s, none)
    else
      let a := addr + BitVec.ofNat 64 pos
      match s.readFA w a (min n (bytes - pos)) with
      | (s, .ok b) => (s.modUnit k (fun y => { y with pos := y.pos + n }), some (0, b))
      | (s, r) => (s.unitFail w a r, none)
  | some x =>
    let need := (s.unit k).page.isEmpty
    if need ∧ bytes ≤ (s.unit k).pos then (s, none)
    else
      let r := if need then s.loadPage c d u g x else (s, true)
      if !r.2 then (r.1, none)
      else
        let y := r.1.unit k
        (r.1.modUnit k (fun z => { z with page := z.page.drop n }), some (y.pageTag, y.page.take n))

/-- A token of a source or page reader is written in the unit's epoch; every `frame`-th ends a frame. -/
def State.sourceEmit (s : State) (c : CtxId) (d : LDie) (u : Nat) (g : UnitCfg) (eof : Bool) (fmt : BitVec 2)
    (b : Bytes) : State :=
  let s := s.emit c d u g 0 (s.mkToken c d u eof fmt true b)
  (s.modUnit (unitKey d u) (fun y => { y with frame := if eof then 0 else y.frame + 1 })).fired c d u g eof

/-- A firing of a source (R144, R181). -/
def State.fireSource (s : State) (c : CtxId) (d : LDie) (u : Nat) (g : UnitCfg) (addr : W64) (bytes frame : Nat)
    (logged : Bool) : State :=
  let k := unitKey d u
  if !s.canEmitAll g then (s.outWait d u g).turnAway
  else match logged, (s.logOf k).next with
    | true, some _ =>
      (match s.logNext c d u with
        | (s, some t) => ((s.sourceEmit c d u g t.eof t.fmt t.payload).logDelivered k true).ok
        | (s, none) => s.turnAway)
    | _, _ =>
      match s.sourceNext c d u g addr bytes with
      | (s, none) => s.turnAway
      | (t, some (fmt, b)) =>
        let eof := decide (frame ≤ (s.unit k).frame + 1)
        let tok := t.mkToken c d u eof fmt true b
        if logged then
          if (t.logOf k).room tok then
            match t.logPut c d u tok with
            | (t, true) =>
              (((t.modLog k (fun l => { l with records := l.records ++ [tok] })).sourceEmit c d u g eof fmt b).logDelivered
                k false).ok
            | (_, false) => s.turnAway
          else (s.logFull c d u).turnAway
        else (t.sourceEmit c d u g eof fmt b).ok

/-! ### INGRESS (R180, R525) -/

/-- A firing of an INGRESS port: the next logged token is checked against the port's own epoch and
delivered under the port's context and epoch. -/
def State.fireIngress (s : State) (c : CtxId) (d : LDie) (u : Nat) (g : UnitCfg) : State :=
  let k := unitKey d u
  let s := match g.op with
    | .ingress lq => s.logArrivals c d u lq.val (s.logOf k).waiting.length
    | _ => s
  match s.logNext c d u with
  | (s, none) => (s.count .unit k 0x10 1).turnAway
  | (s, some t) =>
    match tokenFate c (unitRole u g) (s.unit k) { t with ctx := BitVec.ofNat 5 c.val } with
    | .wait => s.turnAway
    | .flushed => ((if t.endMark then s else s.count .unit k 0x20 1).logDelivered k false).ok
    | .accept =>
      if t.endMark then
        ((s.modUnit k (fun x => { x with ended := insertNew 0 x.ended })).logDelivered k false).ok
      else if !s.canEmitAll g then (s.outWait d u g).turnAway
      else
        (((s.emit c d u g 0 (s.mkToken c d u t.eof t.fmt true t.payload)).fired c d u g t.eof).logDelivered
          k ((s.ctx c).restore.any (fun r => r.goals.any (fun g => g.1 == k && decide ((s.logOf k).pos < g.2))))).ok
    | _ =>
      let s := (if t.endMark then s else s.count .unit k 0x24 1).logDelivered k false
      (if (s.unit k).raised6004 then s
        else (s.event 0x6004 (some c) (unitLoc d) u).modUnit k (fun x => { x with raised6004 := true })).ok

/-- An XTOKEN at the die of its INGRESS port: the token waits for the log and enters it (R325, R525). -/
def State.takeXtoken (s : State) (d : LDie) (lq : Nat) (panel : BitVec 14) (t : Token) : State :=
  match s.flow.unit.find? (fun p => p.1 / 128 == d.val && (match p.2.active.cfg with
      | some g => (match g.op with | .ingress q => q.val == lq | _ => false)
      | none => false)) with
  | none => s
  | some (k, x) =>
    match x.ctx with
    | none => s
    | some c =>
      (s.modLog k (fun l => { l with waiting := l.waiting ++ [(panel, t)] })).logArrivals c d (k % 128) lq
        ((s.logOf k).waiting.length + 1)

/-! ### Units with inputs -/

/-- The free payload of a unit's output port: the manual leaves the operation to the image, and the record in force names
it (R157). -/
def State.freePayload (s : State) (k port : Nat) (ts : List Token) (n : Nat) : Bytes :=
  let b := Config.unitOutput k (s.unit k).active.version.toNat port (ts.map (fun (t : Token) => t.payload))
  (List.range n).map (fun i => b.getD i 0)

/-- The output of a lane unit: free FP32 values, converted under its tile's generator and control (R68, R73). -/
def State.laneFire (s : State) (d : LDie) (u : Nat) (fmt conv : Nat) (port : Nat) (ts : List Token) (n : Nat) :
    State × Bytes :=
  let t := u % 16
  let key := (s.tileKey d ⟨t % 16, by omega⟩).getD 0
  let vs := (unpackElems 32 (s.freePayload (unitKey d u) port ts (n * 8 / elemBits fmt * 4))).map (elemVal 0)
  let (es, ss, g, k) := convVals fmt conv (s.tile key).sr vs
  ((s.modTile key (fun y => { y with sr := g })).countConv (arithTile d.val t) k, (es ++ ss).take n)

/-- No buffer half that an array pair's rounds read is unsettled (R152). -/
def State.halvesSettled (s : State) (d : LDie) (u : Nat) : Bool :=
  match decide (u < 16), s.tileKey d ⟨u % 16, Nat.mod_lt _ (by decide)⟩ with
  | true, some k => [(s.tile k).arr0, (s.tile k).arr1].all (fun (a : Arr) =>
      !a.activeUnsettled && [a.a, a.b].all (fun (h : Half) => h.st != .inUse || !h.unsettled))
  | _, _ => true

/-- What a unit writes for a firing on the payloads of its inputs. -/
def State.unitWrites (s : State) (c : CtxId) (d : LDie) (u : Nat) (g : UnitCfg) (ts : List Token) (eof : Bool) :
    State :=
  let settled := ts.all (·.settled) && s.halvesSettled d u && !(u == 96 + geyser)
  let ins := ts.map (fun (t : Token) => t.payload)
  let r : State × Option Bytes := match g.op with
    | .engine op src dst conv params =>
      let x := s.placedFire c d (u - 96) (placedWords op src dst conv params)
        (s.freePayload (unitKey d u) 0 ts (s.outWidth g 0)) ins
      (x.1, some x.2)
    | _ => (s, none)
  g.outputs.foldl (fun (s : State) o =>
    let n := s.outWidth g o.port.val
    let p : State × BitVec 2 × Bytes := match g.op, ts with
      | .mover _ _, t :: _ => (s, t.fmt, t.payload)
      | .lane fmt conv _, _ =>
        let x := s.laneFire d u fmt.toNat conv.toNat o.port.val ts n
        (x.1, 0, x.2)
      | _, _ =>
        match r.2 with
        | some b => (s, 0, (List.range n).map (fun i => b.getD i 0))
        | none => (s, 0, s.freePayload (unitKey d u) o.port.val ts n)
    p.1.emit c d u g o.port.val (p.1.mkToken c d u eof p.2.1 settled p.2.2)) r.1

/-- The panel is a shadow (R539). -/
def State.shadow (s : State) : Bool := s.obj 0x2100 0x06 == 1

/-- An EGRESS port may take a token: it has a credit, or the token will be discarded. -/
def State.egressOpen (s : State) (k : Nat) : Bool :=
  s.shadow || decide (0 < (s.unit k).lqCredits) || decide (0 < (s.unit k).suppress)

/-- EGRESS sends a token as XTOKEN, or discards it while the restore's suppression count lasts and on a
shadow. -/
def State.egress (s : State) (c : CtxId) (d : LDie) (u : Nat) (lq : Nat) (dest : W64) (t : Token) : State :=
  let k := unitKey d u
  if 0 < (s.unit k).suppress then
    (s.modUnit k (fun x => { x with suppress := x.suppress - 1 })).count .recovery 0 0x24 1
  else if s.shadow then s.count .recovery 0 0x24 1
  else
    let s := s.modUnit k (fun x => { x with lqCredits := x.lqCredits - 1 })
    (s.injectAway (nodeDie ((s.phys d).getD 0))
      { pktBlank with
        dest := dest, opcode := 0x15, vc := 1, prio := 3
        ctx := BitVec.ofNat 5 c.val, unit := BitVec.ofNat 7 u, sideband := tokSideband t
        kind := if t.endMark then 1 else 0, length := BitVec.ofNat 13 t.payload.length
        aux := BitVec.ofNat 16 lq, payload := t.payload }).1

/-- SINK: the payload goes to memory; false where the write is not acknowledged, and the token stays (R144). -/
def State.sinkWrite (s : State) (c : CtxId) (d : LDie) (u : Nat) (g : UnitCfg) (addr : W64) (t : Token) :
    State × Bool :=
  let k := unitKey d u
  let w := whoUnit c u g
  match g.sparse with
  | some x => s.writeIntoPage c d u g x t
  | none =>
    let a := addr + BitVec.ofNat 64 (s.unit k).pos
    match s.writeOut w (s.senderOf d u) a t.payload with
    | (s, .ok _) => (s.modUnit k (fun y => { y with pos := y.pos + t.payload.length }), true)
    | (s, r) => (s.unitFail w a r t.payload.length, false)

/-- Units that accept DENSE tokens only (R235). -/
def denseOnly (u : Nat) : Bool := u < 32 || 96 ≤ u && u < 104

/-- The firing of a unit whose needed inputs hold accepted tokens. -/
def State.fireOn (s : State) (c : CtxId) (d : LDie) (u : Nat) (g : UnitCfg) (hs : List (QueueDecl × Option Token)) :
    State :=
  let got := hs.filterMap (fun p => p.2.map (fun t => (p.1, t)))
  let eof := got.any (fun p => isFrame g p.1 && p.2.eof)
  let ts := got.map (·.2)
  let eat (s : State) : State := got.foldl (fun (s : State) p => s.consume c d u p.1 p.2) s
  let bad := got.filter (fun p => denseOnly u && p.2.fmt != 0)
  if bad ≠ [] then
    let s := bad.foldl (fun (s : State) p => s.popQueue (queueKey d (u * 4 + p.1.port.val))) s
    ((s.fault 0x8003 (some c) (unitLoc d) u).haltCtx c).ok
  else if got.any (fun p => s.headPoisoned (queueKey d (u * 4 + p.1.port.val)) p.2) then (eat s).ok
  else match g.op, ts with
    | .sink addr, t :: _ =>
      let r := s.sinkWrite c d u g addr t
      if r.2 then (((eat r.1).checksum c d u g t).fired c d u g eof).ok else r.1.turnAway
    | .egress lq dest _, t :: _ =>
      if !s.egressOpen (unitKey d u) then
        (s.count .unit (unitKey d u) 0x14 1).turnAway
      else ((((eat s).egress c d u lq.val dest t).checksum c d u g t).fired c d u g eof).ok
    | .mover _ _, t :: _ =>
      match g.sparse, g.outputs with
      | some x, [] =>
        let r := s.writeIntoPage c d u g x t
        if r.2 then ((eat r.1).fired c d u g eof).ok else r.1.turnAway
      | _, _ =>
        if !s.canEmitAll g then (s.outWait d u g).turnAway
        else (((eat s).unitWrites c d u g ts eof).fired c d u g eof).ok
    | _, _ =>
      if !s.canEmitAll g then (s.outWait d u g).turnAway
      else (((eat s).unitWrites c d u g ts eof).fired c d u g eof).ok

/-- Operations that do nothing without an input token. -/
def passesTokens (g : UnitCfg) : Bool :=
  match g.op with
  | .sink _ | .egress _ _ _ | .mover _ _ => true
  | _ => false

/-- A firing of a unit: it needs a token on each input that is not a back edge, and takes those that back edges hold
(R162, R168). A source that passes tokens on needs one. -/
def State.fireInputs (s : State) (c : CtxId) (d : LDie) (u : Nat) (g : UnitCfg) : State :=
  let k := unitKey d u
  let r := s.heads c d u g
  let need := r.2.filter (fun p => !p.1.backEdge)
  if (r.1.live d u).isNone then r.1.ok
  else if need.any (fun p => p.2.isNone) || passesTokens g && r.2.all (fun p => p.2.isNone) then
    let waits := need.any (fun p => p.2.isSome)
    ((r.1.count .unit k 0x10 1).modUnit k (fun x =>
      if waits then { x with joinSince := some (x.joinSince.getD s.now) } else x.joinHold s.now)).turnAway
  else (r.1.modUnit k (fun x => x.joinHold s.now)).fireOn c d u g r.2

/-- An input token of a placed engine that is ready waits until the chunk in progress ends, and each cycle counts
(R127, R173). -/
def State.behindChunk (s : State) (d : LDie) (u : Nat) : State :=
  let e := u - 96
  let ends := (s.engine (engKey d e)).busyTo
  if 96 ≤ u ∧ u < 104 ∧ s.now < ends ∧ s.tokenReady d u then
    ((s.count .engine (d.val * 8 + e) 0x14 (3 * (ends - s.now))).count .unit (unitKey d u) 0x18
      (3 * (ends - s.now))).notBefore ends
  else s

/-- UNIT_FIRING (R152). -/
def execUnitFiring (d : LDie) (u : Fin 112) (s0 : State) : Host.Outcome State Fault Refusal :=
  let s := s0.behindChunk d u.val
  match s.live d u.val with
  | none => .next s.turnAway
  | some (c, g) =>
    .next (match g.op with
      | .source addr bytes frame logged => s.fireSource c d u.val g addr bytes frame logged
      | .ingress _ => s.fireIngress c d u.val g
      | .wstream => if g.inputs = [] then (s.fired c d u.val g false).ok else s.turnAway
      | .mover _ _ =>
        match g.inputs, g.sparse with
        | [], some x =>
          s.fireSource c d u.val g x.base ((x.elems * elemBits x.fmt.toNat + 7) / 8)
            (((x.elems * elemBits x.fmt.toNat + 7) / 8 + 127) / 128) false
        | _, _ => s.fireInputs c d u.val g
      | _ => s.fireInputs c d u.val g)

end Sys2Proof.Machine
end

