-- ==== Sys2Proof/Machine/Scans.lean ====
section
/-! DEFINITION. Scan images as records in stack memory: headers, the records of a region, commit records, their
checks at scan-in, and what a scan does to the networks (R102, R115, R182–R187, R524). -/

namespace Sys2Proof.Machine

/-! ### Records (R183) -/

/-- The 32-byte header of a record. -/
def scanHeader (die type id ctx epoch sw flags active previous length crc generation : Nat) : Bytes :=
  toLe 2 die ++ toLe 1 type ++ toLe 1 id ++ toLe 1 ctx ++ toLe 1 epoch ++ toLe 1 sw ++ toLe 1 flags ++ toLe 4 active
    ++ toLe 4 previous ++ toLe 4 length ++ toLe 4 crc ++ toLe 8 generation

/-- A field of a header. -/
def scanField (h : Bytes) (o n : Nat) : Nat := leNat ((h.drop o).take n)

/-- The header of a record of a scan image over its payload. -/
def Scan.header (g : Scan) (c : CtxId) (die type id flags : Nat) (payload : Bytes) : Bytes :=
  scanHeader die type id c.val g.flow.2.2.2.toNat (swCode g.flow.1) flags g.flow.2.1.toNat g.flow.2.2.1.toNat
    payload.length (crc32c payload).toNat g.generation

/-- The records of a die but its commit record, as type, ID and flags: units, tiles, the die. -/
def Scan.parts (g : Scan) (d : LDie) : List (Nat × Nat × Nat) :=
  let spilled (u : Nat) : Bool := (List.range 4).any (fun p =>
    !(tget ({} : QueueS) g.queues (queueKey d (u * 4 + p))).window.isEmpty)
  (g.units.filter (fun p => p.1 / 128 == d.val)).map (fun p => (0, p.1 % 128, if spilled (p.1 % 128) then 2 else 0))
    ++ (g.tiles.filter (fun p => p.1 / 16 == d.val)).map (fun p => (1, p.1 % 16, 0)) ++ [(2, 0, 0)]

/-! ### Areas (R184, R524) -/

/-- The base and the length of a scan image's area on a die: a checkpoint's in the area's home stack, or a SUSPEND's. -/
def areaOf (i : Image) (area : Option (Fin 2)) (d : LDie) : Option (W64 × Nat) :=
  match area with
  | some a => (i.scan.find? (fun x => x.1 == d && x.2.1 == a)).map (·.2.2)
  | none => (i.suspend.find? (fun x => x.1 == d)).map (·.2)

/-- Where the rows and blocks of an area begin: behind 4.5 MiB of records (R186). -/
def rowsFrom : Nat := 0x480000

/-- The RESIDENT rows and blocks of a die in the order in which an area holds them: 0 and tile × 1,024 + row, or 1 and
block. -/
def homesOf (i : Image) (d : LDie) : List (Nat × Nat) :=
  (i.resident.filter (fun r => r.die == d)).flatMap (fun r =>
      (List.range' (r.off / 4096) (r.len / 4096)).map (fun n => (0, r.tile.val * 1024 + n)))
    ++ (i.segments.filter (fun g => g.1 == d && g.2.2)).flatMap (fun g =>
      (List.range' (g.2.1.val * 256) 256).map (fun b => (1, b)))

/-- Writing into an area: how far the records have come, and whether every write was acknowledged. -/
structure ScanPut where
  st : State
  at_ : Nat
  ok : Bool

/-- Bytes are written at an offset of an area; false where they are not acknowledged or do not fit. -/
def State.scanWrite (s : State) (c : CtxId) (area : W64 × Nat) (off : Nat) (b : Bytes) : State × Bool :=
  if area.2 < off + b.length then (s, false)
  else match s.writeFA ⟨c, false, .none, 0x7F⟩ (area.1 + BitVec.ofNat 64 off) b with
    | (s, .ok _) => (s, true)
    | (s, _) => (s, false)

/-- The bytes of a row or block as a scan image holds them. -/
def Scan.rowBytes (g : Scan) (d : LDie) (h : Nat × Nat) : Bytes :=
  if h.1 = 0 then bytesAt g.spad ((d.val * 16 + h.2 / 1024) * 2 ^ 22 + h.2 % 1024 * 4096) 4096
  else bytesAt g.commons (commonsBase d.val + h.2 * 4096) 4096

/-- Is a row or block of a die among those that were copied? -/
def Scan.copies (g : Scan) (d : LDie) (h : Nat × Nat) : Bool :=
  if h.1 = 0 then g.rows.contains (d.val * 16 + h.2 / 1024, h.2 % 1024) else g.blocks.contains (d.val, h.2)

/-- One record goes into an area behind those that are there; its header joins the image's. -/
def ScanPut.record (c : CtxId) (area : W64 × Nat) (d : LDie) (r : ScanPut × Scan) (type id flags : Nat) (payload : Bytes) :
    ScanPut × Scan :=
  let h := r.2.header c d.val type id flags payload
  let w := r.1.st.scanWrite c area r.1.at_ (h ++ payload)
  (⟨w.1, r.1.at_ + 32 + payload.length, r.1.ok && w.2 && decide (r.1.at_ + 32 + payload.length ≤ rowsFrom)⟩,
    { r.2 with headers := r.2.headers ++ [(d, h)] })

/-- The unit, tile and die records of a die, then its copied rows and blocks (R186 steps 3 and 4). -/
def State.scanDie (s : State) (c : CtxId) (i : Image) (g : Scan) (d : LDie) : State × Scan :=
  match areaOf i g.area d with
  | none => (s, g)
  | some area =>
    let r := (g.parts d).foldl (fun (r : ScanPut × Scan) p =>
      let payload := Config.scanPayload r.1.st.freeCount
      let t := { r.1.st with freeCount := r.1.st.freeCount + 1 }
      ScanPut.record c area d ({ r.1 with st := t }, r.2) p.1 p.2.1 p.2.2 payload) (⟨s, 0, true⟩, g)
    let z := ((homesOf i d).zipIdx.filter (fun q => g.copies d q.1)).foldl (fun (z : State × Bool) q =>
      let w := z.1.scanWrite c area (rowsFrom + q.2 * 4096) (g.rowBytes d q.1)
      (w.1, z.2 && w.2)) (r.1.st, r.1.ok)
    (z.1, { r.2 with torn := r.2.torn || !z.2 })

/-- The records of every die of a region go into their areas. -/
def State.scanWriteAll (s : State) (c : CtxId) (g : Scan) : State × Scan :=
  match (s.ctx c).image with
  | none => (s, g)
  | some i => (s.ctx c).dies.foldl (fun (r : State × Scan) d => r.1.scanDie c i r.2 d) (s, g)

/-- The payload of a commit record: the number of a die's records and the CRC-32C of their headers. -/
def Scan.commit (g : Scan) (d : LDie) : Bytes :=
  let hs := (g.headers.filter (fun h => h.1 == d)).map (·.2)
  toLe 4 hs.length ++ toLe 4 (crc32c hs.flatten).toNat

/-- Bytes of the records of a die that are in its area. -/
def Scan.filled (g : Scan) (d : LDie) : Nat :=
  ((g.headers.filter (fun h => h.1 == d)).map (fun h => 32 + scanField h.2 16 4)).sum

/-- The commit record of every die goes behind its records (R183, R186 step 5). -/
def State.scanCommit (s : State) (c : CtxId) (g : Scan) : State × Scan :=
  match (s.ctx c).image with
  | none => (s, g)
  | some i => (s.ctx c).dies.foldl (fun (r : State × Scan) d =>
      match areaOf i g.area d with
      | none => r
      | some area =>
        let z := ScanPut.record c area d (⟨r.1, r.2.filled d, true⟩, r.2) 3 0 0 (r.2.commit d)
        (z.1.st, { z.2 with torn := z.2.torn || !z.1.ok })) (s, g)

/-! ### Scan-in (R187) -/

/-- A header passes: its context, die and generation are the image's, and its versions are those of the region. -/
def Scan.headerOk (g : Scan) (c : CtxId) (d : LDie) (h payload : Bytes) : Bool :=
  scanField h 0 2 == d.val && scanField h 4 1 == c.val && scanField h 24 8 == g.generation
    && scanField h 8 4 == g.flow.2.1.toNat && scanField h 12 4 == g.flow.2.2.1.toNat
    && scanField h 20 4 == (crc32c payload).toNat

/-- The ID of the kth record of a die: a unit's for a unit record. -/
def Scan.idOf (g : Scan) (d : LDie) (k : Nat) : Nat :=
  scanField ((((g.headers.filter (fun h => h.1 == d)).map (·.2))[k]?).getD []) 3 1

/-- n records of a die are read back from an offset of its area; the last is the commit record, which counts those before
it. The ID of the first that fails its checks, if one does. -/
def State.checkRecords (s : State) (c : CtxId) (g : Scan) (d : LDie) (a : W64) (off : Nat) (hs : Bytes) (k : Nat) :
    Nat → State × Option Nat
  | 0 => (s, none)
  | n + 1 =>
    let w : Who := ⟨c, false, .none, 0x7F⟩
    match s.readFA w (a + BitVec.ofNat 64 off) 32 with
    | (s, .ok h) =>
      (match s.readFA w (a + BitVec.ofNat 64 (off + 32)) (scanField h 16 4) with
        | (s, .ok p) =>
          if !g.headerOk c d h p || n == 0 && !(scanField h 2 1 == 3 && p == toLe 4 k ++ toLe 4 (crc32c hs).toNat) then
            (s, some (g.idOf d k))
          else s.checkRecords c g d a (off + 32 + p.length) (hs ++ h) (k + 1) n
        | (s, _) => (s, some (g.idOf d k)))
    | (s, _) => (s, some (g.idOf d k))

/-- The checks of a scan image's records: the die and the ID of the first record that fails, if one does. -/
def State.scanChecks (s : State) (c : CtxId) (g : Scan) : State × Option (LDie × Nat) :=
  match (s.ctx c).image with
  | none => (s, none)
  | some i => (s.ctx c).dies.foldl (fun (r : State × Option (LDie × Nat)) d =>
      match areaOf i g.area d with
      | none => r
      | some area =>
        let z := r.1.checkRecords c g d area.1 0 [] 0 ((g.headers.filter (fun h => h.1 == d)).length)
        (z.1, r.2 <|> z.2.map (fun u => (d, u)))) (s, none)

/-! ### The networks at a pause (R185) -/

/-- A TOKEN packet of a context that this panel has sent and that its consumer has not accepted. -/
def State.tokenOut (s : State) (c : CtxId) (dst : BitVec 12) (p : Pkt) : Bool :=
  p.opcode == 0x05 && p.ctx.toNat == c.val && !p.firmware && p.srcPanel == s.srcPanel
    && decide ((p.seq.toNat + 2 ^ 32 - tget 0 s.net.seqRx (seqKey p.srcNode dst p.vc.toNat)) % 2 ^ 32 < 2 ^ 31)

/-- TOKEN packets of a context in the networks, oldest first of each source: kept copies, and those that wait for
their place. -/
def State.tokensOut (s : State) (c : CtxId) : List Pkt :=
  let l := ((s.net.early.filter (fun e => s.tokenOut c e.2.1 e.2.2.2)).map (·.2.2.2))
    ++ ((s.net.copies.filter (fun x => s.tokenOut c x.dst x.pkt)).map (·.pkt))
  let seqs := ascending (l.map (fun p => p.seq.toNat))
  seqs.flatMap (fun n => (l.filter (fun p => p.seq.toNat == n)).eraseDups)

/-- Tokens in the networks are settled into their queues; what then arrives of them is passed over (R185). (DEDUCED, log 145) -/
def State.settleTokens (s : State) (c : CtxId) : State :=
  (s.tokensOut c).foldl (fun (s : State) p =>
    let s := { s with net := { s.net with void := (p.srcNode, p.vc, p.seq, p.dest) :: s.net.void } }
    match s.decode p.dest with
    | .here (.engine l _) => s.pushQueue (queueKey l (p.aux.toNat % 512)) (tokOf p.sideband p.kind.toNat p.payload)
    | _ => s) s

/-- A broadcast of the context's sequencer to every unit of the region (R163, R186, R291). -/
def State.bcast (s : State) (c : CtxId) : State :=
  (s.unitsOf c).foldl (fun (s : State) p =>
    s.ctrl (nodeDie ((s.phys (keyDie p.1)).getD 0)) 0x11 c.val (keyUnit p.1)) s

end Sys2Proof.Machine
end

