-- ==== Sys2Proof/Machine/Flow.lean ====
section
/-! DEFINITION. Graph versions, epochs, switches, image loads and scans as operations (R154–R167, R177–R187,
R523–R525). -/

namespace Sys2Proof.Machine

/-! ### Postures and starts -/

/-- Residues of a context's groups go to zero (R335). -/
def State.zeroResidues (s : State) (c : CtxId) : State :=
  match (s.ctx c).image with
  | none => s
  | some i =>
    i.groups.foldl State.zeroGroup s

/-- The postures that a start or a switch puts in force (R169, R195, R332). -/
def State.latchPostures (s : State) (c : CtxId) : State :=
  let red := BitVec.ofNat 8 (s.obj 0x2100 0x04)
  let s := if red = 1 ∧ (s.ctx c).redPosture ≠ 1 then s.zeroResidues c else s
  s.modCtx c (fun x =>
    { x with
      specPosture := BitVec.ofNat 8 (s.obj 0x2100 0x03)
      redPosture := red
      spillPosture := BitVec.ofNat 8 (s.obj 0x2100 0x07) })

/-- Stochastic-rounding generators of a context at its start (R68). -/
def State.seedContext (s : State) (c : CtxId) : State :=
  let v := s.obj 0x2240 (c.val + 1)
  let r := if v = 0 then s.draw else (BitVec.ofNat 256 v, s)
  let seed : W32 := r.1.setWidth 32
  let s := r.2
  let s := (s.ctx c).tiles.foldl (fun (s : State) p =>
    match s.tileKey p.1 p.2 with
    | some k => s.modTile k (fun t => { t with sr := srSeed seed p.1.val p.2.val })
    | none => s) s
  (s.ctx c).dies.foldl (fun (s : State) d =>
    (List.range 8).foldl (fun (s : State) n => s.setEngSr (engKey d n) c (srSeed seed d.val (16 + n))) s) s

/-- Both dirty bits of every RESIDENT row and block of a context are set (R102, R115). -/
def State.allDirty (s : State) (c : CtxId) : State :=
  let s := s.mapTiles c (fun t =>
    { t with
      dirty0 := t.resident.flatMap (fun r => List.range' (r.1 / 4096) (r.2 / 4096))
      dirty1 := t.resident.flatMap (fun r => List.range' (r.1 / 4096) (r.2 / 4096)) })
  ((((s.ctx c).image.map (·.segments)).getD []).filter (fun g => g.2.2)).foldl (fun (s : State) g =>
    match s.phys g.1 with
    | some d => s.modCommons d (fun x =>
        { x with
          dirty0 := (List.range' (g.2.1.val * 256) 256).foldl (fun l b => insertNew b l) x.dirty0
          dirty1 := (List.range' (g.2.1.val * 256) 256).foldl (fun l b => insertNew b l) x.dirty1 })
    | none => s) s

/-- Regulators of every die from the images of the contexts that run (R285). -/
def State.setRegulators (s : State) : State :=
  let all := allCtx.flatMap (fun c =>
    if (s.ctx c).runs then (((s.ctx c).image.map (·.regs)).getD []) else [])
  let dies := (all.map (·.1)).eraseDups
  dies.foldl (fun (s : State) (d : Die) =>
    (List.range 24).foldl (fun (s : State) i =>
      let mine := all.filter (fun r => r.1 == d && r.2.1.val == i)
      let rate := if i / 3 = 3 then 512000 else (mine.map (fun r => r.2.2.1.toNat)).sum
      let burst := (mine.map (fun r => r.2.2.2.toNat)).sum
      if mine = [] then s
      else { s with net := { s.net with
        reg := tmod {} s.net.reg (d.val * 24 + i) (fun r =>
          { r with
            rate := BitVec.ofNat 32 rate, burst := BitVec.ofNat 32 burst, level := burst, last := s.now }) } }) s) s

/-- The logs of a context's logging ports are empty (R525). -/
def State.openLogs (s : State) (i : Image) (us : List UnitCfg) : State :=
  us.foldl (fun (s : State) g =>
    let logs := match g.op with
      | .ingress _ => true
      | .source _ _ _ l => l
      | _ => false
    if logs then
      s.modLog (unitKey g.die g.unit.val) (fun _ =>
        { size := ((i.logs.find? (fun l => l.1 == g.die && 104 + l.2.1.val == g.unit.val)).map (·.2.2)).getD
            (2 ^ 20) })
    else s) s

/-- A context's graph starts (R496). -/
def State.startGraph (s : State) (c : CtxId) (i : Image) : State :=
  let s := s.latchPostures c
  let v := i.graph.version
  let live : Slot := { version := v, join := BitVec.ofNat 32 (s.obj 0x2244 (c.val + 1)), prefetch := s.obj 0x2246 (c.val + 1) }
  let s := i.graph.units.foldl (fun (s : State) g =>
    (s.modUnit (unitKey g.die g.unit.val) (fun _ =>
      { ctx := some c, active := { live with cfg := some g }
        lqCredits := match g.op with | .egress _ _ n => n | _ => 0 })).activate c g.die g.unit.val (some g)) s
  let s := ((s.openLogs i i.graph.units).seedContext c).allDirty c
  let s := s.modCtx c (fun x =>
    { x with
      sw := .steady, active := v, previous := 0, high := v, epoch := 0, started := s.now, lastCkpt := s.now
      kind := none, paused := false, ckptDue := none, ckptRun := none, area0 := none, area1 := none
      ckptGen := 0, ckptTime := 0, scanGen := 0, syncLog := [], syncDropped := 0, syncA := 0, syncB := 0 })
  let s := { s with fab := { s.fab with
    group := tmap (fun _ (x : Option GroupRun) =>
      x.map (fun (y : GroupRun) => if y.ctx = c then { ctx := c, decl := y.decl } else y)) s.fab.group } }
  s.setRegulators.settleRun

/-! ### Arming (R156, R157, R161) -/

/-- The record that a staging area holds for a unit (R155); none where the image names no area on its die, or the area
holds no record of it. -/
def State.stagedCfg (s : State) (i : Image) (d : LDie) (u : Nat) : Option UnitCfg :=
  match i.staging.find? (fun x => x.1 == d), s.phys d with
  | some x, some p =>
    (Config.stagedRecord (bytesAt s.commonsMem (commonsBase p + x.2.1) x.2.2) u).filter (fun g =>
      g.die == d && g.unit.val == u)
  | _, _ => none

/-- What arming fills the load buffer of a unit with: the record of the staged version that the sequencer has written
there by CFG, or that of the staging area (R155, R161, R291). -/
def State.filled (s : State) (c : CtxId) (i : Image) (k : Nat) (u : UnitS) : Slot :=
  let v := (s.ctx c).staged
  if u.load.version = v ∧ u.load.cfg.isSome then u.load
  else { version := v, cfg := s.stagedCfg i (keyDie k) (keyUnit k) }

/-- Does a port log what it delivers (R181)? -/
def logsTokens (g : UnitCfg) : Bool :=
  match g.op with
  | .ingress _ => true
  | .source _ _ _ l => l
  | _ => false

/-- The link queue of a port (R325). -/
def linkOf (g : UnitCfg) : Option (Fin 4096) :=
  match g.op with
  | .ingress q | .egress q _ _ => some q
  | _ => none

/-- A staged record differs from the one in force in an IDLE field: the unit it belongs to, its link queue, or the log
that it keeps (R157, R325, R525). -/
def idleChanged (u : UnitS) (g : UnitCfg) : Bool :=
  match u.active.cfg with
  | none => true
  | some a => a.die != g.die || a.unit != g.unit || linkOf a != linkOf g || logsTokens a != logsTokens g

/-- Why a staged configuration is refused: fault, die and detail. -/
def State.armRefusal (s : State) (c : CtxId) : Option (W16 × LDie × Nat) :=
  let x := s.ctx c
  let us := s.unitsOf c
  match x.image with
  | none => some (0x6001, 0, 0)
  | some i =>
    let staged := us.map (fun p => (p, (s.filled c i p.1 p.2).cfg))
    let cfgs := staged.filterMap (·.2)
    if x.staged.toNat ≤ x.high.toNat then
      some (0x6002, match us with | p :: _ => keyDie p.1 | [] => 0, match us with | p :: _ => keyUnit p.1 | [] => 0)
    else match staged.find? (fun p => match p.2 with | some g => idleChanged p.1.2 g | none => true) with
      | some p => some (0x6001, keyDie p.1.1, keyUnit p.1.1)
      | none => (graphRefusal { i with graph := ⟨x.staged, cfgs⟩ } (s.othersUnits c) cfgs).map (fun r =>
          (r.1, r.2.1, r.2.2.2))

/-- Arming begins: the command has been accepted (R165). -/
def State.arm (s : State) (c : CtxId) (kind : SwKind) : State :=
  s.modCtx c (fun x => { x with sw := .arming, armedFrom := x.sw, kind := some kind, switchStart := s.now })

/-- The switch opens: every unit is yet to switch, and the spill posture of the switch holds for the queues that they
declare (R169). -/
def State.openSwitch (s : State) (c : CtxId) (sw : SwitchSt) (target : W32) : State :=
  (s.mapUnits c (fun u => { u with switched := false })).modCtx c (fun x =>
    { x with sw := sw, target := target, spillPosture := BitVec.ofNat 8 (s.obj 0x2100 0x07) })

/-- Arming ends, before the first unit command of the switch (R161, R165): every load buffer is filled and the switch
opens, or a refusal raises its fault, leaves every unit unchanged and returns the context to the state it armed from.
ROLLBACK uses no load buffer. (DESIGN CHOICE, log 146) -/
def State.settleArm (s : State) (c : CtxId) : State :=
  let x := s.ctx c
  match x.sw, x.kind, x.image with
  | .arming, some .rollback, _ => (s.openSwitch c .flushing x.previous).bcast c
  | .arming, some kind, some i =>
    (match s.armRefusal c with
      | some (code, d, n) => (s.modCtx c (fun x => { x with sw := x.armedFrom, kind := none })).fault code (some c) (unitLoc d) n
      | none =>
        let s := (s.unitsOf c).foldl (fun (s : State) p => s.modUnit p.1 (fun u => { u with load := s.filled c i p.1 u })) s
        if kind = .drain then s.openSwitch c .draining x.staged else (s.openSwitch c .flushing x.staged).bcast c)
  | .arming, _, _ => s.modCtx c (fun x => { x with sw := x.armedFrom, kind := none })
  | _, _, _ => s

/-! ### Switching one unit (R162–R164) -/

/-- The slots and the epoch of a unit that switches to its load buffer, with the LIVE values in force, or back to
PREVIOUS with those it had (R158). -/
def UnitS.turn (u : UnitS) (back flush : Bool) : UnitS :=
  { u with
    active := if back then u.previous else { u.load with join := u.active.join, prefetch := u.active.prefetch }
    previous := if back then {} else u.active
    load := if back then u.load else {}
    epoch := u.epoch + 1
    lastFlush := flush, raised6004 := false, switched := true, ended := [], stopped := false
    joinSince := none, joinCount := 0, pos := 0, frame := 0, groupNo := 0, page := []
    lqCredits := (match (if back then u.previous else u.load).cfg, u.active.cfg with
      | some ⟨_, _, .egress _ _ n, _, _, _, _, _, _⟩, some ⟨_, _, .egress _ _ m, _, _, _, _, _, _⟩ =>
        u.lqCredits + n - m
      | some ⟨_, _, .egress _ _ n, _, _, _, _, _, _⟩, _ => n
      | _, _ => 0) }

/-- A unit has switched: its record is in force. -/
def State.turnUnit (s : State) (c : CtxId) (d : LDie) (u : Nat) (back flush : Bool) : State :=
  let k := unitKey d u
  let s := (s.modUnit k (fun x => x.turn back flush)).count .unit k 0x28 1
  s.activate c d u (s.unit k).active.cfg

/-- Tokens of epoch E in every input queue of a unit go; each counts. -/
def State.flushQueues (s : State) (d : LDie) (u : Nat) (e : BitVec 4) : State :=
  (List.range 4).foldl (fun (s : State) p =>
    let key := queueKey d (u * 4 + p)
    let r := s.dropTokens key (fun t => t.epoch == e)
    if r.2 = 0 then r.1
    else (r.1.count .unit (unitKey d u) 0x20 r.2).count .queue key 0x10 r.2) s

/-- Descriptors of a context on an engine that have not finished and carry epoch E retire DISCARDED; a
running one leaves free bytes in its destination (R137). -/
def State.flushRings (s : State) (c : CtxId) (d : LDie) (e : Nat) (ep : BitVec 4) : State :=
  (List.range 8).foldl (fun (s : State) q =>
    let k := ringKey d e q
    if (s.ring k).ctx ≠ some c then s
    else
      let old := (s.ring k).descs.filter (fun x => x.fin.isNone && dEpoch x.words == ep)
      let s := old.foldl (fun (s : State) x => s.scramble (engW c d e) x true) s
      s.modRing k (fun r =>
        { r with descs := r.descs.map (fun x =>
            if x.fin.isNone && dEpoch x.words == ep || x.unsettled && !x.confirmed then
              { x with fin := some (.discarded, 0, 0) } else x) })) s

/-- The internal state of a unit is discarded (R163). -/
def State.flushInside (s : State) (c : CtxId) (d : LDie) (u : Nat) (e : BitVec 4) : State :=
  let clear (a : Arr) : Arr :=
    { a with
      acc := [], accUnsettled := [], env := [], certified := [], staging := [], disp := [], served := [] }
  let s : State := match unitTile u with
    | none => s
    | some t =>
      match s.tileKey d ⟨t % 16, Nat.mod_lt _ (by decide)⟩ with
      | none => s
      | some k =>
        if u < 16 then s.modTile k (fun y => { y with arr0 := clear y.arr0, arr1 := clear y.arr1 })
        else if 64 ≤ u ∧ u < 96 then
          let s := s.count .spec (tileRec d t) 0x2C
            (let a := (s.tile k).arr ⟨u % 2, Nat.mod_lt _ (by decide)⟩
             ([a.a, a.b].map (fun (h : Half) => if h.unsettled then h.size / 128 else 0)).sum)
          s.modTile k (fun y => y.modArr ⟨u % 2, Nat.mod_lt _ (by decide)⟩ (fun a =>
            { a with a := {}, b := {}, fillB := false, takeB := false }))
        else s
  let held : Nat := ((s.unit (unitKey d u)).held.map HeldFault.total).sum
  let s := if held = 0 then s else s.count .spec (tileRec d ((unitTile u).getD 0)) 0x3C held
  let s := s.modUnit (unitKey d u) (fun x =>
    { x with held := [], settleList := [], settleDone := 0, ended2 := false, hinted := [], prefetched := 0, passOne := 0, sumProj := [], sumNorm := 0 })
  if 96 ≤ u ∧ u < 104 then s.flushRings c d (u - 96) e else s

/-- What speculation has left at a drain switch of a stream port is discarded and counted (R219). -/
def State.dropLeft (s : State) (d : LDie) (u : Nat) : State :=
  if u < 64 ∨ 96 ≤ u then s
  else
    let x := s.unit (unitKey d u)
    let t := (u - 64) / 2
    let a : Fin 2 := ⟨u % 2, Nat.mod_lt _ (by decide)⟩
    let held : Nat := (x.held.map HeldFault.total).sum
    let s := s.count .spec (tileRec d t) 0x3C held
    let s := match s.tileKey d ⟨t % 16, Nat.mod_lt _ (by decide)⟩ with
      | none => s
      | some k =>
        let y := (s.tile k).arr a
        (s.count .spec (tileRec d t) 0x2C
          ([y.a, y.b].map (fun (h : Half) => if h.unsettled then h.size / 128 else 0)).sum).modTile k
            (fun z => z.modArr a (fun b => b.dropUnsettled))
    s.modUnit (unitKey d u) (fun y =>
      { y with held := [], hinted := [], prefetched := 0, settleList := [], settleDone := 0, ended2 := false })

/-- A unit flushes or rolls back at its token boundary. -/
def State.flushUnit (s : State) (c : CtxId) (d : LDie) (u : Nat) (back : Bool) : State :=
  let e := (s.unit (unitKey d u)).epoch
  ((s.flushQueues d u e).flushInside c d u e).turnUnit c d u back true

/-- Every unit of the context has switched. -/
def State.allSwitched (s : State) (c : CtxId) : Bool := (s.unitsOf c).all (fun p => p.2.switched)

/-- The switch completes (R165): state, versions, epoch, time; engines without a placement flush too. -/
def State.completeSwitch (s : State) (c : CtxId) : State :=
  let x := s.ctx c
  let s := match x.kind with
    | some .drain | none => s
    | _ => (s.ctx c).dies.foldl (fun (s : State) d =>
        (List.range 8).foldl (fun (s : State) e =>
          if (s.unit (unitKey d (96 + e))).ctx = some c then s else s.flushRings c d e x.epoch) s) s
  let s := s.modCtx c (fun x =>
    { x with
      sw := .steady
      active := if x.kind = some .rollback then x.previous else x.target
      previous := if x.kind = some .rollback then 0 else x.active
      high := if x.kind = some .rollback ∨ x.target.toNat ≤ x.high.toNat then x.high else x.target
      epoch := x.epoch + 1
      lastSwitch := s.now
      kind := none })
  (s.latchPostures c).resumeUnits c

/-! ### Checkpoints (R184–R186, R523, R524) -/

/-- Caches of the region perform CLEAN (R99). -/
def State.cleanRegion (s : State) (c : CtxId) : State :=
  (s.ctx c).tiles.foldl (fun (s : State) p =>
    match s.tileKey p.1 p.2 with
    | some k => (s.cacheRange ⟨c, false, .none, 16 + p.2.val⟩ (tileRec p.1 p.2.val) k .clean (fun _ => true)).1
    | none => s) s

/-- The area that does not hold the newest complete checkpoint: 0 or 1 (R184). -/
def CtxS.otherArea (x : CtxS) : Fin 2 :=
  match x.area0, x.area1 with
  | some a, some b => if a.generation < b.generation then 0 else 1
  | some _, none => 1
  | none, _ => 0

/-- Another context that shares a die started a checkpoint in the last 5 ms (R523). -/
def State.ckptSpaced (s : State) (c : CtxId) : Bool :=
  allCtx.all (fun o => o == c || !((s.ctx o).restore.any (fun r => !r.resumed) && (s.ctx c).dies.any ((s.ctx o).holdsDie)))
  && allCtx.all (fun o => o == c || (s.ctx o).sw == .none || decide ((s.ctx o).lastCkpt + 5000000 ≤ s.now)
    || (s.ctx o).lastCkpt == (s.ctx o).started || !((s.ctx c).dies.any ((s.ctx o).holdsDie)))

/-- The rows that a scan copies are counted at their tiles (R102, R108). -/
def State.countRows (s : State) (c : CtxId) (g : Scan) : State :=
  (s.ctx c).tiles.foldl (fun (s : State) p =>
    let n := (g.rows.filter (fun r => r.1 == tileRec p.1 p.2.val)).length
    if n = 0 then s else s.count .tile (tileRec p.1 p.2.val) 0x3C n) s

/-- A complete checkpoint clears the bits of its area for the rows and blocks that it has copied. -/
def State.clearDirty (s : State) (c : CtxId) (area : Fin 2) (g : Scan) : State :=
  let s := (s.ctx c).tiles.foldl (fun (s : State) p =>
    match s.tileKey p.1 p.2 with
    | some k =>
      let keep (n : Nat) : Bool := !g.rows.contains (tileRec p.1 p.2.val, n)
      s.modTile k (fun t => if area = 0 then { t with dirty0 := t.dirty0.filter keep }
        else { t with dirty1 := t.dirty1.filter keep })
    | none => s) s
  (s.ctx c).dies.foldl (fun (s : State) d =>
    match s.phys d with
    | some p =>
      let keep (b : Nat) : Bool := !g.blocks.contains (d.val, b)
      s.modCommons p (fun x => if area = 0 then { x with dirty0 := x.dirty0.filter keep }
        else { x with dirty1 := x.dirty1.filter keep })
    | none => s) s

/-- The home stacks that hold area a of a region's dies: west for 0, east for 1 (R524). -/
def State.areaStacks (s : State) (c : CtxId) (area : Fin 2) : List Nat :=
  (s.ctx c).dies.filterMap (fun d => (s.homeCell d).map (fun k => s.relocated ⟨c, false, .none, 0⟩ (2 * k + area.val)))

/-- A checkpoint write would be refused or fail: a failed stack, or no bank of the context there. -/
def State.areaFails (s : State) (c : CtxId) (area : Fin 2) : Bool :=
  (s.areaStacks c area).any (fun k => s.stackBad k || !s.holdsStack c k)

/-- Steps 1 to 4 of R186 but the pause itself: the networks settle, unsettled state goes, caches are cleaned, and the
image of the region into an area is captured and written. -/
def State.scanRegion (s : State) (c : CtxId) (area : Option (Fin 2)) : State × Scan :=
  let s := ((s.settleTokens c).dropUnsettled c).cleanRegion c
  let g := s.scanOut c area ((s.ctx c).scanGen + 1)
  let s := (s.countRows c g).modCtx c (fun x => { x with scanGen := x.scanGen + 1 })
  s.scanWriteAll c g

/-- Steps 1 to 4 of R186: the sequencer broadcasts PAUSE, and the region is scanned into the area that does not hold the
newest complete checkpoint. -/
def State.beginCheckpoint (s : State) (c : CtxId) : State :=
  let s := ((s.bcast c).modCtx c (fun x => { x with paused := true })).mapUnits c (fun u => u.pause s.now)
  let area := (s.ctx c).otherArea
  let r := s.scanRegion c (some area)
  r.1.modCtx c (fun x => { x with ckptRun := some (area, s.now, r.2), lastCkpt := s.now, ckptDue := none })

/-- A log at a complete checkpoint into an area: the delivered position is noted, and records before the older of the
two newest checkpoints leave it (R525). -/
def InLog.trim (l : InLog) (area : Fin 2) (both : Bool) : InLog :=
  let l := if area = 0 then { l with ckptA := l.pos } else { l with ckptB := l.pos }
  let n := if both then min l.ckptA l.ckptB - l.dropped else 0
  { l with records := l.records.drop n, dropped := l.dropped + n, start := l.offset n }

/-- The logs of a context's ports at a complete checkpoint; `both` areas hold one. -/
def State.trimLogs (s : State) (c : CtxId) (area : Fin 2) (both : Bool) : State :=
  { s with flow := { s.flow with
      inlog := tmap (fun k (l : InLog) => if (s.unit k).ctx = some c then l.trim area both else l) s.flow.inlog } }

/-- The log of remote sync operations at a checkpoint (R525). -/
def CtxS.trimSync (x : CtxS) (area : Fin 2) (both : Bool) : CtxS :=
  let n := x.syncDropped + x.syncLog.length
  let x := if area = 0 then { x with syncA := n } else { x with syncB := n }
  let keep := if both then min x.syncA x.syncB else 0
  { x with syncLog := x.syncLog.drop (keep - x.syncDropped), syncDropped := max x.syncDropped keep }

/-- The commit records are written: the checkpoint is complete, or abandoned with fault 0x6014. -/
def State.endCheckpoint (s : State) (c : CtxId) (area : Fin 2) (g : Scan) : State :=
  let resume (s : State) : State :=
    ((s.modCtx c (fun x => { x with paused := false, ckptRun := none })).unpauseAll c).bcast c
  let r := s.scanCommit c g
  let s := r.1
  let g := r.2
  if g.torn || s.areaFails c area then
    ((resume s).count .recovery 0 0x08 1).fault 0x6014 (some c)
      (match (s.ctx c).dies with | d :: _ => unitLoc d | [] => locHub 0) area.val
  else
    let both := if area = 0 then (s.ctx c).area1.isSome else (s.ctx c).area0.isSome
    let s := (s.clearDirty c area g).trimLogs c area both
    let s := s.modCtx c (fun x =>
      { x with
        area0 := if area = 0 then some g else x.area0
        area1 := if area = 0 then x.area1 else some g
        ckptGen := g.generation, ckptTime := s.now }.trimSync area both)
    (resume s).count .recovery 0 0x00 1

/-! ### SUSPEND and REINSTATE (R182) -/

/-- The region's live state goes after a SUSPEND: units, queues, rings, tiles, segments. -/
def State.clearRegion (s : State) (c : CtxId) : State :=
  let s := (s.ctx c).tiles.foldl (fun (s : State) p =>
    match s.tileKey p.1 p.2 with
    | some k =>
      let keep := s.tile k
      (s.zeroTile k).modTile k (fun t => { t with resident := keep.resident, cacheSteps := keep.cacheSteps })
    | none => s) s
  let s := (((s.ctx c).image.map (·.segments)).getD []).foldl (fun (s : State) g =>
    match s.phys g.1 with
    | some d => s.passSegment d g.2.1.val (some (c, g.2.2))
    | none => s) s
  let s := s.mapQueues c (fun q => { q with tokens := [], stored := [], window := [], credits := q.slots, debt := 0 })
  { s with eng := { s.eng with
      ring := tmap (fun _ (r : Ring) => if r.ctx = some c then { r with descs := [] } else r) s.eng.ring
      engine := tmap (fun _ (e : EngineS) => { e with sr := tset 0 e.sr c.val 0 }) s.eng.engine } }

/-- Scan-out for SUSPEND, by the steps of R186. Where a write of it fails, fault 0x6014 is raised and the context halts
with its region as it is. (DESIGN CHOICE, log 147) -/
def State.suspendCtx (s : State) (c : CtxId) : State :=
  let r := ((s.bcast c).stopUnits c).scanRegion c none
  let z := r.1.scanCommit c r.2
  if z.2.torn then
    (z.1.fault 0x6014 (some c) (match (s.ctx c).dies with | d :: _ => unitLoc d | [] => locHub 0) 2).haltCtx c
  else ((z.1.revokeCredits c).clearRegion c).modCtx c (fun x => { x with suspendImg := some z.2, sw := .suspended })

end Sys2Proof.Machine
end

