-- ==== Sys2Proof/Machine/Flows.lean ====
section
/-! DEFINITION. Dataflow commands: graph_cmd, the units' switches, image loads, graph starts, checkpoints and
the watchdogs of chapter 05 (R154–R171, R177, R182–R186, R496, R523). -/

namespace Sys2Proof.Machine

/-! ### graph_cmd (R160) -/

/-- A graph_cmd whose state is accepted runs and answers OK; any other, and each during SELFTEST and in QUENCHED
(R493), answers STATE without effect. -/
def State.graphCmd (s : State) (may : Bool) (f : State → State) : State :=
  if s.st = .selftest ∨ s.st = .quenched ∨ !may then s.fstatus .state else (f s).fstatus .ok

/-- graph_cmd 1 (R160, R161). -/
def State.switchDrain (s : State) (c : CtxId) : State :=
  s.graphCmd ((s.ctx c).sw == .steady) (fun s => s.arm c .drain)

/-- SWITCH_DRAIN (R160, R161). -/
def execSwitchDrain (c : CtxId) (s : State) : Host.Outcome State Fault Refusal := .next (s.switchDrain c)

/-- The running drain continues as FLUSH with the same target. -/
def State.drainToFlush (s : State) (c : CtxId) : State :=
  s.modCtx c (fun x => { x with sw := .flushing, kind := some .flush })

/-- graph_cmd 2 (R160, R163). -/
def State.switchFlush (s : State) (c : CtxId) : State :=
  match (s.ctx c).sw with
  | .draining => s.graphCmd true (fun s => s.drainToFlush c)
  | .steady | .halted => s.graphCmd true (fun s => s.arm c .flush)
  | _ => s.graphCmd false id

/-- SWITCH_FLUSH (R160, R163). -/
def execSwitchFlush (c : CtxId) (s : State) : Host.Outcome State Fault Refusal := .next (s.switchFlush c)

/-- graph_cmd 3 (R164); the context's live credits are revoked (R95). -/
def State.rollbackCmd (s : State) (c : CtxId) : State :=
  s.graphCmd (((s.ctx c).sw == .steady || (s.ctx c).sw == .halted) && (s.ctx c).previous != 0)
    (fun s => (s.revokeCredits c).arm c .rollback)

/-- ROLLBACK (R164). -/
def execRollback (c : CtxId) (s : State) : Host.Outcome State Fault Refusal := .next (s.rollbackCmd c)

/-- graph_cmd 4 (R160). -/
def State.haltCmd (s : State) (c : CtxId) : State :=
  s.graphCmd ((s.ctx c).sw == .steady) (fun s => (s.bcast c).haltCtx c)

/-- HALT (R160). -/
def execHalt (c : CtxId) (s : State) : Host.Outcome State Fault Refusal := .next (s.haltCmd c)

/-- graph_cmd 5 (R160). -/
def State.resumeCmd (s : State) (c : CtxId) : State :=
  s.graphCmd ((s.ctx c).sw == .halted)
    (fun s => ((s.bcast c).resumeUnits c).modCtx c (fun x => { x with sw := .steady }))

/-- RESUME (R160). -/
def execResume (c : CtxId) (s : State) : Host.Outcome State Fault Refusal := .next (s.resumeCmd c)

/-- graph_cmd 6 (R182). -/
def State.suspendCmd (s : State) (c : CtxId) : State :=
  s.graphCmd ((s.ctx c).sw == .steady || (s.ctx c).sw == .halted) (fun s => s.suspendCtx c)

/-- SUSPEND (R182). -/
def execSuspend (c : CtxId) (s : State) : Host.Outcome State Fault Refusal := .next (s.suspendCmd c)

/-- graph_cmd 7 (R182): scan-in from the SUSPEND image; an absent image fails its checks (R187). -/
def State.reinstate (s : State) (c : CtxId) : State :=
  s.graphCmd ((s.ctx c).sw == .suspended) (fun s =>
    match (s.ctx c).suspendImg with
    | some g =>
      (match s.scanChecks c g with
        | (s, none) => (((s.scanIn c g).allDirty c).forgetScratch c).modCtx c (fun x => { x with sw := .halted, kind := none })
        | (s, some (d, u)) => (s.fault 0x6009 (some c) (unitLoc d) u).modCtx c (fun x => { x with sw := .halted }))
    | none => (s.fault 0x6009 (some c) (match (s.ctx c).dies with | d :: _ => unitLoc d | [] => locHub 0)).modCtx c
        (fun x => { x with sw := .halted }))

/-- REINSTATE (R182). -/
def execReinstate (c : CtxId) (s : State) : Host.Outcome State Fault Refusal := .next (s.reinstate c)

/-! ### The units' part of a switch -/

/-- CFG (R291): the sequencer writes a unit's load buffer or a register. -/
def execCfg (d : LDie) (u : Fin 112) (t : CfgTarget) (s : State) : Host.Outcome State Fault Refusal :=
  let s := s.ctrl (nodeDie ((s.phys d).getD 0)) 0x12 (((s.unit (unitKey d u.val)).ctx.map (·.val)).getD 0) u.val
  .next (match t with
    | .loadBuffer v g => (s.modUnit (unitKey d u.val) (fun x => { x with load := { version := v, cfg := some g } })).ok
    | .register r v => (s.modUnit (unitKey d u.val) (fun x => { x with regs := tset 0 x.regs r.toNat v })).ok)

/-- The context and active record of a unit that is yet to switch while its context is in a state. -/
def State.turning (s : State) (d : LDie) (u : Nat) (sw : SwitchSt) : Option (CtxId × UnitCfg) :=
  let x := s.unit (unitKey d u)
  match x.ctx, x.active.cfg with
  | some c, some g =>
    if s.st = .run ∧ (s.ctx c).sw = sw ∧ !x.switched ∧ !(s.ctx c).paused ∧ (s.phys d).isSome then some (c, g)
    else none
  | _, _ => none

/-- Tokens of the old epoch on back edges go: back_edge_discards and event 0x6006 (R162). -/
def State.dropBackEdges (s : State) (c : CtxId) (d : LDie) (u : Nat) (g : UnitCfg) : State :=
  let e := (s.unit (unitKey d u)).epoch
  (g.inputs.filter (·.backEdge)).foldl (fun (s : State) (i : QueueDecl) =>
    let key := queueKey d (u * 4 + i.port.val)
    let r := s.dropTokens key (fun t => t.epoch == e && !t.endMark)
    if r.2 = 0 then r.1
    else (r.1.count .unit (unitKey d u) 0x30 r.2).event 0x6006 (some c) (unitLoc d) (unitDetail u key)) s

/-- EPOCH_END of the unit's epoch goes to every queue of every output port, and through an EGRESS port to
its link queue (R162, R180). -/
def State.sendEnds (s : State) (c : CtxId) (d : LDie) (u : Nat) (g : UnitCfg) : State :=
  let t := tokEnd c (s.unit (unitKey d u)).epoch
  match g.op with
  | .egress lq dest _ => s.egress c d u lq.val dest t
  | _ => g.outputs.foldl (fun (s : State) o => s.emit c d u g o.port.val t) s

/-- The credit that every EPOCH_END of a unit needs. -/
def State.canEnd (s : State) (d : LDie) (u : Nat) (g : UnitCfg) : Bool :=
  match g.op with
  | .egress _ _ _ => s.egressOpen (unitKey d u)
  | _ => s.canEmitAll g

/-- The unit may switch: a source between frames, an INGRESS port after its EPOCH_END, any other unit after
one on every input that is no back edge. -/
def drainReady (x : UnitS) (g : UnitCfg) : Bool :=
  match g.op with
  | .ingress _ => x.ended.contains 0
  | _ =>
    if g.inputs.all (·.backEdge) then x.frame == 0
    else g.inputs.all (fun i => i.backEdge || x.ended.contains i.port.val)

/-- A pass of a weight stream port's program is running: a half that it fills is FILLING (R162). -/
def State.passOpen (s : State) (d : LDie) (u : Nat) : Bool :=
  match decide (64 ≤ u ∧ u < 96), s.tileKey d ⟨(u - 64) / 2 % 16, Nat.mod_lt _ (by decide)⟩ with
  | true, some k => !((s.tile k).arr ⟨u % 2, Nat.mod_lt _ (by decide)⟩).fillings.isEmpty
  | _, _ => false

/-- The context of a unit, its arming ended. -/
def State.afterArm (s : State) (d : LDie) (u : Nat) : State :=
  match (s.unit (unitKey d u)).ctx with
  | some c => s.settleArm c
  | none => s

/-- UNIT_DRAIN_SWITCH (R162). -/
def execUnitDrainSwitch (d : LDie) (u : Fin 112) (s0 : State) : Host.Outcome State Fault Refusal :=
  let s := s0.afterArm d u.val
  .next (match s.turning d u.val .draining with
    | none => s.turnAway
    | some (c, g) =>
      let s := (s.heads c d u.val g).1
      match s.turning d u.val .draining with
      | none => s.ok
      | some _ =>
        if !drainReady (s.unit (unitKey d u.val)) g || s.passOpen d u.val then s.turnAway
        else if !s.canEnd d u.val g then (s.outWait d u.val g).turnAway
        else
          ((((s.dropBackEdges c d u.val g).sendEnds c d u.val g).dropLeft d u.val).turnUnit c d u.val false false).ok)

/-- UNIT_FLUSH (R163). -/
def execUnitFlush (d : LDie) (u : Fin 112) (s0 : State) : Host.Outcome State Fault Refusal :=
  let s := s0.afterArm d u.val
  .next (match s.turning d u.val .flushing with
    | none => s.turnAway
    | some (c, _) =>
      if (s.ctx c).kind = some .flush then (s.flushUnit c d u.val false).ok else s.turnAway)

/-- UNIT_ROLLBACK (R164). -/
def execUnitRollback (d : LDie) (u : Fin 112) (s0 : State) : Host.Outcome State Fault Refusal :=
  let s := s0.afterArm d u.val
  .next (match s.turning d u.val .flushing with
    | none => s.turnAway
    | some (c, _) =>
      if (s.ctx c).kind = some .rollback then (s.flushUnit c d u.val true).ok else s.turnAway)

/-- A checkpoint that fell due during a switch is taken when the switch completes, as its spacing lets it (R167, R523). -/
def State.takeDeferred (s : State) (c : CtxId) : State :=
  if (s.ctx c).ckptDue.isSome && s.st == .run && s.ckptSpaced c && !(s.ctx c).restore.any (fun r => !r.resumed) then
    s.beginCheckpoint c
  else s

/-- SWITCH_COMPLETE (R165). -/
def execSwitchComplete (c : CtxId) (s0 : State) : Host.Outcome State Fault Refusal :=
  let s := s0.settleArm c
  .next (if ((s.ctx c).sw = .draining ∨ (s.ctx c).sw = .flushing) ∧ s.allSwitched c then
      ((s.completeSwitch c).takeDeferred c).ok
    else s.turnAway)

/-- SWITCH_TIMEOUT (R166): the limit is in microseconds. -/
def execSwitchTimeout (c : CtxId) (s0 : State) : Host.Outcome State Fault Refusal :=
  let s := s0.settleArm c
  let late := (s.unitsOf c).find? (fun p => !p.2.switched)
  .next (if (s.ctx c).sw = .draining then
      (((s.notBefore ((s.ctx c).switchStart + s.obj 0x2245 (c.val + 1) * 1000 + 1)).fault 0x6007 (some c)
        (match late, (s.ctx c).dies with | some p, _ => unitLoc (keyDie p.1) | none, d :: _ => unitLoc d | none, [] => locHub 0)
        ((late.map (fun p => keyUnit p.1)).getD 0)).drainToFlush c).ok
    else s.turnAway)

/-- Since when the head token of an input has waited. -/
def State.headSince (s : State) (d : LDie) (u : Nat) (i : QueueDecl) : Option Nat :=
  ((s.queue (queueKey d (u * 4 + i.port.val))).tokens.head?).map (·.since)

/-- The queue with the oldest waiting token, and the queue of the empty input that the firing needs (R171). -/
def State.joinWaits (s : State) (d : LDie) (u : Nat) (g : UnitCfg) : Option (Nat × Nat) :=
  let need := g.inputs.filter (fun i => !i.backEdge)
  let oldest := g.inputs.foldl (fun (b : Option (QueueDecl × Nat)) i =>
    match s.headSince d u i, b with
    | some t, some x => if t < x.2 then some (i, t) else b
    | some t, none => some (i, t)
    | none, _ => b) none
  match oldest, need.find? (fun i => (s.headSince d u i).isNone) with
  | some a, some b => some (u * 4 + a.1.port.val, u * 4 + b.port.val)
  | _, _ => none

/-- JOIN_WATCHDOG (R171, R167). -/
def execJoinWatchdog (d : LDie) (u : Fin 112) (s0 : State) : Host.Outcome State Fault Refusal :=
  let s := s0.afterArm d u.val
  .next (match s.live d u.val with
    | none => s.turnAway
    | some (c, g) =>
      let k := unitKey d u.val
      match s.joinWaits d u.val g with
      | none => (s.modUnit k (fun x => x.joinHold s.now)).turnAway
      | some (a, b) =>
        match (s.unit k).joinSince with
        | none => (s.modUnit k (fun x => { x with joinSince := some s.now })).ok
        | some t =>
          if s.yields c then (s.modUnit k (fun x => { x with joinSince := some s.now })).turnAway
          else
            let s := (s.notBefore (t + ((s.unit k).active.join.toNat * 1000 - (s.unit k).joinCount) + 1)).fault 0x6003 (some c) (unitLoc d) (u.val + a * 2 ^ 8 + b * 2 ^ 24)
            (if (s.ctx c).sw = .draining then s.drainToFlush c else s.haltCtx c).ok)

/-- LIVE_WRITE_APPLY (R158): not during a switch. -/
def execLiveWriteApply (d : LDie) (u : Fin 112) (s : State) : Host.Outcome State Fault Refusal :=
  let k := unitKey d u.val
  let busy : Bool := match (s.unit k).ctx with
    | some c => (s.ctx c).sw == .draining || (s.ctx c).sw == .flushing || (s.ctx c).sw == .arming
    | none => true
  let x := s.unit k
  let n := b2n x.joinPending.isSome + b2n x.prefetchPending.isSome
  .next (if busy || n == 0 then s.turnAway
    else ((s.modUnit k (fun x => { x with
      active := { x.active with join := x.joinPending.getD x.active.join, prefetch := x.prefetchPending.getD x.active.prefetch }
      joinPending := none, prefetchPending := none })).count .unit k 0x2C n).ok)

/-- CTX_BCAST (R291): a broadcast stops a unit of a region at its token boundary, or lets it continue. -/
def execCtxBcast (d : LDie) (u : Fin 112) (b : Bcast) (s : State) : Host.Outcome State Fault Refusal :=
  let k := unitKey d u.val
  let c := ((s.unit k).ctx.map (·.val)).getD 0
  .next (match (s.unit k).ctx with
    | none => s.turnAway
    | some _ =>
      let s := s.ctrl (nodeDie ((s.phys d).getD 0)) 0x11 c u.val
      match b with
      | .resume =>
        let s := s.modUnit k (fun x => { x with stopped := false })
        (match (s.unit k).ctx with
          | some c => if (s.ctx c).paused then s.ok else (s.unpause k).ok
          | none => s.ok)
      | .pause | .halt | .flush | .rollback => (s.modUnit k (fun x => { x.pause s.now with stopped := true })).ok)

/-! ### Images and graphs (R177, R496) -/

/-- IMAGE_LOAD (R177): a running context answers BUSY, and one without keys, or SELFTEST, STATE. -/
def execImageLoad (c : CtxId) (img : Image) (s : State) : Host.Outcome State Fault Refusal :=
  .next (
    if s.st = .selftest ∨ (s.ctx c).key ≠ .opened then s.fstatus .state
    else if (s.ctx c).sw ≠ .none then s.fstatus .busy
    else match s.imageRefusal c img with
    | some (code, l, x) => (s.fault code (some c) l x).fstatus .range
    | none =>
      let old := s.fab.group
      let mine := old.filter (fun (p : Nat × Option GroupRun) =>
        (p.2.map (fun (x : GroupRun) => x.ctx)) == some c)
      (((s.unbind c false (some img)).bind c (s.ctx c).image img).resetResidues mine img).fstatus .ok)

/-- GRAPH_START (R496). -/
def execGraphStart (c : CtxId) (s : State) : Host.Outcome State Fault Refusal :=
  .next (match (s.ctx c).image with
    | none => s.fstatus .state
    | some i =>
      if (s.st = .idle ∨ s.st = .run) ∧ (s.ctx c).sw = .none ∧ (s.ctx c).key = .opened then
        ((s.startGraph c i).forgetScratch c).fstatus .ok
      else s.fstatus .state)

/-! ### Checkpoints (R186, R523, R524) -/

/-- The interval in nanoseconds. -/
def State.ckptInterval (s : State) : Nat := s.obj 0x2100 0x05 * 1000000

/-- CHECKPOINT_DUE (R523): the context is STEADY and its interval has elapsed; the checkpoint starts, or waits
for its spacing. -/
def execCheckpointDue (c : CtxId) (s : State) : Host.Outcome State Fault Refusal :=
  let x := s.ctx c
  .next (
    if s.st ≠ .run ∨ !x.runs ∨ x.restore.any (fun r => !r.resumed) ∨ x.ckptRun.isSome then s.turnAway else
    let s := s.notBefore (x.lastCkpt + s.ckptInterval)
    if x.sw = .steady ∧ s.ckptSpaced c then (s.beginCheckpoint c).ok
    else (s.modCtx c (fun y => { y with ckptDue := some (y.ckptDue.getD s.now) })).ok)

/-- CHECKPOINT_COMPLETE (R184, R186, R524). -/
def execCheckpointComplete (c : CtxId) (s : State) : Host.Outcome State Fault Refusal :=
  .next (match (s.ctx c).ckptRun with
    | some (area, _, g) => if s.st = .idle ∨ s.st = .run then (s.endCheckpoint c area g).ok else s.turnAway
    | none => s.turnAway)

/-- CHECKPOINT_SKIP (R523): a checkpoint that has not started one interval after it fell due. -/
def execCheckpointSkip (c : CtxId) (s : State) : Host.Outcome State Fault Refusal :=
  .next (match (s.ctx c).ckptDue with
    | none => s.turnAway
    | some t =>
      let s := s.notBefore (t + s.ckptInterval)
      ((s.modCtx c (fun y => { y with ckptDue := some s.now })).count .recovery 0 0x04 1).ok)

end Sys2Proof.Machine
end

