-- ==== Sys2Proof/Machine/Spec.lean ====
section
/-! DEFINITION. Settle-list tokens at the weight stream ports: settle lists, hints and their prefetches, and
the end of a fetch group with its confirmations (R208–R219). -/

namespace Sys2Proof.Machine

/-! ### The token (R208) -/

/-- Fields of a settle-list token. -/
def slTag (p : Bytes) : Nat := leNat (p.take 2)
def slKind (p : Bytes) : Nat := leNat ((p.drop 2).take 1)
def slCount (p : Bytes) : Nat := leNat ((p.drop 3).take 1)
def slGroup (p : Bytes) : Nat := leNat ((p.drop 4).take 4)
def slIndices (p : Bytes) : List W16 :=
  (List.range (slCount p)).map (fun i => BitVec.ofNat 16 (leNat ((p.drop (8 + 2 * i)).take 2)))

/-- A reserved kind, a count above 28, or an index beyond the layer's outputs. -/
def slBad (l : LayerDecl) (p : Bytes) : Bool :=
  decide (2 < slKind p) || decide (28 < slCount p) || (slIndices p).any (fun i => decide (l.outputs ≤ i.toNat))

/-- What a stream port finds at the head of its input queue. -/
inductive StreamHead where
  /-- no stream port of a layer, or no token -/
  | none
  /-- a token that is discarded under R208 -/
  | bad (c : CtxId) (l : LayerDecl) (i : QueueDecl)
  | token (c : CtxId) (g : UnitCfg) (l : LayerDecl) (i : QueueDecl) (t : Token)
  deriving DecidableEq, Repr

/-- The head token of a stream port, after the checks of R153. -/
def State.streamHead (s : State) (d : LDie) (u : Nat) : State × StreamHead :=
  match s.live d u with
  | none => (s, .none)
  | some (c, g) =>
    match g.layer with
    | none => (s, .none)
    | some l =>
      let r := s.heads c d u g
      match r.2 with
      | (i, some t) :: _ => (r.1, if slBad l t.payload then .bad c l i else .token c g l i t)
      | _ => (r.1, .none)

/-- A malformed token goes, and the context halts. -/
def State.dropMalformed (s : State) (c : CtxId) (d : LDie) (u : Nat) (l : LayerDecl) (i : QueueDecl) : State :=
  ((s.popQueue (queueKey d (u * 4 + i.port.val))).fault 0x6051 (some c) (unitLoc d) (u + l.tag.toNat * 2 ^ 8)).haltCtx c

/-- The port's lists become those of the token's fetch group, where it is the first of a new one: another frame or group
number, or a settle token after the list's end. (DEDUCED, log 139) -/
def UnitS.meetGroup (x : UnitS) (frame : Nat) (p : Bytes) : UnitS :=
  if (frame, slGroup p) ≠ x.group ∨ (x.ended2 ∧ slKind p ≠ 1) then
    { x with group := (frame, slGroup p), settleList := [], settleDone := 0, ended2 := false, passOne := 0 }
  else x

/-- The command of one kind of token: f runs on the indices once the token is consumed. -/
def State.streamToken (s : State) (d : LDie) (u kind : Nat)
    (f : CtxId → UnitCfg → LayerDecl → List W16 → State → State) : State :=
  match s.streamHead d u with
  | (s, .none) => s.turnAway
  | (s, .bad c l i) => (s.dropMalformed c d u l i).ok
  | (s, .token c g l i t) =>
    if slKind t.payload ≠ kind then s.turnAway
    else
      let frame := (s.unit (unitKey d u)).frame
      let s := (s.consume c d u i t).modUnit (unitKey d u) (fun x => x.meetGroup frame t.payload)
      if t.poisoned then s.ok else (f c g l (slIndices t.payload) s).ok

/-! ### SETTLE -/

/-- SETTLE (R208). -/
def execSettle (d : LDie) (u : Fin 112) (s : State) : Host.Outcome State Fault Refusal :=
  .next (s.streamToken d u.val 0 (fun _ _ _ is s =>
    s.modUnit (unitKey d u.val) (fun x => { x with settleList := x.settleList ++ is })))

/-! ### HINT (R210, R218) -/

/-- The prefetch of an output's settle set passes the checks of R218. -/
def State.prefetchOk (s : State) (c : CtxId) (g : UnitCfg) (l : LayerDecl) (i : Nat) : Bool :=
  match g.sparse with
  | none => true
  | some x =>
    let n := outputLines l * (32 + 128 * l.k)
    let a := x.base + BitVec.ofNat 64 (i * n)
    s.rangeOk c (a, n, 1) &&
      match s.decode a with
      | .here (.stack k off) =>
        match s.shardAt c k off with
        | some j => ((s.ctx c).shard j).st == .valid
        | none => true
      | _ => true

/-- One hinted output: already decided, suppressed, over the limit, or prefetched. -/
def State.hintOutput (s : State) (c : CtxId) (d : LDie) (u : Nat) (g : UnitCfg) (l : LayerDecl) (i : W16) : State :=
  let k := unitKey d u
  let x := s.unit k
  let r := sparseRec d u
  if x.ended2 || x.settleList.contains i || x.hinted.contains i then s
  else if firstRecords l * x.active.prefetch < (x.prefetched + settleRecords l) * 100 then
    s.count .spec r 0x34 1
  else if !s.prefetchOk c g l i.toNat then s.count .spec r 0x30 1
  else
    (s.modUnit k (fun y => { y with hinted := y.hinted ++ [i], prefetched := y.prefetched + settleRecords l })).count
      .spec r 0x24 (settleRecords l)

/-- Geyser descriptors of the die whose hint has been consumed are confirmed, and the commons slots that they
wrote lose their tag (R216). (DEDUCED, log 39) -/
def State.confirmGeyser (s : State) (c : CtxId) (d : LDie) : State :=
  let open_ (x : Desc) : Bool := x.unsettled && !x.confirmed && x.fin.isSome
  (List.range 8).foldl (fun (s : State) q =>
    let k := ringKey d geyser q
    if (s.ring k).ctx ≠ some c then s
    else
      let slots := ((s.ring k).descs.filter open_).flatMap (fun x => (opCheck x.words []).dst.flatMap (fun r =>
        match s.decode r.1 with
        | .here (.commons l off) => if l = d then slotsOf off r.2.1 else []
        | _ => []))
      let s := s.modRing k (fun r => { r with descs := r.descs.map (fun x =>
        if open_ x then { x with confirmed := true } else x) })
      match s.phys d with
      | some p => s.modCommons p (fun y => { y with unsettled := y.unsettled.filter (fun z => !slots.contains z) })
      | none => s) s

/-- HINT (R210). -/
def execHint (d : LDie) (u : Fin 112) (s : State) : Host.Outcome State Fault Refusal :=
  .next (s.streamToken d u.val 1 (fun c g l is s =>
    let s := if (s.ctx c).specPosture = 2 then
        is.foldl (fun (s : State) i => s.hintOutput c d u.val g l i) s
      else s
    s.confirmGeyser c d))

/-! ### GROUP_END: confirmation and discard (R211, R216, R217) -/

/-- Unconfirmed geyser descriptors of the die are discarded. -/
def State.discardGeyser (s : State) (c : CtxId) (d : LDie) : State :=
  (List.range 8).foldl (fun (s : State) q =>
    let k := ringKey d geyser q
    if (s.ring k).ctx ≠ some c then s
    else s.modRing k (fun r => { r with descs := r.descs.map (fun x =>
      if x.unsettled && !x.confirmed && x.fin.isSome then { x with fin := some (.discarded, 0, 0) } else x) })) s

/-- The columns of a load whose outputs do not settle are masked (R211). -/
def maskCols (settles : List W16) (cols : List Nat) : List Nat :=
  cols.map (fun o => if settles.contains (BitVec.ofNat 16 o) then o else 65536)

/-- The unsettled halves of an array become settled, with the outputs that do not settle masked, or EMPTY; so does a half
whose prefetch was dropped before it was complete (R211). -/
def Arr.resolve (a : Arr) (keep : Bool) (settles : List W16) : Arr :=
  let turn (h : Half) : Half :=
    if !h.unsettled then h
    else if keep && h.st != .filling then { h with unsettled := false, cols := maskCols settles h.cols }
    else {}
  { a with
    a := turn a.a, b := turn a.b, shadowUnsettled := false, activeUnsettled := false, specRounds := []
    shadowCols := if a.shadowUnsettled then maskCols settles a.shadowCols else a.shadowCols
    activeCols := if a.activeUnsettled then maskCols settles a.activeCols else a.activeCols }

/-- A prefetched output is in a complete half or a load of an array; a half that names no outputs may hold any. -/
def Arr.keeps (a : Arr) (o : Nat) : Bool :=
  let of (h : Half) : Bool := h.unsettled && h.st != .filling && (h.cols == [] || h.cols.contains o)
  of a.a || of a.b || a.shadowUnsettled && (a.shadowCols == [] || a.shadowCols.contains o)
    || a.activeUnsettled && (a.activeCols == [] || a.activeCols.contains o)

/-- Cycles of the rounds over unsettled weights for outputs that settle (R220); a round that names no outputs is for
all of them. -/
def Arr.settledCycles (a : Arr) (settles : List W16) : Nat :=
  ((a.specRounds.filter (fun r => r.1 == [] || r.1.any (fun o => settles.contains (BitVec.ofNat 16 o)))).map (·.2)).sum

/-- Accumulator entries of a fetch group: settling outputs lose the tag, others are released. -/
def Arr.resolveAcc (a : Arr) (l : LayerDecl) (settles : List W16) : Arr :=
  let stays (i : Nat) : Bool := settles.contains (BitVec.ofNat 16 (i % max 1 l.outputs))
  { a with
    acc := a.acc.filter (fun p => !a.accUnsettled.contains p.1 || stays p.1)
    accUnsettled := [] }

/-- The fetch group's prefetches meet its settle list: used and discarded records, confirmed or discarded
halves, and the faults that they hold. -/
def State.resolveGroup (s : State) (c : CtxId) (d : LDie) (u : Nat) (l : LayerDecl) : State :=
  let k := unitKey d u
  let x := s.unit k
  let r := sparseRec d u
  let tile : LTile := ⟨(u - 64) / 2 % 16, Nat.mod_lt _ (by decide)⟩
  let arr : Fin 2 := ⟨u % 2, Nat.mod_lt _ (by decide)⟩
  let used := x.hinted.filter (fun i => x.settleList.contains i)
  let there (i : W16) : Bool := match s.tileKey d tile with
    | some t => ((s.tile t).arr arr).keeps i.toNat
    | none => false
  let confirmed := !used.isEmpty
  let faults : Nat := (x.held.map HeldFault.total).sum
  let s := if !confirmed then
      (s.count .spec r 0x2C (x.hinted.length * settleRecords l)).count .spec r 0x3C faults
    else if x.held = [] then
      (s.count .spec r 0x28 (used.length * settleRecords l)).count .spec r 0x2C
        ((x.hinted.length - used.length) * settleRecords l)
    else
      (x.held.foldl (fun (s : State) h =>
          (s.reportHeld c (h.code, h.loc, h.time) (u + l.tag.toNat * 2 ^ 8)).count .spec r 0x38 1) s).count
        .spec r 0x2C (x.hinted.length * settleRecords l)
  let keep := confirmed && x.held.isEmpty
  let s := match s.tileKey d tile with
    | none => s
    | some t =>
      let n := if keep then ((s.tile t).arr arr).settledCycles x.settleList else 0
      ((s.uncount .unit (unitKey d tile.val) 0x18 n).count64 .unit (unitKey d tile.val) 0x08 n).modTile t (fun y =>
        let y := y.modArr arr (fun a => (a.resolve keep x.settleList).resolveAcc l x.settleList)
        if confirmed then { y with unsettled := [] } else y)
  let back : List W16 := if keep then x.settleList.filter (fun i => !(used.contains i && there i)) else x.settleList
  s.modUnit k (fun y =>
    { y with
      held := [], hinted := [], prefetched := 0
      settleList := back, ended2 := true })

/-- GROUP_END (R208): the settle list is complete. -/
def execGroupEnd (d : LDie) (u : Fin 112) (s : State) : Host.Outcome State Fault Refusal :=
  .next (s.streamToken d u.val 2 (fun c _ l _ s => (s.resolveGroup c d u.val l).discardGeyser c d))

/-! ### The sparse dispatcher (R233, R234) -/

/-- The number of the span that follows those in the dispatcher queues. -/
def nextSpan (disp : Tbl (List (Nat × W16))) : Nat :=
  (disp.flatMap (fun p => if p.1 < 128 then p.2.map (fun q => q.1 / 512 + 1) else [])).foldl max 0

/-- A column's round-entries of a span: its nonzero weights in position order, padded to 64 each. -/
def roundEntries (span : Nat) (ws : List (Nat × W16)) : List (Nat × W16) :=
  let v := (ws.filter (fun p => p.1 < 512 && p.2 != 0)).map (fun p => (p.1 + 512 * span, p.2))
  v ++ List.replicate ((64 - v.length % 64) % 64) (512 * span, 0)

/-- DISPATCH_SPAN (R233): a span enters the column queues, or waits for room; a span without a nonzero weight
issues no round. A position beyond the span is a bad entry. (DEDUCED, log 40) -/
def execDispatchSpan (d : LDie) (t : LTile) (a : Fin 2) (cols : List (List (Nat × W16))) (s : State) :
    Host.Outcome State Fault Refusal :=
  match s.live d t.val, s.tileKey d t with
  | some (c, g), some k =>
    match arrayCfg g, g.sparse with
    | some x, some p =>
      if p.arr ≠ 2 then .next s.turnAway
      else
        let n := modeOuts x.wFmt.toNat
        let disp := ((s.tile k).arr a).disp
        let cs := cols.take n
        let bad := cs.flatMap (fun w => w.filterMap (fun q => if 512 ≤ q.1 then some (q.1, (0x8001 : W16)) else none))
        let r := s.sparseFault c d t.val (tileRec d t.val) (nextSpan disp) bad
        if cs.all (fun w => (roundEntries 0 w).isEmpty) then
          .next ((r.count .sparse (tileRec d t.val) 0x38 8).ok)
        else
          let span := nextSpan disp
          let new := (cs.map (roundEntries span)).zipIdx
          if new.all (fun q => decide ((tget [] disp q.2).length + q.1.length ≤ 1024)) then
            .next ((r.modTile k (fun y => y.modArr a (fun z =>
              { z with disp := new.foldl (fun (r : Tbl (List (Nat × W16))) q =>
                  tset [] r q.2 (tget [] r q.2 ++ q.1)) z.disp }))).ok)
          else
            .next (((s.count .sparse (tileRec d t.val) 0x34 1).count .unit (unitKey d t.val) 0x18 1).turnAway)
    | _, _ => .next s.turnAway
  | _, _ => .next s.turnAway

end Sys2Proof.Machine
end

