-- ==== Sys2Proof/Machine/Net.lean ====
section
/-! DEFINITION. Delivery over the panel networks: acceptance at a destination, the service of requests and
completions, acknowledgement, re-send, and one hop of a router (R256, R276–R292, R567). -/

namespace Sys2Proof.Machine

/-! ### Where a packet goes (R276, R287, R319) -/

/-- Who a packet's requester is at a memory of this panel. -/
def pktWho (p : Pkt) : Who :=
  let u := p.unit.toNat
  { ctx := ⟨p.ctx.toNat, p.ctx.isLt⟩, firmware := p.firmware
    role := if u = 96 + geyser then .geyser else if 64 ≤ u ∧ u < 96 then .settle else .none
    unit := u }

/-- The node that serves a destination address for a requester; none where it has none on this panel. -/
def State.destNode (s : State) (w : Who) (a : W64) : Option (BitVec 12) :=
  match s.decode a with
  | .here (.stack k _) => some (nodeStack (s.relocated w k))
  | .here (.commons l _) | .here (.spad l _ _) | .here (.engine l _) => (s.phys l).map nodeDie
  | .here (.hub h _) => some (nodeHub h)
  | .here (.cell k) => some (s.cellNode k)
  | _ => none

/-- The packet comes from another panel. -/
def State.fromAway (s : State) (p : Pkt) : Bool := p.srcPanel != s.srcPanel

/-- The sequence key of a packet at its destination. -/
def State.rxKey (s : State) (at_ : BitVec 12) (p : Pkt) : Nat :=
  if s.fromAway p then
    2 ^ 90 + ((p.srcPanel.toNat * 2 ^ 13 + bits p.dest.toNat 37 13) * 4096 + p.srcNode.toNat) * 8 + p.vc.toNat
  else if toMany p then mcKey p.srcNode (p.aux.toNat % 256) at_
  else seqKey p.srcNode at_ p.vc.toNat

/-- The address to which the completion of a request goes: the requester's die or hub. -/
def State.replyDest (s : State) (p : Pkt) : W64 :=
  let n := p.srcNode
  let here := !s.fromAway p
  let loc := match nodeKind n with
    | 0 => if here then ((s.logical (nodeIndex n)).map (·.val)).getD (nodeIndex n) else nodeIndex n
    | _ => nodeIndex n
  let space := if nodeKind n = 2 then 5 else 4
  (if here then BitVec.ofNat 64 hereBits else panelWord p.srcPanel)
    + BitVec.ofNat 64 (space * 2 ^ 46 + loc * 2 ^ 37)

/-- A completion leaves a node, and is kept among the last 16 of its source and VC (R288). -/
def State.complete (s : State) (at_ : BitVec 12) (p : Pkt) (op : Byte) (st : Status) (d : Bytes) : State :=
  let r := { pktReply p op st d with dest := s.replyDest p }
  let mine (e : BitVec 12 × BitVec 12 × Nat × W32 × Pkt) : Bool :=
    e.1 == at_ && e.2.1 == p.srcNode && e.2.2.1 == p.vc.toNat
  let old := (s.net.done.filter mine).take 15
  let s := { s with net := { s.net with
    done := (at_, p.srcNode, p.vc.toNat, p.seq, r) :: old ++ s.net.done.filter (fun e => !mine e) } }
  if s.fromAway p then (s.injectAway at_ r).1 else (s.inject at_ p.srcNode r).1

/-! ### Multicast (R292) -/

/-- The logical tiles of a die to which a group delivers. -/
def State.mcastTiles (s : State) (g : Nat) (d : LDie) : List LTile :=
  match s.mcastGroup g with
  | none => []
  | some (_, m) =>
    match m.dests.find? (fun x => x.1 == d) with
    | none => []
    | some x => (List.finRange 16).filter (fun t => x.2.toNat.testBit t.val)

/-! ### Acceptance (R281, R288, R290) -/

/-- Opcodes that R281 and R326 define. -/
def opcodeKnown (o : Byte) : Bool := (1 ≤ o.toNat && o.toNat ≤ 5) || (0x10 ≤ o.toNat && o.toNat ≤ 0x15)

/-- The destination acknowledges a packet. -/
def State.ackOut (s : State) (at_ : BitVec 12) (p : Pkt) : State :=
  let field := p.vc.toNat * 2 ^ 16 + p.seq.toNat % 2 ^ 16
  let s := s.ctrl at_ 0x01 p.ctx.toNat field
  if s.fromAway p then
    s.fabricOut (s.homeDie at_) (panelWord p.srcPanel) (.control 0x01 p.ctx (BitVec.ofNat 19 field))
  else s

/-- A packet that has been delivered before: dropped, acknowledged again, and a request's completion is
returned again. -/
def State.again (s : State) (at_ : BitVec 12) (p : Pkt) : State :=
  let s := (s.count .net (s.homeDie at_) 0x10 1).ackOut at_ p
  match s.net.done.find? (fun e => e.1 == at_ && e.2.1 == p.srcNode && e.2.2.1 == p.vc.toNat && e.2.2.2.1 == p.seq) with
  | some e => if s.fromAway p then (s.injectAway at_ e.2.2.2.2).1 else (s.inject at_ p.srcNode e.2.2.2.2).1
  | none => s

/-- Packets that were held for their place and now follow in order. -/
def State.drainEarly (s : State) (at_ : BitVec 12) (key : Nat) : Nat → State × List Pkt
  | 0 => (s, [])
  | n + 1 =>
    let want := tget 0 s.net.seqRx key
    match s.net.early.find? (fun e => e.2.1 == at_ && s.rxKey at_ e.2.2.2 == key && e.2.2.2.seq.toNat == want) with
    | none => (s, [])
    | some e =>
      let s := { s with net := { s.net with
        early := s.net.early.erase e, seqRx := tset 0 s.net.seqRx key ((want + 1) % 2 ^ 32) } }
      let r := s.drainEarly at_ key n
      (r.1, e.2.2.2 :: r.2)

/-- Packets that a restore has discarded are taken out of what is delivered (R46). -/
def State.dropVoid (r : State × List Pkt) : State × List Pkt :=
  let gone (p : Pkt) : Bool := r.1.net.void.any (fun v => v == (p.srcNode, p.vc, p.seq, p.dest))
  let out := r.2.filter gone
  ({ r.1 with net := { r.1.net with
    void := r.1.net.void.filter (fun v => !out.any (fun p => v == (p.srcNode, p.vc, p.seq, p.dest))) } },
    r.2.filter (fun p => !gone p))

/-- A packet's dest names a node; a multicast's group has the node's die among its destinations. -/
def State.namesNode (s : State) (at_ : BitVec 12) (p : Pkt) : Bool :=
  match toMany p, s.mcastGroup (p.aux.toNat % 256) with
  | true, some (_, m) =>
    m.dests.any (fun x => (s.phys x.1).map nodeDie == some at_ && (s.aloneDie m p).all (fun l => l == x.1))
  | true, none => false
  | false, _ => s.destNode (pktWho p) p.dest == some at_

/-- What a destination does with an arriving packet: the packets that it delivers, in order. (DEDUCED, log 51) -/
def State.accept (s : State) (at_ : BitVec 12) (p : Pkt) : State × List Pkt :=
  let d := s.homeDie at_
  if pktHead p ≠ p.headCheck ∨ !opcodeKnown p.opcode then (s.count .net d 0x14 1, [])
  else if !s.namesNode at_ p then (s.count .net d 0x18 1, [])
  else if pktCrc p ≠ p.crc then (s.count .net d 0x0C 1, [])
  else
    let key := s.rxKey at_ p
    let want := tget 0 s.net.seqRx key
    let ahead : Nat := (p.seq.toNat + 2 ^ 32 - want) % 2 ^ 32
    let held : List (BitVec 12 × BitVec 12 × Nat × Pkt) := s.net.early.filter (fun e => e.2.1 == at_ && s.rxKey at_ e.2.2.2 == key)
    if ahead = 0 then
      let s := { s with net := { s.net with seqRx := tset 0 s.net.seqRx key ((want + 1) % 2 ^ 32) } }
      let r := (s.ackOut at_ p).drainEarly at_ key 16
      State.dropVoid (r.1, p :: r.2)
    else if 2 ^ 31 ≤ ahead ∨ held.any (fun e => e.2.2.2.seq == p.seq) then (s.again at_ p, [])
    else if 16 ≤ held.length then (s, [])
    else
      (({ s with net := { s.net with early := (p.srcNode, at_, p.vc.toNat, p) :: s.net.early } }).ackOut at_ p, [])

/-! ### Requests (R252–R256, R281) -/

/-- A read with the merge flag opens a merge entry or joins one (R256); the window is 42.7 ns. -/
def State.mergeRead (s : State) (w : Who) (k off : Nat) : State :=
  let k := s.relocated w k
  let line := off / 128
  let live := (s.stack k).merges.filter (fun m => decide (s.now < m.opened + 43))
  match live.find? (fun m => m.line == line && m.ctx == w.ctx && decide (m.requesters < 32)) with
  | some m =>
    (s.modStack k (fun x => { x with
      merges := live.map (fun y => if y = m then { y with requesters := y.requesters + 1 } else y) })).count .stack k 0x10 1
  | none =>
    if (live.filter (fun m => m.line % 32 == line % 32)).length < 16 then
      (s.modStack k (fun x => { x with merges := ⟨line, w.ctx, s.now, 1⟩ :: live })).count .stack k 0x14 1
    else s.modStack k (fun x => { x with merges := live })

/-- What a request met: the answer goes back, a refusal logs its fault, and a request to a shard that is not
VALID is held (R261). -/
def State.answerReq (s : State) (at_ : BitVec 12) (p : Pkt) (w : Who) (op : Byte) (r : Acc) : State :=
  match r with
  | .ok d =>
    if p.mcast && p.opcode == 0x01 then
      s.injectGroup at_ (p.aux.toNat % 256) { pktReply p op .ok d with dest := (locEngine 0).word }
    else s.complete at_ p op .ok d
  | .held i => s.modCtx w.ctx (fun x => { x with held := (i, s.now, some (at_, p)) :: x.held })
  | .fail st code =>
    let s := if st = .denied ∧ code ≠ 0 then
        s.fault code (if w.firmware then none else some w.ctx) (s.targetLoc w p.dest) w.unit
      else s
    let s := if st = .bankClosed then s.noteClosed w p.dest (if p.opcode = 0x01 then p.length.toNat else p.payload.length) p.srcNode else s
    s.complete at_ p op st []

/-- The access of a READ as its node makes it; context units are denied hub space (R447), and the router port of a
commons never carries an unsettled slot (R116). A read of ring registers by a context that the ring is not bound to
is refused as a write is. (DESIGN CHOICE, log 131) -/
def State.readFor (s : State) (w : Who) (p : Pkt) : State × Acc :=
  match s.decode p.dest with
  | .here (.stack k off) =>
    let s := if p.merge then s.mergeRead w k off else s
    s.readFA w p.dest p.length.toNat
  | .here (.engine l off) =>
    if w.firmware ∨ (ringAt off).any (fun q => (s.ring (ringKey l q.1 q.2)).ctx == some w.ctx) then
      (s, .ok (s.ringRead l off p.length.toNat))
    else (s, .fail .denied 0x6044)
  | .here (.hub _ _) => (s, if w.firmware then .fail .addrError 0x4002 else .fail .denied 0x4001)
  | .here (.commons _ _) => s.readFA { w with role := .none } p.dest p.length.toNat
  | _ => s.readFA w p.dest p.length.toNat

/-- The access of a WRITE as its node makes it; a scratchpad takes credited writes only (R93). -/
def State.writeFor (s : State) (w : Who) (p : Pkt) : State × Acc :=
  match s.decode p.dest with
  | .here (.spad l t off) =>
    if w.firmware then s.writeFA w p.dest p.payload
    else s.creditedWrite w.ctx p.srcNode p.seq l t off p.aux.toNat p.payload
  | .here (.engine l off) =>
    let r := s.ringWrite w.firmware w.ctx l off p.payload
    (r.1, if r.2 = .ok then .ok [] else .fail r.2 0)
  | .here (.hub _ _) => (s, if w.firmware then .fail .addrError 0x4002 else .fail .denied 0x4001)
  | _ => s.writeFA w p.dest p.payload

/-- READ at its destination. -/
def State.serveRead (s : State) (at_ : BitVec 12) (w : Who) (p : Pkt) : State :=
  let r := s.readFor w p
  r.1.answerReq at_ p w 0x02 r.2

/-- WRITE at its destination. -/
def State.serveWrite (s : State) (at_ : BitVec 12) (w : Who) (p : Pkt) : State :=
  let r := s.writeFor w p
  r.1.answerReq at_ p w 0x04 r.2

/-! ### Completions at the requester -/

/-- The request that a completion answers, the oldest of its unit at that node; it waits no longer. An answer to a request
that has not been acknowledged acknowledges it. -/
def State.takeRequest (s : State) (at_ : BitVec 12) (p : Pkt) (ops : List Byte) : State × Option Pkt :=
  let mine (src dst : BitVec 12) (q : Pkt) : Bool :=
    src == at_ && (dst == p.srcNode || dst == nodeAway) && q.unit == p.unit && ops.contains q.opcode
  match s.net.pendingReq.find? (fun e => mine e.1 e.2.1 e.2.2) with
  | some e => ({ s with net := { s.net with pendingReq := s.net.pendingReq.erase e } }, some e.2.2)
  | none =>
    match s.net.copies.reverse.find? (fun x => mine x.src x.dst x.pkt) with
    | some x => ({ s with net := { s.net with copies := s.net.copies.erase x } }, some x.pkt)
    | none => (s, none)

/-- The fault that the issuing unit raises for a status. -/
def statusCode : Status → W16
  | .addrError => 0x4002 | .poisoned => 0x4004 | .tagFail => 0x4003 | .bankClosed => 0x4063
  | .unreachable => 0x5002 | _ => 0

/-- The fault of a failing completion by the space that its request names: poisoned data of a commons raises 0x4071 and
of a scratchpad 0x4064 (R88, R113). -/
def State.reqCode (s : State) (a : W64) (st : Status) : W16 :=
  match st, s.decode a with
  | .poisoned, .here (.commons _ _) => 0x4071
  | .poisoned, .here (.spad _ _ _) => 0x4064
  | st, _ => statusCode st

/-- A stream port holds a fault with its unsettled half (R217). -/
def State.holdFault (s : State) (d : LDie) (u : Nat) (code : W16) (loc : W64) : State :=
  s.modUnit (unitKey d u) (fun x =>
    { x with held := match x.held with
      | [] => [{ code := code, loc := loc, time := s.now, extra := 0 }]
      | h :: hs => { h with extra := h.extra + 1 } :: hs })

/-- What the requester does with a failing completion. A speculative fetch drops BANK_CLOSED and holds
other faults; under RETRY a closed bank parks the request until its reopen notice (R106, R210, R217). (DEDUCED, log 50) -/
def State.failedReq (s : State) (at_ : BitVec 12) (p : Pkt) (req : Option Pkt) (st : Status) : State :=
  let c : CtxId := ⟨p.ctx.toNat, p.ctx.isLt⟩
  let a := (req.map (·.dest)).getD 0
  let n := match req with | some q => if q.opcode = 0x01 then q.length.toNat else q.payload.length | none => 1
  let die : LDie := ((s.logical (s.homeDie at_))).getD 0
  if p.firmware then s
  else if p.spec then
    if st = .bankClosed then s.count .spec (sparseRec die p.unit.toNat) 0x30 1
    else s.holdFault die p.unit.toNat (s.reqCode a st) (s.failLoc (pktWho p) a n (s.reqCode a st)).word
  else if st = .bankClosed ∧ s.obj 0x2242 (c.val + 1) ≠ 1 then
    match req with
    | some q => { s with net := { s.net with parked := s.net.parked ++ [(at_, p.srcNode, q)] } }
    | none => s
  else if st = .nocredit then s
  else if statusCode st = 0 then s.haltCtx c
  else s.unitFail (pktWho p) a (.fail st (s.reqCode a st)) n

/-- Bytes whose request the die did not make, a multicast's, arrive in the oldest half of an array that is FILLING, after
those that have arrived. -/
def State.fillHalf (s : State) (d : LDie) (t : LTile) (a : Fin 2) (b : Bytes) : State :=
  match s.tileKey d t with
  | none => s
  | some k =>
    match ((s.tile k).arr a).fillings with
    | [] => s
    | h :: _ => s.modTile k (fun y => y.modArr a (fun z => z.modHalf h (fun q => q.put q.arrived b)))

/-- Bytes that a read of an address has brought land in every half of the die's arrays that its fill places them in, for
the context whose port asked (R78, R192). -/
def State.landFetch (s : State) (c : CtxId) (d : LDie) (a : Nat) (b : Bytes) : State :=
  (List.finRange 16).foldl (fun (s : State) t =>
    match s.tileKey d t with
    | some k =>
      if (s.ctx c).holdsTile d t then
        s.modTile k (fun y => { y with arr0 := y.arr0.land false a b, arr1 := y.arr1.land false a b })
      else s
    | none => s) s

/-- READ_DATA at the requester: weights land in their halves, other data answers the requester. -/
def State.serveData (s : State) (at_ : BitVec 12) (p : Pkt) : State :=
  let r := s.takeRequest at_ p [0x01]
  match codeSt p.status.toNat with
  | none => r.1
  | some .ok =>
    let s := r.1
    let u := p.unit.toNat
    match s.logical (s.homeDie at_) with
    | some d =>
      if 64 ≤ u ∧ u < 96 ∧ nodeKind at_ = 0 then
        match r.2 with
        | some q => s.landFetch ⟨p.ctx.toNat, p.ctx.isLt⟩ d q.dest.toNat p.payload
        | none =>
        let tiles := if toMany p then s.mcastTiles (p.aux.toNat % 256) d
          else [⟨(u - 64) / 2 % 16, Nat.mod_lt _ (by decide)⟩]
        tiles.foldl (fun (s : State) t => s.fillHalf d t ⟨u % 2, Nat.mod_lt _ (by decide)⟩ p.payload) s
      else { s with answer := .data .ok p.payload }
    | none => { s with answer := .data .ok p.payload }
  | some st => { r.1.failedReq at_ p r.2 st with answer := .status st }

/-- WRITE_DONE at the writer. -/
def State.serveDone (s : State) (at_ : BitVec 12) (p : Pkt) : State :=
  let r := s.takeRequest at_ p [0x03, 0x11, 0x14]
  match codeSt p.status.toNat with
  | none => r.1
  | some .ok => { r.1 with answer := .status .ok }
  | some st => { r.1.failedReq at_ p r.2 st with answer := .status st }

/-- The queues of a die that a multicast TOKEN feeds: those of the output port that its source declares with the group,
but for those of the producer's own tile, which take the token without a packet. -/
def State.groupQueues (s : State) (p : Pkt) (d : LDie) : List Nat :=
  match s.logical (nodeIndex p.srcNode) with
  | none => []
  | some l =>
    match (s.unit (unitKey l p.unit.toNat)).active.cfg with
    | none => []
    | some g => (g.outputs.filter (fun o => o.group.map (·.toNat) == some (p.aux.toNat % 256))).flatMap (fun o =>
        (o.queues.filter (fun q => q.1 == d && !(s.queue (queueKey d q.2.val)).decl.any (sameTile (queueKey d q.2.val)))).map
          (·.2.val))

/-- TOKEN at the consumer's die: the token enters its queue. -/
def State.serveToken (s : State) (at_ : BitVec 12) (p : Pkt) : State :=
  match s.logical (nodeIndex at_) with
  | none => s
  | some d =>
    let t := tokOf p.sideband p.kind.toNat p.payload
    let l := if toMany p then s.groupQueues p d else [p.aux.toNat % 512]
    l.foldl (fun (s : State) q => let key := queueKey d q
      if (s.queue key).decl.isSome then s.pushQueue key t else s) s

/-! ### One hop (R277, R290, R316) -/

/-- Ports of a die switch in the order of R302, then 10 the ring's own units and 11 the attachment. -/
def portToward (d e : Nat) (skip : Bool) : Nat :=
  portDir ((e % 13 : Nat) - (d % 13 : Nat)) ((e / 13 : Nat) - (d / 13 : Nat)) + (if skip then 4 else 0)

/-- The port from which a die delivers to a node. -/
def localPort (n : BitVec 12) : Nat :=
  match nodeKind n with
  | 0 => 10
  | 1 => 8 + nodeIndex n % 2
  | _ => 11

/-- The die at which a packet leaves the networks, and the port there; none for one that has nowhere to go. -/
def State.exitOf (s : State) (d : Nat) (p : Pkt) : Option (Nat × Nat) :=
  match s.decode p.dest with
  | .remote x y z =>
    match firstDir (s.fabricRoute (x, y, z)) with
    | none => none
    | some dir => (s.ventFor dir (ventPick (s.homeDie p.srcNode) p.dest)).map (fun v => (ventDie v, 11))
  | .bad => none
  | .here _ =>
    match s.destNode (pktWho p) p.dest with
    | none => none
    | some n => (s.nodeDieOf n (d / 13)).map (fun e => (e, localPort n))

/-- The next die of a packet at die d under its route order. -/
def State.nextHop (s : State) (d e : Nat) (yx : Bool) : Option (Nat × Bool) :=
  let column (x : Bool) : Bool := if x then d % 13 == e % 13 else d / 13 == e / 13
  let first := !yx
  if !column first then s.stepToward d first (if first then e % 13 else e / 13)
  else s.stepToward d (!first) (if first then e / 13 else e % 13)

/-- The dies to which a switch of a group's tree replicates (R292): along the root's row, then along each
destination column. -/
def State.treeHops (s : State) (d : Nat) (m : Mcast) : List (Nat × Bool) :=
  let ends := m.dests.filterMap (fun x => s.phys x.1)
  let row := m.root.val / 13
  let mine := ends.filter (fun e =>
    if d / 13 = row then
      let fromRoot := if m.root.val % 13 ≤ e % 13 then decide (m.root.val % 13 ≤ d % 13 ∧ d % 13 ≤ e % 13)
        else decide (e % 13 ≤ d % 13 ∧ d % 13 ≤ m.root.val % 13)
      fromRoot
    else d % 13 == e % 13 && (if row < d / 13 then decide (d / 13 ≤ e / 13) else decide (e / 13 ≤ d / 13)))
  ((mine.filterMap (fun e => if e = d then none else s.nextHop d e false)).eraseDups)

/-- Flits that an output port sends in a nanosecond (R274); the ports of the ring's own units and of an attachment
count as a stack mesh port. (DESIGN CHOICE, log 148) -/
def portRate (port : Nat) : Nat := if port < 4 then 32 else if port < 8 then 4 else 16

/-- The packet at the head of a VC of an output port. -/
def OutPort.head (o : OutPort) (vc : Nat) : Option Pkt := ((tget [] o.lanes vc).head?).map (·.1)

/-- The VC whose flit an output port sends next: of those with a packet the one whose head has the highest priority, and
among equals the first in turn (R284). -/
def OutPort.pick (o : OutPort) : Option Nat :=
  ((List.range 8).map (fun i => (o.next + i) % 8)).foldl (fun (b : Option Nat) vc =>
    match o.head vc, b.bind o.head with
    | none, _ => b
    | some _, none => some vc
    | some p, some q => if q.prio.toNat < p.prio.toNat then some vc else b) none

/-- One flit leaves; the tail of a packet gives the VC's channel to the packet behind it, which is answered. -/
def OutPort.flit (o : OutPort) (vc : Nat) : OutPort × Option Pkt :=
  match tget [] o.lanes vc with
  | [] => (o, none)
  | (p, n) :: rest =>
    if n ≤ 1 then ({ o with lanes := tset [] o.lanes vc rest, next := (vc + 1) % 8 }, (rest.head?).map (·.1))
    else ({ o with lanes := tset [] o.lanes vc ((p, n - 1) :: rest), next := (vc + 1) % 8 }, none)

/-- The flits that time allows leave; the packets that have taken a channel since, in order. -/
def OutPort.advance (o : OutPort) : Nat → OutPort × List Pkt
  | 0 => (o, [])
  | n + 1 =>
    match o.pick with
    | none => (o, [])
    | some vc =>
      let r := o.flit vc
      let z := r.1.advance n
      (z.1, r.2.toList ++ z.2)

/-- Flits that wait at an output port. -/
def OutPort.waiting (o : OutPort) : Nat := (o.lanes.map (fun l => (l.2.map (·.2)).sum)).sum

/-- An output port of a die, its flits sent to the present time; packets that take a channel go on their way. -/
def State.drainPort (s : State) (d port : Nat) : State :=
  let o := tget {} s.net.out (d * 12 + port)
  let r := o.advance (min o.waiting ((s.now - o.upTo) * portRate port))
  r.2.foldl (fun (s : State) p => s.send (.hop d port p)) { s with net := { s.net with
    out := tset {} s.net.out (d * 12 + port) (if r.1.waiting = 0 then {} else { r.1 with upTo := s.now }) } }

/-- A packet comes to an output port: it takes its VC's channel at once where that is free, and waits behind the
packets of its VC where it is not (R284). -/
def State.toPort (s : State) (d port : Nat) (p : Pkt) : State :=
  let s := s.drainPort d port
  let o := tget {} s.net.out (d * 12 + port)
  let l := tget [] o.lanes p.vc.toNat
  let o := { o with lanes := tset [] o.lanes p.vc.toNat (l ++ [(p, pktFlits p / 64)]), upTo := s.now }
  let s := { s with net := { s.net with out := tset {} s.net.out (d * 12 + port) o } }
  if l = [] then s.send (.hop d port p) else s

/-- ROUTER_FORWARD: the head check, then one step, a local port, or a drop; the die's output ports have sent what time
allows. -/
def State.forward (s : State) (d : Nat) (p : Pkt) : State :=
  if pktHead p ≠ p.headCheck then s.count .net d 0x14 1
  else
    let s := (List.range 12).foldl (fun (s : State) q => s.drainPort d q) s
    let go (s : State) (h : Nat × Bool) : State :=
      (if h.2 then s.count .net d 0x1C 1 else s).toPort d (portToward d h.1 h.2) p
    match (s.mcastGroup (p.aux.toNat % 256)).filter (fun x => toMany p && (s.aloneDie x.2 p).isNone) with
    | some (_, m) =>
      let hops := s.treeHops d m
      let mine := m.dests.any (fun x => s.phys x.1 == some d)
      let n := hops.length + (if mine then 1 else 0)
      let s := if 1 < n then s.count .net d 0x20 (n - 1) else s
      let s := hops.foldl go s
      if mine then s.toPort d 10 p else s
    | none =>
      match s.exitOf d p with
      | none => s
      | some (e, port) =>
        if e = d then s.toPort d port p
        else match s.nextHop d e p.yx with
          | some h => go s h
          | none => s

/-! ### Acknowledgement and re-send (R287, R289) -/

/-- The kept copy of a packet. -/
def State.copyOf (s : State) (src dst : BitVec 12) (vc : Nat) (seq : W32) : Option SrcCopy :=
  s.net.copies.find? (fun c => c.src == src && c.dst == dst && c.vc == vc && c.seq == seq)

/-- An acknowledged request waits for its completion; an acknowledged XTOKEN counts at its EGRESS port. -/
def State.acked (s : State) (x : SrcCopy) : State :=
  let s := { s with net := { s.net with copies := s.net.copies.erase x } }
  match x.pkt.opcode.toNat with
  | 0x01 | 0x03 | 0x11 | 0x14 =>
    { s with net := { s.net with pendingReq := s.net.pendingReq ++ [(x.src, x.dst, x.pkt)] } }
  | 0x15 =>
    match s.logical (s.homeDie x.src) with
    | some l => s.modUnit (unitKey l x.pkt.unit.toNat) (fun u => { u with acked := u.acked + 1 })
    | none => s
  | _ => s

/-- A packet that has been sent eight times ends in PATH_FAULT; firmware starts its own again. -/
def State.pathFault (s : State) (x : SrcCopy) : State :=
  let d := s.homeDie x.src
  let c : CtxId := ⟨x.pkt.ctx.toNat, x.pkt.ctx.isLt⟩
  let s := { s with net := { s.net with copies := s.net.copies.erase x } }
  let s := (s.count .net d 0x28 1).fault 0x5001 (if x.pkt.firmware then none else some c) (s.dieLoc d)
    (netDetail x.src x.dst x.vc)
  if x.pkt.firmware then
    if x.dst = nodeAway then (s.injectAway x.src x.pkt).1 else (s.inject x.src x.dst x.pkt).1
  else s.needRestore c

/-- A packet is sent again. -/
def State.resend (s : State) (x : SrcCopy) : State :=
  let s := (({ s with net := { s.net with
    copies := s.net.copies.map (fun y => if y = x then { y with sends := y.sends + 1, sentAt := s.now } else y) } }).count
    .net (s.homeDie x.src) 0x08 1).send (.pkt x.src (s.againPkt x))
  if x.dst = nodeAway then s.fabricOut (s.homeDie x.src) x.pkt.dest (.bulk x.pkt) else s

/-! ### Path tests (R289) -/

/-- D2D lane records are stored; a stack port that exceeds its spares fails its stack (R38). -/
def State.addLanes (s : State) (lanes : List W32) : State :=
  lanes.foldl (fun (s : State) w =>
    let d := recIndex w
    let p := recDetail w / 2 ^ 16
    let after := s.addField w
    if 8 ≤ p ∧ p < 10 ∧ after.portBad d p ∧ !s.portBad d p then
      (s.loseStack (2 * d + (p - 8))).addField w
    else after) s

/-- The neighbour and skip ports that are out of service. -/
def State.portsOut (s : State) (lanes : List W32) : List (Nat × Nat) :=
  (lanes.map (fun w => (recIndex w, recDetail w / 2 ^ 16))).eraseDups.filter (fun q => s.portBad q.1 q.2)

end Sys2Proof.Machine
end

