-- ==== Sys2Proof/Machine/Stacks.lean ====
section
/-! DEFINITION. Shards and their fills, scrub and zeroisation of memory stacks (R250, R255, R257–R264, R324,
R457). -/

namespace Sys2Proof.Machine

/-! ### Manifests (R258, R259) -/

/-- A signature block verifies under the owner's key of this ID (R408, R415). -/
def State.ownerSig (s : State) (keyId : W64) (g : SigBlock) : Bool :=
  g.edOk && g.mldsaOk && g.canonical && s.sec.ownerKeys.contains g.keyHash && keyId == g.keyHash.setWidth 64

/-- An entry's own checks: number, flags, length, placement in banks of the context (R257, R258). -/
def State.entryOk (s : State) (c : CtxId) (i : Nat) (e : ShardEntry) : Bool :=
  let n := e.length.toNat
  let p := placementOf e.placement
  e.zerosOk && e.shard.toNat == i && e.flags.toNat / 2 == 0 && decide (128 ≤ n) && decide (n ≤ 2 ^ 30) && n % 128 == 0
    && bits e.placement.toNat 50 14 == 0x3FFF && bits e.placement.toNat 46 4 == 0 && !e.placement.toNat.testBit 36
    && decide (p.1 < 312) && p.2 % 128 == 0 && decide (p.2 + n ≤ 2 ^ 36)
    && (List.range' (p.2 / 2 ^ 30) ((p.2 + n - 1) / 2 ^ 30 + 1 - p.2 / 2 ^ 30)).all (fun b =>
      (s.bankOwner (s.relocated ⟨c, false, .none, 0⟩ p.1) b).toNat == c.val)

/-- No two entries overlap. -/
def entriesApart : List ShardEntry → Bool
  | [] => true
  | e :: l =>
    l.all (fun f => (placementOf e.placement).1 != (placementOf f.placement).1
      || decide ((placementOf e.placement).2 + e.length.toNat ≤ (placementOf f.placement).2)
      || decide ((placementOf f.placement).2 + f.length.toNat ≤ (placementOf e.placement).2)) && entriesApart l

/-- The highest generation accepted for a manifest ID. -/
def State.acceptedGen (s : State) (id : W64) : Option W64 :=
  (s.stk.accepted.find? (fun p => p.1 == id)).map (fun p => p.2.2)

/-- The header's generation and the record's room (R258, R259). -/
def State.generationOk (s : State) (m : Manifest) : Bool :=
  match s.acceptedGen m.id with
  | some g => decide (g.toNat ≤ m.generation.toNat)
  | none => decide (s.stk.accepted.length < 1024)

/-- Every check of a manifest but its signature. -/
def State.manifestOk (s : State) (c : CtxId) (m : Manifest) : Bool :=
  m.version == 1 && m.zerosOk && decide (1 ≤ m.entries.length) && decide (m.entries.length ≤ 65536)
    && s.generationOk m && (m.entries.zipIdx).all (fun p => s.entryOk c p.2 p.1) && entriesApart m.entries

/-- A fill tag becomes free. -/
def State.freeTag (s : State) (c : CtxId) (i : Nat) : State :=
  match ((s.ctx c).shard i).tag with
  | none => s
  | some t =>
    ({ s with fab := { s.fab with fillTags := tset none s.fab.fillTags t none } }).modShard c i (fun x =>
      { x with tag := none })

/-- SHARD_MANIFEST (R259): a write of shard_manifest. -/
def State.loadManifest (s : State) (c : CtxId) (m : Manifest) : State :=
  if (s.ctx c).runs then s.fstatus .busy
  else if !s.ownerSig m.keyId m.sig then
    ((s.count .security 0 0x00 1).fault 0x4013 (some c) s.rootLoc).fstatus .range
  else if !s.manifestOk c m then (s.fault 0x4013 (some c) s.rootLoc).fstatus .range
  else
    let s := (List.range (((s.ctx c).manifest.map (·.entries.length)).getD 0)).foldl (fun (s : State) i => s.freeTag c i) s
    (({ s with stk := { s.stk with
      accepted := (m.id, m.keyId, m.generation) :: s.stk.accepted.filter (fun p => p.1 != m.id) } }).modCtx c (fun x =>
        { x with manifest := some m, shards := [] })).fstatus .ok

/-- SHARD_MANIFEST (R259). -/
def execShardManifest (c : CtxId) (m : Manifest) (s : State) : Host.Outcome State Fault Refusal :=
  .next (s.loadManifest c m)

/-! ### Fills (R262) -/

/-- A shard's manifest entry. -/
def CtxS.entry (x : CtxS) (i : Nat) : Option ShardEntry := (x.manifest.bind (fun m => m.entries[i]?))

/-- The numbers of a context's shards. -/
def CtxS.shardIds (x : CtxS) : List Nat := List.range ((x.manifest.map (·.entries.length)).getD 0)

/-- FILL: every ABSENT and FAILED shard is to be filled from its first source. -/
def State.startFills (s : State) (c : CtxId) : State :=
  (s.ctx c).shardIds.foldl (fun (s : State) i =>
    match ((s.ctx c).shard i).st with
    | .absent | .failed => s.modShard c i (fun x => { x with st := .absent, want := true, source := 0, since := s.now })
    | _ => s) s

/-- ABANDON: every fill stops; its shard is ABSENT. -/
def State.dropFills (s : State) (c : CtxId) : State :=
  (s.ctx c).shardIds.foldl (fun (s : State) i =>
    match ((s.ctx c).shard i).st with
    | .filling | .verifying | .quarantined | .absent =>
      (s.freeTag c i).modShard c i (fun x => { x with st := .absent, want := false, source := 0, got := 0 })
    | _ => s) s

/-- fill_cmd 1 and 2 (R262); in QUENCHED the stacks' fills are stopped, and the command answers STATE (R493). -/
def State.fillCmd (s : State) (c : CtxId) (start : Bool) : State :=
  if s.st = .quenched then s.fstatus .state
  else (if start then s.startFills c else s.dropFills c).fstatus .ok

/-- FILL (R262). -/
def execFill (c : CtxId) (s : State) : Host.Outcome State Fault Refusal := .next (s.fillCmd c true)

/-- ABANDON (R262). -/
def execAbandon (c : CtxId) (s : State) : Host.Outcome State Fault Refusal := .next (s.fillCmd c false)

/-- The source words of a shard that name a source, in order. -/
def CtxS.sources (x : CtxS) (i : Nat) : List Nat :=
  match x.plan.find? (fun e => decide (leNat (e.take 4) ≤ i) && decide (i ≤ leNat ((e.drop 4).take 4))) with
  | none => []
  | some e => ((List.range 3).map (fun k => leNat ((e.drop (8 + 8 * k)).take 8))).filter (fun w => bits w 60 4 != 0)

/-- Where a shard lies now. -/
def State.shardPlace (s : State) (c : CtxId) (e : ShardEntry) : Nat × Nat :=
  let p := placementOf e.placement
  (s.relocated ⟨c, false, .none, 0⟩ p.1, p.2)

/-- An attempt has failed: the next source is tried, or the shard is FAILED with fault 0x4011. -/
def State.attemptFails (s : State) (c : CtxId) (i : Nat) (st : ShardSt) : State :=
  let s := s.freeTag c i
  let x := s.ctx c
  let k := (x.shard i).source + 1
  if k < (x.sources i).length then
    s.modShard c i (fun y => { y with st := st, want := true, source := k, got := 0, since := s.now })
  else
    let loc := match x.entry i with
      | some e => locStack (s.shardPlace c e).1 (s.shardPlace c e).2
      | none => s.rootLoc
    (s.modShard c i (fun y => { y with st := .failed, want := false, source := 0, got := 0 })).fault 0x4011 (some c) loc i

/-- Firmware acting for a context at a stack. -/
def whoFill (c : CtxId) : Who := ⟨c, true, .none, 0⟩

/-- The lowest key that a table does not list. -/
def firstFree {V : Type} : Nat → Tbl V → Nat
  | n, [] => n
  | n, (k, _) :: t => if k = n then firstFree (n + 1) t else n

/-- The bytes of an attempt are in the placement. -/
def State.laid (s : State) (c : CtxId) (i : Nat) (e : ShardEntry) (d : Bytes) : State × Bool :=
  let p := s.shardPlace c e
  match s.stackWrite (whoFill c) p.1 p.2 d with
  | (t, .ok _) => (t.modShard c i (fun x => { x with st := .filling, want := false, got := d.length, since := s.now }), true)
  | (t, _) => (t, false)

/-- A LOCAL source: a VALID shard of the same digest in the same context. -/
def State.fillLocal (s : State) (c : CtxId) (i : Nat) (e : ShardEntry) : State × Bool :=
  let x := s.ctx c
  match x.shardIds.find? (fun j => (x.shard j).st == .valid && ((x.entry j).map (·.digest)) == some e.digest
      && ((x.entry j).map (·.length)) == some e.length) with
  | none => (s, false)
  | some j =>
    match x.entry j with
    | none => (s, false)
    | some f =>
      let p := s.shardPlace c f
      match s.stackRead (whoFill c) p.1 p.2 f.length.toNat with
      | (t, .ok d) => t.laid c i e d
      | (t, _) => (t, false)

/-- A SEED source (R457): IV, ciphertext and tag in a host window, under key slot 0. (DEDUCED, log 47) -/
def State.fillSeed (s : State) (c : CtxId) (i w : Nat) (e : ShardEntry) : State × Bool :=
  let x := s.ctx c
  let n := e.length.toNat
  let off := bits w 0 32 * 4096
  match x.image.bind (fun g => g.windows[bits w 57 3]?), tget none x.slots 0, x.manifest with
  | some win, some key, some m =>
    if win.2 < off + n + 28 ∨ bits w 32 25 ≠ 0 then (s, false)
    else
      match s.readFA ⟨c, false, .none, 0⟩ (plus win.1 off) (n + 28) with
      | (t, .ok b) =>
        match gcmOpen key.1 (b.take 12) (toLe 8 m.id.toNat ++ toLe 4 i ++ toLe 4 0) ((b.drop 12).take n) (b.drop (12 + n)) with
        | some d => t.laid c i e d
        | none => (t.fault 0x7020 (some c) (locStack (s.shardPlace c e).1 (s.shardPlace c e).2) i, false)
      | (t, _) => (t, false)
  | _, _, _ => (s, false)

/-- A PEER source (R324): the hub asks another panel for the digest, under a fill tag. -/
def State.fillPeer (s : State) (c : CtxId) (i w : Nat) (e : ShardEntry) : State × Bool :=
  match (s.ctx c).manifest with
  | none => (s, false)
  | some m =>
    let t := firstFree 0 s.fab.fillTags
    if 2 ^ 16 ≤ t then (s, false)
    else
      let p := { pktBlank with
        dest := panelWord (BitVec.ofNat 14 (bits w 46 14)) + BitVec.ofNat 64 (5 * 2 ^ 46)
        opcode := 0x13, ctx := BitVec.ofNat 5 c.val, firmware := true, aux := BitVec.ofNat 16 t, length := 64
        payload := toLe 8 m.id.toNat ++ toLe 4 i ++ toLe 2 t ++ toLe 2 0 ++ toLe 8 e.length.toNat
          ++ toLe 8 e.placement.toNat ++ toLe 32 e.digest.toNat }
      match s.injectAway (nodeHub s.rootHub) p with
      | (r, .ok) =>
        (({ r with fab := { r.fab with fillTags := tset none r.fab.fillTags t (some (c, i)) } }).modShard c i (fun x =>
          { x with st := .filling, want := false, got := 0, tag := some t, since := s.now }), true)
      | (r, _) => (r, false)

/-- Shards of a context in FILLING or VERIFYING on a stack. -/
def State.fillsOn (s : State) (c : CtxId) (k : Nat) : Nat :=
  ((s.ctx c).shardIds.filter (fun i =>
    (((s.ctx c).shard i).st == .filling || ((s.ctx c).shard i).st == .verifying)
      && (((s.ctx c).entry i).map (fun e => (s.shardPlace c e).1)) == some k)).length

/-- A fill stands still while QUENCH does (R268). -/
def State.fillsRun (s : State) : Bool := s.st == .idle || s.st == .run || s.st == .safe

/-- FILL_ATTEMPT (R262, R263): the shard's next source is tried. -/
def execFillAttempt (c : CtxId) (i : Nat) (s : State) : Host.Outcome State Fault Refusal :=
  let x := s.ctx c
  .next (match x.entry i with
    | none => s.turnAway
    | some e =>
      if !(x.shard i).want ∨ !s.fillsRun ∨ x.key ≠ .opened ∨ 4 ≤ s.fillsOn c (s.shardPlace c e).1 then s.turnAway
      else
        let w := (x.sources i).getD (x.shard i).source 0
        let r := match bits w 60 4 with
          | 1 => s.fillPeer c i w e
          | 2 => s.fillLocal c i e
          | 3 => s.fillSeed c i w e
          | _ => (s, false)
        if r.2 then r.1.ok else (r.1.attemptFails c i ((r.1.ctx c).shard i).st).ok)

/-- FILL_WRITTEN (R263): every byte of the attempt is written. -/
def execFillWritten (c : CtxId) (i : Nat) (s : State) : Host.Outcome State Fault Refusal :=
  let x := s.ctx c
  .next (match x.entry i with
    | none => s.turnAway
    | some e =>
      if (x.shard i).st = .filling ∧ e.length.toNat ≤ (x.shard i).got then
        ((s.freeTag c i).modShard c i (fun y => { y with st := .verifying, since := s.now })).ok
      else s.turnAway)

/-- FILL_ATTEMPT_TIMEOUT (R262): an attempt has taken 10 s. -/
def execFillAttemptTimeout (c : CtxId) (i : Nat) (s : State) : Host.Outcome State Fault Refusal :=
  let y := (s.ctx c).shard i
  .next (if y.st = .filling then ((s.notBefore (y.since + 10000000000)).attemptFails c i .absent).ok else s.turnAway)

/-! ### Verification and patrol (R263, R264) -/

/-- The plaintext of a shard hashes to its digest: a line that cannot be read does not. -/
def State.shardMatches (s : State) (k off : Nat) (e : ShardEntry) : Bool :=
  (s.lineCheck k (linesOf off e.length.toNat)).isNone
    && sha3 32 (bytesAt s.stackMem (stackBase k + off) e.length.toNat) == toLe 32 e.digest.toNat

/-- A shard's banks are open. -/
def State.shardOpen (s : State) (k off n : Nat) : Bool :=
  (List.range' (off / 2 ^ 30) ((off + n - 1) / 2 ^ 30 + 1 - off / 2 ^ 30)).all (fun b =>
    !(s.stackBankSt k b).shut)

/-- A request at the node that holds its target: who its requester is there (R323). -/
def State.reqWho (s : State) (owner : CtxId) (p : Pkt) : Who :=
  if s.fromAway p then ⟨owner, false, .none, 0⟩ else pktWho p

/-- A request is served by its opcode. -/
def State.serveReq (s : State) (at_ : BitVec 12) (w : Who) (p : Pkt) : State :=
  match p.opcode.toNat with
  | 0x01 => s.serveRead at_ w p
  | 0x03 | 0x11 => s.serveWrite at_ w p
  | _ => s

/-- The time for which a request was held counts at its unit as internal_wait_cycles (R250, R261). -/
def State.countHeld (s : State) (since : Nat) (p : Pkt) : State :=
  if p.firmware || p.srcPanel != s.srcPanel || nodeKind p.srcNode != 0 then s
  else match s.logical (s.homeDie p.srcNode) with
    | some l => s.count .unit (unitKey l p.unit.toNat) 0x18 (s.cyclesSince (unitKey l p.unit.toNat) since)
    | none => s

/-- The requests that waited for a shard proceed (R261). -/
def State.proceed (s : State) (c : CtxId) (i : Nat) : State :=
  let l := (s.ctx c).held.filter (fun h => h.1 == i)
  let s := s.modCtx c (fun x => { x with held := x.held.filter (fun h => h.1 != i) })
  (l.reverse.foldl (fun (s : State) h =>
    match h.2.2 with
    | some (n, p) => (s.countHeld h.2.1 p).serveReq n (s.reqWho c p) p
    | none => s) s).drainSites

/-- SHARD_VERIFY_DONE (R263): the shard has been read back and hashed. -/
def execShardVerifyDone (c : CtxId) (i : Nat) (s : State) : Host.Outcome State Fault Refusal :=
  let x := s.ctx c
  .next (match x.entry i with
    | none => s.turnAway
    | some e =>
      let p := s.shardPlace c e
      if (x.shard i).st ≠ .verifying ∨ !s.shardOpen p.1 p.2 e.length.toNat ∨ !s.fillsRun then s.turnAway
      else if s.shardMatches p.1 p.2 e then
        (((s.modShard c i (fun y => { y with st := .valid, lastPatrol := s.now })).count .stack p.1 0x20 1).proceed c i).ok
      else
        (((s.count .stack p.1 0x24 1).event 0x4010 (some c) (locStack p.1 p.2) i).attemptFails c i .quarantined).ok)

/-- DIGEST_PATROL (R264): a sealed VALID shard is hashed again. -/
def execDigestPatrol (c : CtxId) (i : Nat) (s : State) : Host.Outcome State Fault Refusal :=
  let x := s.ctx c
  .next (match x.entry i with
    | none => s.turnAway
    | some e =>
      let p := s.shardPlace c e
      if !x.sealed i ∨ (x.shard i).st ≠ .valid ∨ !s.shardOpen p.1 p.2 e.length.toNat ∨ !s.fillsRun then s.turnAway else
      let s := s.notBefore ((x.shard i).lastPatrol + s.obj 0x2260 0x02 * 1000000000)
      if s.shardMatches p.1 p.2 e then
        ((s.modShard c i (fun y => { y with lastPatrol := s.now })).count .stack p.1 0x20 1).ok
      else (s.quarantine c i p.1 p.2).ok)

/-- SHARD_WAIT_LIMIT (R261): a request has waited for the shard as long as it may. -/
def execShardWaitLimit (c : CtxId) (i : Nat) (s : State) : Host.Outcome State Fault Refusal :=
  let x := s.ctx c
  .next (match x.held.find? (fun h => h.1 == i) with
    | some h =>
      let s := s.notBefore (h.2.1 + s.obj 0x2248 (c.val + 1) * 1000000)
      let loc := match x.entry i with
        | some e => locStack (s.shardPlace c e).1 (s.shardPlace c e).2
        | none => s.rootLoc
      ((s.modCtx c (fun y => { y with held := y.held.filter (fun h => h.1 != i) })).fault 0x4012 (some c) loc i
        |>.haltCtx c |>.failSites c i).ok
    | none => s.turnAway)

/-! ### Peer fill at the serving end and at the requester (R324) -/

/-- A context that can serve a digest to a panel, and its shard. -/
def State.peerShard (s : State) (panel : BitVec 14) (digest : BitVec 256) : Option (CtxId × Nat) :=
  allCtx.findSome? (fun c =>
    let x := s.ctx c
    if s.fab.exports.any (fun p => p.1 == c && p.2.rights.toNat.testBit 3 && inBox p.2 panel) then
      (x.shardIds.find? (fun i => (x.shard i).st == .valid && ((x.entry i).map (·.digest)) == some digest)).map
        (fun i => (c, i))
    else none)

/-- SHARD_REQ at HUB0: SHARD_DATA into the placement that it names, or DENIED. (DEDUCED, log 45) -/
def State.servePeer (s : State) (panel : BitVec 14) (digest : BitVec 256) (length tag : Nat) (placement : W64) : State :=
  let refuse (s : State) : State :=
    (s.injectAway (nodeHub 0) { pktBlank with
      dest := panelWord panel + BitVec.ofNat 64 (5 * 2 ^ 46), opcode := 0x04, firmware := true, resp := true
      aux := BitVec.ofNat 16 tag, status := 1 }).1
  match s.peerShard panel digest with
  | none => refuse s
  | some (c, i) =>
    match (s.ctx c).entry i with
    | none => refuse s
    | some e =>
      let p := s.shardPlace c e
      match s.stackRead (whoFill c) p.1 p.2 (min length e.length.toNat) with
      | (t, .ok d) =>
        let base := panelWord panel + BitVec.ofNat 64 (bits placement.toNat 0 50)
        (cut4k (d.length / 4096 + 2) base.toNat d).foldl (fun (s : State) q =>
          (s.injectAway (nodeStack p.1) { pktBlank with
            dest := BitVec.ofNat 64 q.1, opcode := 0x14, ctx := BitVec.ofNat 5 c.val, firmware := true
            aux := BitVec.ofNat 16 tag, length := BitVec.ofNat 13 q.2.length, payload := q.2 }).1) t
      | (t, _) => refuse t

/-- SHARD_REQ (R324). -/
def execShardReq (panel : BitVec 14) (_id : W64) (_shard : W32) (digest : BitVec 256) (length : W64) (tag : W16)
    (placement : W64) (s : State) : Host.Outcome State Fault Refusal :=
  .next ((s.servePeer panel digest length.toNat tag.toNat placement).ok)

/-- The shard in FILLING that a SHARD_DATA packet's tag and range name. -/
def State.taggedShard (s : State) (p : Pkt) : Option (CtxId × Nat) :=
  match s.decode p.dest, tget none s.fab.fillTags p.aux.toNat with
  | .here (.stack k off), some (c, i) =>
    match (s.ctx c).entry i with
    | none => none
    | some e =>
      let q := placementOf e.placement
      if ((s.ctx c).shard i).st = .filling ∧ ((s.ctx c).shard i).tag = some p.aux.toNat ∧ q.1 = k ∧ q.2 ≤ off
          ∧ off + p.payload.length ≤ q.2 + e.length.toNat then some (c, i) else none
  | _, _ => none

/-- SHARD_DATA at the requester's stack. -/
def State.serveShard (s : State) (at_ : BitVec 12) (p : Pkt) : State :=
  match s.decode p.dest, s.taggedShard p with
  | .here (.stack k off), some (c, i) =>
    match s.stackWrite (whoFill c) (s.relocated ⟨c, false, .none, 0⟩ k) off p.payload with
    | (t, .ok _) =>
      (t.modShard c i (fun x => { x with got := x.got + p.payload.length })).complete at_ p 0x04 .ok []
    | (t, .fail st _) => t.complete at_ p 0x04 st []
    | (t, .held _) => t
  | .here (.stack k off), none => (s.fault 0x4001 none (locStack k off)).complete at_ p 0x04 .denied []
  | _, _ => s.complete at_ p 0x04 .addrError []

/-- A peer's DENIED answer ends the attempt of its tag. (DEDUCED, log 46) -/
def State.peerDenied (s : State) (tag : Nat) : State :=
  match tget none s.fab.fillTags tag with
  | some (c, i) => if ((s.ctx c).shard i).st = .filling then s.attemptFails c i .absent else s
  | none => s

/-! ### Scrub and zeroisation (R250, R255) -/

/-- One scrub pass over the open banks of a stack. -/
def State.scrubPass (s : State) (k : Nat) : State :=
  let x := s.stack k
  let opened (l : Nat) : Bool := !(s.stackBankSt k (l / 2 ^ 23)).shut
  let fixed := x.corrected.filter (fun l => x.written.contains l && opened l)
  let bad := x.uncorrectable.filter (fun l => x.written.contains l && opened l && !x.poisoned.contains l)
  let s := if fixed = [] then s else s.count .stack k 0x00 fixed.length
  let s := s.modStack k (fun y =>
    { y with corrected := y.corrected.filter (fun l => !fixed.contains l), poisoned := bad ++ y.poisoned })
  let s := bad.foldl (fun (s : State) l =>
    let o := (s.bankOwner k (l / 2 ^ 23)).toNat
    let c : Option CtxId := if h : o < 32 then some ⟨o, h⟩ else none
    let s := (s.count .stack k 0x04 1).event 0x4005 c (locStack k (l * 128))
    match c with
    | none => s
    | some c =>
      match s.shardAt c k (l * 128) with
      | some i =>
        if (s.ctx c).sealed i ∧ ((s.ctx c).shard i).st = .valid then s.quarantine c i k (l * 128) else s
      | none => s) s
  (s.count .stack k 0x0C 1).noteBadLines k bad

/-- SCRUB (R255). -/
def execScrub (k : Stk) (s : State) : Host.Outcome State Fault Refusal :=
  .next (if s.stackBad k.val ∨ !s.fillsRun then s.turnAway else (s.scrubPass k.val).ok)

/-- STACK_BANK_ZEROISE (R250): the zeroisation that a change of owner began completes. -/
def execStackBankZeroise (k : Stk) (b : Fin 64) (s : State) : Host.Outcome State Fault Refusal :=
  .next (if (s.stack k.val).zeroising.contains b.val then (s.zeroBank k.val b.val).ok else s.turnAway)

end Sys2Proof.Machine
end

