-- ==== Sys2Proof/Machine/Deliver.lean ====
section
/-! DEFINITION. The commands of the panel networks (R147, R277, R281, R285–R289, R297–R298, R326): packets that
arrive, acknowledgements and re-sends, and synchronisation operations. -/

namespace Sys2Proof.Machine

/-! ### Requests of other panels (R321, R323) -/

/-- The owner of a stack range that exports it to a request of another panel: an entry of its image, or the one
that a reduction group establishes for its staging halves. (DEDUCED, log 60) -/
def State.exportOwner (s : State) (p : Pkt) (k off n : Nat) : Option CtxId :=
  let right := if p.opcode = 0x01 then 0 else 1
  let owns (c : CtxId) : Bool := (s.bankOwner (s.relocated ⟨c, false, .none, 0⟩ k) (off / 2 ^ 30)).toNat == c.val
  let staged (x : GroupRun) : Bool :=
    right == 1 && x.decl.predPanel == p.srcPanel && [x.decl.stage0, x.decl.stage1].any (fun a =>
      decide (bits a.toNat 0 50 ≤ bits p.dest.toNat 0 50)
        && decide (bits p.dest.toNat 0 50 + n ≤ bits a.toNat 0 50 + x.decl.stageBytes))
  allCtx.find? (fun c => owns c
    && (s.fab.exports.any (fun e => e.1 == c && exportHit e.2 p.srcPanel p.ctx right p.dest n)
      || s.fab.group.any (fun g => match g.2 with | some x => x.ctx == c && staged x | none => false)))

/-- The group declaration that admits a RING_GRANT or RING_DONE of another panel. -/
def State.ringAdmits (s : State) (p : Pkt) : Bool :=
  match s.decode p.dest with
  | .here (.engine l 0) =>
    match s.group (groupKey l (p.vc.toNat % 4)) with
    | some x => 4 ≤ p.vc.toNat && (x.decl.predPanel == p.srcPanel || x.decl.succPanel == p.srcPanel)
    | none => false
  | _ => false

/-- The link queue of an XTOKEN is declared on its die. -/
def State.linkDeclared (s : State) (p : Pkt) : Bool :=
  match s.decode p.dest with
  | .here (.engine l 0) => (tget none s.fab.linkq (p.aux.toNat % 4096 * 256 + l.val)).isSome && p.aux.toNat < 4096
  | _ => false

/-- Is a packet of another panel dropped at its ingress, and does that raise fault 0x9020? -/
def State.ingressDrop (s : State) (p : Pkt) : Option Bool :=
  match p.opcode.toNat with
  | 0x05 => some true
  | 0x10 | 0x12 => if s.ringAdmits p then none else some true
  | 0x13 => (match s.decode p.dest with
    | .here (.hub h off) => if h = 0 ∧ off = 0 then none else some true
    | _ => some true)
  | 0x15 => if s.linkDeclared p then none
    else (match s.decode p.dest with
      | .here (.engine _ 0) => some false
      | _ => some true)
  | _ => if opcodeKnown p.opcode then none else some true

/-- A request of another panel at its node: served for the context that exports its target, or DENIED. -/
def State.serveAway (s : State) (at_ : BitVec 12) (p : Pkt) : State :=
  let op : Byte := if p.opcode = 0x01 then 0x02 else 0x04
  match s.decode p.dest with
  | .here (.stack k off) =>
    let n := if p.opcode = 0x01 then p.length.toNat else p.payload.length
    match s.exportOwner p k off n with
    | some c => s.serveReq at_ ⟨c, false, .none, 0⟩ p
    | none => ((s.count .stack k 0x18 1).fault 0x4001 none (locStack k off)).complete at_ p op .denied []
  | _ => (s.fault 0x9020 none (s.dieLoc (s.homeDie at_)) p.srcPanel.toNat).complete at_ p op .denied []

/-! ### Delivery -/

/-- A RING_DATA whose WRITE_DONE failed stays undone: its step waits. -/
def State.noteLost (s : State) (p : Pkt) : State :=
  let r := s.net.pendingReq.find? (fun e => e.2.2.opcode == 0x11 && e.2.2.unit == p.unit && e.2.2.vc == p.vc)
  match r, codeSt p.status.toNat with
  | some _, some .ok | some _, some .bankClosed | none, _ => s
  | some e, _ =>
    match s.logical (s.homeDie e.1) with
    | some l => s.modGroup (groupKey l (p.vc.toNat % 4)) (fun x => { x with lostData := true })
    | none => s

/-- The addresses at which a request acts: a multicast WRITE acts at the destination die, in a scratchpad of each tile of
the group's mask (R292). -/
def State.dests (s : State) (at_ : BitVec 12) (p : Pkt) : List W64 :=
  match toMany p, s.logical (nodeIndex at_) with
  | true, some l =>
    match s.decode (aimDie p.dest l) with
    | .here (.spad l _ off) => (s.mcastTiles (p.aux.toNat % 256) l).map (fun t => (locSpad l.val t.val off).word)
    | _ => [aimDie p.dest l]
  | _, _ => [p.dest]

/-- A packet that its destination has accepted takes effect. -/
def State.deliver (s : State) (at_ : BitVec 12) (p : Pkt) : State :=
  let f := ringFields p.payload
  match p.opcode.toNat, s.logical (s.homeDie at_) with
  | 0x01, _ | 0x03, _ | 0x11, _ =>
    if s.fromAway p then s.serveAway at_ p
    else (s.dests at_ p).foldl (fun (s : State) a => s.serveReq at_ (pktWho p) { p with dest := a }) s
  | 0x02, _ => s.serveData at_ p
  | 0x04, _ =>
    if p.firmware && nodeKind at_ == 2 && p.status != 0 then s.peerDenied p.aux.toNat
    else (s.noteLost p).serveDone at_ p
  | 0x05, _ => s.serveToken at_ p
  | 0x10, some l =>
    s.takeGrant (groupKey l (p.vc.toNat % 4)) f.1 f.2.1 f.2.2.1 f.2.2.2.1 f.2.2.2.2.1 f.2.2.2.2.2
      (leNat ((p.payload.drop 16).take 8))
  | 0x12, some l =>
    s.takeDone (groupKey l (p.vc.toNat % 4)) f.2.2.1 f.2.2.2.1 f.2.2.2.2.1 (leNat ((p.payload.drop 12).take 4))
  | 0x13, _ =>
    let g (o n : Nat) : Nat := leNat ((p.payload.drop o).take n)
    s.servePeer p.srcPanel (BitVec.ofNat 256 (g 32 32)) (g 16 8) (g 12 2) (BitVec.ofNat 64 (g 24 8))
  | 0x14, _ => s.serveShard at_ p
  | 0x15, some l => s.takeXtoken l (p.aux.toNat % 4096) p.srcPanel (tokOf p.sideband p.kind.toNat p.payload)
  | _, _ => s

/-- A packet arrives at a node. -/
def State.arrived (s : State) (at_ : BitVec 12) (p : Pkt) : State :=
  let r := s.accept at_ p
  r.2.foldl (fun (s : State) q => s.deliver at_ q) r.1

/-- A packet command: the packet is of the row's opcode. -/
def State.packetCmd (s : State) (op : Nat) (at_ : BitVec 12) (p : Pkt) : State :=
  if p.opcode.toNat ≠ op then s.turnAway else s.ok.arrived at_ p

/-- READ (R281). -/
def execRead (at_ : BitVec 12) (p : Pkt) (s : State) : Host.Outcome State Fault Refusal := .next (s.packetCmd 0x01 at_ p)
/-- READ_DATA (R281). -/
def execReadData (at_ : BitVec 12) (p : Pkt) (s : State) : Host.Outcome State Fault Refusal :=
  .next (s.packetCmd 0x02 at_ p)
/-- WRITE (R281). -/
def execWrite (at_ : BitVec 12) (p : Pkt) (s : State) : Host.Outcome State Fault Refusal :=
  .next (s.packetCmd 0x03 at_ p)
/-- WRITE_DONE (R281). -/
def execWriteDone (at_ : BitVec 12) (p : Pkt) (s : State) : Host.Outcome State Fault Refusal :=
  .next (s.packetCmd 0x04 at_ p)
/-- TOKEN (R148, R281). -/
def execToken (at_ : BitVec 12) (p : Pkt) (s : State) : Host.Outcome State Fault Refusal :=
  .next (s.packetCmd 0x05 at_ p)

/-- The node of this panel that a packet's dest names; the hub's for hub space. -/
def State.pktNode (s : State) (p : Pkt) : BitVec 12 := (s.destNode (pktWho p) p.dest).getD nodeAway

/-- A packet row whose node its dest names. -/
def State.packetTo (s : State) (op : Nat) (p : Pkt) : State :=
  if p.opcode.toNat ≠ op ∨ s.pktNode p = nodeAway then s.turnAway else s.ok.arrived (s.pktNode p) p

/-- RING_DATA (R326). -/
def execRingData (p : Pkt) (s : State) : Host.Outcome State Fault Refusal := .next (s.packetTo 0x11 p)
/-- SHARD_DATA (R324, R326). -/
def execShardData (p : Pkt) (s : State) : Host.Outcome State Fault Refusal := .next (s.packetTo 0x14 p)
/-- XTOKEN (R325, R326): an undeclared link queue drops it. -/
def execXtoken (p : Pkt) (s : State) : Host.Outcome State Fault Refusal :=
  .next (if p.opcode.toNat ≠ 0x15 ∨ s.pktNode p = nodeAway then s.turnAway
    else if !s.linkDeclared p then (s.count .fabric (bits p.dest.toNat 37 3) 0x1C 1).ok
    else s.ok.arrived (s.pktNode p) p)

/-! ### Routers and regulators -/

/-- ROUTER_FORWARD (R277, R290). -/
def execRouterForward (d : Die) (p : Pkt) (s : State) : Host.Outcome State Fault Refusal := .next (s.forward d.val p).ok

/-- REGULATOR_RELEASE (R285): the first packet that waits leaves when the bucket holds its flit bytes. -/
def execRegulatorRelease (d : Die) (vc : Fin 8) (prio : Fin 4) (s : State) : Host.Outcome State Fault Refusal :=
  let key := d.val * 24 + vc.val * 3 + (prio.val - 1)
  let r := tget {} s.net.reg key
  .next (match r.held with
    | [] => s.turnAway
    | p :: rest =>
      match r.fillsAt (pktFlits p) with
      | none => s.turnAway
      | some t =>
        if prio = 0 then s.turnAway else
        let s := s.notBefore t
        let s := { s with net := { s.net with
          reg := tset {} s.net.reg key { r with held := rest, level := r.fill s.now - pktFlits p, last := s.now } } }
        (s.leave p.srcNode ((s.destNode (pktWho p) p.dest).getD nodeAway) p).ok)

/-! ### Acknowledgements (R287, R289) -/

/-- ACK (R287). -/
def execAck (src dst : BitVec 12) (vc : Fin 8) (seq : W32) (s : State) : Host.Outcome State Fault Refusal :=
  .next (match s.copyOf src dst vc.val seq with
    | some x => (s.acked x).ok
    | none => s.turnAway)

/-- RESEND_TIMEOUT (R287, R289): no ACK 5 µs after sending, or 50 µs toward another panel. -/
def execResendTimeout (src dst : BitVec 12) (vc : Fin 8) (seq : W32) (s : State) :
    Host.Outcome State Fault Refusal :=
  .next (match s.copyOf src dst vc.val seq with
    | none => s.turnAway
    | some x =>
      let s := s.notBefore (x.sentAt + (if dst = nodeAway then 50000 else 5000))
      if x.sends < 8 then (s.resend x).ok
      else ((s.pathFault x).status .pathFault))

/-- PATH_TEST (R289): the lanes that fail become records, and ports out of service change the routes. -/
def execPathTest (src dst : BitVec 12) (lanes : List W32) (s : State) : Host.Outcome State Fault Refusal :=
  let l := lanes.filter (fun w => recKind w = 2)
  .next (if l = [] then s.turnAway
    else
      let before := s.portsOut l
      let s := (s.addLanes l).event 0x5003 none (s.dieLoc (s.homeDie src)) (netDetail src dst 0)
      (if s.portsOut l = before then s else s.reroute).ok)

/-- QCREDIT (R147): credits of a queue come back to its producer. -/
def execQcredit (d : LDie) (q : Fin 448) (n : Nat) (s : State) : Host.Outcome State Fault Refusal :=
  .next (if (s.queue (queueKey d q.val)).decl.isSome then
      (s.modQueue (queueKey d q.val) (fun x => x.taken n)).ok
    else s.turnAway)

/-! ### Synchronisation operations (R297) -/

/-- The operand of an operation is in range. -/
def State.syncOperandOk (s : State) (op : Nat) (v : W64) : Bool :=
  match op with
  | 3 => bits v.toNat 0 8 != 0
  | 7 => s.linkOperand v
  | _ => true

/-- An operation at the cell that it names, which another panel's enters the log. -/
def State.syncServe (s : State) (r : SyncReq) (op : Nat) (v : W64) : State × SyncOut :=
  let f : Nat → State → State × SyncOut := fun k s =>
    let s := s.logSync r op k v
    match op with
    | 0 => syncRead k s
    | 1 => syncWrite r v k s
    | 2 => syncInit v k s
    | 3 => syncArrive v k s
    | 4 => syncWait r v k s
    | 5 => syncFetchAdd v k s
    | 6 => syncCas v k s
    | 7 => syncLink r v k s
    | _ => syncReadLink k s
  if 9 ≤ op then s.syncBad r none else s.syncOp r op (s.syncOperandOk op v) f

/-- A sync command: an operation on a cell of another panel leaves over the fabric. -/
def State.syncCmd (s : State) (r : SyncReq) (op : Nat) (v : W64) : State :=
  match s.decode r.addr with
  | .remote _ _ _ =>
    if s.panelReachable r.addr then
      (s.fabricOut (s.homeDie r.node) r.addr (.sync (BitVec.ofNat 4 op) { r with panel := s.srcPanel } v)).ok
    else
      { (s.fault 0x9015 (syncCtx r) (s.dieLoc (s.homeDie r.node)) r.node.toNat) with answer := .word .unreachable 0 }
  | _ => syncAnswer r (s.syncServe r op v)

/-- SYNC_READ (R297). -/
def execSyncRead (r : SyncReq) (s : State) : Host.Outcome State Fault Refusal := .next (s.syncCmd r 0 0)
/-- SYNC_WRITE (R297). -/
def execSyncWrite (r : SyncReq) (v : W64) (s : State) : Host.Outcome State Fault Refusal := .next (s.syncCmd r 1 v)
/-- INIT (R297). -/
def execInit (r : SyncReq) (v : W64) (s : State) : Host.Outcome State Fault Refusal := .next (s.syncCmd r 2 v)
/-- ARRIVE (R297, R298). -/
def execArrive (r : SyncReq) (v : W64) (s : State) : Host.Outcome State Fault Refusal := .next (s.syncCmd r 3 v)
/-- WAIT (R297). -/
def execWait (r : SyncReq) (v : W64) (s : State) : Host.Outcome State Fault Refusal := .next (s.syncCmd r 4 v)
/-- FETCH_ADD (R297). -/
def execFetchAdd (r : SyncReq) (v : W64) (s : State) : Host.Outcome State Fault Refusal := .next (s.syncCmd r 5 v)
/-- CAS (R297). -/
def execCas (r : SyncReq) (v : W64) (s : State) : Host.Outcome State Fault Refusal := .next (s.syncCmd r 6 v)
/-- LINK (R297). -/
def execLink (r : SyncReq) (v : W64) (s : State) : Host.Outcome State Fault Refusal := .next (s.syncCmd r 7 v)
/-- READ_LINK (R297). -/
def execReadLink (r : SyncReq) (s : State) : Host.Outcome State Fault Refusal := .next (s.syncCmd r 8 0)

/-- RELEASE (R298): the pending children of a parent at a die or hub fire. -/
def execRelease (at_ : BitVec 12) (parent : W64) (s : State) : Host.Outcome State Fault Refusal :=
  .next (match nodeKind at_ with
    | 0 => (match s.logical (nodeIndex at_) with
      | some l => (s.releaseAt (dieCells l.val) 512 parent).ok
      | none => s.turnAway)
    | 2 => if nodeIndex at_ < 2 then (s.releaseAt (hubCells (nodeIndex at_)) 4096 parent).ok else s.turnAway
    | _ => s.turnAway)

end Sys2Proof.Machine
end

