-- ==== Sys2Proof/Machine/Fab.lean ====
section
/-! DEFINITION. The links of the fabric (R304–R321): their states, keys, frames, lane groups, margins and the
down-link map. -/

namespace Sys2Proof.Machine

/-! ### Link states (R307, R308) -/

/-- A vent die can carry a link: its dimension is used, its attached die and its supply are good (R307). -/
def State.ventUsable (s : State) (v : Nat) : Bool :=
  s.dimUsed v && !(s.vent v).fwHeld && s.domOn (468 + v) && !s.dieBad (ventDie v)
    && !s.anat.detached.contains (ventDie v) && !s.anat.fencedVents.contains v
    && s.portOk (ventDie v) (ventPort v)

/-- A link begins R308: lasers on, no keys. -/
def State.beginTrain (s : State) (v : Nat) : State :=
  s.modVent v (fun x =>
    { x with
      st := .train, keyed := false, rekeying := false, newKeys := false, oldUntil := none, gcmFails := []
      txPhase := false, rxPhase := false, txCtr := 0, rxCtr := 0, rxOld := 0, credits := [], waiting := [] })

/-- A link leaves UP for TRAIN: event 0x9001, link_downs, and the down-link map. -/
def State.linkDown (s : State) (v : Nat) : State :=
  (((s.event 0x9001 none (locVent v) (s.ventDetail v 0)).count .fabric v 0x28 1).beginTrain v).noteDirection v

/-- A link enters FAULT, and is retried later. (DEDUCED, log 61) -/
def State.linkFault (s : State) (v sec : Nat) : State :=
  s.modVent v (fun x => { x with st := .fault, keyed := false, retryAt := s.now + sec * 1000000000 })

/-- LINK_ENABLE (R308): a vent die is enabled. -/
def execLinkEnable (v : Vent) (s : State) : Host.Outcome State Fault Refusal :=
  .next (if (s.vent v.val).st = .off ∧ s.ventUsable v.val then (s.beginTrain v.val).ok else s.turnAway)

/-- Groups in service. -/
def groupCount (b : Byte) : Nat := ((List.range 8).filter (fun i => b.toNat.testBit i)).length

/-- TRAIN_COMPLETE (R305, R308): the groups in service are fixed; fewer than two on a side are a failure. -/
def execTrainComplete (v : Vent) (tx rx : Byte) (s : State) : Host.Outcome State Fault Refusal :=
  .next (if (s.vent v.val).st ≠ .train then s.turnAway
    else
      let out (side : Bool) (m : Byte) : List (Bool × Nat × Nat) :=
        ((List.range 8).filter (fun i => !m.toNat.testBit i)).map (fun i => (side, i, s.now))
      let s := s.modVent v.val (fun x => { x with tx := tx, rx := rx, groupOut := out true tx ++ out false rx })
      if 2 ≤ groupCount tx ∧ 2 ≤ groupCount rx then (s.modVent v.val (fun x => { x with st := .keyx })).ok
      else (s.linkFault v.val 10).ok)

/-! ### Key exchange (R311, R312) -/

/-- The coordinate word of the neighbour that R306 names. -/
def State.neighbourWord (s : State) (v : Nat) : BitVec 14 :=
  let q := s.neighbour (v / 8)
  BitVec.ofNat 14 (q.1 * 512 + q.2.1 * 16 + q.2.2)

/-- A coordinate in the panel_coord form (R339). -/
def coordWord (p : BitVec 14) : W16 :=
  BitVec.ofNat 16 (bits p.toNat 9 5 + bits p.toNat 4 5 * 2 ^ 5 + bits p.toNat 0 4 * 2 ^ 10)

/-- The facing vent die. -/
def facing (v : Nat) : Nat := Nat.xor (v / 8) 1 * 8 + v % 8

/-- Admission of a peer: fault 0x9012 or 0x9013 ends in FAULT; success holds the keys of the exchange. (DEDUCED, log 59) -/
def State.admitPeer (s : State) (v : Nat) (k : KeyxIn) : State :=
  if !k.sigOk ∨ k.ownerHash ≠ s.sec.ownerKeys.headD 0 then
    (s.fault 0x9012 none (locVent v) (v + k.coord.toNat * 2 ^ 16)).linkFault v 60
  else if k.coord ≠ s.neighbourWord v ∨ k.ventIdx ≠ facing v then
    (s.fault 0x9013 none (locVent v) (v + k.coord.toNat * 2 ^ 16)).linkFault v 60
  else s.modVent v (fun x => { x with peer := coordWord k.coord, keyed := true, newKeys := x.st == .up })

/-- KEYX (R311): the peer's exchange arrives, in KEYX or while the link is UP (R312). -/
def execKeyx (v : Vent) (k : KeyxIn) (s : State) : Host.Outcome State Fault Refusal :=
  .next (match (s.vent v.val).st with
    | .keyx => (s.admitPeer v.val k).ok
    | .up =>
      let t := (s.modVent v.val (fun x => { x with rekeying := true })).admitPeer v.val k
      (if (t.vent v.val).st = .up then t else t.noteDirection v.val).ok
    | _ => s.turnAway)

/-- KEYX_COMPLETE (R308, R311, R312): the first keys come into force, or the sender changes to the new ones. -/
def execKeyxComplete (v : Vent) (s : State) : Host.Outcome State Fault Refusal :=
  let x := s.vent v.val
  .next (
    if x.st = .keyx ∧ x.keyed then
      ((s.modVent v.val (fun x =>
        { x with st := .up, keyedAt := s.now, txCtr := 0, rxCtr := 0, txPhase := false, rxPhase := false })).noteDirection
        v.val).ok
    else if x.st = .up ∧ x.rekeying ∧ x.keyed then
      ((s.modVent v.val (fun x => { x with rekeying := false, txPhase := !x.txPhase, txCtr := 0, keyedAt := s.now })).count
        .fabric v.val 0x10 1).ok
    else s.turnAway)

/-- REKEY (R312): a key is as old as rekey_interval, or a counter has reached 2^40. -/
def execRekey (v : Vent) (s : State) : Host.Outcome State Fault Refusal :=
  let x := s.vent v.val
  .next (
    if x.st = .up ∧ !x.rekeying then
      let s := if 2 ^ 40 ≤ x.txCtr ∨ 2 ^ 40 ≤ x.rxCtr then s
        else s.notBefore (x.keyedAt + s.obj 0x7001 0x01 * 1000000000)
      ((s.modVent v.val (fun x => { x with rekeying := true, keyed := false })).sendFrame v.val false s.srcPanel
        s.srcPanel .keyx).ok
    else s.turnAway)

/-- LINK_RETRY (R307): a FAULT's time has passed. -/
def execLinkRetry (v : Vent) (s : State) : Host.Outcome State Fault Refusal :=
  .next (if (s.vent v.val).st = .fault ∧ s.ventUsable v.val then
      (((s.notBefore (s.vent v.val).retryAt).beginTrain v.val).modVent v.val (fun x => { x with retries := x.retries + 1 })).ok
    else s.turnAway)

/-! ### Lane groups and margins (R305, R314) -/

/-- A side's groups. -/
def VentS.groups (x : VentS) (tx : Bool) : Byte := if tx then x.tx else x.rx

/-- A group leaves or returns: event 0x9002 and group_changes. -/
def State.setGroup (s : State) (v : Nat) (tx : Bool) (f : Nat) (on : Bool) : State :=
  let old := ((s.vent v).groups tx).toNat
  let bit := 2 ^ f
  let new : Byte := BitVec.ofNat 8 (if on then old + (if old.testBit f then 0 else bit) else old - (if old.testBit f then bit else 0))
  let s := s.modVent v (fun x =>
    { x with
      tx := if tx then new else x.tx
      rx := if tx then x.rx else new
      groupOut := (if on then [] else [(tx, f, s.now)]) ++ x.groupOut.filter (fun g => !(g.1 == tx && g.2.1 == f)) })
  (s.count .fabric v 0x24 1).event 0x9002 none (locVent v) (s.ventDetail v f)

/-- LANE_GROUP_OUT (R305): a group goes out of service; a side with fewer than two takes the link DOWN. -/
def execLaneGroupOut (v : Vent) (tx : Bool) (f : Fin 8) (s : State) : Host.Outcome State Fault Refusal :=
  let x := s.vent v.val
  .next (if (x.st ≠ .up ∧ x.st ≠ .keyx) ∨ !(x.groups tx).toNat.testBit f.val then s.turnAway
    else
      let s := s.setGroup v.val tx f.val false
      if 2 ≤ groupCount ((s.vent v.val).groups tx) then s.ok
      else if x.st = .up then (s.linkDown v.val).ok
      else (s.beginTrain v.val).ok)

/-- GROUP_RETRAIN (R305): every 60 s; a group with 10 s of a good ratio returns. -/
def execGroupRetrain (v : Vent) (tx : Bool) (f : Fin 8) (good : Bool) (s : State) :
    Host.Outcome State Fault Refusal :=
  .next (match (s.vent v.val).groupOut.find? (fun g => g.1 == tx && g.2.1 == f.val) with
    | none => s.turnAway
    | some g =>
      if (s.vent v.val).st ≠ .up then s.turnAway else
      let s := s.notBefore (g.2.2 + 60000000000)
      if good then (s.setGroup v.val tx f.val true).ok
      else
        (s.modVent v.val (fun x =>
          { x with groupOut := (tx, f.val, s.now) :: x.groupOut.filter (fun y => !(y.1 == tx && y.2.1 == f.val)) })).ok)

/-- A lane's margins cross a threshold: receive power, laser bias against the calibration table, ratio. -/
def State.laneBad (s : State) (v : Nat) (l : LaneIn) : Bool :=
  decide (l.rxPower.toInt < -600) || decide (12 * s.cal 8 (v * 32 + l.lane.val) < 10 * (l.laserBias.toNat : Int))
    || flt 0x3727C5AC l.ber

/-- MARGIN_REFRESH (R314): the records, and event 0x9003 at most once per lane and hour. -/
def execMarginRefresh (v : Vent) (lanes : List LaneIn) (s : State) : Host.Outcome State Fault Refusal :=
  .next (if (s.vent v.val).st = .off then s.turnAway
    else
      (lanes.foldl (fun (s : State) l =>
        let s := s.modVent v.val (fun x => { x with
          lanes := tset ⟨0, 0, 0, 0, 0, 0⟩ x.lanes l.lane.val l })
        let last := (s.vent v.val).laneEvent.find? (fun p => p.1 == l.lane.val)
        let due := match last with
          | some p => decide (p.2 + 3600000000000 ≤ s.now)
          | none => true
        if s.laneBad v.val l && due then
          (s.event 0x9003 none (locVent v.val) (s.ventDetail v.val l.lane.val)).modVent v.val (fun x => { x with
            laneEvent := (l.lane.val, s.now) :: x.laneEvent.filter (fun p => p.1 != l.lane.val) })
        else s) s).ok)

/-! ### Credits and messages (R310, R316) -/

/-- Frames that wait go out while credits last. -/
def State.drainWaiting (s : State) (v : Nat) : Nat → State
  | 0 => s
  | n + 1 =>
    let x := s.vent v
    match x.waiting with
    | [] => s
    | (dl, src, dest, b) :: rest =>
      let need := (bodyBytes b + 63) / 64
      let c := (bodyClass dl b).getD 0
      if need ≤ x.credit c then
        ((s.modVent v (fun y =>
          { y with waiting := rest, credits := tset (fullCredits c) y.credits c (y.credit c - need) })).putFrame
          v dl src dest b).drainWaiting v n
      else s

/-- Receive-buffer credits of a class come back. (DEDUCED, log 58) -/
def State.takeCredit (s : State) (v cls units : Nat) : State :=
  (s.modVent v (fun x =>
    { x with credits := tset (fullCredits cls) x.credits cls (min (fullCredits cls) (x.credit cls + units)) })).drainWaiting
    v (s.vent v).waiting.length

/-- CREDIT (R310). -/
def execCredit (v : Vent) (cls : Fin 32) (units : Nat) (s : State) : Host.Outcome State Fault Refusal :=
  .next (if (s.vent v.val).st = .up ∧ cls.val < 22 then (s.takeCredit v.val cls.val units).ok else s.turnAway)

/-- LINKSTATE (R316): a panel's direction has lost or regained its last UP vent die. -/
def execLinkstate (panel : W16) (dir : Fin 6) (up : Bool) (s : State) : Host.Outcome State Fault Refusal :=
  .next (s.setDown panel dir.val up (locHub 0)).ok

/-! ### Frames (R309, R313, R315–R321) -/

/-- A frame fails its tag or its counter: gcm_failures, and the 65th of a second retrains the link. -/
def State.gcmFailed (s : State) (v : Nat) : State :=
  let recent := s.now :: (s.vent v).gcmFails.filter (fun t => decide (s.now < t + 1000000000))
  let s := (s.count .fabric v 0x0C 1).modVent v (fun x => { x with gcmFails := recent })
  if 64 < recent.length then (s.fault 0x9010 none (locVent v) (s.ventDetail v 0)).linkDown v else s

/-- The receive state under which a frame is accepted; none where its tag or counter fails (R312, R313). -/
def VentS.takeFrame (x : VentS) (now : Nat) (f : LinkFrame) : Option VentS :=
  if !f.tagOk then none
  else if f.phase = x.rxPhase then
    if x.rxCtr ≤ f.counter.toNat then some { x with rxCtr := f.counter.toNat + 1 } else none
  else if x.newKeys then
    some { x with
      newKeys := false, rxPhase := f.phase, rxOld := x.rxCtr, rxCtr := f.counter.toNat + 1
      oldUntil := some (now + 1000000) }
  else
    match x.oldUntil with
    | some t =>
      if now < t ∧ x.rxOld ≤ f.counter.toNat then some { x with rxOld := f.counter.toNat + 1 } else none
    | none => none

/-- A src_panel is this panel's, or lies outside the dimensions (R315). -/
def State.badSource (s : State) (p : BitVec 14) : Bool :=
  p == s.srcPanel || decide (s.dims.1 ≤ bits p.toNat 9 5) || decide (s.dims.2.1 ≤ bits p.toNat 4 5)
    || decide (s.dims.2.2 ≤ bits p.toNat 0 4)

/-- A frame for another panel goes on: the first dimension in which it has not arrived, in the sign it was given,
from the arriving index on; or it is dropped. -/
def State.transit (s : State) (v : Nat) (f : LinkFrame) : State :=
  let q := (bits f.destPanel.toNat 9 5, bits f.destPanel.toNat 4 5, bits f.destPanel.toNat 0 4)
  let go (i : Nat) (neg : Bool) : State :=
    let dir := 2 * i + (if neg then 1 else 0)
    match s.ventFor dir (v % 8) with
    | none => s.count .fabric v 0x18 1
    | some o =>
      (s.count .fabric v 0x14 1).sendFrame o ((f.dateline && v / 16 == i) || s.dateline dir) f.srcPanel f.destPanel f.body
  if q.1 ≠ s.coord.1 then go 0 f.negX
  else if q.2.1 ≠ s.coord.2.1 then go 1 f.negY
  else go 2 f.negZ

/-- The copy that a control acknowledgement of another panel names. -/
def State.awayCopy (s : State) (panel : BitVec 14) (vc seq : Nat) : Option SrcCopy :=
  s.net.copies.find? (fun c => c.dst == nodeAway && c.vc == vc && c.seq.toNat % 2 ^ 16 == seq && addrPanel c.pkt.dest == panel)

/-- QCREDIT of a link queue at its EGRESS port (R325). -/
def State.linkCredit (s : State) (lq n : Nat) : State :=
  match s.flow.unit.find? (fun p => match p.2.active.cfg with
    | some g => (match g.op with | .egress q _ _ => q.val == lq | _ => false)
    | none => false) with
  | some (k, _) => s.modUnit k (fun x => { x with lqCredits := x.lqCredits + n })
  | none => s

/-- Fault 0x9020 of an ingress vent die. -/
def State.ingressFault (s : State) (v : Nat) (panel : BitVec 14) : State :=
  s.fault 0x9020 none (locVent v) (v + panel.toNat * 2 ^ 16)

/-- A bulk packet of another panel at its ingress: requests reach stack space alone, and any other is answered DENIED
(R321). -/
def State.ingress (s : State) (v : Nat) (p : Pkt) : State :=
  match s.ingressDrop p with
  | some f => (if f then s.ingressFault v p.srcPanel else s).count .fabric v 0x1C 1
  | none =>
    let request := p.opcode = 0x01 ∨ p.opcode = 0x03 ∨ p.opcode = 0x11 ∨ p.opcode = 0x14
    let stack := match s.decode p.dest with | .here (.stack _ _) => true | _ => false
    match s.destNode (pktWho p) p.dest with
    | some n =>
      if request ∧ !stack then
        (s.ingressFault v p.srcPanel).complete (nodeVent v) p (if p.opcode = 0x01 then 0x02 else 0x04) .denied []
      else s.arrived n p
    | none =>
      if request then
        (s.ingressFault v p.srcPanel).complete (nodeVent v) p (if p.opcode = 0x01 then 0x02 else 0x04) .denied []
      else s.count .fabric v 0x1C 1

/-- A sync operation of another panel at its ingress: one that R321 does not list, that names no cell or whose cell is not
exported to its panel is refused. -/
def State.ingressSync (s : State) (v : Nat) (op : Nat) (r : SyncReq) (w : W64) : State :=
  match s.decode r.addr with
  | .here (.cell k) =>
    if s.syncExported r op k then syncAnswer r (s.syncServe r op w)
    else syncAnswer r (s.ingressFault v r.panel, .resp .notOwned 0)
  | _ => syncAnswer r (s.ingressFault v r.panel, .resp .notOwned 0)

/-- The body of an accepted frame that is for this panel. -/
def State.takeBody (s : State) (v : Nat) (f : LinkFrame) : State :=
  match f.body with
  | .bulk p => s.ingress v p
  | .control op _ field =>
    match op.toNat with
    | 0x01 =>
      match s.awayCopy f.srcPanel (bits field.toNat 16 3) (bits field.toNat 0 16) with
      | some x => s.acked x
      | none => s
    | 0x02 => s.linkCredit (bits field.toNat 0 12) (bits field.toNat 12 7)
    | _ => s
  | .sync op r w => s.ingressSync v op.toNat { r with panel := f.srcPanel } w
  | .syncResp r st w => { s.send (.sync r.node r.seq st w) with answer := .word st w }
  | .credit c n => s.takeCredit v c n
  | .keyx => s
  | .linkstate p d up => s.setDown p d.toNat up (locVent v)

/-- Link messages end at the neighbour. -/
def isMessage : FrameBody → Bool
  | .credit _ _ | .keyx | .linkstate _ _ _ => true
  | _ => false

/-- FRAME_RX (R309, R313): FEC, tag and counter; then the message, the transit or the ingress. The receiver
returns the frame's credits. -/
def execFrameRx (v : Vent) (f : LinkFrame) (s : State) : Host.Outcome State Fault Refusal :=
  .next (if (s.vent v.val).st ≠ .up then s.turnAway
    else if !f.fecOk then (s.count .fabric v.val 0x08 1).ok
    else match (s.vent v.val).takeFrame s.now f with
      | none => (s.gcmFailed v.val).ok
      | some x =>
        let s := ((s.modVent v.val (fun _ => x)).count .fabric v.val 0x04 1).countHigh .fabric v.val 0x30 (32 + f.length)
        let s := match bodyClass f.dateline f.body with
          | some c => s.sendFrame v.val false s.srcPanel s.srcPanel (.credit c ((f.length + 63) / 64))
          | none => s
        let s := s.ok
        if isMessage f.body then s.takeBody v.val f
        else if s.badSource f.srcPanel then s.count .fabric v.val 0x1C 1
        else if f.destPanel = s.srcPanel then s.takeBody v.val f
        else s.transit v.val f)

end Sys2Proof.Machine
end

