-- ==== Sys2Proof/Machine/Start.lean ====
section
/-! DEFINITION. Start-up (chapter 16): cold, warm and trial starts, self-test, calibration, firmware
slots and updates. -/

namespace Sys2Proof.Machine

/-! ### Firmware slots (R410–R413, R509–R512) -/

/-- Slot k (0 or 1) of a component. -/
def State.fw (s : State) (c k : Nat) : FwSlot := tget {} s.boot.fw (c * 2 + k)

/-- A firmware slot becomes f of itself. -/
def State.modFw (s : State) (c k : Nat) (f : FwSlot → FwSlot) : State :=
  { s with boot := { s.boot with fw := tmod {} s.boot.fw (c * 2 + k) f } }

/-- Every slot in state a passes to state b. -/
def State.fwAll (s : State) (a b : Nat) : State :=
  { s with boot := { s.boot with
      fw := tmap (fun _ (x : FwSlot) => if x.st = a then { x with st := b } else x) s.boot.fw } }

/-- The signed components of the panel: 1 to 5, and 6 on QP12-LC-HA (R410). -/
def State.components (s : State) : List Nat :=
  if s.anat.consigned then [1, 2, 3, 4, 5] else [1, 2, 3, 4, 5, 6]

/-- The anti-rollback value of a component (R402). -/
def State.rollback (s : State) (c : Nat) : Nat := tget 0 s.sec.rollback c

/-- R411 for an image: none, or the code of its refusal. (DEDUCED, log 79) -/
def State.fwCheck (s : State) (i : FwImage) : Option W16 :=
  if s.sec.revoked.toNat.testBit (i.slot.toNat % 8) || 7 < i.slot.toNat
      || i.keyHash != tget 0 s.sec.vendor i.slot.toNat then some 0x7002
  else if !(i.sig.edOk && i.sig.mldsaOk && i.sig.canonical && i.sig.keyHash == i.keyHash)
      || !i.bodyOk then some 0x7001
  else if i.svn.toNat < s.rollback i.component.toNat || 64 < i.svn.toNat then some 0x7003
  else if s.sec.owned && !s.sec.approvals.contains (i.component, i.digest) then some 0x7004
  else none

/-- An installed slot still passes R411; a committed image stands approved by its commit. -/
def State.slotOk (s : State) (c k : Nat) : Bool :=
  let x := s.fw c k
  x.ok && !s.sec.revoked.toNat.testBit (x.signer.toNat % 8) && s.rollback c ≤ x.svn.toNat
    && (x.st != 2 || !s.sec.owned || s.sec.approvals.contains (BitVec.ofNat 8 c, x.digest))

/-- The slot of a component in a state, if any. -/
def State.slotIn (s : State) (c st : Nat) : Option Nat :=
  [0, 1].find? (fun k => (s.fw c k).st == st)

/-- A TRIAL set is installed. -/
def State.trialSet (s : State) : Bool := s.boot.fw.any (fun p => p.2.st == 2)

/-- The TRIAL set fails: every slot of it FAILED, with event 0x7014 (R511). -/
def State.failTrial (s : State) : State :=
  let s := { s.fwAll 2 5 with boot := { (s.fwAll 2 5).boot with trialCut := 0 } }
  s.event 0x7014 none (locHub 0)

/-- The TRIAL set commits (R511): TRIAL to ACTIVE, ACTIVE to FALLBACK or STALE, anti-rollback values
rise (R412), approvals are consumed (R416), and event 0x7016 is raised. -/
def State.commitTrial (s : State) : State :=
  let cs := s.components.filter (fun c => (s.slotIn c 2).isSome)
  let s := cs.foldl (fun (s : State) c =>
    match s.slotIn c 2 with
    | some k =>
      let t := s.fw c k
      let v := max (s.rollback c) t.svn.toNat
      let s := { s with sec := { s.sec with
        rollback := tset 0 s.sec.rollback c v
        approvals := s.sec.approvals.filter (fun a => a != (BitVec.ofNat 8 c, t.digest)) } }
      let s := s.modFw c (1 - k) (fun x =>
        if x.st = 3 then { x with st := if x.svn.toNat < v then 6 else 4 } else x)
      s.modFw c k (fun x => { x with st := 3 })
    | none => s) s
  let s := { s with boot := { s.boot with trialCut := 0 } }
  s.event 0x7016 none (locHub 0)

/-- R512 for one component outside a trial: ACTIVE, else FALLBACK with the failed slot marked. The
second part says whether the component has a loadable slot. -/
def State.loadComponent (s : State) (c : Nat) : State × Bool :=
  match s.slotIn c 3 with
  | some k =>
    if s.slotOk c k then (s, true)
    else
      let s := s.modFw c k (fun x => { x with st := 5 })
      match s.slotIn c 4 with
      | some j => if s.slotOk c j then (s.event 0x7014 none (locHub 0) c, true) else (s, false)
      | none => (s, false)
  | none =>
    match s.slotIn c 4 with
    | some j => (s, s.slotOk c j)
    | none => (s, false)

/-! ### Starts (R496–R504) -/

/-- Input power in 48–58 V (R497). -/
def State.inputOk (s : State) : Bool := 48000 ≤ s.pwr.inputMv && s.pwr.inputMv ≤ 58000

/-- The states in which R496 and R486 admit COLD_START. -/
def State.coldOk (s : State) : Bool :=
  match s.st with
  | .off => s.inputOk
  | .idle | .run | .safe | .quenched => true
  | _ => false

/-- The RWS objects (R479): node identifiers and UDP port, power_on_start, coordinate and dimensions. (DEDUCED, log 104) -/
def rwsKeys : List Nat := [0x110003, 0x110004, 0x110005, 0x200006, 0x700001, 0x700002]

/-- The stored value of an RWS object. -/
def State.storedObj (s : State) (k : Nat) : Nat := tget (objDefaultAt (k / 256) (k % 256)) s.stored k

/-- The stored values of RWS objects come into force (R481). -/
def State.applyStored (s : State) (d : Tbl Nat) : Tbl Nat :=
  rwsKeys.foldl (fun d k => tset (objDefaultAt (k / 256) (k % 256)) d k (s.storedObj k)) d

/-- Each row that holds one of the lines is served by a DRAM spare row, up to 64 of a channel (R255). The repair copies
every line of the row, so no content, written flag or poisoned flag changes. -/
def StackS.repair (x : StackS) (lines : List Nat) : StackS :=
  lines.foldl (fun (x : StackS) l =>
    let rows := tget [] x.spares (l % 32)
    if rows.length < 64 then { x with spares := tset [] x.spares (l % 32) (insertNew (Config.dramRow l) rows) } else x) x

/-- A channel has used all its spare rows (R255). -/
def StackS.spent (x : StackS) : Bool := x.spares.any (fun p => decide (64 ≤ p.2.length))

/-- What a start keeps of a stack (R498): the rows repaired, its poisoned lines' now among them, and in a warm start the
metadata of bank 63's lines. -/
def StackS.started (x : StackS) (cold : Bool) : StackS :=
  let keep (l : List Nat) : List Nat := if cold then [] else l.filter (inBank 63)
  { spares := (x.repair x.poisoned).spares
    written := keep x.written, poisoned := keep x.poisoned, uncorrectable := keep x.uncorrectable
    corrected := keep x.corrected, reported := keep x.reported
    raw := if cold then [] else x.raw.filter (fun p => inBank 63 p.1) }

/-- What a start leaves of the state (R498): everything volatile goes; identity, defect records,
calibration, firmware, trust and the persistent log stay; a warm start also keeps the scalar objects,
the obsidian slots, bank 63 of every stack, and what is disabled until a cold start. (DEDUCED, log 76) -/
def State.startClear (s : State) (cold : Bool) : State :=
  { State.reset with
    st := .boot
    log := { persistent := s.log.persistent, holdup := s.log.holdup, alert := s.log.alert }
    anat := { State.reset.anat with
      serial := s.anat.serial, consigned := s.anat.consigned, macA := s.anat.macA, macB := s.anat.macB, identity := s.anat.identity
      factory := s.anat.factory
      field := if cold && s.anat.clearScheduled then [] else s.anat.field
      unstored := if cold then [] else s.anat.unstored
      clearScheduled := !cold && s.anat.clearScheduled }
    dict := s.applyStored (if cold then [] else s.dict)
    stored := s.stored
    stackMem := if cold then [] else s.stackMem.filter (fun p => p.1 % 2 ^ 36 / 2 ^ 30 == 63)
    stk := { stack := s.stk.stack.map (fun p => (p.1, p.2.started cold))
             accepted := s.stk.accepted }
    clk := { State.reset.clk with
      crystalOk := s.clk.crystalOk
      slot0 := if cold then none else s.clk.slot0
      slot1 := if cold then none else s.clk.slot1
      records0 := if cold then [] else s.clk.records0
      records1 := if cold then [] else s.clk.records1
      newest := if cold then 0xFF else s.clk.newest }
    pwr := { s.pwr with
      allOn := false, except := [], waiting := [], group := []
      fuseOpen := if cold then [] else s.pwr.fuseOpen
      phase := if cold then [] else s.pwr.phase
      capW := 66000, capSource := 0, lowSince := none, foldback := false
      boostUntil := [], rowsUntil := 0, minMv := [], diePower := [] }
    thm := { State.reset.thm with
      samples := s.thm.samples, used := s.thm.used, timeout := s.thm.timeout
      below40 := s.thm.below40
      flowReq := BitVec.ofNat 32 (tget (objDefaultAt 0x3201 2) (if cold then [] else s.dict) 0x320102) }
    sec := { s.sec with
      reports := [], debug := 0, draws := s.sec.draws + 2
      claimNonce := Config.draw s.sec.draws
      challenge := Config.draw (s.sec.draws + 1)
      root := if cold then 0 else s.sec.root, coresLost := if cold then [] else s.sec.coresLost
      storage := if cold then s.sec.storage + 1 else s.sec.storage }
    mgmt := { ports := s.mgmt.ports, nextSession := s.mgmt.nextSession }
    hst := { site := if cold then [] else [0, 1].foldl (fun (t : Tbl Site) h =>
      tset {} t h { link := if (s.site h).link = 4 then 4 else 0 }) [] }
    boot := { s.boot with
      start := none, running := .start, startCount := s.boot.startCount + 1
      seqMem := [], loaded := [] }
    recov := { safeCause := s.recov.safeCause }
    pins := { s.pins with
      quenchArmed := !s.pins.quenchLow, thermtrip := !cold && s.pins.thermtrip }
    sent := s.sent, answer := s.answer, freeCount := s.freeCount, pending := s.pending }

/-- Faults that the hold-up store kept are logged in step 3 (R520). -/
def State.writeHoldup (s : State) : State :=
  let l := s.log.holdup
  (l.foldl (fun (s : State) e => s.logEntry { e with holdup := true, logged := s.now }) 
    { s with log := { s.log with holdup := [] } })

/-- Step 3: every die whose identity word fails R36 is fenced: fault 0x7010 and, for a die or a
stack, a record; no record names a hub or a vent die (R37), which the panel holds as fenced until the next start. (DESIGN CHOICE, log 154) -/
def State.readIdentities (s : State) : State :=
  s.anat.identity.foldl (fun (s : State) p =>
    let kind := p.1 / 4096
    let pos := p.1 % 4096
    if !s.mismatch kind pos then s
    else
      let s := s.fault 0x7010 none (physLoc (kind - 1) pos 0)
      match kind with
      | 1 => { s with anat := { s.anat with fencedDies := pos :: s.anat.fencedDies } }.addField
          (mkRec 3 pos 0)
      | 2 => { s with anat := { s.anat with fencedStacks := pos :: s.anat.fencedStacks } }.addField
          (mkRec 4 pos 0)
      | 3 => { s with anat := { s.anat with fencedHubs := pos :: s.anat.fencedHubs } }
      | _ => { s with anat := { s.anat with fencedVents := pos :: s.anat.fencedVents } }) s

/-- R41: maps of every row, until a row has fewer than 12 good cells. -/
def State.buildRows (s : State) : List Nat → State
  | [] => s
  | r :: rs =>
    let good := s.goodColumns r
    if good.length < 12 then s.safeFault 0x6032 (locHub 0) r
    else
      State.buildRows { s with anat := { s.anat with
        dieMap := tset 0x000FEEEEEEEEEEEE s.anat.dieMap r (rowWord good) } } rs

/-- Dies that a record of a tile or a scratchpad row names. -/
def State.recordedDies (s : State) : List Nat :=
  ((s.defects.filter (fun w => recKind w < 2)).map recIndex).eraseDups

/-- A die that R38 counts as failed gets a die record; then the tile maps are built (R44). -/
def State.buildDies (s : State) : State :=
  s.recordedDies.foldl (fun (s : State) d => if s.dieShort d then s.recordShort d else s.buildTiles d) s

/-- The rows that records name are served by spare rows from a start on (R88). -/
def State.spareRows (s : State) : State :=
  (s.defects.filter (fun w => recKind w == 1)).foldl (fun (s : State) w =>
    let row := recDetail w % 2 ^ 15
    s.modTile (recIndex w * 20 + recDetail w / 2 ^ 15) (fun y => { y with spares := insertNew row y.spares })) s

/-- The clock posture's ceiling (R346). -/
def State.postureCeil (s : State) : Nat :=
  match s.obj 0x2100 0x01 with
  | 0 => 30
  | 1 => 26
  | _ => 18

/-- The domains of a supply group (R368). -/
def groupDomains (g : Nat) : List Nat :=
  if g < 12 then
    (List.range 13).flatMap (fun c => [312 + dieAt c g, 2 * dieAt c g, 2 * dieAt c g + 1])
      ++ ((List.range 48).filter (fun v => ventDie v / 13 == g)).map (468 + ·)
  else [516 + (g - 12)]

/-- Both converters of a supply group have failed, so that it has no supply (R368). -/
def State.groupDead (s : State) (g : Nat) : Bool :=
  s.pwr.convFailed.toNat.testBit (2 * g) && s.pwr.convFailed.toNat.testBit (2 * g + 1)

/-- R512 over components outside a trial: their slots load, and the second part says whether each has one. -/
def State.loadAll (s : State) (cs : List Nat) : State × Bool :=
  cs.foldl (fun (q : State × Bool) c => ((q.1.loadComponent c).1, q.2 && (q.1.loadComponent c).2)) (s, true)

/-- Steps 5 to 7: supplies up (R373), islands locked (R345), firmware loaded (R502), links begin R308.
A component from 3 on without a loadable slot ends in SAFE (R512). -/
def State.startSupplies (s : State) (kind : StartKind) (i : StartIn) : State :=
  let r := if kind = .trial then (s, true) else s.loadAll (s.components.filter (2 < ·))
  let s := r.1
  if i.abandoned then s.safeFault 0x1020 (locHub 0)
  else
    let off := s.pwr.fuseOpen ++ s.anat.fencedDies.map (312 + ·) ++ s.anat.fencedStacks ++ s.anat.fencedVents.map (468 + ·)
      ++ (s.defects.filter (fun w => recKind w == 3)).map (fun w => 312 + recIndex w)
      ++ (s.defects.filter (fun w => recKind w == 4)).map recIndex
      ++ ((List.range 14).filter s.groupDead).flatMap groupDomains
    let s := { s with
      pwr := { s.pwr with busOn := true, allOn := true, except := off.eraseDups }
      pins := { s.pins with pgood := !(List.range 14).any s.groupDead }
      clk := { s.clk with
        refState := if s.clk.crystalOk then 0 else 2
        pll0 := true, pll1 := true
        islandBase := { st := 0, locked := true }
        dieBase := { step := min s.postureCeil 30 } }
      net := { s.net with down := i.rings.foldl (fun t (d : Die) => tset 0 t d.val 0x400) [] }
      thm := { s.thm with theta := f32OfRat (s.thetaCal (ratF32 (s.coolant 2)))
                          thetaFlow := s.coolant 2 } }
    if !r.2 then s.safeFault 0x7015 (locHub 0)
    else
      let s := i.fwDies.foldl (fun (s : State) d =>
        (s.fault 0x6033 none (locDie d.val)).addField (mkRec 3 d.val 0)) s
      let s := i.fwStacks.foldl (fun (s : State) k =>
        (s.fault 0x6033 none (locStackPhys k.val)).addField (mkRec 4 k.val 0)) s
      let s := i.fwVents.foldl (fun (s : State) v =>
        (s.fault 0x6033 none (locVent v.val)).modVent v.val (fun x => { x with fwHeld := true })) s
      let s := (List.range 48).foldl (fun (s : State) v =>
        if s.dimUsed v && !(s.vent v).fwHeld && s.domOn (468 + v) && !s.dieBad (ventDie v)
        then s.modVent v (fun x => { x with st := .train }) else s) s
      ({ s with boot := { s.boot with start := some ⟨kind, 7, i⟩ } }).enter .selftest

/-- From step 4 on: the coolant wait, then the supplies. -/
def State.startProceed (s : State) (kind : StartKind) (i : StartIn) : State :=
  if s.coolantOk then s.startSupplies kind i
  else { s with boot := { s.boot with start := some ⟨kind, 4, i⟩ } }

/-- A start from its trigger: the state is cleared, the fuses are reconciled (R402) and components 1 and 2 loaded, the
identity words and both hubs' field records are read (R501), and the start proceeds to its coolant wait or to self-test. A
TRIAL set takes part in it (R511). Without a loadable slot of component 1 or 2 the panel stays in BOOT (R512). -/
def State.startBegin (s : State) (cold trial : Bool) (i : StartIn) : State :=
  let s := s.startClear cold
  let s := { s with boot := { s.boot with
    cmdStatus := BitVec.ofNat 32 (if cold then 0x101 else 0x102) } }
  let s := s.writeHoldup
  if s.sec.uds0 ≠ s.sec.uds1 then s.safeFault 0x7013 (locHub 0)
  else
  let again := s.trialSet && s.boot.trialCut < 2
  let s := if s.trialSet && !again then s.failTrial else s
  let bad := s.components.any (fun c => match s.slotIn c 2 with
    | some k => !s.slotOk c k
    | none => false)
  let s := if again && bad then s.failTrial else s
  let kind := if (trial || again) && !bad then StartKind.trial
    else if cold then .cold else .warm
  let r := if kind = .trial then (s, true) else s.loadAll [1, 2]
  if !r.2 then { r.1 with boot := { r.1.boot with start := some ⟨kind, 2, i⟩ } }
  else ((i.mirror.foldl State.addField r.1.readIdentities).startProceed kind i)

/-- panel_cmd 1 (R486): a cold start where R496 admits one. -/
def State.coldStart (s : State) (i : StartIn) : State :=
  if s.boot.running ≠ .none then s.fstatus .busy
  else if s.coldOk then (s.startBegin true false i).fstatus .ok
  else s.fstatus .state

/-- panel_cmd 2 (R486): a warm start. -/
def State.warmStart (s : State) (i : StartIn) : State :=
  if s.boot.running ≠ .none then s.fstatus .busy
  else match s.st with
    | .idle | .run | .safe | .quenched => (s.startBegin false false i).fstatus .ok
    | _ => s.fstatus .state

/-- COLD_START (R496, R499). -/
def execColdStart (i : StartIn) (s : State) : Host.Outcome State Fault Refusal := .next (s.coldStart i)

/-- WARM_START (R500). -/
def execWarmStart (i : StartIn) (s : State) : Host.Outcome State Fault Refusal := .next (s.warmStart i)

/-- POWER_ON_START (R497): the input rises to mv; a qualified input takes a cold start while
power_on_start is 1 and PANEL_RST_N is not held low. -/
def execPowerOnStart (mv : Nat) (i : StartIn) (s : State) : Host.Outcome State Fault Refusal :=
  let t := { s with pwr := { s.pwr with inputMv := mv } }
  if s.st = .off ∧ t.inputOk ∧ s.obj 0x2000 0x06 = 1 ∧ !s.pins.rstHeld then
    .next ((t.startBegin true false i).ok)
  else .next t.turnAway

/-- PANEL_RST_N_RELEASE (R556): the rising edge after a held low takes a cold start where R496 admits
one. -/
def execPanelRstNRelease (i : StartIn) (s : State) : Host.Outcome State Fault Refusal :=
  let t := { s with pins := { s.pins with rstHeld := false } }
  if s.pins.rstHeld ∧ s.coldOk ∧ s.boot.running = .none then .next ((t.startBegin true false i).ok)
  else .next t.turnAway

/-- PANEL_RST_N_HELD (R556): a low of 1 ms holds; shorter ones are ignored. -/
def execPanelRstNHeld (ns : Nat) (s : State) : Host.Outcome State Fault Refusal :=
  if 1000000 ≤ ns then .next { s with pins := { s.pins with rstHeld := true }, answer := .done }
  else .next s.turnAway

/-- COOLANT_QUALIFIED (R389): a start that waits at step 4 goes on. -/
def execCoolantQualified (i : StartIn) (s : State) : Host.Outcome State Fault Refusal :=
  match s.boot.start with
  | some ⟨kind, 4, _⟩ =>
    if s.st = .boot ∧ s.coolantOk then .next ((s.startSupplies kind i).ok) else .next s.turnAway
  | _ => .next s.turnAway

/-- FW_LOAD (R502): a die writes a block into its sequencer memory; after the last block it forms the
body's digest and reports to HUB0. -/
def execFwLoad (d : Die) (off : Nat) (data : Bytes) (last : Bool) (s : State) :
    Host.Outcome State Fault Refusal :=
  if s.boot.start.isNone ∨ s.dieFenced d.val ∨ 2 ^ 26 < off + data.length then .next s.turnAway
  else
    let t := { s with boot := { s.boot with
      seqMem := putBytes s.boot.seqMem (d.val * 2 ^ 26 + off) data
      loaded := if last then insertNew d.val s.boot.loaded else s.boot.loaded } }
    .next (if last then (t.send (.ctrl (BitVec.ofNat 12 d.val) 0x13 0xFE d.val)).ok else t.ok)

/-- selftest_result (R504): time, records, unstored, kind, result, skipped. -/
def selftestBytes (time added unstored kind result skipped : Nat) : Bytes :=
  toLe 8 time ++ toLe 2 added ++ toLe 2 unstored
    ++ [BitVec.ofNat 8 kind, BitVec.ofNat 8 result] ++ toLe 2 skipped

/-- The field records that a test found are stored, with event 0x6034 for each (R504). -/
def State.storeFound (s : State) (found : List W32) : State :=
  found.foldl (fun (s : State) w =>
    let n := s.anat.field.length
    let s := s.addField w
    if n < s.anat.field.length then s.event 0x6034 none (locHub 0) w.toNat else s) s

/-- What a test by command found is stored, with the die record of every die that it leaves short of tiles (R38,
R504); the die maps stay until the next start. -/
def State.recordFound (s : State) (found : List W32) : State :=
  let s := s.storeFound found
  s.recordedDies.foldl State.recordShort s

/-- The rows of the lines that a DRAM test found are repaired, and a stack with a channel that has used all its spare rows
is failed: fault 0x4006 and its record (R255, R503). -/
def State.dramFound (s : State) (lines : List (Nat × Nat)) : State :=
  let s := lines.foldl (fun (s : State) p => s.modStack p.1 (·.repair [p.2])) s
  s.stk.stack.foldl (fun (s : State) p =>
    if p.2.spent && !s.stackRecord p.1 then (s.fault 0x4006 none (locStackPhys p.1)).addField (mkRec 4 p.1 0) else s) s

/-- The lines of a test by command: those of banks owned NONE, except bank 63 (R503). -/
def State.testable (s : State) (dram : List (Stk × BitVec 29)) : List (Nat × Nat) :=
  (dram.map (fun p => (p.1.val, p.2.toNat))).filter (fun p =>
    s.bankOwner p.1 (p.2 / 2 ^ 23) == 0xFF && !inBank 63 p.2)

/-- selftest_result is written. -/
def State.putSelftest (s : State) (old : State) (kind skipped : Nat) : State :=
  let added := s.anat.field.length - old.anat.field.length
  let un := s.anat.unstored.length - old.anat.unstored.length
  { s with boot := { s.boot with
      selftest := selftestBytes s.now added un kind
        (if s.st = .safe ∨ s.st = .quenched then 2 else if added + un = 0 then 0 else 1) skipped } }

/-- The start reaches IDLE: last_start and cmd_status are written (R486, R514). -/
def State.startIdle (s : State) (kind : StartKind) (ms : Nat) : State :=
  let k := match kind with | .cold => 0 | .warm => 1 | .trial => 2
  let s := { s with boot := { s.boot with
    start := none, running := .none
    lastStart := BitVec.ofNat 32 (k + 256 * ms)
    cmdStatus := BitVec.ofNat 32 (s.boot.cmdStatus.toNat % 256 + 0x200) } }
  let s := s.enter .idle
  if kind = .trial then s.commitTrial else s

/-- Phases that the phase test disables (R375): masks by die. -/
def State.disablePhases (s : State) (l : List (Die × Fin 14)) : State :=
  { s with pwr := { s.pwr with
      phase := l.foldl (fun t p => tset 0 t p.1.val (tget 0 t p.1.val ||| BitVec.ofNat 16 (2 ^ p.2.val)))
        s.pwr.phase } }

/-- START_COMPLETE (R499): self-test has run; its records are stored, the maps are built (R41, R44),
and the panel is IDLE, or in SAFE when a row is short. -/
def execStartComplete (ms : Nat) (s : State) : Host.Outcome State Fault Refusal :=
  match s.boot.start with
  | some ⟨kind, 7, i⟩ =>
    let t := if kind = .cold then s.disablePhases i.phases else s
    let t := (t.storeFound i.found).dramFound (if kind = .cold then i.dram.map (fun p => (p.1.val, p.2.toNat)) else [])
    let t := (t.buildDies.buildRows (List.range 12)).spareRows
    let t := ((List.range 156).foldl State.darken t).detachBad
    let t := t.putSelftest s (if kind = .cold then 0 else 1) 0
    if t.boot.start.isNone then
      .next ({ t with boot := { t.boot with running := .none } }.ok)
    else .next ((t.startIdle kind ms).ok)
  | _ => .next s.turnAway

/-- START_STEP_TIMEOUT (R499, R500): fault 0x6035 and SAFE; a trial start fails its set and takes a
warm start on the ACTIVE slots (R511). -/
def execStartStepTimeout (step : Nat) (i : StartIn) (s : State) : Host.Outcome State Fault Refusal :=
  match s.boot.start with
  | some ⟨.trial, _, _⟩ => .next ((s.failTrial.startBegin false false i).ok)
  | some _ =>
    let t := s.safeFault 0x6035 (locHub 0) step
    .next { t with
      boot := { t.boot with
        start := none, running := .none
        cmdStatus := BitVec.ofNat 32 (s.boot.cmdStatus.toNat % 256 + 0x300 + 0x6035 * 65536) }
      answer := .done }
  | none => .next s.turnAway

/-- panel_cmd 5 (R486): a self-test, accepted in IDLE. -/
def State.selftest (s : State) : State :=
  if s.boot.running ≠ .none then s.fstatus .busy
  else if s.st = .idle then
    ({ s with boot := { s.boot with running := .selftest, cmdStatus := 0x105 } }.enter .selftest).fstatus .ok
  else s.fstatus .state

/-- SELFTEST (R486). -/
def execSelftest (s : State) : Host.Outcome State Fault Refusal := .next s.selftest

/-- SELFTEST_COMPLETE (R504): records stored and applied; the die maps stay until the next start. -/
def execSelftestComplete (found : TestFound) (skipped : Nat) (s : State) :
    Host.Outcome State Fault Refusal :=
  if s.boot.running = .selftest ∧ s.st = .selftest then
    let t := ((s.recordFound found.records).dramFound (s.testable found.dram)).putSelftest s 2 skipped
    .next (({ t with boot := { t.boot with running := .none, cmdStatus := 0x205 } }.enter .idle).ok)
  else .next s.turnAway

/-- The conditions of CALIBRATE (R508): no timeout, flow at least 80 L/min, inlet 20 to 40 °C. -/
def State.calReady (s : State) : Bool :=
  s.thm.timeout == 0 && fle 0x42A00000 (s.coolant 2)
    && fle 0x41A00000 (s.coolant 0) && fle (s.coolant 0) 0x42200000

/-- panel_cmd 6 (R508): accepted in IDLE with every context CLOSED; it fails at once with 0x3010 unless
the coolant conditions hold. -/
def State.calibrate (s : State) : State :=
  if s.boot.running ≠ .none then s.fstatus .busy
  else if s.st ≠ .idle ∨ !(allCtx.all (fun c => (s.ctx c).key == .closed)) then s.fstatus .state
  else if s.calReady then
    ({ s with boot := { s.boot with running := .calibrate, cmdStatus := 0x106 } }.enter .selftest).fstatus .ok
  else
    { s.fault 0x3010 none (locHub 0) with boot := { s.boot with cmdStatus := 0x30100306 } }.fstatus .ok

/-- CALIBRATE (R508). -/
def execCalibrate (s : State) : Host.Outcome State Fault Refusal := .next s.calibrate

/-- The derived sections of R508, with sections 4 and 5 kept. -/
def State.calDerived (s : State) (values : List (Tbl Int)) : List (Tbl Int) :=
  (List.range 10).map (fun k =>
    if k = 3 ∨ k = 4 then s.boot.cal.getD k [] else values.getD k [])

/-- CALIBRATE_COMPLETE (R508): the table is replaced when every value is in range, else 0x3010. -/
def execCalibrateComplete (values : List (Tbl Int)) (found : List W32) (s : State) :
    Host.Outcome State Fault Refusal :=
  if s.boot.running = .calibrate ∧ s.st = .selftest then
    let t := (s.recordFound found).putSelftest s 3 0
    let new := s.calDerived values
    let ok := calOk new
    let t := if ok then t.putCal new 2 else t.fault 0x3010 none (locHub 0)
    .next (({ t with boot := { t.boot with
      running := .none, cmdStatus := if ok then 0x206 else 0x30100306 } }.enter .idle).ok)
  else .next s.turnAway

/-- The panel goes to OFF: supplies down, contexts closed, everything volatile gone. -/
def State.goOff (s : State) : State :=
  let t := s.startClear true
  { t with
    st := .off, since := s.now, now := s.now
    dict := s.dict
    boot := { s.boot with start := none, running := .none }
    anat := { t.anat with field := s.anat.field, clearScheduled := s.anat.clearScheduled }
    sec := { s.sec with reports := [], debug := 0 }
    log := s.log, ctrs := s.ctrs, ctrSince := s.ctrSince
    clk := t.clk
    pwr := { t.pwr with busOn := false }
    pins := { s.pins with pgood := false } }

/-- panel_cmd 3 (R486): contexts close, supplies go down, OFF. -/
def State.powerOff (s : State) : State :=
  if s.boot.running ≠ .none then s.fstatus .busy
  else match s.st with
    | .idle | .run | .safe | .quenched =>
      { s.goOff with boot := { s.goOff.boot with cmdStatus := 0x203 } }.fstatus .ok
    | _ => s.fstatus .state

/-- POWER_OFF (R486). -/
def execPowerOff (s : State) : Host.Outcome State Fault Refusal := .next s.powerOff

/-- panel_cmd 4 (R486): SAFE, from IDLE or RUN. -/
def State.safeCmd (s : State) : State :=
  if s.boot.running ≠ .none then s.fstatus .busy
  else match s.st with
    | .idle | .run => { s.enterSafe none with boot := { (s.enterSafe none).boot with cmdStatus := 0x204 } }.fstatus .ok
    | _ => s.fstatus .state

/-- ENTER_SAFE (R486, R535): the command in IDLE or RUN, or a fault whose rule names SAFE. -/
def execEnterSafe (cause : Option W16) (s : State) : Host.Outcome State Fault Refusal :=
  match cause with
  | none => .next s.safeCmd
  | some code =>
    match s.st with
    | .boot | .selftest | .idle | .run => .next ((s.enterSafe (some code)).ok)
    | _ => .next s.turnAway

/-- panel_cmd 7 (R486, R510): in IDLE with every context CLOSED, or in SAFE entered by 0x7015. -/
def State.update (s : State) : State :=
  let closed := allCtx.all (fun c => (s.ctx c).key == .closed)
  if s.boot.running ≠ .none then s.fstatus .busy
  else if s.st = .idle ∧ closed ∨ s.st = .safe ∧ s.recov.safeCause = 0x7015 then
    ({ s with boot := { s.boot with
      updFromSafe := decide (s.st = PState.safe), cmdStatus := 0x207 } }.enter .updating).fstatus .ok
  else s.fstatus .state

/-- UPDATE (R510). -/
def execUpdate (s : State) : Host.Outcome State Fault Refusal := .next s.update

/-- fw_stage (R510): an image that passes R411 is STAGED in the slot that is not ACTIVE. -/
def State.stageFw (s : State) (img : FwImage) : State :=
  let c := img.component.toNat
  if s.st ≠ .updating then s.fstatus .state
  else if !s.components.contains c ∨ 67108864 < img.bytes then s.fstatus .range
  else match s.fwCheck img with
    | some code => ((if code = 0x7001 then s.count .security 0 0x00 1 else s).fault code none s.rootLoc c).fstatus .range
    | none =>
      let k := match s.slotIn c 3 with | some j => 1 - j | none => 0
      (s.modFw c k (fun _ =>
        { st := 1, version := img.version, svn := img.svn, digest := img.digest
          signer := img.slot, ok := true })).fstatus .ok

/-- FW_STAGE (R510). -/
def execFwStage (img : FwImage) (s : State) : Host.Outcome State Fault Refusal := .next (s.stageFw img)

/-- fw_cmd 1 (R510): STAGED slots become TRIAL, and a trial start is taken. -/
def State.activateFw (s : State) (i : StartIn) : State :=
  if s.st ≠ .updating ∨ !s.boot.fw.any (fun p => p.2.st == 1) then s.fstatus .state
  else ((s.fwAll 1 2).startBegin false true i).fstatus .ok

/-- ACTIVATE (R510). -/
def execActivate (i : StartIn) (s : State) : Host.Outcome State Fault Refusal := .next (s.activateFw i)

/-- fw_cmd 2 (R510): STAGED slots become EMPTY, and the panel returns to IDLE or SAFE. -/
def State.discard (s : State) : State :=
  if s.st ≠ .updating then s.fstatus .state
  else ((s.fwAll 1 0).enter (if s.boot.updFromSafe then PState.safe else PState.idle)).fstatus .ok

/-- DISCARD (R510). -/
def execDiscard (s : State) : Host.Outcome State Fault Refusal := .next s.discard

/-- cal_table (R507): the whole table, refused with RANGE unless length, header, directory, serial and every
value pass. -/
def State.writeCal (s : State) (w : CalWrite) : State :=
  if s.boot.running ≠ .none ∨ allCtx.any (fun c => (s.ctx c).runs) then s.fstatus .busy
  else if w.length = calLength ∧ w.magicOk ∧ w.version = 1 ∧ w.count = 10
      ∧ w.serial = BitVec.ofNat 64 s.anat.serial.toNat ∧ w.directory = calDirectory
      ∧ calOk w.values then
    (s.putCal w.values 1).fstatus .ok
  else s.fstatus .range

/-- CAL_TABLE_WRITE (R507). -/
def execCalTableWrite (w : CalWrite) (s : State) : Host.Outcome State Fault Refusal := .next (s.writeCal w)

/-- field_defects_clear (R40): 1 erases every field record at the next cold start. -/
def State.clearField (s : State) (v : Bool) : State :=
  { s with anat := { s.anat with clearScheduled := v || s.anat.clearScheduled } }.fstatus .ok

/-- FIELD_DEFECTS_CLEAR (R40). -/
def execFieldDefectsClear (v : Bool) (s : State) : Host.Outcome State Fault Refusal := .next (s.clearField v)

/-- The clear object of a counter set (R73): 1 zeroes every counter of it and keeps the time. -/
def State.clearSet (s : State) (set : CtrSet) (v : Bool) : State :=
  (if v then s.clearCounters set else s).fstatus .ok

/-- COUNTERS_CLEAR (R73). -/
def execCountersClear (set : CtrSet) (v : Bool) (s : State) : Host.Outcome State Fault Refusal :=
  .next (s.clearSet set v)

/-- FIRMWARE_WATCHDOG (R511): during a trial start the set fails, and the panel takes a warm start on
the ACTIVE slots. -/
def execFirmwareWatchdog (i : StartIn) (s : State) : Host.Outcome State Fault Refusal :=
  match s.boot.start with
  | some ⟨.trial, _, _⟩ => .next ((s.failTrial.startBegin false false i).ok)
  | _ => .next s.turnAway

end Sys2Proof.Machine
end

