-- ==== Sys2Proof/Machine/Clocks.lean ====
section
/-! DEFINITION. Clocks, replica margins, regions switched off for heat, and QUENCH (chapter 11). -/

namespace Sys2Proof.Machine

/-! ### Islands (R342) -/

/-- Where an island's entries are logged (R365). -/
def islandLoc : Island → Loc
  | .die d _ => locDie d.val
  | .sinter k => locStackPhys k.val
  | .hub h _ => locHub h.val
  | .vent v _ => locVent v.val

/-- The island's number in its part. -/
def islandNum : Island → Nat
  | .die _ i => i.val
  | .sinter _ => 0
  | .hub _ i => i.val
  | .vent _ i => i.val

/-- The counter set of R363 is kept by physical dies: an island elsewhere counts nothing. -/
def State.countClock (s : State) (i : Island) (off : Nat) : State :=
  match i with
  | .die d _ => s.count .clock d.val off 1
  | _ => s

/-- QUENCH stops the island (R342, R356). -/
def islandFunctional : Island → Bool
  | .die _ i => i.val < 34
  | .sinter _ => false
  | .hub _ _ => false
  | .vent _ i => i.val == 0

/-- The island's supply is on: the core rail group feeds islands 0 to 20 of a die (R366); a hub that has tripped has none outside its standby islands (R387). (DEDUCED, log 63) -/
def State.islandPowered (s : State) (i : Island) : Bool :=
  match i with
  | .die d n => !s.dieFenced d.val && (20 < n.val || s.domOn (312 + d.val))
  | .sinter k => s.domOn k.val
  | .hub h _ => s.pwr.busOn && !s.anat.fencedHubs.contains h.val && !(s.spot (3588 + h.val)).tripped
  | .vent v _ => s.domOn (468 + v.val)

/-- island_state (R364): 0 running, 1 off for heat, 2 failed, 3 unpowered, 4 quenched. -/
def State.islandCode (s : State) (i : Island) : Nat :=
  let x := (s.island (islandKey i)).st
  if !s.islandPowered i then 3
  else if x ≠ 0 then x
  else if s.st = .quenched ∧ islandFunctional i then 4
  else 0

/-- The island runs. -/
def State.islandUp (s : State) (i : Island) : Bool := s.islandCode i == 0

/-- An island that was decoupled less than 100 µs ago is out of lock (R345). (DEDUCED, log 64) -/
def IslandS.outOfLock (x : IslandS) (now : Nat) : Bool := !x.locked && decide (now < x.since + 100000)

/-! ### Failures of islands (R353) -/

/-- A port of a die goes out of service: a stack port fails its stack, another changes the routes (R38, R278). -/
def State.portFail (s : State) (d p : Nat) : State :=
  if (tget 0 s.net.down d).toNat.testBit p then s
  else
    let s := { s with net := { s.net with
      down := tset 0 s.net.down d (tget 0 s.net.down d ||| BitVec.ofNat 16 (2 ^ p)) } }
    if 8 ≤ p then s.loseStack (2 * d + (p - 8)) else s.reroute

/-- A router ring fails: the die is blocked, and both stacks of its cell are lost (R244, R273). -/
def State.ringFail (s : State) (d : Nat) : State :=
  if s.blocked d then s
  else
    let s := { s with net := { s.net with
      down := tset 0 s.net.down d (tget 0 s.net.down d ||| 0x400) } }
    ((s.reroute).loseStack (2 * d)).loseStack (2 * d + 1)

/-- The island fails with a code: its die, port, stack, link or panel follows by its number (R353). -/
def State.islandFail (s : State) (code : W16) (i : Island) : State :=
  let s := (s.fault code none (islandLoc i) (islandNum i)).modIsland (islandKey i) (fun x => { x with st := 2 })
  match i with
  | .die d n =>
    if n.val < 20 then s.tileFail d.val n.val
    else if n.val = 21 then s.ringFail d.val
    else if 24 ≤ n.val ∧ n.val ≤ 27 then s.portFail d.val (n.val - 24)
    else if n.val = 28 ∨ n.val = 29 then s.portFail d.val (n.val - 20)
    else if 30 ≤ n.val ∧ n.val ≤ 33 then s.portFail d.val (n.val - 26)
    else s.dieFail d.val
  | .sinter k => s.loseStack k.val
  | .vent v _ => s.linkOff v.val
  | .hub _ _ => s.enterSafe (some code)

/-! ### The reference (R344) -/

/-- ref_state from what is lost. -/
def refCode (crystal p0 p1 : Bool) : Nat :=
  if !p0 && !p1 then 3 else if !crystal then 2 else if p0 && p1 then 0 else 1

/-- REFERENCE_LOSS: the crystal, or one hub's PLL; the panel keeps running. -/
def execReferenceLoss (hub : Option Hub) (s : State) : Host.Outcome State Fault Refusal :=
  let c := s.clk
  let crystal := c.crystalOk && hub.isSome
  let p0 := c.pll0 && hub != some 0
  let p1 := c.pll1 && hub != some 1
  let n := { c with crystalOk := crystal, pll0 := p0, pll1 := p1, refState := refCode crystal p0 p1 }
  let l := match hub with | some h => locHub h.val | none => locHub 0
  .next (if n = c then s.turnAway else ({ s with clk := n }.event 0x3001 none l).ok)

/-- REFERENCE_RETURN: the PLLs relock and ref_state returns to 0; before a start they have no supply. -/
def execReferenceReturn (s : State) : Host.Outcome State Fault Refusal :=
  let c := s.clk
  let n := if s.pwr.busOn then { c with crystalOk := true, pll0 := true, pll1 := true, refState := 0 }
    else { c with crystalOk := true }
  .next (if n = c then s.turnAway else { s with clk := n }.ok)

/-- ISLAND_DECOUPLE (R345): out of lock for more than 10 µs; it is relocked. -/
def execIslandDecouple (i : Island) (s : State) : Host.Outcome State Fault Refusal :=
  let x := s.island (islandKey i)
  .next (if s.islandUp i ∧ !x.outOfLock s.now then
      ((s.modIsland (islandKey i) (fun x => { x with locked := false, since := s.now })).countClock i 0x28).ok
    else s.turnAway)

/-- RELOCK_TIMEOUT (R345): 100 µs without lock fail the island with fault 0x3005. -/
def execRelockTimeout (i : Island) (s : State) : Host.Outcome State Fault Refusal :=
  let x := s.island (islandKey i)
  .next (if s.islandUp i ∧ !x.locked then ((s.notBefore (x.since + 100000)).islandFail 0x3005 i).ok else s.turnAway)

/-! ### Frequency steps (R346–R349) -/

/-- The least of the lowerings in force, or 30. -/
def lowest (l : List (Nat × Nat)) : Nat := l.foldl (fun n p => min n p.2) 30

/-- The seven ceilings of a die in the bit order of step_ceiling_source (R347). -/
def State.ceilings (s : State) (d : Nat) : List Nat :=
  let x := s.dieClk d
  [s.postureCeil, s.obj (0x4000 + d) 0x0E, x.powerCeil, x.thermalCeil, x.phaseCeil, lowest x.margin, lowest x.stretch]

/-- The target step: the lowest ceiling and never below 8; 8 in SAFE (R347, R390). -/
def State.targetStep (s : State) (d : Nat) : Nat :=
  if s.st = .safe then 8 else max 8 ((s.ceilings d).foldl min 30)

/-- step_ceiling_source (R347): the lowest ceilings; none at step 30, which no ceiling limits. (DEDUCED, log 124) -/
def State.ceilingSource (s : State) (d : Nat) : Nat :=
  let m := (s.ceilings d).foldl min 30
  ((List.range 7).map (fun i => if m < 30 ∧ (s.ceilings d).getD i 30 ≤ m then 2 ^ i else 0)).sum

/-- The die can change step: its core rail group is on, and its clocks run. -/
def State.stepReady (s : State) (d : Nat) : Bool :=
  s.domOn (312 + d) && !s.dieBad d && s.st != .quenched && s.st != .off

/-- A sequence moves at most 4 steps toward the target (R348). -/
def stepToward4 (n target : Nat) : Nat := if n < target then min (n + 4) target else max (n - 4) target

/-- The units of a die's islands 0 to 20 that are in a graph pause for so many nanoseconds (R173, R348). -/
def State.pauseDie (s : State) (d ns : Nat) : State :=
  match s.logical d with
  | none => s
  | some l =>
    let n := ns * (s.dieClk d).step / 10
    s.flow.unit.foldl (fun (s : State) p =>
      if p.1 / 128 = l.val ∧ p.2.ctx.isSome ∧ p.2.active.cfg.isSome ∧ p.2.pausedAt = none ∧ s.st = .run then
        s.count .unit p.1 0x1C n
      else s) s

/-- STEP_CHANGE (R348): a sequence completes within 20 µs. -/
def execStepChange (d : Die) (ns : Nat) (s : State) : Host.Outcome State Fault Refusal :=
  let n := (s.dieClk d.val).step
  let t := s.targetStep d.val
  .next (if s.stepReady d.val ∧ n ≠ t ∧ ns ≤ 20000 then
      ((((s.pauseDie d.val ns).modDieClk d.val (fun x => { x with step := stepToward4 n t })).count .clock d.val 0x00 1).countMax
        .clock d.val 0x04 ns).ok
    else s.turnAway)

/-- STEP_CHANGE_TIMEOUT (R348): fault 0x3008; the die keeps its previous step, or fails. -/
def execStepChangeTimeout (d : Die) (returned : Bool) (s : State) : Host.Outcome State Fault Refusal :=
  let t := s.fault 0x3008 none (locDie d.val)
  .next (if s.stepReady d.val ∧ (s.dieClk d.val).step ≠ s.targetStep d.val then
      (if returned then t else t.dieFail d.val).ok
    else s.turnAway)

/-- A new lowering for 10 s: one step below the current step and below those in force. -/
def lowerFor10s (now step : Nat) (l : List (Nat × Nat)) : List (Nat × Nat) :=
  l ++ [(now + 10000000000, min step (lowest l) - 1)]

/-- STRETCH_RATE_WINDOW (R349): more stretches than the limit lower the stretch ceiling. -/
def execStretchRateWindow (d : Die) (stretches cycles : Nat) (s : State) : Host.Outcome State Fault Refusal :=
  .next (if s.stepReady d.val ∧ s.obj 0x3100 0x03 * cycles < 1000 * stretches then
      (((s.modDieClk d.val (fun x => { x with stretch := lowerFor10s s.now x.step x.stretch })).count
        .clock d.val 0x18 1).event 0x3003 none (locDie d.val)).ok
    else s.turnAway)

/-- CEILING_EXPIRY (R349, R353): the oldest lowering ends. -/
def execCeilingExpiry (d : Die) (margin : Bool) (s : State) : Host.Outcome State Fault Refusal :=
  match (if margin then (s.dieClk d.val).margin else (s.dieClk d.val).stretch) with
  | p :: l =>
    .next ((s.notBefore p.1).modDieClk d.val (fun x =>
      if margin then { x with margin := l } else { x with stretch := l })).ok
  | [] => .next s.turnAway

/-! ### Crossings and droop (R349–R352) -/

/-- The die runs LOCKSTEP (R351, R352). -/
def State.lockstep (s : State) (d : Nat) : Bool := s.obj 0x2100 0x02 == 0 && !(s.dieClk d).drift

/-- LOCKSTEP_FALLBACK (R352): a skew above 8 ps for more than 1 ms puts the die in DRIFT. -/
def execLockstepFallback (d : Die) (skewPs ns : Nat) (s : State) : Host.Outcome State Fault Refusal :=
  .next (if s.stepReady d.val ∧ s.lockstep d.val ∧ 8 < skewPs ∧ 1000000 < ns then
      (((s.modDieClk d.val (fun x => { x with drift := true })).count .clock d.val 0x2C 1).event
        0x3009 none (locDie d.val)).ok
    else s.turnAway)

/-- stretch_ns grows by quarter periods: a quarter period of step N is 5/2N ns, kept in parts of 1/2L ns, where
every N from 8 to 30 divides L. (DESIGN CHOICE, log 65) -/
def State.addStretch (s : State) (d quarters : Nat) : State :=
  let u := 2329089562800
  let v := s.ctr .clock d (0x14 + 0x80) + quarters * 5 * (u / (s.dieClk d).step)
  let s := { s with ctrs := tset 0 s.ctrs (ctrKey .clock d (0x14 + 0x80)) (v % (2 * u)) }
  if v / (2 * u) = 0 then s else s.count .clock d 0x14 (v / (2 * u))

/-- The guard of the clock posture in mV (R346). -/
def State.guardMv (s : State) : Int :=
  match s.obj 0x2100 0x01 with
  | 0 => 30
  | 1 => 20
  | _ => 10

/-- The rail's set point at the die's step, clamped to 550–950 mV (R346). -/
def State.railMv (s : State) (d : Nat) : Nat :=
  (max 550 (min 950 (s.cal 1 (d * 23 + ((s.dieClk d).step - 8)) + s.guardMv))).toNat

/-- A voltage that the monitor has seen enters the die's record while the panel is in IDLE or RUN (R379). -/
def State.noteVoltage (s : State) (d mv : Nat) : State :=
  let x := tget (0, 0, 0) s.pwr.minMv d
  let h : Int := (mv : Int) - s.cal 1 (d * 23 + ((s.dieClk d).step - 8))
  let least : Bool := match s.recov.headroom with
    | some p => decide (h < p.1)
    | none => true
  let s := if (s.st = .idle ∨ s.st = .run) ∧ least then
      { s with recov := { s.recov with headroom := some (h, d) } } else s
  if (s.st = .idle ∨ s.st = .run) ∧ (x = (0, 0, 0) ∨ mv < x.1) then
    { s with pwr := { s.pwr with
      minMv := tset (0, 0, 0) s.pwr.minMv d (mv, s.now, (s.dieClk d).step) } }
  else s

/-- The counter of stretches of so many quarters (R363). -/
def stretchCtr (quarters : Nat) : Nat := if quarters = 4 then 0x10 else if quarters = 2 then 0x0C else 0x08

/-- A stretch of a period of an island of a die. Under LOCKSTEP islands 0 to 20 share it: of the stretches detected in
one period the largest counts, once for the die. Under DRIFT each island stretches on its own (R349, R350, R363). (DEDUCED, log 149) -/
def State.stretchBy (s : State) (d quarters : Nat) : State :=
  let was : Nat := match (s.dieClk d).droop with
    | some p => if p.1 = s.now then p.2 else 0
    | none => 0
  if !s.lockstep d then (s.count .clock d (stretchCtr quarters) 1).addStretch d quarters
  else if quarters ≤ was then s
  else
    let s := s.modDieClk d (fun x => { x with droop := some (s.now, quarters) })
    let less := tset 0 s.ctrs (ctrKey .clock d (stretchCtr was)) (s.ctr .clock d (stretchCtr was) - 1)
    let s := if was = 0 then s else { s with ctrs := less }
    (s.count .clock d (stretchCtr quarters) 1).addStretch d (quarters - was)

/-- DROOP_STRETCH (R349): a sag past a level stretches a period by a quarter, a half or one period. -/
def execDroopStretch (d : Die) (i : Fin 21) (sagMv : Nat) (s : State) : Host.Outcome State Fault Refusal :=
  let past (k : Nat) : Bool := s.cal 5 (3 * d.val + k) < sagMv
  let up := s.islandUp (.die d ⟨i.val, by omega⟩)
  let s := if up then s.noteVoltage d.val (s.railMv d.val - sagMv) else s
  .next (if !up then s.turnAway
    else if past 2 then (s.stretchBy d.val 4).ok
    else if past 1 then (s.stretchBy d.val 2).ok
    else if past 0 then (s.stretchBy d.val 1).ok
    else s.turnAway)

/-! ### Replica margins (R353) -/

/-- The die's margin ceiling goes one step below its current step for 10 s, with event 0x3003. -/
def State.lowerMargin (s : State) (i : Island) : State :=
  match i with
  | .die d n =>
    ((s.modDieClk d.val (fun x => { x with margin := x.margin ++ [(s.now + 10000000000, x.step - 1)] })).count
      .clock d.val 0x20 1).event 0x3003 none (locDie d.val) n.val
  | _ => s

/-- Event 0x3002, at most once per island per minute. -/
def State.warnMargin (s : State) (i : Island) : State :=
  let x := s.island (islandKey i)
  let quiet := match x.warnAt with | some t => decide (s.now < t + 60000000000) | none => false
  if quiet then s
  else ((s.modIsland (islandKey i) (fun x => { x with warnAt := some s.now })).countClock i 0x1C).event
    0x3002 none (islandLoc i) (islandNum i)

/-- REPLICA_WINDOW: the smallest margin of a 1 ms window against the warn and act thresholds of the island. -/
def execReplicaWindow (i : Island) (minimum : Nat) (s : State) : Host.Outcome State Fault Refusal :=
  let k := islandKey i
  let cal := (s.cal 4 k).toNat
  let x := s.island k
  let m := BitVec.ofNat 8 (min minimum 0xFE)
  let acts := decide (minimum < cal / 256)
  let t := s.modIsland k (fun x =>
    { x with
      last := m, min := if m < x.min then m else x.min, below := if acts then min (x.below + 1) 2 else 0 })
  let t := if minimum < cal % 256 then t.warnMargin i else t
  .next (if !s.islandUp i then s.turnAway else (if acts && 1 ≤ x.below then t.lowerMargin i else t).ok)

/-- The island's frequency cannot be lowered: step 8, or a fixed clock. -/
def State.atFloor (s : State) (i : Island) : Bool :=
  match i with
  | .die d n => 20 < n.val || (s.dieClk d.val).step == 8
  | _ => true

/-- REPLICA_FAILURE: the ceiling is lowered at once, or the island fails with fault 0x3004. -/
def execReplicaFailure (i : Island) (s : State) : Host.Outcome State Fault Refusal :=
  let x := s.island (islandKey i)
  let again := match x.failAt with | some t => decide (s.now < t + 1000000000) | none => false
  let t := (s.modIsland (islandKey i) (fun x => { x with failAt := some s.now })).countClock i 0x24
  .next (if !s.islandUp i then s.turnAway
    else if again || s.atFloor i then (t.islandFail 0x3004 i).ok
    else (t.lowerMargin i).ok)

/-! ### Regions switched off for heat (R354) -/

/-- The hot spot of islands 0 to 20 of a die: tiles first, then the commons (R382). -/
def dieSpot (d i : Nat) : Nat := if i < 20 then d * 20 + i else 3120 + d

/-- The banks of an island. (DEDUCED, log 67) -/
def islandBanks (d : Die) (i : Fin 21) : List BankRef :=
  if h : i.val < 20 then (List.finRange 32).map (fun b => .spad d ⟨i.val, h⟩ b)
  else (List.finRange 64).map (fun b => .commons d b)

/-- The domain key of an island. -/
def islandDom (d : Die) (i : Fin 21) : Nat := domKey (.island d i)

/-- Contexts whose region holds an island of a die: a tile's, or any on the die for the commons. -/
def State.islandUsers (s : State) (d : Die) (i : Fin 21) : List CtxId :=
  match s.logical d.val with
  | none => []
  | some l =>
    if i.val < 20 then
      match s.logicalTile d.val i.val with
      | some t => s.contextsWhere (fun x => x.holdsTile l t)
      | none => []
    else s.contextsWhere (fun x => x.holdsDie l)

/-- The contexts on an island that goes off for heat yield until it is on again (R537). (DEDUCED, log 111) -/
def State.suspend (s : State) (d : Die) (i : Fin 21) : State :=
  (s.islandUsers d i).foldl (fun (s : State) c =>
    let t := (s.suspendEvent 0x6020 c d.val).count .recovery 0 0x28 1
    { t with recov := { t.recov with suspensions := (c, 0xFF, d.val * 37 + i.val) :: t.recov.suspensions } }) s

/-- HEAT_SWITCH_OFF: banks close RETAIN, and the DCO stops. -/
def execHeatSwitchOff (d : Die) (i : Fin 21) (s : State) : Host.Outcome State Fault Refusal :=
  let k := d.val * 37 + i.val
  if s.islandUp (.die d ⟨i.val, by omega⟩) ∧ (s.spot (dieSpot d.val i.val)).stage = 3 then
    let s := (islandBanks d i).foldl (fun (s : State) b =>
      if s.bankSt b = .open then (s.drainBank b).setBank b (.closed .retain) else s) s
    .next ((((s.modIsland k (fun x => { x with st := 1 })).setDom (islandDom d i) false).count .clock d.val 0x30 1).suspend
      d i).ok
  else .next s.turnAway

/-- HEAT_SWITCH_ON: after admission (R372) the DCO starts at the die's step, and the banks reopen with their
notices. -/
def execHeatSwitchOn (d : Die) (i : Fin 21) (s : State) : Host.Outcome State Fault Refusal :=
  let k := d.val * 37 + i.val
  if (s.island k).st = 1 ∧ s.domOn (islandDom d i) then
    let s := (s.modIsland k (fun x => { x with st := 0, locked := true })).unsuspend (d.val * 37 + i.val) (d.val * 37 + i.val + 1)
    .next ((islandBanks d i).foldl (fun (s : State) b =>
      if s.bankSt b = .closed .retain then
        let (nodes, s) := ((s.setBank b .open).presentHeld b).takeNotify b
        nodes.foldl (fun (s : State) n => s.ctrl (bankNode b) 0x04 0xFE n.toNat) s
      else s) s).ok
  else .next s.turnAway

/-! ### QUENCH (R355–R361) -/

/-- QUENCH can be taken. -/
def State.quenchable (s : State) : Bool := s.st != .off && s.st != .quenched

/-- QUENCH_N (R355, R557): low for at least 200 ns while armed. -/
def execQuenchN (ns : Nat) (s : State) : Host.Outcome State Fault Refusal :=
  let t := { s with pins := { s.pins with quenchLow := true } }
  .next (if ns < 200 then s.turnAway
    else if s.pins.quenchArmed ∧ s.quenchable then
      { t.takeQuench 0 0 with pins := { t.pins with quenchArmed := false } }.ok
    else t.turnAway)

/-- QUENCH_N_HIGH (R557): the pin has been high; 200 ns arm it again. -/
def execQuenchNHigh (ns : Nat) (s : State) : Host.Outcome State Fault Refusal :=
  .next { s with
    pins := { s.pins with quenchLow := false, quenchArmed := s.pins.quenchArmed || decide (200 ≤ ns) }
    answer := .done }

/-- quench_cmd (R355): 1 takes QUENCH. -/
def State.quenchCmd (s : State) (v : Bool) : State :=
  (if v && s.quenchable then s.takeQuench 1 0 else s).fstatus .ok

/-- QUENCH_CMD (R355). -/
def execQuenchCmd (v : Bool) (s : State) : Host.Outcome State Fault Refusal := .next (s.quenchCmd v)

/-- quench_status (R357): clocks have stopped; 1 ms later the read-out clock runs. -/
def State.quenchStatus (s : State) : Nat :=
  if s.clk.quench = 1 ∧ s.clk.quenchAt + 1000000 ≤ s.now then 2 else s.clk.quench

/-- The code of a panel state in the order of R16. -/
def pstateCode : PState → Nat
  | .off => 0 | .boot => 1 | .selftest => 2 | .idle => 3 | .run => 4 | .quenched => 5 | .safe => 6 | .updating => 7

/-- Some held fault, and some unsettled state, is in the image (R219, R358). -/
def State.anyHeld (s : State) : Bool := s.flow.unit.any (fun p => !p.2.held.isEmpty)
def State.anyUnsettled (s : State) : Bool :=
  s.tiles.tile.any (fun p => 0 < p.2.unsettledRecords || !p.2.unsettled.isEmpty)
    || s.eng.commons.any (fun p => !p.2.unsettled.isEmpty)
    || s.flow.queue.any (fun p => p.2.tokens.any (fun t => !t.settled))

/-! The records of an image (R358, R360) -/

/-- A unit, a tile, and a die's segments hold unsettled state, which the image marks (R183 flags [0], R219). -/
def State.unitMarked (s : State) (k : Nat) : Bool :=
  !(tget ({} : UnitS) s.flow.unit k).held.isEmpty
    || (List.range 4).any (fun p => (tget ({} : QueueS) s.flow.queue
        (queueKey (keyDie k) (keyUnit k * 4 + p))).tokens.any (fun t => !t.settled))
def TileS.marked (t : TileS) : Bool := 0 < t.unsettledRecords || !t.unsettled.isEmpty
def State.dieMarked (s : State) (d : LDie) : Bool :=
  match s.phys d with
  | some p => !(s.commons p).unsettled.isEmpty
  | none => false

/-- A record's payload is free, and so is its length: its layout is not in the manual (log 141). -/
def State.payload (s : State) : Bytes × State :=
  (Config.scanPayload s.freeCount, { s with freeCount := s.freeCount + 1 })

/-- The unit, tile, die and commit records of a context on one of its dies: the unsettled state is included and
marked, and the generation is 0. -/
def State.imageDie (s : State) (c : CtxId) (g : Scan) (d : LDie) : List Bytes × State :=
  let flag (p : Nat × Nat × Nat) : Nat := p.2.2 + (
    if p.1 = 0 then (if s.unitMarked (d.val * 128 + p.2.1) then 1 else 0)
    else if p.1 = 1 then (if (tget ({} : TileS) g.tiles (d.val * 16 + p.2.1)).marked then 1 else 0)
    else if s.dieMarked d then 1 else 0)
  let r := (g.parts d).foldl (fun (r : List Bytes × List Bytes × State) p =>
    let (b, t) := r.2.2.payload
    let h := g.header c d.val p.1 p.2.1 (flag p) b
    (r.1 ++ [h], r.2.1 ++ [h ++ b], t)) (([] : List Bytes), ([] : List Bytes), s)
  let b := toLe 4 r.1.length ++ toLe 4 (crc32c r.1.flatten).toNat
  (r.2.1 ++ [g.header c d.val 3 0 0 b ++ b], r.2.2)

/-- A record of type 4 to 7 names a physical die, hub or vent; the header's fields of a context are 0. -/
def State.imagePart (s : State) (type index : Nat) : List Bytes × State :=
  let (b, t) := s.payload
  ([scanHeader (0x8000 + index) type 0 0 0 0 0 0 0 b.length (crc32c b).toNat 0 ++ b], t)

/-- Records of several parts, one after the other. -/
def State.imageParts (s : State) (l : List (Nat × Nat)) : List Bytes × State :=
  l.foldl (fun (r : List Bytes × State) p => let z := r.2.imagePart p.1 p.2; (r.1 ++ z.1, z.2)) ([], s)

/-- What step 6 of R357 writes. Of a die in service: the records of the contexts that it serves, its network state and
its counters; of a dormant die and of a failed one whose router ring is in service: network state. Then the hubs and
the vent dies (R358). -/
def State.imageRecords (s : State) : List Bytes × State :=
  let a := allCtx.foldl (fun (r : List Bytes × State) c =>
    let g := r.2.scanOut c none 0
    (r.2.ctx c).dies.foldl (fun (r : List Bytes × State) d =>
      let z := r.2.imageDie c g d; (r.1 ++ z.1, z.2)) r) (([] : List Bytes), s)
  let parts := (List.range 156).flatMap (fun d =>
      if s.blocked d then [] else if s.dieRole d = 0 then [(4, d), (6, d)] else [(4, d)])
    ++ (List.range 2).map (fun h => (7, h)) ++ (List.range 48).map (fun v => (7, v))
  let z := a.2.imageParts parts
  (a.1 ++ z.1, z.2)

/-- What step 7 writes: the SRAM of every die in service (R358). -/
def State.dumpRecords (s : State) : List Bytes × State :=
  s.imageParts (((List.range 156).filter (fun d => s.dieRole d == 0 && !s.blocked d)).map (fun d => (5, d)))

/-- The 64-byte header of R360 over an image's records. -/
def State.obsHeader (s : State) (flags : Nat) (records : List Bytes) : Bytes :=
  let size := (records.map List.length).sum
  let b := [0x51, 0x4F, 0x42, 0x53] ++ toLe 2 1 ++ [BitVec.ofNat 8 s.clk.trigger, BitVec.ofNat 8 flags]
    ++ toLe 8 s.anat.serial.toNat ++ toLe 8 s.clk.quenchAt ++ toLe 4 s.anat.remapGen
    ++ toLe 4 s.net.routeGen ++ toLe 4 records.length ++ toLe 4 (size / 2 ^ 16)
    ++ [BitVec.ofNat 8 (pstateCode s.clk.quenchFrom), if s.clk.trigger = 2 then 1 else 0]
    ++ toLe 2 (if s.clk.trigger = 2 then s.clk.quenchCode.toNat else 0)
    ++ toLe 2 (s.obj 0x7000 0x01) ++ List.replicate 14 0
  b ++ toLe 4 (crc32c b).toNat

/-- The header of a slot. -/
def State.slotHeader (s : State) (slot : Nat) : Option Bytes := if slot = 0 then s.clk.slot0 else s.clk.slot1

/-- The slot that a QUENCH writes: the one that does not hold the newest complete image (R359). -/
def State.imageSlot (s : State) : Nat :=
  let complete (k : Nat) : Bool := (((s.slotHeader k).getD []).getD 7 0).toNat % 2 == 1
  if s.clk.newest = 0 then (if complete 0 then 1 else 0)
  else if s.clk.newest = 1 then (if complete 1 then 0 else 1)
  else 0

/-- A slot takes a header, and the records behind it. -/
def State.putSlot (s : State) (slot : Nat) (h : Bytes) : State :=
  if slot = 0 then { s with clk := { s.clk with slot0 := some h } }
  else { s with clk := { s.clk with slot1 := some h } }
def State.putRecords (s : State) (slot : Nat) (l : List Bytes) : State :=
  if slot = 0 then { s with clk := { s.clk with records0 := l } }
  else { s with clk := { s.clk with records1 := l } }
def State.slotRecords (s : State) (slot : Nat) : List Bytes :=
  if slot = 0 then s.clk.records0 else s.clk.records1

/-- The flags of R360 that are fixed at the trigger. -/
def State.imageFlags (s : State) : Nat :=
  (if s.clk.dumpAsked then 2 else 0) + (if s.anyHeld then 8 else 0) + (if s.anyUnsettled then 16 else 0)

/-- READOUT_COMPLETE (R357, R358): the image is complete, or a write failed. -/
def execReadoutComplete (failed : Bool) (s : State) : Host.Outcome State Fault Refusal :=
  if s.st = .quenched ∧ s.clk.quench = 1 then
    let slot := s.imageSlot
    let (l, t) := s.imageRecords
    let t := (t.putSlot slot (s.obsHeader (s.imageFlags + if failed then 0 else 1) l)).putRecords slot l
    if failed then
      .next ({ t with clk := { t.clk with quench := 6 } }.fault 0x3006 none (locHub 0)).ok
    else
      .next { t with
        clk := { t.clk with
          quench := if s.clk.dumpAsked then 4 else 3, newest := BitVec.ofNat 8 slot }
        answer := .done }
  else .next s.turnAway

/-- quench_sram_dump (R358): 1 while quench_status is 3 starts step 7. -/
def State.sramDump (s : State) (v : Bool) : State :=
  let t := s.setObj 0xA000 0x02 (if v then 1 else 0)
  (if v ∧ s.st = .quenched ∧ s.clk.quench = 3 then { t with clk := { t.clk with quench := 4 } } else t).fstatus .ok

/-- QUENCH_SRAM_DUMP (R358). -/
def execQuenchSramDump (v : Bool) (s : State) : Host.Outcome State Fault Refusal := .next (s.sramDump v)

/-- A header with another flags byte, over these records, and its crc. -/
def reflag (h : Bytes) (records : List Bytes) (f : Nat → Nat) : Bytes :=
  let b := (h.take 7) ++ [BitVec.ofNat 8 (f ((h.getD 7 0).toNat))] ++ ((h.take 32).drop 8)
    ++ toLe 4 records.length ++ toLe 4 ((records.map List.length).sum / 2 ^ 16) ++ ((h.take 60).drop 40)
  b ++ toLe 4 (crc32c b).toNat

/-- SRAM_DUMP_COMPLETE (R357): the dump is complete, or the image is marked incomplete. -/
def execSramDumpComplete (failed : Bool) (s : State) : Host.Outcome State Fault Refusal :=
  if s.st = .quenched ∧ s.clk.quench = 4 then
    let slot := s.clk.newest.toNat
    let h := (s.slotHeader slot).getD []
    if failed then
      let t := s.putSlot slot (reflag h (s.slotRecords slot) (fun f => f - f % 2))
      .next ({ t with clk := { t.clk with quench := 6 } }.fault 0x3006 none (locHub 0)).ok
    else
      let (d, t) := s.dumpRecords
      let l := s.slotRecords slot ++ d
      let t := (t.putSlot slot (reflag h l (fun f => f / 8 * 8 + 6 + f % 2))).putRecords slot l
      .next { t with clk := { t.clk with quench := 5 }, answer := .done }
  else .next s.turnAway

/-- The key and the IV of an envelope: 44 bytes of KMAC256 over the two shared secrets, the header and the
encapsulation (R431). -/
def envelopeKey (ssX ssM header ephemeral ciphertext : Bytes) : BitVec 256 × Bytes :=
  let k := kmac256 (ssX ++ ssM) (sha3 32 (header ++ ephemeral ++ ciphertext)) 44 [0x51, 0x4F, 0x42, 0x53, 0x4B]
  (BitVec.ofNat 256 (beNat (natsOf (k.take 32))), k.drop 32)

/-- obsidian_image (R361): the envelope of a slot, built as the read begins; STATE while no owner image key is
enrolled. Each read draws its ephemeral keys from the hub random source; the shared secrets, the ephemeral public key,
the ML-KEM ciphertext and the two signatures are free. (DESIGN CHOICE, log 66) -/
def State.readSlot (s : State) (slot : Nat) : State × FStatus × Bytes :=
  if s.sec.imageKey.isEmpty then (s, .state, [])
  else match s.slotHeader slot with
    | none => (s, .ok, [])
    | some h =>
      let (x, t) := s.draw
      let (m, t) := t.draw
      let (e, t) := t.freeBytes 32
      let (c, t) := t.freeBytes 1088
      let (g, t) := t.freeBytes (64 + 3309)
      let (ssX, ssM) : Bytes × Bytes := (bytesOf (keyBytes x), bytesOf (keyBytes m))
      let k := envelopeKey ssX ssM h e c
      let sealed := gcmSeal k.1 k.2 h (s.slotRecords slot).flatten
      (t, .ok, h ++ e ++ c ++ sealed.1 ++ sealed.2 ++ g)

/-- OBSIDIAN_IMAGE (R361). -/
def execObsidianImage (slot : Fin 2) (s : State) : Host.Outcome State Fault Refusal :=
  let r := s.readSlot slot.val
  .next { r.1 with answer := .fjoco r.2.1 r.2.2 }

end Sys2Proof.Machine
end

