-- ==== Sys2Proof/Machine/Power.lean ====
section
/-! DEFINITION. Power delivery (R366–R381): input, converters, switch-ons, electronic fuses, phases, the power
controller, and its records. -/

namespace Sys2Proof.Machine

/-! ### Limits (R368, R370, R377) -/

/-- The current limit in 0.1 A: both busbar pairs, or one (R370). (DEDUCED, log 70) -/
def State.currentLimit (s : State) : Nat := if s.pwr.lostPair.isSome then 6500 else 12300

/-- The limit of a supply group in A, halved for each failed converter (R368). -/
def State.groupLimit (s : State) (g : Nat) : Nat :=
  let full := if g = 0 ∨ g = 11 then 1300 else if g < 12 then 1000 else 150
  let lost := (if s.pwr.convFailed.toNat.testBit (2 * g) then 1 else 0)
    + (if s.pwr.convFailed.toNat.testBit (2 * g + 1) then 1 else 0)
  full / 2 ^ lost

/-- The physical dies that serve a logical name, in ascending order. -/
def State.inService (s : State) : List Nat :=
  (List.range 156).filter (fun d =>
    (List.range 12).any (fun c => bits (s.dieMapWord (d / 13)).toNat (4 * c) 4 == d % 13))

/-- Event `code` for HUB0, at most once per minute. -/
def State.eventPerMinute (s : State) (code : W16) (detail : Nat) : State :=
  let last := tget 0 s.pwr.eventAt code.toNat
  if last ≠ 0 ∧ s.now < last - 1 + 60000000000 then s
  else ({ s with pwr := { s.pwr with eventAt := tset 0 s.pwr.eventAt code.toNat (s.now + 1) } }).event
    code none (locHub 0) detail

/-! ### The power cap (R377, R391) -/

/-- The thermal cap in W: (105 − inlet − 5) / θ kW (R391). -/
def State.thermalCap (s : State) : Nat :=
  let th := ratF32 s.thm.theta
  if th ≤ 0 then 66000
  else (max 0 ((100 - ratF32 (s.coolant 0)) * 1000 / th)).floor.toNat

/-- The four values of R377 in the bit order of cap_source. -/
def State.capValues (s : State) : List Nat :=
  [s.thermalCap, 66000, s.currentLimit * s.pwr.inputMv / 10000, s.obj 0x3210 0x02]

/-- cap_w and cap_source are brought up to date. -/
def State.updateCap (s : State) : State :=
  let l := s.capValues
  let m := l.foldl min 66000
  { s with pwr := { s.pwr with
    capW := m
    capSource := BitVec.ofNat 8 ((List.range 4).map (fun i => if l.getD i 0 = m then 2 ^ i else 0)).sum } }

/-! ### Input (R370) -/

/-- INPUT_FAULT (R370): the converters go off, and the hold-up store keeps fault 0x1001 for the next start. -/
def execInputFault (mv us : Nat) (s : State) : Host.Outcome State Fault Refusal :=
  let e : LogEntry :=
    { fault := true, code := 0x1001, ctx := 0xFF, phys := true, loc := (locHub 0).word, time := s.now
      detail := BitVec.ofNat 80 mv, logged := s.now }
  if s.st ≠ .off ∧ (mv < 44000 ∧ 1000 ≤ us ∨ 60000 < mv ∧ 100 ≤ us) then
    let t := s.goOff
    .next { t with
      log := { t.log with holdup := t.log.holdup ++ [e] }
      pwr := { t.pwr with inputMv := mv }
      answer := .done }
  else .next s.turnAway

/-- INPUT_MARGINAL (R370): 44–48 V or 58–60 V raise event 0x1004, at most once per minute. -/
def execInputMarginal (mv : Nat) (s : State) : Host.Outcome State Fault Refusal :=
  .next (if s.st ≠ .off ∧ (44000 ≤ mv ∧ mv < 48000 ∨ 58000 < mv ∧ mv ≤ 60000) then
      (({ s with pwr := { s.pwr with inputMv := mv } }).eventPerMinute 0x1004 mv).ok
    else s.turnAway)

/-- Every in-service die's power ceiling becomes n. -/
def State.setPowerCeilings (s : State) (n : Nat) : State :=
  s.inService.foldl (fun (s : State) d => s.modDieClk d (fun x => { x with powerCeil := n })) s

/-- INPUT_OVERCURRENT (R370): ceilings to step 8 at once, and event 0x1003. -/
def execInputOvercurrent (da us : Nat) (s : State) : Host.Outcome State Fault Refusal :=
  .next (if s.st ≠ .off ∧ s.currentLimit < da ∧ 100 ≤ us then
      ((s.setPowerCeilings 8).event 0x1003 none (locHub 0) da).ok
    else s.turnAway)

/-- INPUT_FOLDBACK (R370): above 1,350 A for 10 µs the converters fold back: fault 0x1002 and SAFE. -/
def execInputFoldback (da us : Nat) (s : State) : Host.Outcome State Fault Refusal :=
  .next (if s.st ≠ .off ∧ 13500 < da ∧ 10 ≤ us then
      (({ s with pwr := { s.pwr with foldback := true } }).safeFault 0x1002 (locHub 0) da).ok
    else s.turnAway)

/-- BUSBAR_IMBALANCE (R370): one pair above 60% for 1 s, or without current, at 200 A or more. -/
def execBusbarImbalance (p0 p1 ms : Nat) (s : State) : Host.Outcome State Fault Refusal :=
  let lost := if p0 = 0 then some 0 else if p1 = 0 then some 1 else none
  let t := { s with pwr := { s.pwr with pair0 := p0, pair1 := p1 } }
  .next (if p0 + p1 < 2000 then t.turnAway
    else
      let t := { t with pwr := { t.pwr with lostPair := lost } }.updateCap
      if lost.isSome || (60 * (p0 + p1) < 100 * max p0 p1 && 1000 ≤ ms) then
        (t.event 0x1005 none (locHub 0) (p0 + p1 * 2 ^ 16)).ok
      else t.turnAway)

/-- CONVERTER_FAILURE (R368): one halves the group's limit; both take its supply, with fault 0x1041 and SAFE. (DEDUCED, log 74) -/
def execConverterFailure (g : Fin 14) (m : Fin 2) (s : State) : Host.Outcome State Fault Refusal :=
  let bit := 2 * g.val + m.val
  let had := s.pwr.convFailed.toNat
  if !s.pwr.busOn ∨ had.testBit bit then .next s.turnAway
  else
    let t := { s with pwr := { s.pwr with convFailed := s.pwr.convFailed ||| BitVec.ofNat 32 (2 ^ bit) } }
    if had.testBit (2 * g.val + (1 - m.val)) then
      let t := (groupDomains g.val).foldl (fun (t : State) k => t.setDom k false) t
      let t := { t with pins := { t.pins with pgood := false } }
      .next (t.safeFault 0x1041 (locHub 0) g.val).ok
    else .next (t.event 0x1040 none (locHub 0) g.val).ok

/-! ### Switch-ons (R371, R372) -/

/-- The supply group of a domain. -/
def domGroup : Domain → Nat
  | .stack k => k.val / 26
  | .core d => d.val / 13
  | .vent v => ventDie v.val / 13
  | .host h => 12 + h.val
  | .island d _ => d.val / 13
  | .spare d _ => d.val / 13

/-- The die that counts a domain's deferred slots: its own, or its cell's (R396). -/
def domDie : Domain → Option Nat
  | .stack k => some (k.val / 2)
  | .core d => some d.val
  | .island d _ => some d.val
  | .spare d _ => some d.val
  | .vent _ => none
  | .host _ => none

/-- Where a domain's entries are logged (R398). -/
def domLoc : Domain → Loc
  | .stack k => locStackPhys k.val
  | .core d => locDie d.val
  | .vent v => locVent v.val
  | .host h => locHub h.val
  | .island d _ => locDie d.val
  | .spare d _ => locDie d.val

/-- The physical die or stack index by which requests of one moment are ordered (R372). -/
def domIndex : Domain → Nat
  | .stack k => k.val
  | .core d | .island d _ | .spare d _ => d.val
  | .vent v => ventDie v.val
  | .host h => h.val

/-- The requests that wait, in request order; of one moment, the lower index first (R372). -/
def enqueueOn (w : Waiting) (l : List Waiting) : List Waiting :=
  let later (x : Waiting) : Bool := decide (w.since < x.since) || x.since == w.since && decide (domIndex w.dom < domIndex x.dom)
  l.takeWhile (fun x => !later x) ++ w :: l.dropWhile (fun x => !later x)

/-- A request to switch a domain on waits for a slot. -/
def State.requestOn (s : State) (dom : Domain) : State :=
  if s.pwr.waiting.any (fun w => w.dom == dom) then s
  else { s with pwr := { s.pwr with waiting := enqueueOn ⟨dom, s.now, false⟩ s.pwr.waiting } }

/-- The input limit of R372 in W. -/
def State.inputLimit (s : State) : Nat := min 66000 (s.currentLimit * s.pwr.inputMv / 10000)

/-- One slot over the waiting requests in order: `used` holds the groups that have admitted one. -/
def State.grantSlots (s : State) (groups : List Nat) (inputOk : Bool) : List Waiting → List Nat → State
  | [], _ => s
  | w :: l, used =>
    let g := domGroup w.dom
    if w.retry then s.grantSlots groups inputOk l used
    else if inputOk && decide (100 * groups.getD g 0 ≤ 85 * s.groupLimit g) && !used.contains g && !s.groupDead g then
      let s := { s with pwr := { s.pwr with waiting := s.pwr.waiting.filter (fun x => x != w) } }
      (s.setDom (domKey w.dom) true).grantSlots groups inputOk l (g :: used)
    else
      let s := match domDie w.dom with
        | some d => s.count .power d 0x10 1
        | none => s
      s.grantSlots groups inputOk l used

/-- SWITCH_ON_SLOT (R372): one 20 µs slot, from the group currents and the input power of the slot before. -/
def execSwitchOnSlot (groups : List Nat) (inputW : Nat) (s : State) : Host.Outcome State Fault Refusal :=
  .next (if s.pwr.waiting.any (fun w => !w.retry) then
      (s.grantSlots groups (decide (100 * inputW ≤ 85 * s.inputLimit)) s.pwr.waiting []).ok
    else s.turnAway)

/-- A domain of a host site (R372's exception). -/
def isHost : Domain → Bool
  | .host _ => true
  | _ => false

/-- SWITCH_ON_ABANDON (R372): a request that has waited 10 ms: fault 0x1020, and SAFE in BOOT and SELFTEST. -/
def execSwitchOnAbandon (dom : Domain) (s : State) : Host.Outcome State Fault Refusal :=
  let due (w : Waiting) : Bool := w.dom == dom && !w.retry
  match s.pwr.waiting.find? due with
  | some w =>
    let s := s.notBefore (w.since + 10000000)
    let again := isHost dom || s.st == .idle || s.st == .run
    let s := { s with pwr := { s.pwr with
      waiting := if again then s.pwr.waiting.map (fun w =>
          if due w then { w with retry := true, since := s.now } else w)
        else s.pwr.waiting.filter (fun w => !due w) } }
    let s := s.fault 0x1020 none (domLoc dom) (domKey dom)
    .next (if !isHost dom && (s.st == .boot || s.st == .selftest) then s.enterSafe (some 0x1020) else s).ok
  | none => .next s.turnAway

/-- SWITCH_ON_RETRY (R372): 1 s after it was abandoned the request is made again. -/
def execSwitchOnRetry (dom : Domain) (s : State) : Host.Outcome State Fault Refusal :=
  let due (w : Waiting) : Bool := w.dom == dom && w.retry
  match s.pwr.waiting.find? due, (isHost dom || s.st == .idle || s.st == .run) with
  | some w, true =>
    let s := s.notBefore (w.since + 1000000000)
    .next { s with
      pwr := { s.pwr with waiting := enqueueOn ⟨dom, s.now, false⟩ (s.pwr.waiting.filter (fun w => !due w)) }
      answer := .done }
  | _, _ => .next s.turnAway

/-! ### Electronic fuses and phases (R374, R375) -/

/-- The current log writes rows for 10 s (R380). -/
def State.logRows (s : State) : State :=
  { s with pwr := { s.pwr with rowsUntil := s.now + 10000000000 } }

/-- A fuse opens (R374): fault 0x1012, and the stack is lost or the link goes OFF. -/
def State.openFuse (s : State) (f : FuseRef) : State :=
  match f with
  | .stack k =>
    let s := ({ s with pwr := { s.pwr with fuseOpen := insertNew k.val s.pwr.fuseOpen } }).logRows
    ((s.fault 0x1012 none (locStackPhys k.val)).setDom k.val false).loseStack k.val
  | .vent v =>
    let s := ({ s with pwr := { s.pwr with fuseOpen := insertNew (468 + v.val) s.pwr.fuseOpen } }).logRows
    ((s.fault 0x1012 none (locVent v.val)).setDom (468 + v.val) false).linkOff v.val

/-- The domain behind a fuse. -/
def fuseKey : FuseRef → Nat
  | .stack k => k.val
  | .vent v => 468 + v.val

/-- EFUSE_OPEN (R374). -/
def execEfuseOpen (f : FuseRef) (amps ns : Nat) (s : State) : Host.Outcome State Fault Refusal :=
  let lim := match f with | .stack _ => 20 | .vent _ => 25
  .next (if s.domOn (fuseKey f) ∧ (lim < amps ∧ 1000 ≤ ns ∨ 2 * lim < amps ∧ 200 ≤ ns) then (s.openFuse f).ok
    else s.turnAway)

/-- The failed phases of a die (phase_state). -/
def State.phases (s : State) (d : Nat) : W16 := tget 0 s.pwr.phase d

/-- Failed core phases in a mask. -/
def corePhases (w : W16) : Nat := ((List.range 12).filter (fun i => w.toNat.testBit i)).length

/-- PHASE_FAILURE (R375): the ceiling of step 28 at two core phases, the die at three; both always-on phases fail
the router ring (R367). -/
def execPhaseFailure (d : Die) (p : Fin 14) (s : State) : Host.Outcome State Fault Refusal :=
  let w := s.phases d.val
  if !s.pwr.busOn || s.dieFenced d.val || w.toNat.testBit p.val then .next s.turnAway
  else
    let n := w ||| BitVec.ofNat 16 (2 ^ p.val)
    let t := (({ s with pwr := { s.pwr with phase := tset 0 s.pwr.phase d.val n } }).count
      .power d.val 0x0C 1).logRows
    let ev := t.event 0x1010 none (locDie d.val) p.val
    .next (if 12 ≤ p.val then (if n.toNat / 4096 % 4 = 3 then t.ringFail d.val else ev)
      else if corePhases n = 1 then ev
      else if corePhases n = 2 then ev.modDieClk d.val (fun x => { x with phaseCeil := 28 })
      else (t.fault 0x1011 none (locDie d.val) p.val).dieFail d.val).ok

/-! ### Transients (R376) -/

/-- SHUNT: 25 mV above the set point. -/
def execShunt (d : Die) (mv : Nat) (s : State) : Host.Outcome State Fault Refusal :=
  .next (if s.domOn (312 + d.val) ∧ 25 ≤ mv then (s.count .power d.val 0x00 1).ok else s.turnAway)

/-- BOOST: 25 mV below the set point; the reservoir recharges within 20 µs. -/
def execBoost (d : Die) (mv : Nat) (s : State) : Host.Outcome State Fault Refusal :=
  .next (if !s.domOn (312 + d.val) ∨ mv < 25 then s.turnAway
    else if tget 0 s.pwr.boostUntil d.val ≤ s.now then
      ({ s with pwr := { s.pwr with boostUntil := tset 0 s.pwr.boostUntil d.val (s.now + 20000) } }.count
        .power d.val 0x04 1).ok
    else if 25 < mv then (s.count .power d.val 0x08 1).ok
    else s.turnAway)

/-! ### The flow request (R393) -/

/-- The lowest flow of a segment list at which θcal is at most t (R393). -/
def State.flowFrom (s : State) (t : Rat) : List (Rat × Rat × Nat) → Rat → Rat
  | [], top => top
  | (a, b, i) :: l, top =>
    let p := ratF32 (BitVec.ofInt 32 (s.cal 10 i))
    let q := ratF32 (BitVec.ofInt 32 (s.cal 10 (i + 1)))
    if p ≤ t then a
    else if q ≤ t then (if p = q then b else a + (p - t) * (b - a) / (p - q))
    else s.flowFrom t l top

/-- F(P) of R393 for a power in W, clamped to 40 L/min and the maximum. -/
def State.flowFor (s : State) (w : Nat) : Rat :=
  let top := ratF32 (BitVec.ofNat 32 (s.obj 0x3201 0x02))
  if w = 0 then 40
  else
    let t := (100 - ratF32 (s.coolant 0)) * 900 / (w : Rat)
    min top (max 40 (s.flowFrom t [(40, 60, 0), (60, 80, 1), (80, 100, 2), (100, 150, 3), (150, 200, 4)] top))

/-- Some die is at stage 1 or above (R384, R386). -/
def State.anyStage (s : State) : Bool :=
  s.thm.spot.any (fun p => if p.1 < 3276 then 1 ≤ p.2.stage else p.1 < 3588 && 2 ≤ p.2.stage)

/-- The forecast intervals that begin within the next 1 s (R393). -/
def State.soonForecast (s : State) : List Nat :=
  ((List.range 8).filter (fun i =>
    decide (s.now ≤ s.thm.forecastAt + i * 250000000)
      && decide (s.thm.forecastAt + i * 250000000 ≤ s.now + 1000000000))).map
    (fun i => (s.thm.forecast.getD i 0).toNat)

/-- The flow request (R393), less what SIMMER takes off it (R394). -/
def State.updateFlow (s : State) : State :=
  let top := BitVec.ofNat 32 (s.obj 0x3201 0x02)
  let want := (s.pwr.inputW :: (if s.thm.forecast.isEmpty then [] else s.soonForecast)).foldl
    (fun (q : Rat) w => max q (s.flowFor w)) 40
  let cut := max 40 (want - (s.thm.simmerCut : Rat) / 1000)
  { s with thm := { s.thm with
    flowReq := if s.anyStage || s.st == .safe then top else f32OfRat cut } }

/-! ### The power controller (R378) -/

/-- Saving of a die from a step, in W (R506 section 2). -/
def State.saving (s : State) (d n : Nat) : Nat := (s.cal 2 (d * 23 + (n - 8))).toNat

/-- Of two dies, the one that R378 lowers first. -/
def State.firstLowered (s : State) (d e : Nat) : Nat :=
  let n := (s.dieClk d).step
  let m := (s.dieClk e).step
  if m < n then d else if n < m then e
  else if s.saving e m < s.saving d n then d else if s.saving d n < s.saving e m then e
  else max d e

/-- Lowering within a scope until the excess is gone; the second part holds the dies lowered in this tick. -/
def State.lowerWhile (s : State) (scope : List Nat) : Nat → Int → List Nat → State × List Nat
  | 0, _, done => (s, done)
  | fuel + 1, excess, done =>
    let cand := scope.filter (fun d => 8 < (s.dieClk d).step && !done.contains d)
    match cand with
    | [] => (s, done)
    | d :: l =>
      if excess ≤ 0 then (s, done)
      else
        let d := l.foldl s.firstLowered d
        let n := (s.dieClk d).step
        let t := (s.modDieClk d (fun x => { x with powerCeil := n - 1 })).count .power d 0x14 1
        t.lowerWhile scope fuel (excess - s.saving d n) (d :: done)

/-- The constraints of R378: power over the last 1 ms, allowed power (both times 100), and scope. (PRESUMED, log 68) -/
def State.constraints (s : State) (p : PowerIn) : List (Nat × Nat × List Nat) :=
  let all := s.inService
  (100 * p.inputW, 100 * s.pwr.capW, all)
    :: (List.range 14).map (fun g =>
      (600 * p.groups.getD g 0, 570 * s.groupLimit g, all.filter (fun d => d / 13 == g)))

/-- The lowest of a die's ceilings but its power ceiling. -/
def State.otherCeil (s : State) (d : Nat) : Nat := ((s.ceilings d).set 2 30).foldl min 30

/-- One die's power ceiling rises by a step. -/
def State.raiseOne (s : State) (d : Nat) : State :=
  (s.modDieClk d (fun x => { x with powerCeil := x.powerCeil + 1 })).count .power d 0x18 1

/-- The die whose power ceiling is lowest below its other ceilings. -/
def State.lowestCeil (s : State) : Option Nat :=
  (s.inService.filter (fun d => (s.dieClk d).powerCeil < s.otherCeil d)).foldl
    (fun (o : Option Nat) d => match o with
      | some e => if (s.dieClk d).powerCeil < (s.dieClk e).powerCeil then some d else some e
      | none => some d) none

/-- The raise of a tick: a forecast interval's, or that of R378. -/
def State.raiseTick (s : State) (p : PowerIn) : State :=
  match s.thm.boostP with
  | some (w, till) =>
    if s.now < till then
      if p.inputW < w ∧ 100 * p.inputW < 95 * s.pwr.capW then
        (s.inService.filter (fun d => (s.dieClk d).powerCeil < 30)).foldl State.raiseOne s
      else s
    else { s with thm := { s.thm with boostP := none } }
  | none =>
    match s.pwr.lowSince with
    | some t =>
      if t + 100000000 ≤ s.now then
        match s.lowestCeil with
        | some d => s.raiseOne d
        | none => s
      else s
    | none => s

/-- Warming stops in every die (R394). (DEDUCED, log 72) -/
def State.stopWarming (s : State) : State :=
  { s with clk := { s.clk with
    dieBase := { s.clk.dieBase with warming := false }
    die := tmap (fun _ (x : DieClk) => { x with warming := false }) s.clk.die } }

/-- Dies with an island off for heat count the millisecond (R396). -/
def State.countHeatOff (s : State) : State :=
  let off := (s.clk.island.filter (fun p => p.1 < 5772 && p.2.st == 1)).map (fun p => p.1 / 37)
  off.eraseDups.foldl (fun (s : State) d => s.count .power d 0x28 1) s

/-- POWER_TICK (R378): measurements, cap, lowering, raising, and the flow request. -/
def execPowerTick (p : PowerIn) (s : State) : Host.Outcome State Fault Refusal :=
  if !s.pwr.busOn then .next s.turnAway
  else
    let s := { s with pwr := { s.pwr with
      inputMv := p.inputMv, inputDa := p.inputDa, inputW := p.inputW
      group := (List.range 14).foldl (fun t g => tset 0 t g (p.groups.getD g 0)) []
      diePower := (List.range 156).foldl (fun t d => tset 0 t d (p.dies.getD d 0)) [] } }
    let s := s.countHeatOff.updateCap
    let cs := s.constraints p
    let s := if cs.any (fun c => c.2.1 < c.1) then s.stopWarming else s
    let r := cs.foldl (fun (r : State × List Nat) c =>
      r.1.lowerWhile c.2.2 156 (((c.1 : Int) - c.2.1 + 99) / 100) r.2) (s, [])
    let low := cs.all (fun c => 100 * c.1 < 95 * c.2.1)
    let s := r.1
    let s := { s with pwr := { s.pwr with
      lowSince := if low then some (s.pwr.lowSince.getD s.now) else none } }
    .next ((s.raiseTick p).updateFlow).ok

/-! ### Records (R379–R381) -/

/-- CURRENT_LOG_ROW (R380): one 40-byte row, newest first in the state, at most 131,072. -/
def execCurrentLogRow (inputDa : Nat) (groups : List Nat) (s : State) : Host.Outcome State Fault Refusal :=
  let writes := match s.st with
    | .boot | .selftest | .safe | .updating => true
    | _ => decide (s.now < s.pwr.rowsUntil) || s.obj 0x3301 0x01 == 1
  let row := toLe 8 s.now ++ toLe 2 inputDa ++ (List.range 14).flatMap (fun g => toLe 2 (groups.getD g 0))
    ++ [BitVec.ofNat 8 (pstateCode s.st), 0]
  .next (if writes then { s with
      pwr := { s.pwr with rows := (row :: s.pwr.rows).take 131072 }, answer := .done }
    else s.turnAway)

/-- min_voltage_clear (R379): 1 resets every record. -/
def State.clearMinMv (s : State) (v : Bool) : State :=
  (if v then { s with pwr := { s.pwr with minMv := [] } } else s).fstatus .ok

/-- MIN_VOLTAGE_CLEAR (R379). -/
def execMinVoltageClear (v : Bool) (s : State) : Host.Outcome State Fault Refusal := .next (s.clearMinMv v)

/-- Insertion into an ascending list. -/
def insertNat (a : Nat) : List Nat → List Nat
  | [] => [a]
  | b :: l => if a ≤ b then a :: b :: l else b :: insertNat a l

/-- The median: the mean of the two middle values where their number is even. (DEDUCED, log 69) -/
def medianNat (l : List Nat) : Nat :=
  let t := l.foldr insertNat []
  let n := t.length
  if n = 0 then 0
  else if n % 2 = 1 then t.getD (n / 2) 0
  else (t.getD (n / 2 - 1) 0 + t.getD (n / 2) 0) / 2

/-- RESISTANCE_UPDATE (R381): at least 16 samples; three consecutive updates above 1.30 or 1.60 of the baseline.
resHigh holds the two runs, each at most 3. -/
def execResistanceUpdate (d : Die) (samples : List Nat) (s : State) : Host.Outcome State Fault Refusal :=
  if samples.length < 16 ∨ !s.domOn (312 + d.val) then .next s.turnAway
  else
    let k := d.val
    let all := (tget [] s.pwr.res k) ++ samples
    let kept := all.drop (all.length - 64)
    let m := medianNat kept
    let base := (s.cal 9 k).toNat
    let old := tget 0 s.pwr.resHigh k
    let a := if 130 * base < 100 * m then min 3 (old % 4 + 1) else 0
    let b := if 160 * base < 100 * m then min 3 (old / 4 + 1) else 0
    let s := ({ s with pwr := { s.pwr with
      res := tset [] s.pwr.res k kept
      resMedian := tset 0 s.pwr.resMedian k m
      resHigh := tset 0 s.pwr.resHigh k (a + 4 * b) } }).count .power k 0x34 1
    let last := tget 0 s.pwr.resEvent k
    let s := if a = 3 ∧ (last = 0 ∨ last - 1 + 3600000000000 ≤ s.now) then
        ({ s with pwr := { s.pwr with resEvent := tset 0 s.pwr.resEvent k (s.now + 1) } }).event
          0x1030 none (locDie k) m
      else s
    .next (if b = 3 then (s.fault 0x1031 none (locDie k) m).dieFail k else s).ok

end Sys2Proof.Machine
end

