-- ==== Sys2Proof/Machine/Heat.lean ====
section
/-! DEFINITION. Temperatures, throttle stages and trips, coolant, θ, forecasts and SIMMER (R382–R394). -/

namespace Sys2Proof.Machine

/-! ### Hot spots (R382) -/

/-- The key of a hot spot. -/
def spotKey : Spot → Nat
  | .tile d t => d.val * 20 + t.val
  | .commons d => 3120 + d.val
  | .stack k => 3276 + k.val
  | .hub h => 3588 + h.val
  | .vent v => 3590 + v.val

/-- Where a hot spot's entries are logged (R398), and the index of its first sensor there. -/
def spotLoc : Spot → Loc
  | .tile d _ => locDie d.val
  | .commons d => locDie d.val
  | .stack k => locStackPhys k.val
  | .hub h => locHub h.val
  | .vent v => locVent v.val
def spotSensor : Spot → Nat
  | .tile _ t => 2 * t.val
  | .commons _ => 40
  | _ => 0

/-- The die of a hot spot: its own, or the cell's die of a stack. -/
def spotDie : Spot → Option Nat
  | .tile d _ => some d.val
  | .commons d => some d.val
  | .stack k => some (k.val / 2)
  | _ => none

/-- A counter of the die of a hot spot. -/
def State.countSpot (s : State) (x : Spot) (off : Nat) : State :=
  match spotDie x with
  | some d => s.count .power d off 1
  | none => s

/-- Twice the governing temperature in 0.01 °C: the mean, the hotter, or the sensor that is left (R382, R383). -/
def SpotS.twice (x : SpotS) : Int :=
  if x.exA then 2 * x.b else if x.exB then 2 * x.a
  else if x.hotter then 2 * max x.a x.b
  else x.a + x.b

/-- At or above a temperature in °C. -/
def SpotS.atLeast (x : SpotS) (c : Int) : Bool := 200 * c ≤ x.twice

/-- A hot spot takes readings. -/
def State.readSpot (s : State) (x : Spot) (a b : Int) : State :=
  s.modSpot (spotKey x) (fun y => { y with a := if y.exA then y.a else a, b := if y.exB then y.b else b })

/-! ### Actions of the stages (R384–R387) -/

/-- Event 0x2001 for a die, at most once per 10 s. -/
def State.event2001 (s : State) (d detail : Nat) : State :=
  let last := tget 0 s.thm.event2001 d
  if last ≠ 0 ∧ s.now < last - 1 + 10000000000 then s
  else ({ s with thm := { s.thm with event2001 := tset 0 s.thm.event2001 d (s.now + 1) } }).event
    0x2001 none (locDie d) detail

/-- Stage 1 at a die: the thermal ceiling goes one step below the current step. -/
def State.stageOne (s : State) (d detail : Nat) : State :=
  let s := s.modDieClk d (fun x => { x with thermalCeil := min x.thermalCeil (x.step - 1) })
  let s := { s with thm := { s.thm with lowered := tset 0 s.thm.lowered d (s.now + 1) } }
  (s.event2001 d detail).count .power d 0x1C 1

/-- A hot spot enters a stage. A stack's stages are those of R386 in order, a hub's or vent die's those of R387. (DEDUCED, log 48; DEDUCED, log 161) -/
def State.enterStage (s : State) (x : Spot) (n : Nat) : State :=
  let s := s.modSpot (spotKey x) (fun y => { y with stage := n })
  let at_ := spotSensor x
  match x, n with
  | .tile d _, 1 => s.stageOne d.val at_
  | .commons d, 1 => s.stageOne d.val at_
  | .tile d _, 2 | .commons d, 2 =>
    ((s.modDieClk d.val (fun x => { x with thermalCeil := 8 })).event 0x2002 none (locDie d.val) at_).count
      .power d.val 0x20 1
  | .tile d _, 3 | .commons d, 3 => (s.event 0x2003 none (locDie d.val) at_).count .power d.val 0x24 1
  | .stack k, 2 => s.stageOne (k.val / 2) at_
  | .stack k, 3 => s.event 0x2002 none (locStackPhys k.val) at_
  | .hub h, 1 => s.event 0x2001 none (locHub h.val) at_
  | .hub _, 2 => s.enterSafe none
  | .vent v, 1 => s.event 0x2001 none (locVent v.val) at_
  | .vent v, 2 => s.openFuse (.vent v)
  | _, _ => s

/-- Enter and leave temperatures of a hot spot's stages, from stage 1 on. -/
def stageEnter : Spot → List Int
  | .tile _ _ | .commons _ => [95, 100, 105]
  | .stack _ => [85, 90, 95]
  | .hub _ | .vent _ => [100, 105]
def stageLeave : Spot → List Int
  | .tile _ _ | .commons _ => [93, 98, 95]
  | .stack _ => [83, 88, 90]
  | .hub _ | .vent _ => [100, 105]

/-- Stages above the present one whose temperature is reached, lowest first. -/
def enters (x : SpotS) (l : List Int) : List Nat :=
  ((List.range l.length).filter (fun i => decide (x.stage ≤ i) && x.atLeast (l.getD i 0))).map (· + 1)

/-- THERMAL_STAGE_ENTER (R384–R387): every stage between is entered on the way. -/
def execThermalStageEnter (x : Spot) (a b : Int) (s : State) : Host.Outcome State Fault Refusal :=
  let t := s.readSpot x a b
  let l := enters (t.spot (spotKey x)) (stageEnter x)
  .next (if l.isEmpty ∨ s.st = .off then t.turnAway else ((l.foldl (fun (t : State) n => t.enterStage x n) t).updateFlow).ok)

/-- Hot spots of a die at or above a stage: tiles, commons, and its stacks one stage later (R386). -/
def State.hotAt (s : State) (d n : Nat) : List Nat :=
  ((List.range 20).map (fun t => d * 20 + t) ++ [3120 + d]).filter (fun k => n ≤ (s.spot k).stage)
    ++ (if n = 1 then [3276 + 2 * d, 3277 + 2 * d].filter (fun k => 2 ≤ (s.spot k).stage) else [])

/-- THERMAL_STAGE_LOWER (R384): while T stays at 95 °C (90 °C at a stack), one further step every 5 ms. -/
def execThermalStageLower (d : Die) (s : State) : Host.Outcome State Fault Refusal :=
  let hot := (s.hotAt d.val 1).any (fun k => (s.spot k).atLeast (if k < 3276 then 95 else 90))
  let last := tget 0 s.thm.lowered d.val
  .next (if hot ∧ last ≠ 0 then
      let s := s.notBefore (last - 1 + 5000000)
      { (s.modDieClk d.val (fun x => { x with thermalCeil := max 8 (x.thermalCeil - 1) })) with
        thm := { s.thm with lowered := tset 0 s.thm.lowered d.val (s.now + 1) }
        answer := .done }
    else s.turnAway)

/-- The highest stage that a hot spot keeps after T has been below its leave temperature. -/
def keeps (x : SpotS) (l : List Int) (long : Bool) : Nat :=
  ((List.range x.stage).filter (fun i => x.atLeast (l.getD i 0) || (i == 0 && !long))).foldl
    (fun m i => max m (i + 1)) 0

/-- Leaving a stage of a die: from stage 2 to stage 1 at the current step; from stage 3 a switch-on waits. -/
def State.leaveDie (s : State) (d i old new : Nat) : State :=
  let s := if 2 ≤ old ∧ new < 2 ∧ (s.hotAt d 2).isEmpty then
      s.modDieClk d (fun x => { x with thermalCeil := x.step })
    else s
  let s := { s with thm := { s.thm with raised := tset 0 s.thm.raised d (s.now + 1) } }
  if h : d < 156 ∧ i < 21 then
    if old = 3 ∧ new < 3 then s.requestOn (.island ⟨d, h.1⟩ ⟨i, h.2⟩) else s
  else s

/-- THERMAL_STAGE_EXIT (R384, R386): T has been below the leave temperature for 100 ms, or 1 s for the refresh of
a stack. -/
def execThermalStageExit (x : Spot) (a b : Int) (ms : Nat) (s : State) : Host.Outcome State Fault Refusal :=
  let t := s.readSpot x a b
  let y := t.spot (spotKey x)
  let long := match x with | .stack _ => decide (1000 ≤ ms) | _ => true
  let n := if y.exA && y.exB then y.stage else keeps y (stageLeave x) long
  if ms < 100 ∨ y.stage ≤ n then .next t.turnAway
  else
    let t := t.modSpot (spotKey x) (fun y => { y with stage := n })
    .next ((match x with
      | .tile d q => t.leaveDie d.val q.val y.stage n
      | .commons d => t.leaveDie d.val 20 y.stage n
      | .stack k => { t with thm := { t.thm with raised := tset 0 t.thm.raised (k.val / 2) (t.now + 1) } }
      | _ => t).updateFlow).ok

/-- THERMAL_CEILING_RAISE (R384): below stage 1 the ceiling rises one step per 100 ms. -/
def execThermalCeilingRaise (d : Die) (s : State) : Host.Outcome State Fault Refusal :=
  .next (if (s.hotAt d.val 1).isEmpty ∧ (s.dieClk d.val).thermalCeil < 30 then
      let s := s.notBefore (tget 0 s.thm.raised d.val + 100000000 - 1)
      { (s.modDieClk d.val (fun x => { x with thermalCeil := x.thermalCeil + 1 })) with
        thm := { s.thm with raised := tset 0 s.thm.raised d.val (s.now + 1) }
        answer := .done }
    else s.turnAway)

/-! ### Sensors (R382, R383) -/

/-- SENSOR_DISAGREEMENT (R382): more than 5 °C for more than 10 ms: the hotter governs. -/
def execSensorDisagreement (x : Spot) (a b : Int) (ms : Nat) (s : State) : Host.Outcome State Fault Refusal :=
  let y := s.spot (spotKey x)
  .next (if !y.hotter && !y.exA && !y.exB && decide (500 < (a - b).natAbs) && decide (10 < ms) then
      ((((s.readSpot x a b).modSpot (spotKey x) (fun y => { y with hotter := true })).event 0x2004 none (spotLoc x)
        (spotSensor x)).countSpot x 0x2C).ok
    else s.turnAway)

/-- SENSORS_AGREE (R382): within 5 °C for 1 s: the mean governs again. -/
def execSensorsAgree (x : Spot) (a b : Int) (ms : Nat) (s : State) : Host.Outcome State Fault Refusal :=
  .next (if (s.spot (spotKey x)).hotter ∧ (a - b).natAbs ≤ 500 ∧ 1000 ≤ ms then
      ((s.readSpot x a b).modSpot (spotKey x) (fun y => { y with hotter := false })).ok
    else s.turnAway)

/-- Both sensors of a hot spot are excluded (R383): fault 0x2006; the tile or die fails, and another part counts as
hot as its highest stage. -/
def State.spotBlind (s : State) (x : Spot) : State :=
  let s := s.fault 0x2006 none (spotLoc x) (spotSensor x)
  match x with
  | .tile d t => s.tileFail d.val t.val
  | .commons d => s.dieFail d.val
  | .stack _ =>
    ((List.range 3).filter (fun i => decide ((s.spot (spotKey x)).stage ≤ i))).foldl
      (fun (s : State) i => s.enterStage x (i + 1)) s
  | .hub _ | .vent _ =>
    ((List.range 2).filter (fun i => decide ((s.spot (spotKey x)).stage ≤ i))).foldl
      (fun (s : State) i => s.enterStage x (i + 1)) s

/-- SENSOR_EXCLUSION (R383): a reading outside −20…150 °C excludes the sensor until the next start. -/
def execSensorExclusion (x : Spot) (which : Fin 2) (reading : Int) (s : State) :
    Host.Outcome State Fault Refusal :=
  let y := s.spot (spotKey x)
  let had := if which = 0 then y.exA else y.exB
  if had || (decide (-2000 ≤ reading) && decide (reading ≤ 15000)) then .next s.turnAway
  else
    let t := s.modSpot (spotKey x) (fun y =>
      if which = 0 then { y with exA := true } else { y with exB := true })
    let t := (t.event 0x2005 none (spotLoc x) (spotSensor x + which.val)).countSpot x 0x30
    .next (if (if which = 0 then y.exB else y.exA) then t.spotBlind x else t).ok

/-! ### Trips (R384, R386, R387) -/

/-- A trip is noted; a second one within 60 s raises fault 0x2011, and the panel enters SAFE. (DEDUCED, log 71) -/
def State.noteTrip (s : State) (l : Loc) : State :=
  let again := match s.thm.lastTrip with
    | some t => decide (s.now ≤ t + 60000000000)
    | none => false
  let s := { s with thm := { s.thm with lastTrip := some s.now } }
  if again then s.safeFault 0x2011 l else s

/-- Fault 0x2010 with THERMTRIP_N (R559). -/
def State.tripFault (s : State) (l : Loc) (detail : Nat) : State :=
  ({ s with pins := { s.pins with thermtrip := true } }).fault 0x2010 none l detail

/-- The trip point of a spot in 0.01 °C: 105 °C in a stack, 115 °C elsewhere (R384–R387). -/
def tripLimit : Spot → Int
  | .stack _ => 10500
  | _ => 11500

/-- THERMAL_TRIP: one sensor at 115 °C (105 °C at a stack) on three consecutive samples. -/
def execThermalTrip (x : Spot) (which : Fin 2) (r1 r2 r3 : Int) (s : State) : Host.Outcome State Fault Refusal :=
  let y := s.spot (spotKey x)
  let lim := tripLimit x
  let ex := if which = 0 then y.exA else y.exB
  if s.st = .off ∨ y.tripped ∨ ex ∨ r1 < lim ∨ r2 < lim ∨ r3 < lim then .next s.turnAway
  else
    let s := s.modSpot (spotKey x) (fun y => { y with tripped := true })
    let at_ := spotSensor x + which.val
    .next ((match x with
      | .tile d _ | .commons d => (s.tripFault (locDie d.val) at_).dieFail d.val
      | .stack k => (s.fault 0x2012 none (locStackPhys k.val) at_).openFuse (.stack k)
      | .hub h => (s.tripFault (locHub h.val) at_).enterSafe (some 0x2010)
      | .vent v => ((s.tripFault (locVent v.val) at_).setDom (468 + v.val) false).linkOff v.val).noteTrip
        (spotLoc x)).ok

/-! ### Coolant (R388, R389) -/

/-- The lowest and highest accepted sample of a value. -/
def coolantRange (which : Nat) : W32 × W32 :=
  match which with
  | 0 => (0x40A00000, 0x42700000)
  | 1 => (0x40A00000, 0x42A00000)
  | _ => (0x00000000, 0x43480000)

/-- Insertion into an ascending list of FP32 words. -/
def insertF32 (a : W32) : List W32 → List W32
  | [] => [a]
  | b :: l => if fle a b then a :: b :: l else b :: insertF32 a l

/-- The median of at most five words; of an even number the lower middle one. -/
def medianF32 (l : List W32) : W32 := (l.foldr insertF32 []).getD ((l.length - 1) / 2) 0

/-- When the flow used has changed by more than 5%, θ follows the calibration curve (R391). -/
def State.flowChanged (s : State) : State :=
  let new := ratF32 (s.coolant 2)
  let old := ratF32 s.thm.thetaFlow
  if 100 * |new - old| ≤ 5 * old then s
  else
    let a := s.thetaCal old
    { s with thm := { s.thm with
      theta := if a ≤ 0 then s.thm.theta else f32OfRat (ratF32 s.thm.theta * s.thetaCal new / a)
      thetaFlow := s.coolant 2 } }

/-- A coolant sample (R388): one in range enters the median of the last five; another is discarded. -/
def State.coolantSample (s : State) (k : Nat) (v : W32) : State :=
  let r := coolantRange k
  if !(fle r.1 v && fle v r.2) then
    { s with thm := { s.thm with rejected := min (s.thm.rejected + 1) 0xFFFFFFFF } }.fstatus .ok
  else
    let l := (v :: (if s.thm.timeout.getLsbD k then [] else tget [] s.thm.samples k)).take 5
    let s := s.setObj 0x3200 (k + 1) v.toNat
    let t := { s with thm := { s.thm with
      samples := tset [] s.thm.samples k l
      used := tset (coolantFallback k) s.thm.used k (medianF32 l)
      accepted := tset 0 s.thm.accepted k s.now
      timeout := BitVec.ofNat 3 (s.thm.timeout.toNat - (if s.thm.timeout.getLsbD k then 2 ^ k else 0))
      below40 := if k = 2 then flt v 0x42200000 else s.thm.below40 } }
    let t := if k = 2 ∧ flt v 0x42200000 ∧ (s.st = .idle ∨ s.st = .run) then t.event 0x2021 none (locHub 0) else t
    (if k = 2 then t.flowChanged else t).updateCap.fstatus .ok

/-- COOLANT_SAMPLE (R388). -/
def execCoolantSample (which : Fin 3) (v : W32) (s : State) : Host.Outcome State Fault Refusal :=
  .next (s.coolantSample which.val v)

/-- COOLANT_TIMEOUT (R388): 500 ms without an accepted sample: the fallback value, and event 0x2020. -/
def execCoolantTimeout (which : Fin 3) (s : State) : Host.Outcome State Fault Refusal :=
  let k := which.val
  if s.thm.timeout.getLsbD k then .next s.turnAway
  else
    let s := s.notBefore (tget 0 s.thm.accepted k + 500000000)
    let t := { s with thm := { s.thm with
      timeout := s.thm.timeout ||| BitVec.ofNat 3 (2 ^ k), samples := tset [] s.thm.samples k [] } }
    let t := t.event 0x2020 none (locHub 0) k
    .next ((if k = 2 then t.flowChanged else t).updateCap).ok

/-- OUTLET_BELOW_INLET (R388): more than 1 °C below for 10 s raises event 0x2022. -/
def execOutletBelowInlet (ms : Nat) (s : State) : Host.Outcome State Fault Refusal :=
  .next (if 10000 ≤ ms ∧ !s.thm.timeout.getLsbD 1 ∧ ratF32 (s.coolant 1) < ratF32 (s.coolant 0) - 1 then
      (s.event 0x2022 none (locHub 0)).ok
    else s.turnAway)

/-- LOW_FLOW (R389): below 20 L/min for 1 s: fault 0x2030 and SAFE. -/
def execLowFlow (ms : Nat) (s : State) : Host.Outcome State Fault Refusal :=
  .next (if 1000 ≤ ms ∧ flt (s.coolant 2) 0x41A00000 ∧ s.st ≠ .off then (s.safeFault 0x2030 (locHub 0)).ok
    else s.turnAway)

/-! ### θ, forecasts and SIMMER (R391–R394) -/

/-- THETA_UPDATE (R391): every 1 s at 10 kW or more while no coolant value is in timeout. -/
def execThetaUpdate (hottest : Int) (inputW : Nat) (s : State) : Host.Outcome State Fault Refusal :=
  let th := ratF32 s.thm.theta
  let m := ((hottest : Rat) / 100 - ratF32 (s.coolant 0)) * 1000 / (inputW : Rat)
  .next (if 10000 ≤ inputW ∧ s.thm.timeout = 0 then
      (({ s with thm := { s.thm with
        theta := f32OfRat (if th < m then m else th + (m - th) / 30) } }).updateCap).ok
    else s.turnAway)

/-- power_forecast (R392): eight values of at most 66,000 W replace the forecast. -/
def State.takeForecast (s : State) (p : List W32) : State :=
  if p.length = 8 ∧ p.all (fun w => w.toNat ≤ 66000) then
    ({ s with thm := { s.thm with forecast := p, forecastAt := s.now, boostP := none } }.updateFlow).fstatus .ok
  else s.fstatus .range

/-- POWER_FORECAST (R392). -/
def execPowerForecast (p : List W32) (s : State) : Host.Outcome State Fault Refusal := .next (s.takeForecast p)

/-- FORECAST_INTERVAL (R392): interval i begins; above the measured input it raises ceilings until it ends. -/
def execForecastInterval (i : Fin 8) (inputW : Nat) (s : State) : Host.Outcome State Fault Refusal :=
  let b := s.thm.forecastAt + i.val * 250000000
  let w := (s.thm.forecast.getD i.val 0).toNat
  .next (if !s.thm.forecast.isEmpty ∧ s.now < b + 250000000 then
      let s := s.notBefore b
      (({ s with thm := { s.thm with
        boostP := if inputW < w then some (w, b + 250000000) else none } }).updateFlow).ok
    else s.turnAway)

/-- FORECAST_EXPIRY (R392): 2 s after it was accepted. -/
def execForecastExpiry (s : State) : Host.Outcome State Fault Refusal :=
  .next (if !s.thm.forecast.isEmpty then
      let s := s.notBefore (s.thm.forecastAt + 2000000000)
      (({ s with thm := { s.thm with forecast := [], boostP := none } }).updateFlow).ok
    else s.turnAway)

/-- A die warms while it is idle and below the floor; it stops at the floor plus 2 °C. -/
def State.warmDie (s : State) (d : Nat) (temp : Int) (ms : Nat) : State :=
  let floor : Int := s.obj 0x3220 0x01
  let cold := decide (temp < 100 * (floor - 2))
  let on := (cold || ((s.dieClk d).warming && decide (temp < 100 * (floor + 2)))) && s.dieRole d != 4
  let s := s.modDieClk d (fun x => { x with warming := on })
  if on then s.count .power d 0x38 ms else s

/-- SIMMER_CHECK (R394): idle dies with their temperatures, over ms. The flow request falls by 5 L/min per second
while every in-service die is idle and one is cold; cold dies run warming rounds. -/
def execSimmerCheck (temps : List (Die × Int)) (ms : Nat) (s : State) : Host.Outcome State Fault Refusal :=
  let floor : Int := s.obj 0x3220 0x01
  let cold := temps.any (fun p => decide (p.2 < 100 * (floor - 2)))
  let allIdle := s.inService.all (fun d => temps.any (fun p => p.1.val == d))
  if s.obj 0x3220 0x02 ≠ 1 ∨ !(s.st == .idle || s.st == .run) then .next s.turnAway
  else
    let s := { s with thm := { s.thm with
      simmerCut := if cold && allIdle then min 160000 (s.thm.simmerCut + 5 * ms) else 0 } }
    .next ((temps.foldl (fun (s : State) p => s.warmDie p.1.val p.2 ms) s).updateFlow).ok

end Sys2Proof.Machine
end

