-- ==== Sys2Proof/Machine/Host.lean ====
section
/-! DEFINITION. The commands of the host sites: links, packets, the mailbox, doorbells and DMA movers
(R442–R463). -/

namespace Sys2Proof.Machine

/-! ### Links (R444) -/

/-- The host site has its supply. -/
def State.siteOn (s : State) (h : Nat) : Bool := s.domOn (516 + h)

/-- The state of a site's link changes, with doorbell cause 3. -/
def State.setLink (s : State) (h st : Nat) (modules : BitVec 4) : State :=
  (s.modSite h (fun x => { x with link := st, modules := modules })).doorbell h 3

/-- Event 0x5030 for every module that is out of service. -/
def State.missingModules (s : State) (h : Nat) (modules : BitVec 4) : State :=
  ((List.range 4).filter (fun m => !modules.getLsbD m)).foldl (fun (s : State) m =>
    s.event 0x5030 none (locHub h) (h + m * 256)) s

/-- Training ends: UP with the modules that passed, or DOWN with fault 0x5031. `back`: a return to UP. (DEDUCED, log 94) -/
def State.trainSite (s : State) (h : Nat) (modules : BitVec 4) (back : Bool) : State :=
  if modules = 0 then
    ((s.modSite h (fun x => { x with downAt := s.now, fails := 0 })).setLink h 3 0).fault 0x5031 none (locHub h) h
  else
    let s := ((s.modSite h (fun x => { x with fails := 0 })).setLink h 2 modules).missingModules h modules
    if back then s.event 0x5032 none (locHub h) h else s

/-- HOST_LINK_TRAIN (R444): the supply of the site has been admitted. -/
def execHostLinkTrain (h : Hub) (modules : BitVec 4) (s : State) : Host.Outcome State Fault Refusal :=
  .next (if s.siteOn h.val ∧ (s.site h.val).link = 0 ∧ s.st ≠ .off then (s.trainSite h.val modules false).ok
    else s.turnAway)

/-- HOST_LINK_ERROR (R444): one retrain; the third that fails within 1 s takes the link DOWN, and what is in flight
ends PATH_FAULT. -/
def execHostLinkError (h : Hub) (modules : BitVec 4) (s : State) : Host.Outcome State Fault Refusal :=
  let x := s.site h.val
  let recent := x.retrains.filter (fun t => decide (s.now < t + 1000000000))
  if (x.link ≠ 1 ∧ x.link ≠ 2) ∨ 3 ≤ recent.length then .next s.turnAway
  else
    let s := (s.modSite h.val (fun y => { y with retrains := s.now :: recent, fails := y.fails + 1 })).count
      .host h.val 0x24 1
    .next (if modules ≠ 0 then s.trainSite h.val modules true
      else if recent.length = 2 ∧ 2 ≤ x.fails then (s.trainSite h.val 0 true).endHost h.val .pathFault 0x5031
      else s.setLink h.val 1 0).ok

/-- HOST_LINK_RETRY (R444): every 10 s while DOWN. -/
def execHostLinkRetry (h : Hub) (modules : BitVec 4) (s : State) : Host.Outcome State Fault Refusal :=
  let x := s.site h.val
  .next (if x.link = 3 then
      let s := s.notBefore (x.downAt + 10000000000)
      (if modules = 0 then s.modSite h.val (fun y => { y with downAt := s.now })
       else s.trainSite h.val modules true).ok
    else s.turnAway)

/-- HOST_THERMTRIP (R459): the supply of the site is removed, and the site is TRIPPED. -/
def execHostThermtrip (h : Hub) (s : State) : Host.Outcome State Fault Refusal :=
  .next (if s.siteOn h.val ∧ (s.site h.val).link ≠ 4 then
      let s := (s.setDom (516 + h.val) false).setLink h.val 4 0
      (((s.endHost h.val .pathFault 0x2010).tripFault (locHub h.val) h.val).noteTrip (locHub h.val)).ok
    else s.turnAway)

/-! ### Packets (R445, R446, R452) -/

/-- An access while the mainband serves none: PATH_FAULT, with its completion where QUENCH has stopped the hub (R460). -/
def State.unserved (s : State) (h : Nat) (q : HostReq) : State :=
  if (s.site h).link = 2 then s.hostDone h q .pathFault 0 else s.status .pathFault

/-- H_WRITE (R452): a posted write to registers, rings or the window, behind those that wait. -/
def execHWrite (h : Hub) (kind : Byte) (length : W16) (addr : W64) (data : Bytes) (s : State) :
    Host.Outcome State Fault Refusal :=
  let q : HostReq := { write := true, tag := 0, addr := addr, len := data.length, data := data }
  .next (if !s.hostLive h.val then s.unserved h.val q
    else if kind ≠ 1 ∨ 4096 < length.toNat ∨ data.length ≠ length.toNat then (s.badHost h.val).turnAway
    else s.hostPush h.val q)

/-- H_READ (R452, R453): a read after every earlier packet of the site. -/
def execHRead (h : Hub) (kind tag : Byte) (length : W16) (addr : W64) (s : State) :
    Host.Outcome State Fault Refusal :=
  let q : HostReq := { write := false, tag := tag, addr := addr, len := length.toNat, data := [] }
  .next (if !s.hostLive h.val then s.unserved h.val q
    else if kind ≠ 2 then
      { ((s.badHost h.val).count .host h.val 0x14 1).send (.host h.val 3 tag .addrError []) with
        answer := .data .addrError [] }
    else if 4096 < length.toNat then (s.badHost h.val).hostDone h.val q .addrError 0x5033
    else s.hostPush h.val q)

/-- DP_STATUS_READ (R453): the fence of the data port. -/
def execDpStatusRead (h : Hub) (tag : Byte) (s : State) : Host.Outcome State Fault Refusal :=
  let q : HostReq := { write := false, tag := tag, addr := 0x10010, len := 4, data := [] }
  .next (if !s.hostLive h.val then s.unserved h.val q else s.hostPush h.val q)

/-- A register write of a site's host or of firmware, in the order of the site's packets. -/
def State.hubRegister (s : State) (h off : Nat) (v : W32) : State :=
  if s.st = .off ∨ s.st = .quenched then s.turnAway
  else s.hostPush h { write := true, tag := 0, addr := BitVec.ofNat 64 off, len := 4, data := toLe 4 v.toNat }

/-- DP_CTRL (R451). -/
def execDpCtrl (h : Hub) (v : W32) (s : State) : Host.Outcome State Fault Refusal := .next (s.hubRegister h.val 0x10008 v)

/-- DP_STATUS (R451): a 1 in bit 4 clears error, status and code. -/
def execDpStatus (h : Hub) (v : W32) (s : State) : Host.Outcome State Fault Refusal :=
  .next (s.hubRegister h.val 0x10010 v)

/-! ### Mailbox and doorbells (R448–R450) -/

/-- The host reaches the sideband registers. -/
def State.sideband (s : State) (h : Nat) : Bool :=
  let n := (s.site h).link
  s.st != .off && (n == 1 || n == 2 || n == 3)

/-- Inbound busy: until the hub has taken the frame, within 10 µs. -/
def State.inBusy (s : State) (h : Nat) : Bool := (s.site h).busy && decide (s.now < (s.site h).busyAt + 10000)

/-- MB_STATUS (R448). -/
def State.mbStatus (s : State) (h : Nat) : Nat :=
  let x := s.site h
  let flag (b : Bool) (n : Nat) : Nat := if b then n else 0
  let st := match s.st with
    | .off => 0 | .boot => 1 | .selftest => 2 | .idle => 3 | .run => 4 | .quenched => 5 | .safe => 6 | .updating => 7
  flag (s.inBusy h) 1 + flag x.full 2 + flag (s.hostLive h) 4 + flag x.overrun 8 + st * 16

/-- A write of MB_IN_LEN: the inbound doorbell, or overrun. -/
def State.mailLen (s : State) (h : Nat) (len : W32) : State :=
  if s.inBusy h ∨ len.toNat < 32 ∨ 4096 < len.toNat then
    (s.modSite h (fun x => { x with overrun := true })).count .host h 0x20 1
  else
    (s.modSite h (fun x => { x with inLen := len, busy := true, busyAt := s.now })).count .host h 0x18 1

/-- The hub has taken the inbound frame. -/
def State.frameTaken (s : State) (h : Nat) : State := s.modSite h (fun x => { x with busy := false })

/-- The outbound frame has been consumed: the next one is written. -/
def State.mailConsumed (s : State) (h : Nat) : State :=
  let x := s.site h
  if !x.full then s
  else match x.queue with
    | [] => s.modSite h (fun y => { y with full := false, mbOut := [] })
    | f :: l => (s.modSite h (fun y => { y with queue := l })).mailPut h f

/-- Overrun is cleared. -/
def State.clearOverrun (s : State) (h : Nat) : State := s.modSite h (fun x => { x with overrun := false })

/-- DB_STATUS: a 1 clears its cause. -/
def State.clearCauses (s : State) (h : Nat) (v : W32) : State :=
  s.modSite h (fun x => { x with dbStatus := x.dbStatus &&& ~~~v &&& 0xF })

/-- A 32-bit sideband write (R448). -/
def State.mailboxWrite (s : State) (h off : Nat) (v : W32) : State :=
  if off < 0x1000 then
    s.modSite h (fun x => { x with mbIn := (toLe 4 v.toNat).zipIdx.foldl (fun (t : Tbl Byte) p =>
      tset 0 t (off / 4 * 4 + p.2) p.1) x.mbIn })
  else match off with
  | 0x2000 => s.mailLen h v
  | 0x200C =>
    let s := if v.getLsbD 0 then s.mailConsumed h else s
    if v.getLsbD 3 then s.clearOverrun h else s
  | 0x2010 => s.modSite h (fun x => { x with dbMask := v &&& 0xF })
  | 0x2014 => s.clearCauses h v
  | _ => s

/-- A sideband command: nothing where the host cannot reach the sideband. -/
def State.sidebandCmd (s : State) (h : Nat) (f : State → State) : State :=
  if s.sideband h then (f s).ok else s.turnAway

/-- MB_IN_LEN (R449). -/
def execMbInLen (h : Hub) (len : W32) (s : State) : Host.Outcome State Fault Refusal :=
  .next (s.sidebandCmd h.val (fun s => s.mailLen h.val len))

/-- MB_ACK_CONSUMED (R449). -/
def execMbAckConsumed (h : Hub) (s : State) : Host.Outcome State Fault Refusal :=
  .next (s.sidebandCmd h.val (fun s => s.mailConsumed h.val))

/-- MB_ACK_CLEAR_OVERRUN (R448). -/
def execMbAckClearOverrun (h : Hub) (s : State) : Host.Outcome State Fault Refusal :=
  .next (s.sidebandCmd h.val (fun s => s.clearOverrun h.val))

/-- DB_STATUS_CLEAR (R450). -/
def execDbStatusClear (h : Hub) (v : W32) (s : State) : Host.Outcome State Fault Refusal :=
  .next (s.sidebandCmd h.val (fun s => s.clearCauses h.val v))

/-! ### Movers (R455, R456) -/

/-- MOVER_TAIL (R455). -/
def execMoverTail (h : Hub) (m : Fin 8) (v : W32) (s : State) : Host.Outcome State Fault Refusal :=
  .next (s.hubRegister h.val (0x20000 + m.val * 0x100) v)

/-- MOVER_RESUME (R456). -/
def execMoverResume (h : Hub) (m : Fin 8) (s : State) : Host.Outcome State Fault Refusal :=
  .next (s.hubRegister h.val (0x20010 + m.val * 0x100) 1)

/-- MOVER_ABORT (R456). -/
def execMoverAbort (h : Hub) (m : Fin 8) (s : State) : Host.Outcome State Fault Refusal :=
  .next (s.hubRegister h.val (0x20010 + m.val * 0x100) 2)

/-- The mover could move a piece now. (DEDUCED, log 89) -/
def Mover.ready (x : Mover) : Bool :=
  !x.status.getLsbD 0 && x.failed.isNone && x.inFlight.isNone && !x.blocked
    && (match x.cur with
      | some d => decide (x.moved < d.length.toNat)
      | none => x.head != x.tail)

/-- It is another mover's turn: one of a higher priority is ready, or one of the same that round robin puts first. -/
def Site.moverWaits (x : Site) (m : Nat) : Bool :=
  (List.range 8).any (fun i =>
    (x.mover i).ready && (decide ((x.mover m).prio < (x.mover i).prio)
      || (x.mover m).prio == (x.mover i).prio && decide ((i + 8 - x.turn) % 8 < (m + 8 - x.turn) % 8)))

/-- MOVER_PIECE (R456): one piece of at most 4,096 bytes, of the mover whose turn it is. -/
def execMoverPiece (h : Hub) (m : Fin 8) (s : State) : Host.Outcome State Fault Refusal :=
  let x := (s.site h.val).mover m.val
  if !s.hostLive h.val || !x.ready || (s.site h.val).moverWaits m.val then .next s.turnAway
  else
    let s := s.modSite h.val (fun y => { y with turn := (m.val + 1) % 8 })
    let s := if x.cur.isNone then s.fetchMover h.val m.val else s
    let x := (s.site h.val).mover m.val
    .next (match x.cur, x.failed with
      | some d, none =>
        let n := min 4096 (d.length.toNat - x.moved)
        if d.flags.getLsbD 0 then (s.moverBurst h.val m.val d n none).1.ok
        else ((s.modMover h.val m.val (fun y => { y with inFlight := some n })).send
          (.host h.val 5 (BitVec.ofNat 8 m.val) .ok (toLe 8 (d.host + BitVec.ofNat 64 x.moved).toNat ++ toLe 2 n))).ok
      | _, _ => s.ok)

/-- P_CPL (R456): the data of a mover's host read, or fault 0x5034. A piece that has to wait is read again. -/
def execPCpl (h : Hub) (m : Fin 8) (status : Status) (data : Bytes) (s : State) : Host.Outcome State Fault Refusal :=
  let x := (s.site h.val).mover m.val
  .next (match x.cur, x.inFlight with
    | some d, some n =>
      if status ≠ .ok then
        ((s.modMover h.val m.val (fun y => { y with failed := some (.addrError, 0x5034), inFlight := none })).fault
          0x5034 none (locHub h.val) (moverDetail h.val m.val d.sequence)).ok
      else if data.length = 0 ∨ n < data.length then (s.badHost h.val).turnAway
      else
        let r := s.moverBurst h.val m.val d data.length (some data)
        let left := if r.2 ∧ data.length < n then some (n - data.length) else none
        (r.1.modMover h.val m.val (fun y => { y with inFlight := if y.failed.isSome then none else left })).ok
    | _, _ => s.turnAway)

/-- DESCRIPTOR_COMPLETE (R456): bytes 23–29 are written, done advances, and a failure halts the ring. -/
def execDescriptorComplete (h : Hub) (m : Fin 8) (s : State) : Host.Outcome State Fault Refusal :=
  let x := (s.site h.val).mover m.val
  .next (match x.cur with
    | none => s.turnAway
    | some d =>
      if s.st = .quenched ∨ x.failed = none ∧ (x.inFlight.isSome ∨ x.moved < d.length.toNat) then s.turnAway
      else
        let r := x.failed.getD (.ok, 0)
        let t := (s.putResult h.val m.val (x.done.toNat % 256) r.1 x.moved r.2).modMover h.val m.val (fun y =>
          { y with
            done := y.done + 1, cur := none, moved := 0, inFlight := none, failed := none, blocked := false
            status := if r.1 = .ok then y.status else 1 + BitVec.ofNat 32 (r.2.toNat * 2 ^ 16) })
        let t := t.count .host h.val 0x0C 1
        let t := if r.1 = .ok then t else t.count .host h.val 0x14 1
        (if d.flags.getLsbD 2 then t.doorbell h.val 1 else t).ok)

end Sys2Proof.Machine
end

