-- ==== Sys2Proof/Machine/Security.lean ====
section
/-! DEFINITION. Trust and protection (chapter 13): the root, ownership, attestation, context keys, debug. -/

namespace Sys2Proof.Machine

/-! ### The root of trust (R402–R404) -/

/-- OFFERED contexts become CLOSED (R438). -/
def State.dropOffers (s : State) : State :=
  { s with flow := { s.flow with
    ctx := tmap (fun _ (x : CtxS) => if x.key = .offered then { x with key := .closed, offerNonce := none } else x)
      s.flow.ctx } }

/-- ROOT_TAKEOVER (R404, R438, R513): HUB1 acts; offers and handshakes are discarded, rekeys restart, and a start
that runs begins again once as a cold start; a second takeover of it enters SAFE. -/
def execRootTakeover (ms : Nat) (s : State) : Host.Outcome State Fault Refusal :=
  if s.sec.root ≠ 0 ∨ ms < 10 then .next s.turnAway
  else
    let s := { s with sec := { s.sec with root := 1, coresLost := insertNew 0 s.sec.coresLost } }
    let s := (s.event 0x7011 none s.rootLoc).dropOffers
    let s := { s with
      mgmt := { s.mgmt with shakes := [] }
      fab := { s.fab with vent := tmap (fun _ (v : VentS) => { v with newKeys := false }) s.fab.vent } }
    match s.boot.start with
    | some x =>
      let n := s.boot.takeovers
      let s := { s with boot := { s.boot with takeovers := n + 1 } }
      .next (if n = 0 then
          let t := s.startBegin true false x.input
          { t with sec := { t.sec with root := 1, coresLost := s.sec.coresLost } }
        else s.enterSafe (some 0x7011)).ok
    | none => .next s.ok

/-- ROOT_LOST (R404): both security cores are lost: context keys are erased, fault 0x7013, SAFE. -/
def execRootLost (s : State) : Host.Outcome State Fault Refusal :=
  if s.sec.root = 2 then .next s.turnAway
  else
    let s := { s with
      sec := { s.sec with root := 2, coresLost := [0, 1] }
      flow := { s.flow with ctx := tmap (fun _ (x : CtxS) =>
        { x with cms := none, slots := [], stackKeys := [] }) s.flow.ctx } }
    .next (s.safeFault 0x7013 (locHub 0)).ok

/-- ENTROPY_FAILURE (R403): fault 0x7012; with both sources failed, SAFE. -/
def execEntropyFailure (h : Hub) (s : State) : Host.Outcome State Fault Refusal :=
  if s.sec.entropy.contains h.val then .next s.turnAway
  else
    let s := { s with sec := { s.sec with entropy := h.val :: s.sec.entropy } }
    let s := s.fault 0x7012 none (locHub h.val)
    .next (if 2 ≤ s.sec.entropy.length then s.enterSafe (some 0x7012) else s).ok

/-! ### Signatures (R408, R409) -/

/-- A block verifies under the key with this hash. -/
def sigUnder (g : SigBlock) (key : BitVec 256) : Bool :=
  g.edOk && g.mldsaOk && g.canonical && g.keyHash == key

/-- The key ID of a key hash: its bytes 0–7, the lowest first. -/
def keyIdOf (h : BitVec 256) : W64 := h.setWidth 64

/-- The current owner key with an ID. -/
def State.ownerKey (s : State) (id : W64) : Option (BitVec 256) := s.sec.ownerKeys.find? (fun h => keyIdOf h == id)

/-- A block verifies under the current owner key with an ID. -/
def State.byOwner (s : State) (id : W64) (g : SigBlock) : Bool :=
  match s.ownerKey id with
  | some h => sigUnder g h
  | none => false

/-- The panel's serial as a 64-bit word. -/
def State.serial64 (s : State) : W64 := s.anat.serial.setWidth 64

/-- A refused record: its fault, the counters, RANGE (R440). (DEDUCED, log 80) -/
def State.refuseRecord (s : State) (code : W16) (c : Option CtxId) (sigBad : Bool) (detail : Nat := 0) : State :=
  let s := if sigBad then s.count .security 0 0x00 1 else s
  let s := if code = 0x7005 then s.count .security 0 0x1C 1 else s
  let s := if code = 0x7051 then s.count .security 0 0x0C 1 else s
  (s.fault code c s.rootLoc detail).fstatus .range

/-- A record refused for its content returns RANGE; one whose rule excludes the present state returns STATE,
with the same fault (R440). -/
def State.refuseIn (s : State) (admitted : Bool) (code : W16) (c : Option CtxId) (sigBad : Bool) (detail : Nat := 0) :
    State :=
  if admitted then s.refuseRecord code c sigBad detail else (s.refuseRecord code c sigBad detail).fstatus .state

/-! ### Closing contexts (R429) -/

/-- Steps 2 to 5: the region is unbound, its banks zeroised, its keys erased; CLOSED, with event 0x7053. -/
def State.closeCtx (s : State) (c : CtxId) : State :=
  let banks := s.stk.stack.flatMap (fun p =>
    (p.2.owner.filter (fun o => o.2.toNat == c.val)).map (fun o => (p.1, o.1)))
  let s := (s.unbind c true none)
  let s := banks.foldl (fun (s : State) b => s.zeroBank b.1 b.2) s
  let s := (s.ctx c).shardIds.foldl (fun (s : State) i => s.freeTag c i) s
  let s := ((s.modCtx c (fun _ => {})).count .security 0 0x14 1).event 0x7053 (some c) s.rootLoc
  s.settleRun.drainSites

/-- A context that is not CLOSED closes. -/
def State.closeOne (s : State) (c : CtxId) : State :=
  if (s.ctx c).key = .closed then s else s.closeCtx c

/-- Every context closes. -/
def State.closeAll (s : State) : State := allCtx.foldl State.closeOne s

/-! ### Sessions that end (R473) -/

/-- The sessions of a level end. -/
def State.endLevel (s : State) (p : Level → Bool) : State :=
  s.mgmt.session.foldl (fun (s : State) q =>
    match q.2 with
    | some x => if p x.level then s.endSession q.1 else s
    | none => s) s

/-! ### Ownership (R414–R418) -/

/-- OWNER_CLAIM (R417). -/
def State.claimOwner (s : State) (c : Claim) : State :=
  if s.sec.owned then s.fstatus .state
  else
    let sig := sigUnder c.sig c.keyHash
    let good := c.magicOk && c.serial == s.serial64 && c.nonce == s.sec.claimNonce && sig
    let (n, s) := s.draw
    let s := { s with sec := { s.sec with claimNonce := n } }
    if good then
      (({ s with sec := { s.sec with owned := true, ownerKeys := [c.keyHash], sequence := 0 } }).event
        0x7052 none s.rootLoc).fstatus .ok
    else s.refuseRecord 0x7005 none (!sig)

/-- OWNER_CLAIM. -/
def execOwnerClaim (c : Claim) (s : State) : Host.Outcome State Fault Refusal := .next (s.claimOwner c)

/-- What R415 asks of a record. -/
def State.recordOk (s : State) (h : OwnerHead) (zeroOk : Bool) : Bool :=
  h.magicOk && decide (s.sec.sequence < h.sequence) && s.byOwner h.keyId h.sig
    && (h.serial == s.serial64 || (zeroOk && h.serial == 0))

/-- A record that passes R415 and its kind's own condition takes effect and sets owner_sequence. -/
def State.ownerRecord (s : State) (h : OwnerHead) (zeroOk ok : Bool) (f : State → State) : State :=
  if s.recordOk h zeroOk && ok then
    (f { s with sec := { s.sec with sequence := h.sequence } }).fstatus .ok
  else s.refuseRecord 0x7005 none (!s.byOwner h.keyId h.sig)

/-- R418 in its order. -/
def State.release (s : State) : State :=
  let s := s.closeAll
  let s := { s with
    sec := { s.sec with
      debug := 0, owned := false, ownerKeys := [], imageKey := [], approvals := [], minGen := 0 }
    clk := { s.clk with slot0 := none, slot1 := none, records0 := [], records1 := [], newest := 0xFF }
    stk := { s.stk with accepted := [] } }
  (s.event 0x7052 none s.rootLoc).endLevel (fun l => l == .operator || l == .owner)

/-- RELEASE (R418); STATE in QUENCHED (R438). -/
def State.recRelease (s : State) (h : OwnerHead) : State :=
  if s.st = .quenched then s.fstatus .state else s.ownerRecord h false true State.release
/-- KEY_ADD (R416): refused when four keys are held. -/
def State.recKeyAdd (s : State) (h : OwnerHead) (k : BitVec 256) : State :=
  s.ownerRecord h true (decide (s.sec.ownerKeys.length < 4)) (fun s =>
    { s with sec := { s.sec with
      ownerKeys := if s.sec.ownerKeys.contains k then s.sec.ownerKeys else s.sec.ownerKeys ++ [k] } })
/-- KEY_REMOVE (R416): refused for the last key. -/
def State.recKeyRemove (s : State) (h : OwnerHead) (id : W64) : State :=
  s.ownerRecord h true ((s.ownerKey id).isSome && decide (1 < s.sec.ownerKeys.length)) (fun s =>
    { s with sec := { s.sec with ownerKeys := s.sec.ownerKeys.filter (fun k => keyIdOf k != id) } })
/-- KEY_PRIMARY (R416): a held key becomes the first. -/
def State.recKeyPrimary (s : State) (h : OwnerHead) (id : W64) : State :=
  s.ownerRecord h true (s.ownerKey id).isSome (fun s =>
    { s with sec := { s.sec with
      ownerKeys := s.sec.ownerKeys.filter (fun k => keyIdOf k == id)
        ++ s.sec.ownerKeys.filter (fun k => keyIdOf k != id) } })
/-- IMAGE_KEY (R416). -/
def State.recImageKey (s : State) (h : OwnerHead) (key : Bytes) : State :=
  s.ownerRecord h true (key.length == 1216) (fun s => { s with sec := { s.sec with imageKey := key } })
/-- UPDATE_APPROVE (R416): at most 8 approvals, the oldest replaced. -/
def State.recUpdateApprove (s : State) (h : OwnerHead) (component : Byte) (digest : BitVec 256) : State :=
  s.ownerRecord h false true (fun s =>
    let l := s.sec.approvals
    { s with sec := { s.sec with approvals := (if 8 ≤ l.length then l.drop 1 else l) ++ [(component, digest)] } })
/-- OPERATOR_GENERATION (R416, R420). -/
def State.recOperatorGeneration (s : State) (h : OwnerHead) (g : W32) : State :=
  s.ownerRecord h true true (fun s => { s with sec := { s.sec with minGen := g } })

/-- OWNER_RELEASE. -/
def execOwnerRelease (h : OwnerHead) (s : State) : Host.Outcome State Fault Refusal := .next (s.recRelease h)
/-- KEY_ADD. -/
def execKeyAdd (h : OwnerHead) (keyHash : BitVec 256) (s : State) : Host.Outcome State Fault Refusal :=
  .next (s.recKeyAdd h keyHash)
/-- KEY_REMOVE. -/
def execKeyRemove (h : OwnerHead) (keyId : W64) (s : State) : Host.Outcome State Fault Refusal :=
  .next (s.recKeyRemove h keyId)
/-- KEY_PRIMARY. -/
def execKeyPrimary (h : OwnerHead) (keyId : W64) (s : State) : Host.Outcome State Fault Refusal :=
  .next (s.recKeyPrimary h keyId)
/-- IMAGE_KEY. -/
def execImageKey (h : OwnerHead) (key : Bytes) (s : State) : Host.Outcome State Fault Refusal :=
  .next (s.recImageKey h key)
/-- UPDATE_APPROVE. -/
def execUpdateApprove (h : OwnerHead) (component : Byte) (digest : BitVec 256) (s : State) :
    Host.Outcome State Fault Refusal := .next (s.recUpdateApprove h component digest)
/-- OPERATOR_GENERATION. -/
def execOperatorGeneration (h : OwnerHead) (g : W32) (s : State) : Host.Outcome State Fault Refusal :=
  .next (s.recOperatorGeneration h g)

/-! ### Revocation (R413) -/

/-- Firmware installed under a vendor slot, active or fallback. -/
def State.installedUnder (s : State) (slot : Byte) : Bool :=
  s.boot.fw.any (fun p => (p.2.st == 3 || p.2.st == 4) && p.2.signer == slot)

/-- The revocation would leave a slot unrevoked, and its signing slot may sign. -/
def State.revocable (s : State) (r : Revoke) : Bool :=
  let m := s.sec.revoked.toNat
  decide (r.slot < 8) && decide (r.signer < 8) && r.signer != r.slot && !m.testBit r.signer.toNat
    && (List.range 8).any (fun i => !m.testBit i && i != r.slot.toNat) && !s.installedUnder r.slot

/-- REVOCATION. -/
def State.revokeSlot (s : State) (r : Revoke) : State :=
  if !s.revocable r ∨ r.keyHash ≠ tget 0 s.sec.vendor r.signer.toNat then
    s.refuseRecord 0x7002 none false r.slot.toNat
  else if !(r.magicOk && sigUnder r.sig r.keyHash && (r.serial == s.serial64 || r.serial == 0)) then
    s.refuseRecord 0x7001 none (!sigUnder r.sig r.keyHash) r.slot.toNat
  else
    { s with sec := { s.sec with revoked := s.sec.revoked ||| BitVec.ofNat 8 (2 ^ r.slot.toNat) } }.fstatus .ok

/-- REVOCATION (R413). -/
def execRevocation (r : Revoke) (s : State) : Host.Outcome State Fault Refusal := .next (s.revokeSlot r)

/-! ### Attestation (R407, R421, R422) -/

/-- The bytes of a hash, its lowest byte first. -/
def hashBytes (h : BitVec 256) : Bytes := toLe 32 h.toNat

/-- The slot that a component runs from: ACTIVE, or TRIAL. -/
def State.runSlot (s : State) (c : Nat) : Option FwSlot :=
  (s.boot.fw.find? (fun p => p.1 / 2 == c && (p.2.st == 3 || p.2.st == 2))).map (·.2)

/-- A component record (R422); the ROM's measurement is a fixed value that the manual does not give. -/
def State.componentRecord (s : State) (c : Nat) : Bytes :=
  let x := (s.runSlot c).getD {}
  let hx := c == 6 && s.anat.consigned
  let m : Bytes :=
    if c = 0 then (List.range 4).flatMap (fun i => toLe 8 (Config.factoryWord i).toNat)
    else if c = 7 then sha3 32 s.calTable
    else if hx then List.replicate 32 0
    else hashBytes x.digest
  [BitVec.ofNat 8 c, BitVec.ofNat 8 (if c = 0 ∨ c = 7 then 0 else tget 0 s.sec.rollback c), 0, 0]
    ++ toLe 4 (if hx then 0 else x.version.toNat) ++ toLe 4 (if hx then 0 else x.svn.toNat) ++ toLe 4 0 ++ m

/-- The fields of a certificate before its subject key (R407). -/
def certFront (kind : Nat) (serial : W64) (issuer measurement : Bytes) (svn : Nat) : Bytes :=
  [0x51, 0x43, 0x52, 0x54, 1, BitVec.ofNat 8 kind, 0, 0] ++ toLe 8 serial.toNat ++ issuer ++ measurement
    ++ toLe 4 svn ++ toLe 4 0

/-- The Alias certificate; its issuer's hash, key and signature are free bytes. -/
def State.aliasCert (s : State) : Bytes × State :=
  let x := (s.runSlot 1).getD {}
  let (i, s) := s.freeBytes 32
  let (b, s) := s.freeBytes (1984 + 3373)
  (certFront 3 s.serial64 i (hashBytes x.digest) x.svn.toNat ++ b, s)

/-- The code of a key state (R427). -/
def keyCode : KeySt → Nat
  | .closed => 0 | .offered => 1 | .opened => 2 | .closing => 3

/-- An attestation report (R421). -/
def State.attestReport (s : State) (nonce : BitVec 256) (kind : Byte) (c : Nat) : Bytes × State :=
  let x := if kind = 1 then s.ctx ⟨c % 32, Nat.mod_lt _ (by decide)⟩ else {}
  let flags := (if s.sec.owned then 1 else 0) + (if s.sec.debug ≠ 0 then 2 else 0)
    + (if s.sec.factoryOff then 4 else 0) + (if s.sec.root = 1 then 8 else 0) + (if s.anat.consigned then 0 else 16)
  let (cert, s) := s.aliasCert
  let (sig, s) := s.freeBytes 3373
  ([0x51, 0x41, 0x54, 0x54] ++ toLe 2 1 ++ [kind, BitVec.ofNat 8 flags] ++ toLe 8 s.serial64.toNat
    ++ hashBytes nonce ++ hashBytes ((s.sec.ownerKeys.head?).getD 0) ++ toLe 8 s.now
    ++ toLe 4 s.boot.startCount.toNat ++ toLe 4 s.sec.revoked.toNat
    ++ (List.range 8).flatMap s.componentRecord
    ++ [BitVec.ofNat 8 (if kind = 1 then c else 0), BitVec.ofNat 8 (keyCode x.key), if x.debugOk then 1 else 0, 0]
    ++ toLe 4 x.active.toNat
    ++ toLe 8 ((x.manifest.map (fun m => m.id.toNat)).getD 0)
    ++ toLe 8 ((x.manifest.map (fun m => m.generation.toNat)).getD 0)
    ++ hashBytes ((x.image.map (·.digest)).getD 0) ++ cert ++ sig, s)

/-- ATTEST_REQUEST: the report is placed for the session. -/
def State.attest (s : State) (session : W16) (level : Level) (nonce : BitVec 256) (kind c : Byte) : State :=
  let ctxOk := level != .pub && decide (c < 32) && (s.ctx ⟨c.toNat % 32, Nat.mod_lt _ (by decide)⟩).key == .opened
  if 1 < kind then s.fstatus .range
  else if kind = 1 ∧ !ctxOk then s.fstatus .state
  else
    let (r, s) := s.attestReport nonce kind c.toNat
    (({ s with sec := { s.sec with reports := tset [] s.sec.reports session.toNat r } }).count
      .security 0 0x18 1).fstatus .ok

/-- ATTEST_REQUEST (R421). -/
def execAttestRequest (session : W16) (level : Level) (nonce : BitVec 256) (kind c : Byte) (s : State) :
    Host.Outcome State Fault Refusal := .next (s.attest session level nonce kind c)

/-! ### Context keys (R423–R429) -/

/-- Slot 0's key from the context master secret (R425). -/
def xprtKey (cms : BitVec 256) : BitVec 256 :=
  BitVec.ofNat 256 (beNat (natsOf (kmac256 (bytesOf (keyBytes cms)) [0x58, 0x50, 0x52, 0x54, 0, 0] 32
    [0x51, 0x43, 0x54, 0x58, 0x4B])))

/-- WRAP, for key loads (R425, R426). -/
def wrapKey (cms : BitVec 256) : BitVec 256 :=
  BitVec.ofNat 256 (beNat (natsOf (kmac256 (bytesOf (keyBytes cms)) [0x57, 0x52, 0x41, 0x50, 0, 0] 32
    [0x51, 0x43, 0x54, 0x58, 0x4B])))

/-- OFFER (R424): in CLOSED and OFFERED. -/
def State.offer (s : State) (c : CtxId) : State :=
  match (s.ctx c).key with
  | .closed | .offered =>
    let (n, s) := s.draw
    let first := s.freeCount
    (({ s with freeCount := first + 574 }).modCtx c (fun x =>
      { x with key := .offered, offerNonce := some n, offerAt := s.now, offerFree := first })).fstatus .ok
  | _ => s.fstatus .state

/-- OFFER. -/
def execOffer (c : CtxId) (s : State) : Host.Outcome State Fault Refusal := .next (s.offer c)

/-- ctx_offer (R424): public keys and the Alias signature are free bytes. -/
def State.offerBytes (s : State) (c : CtxId) : Bytes :=
  let x := s.ctx c
  match x.offerNonce with
  | none => []
  | some n =>
    let free := (List.range 574).flatMap (fun i => toLe 8 (Config.freeWord (x.offerFree + i)).toNat)
    [0x51, 0x4F, 0x46, 0x52, BitVec.ofNat 8 c.val, 0, 0, 0] ++ toLe 8 s.serial64.toNat ++ hashBytes n
      ++ free.take (32 + 1184 + 3373)

/-- OFFER_EXPIRY (R424): 60 s. -/
def execOfferExpiry (c : CtxId) (s : State) : Host.Outcome State Fault Refusal :=
  let x := s.ctx c
  .next (if x.key = .offered then
      ((s.notBefore (x.offerAt + 60000000000)).modCtx c (fun x => { x with key := .closed, offerNonce := none })).ok
    else s.turnAway)

/-- What R424 asks of an accept. -/
def State.acceptOk (s : State) (c : CtxId) (a : Accept) : Bool :=
  let x := s.ctx c
  a.magicOk && x.key == .offered && decide (s.now < x.offerAt + 60000000000) && x.offerNonce == some a.nonce
    && a.context.toNat == c.val && a.serial == s.serial64 && s.byOwner a.keyId a.sig
    && (s.sec.debug == 0 || a.debugOk)

/-- Bytes 0 to 1,183 of an accept. -/
def acceptFront (a : Accept) : Bytes :=
  [0x51, 0x41, 0x43, 0x43, a.context, if a.debugOk then 1 else 0, 0, 0] ++ toLe 8 a.serial.toNat ++ hashBytes a.nonce
    ++ toLe 8 a.keyId.toNat ++ toLe 8 0 ++ a.x25519 ++ a.mlkem

/-- The master secret of an exchange (R424): KMAC256 over the two shared secrets and the hash of the offer and the accept. -/
def masterSecret (ssX ssM : BitVec 256) (offer accept : Bytes) : BitVec 256 :=
  BitVec.ofNat 256 (beNat (natsOf (kmac256 (bytesOf (keyBytes ssX) ++ bytesOf (keyBytes ssM))
    (sha3 32 (offer.take 1264 ++ accept)) 32 [0x51, 0x43, 0x54, 0x58])))

/-- CTX_ACCEPT (R424): the context is OPEN under a new master secret. The two shared secrets are free. -/
def State.acceptCtx (s : State) (c : CtxId) (a : Accept) : State :=
  if s.acceptOk c a then
    let offer := s.offerBytes c
    let (x, s) := s.draw
    let (m, s) := s.draw
    let n := masterSecret x m offer (acceptFront a)
    ((s.modCtx c (fun x =>
      { x with
        key := .opened, offerNonce := none, cms := some n, debugOk := a.debugOk
        slots := tset none [] 0 (some (xprtKey n, 0)) })).count .security 0 0x10 1).fstatus .ok
  else s.refuseIn ((s.ctx c).key == .offered) 0x7050 (some c) (!s.byOwner a.keyId a.sig)

/-- CTX_ACCEPT. -/
def execCtxAccept (c : CtxId) (a : Accept) (s : State) : Host.Outcome State Fault Refusal := .next (s.acceptCtx c a)

/-- CTX_KEY_LOAD (R426): accepted in OPEN, with a matching tag and a higher sequence. (DEDUCED, log 81) -/
def State.keyLoad (s : State) (c : CtxId) (k : KeyLoad) : State :=
  let x := s.ctx c
  let last := match tget none x.slots k.slot.toNat with | some p => p.2 | none => 0
  let fresh := match tget none x.slots k.slot.toNat with | some _ => decide (last < k.sequence) | none => true
  if k.magicOk && x.key == .opened && k.context.toNat == c.val && decide (1 ≤ k.slot) && decide (k.slot < 8) && k.tagOk
      && fresh then
    (s.modCtx c (fun x =>
      { x with slots := tset none x.slots k.slot.toNat (some (k.key, k.sequence)) })).fstatus .ok
  else s.refuseIn (x.key == .opened) 0x7051 (some c) false k.slot.toNat

/-- CTX_KEY_LOAD. -/
def execCtxKeyLoad (c : CtxId) (k : KeyLoad) (s : State) : Host.Outcome State Fault Refusal := .next (s.keyLoad c k)

/-- CLOSE (R429): step 1, or step 5 alone in OFFERED; switches, checkpoints, fills and reductions in progress are
abandoned (R438). -/
def State.beginClose (s : State) (c : CtxId) : State :=
  if s.st = .quenched then s.fstatus .state
  else match (s.ctx c).key with
    | .offered =>
      (((s.modCtx c (fun x => { x with key := .closed, offerNonce := none })).count .security 0 0x14 1).event
        0x7053 (some c) s.rootLoc).fstatus .ok
    | .opened =>
      (((s.haltCtx c).dropFills c).modCtx c (fun x =>
        { x with key := .closing, ckptRun := none, ckptDue := none, restore := none })).fstatus .ok
    | _ => s.fstatus .state

/-- CLOSE. -/
def execClose (c : CtxId) (s : State) : Host.Outcome State Fault Refusal := .next (s.beginClose c)

/-- CLOSE_COMPLETE (R429): steps 2 to 5. -/
def execCloseComplete (c : CtxId) (s : State) : Host.Outcome State Fault Refusal :=
  .next (if (s.ctx c).key = .closing then (s.closeCtx c).ok else s.turnAway)

/-! ### Debug (R434–R436) -/

/-- DEBUG_TOKEN: every context closes, the scopes open, and event 0x7040; or fault 0x7041. -/
def State.debugTok (s : State) (t : DebugTok) : State :=
  if s.st = .quenched then s.fstatus .state
  else
    let sig := s.byOwner t.keyId t.sig
    let good := t.magicOk && s.sec.owned && t.challenge == s.sec.challenge && sig
    let (n, s) := s.draw
    let s := { s with sec := { s.sec with challenge := n } }
    if good then
      let s := s.closeAll
      (({ s with sec := { s.sec with debug := t.scope &&& 7 } }).event 0x7040 none s.rootLoc (t.scope &&& 7).toNat).fstatus .ok
    else s.refuseRecord 0x7041 none (!sig)

/-- DEBUG_TOKEN (R435, R436). -/
def execDebugToken (t : DebugTok) (s : State) : Host.Outcome State Fault Refusal := .next (s.debugTok t)

end Sys2Proof.Machine
end

