-- ==== Sys2Proof/Machine/Objects.lean ====
section
/-! DEFINITION. The object dictionary (chapter 15): the table of objects with type, access class and level, and
what a read of each object gives. -/

namespace Sys2Proof.Machine

/-! ### The table (R478, R479, R485, R492 and the object tables of every chapter) -/

/-- A row: indices lo to hi, subindices s0 to s1, codes of type, class and level. -/
structure ObjRow where
  lo : Nat
  hi : Nat
  s0 : Nat
  s1 : Nat
  typ : Nat
  cls : Nat
  lev : Nat
  deriving DecidableEq, Repr

/-- Objects 0x1000–0x1FFF: identity, ports, sessions, host sites, process data. -/
def objIdentity : List ObjRow := [
  ⟨0x1000, 0x1000, 1, 1, 5, 1, 0⟩,
  ⟨0x1000, 0x1000, 2, 2, 10, 1, 0⟩,
  ⟨0x1000, 0x1000, 3, 3, 10, 1, 0⟩,
  ⟨0x1000, 0x1000, 4, 4, 10, 1, 0⟩,
  ⟨0x1000, 0x1000, 5, 5, 2, 1, 0⟩,
  ⟨0x1000, 0x1000, 6, 6, 4, 1, 0⟩,
  ⟨0x1000, 0x1000, 7, 7, 9, 1, 0⟩,
  ⟨0x1001, 0x1001, 0, 0, 12, 1, 0⟩,
  ⟨0x1100, 0x1100, 1, 1, 5, 1, 0⟩,
  ⟨0x1100, 0x1100, 2, 2, 5, 1, 0⟩,
  ⟨0x1100, 0x1100, 3, 3, 2, 6, 1⟩,
  ⟨0x1100, 0x1100, 4, 4, 2, 6, 1⟩,
  ⟨0x1100, 0x1100, 5, 5, 3, 6, 1⟩,
  ⟨0x1100, 0x1100, 6, 6, 12, 1, 1⟩,
  ⟨0x1100, 0x1100, 7, 7, 3, 3, 1⟩,
  ⟨0x1100, 0x1100, 8, 8, 3, 3, 1⟩,
  ⟨0x1100, 0x1100, 9, 9, 2, 1, 0⟩,
  ⟨0x1101, 0x1101, 1, 1, 3, 1, 0⟩,
  ⟨0x1101, 0x1101, 2, 2, 2, 1, 0⟩,
  ⟨0x1101, 0x1101, 3, 3, 3, 3, 1⟩,
  ⟨0x1110, 0x1110, 1, 2, 2, 1, 1⟩,
  ⟨0x1111, 0x1111, 1, 2, 2, 1, 1⟩,
  ⟨0x1112, 0x1112, 1, 2, 2, 1, 0⟩,
  ⟨0x1200, 0x1200, 1, 8, 12, 3, 1⟩,
  ⟨0x1201, 0x1201, 1, 8, 3, 3, 1⟩,
  ⟨0x1202, 0x1202, 1, 8, 3, 1, 1⟩,
  ⟨0x1210, 0x1210, 1, 4, 12, 3, 1⟩,
  ⟨0x1211, 0x1211, 1, 4, 3, 1, 1⟩]

/-- Objects 0x2000–0x2FFF: panel, postures, contexts, stacks, sync blocks. -/
def objPanel : List ObjRow := [
  ⟨0x2000, 0x2000, 1, 1, 2, 2, 1⟩,
  ⟨0x2000, 0x2000, 2, 2, 2, 1, 0⟩,
  ⟨0x2000, 0x2000, 3, 3, 4, 1, 1⟩,
  ⟨0x2000, 0x2000, 4, 4, 1, 1, 1⟩,
  ⟨0x2000, 0x2000, 5, 5, 9, 1, 0⟩,
  ⟨0x2000, 0x2000, 6, 6, 1, 6, 1⟩,
  ⟨0x2000, 0x2000, 7, 7, 4, 1, 0⟩,
  ⟨0x2000, 0x2000, 8, 8, 12, 1, 1⟩,
  ⟨0x2000, 0x2000, 9, 9, 3, 1, 0⟩,
  ⟨0x2100, 0x2100, 1, 1, 2, 4, 1⟩,
  ⟨0x2100, 0x2100, 2, 2, 2, 5, 1⟩,
  ⟨0x2100, 0x2100, 3, 3, 2, 3, 1⟩,
  ⟨0x2100, 0x2100, 4, 4, 2, 3, 1⟩,
  ⟨0x2100, 0x2100, 5, 5, 3, 4, 1⟩,
  ⟨0x2100, 0x2100, 6, 6, 1, 5, 2⟩,
  ⟨0x2100, 0x2100, 7, 7, 2, 3, 1⟩,
  ⟨0x2100, 0x2100, 8, 8, 8, 5, 2⟩,
  ⟨0x2100, 0x2100, 9, 9, 4, 5, 2⟩,
  ⟨0x2100, 0x2100, 10, 10, 2, 1, 1⟩,
  ⟨0x2100, 0x2100, 11, 11, 3, 5, 2⟩,
  ⟨0x2100, 0x2100, 12, 12, 4, 5, 2⟩,
  ⟨0x2200, 0x2200, 1, 32, 4, 1, 1⟩,
  ⟨0x2201, 0x2201, 1, 32, 4, 1, 1⟩,
  ⟨0x2202, 0x2202, 1, 32, 4, 3, 2⟩,
  ⟨0x2203, 0x2203, 1, 32, 4, 1, 1⟩,
  ⟨0x2204, 0x2204, 1, 32, 2, 1, 1⟩,
  ⟨0x2205, 0x2205, 1, 32, 2, 1, 1⟩,
  ⟨0x2206, 0x2206, 1, 32, 2, 2, 2⟩,
  ⟨0x2208, 0x2208, 1, 32, 9, 1, 1⟩,
  ⟨0x2209, 0x2209, 1, 32, 4, 1, 1⟩,
  ⟨0x220A, 0x220A, 1, 32, 9, 1, 1⟩,
  ⟨0x220B, 0x220B, 1, 32, 12, 1, 1⟩,
  ⟨0x2240, 0x2240, 1, 32, 4, 5, 2⟩,
  ⟨0x2241, 0x2241, 1, 32, 4, 5, 2⟩,
  ⟨0x2242, 0x2242, 1, 32, 2, 5, 2⟩,
  ⟨0x2243, 0x2243, 1, 32, 4, 5, 2⟩,
  ⟨0x2244, 0x2244, 1, 32, 4, 4, 1⟩,
  ⟨0x2245, 0x2245, 1, 32, 4, 5, 2⟩,
  ⟨0x2246, 0x2246, 1, 32, 2, 4, 1⟩,
  ⟨0x2247, 0x2247, 1, 32, 2, 5, 2⟩,
  ⟨0x2248, 0x2248, 1, 32, 4, 5, 2⟩,
  ⟨0x2249, 0x2249, 1, 32, 12, 5, 2⟩,
  ⟨0x224A, 0x224A, 1, 32, 12, 1, 1⟩,
  ⟨0x224B, 0x224B, 1, 32, 12, 3, 2⟩,
  ⟨0x224C, 0x224C, 1, 32, 2, 2, 2⟩,
  ⟨0x2260, 0x2260, 1, 1, 3, 3, 1⟩,
  ⟨0x2260, 0x2260, 2, 2, 4, 3, 1⟩,
  ⟨0x2270, 0x2270, 1, 1, 12, 1, 1⟩,
  ⟨0x2270, 0x2270, 2, 2, 12, 1, 1⟩]

/-- Objects 0x3000–0x3FFF: supply, clocks, thermal, coolant and their logs. -/
def objSupply : List ObjRow := [
  ⟨0x3000, 0x3000, 1, 1, 3, 1, 0⟩,
  ⟨0x3000, 0x3000, 2, 2, 3, 1, 0⟩,
  ⟨0x3000, 0x3000, 3, 3, 4, 1, 0⟩,
  ⟨0x3000, 0x3000, 4, 4, 12, 1, 1⟩,
  ⟨0x3000, 0x3000, 5, 5, 12, 1, 1⟩,
  ⟨0x3000, 0x3000, 6, 6, 12, 1, 1⟩,
  ⟨0x3000, 0x3000, 7, 7, 4, 1, 1⟩,
  ⟨0x3000, 0x3000, 8, 8, 3, 1, 1⟩,
  ⟨0x3100, 0x3100, 1, 1, 2, 1, 1⟩,
  ⟨0x3100, 0x3100, 2, 2, 3, 1, 1⟩,
  ⟨0x3100, 0x3100, 3, 3, 3, 3, 1⟩,
  ⟨0x3200, 0x3200, 1, 1, 8, 3, 1⟩,
  ⟨0x3200, 0x3200, 2, 2, 8, 3, 1⟩,
  ⟨0x3200, 0x3200, 3, 3, 8, 3, 1⟩,
  ⟨0x3200, 0x3200, 4, 4, 8, 1, 1⟩,
  ⟨0x3200, 0x3200, 5, 5, 8, 1, 1⟩,
  ⟨0x3200, 0x3200, 6, 6, 2, 1, 0⟩,
  ⟨0x3200, 0x3200, 7, 7, 4, 1, 1⟩,
  ⟨0x3201, 0x3201, 1, 1, 8, 1, 1⟩,
  ⟨0x3201, 0x3201, 2, 2, 8, 3, 1⟩,
  ⟨0x3210, 0x3210, 1, 1, 4, 1, 1⟩,
  ⟨0x3210, 0x3210, 2, 2, 4, 4, 1⟩,
  ⟨0x3210, 0x3210, 3, 3, 8, 1, 1⟩,
  ⟨0x3210, 0x3210, 4, 4, 2, 1, 1⟩,
  ⟨0x3211, 0x3211, 0, 0, 12, 3, 1⟩,
  ⟨0x3220, 0x3220, 1, 1, 2, 3, 1⟩,
  ⟨0x3220, 0x3220, 2, 2, 1, 3, 1⟩,
  ⟨0x3230, 0x3230, 1, 1, 6, 1, 0⟩,
  ⟨0x3300, 0x3300, 0, 0, 12, 1, 1⟩,
  ⟨0x3300, 0x3300, 1, 1, 1, 2, 1⟩,
  ⟨0x3301, 0x3301, 0, 0, 12, 1, 1⟩,
  ⟨0x3301, 0x3301, 1, 1, 1, 3, 1⟩]

/-- Objects 0x4000–0x5FFF: dies, stacks, calibration, defects and maps. -/
def objParts : List ObjRow := [
  ⟨0x4000, 0x409B, 1, 1, 5, 1, 0⟩,
  ⟨0x4000, 0x409B, 2, 2, 2, 1, 1⟩,
  ⟨0x4000, 0x409B, 3, 3, 3, 1, 1⟩,
  ⟨0x4000, 0x409B, 4, 4, 5, 1, 1⟩,
  ⟨0x4000, 0x409B, 5, 5, 12, 1, 1⟩,
  ⟨0x4000, 0x409B, 6, 6, 12, 1, 1⟩,
  ⟨0x4000, 0x409B, 7, 7, 5, 1, 1⟩,
  ⟨0x4000, 0x409B, 8, 8, 12, 1, 1⟩,
  ⟨0x4000, 0x409B, 9, 9, 3, 1, 1⟩,
  ⟨0x4000, 0x409B, 10, 10, 12, 1, 1⟩,
  ⟨0x4000, 0x409B, 11, 11, 12, 1, 1⟩,
  ⟨0x4000, 0x409B, 12, 12, 2, 1, 1⟩,
  ⟨0x4000, 0x409B, 13, 13, 2, 1, 1⟩,
  ⟨0x4000, 0x409B, 14, 14, 2, 4, 1⟩,
  ⟨0x4000, 0x409B, 15, 15, 2, 1, 1⟩,
  ⟨0x4000, 0x409B, 16, 16, 12, 1, 1⟩,
  ⟨0x4000, 0x409B, 17, 17, 12, 1, 1⟩,
  ⟨0x4000, 0x409B, 18, 18, 12, 1, 1⟩,
  ⟨0x4000, 0x409B, 19, 19, 2, 1, 1⟩,
  ⟨0x4000, 0x409B, 20, 20, 3, 1, 1⟩,
  ⟨0x4000, 0x409B, 21, 21, 4, 1, 1⟩,
  ⟨0x4000, 0x409B, 22, 22, 3, 1, 1⟩,
  ⟨0x4000, 0x409B, 23, 23, 3, 1, 1⟩,
  ⟨0x4800, 0x4937, 1, 1, 5, 1, 0⟩,
  ⟨0x4800, 0x4937, 2, 2, 2, 1, 1⟩,
  ⟨0x4800, 0x4937, 3, 3, 12, 1, 1⟩,
  ⟨0x4800, 0x4937, 4, 4, 5, 1, 1⟩,
  ⟨0x4800, 0x4937, 5, 5, 6, 1, 1⟩,
  ⟨0x4800, 0x4937, 6, 6, 2, 1, 1⟩,
  ⟨0x5000, 0x5000, 1, 1, 12, 5, 2⟩,
  ⟨0x5000, 0x5000, 2, 2, 2, 1, 0⟩,
  ⟨0x5000, 0x5000, 3, 3, 4, 1, 1⟩,
  ⟨0x5000, 0x5000, 4, 4, 12, 1, 0⟩,
  ⟨0x5100, 0x5100, 1, 1, 4, 1, 1⟩,
  ⟨0x5100, 0x5100, 2, 2, 3, 1, 1⟩,
  ⟨0x5100, 0x5100, 3, 3, 3, 1, 1⟩,
  ⟨0x5100, 0x5100, 4, 4, 1, 2, 2⟩,
  ⟨0x5100, 0x5100, 5, 5, 4, 1, 1⟩,
  ⟨0x5101, 0x5101, 1, 12, 5, 1, 1⟩,
  ⟨0x5102, 0x5102, 0, 0, 12, 1, 1⟩,
  ⟨0x5103, 0x5103, 0, 0, 12, 1, 1⟩]

/-- Objects 0x6000–0x6FFF: security. -/
def objTrust : List ObjRow := [
  ⟨0x6000, 0x6000, 1, 1, 2, 1, 0⟩,
  ⟨0x6000, 0x6000, 2, 2, 12, 1, 0⟩,
  ⟨0x6000, 0x6000, 3, 3, 12, 1, 0⟩,
  ⟨0x6000, 0x6000, 4, 4, 12, 2, 0⟩,
  ⟨0x6000, 0x6000, 5, 5, 12, 2, 1⟩,
  ⟨0x6000, 0x6000, 6, 6, 12, 1, 0⟩,
  ⟨0x6000, 0x6000, 7, 7, 4, 1, 0⟩,
  ⟨0x6000, 0x6000, 8, 8, 12, 1, 0⟩,
  ⟨0x6000, 0x6000, 9, 9, 4, 1, 0⟩,
  ⟨0x6000, 0x6000, 10, 10, 12, 1, 1⟩,
  ⟨0x6001, 0x6001, 1, 1, 12, 1, 0⟩,
  ⟨0x6001, 0x6001, 2, 2, 2, 1, 0⟩,
  ⟨0x6001, 0x6001, 3, 3, 12, 2, 1⟩,
  ⟨0x6001, 0x6001, 4, 4, 12, 1, 0⟩,
  ⟨0x6002, 0x6002, 1, 1, 12, 2, 1⟩,
  ⟨0x6002, 0x6002, 2, 2, 12, 1, 0⟩,
  ⟨0x6002, 0x6002, 3, 3, 2, 2, 1⟩,
  ⟨0x6010, 0x6010, 1, 1, 12, 2, 0⟩,
  ⟨0x6010, 0x6010, 2, 2, 12, 1, 0⟩,
  ⟨0x6011, 0x6011, 1, 1, 12, 1, 0⟩,
  ⟨0x6012, 0x6012, 1, 1, 2, 1, 0⟩,
  ⟨0x6100, 0x6100, 1, 32, 2, 1, 1⟩,
  ⟨0x6101, 0x6101, 1, 32, 2, 2, 1⟩,
  ⟨0x6102, 0x6102, 1, 32, 12, 1, 1⟩,
  ⟨0x6103, 0x6103, 1, 32, 12, 2, 1⟩,
  ⟨0x6104, 0x6104, 1, 32, 12, 2, 1⟩,
  ⟨0x6105, 0x6105, 1, 32, 2, 1, 1⟩,
  ⟨0x6106, 0x6106, 1, 32, 12, 1, 1⟩]

/-- Objects 0x7000–0x7FFF: fabric. -/
def objFabric : List ObjRow := [
  ⟨0x7000, 0x7000, 1, 1, 3, 6, 2⟩,
  ⟨0x7000, 0x7000, 2, 2, 3, 6, 2⟩,
  ⟨0x7000, 0x7000, 4, 4, 12, 1, 1⟩,
  ⟨0x7000, 0x7000, 5, 5, 4, 1, 1⟩,
  ⟨0x7001, 0x7001, 1, 1, 4, 3, 2⟩,
  ⟨0x7100, 0x712F, 1, 1, 2, 1, 1⟩,
  ⟨0x7100, 0x712F, 2, 2, 3, 1, 1⟩,
  ⟨0x7100, 0x712F, 3, 3, 2, 1, 1⟩,
  ⟨0x7100, 0x712F, 4, 4, 2, 1, 1⟩,
  ⟨0x7100, 0x712F, 5, 5, 12, 1, 1⟩,
  ⟨0x7100, 0x712F, 6, 6, 4, 1, 1⟩,
  ⟨0x7100, 0x712F, 7, 7, 2, 1, 1⟩,
  ⟨0x7200, 0x7200, 0, 0, 12, 1, 1⟩,
  ⟨0x7300, 0x7300, 1, 4, 2, 1, 1⟩,
  ⟨0x7301, 0x7301, 1, 4, 2, 1, 1⟩,
  ⟨0x7302, 0x7302, 1, 4, 4, 5, 2⟩]

/-- Objects 0x8000–0x8FFF: counters. -/
def objCounters : List ObjRow := [
  ⟨0x8000, 0x8000, 0, 0, 12, 1, 1⟩,
  ⟨0x8000, 0x8000, 1, 1, 1, 2, 1⟩,
  ⟨0x8000, 0x8000, 2, 2, 9, 1, 1⟩,
  ⟨0x8010, 0x8010, 0, 0, 12, 1, 1⟩,
  ⟨0x8010, 0x8010, 1, 1, 1, 2, 1⟩,
  ⟨0x8010, 0x8010, 2, 2, 9, 1, 1⟩,
  ⟨0x8011, 0x8011, 0, 0, 12, 1, 1⟩,
  ⟨0x8011, 0x8011, 1, 1, 1, 2, 1⟩,
  ⟨0x8011, 0x8011, 2, 2, 9, 1, 1⟩,
  ⟨0x8012, 0x8012, 0, 0, 12, 1, 1⟩,
  ⟨0x8012, 0x8012, 1, 1, 1, 2, 1⟩,
  ⟨0x8012, 0x8012, 2, 2, 9, 1, 1⟩,
  ⟨0x8013, 0x8013, 0, 0, 12, 1, 1⟩,
  ⟨0x8013, 0x8013, 1, 1, 1, 2, 1⟩,
  ⟨0x8013, 0x8013, 2, 2, 9, 1, 1⟩,
  ⟨0x8014, 0x8014, 0, 0, 12, 1, 1⟩,
  ⟨0x8014, 0x8014, 1, 1, 1, 2, 1⟩,
  ⟨0x8014, 0x8014, 2, 2, 9, 1, 1⟩,
  ⟨0x8015, 0x8015, 0, 0, 12, 1, 1⟩,
  ⟨0x8015, 0x8015, 1, 1, 1, 2, 1⟩,
  ⟨0x8015, 0x8015, 2, 2, 9, 1, 1⟩,
  ⟨0x8016, 0x8016, 0, 0, 12, 1, 1⟩,
  ⟨0x8016, 0x8016, 1, 1, 1, 2, 1⟩,
  ⟨0x8016, 0x8016, 2, 2, 9, 1, 1⟩,
  ⟨0x8017, 0x8017, 0, 0, 12, 1, 1⟩,
  ⟨0x8017, 0x8017, 1, 1, 1, 2, 1⟩,
  ⟨0x8017, 0x8017, 2, 2, 9, 1, 1⟩,
  ⟨0x8018, 0x8018, 0, 0, 12, 1, 1⟩,
  ⟨0x8018, 0x8018, 1, 1, 1, 2, 1⟩,
  ⟨0x8018, 0x8018, 2, 2, 9, 1, 1⟩,
  ⟨0x8019, 0x8019, 0, 0, 12, 1, 1⟩,
  ⟨0x8019, 0x8019, 1, 1, 1, 2, 1⟩,
  ⟨0x8019, 0x8019, 2, 2, 9, 1, 1⟩,
  ⟨0x801A, 0x801A, 0, 0, 12, 1, 1⟩,
  ⟨0x801A, 0x801A, 1, 1, 1, 2, 1⟩,
  ⟨0x801A, 0x801A, 2, 2, 9, 1, 1⟩,
  ⟨0x801B, 0x801B, 0, 0, 12, 1, 1⟩,
  ⟨0x801B, 0x801B, 1, 1, 1, 2, 1⟩,
  ⟨0x801B, 0x801B, 2, 2, 9, 1, 1⟩,
  ⟨0x801C, 0x801C, 0, 0, 12, 1, 1⟩,
  ⟨0x801C, 0x801C, 1, 1, 1, 2, 1⟩,
  ⟨0x801C, 0x801C, 2, 2, 9, 1, 1⟩,
  ⟨0x801D, 0x801D, 0, 0, 12, 1, 1⟩,
  ⟨0x801D, 0x801D, 1, 1, 1, 2, 1⟩,
  ⟨0x801E, 0x801E, 0, 0, 12, 1, 1⟩,
  ⟨0x801E, 0x801E, 1, 1, 1, 2, 1⟩,
  ⟨0x801E, 0x801E, 2, 2, 9, 1, 1⟩,
  ⟨0x801F, 0x801F, 0, 0, 12, 1, 1⟩,
  ⟨0x801F, 0x801F, 1, 1, 1, 2, 1⟩,
  ⟨0x801F, 0x801F, 2, 2, 9, 1, 1⟩]

/-- Objects 0x9000–0xAFFF: logs, QUENCH, debug. -/
def objLogs : List ObjRow := [
  ⟨0x9000, 0x9000, 0, 0, 12, 1, 1⟩,
  ⟨0x9000, 0x9000, 1, 1, 4, 1, 1⟩,
  ⟨0x9000, 0x9000, 2, 2, 4, 1, 1⟩,
  ⟨0x9000, 0x9000, 3, 3, 1, 2, 2⟩,
  ⟨0x9000, 0x9000, 4, 4, 12, 1, 1⟩,
  ⟨0x9000, 0x9000, 5, 5, 3, 3, 1⟩,
  ⟨0x9000, 0x9000, 6, 6, 1, 2, 1⟩,
  ⟨0x9010, 0x9010, 0, 0, 12, 1, 1⟩,
  ⟨0x9020, 0x9020, 0, 0, 12, 1, 1⟩,
  ⟨0xA000, 0xA000, 1, 1, 1, 2, 1⟩,
  ⟨0xA000, 0xA000, 2, 2, 1, 3, 2⟩,
  ⟨0xA000, 0xA000, 3, 3, 1, 3, 2⟩,
  ⟨0xA000, 0xA000, 4, 4, 2, 1, 0⟩,
  ⟨0xA001, 0xA001, 1, 2, 12, 1, 1⟩,
  ⟨0xA001, 0xA001, 3, 3, 2, 1, 1⟩,
  ⟨0xA010, 0xA010, 1, 1, 12, 1, 0⟩,
  ⟨0xA010, 0xA010, 2, 2, 12, 2, 1⟩,
  ⟨0xA010, 0xA010, 3, 3, 2, 1, 0⟩]

/-- Every object, in ascending index and subindex order (R485). -/
def objRows : List ObjRow :=
  objIdentity ++ objPanel ++ objSupply ++ objParts ++ objTrust ++ objFabric ++ objCounters ++ objLogs

/-- The rows of an index. -/
def rowsAt (index : Nat) : List ObjRow := objRows.filter (fun r => decide (r.lo ≤ index) && decide (index ≤ r.hi))

/-- The row of an object. -/
def objRow (index sub : Nat) : Option ObjRow :=
  (rowsAt index).find? (fun r => decide (r.s0 ≤ sub) && decide (sub ≤ r.s1))

/-- object_directory (R485): 8 bytes for each object, in ascending order. -/
def objDirectory : Bytes :=
  ((objRows.map (fun r => (r.lo, r.hi))).eraseDups).flatMap (fun (q : Nat × Nat) =>
    (List.range' q.1 (q.2 + 1 - q.1)).flatMap (fun i =>
      (rowsAt i).flatMap (fun (r : ObjRow) => (List.range' r.s0 (r.s1 + 1 - r.s0)).flatMap (fun k =>
        toLe 2 i ++ toLe 1 k ++ toLe 1 r.typ ++ toLe 1 r.cls ++ toLe 1 r.lev ++ [0, 0]))))

/-- Bytes of a fixed-size type (R478); strings, BLOBs and DOMAINs have none. -/
def typeBytes (typ : Nat) : Option Nat :=
  match typ with
  | 1 | 2 => some 1
  | 3 | 6 => some 2
  | 4 | 7 | 8 => some 4
  | 5 | 9 => some 8
  | _ => none

/-! ### Codes -/

/-- shard_state (R260). -/
def shardCode : ShardSt → Nat
  | .absent => 0 | .filling => 1 | .verifying => 2 | .valid => 3 | .quarantined => 4 | .failed => 5

/-- link_state (R307). -/
def linkCode : LinkSt → Nat
  | .off => 0 | .train => 1 | .keyx => 2 | .up => 3 | .fault => 4

/-- group_state (R339). -/
def groupCode : GroupSt → Nat
  | .unbound => 0 | .idle => 1 | .running => 2 | .halted => 3

/-- Levels (R471). -/
def levelCode : Level → Nat
  | .pub => 0 | .operator => 1 | .owner => 2 | .factory => 3

/-- A 16-bit two's complement value. -/
def i16 (x : Int) : Bytes := toLe 2 (x % 65536).toNat

/-- The context of a subindex (ctx + 1). -/
def subCtx (sub : Nat) : CtxId := ⟨(sub - 1) % 32, Nat.mod_lt _ (by decide)⟩

/-- A set of bits as a number. -/
def bitWord (n : Nat) (f : Nat → Bool) : Nat := ((List.range n).map (fun i => if f i then 2 ^ i else 0)).sum

/-! ### Identity, sessions, process data (R47, R462, R492) -/

/-- An object of 0x1000–0x1FFF, for a session. -/
def State.identityObj (s : State) (n : Nat) (level : Level) (index sub : Nat) : Bytes :=
  match index, sub with
  | 0x1000, 1 => toLe 8 s.anat.serial.toNat
  | 0x1000, 2 => [0x51, 0x50, 0x31, 0x32, 0x2D, 0x4C, 0x43, 0x2D, 0x48, if s.anat.consigned then 0x58 else 0x41]
  | 0x1000, 3 => [0x43, 0x65, 0x72, 0x73, 0x79, 0x6E]
  | 0x1000, 4 => [0x51, 0x6F, 0x72, 0x61, 0x65, 0x6C, 0x20, 0x51, 0x50, 0x31, 0x32]
  | 0x1000, 5 => [1]
  | 0x1000, 6 => toLe 4 s.boot.startCount.toNat
  | 0x1000, 7 => toLe 8 s.now
  | 0x1001, _ => objDirectory
  | 0x1100, 1 => toLe 8 s.anat.macA.toNat
  | 0x1100, 2 => toLe 8 s.anat.macB.toNat
  | 0x1100, 3 | 0x1100, 4 => toLe 1 (s.storedObj (index * 256 + sub))
  | 0x1100, 5 => toLe 2 (s.storedObj 0x110005)
  | 0x1100, 6 => s.mgmt.session.flatMap (fun p =>
      match p.2 with
      | some x => toLe 2 p.1 ++ toLe 1 x.channel ++ toLe 1 (levelCode x.level) ++ [0, 0, 0, 0] ++ toLe 8 x.opened
      | none => [])
  | 0x1100, 9 => toLe 1 s.mgmt.ports.toNat
  | 0x1100, _ => toLe 2 (s.obj index sub)
  | 0x1101, 1 => toLe 2 n
  | 0x1101, 2 => toLe 1 (levelCode level)
  | 0x1101, _ => toLe 2 (((s.session n).map (·.mask.toNat)).getD 0)
  | 0x1110, _ => toLe 1 (s.site (sub - 1)).link
  | 0x1111, _ => toLe 1 (s.site (sub - 1)).modules.toNat
  | 0x1112, _ => [if s.anat.consigned then 2 else 1]
  | 0x1200, _ => (tget {} s.mgmt.tpdo (sub - 1)).map.flatMap (fun e => toLe 2 e.index.toNat ++ [e.sub, e.zero])
  | 0x1201, _ => toLe 2 (tget {} s.mgmt.tpdo (sub - 1)).rate.toNat
  | 0x1202, _ => toLe 2 (tget {} s.mgmt.tpdo (sub - 1)).owner.toNat
  | 0x1210, _ => (tget {} s.mgmt.rpdo (sub - 1)).map.flatMap (fun e => toLe 2 e.index.toNat ++ [e.sub, e.zero])
  | _, _ => toLe 2 (tget {} s.mgmt.rpdo (sub - 1)).owner.toNat

/-! ### Panel, contexts, stacks, sync blocks (R188, R270, R302, R492, R514, R544) -/

/-- The sync owners of n blocks from a key on: 0xFE for firmware's. -/
def State.blockOwners (s : State) (first n firmware : Nat) : Bytes :=
  (List.range n).map (fun b => if firmware ≤ b then 0xFE else tget 0xFF s.net.block (first + b))

/-- The accepted header of a manifest (R258). -/
def Manifest.header (m : Manifest) : Bytes :=
  toLe 4 m.version.toNat ++ toLe 4 m.entries.length ++ toLe 8 m.id.toNat ++ toLe 8 m.generation.toNat
    ++ toLe 8 m.keyId.toNat ++ List.replicate 32 0

/-- An object of 0x2000–0x2FFF. -/
def State.panelObj (s : State) (index sub : Nat) : Bytes :=
  let x := s.ctx (subCtx sub)
  match index, sub with
  | 0x2000, 2 => toLe 1 (pstateCode s.st)
  | 0x2000, 3 => toLe 4 s.boot.cmdStatus.toNat
  | 0x2000, 4 => [if rwsKeys.any (fun k => s.storedObj k != s.obj (k / 256) (k % 256)) then 1 else 0]
  | 0x2000, 5 => toLe 8 s.since
  | 0x2000, 6 => toLe 1 (s.storedObj 0x200006)
  | 0x2000, 7 => toLe 4 s.boot.lastStart.toNat
  | 0x2000, 8 => if s.boot.selftest.isEmpty then List.replicate 16 0 else s.boot.selftest
  | 0x2000, _ => toLe 2 s.recov.safeCause.toNat
  | 0x2100, 5 | 0x2100, 0xB => toLe 2 (s.obj index sub)
  | 0x2100, 8 | 0x2100, 9 | 0x2100, 0xC => toLe 4 (s.obj index sub)
  | 0x2100, 0xA => [s.recov.shadowState]
  | 0x2100, _ => toLe 1 (s.obj index sub)
  | 0x2200, _ => toLe 4 x.active.toNat
  | 0x2201, _ => toLe 4 x.previous.toNat
  | 0x2202, _ => toLe 4 x.staged.toNat
  | 0x2203, _ => toLe 4 x.high.toNat
  | 0x2204, _ => toLe 1 x.epoch.toNat
  | 0x2205, _ => toLe 1 (swCode x.sw)
  | 0x2208, _ => toLe 8 x.lastSwitch
  | 0x2209, _ => toLe 4 x.ckptGen
  | 0x220A, _ => toLe 8 x.ckptTime
  | 0x220B, _ => x.relocations.flatMap (fun p => toLe 2 p.1 ++ toLe 2 p.2)
  | 0x2242, _ | 0x2246, _ | 0x2247, _ => toLe 1 (s.obj index sub)
  | 0x2249, _ => (x.manifest.map Manifest.header).getD []
  | 0x224A, _ => x.shardIds.map (fun i => BitVec.ofNat 8 (shardCode (x.shard i).st))
  | 0x224B, _ => x.plan.flatten
  | 0x2260, 1 => toLe 2 (s.obj index sub)
  | 0x2270, _ => s.blockOwners (hubBlock (sub - 1) 0) 256 240
  | _, _ => toLe 4 (s.obj index sub)

/-! ### Supply, clocks, heat (R364, R379, R397) -/

/-- The keys of every island. -/
def allIslands : List Island :=
  (List.finRange 156).flatMap (fun d => (List.finRange 37).map (Island.die d))
    ++ (List.finRange 312).map Island.sinter
    ++ (List.finRange 2).flatMap (fun h => (List.finRange 24).map (Island.hub h))
    ++ (List.finRange 48).flatMap (fun v => (List.finRange 2).map (Island.vent v))

/-- Running islands out of lock (R345). -/
def State.unlockedIslands (s : State) : Nat :=
  (allIslands.filter (fun i => s.islandUp i && (s.island (islandKey i)).outOfLock s.now)).length

/-- A minimum-voltage record (R379): never sampled reads zero. (DEDUCED, log 73) -/
def minRecord (x : Nat × Nat × Nat) (kind : Nat) : Bytes :=
  toLe 2 x.1 ++ toLe 1 (if kind = 0 then x.2.2 else 0) ++ toLe 1 kind ++ [0, 0, 0, 0] ++ toLe 8 x.2.1

/-- The hottest governing temperature of the dies, in 0.01 °C doubled. -/
def State.hottest (s : State) : Int :=
  ((List.range 3276).map (fun k => (s.spot k).twice)).foldl max (-100000)

/-- An object of 0x3000–0x3FFF. -/
def State.supplyObj (s : State) (index sub : Nat) : Bytes :=
  match index, sub with
  | 0x3000, 1 => toLe 2 (s.pwr.inputMv / 10)
  | 0x3000, 2 => toLe 2 s.pwr.inputDa
  | 0x3000, 3 => toLe 4 s.pwr.inputW
  | 0x3000, 4 => toLe 2 s.pwr.pair0 ++ toLe 2 s.pwr.pair1
  | 0x3000, 5 => (List.range 14).flatMap (fun g => toLe 2 (tget 0 s.pwr.group g))
  | 0x3000, 6 => (List.range 14).flatMap (fun g => toLe 2 (s.groupLimit g))
  | 0x3000, 7 => toLe 4 s.pwr.convFailed.toNat
  | 0x3000, _ => toLe 2 (s.pwr.waiting.filter (fun w => !w.retry)).length
  | 0x3100, 1 => toLe 1 s.clk.refState
  | 0x3100, 2 => toLe 2 s.unlockedIslands
  | 0x3100, _ => toLe 2 (s.obj index sub)
  | 0x3200, 4 => toLe 4 (s.coolant 0).toNat
  | 0x3200, 5 => toLe 4 (s.coolant 2).toNat
  | 0x3200, 6 => toLe 1 (s.thm.timeout.toNat + if s.thm.below40 then 8 else 0)
  | 0x3200, 7 => toLe 4 s.thm.rejected
  | 0x3201, 1 => toLe 4 s.thm.flowReq.toNat
  | 0x3210, 1 => toLe 4 s.pwr.capW
  | 0x3210, 3 => toLe 4 s.thm.theta.toNat
  | 0x3210, 4 => [s.pwr.capSource]
  | 0x3211, _ => s.thm.forecast.flatMap (fun w => toLe 4 w.toNat)
  | 0x3220, _ => toLe 1 (s.obj index sub)
  | 0x3230, _ => i16 (s.hottest / 20)
  | 0x3300, _ => (List.range 156).flatMap (fun d => minRecord (tget (0, 0, 0) s.pwr.minMv d) 0)
      ++ (List.range 14).flatMap (fun g => minRecord (tget (0, 0, 0) s.pwr.minMv (156 + g)) 1)
  | 0x3301, 0 => s.pwr.rows.reverse.flatten
  | 0x3301, _ => toLe 1 (s.obj index sub)
  | _, _ => toLe 4 (s.obj index sub)

/-! ### Dies, stacks, calibration, defects (R47, R109, R140, R270, R302, R364, R397, R514) -/

/-- The bit of a bank in a closed-bank word: set once the bank is at retention or unpowered, clear once it is open again
(R107). -/
def BankSt.bit : BankSt → Bool
  | .closed _ | .opening _ => true
  | _ => false
def bankBit (t : Tbl BankSt) (b : Nat) : Bool := (tget .open t b).bit

/-- A sensor's reading in 0.1 °C; 0x8000 when it is excluded. -/
def sensorBytes (v : Int) (ex : Bool) : Bytes := if ex then [0x00, 0x80] else i16 (v / 10)

/-- The ratio of the supply resistance to its baseline in 0.1% (R381). -/
def State.resRatio (s : State) (d : Nat) : Nat :=
  match tget 0 s.pwr.resMedian d with
  | 0 => 1000
  | m => m * 1000 / (s.cal 9 d).toNat

/-- A fuse's state (R397): 0 closed, 1 opened, 2 not powered. -/
def State.fuseState (s : State) (dom : Nat) : Nat :=
  if s.pwr.fuseOpen.contains dom then 1 else if s.domOn dom then 0 else 2

/-- An object of a die. -/
def State.dieObj (s : State) (d : Nat) (sub : Nat) : Bytes :=
  let l := s.logical d
  let die : Die := ⟨d % 156, Nat.mod_lt _ (by decide)⟩
  match sub with
  | 0x01 => toLe 8 (s.identity 1 d).toNat
  | 0x02 => toLe 1 (s.dieRole d)
  | 0x03 => toLe 2 ((l.map (·.val)).getD 0xFFFF)
  | 0x04 => toLe 8 (s.tileMapWord d).toNat
  | 0x05 => (List.range 20).flatMap (fun t => toLe 4 (bitWord 32 (bankBit (s.tile (d * 20 + t)).banks)))
  | 0x06 => (List.range 32).map (fun g =>
      match tget none (s.commons d).seg g with
      | some (c, r) => BitVec.ofNat 8 (c.val + if r then 128 else 0)
      | none => 0xFF)
  | 0x07 => toLe 8 (bitWord 64 (bankBit (s.commons d).banks))
  | 0x08 => (List.range 24).flatMap (fun i =>
      let r := tget {} s.net.reg (d * 24 + i)
      toLe 4 r.rate.toNat ++ toLe 4 r.burst.toNat)
  | 0x09 => toLe 2 (bitWord 10 (s.portOk d) + if s.blocked d then 0 else 1024)
  | 0x0A => toLe 20 (bitWord 156 (fun e => s.routeOf d e == some true))
  | 0x0B => match l with
    | some k => s.blockOwners (dieBlock k.val 0) 32 30
    | none => List.replicate 30 0xFF ++ [0xFE, 0xFE]
  | 0x0C => toLe 1 (s.dieClk d).step
  | 0x0D => toLe 1 (s.ceilingSource d)
  | 0x0E => toLe 1 (s.obj (0x4000 + d) 0x0E)
  | 0x0F => [if s.lockstep d then 0 else 1]
  | 0x10 => (List.finRange 37).map (fun i => BitVec.ofNat 8 (s.islandCode (.die die i)))
  | 0x11 => (List.finRange 37).flatMap (fun i =>
      let x := s.island (islandKey (.die die i))
      [x.last, x.min])
  | 0x12 => (List.range 21).flatMap (fun i =>
      let x := s.spot (dieSpot d i)
      sensorBytes x.a x.exA ++ sensorBytes x.b x.exB)
  | 0x13 =>
    let l := (List.range 21).map (fun i => s.spot (dieSpot d i))
    toLe 1 (if l.any (·.tripped) then 4 else (l.map (·.stage)).foldl max 0)
  | 0x14 => toLe 2 (s.phases d).toNat
  | 0x15 => toLe 4 (tget 0 s.pwr.resMedian d)
  | 0x16 => toLe 2 (s.resRatio d)
  | _ => toLe 2 (tget 0 s.pwr.diePower d)

/-- An object of a stack. -/
def State.stackObj (s : State) (k sub : Nat) : Bytes :=
  match sub with
  | 1 => toLe 8 (s.identity 2 k).toNat
  | 2 => toLe 1 (s.stackRole k)
  | 3 => (List.range 64).map (s.bankOwner k)
  | 4 => toLe 8 (bitWord 64 (fun b => (s.stackBankSt k b).bit))
  | 5 => i16 ((s.spot (3276 + k)).twice / 20)
  | _ => toLe 1 (s.fuseState k)

/-- An object of 0x4000–0x5FFF. -/
def State.partObj (s : State) (index sub : Nat) : Bytes :=
  if index < 0x4800 then s.dieObj (index - 0x4000) sub
  else if index < 0x5000 then s.stackObj (index - 0x4800) sub
  else match index, sub with
  | 0x5000, 1 => s.calTable
  | 0x5000, 2 => [s.boot.calOrigin]
  | 0x5000, 3 => toLe 4 s.boot.calGen.toNat
  | 0x5000, _ => sha3 32 s.calTable
  | 0x5100, 1 => toLe 4 s.anat.remapGen
  | 0x5100, 2 => toLe 2 s.anat.factory.length
  | 0x5100, 3 => toLe 2 s.anat.field.length
  | 0x5100, _ => toLe 4 s.net.routeGen
  | 0x5101, _ => toLe 8 (s.dieMapWord (sub - 1)).toNat
  | 0x5102, _ => s.anat.factory.flatMap (fun w => toLe 4 w.toNat)
  | _, _ => s.anat.field.flatMap (fun w => toLe 4 w.toNat)

/-! ### Security (R440, R509) -/

/-- fw_slots (R509). -/
def State.fwSlots (s : State) : Bytes :=
  (List.range 12).flatMap (fun i =>
    let x := s.fw (i / 2 + 1) (i % 2)
    toLe 1 (i / 2 + 1) ++ toLe 1 (i % 2) ++ toLe 1 x.st ++ [0] ++ toLe 4 x.version.toNat ++ toLe 4 x.svn.toNat
      ++ [0, 0, 0, 0] ++ hashBytes x.digest)

/-- device_certs (R407): the issuers, keys, signatures and the authority's serial are the factory's words. -/
def State.deviceCerts (s : State) : Bytes :=
  let words (a n : Nat) : Bytes := ((List.range' a (n / 8 + 1)).flatMap (fun i => toLe 8 (Config.factoryWord i).toNat)).take n
  certFront 1 (Config.factoryWord 16) (words 17 32) (List.replicate 32 0) 0 ++ words 24 5357
    ++ certFront 2 s.serial64 (words 1000 32) (List.replicate 32 0) 0 ++ words 1008 5357

/-- An object of 0x6000–0x6FFF, for a session. (DEDUCED, log 97) -/
def State.trustObj (s : State) (n index sub : Nat) : Bytes :=
  let x := s.ctx (subCtx sub)
  match index, sub with
  | 0x6000, 1 => [if s.sec.owned then 1 else 0]
  | 0x6000, 2 => hashBytes ((s.sec.ownerKeys.head?).getD 0)
  | 0x6000, 3 => hashBytes s.sec.claimNonce
  | 0x6000, 6 => s.sec.ownerKeys.flatMap Config.keyBlock
  | 0x6000, 7 => toLe 4 s.sec.sequence.toNat
  | 0x6000, 8 => s.sec.imageKey
  | 0x6000, 9 => toLe 4 s.sec.minGen.toNat
  | 0x6000, _ => s.sec.approvals.flatMap (fun a => [a.1, 0, 0, 0, 0, 0, 0, 0] ++ hashBytes a.2)
  | 0x6001, 1 => (List.range 8).flatMap (fun i => hashBytes (tget 0 s.sec.vendor i))
  | 0x6001, 2 => [s.sec.revoked]
  | 0x6001, _ => (List.range 8).flatMap (fun i => toLe 1 (if i = 0 ∨ i = 7 then 0 else s.rollback i))
  | 0x6002, _ => s.fwSlots
  | 0x6010, _ => tget [] s.sec.reports n
  | 0x6011, _ => s.deviceCerts
  | 0x6012, _ => toLe 1 s.sec.root
  | 0x6100, _ => toLe 1 (keyCode x.key)
  | 0x6102, _ => s.offerBytes (subCtx sub)
  | 0x6105, _ => toLe 1 (bitWord 8 (fun i => (tget none x.slots i).isSome))
  | _, _ => ((x.image.map (·.windows)).getD []).flatMap (fun w => toLe 8 w.1.toNat ++ toLe 8 w.2)

/-! ### Fabric (R314, R322, R339) -/

/-- A lane's margin record (R314). -/
def laneBytes (l : LaneIn) : Bytes :=
  toLe 2 l.rxPower.toNat ++ toLe 2 l.laserBias.toNat ++ toLe 4 l.ber.toNat ++ toLe 4 l.fecSymbols.toNat
    ++ [l.state, 0, 0, 0]

/-- An object of a vent die. -/
def State.ventObj (s : State) (v sub : Nat) : Bytes :=
  let x := s.vent v
  match sub with
  | 1 => toLe 1 (linkCode x.st)
  | 2 => toLe 2 x.peer.toNat
  | 3 => [x.tx]
  | 4 => [x.rx]
  | 5 => (List.range 32).flatMap (fun i => laneBytes (tget ⟨0, 0, 0, 0, 0, 0⟩ x.lanes i))
  | 6 => toLe 4 (if x.keyed then (s.now - x.keyedAt) / 1000000000 else 0)
  | _ => toLe 1 (s.fuseState (468 + v))

/-- An export entry (R322). -/
def exportBytes (e : Export) : Bytes :=
  [e.context, e.rights, e.remoteCtx, 0] ++ toLe 2 e.boxLow.toNat ++ toLe 2 e.boxHigh.toNat
    ++ toLe 8 e.base.toNat ++ toLe 8 e.length.toNat ++ List.replicate 8 0

/-- The state of a group over its participants: HALTED before running before idle. (DEDUCED, log 98) -/
def State.groupState (s : State) (g : Nat) : Nat :=
  let l := (List.range 144).map (fun d =>
    match tget none s.fab.group (d * 4 + g) with
    | some r => groupCode r.st
    | none => 0)
  l.foldl max 0

/-- An object of 0x7000–0x7FFF. -/
def State.fabricObj (s : State) (index sub : Nat) : Bytes :=
  if 0x7100 ≤ index ∧ index < 0x7200 then s.ventObj (index - 0x7100) sub
  else match index, sub with
  | 0x7000, 1 | 0x7000, 2 => toLe 2 (s.storedObj (index * 256 + sub))
  | 0x7000, 4 => s.fab.down.flatMap (fun p => toLe 2 p.1.toNat ++ [p.2, 0])
  | 0x7000, _ => toLe 4 s.fab.routeGen
  | 0x7200, _ => s.fab.exports.flatMap (fun e => exportBytes e.2)
  | 0x7300, _ => [match tget none s.fab.owner (sub - 1) with | some c => BitVec.ofNat 8 c.val | none => 0xFF]
  | 0x7301, _ => toLe 1 (s.groupState (sub - 1))
  | _, _ => toLe 4 (s.obj index sub)

/-! ### Counters (R73, R491) -/

/-- The counter set of an index, its records and the bytes of a record. -/
def ctrSet (index : Nat) : CtrSet × Nat × Nat :=
  match index with
  | 0x8000 => (.recovery, 1, 52)
  | 0x8010 => (.arith, 3456, 32)
  | 0x8011 => (.tile, 2304, 64)
  | 0x8012 => (.engine, 1152, 64)
  | 0x8013 => (.unit, 18432, 64)
  | 0x8014 => (.queue, 73728, 32)
  | 0x8015 => (.spec, 2304, 64)
  | 0x8016 => (.sparse, 2304, 64)
  | 0x8017 => (.stack, 312, 64)
  | 0x8018 => (.net, 156, 64)
  | 0x8019 => (.fabric, 48, 64)
  | 0x801A => (.ring, 576, 64)
  | 0x801B => (.clock, 156, 64)
  | 0x801C => (.power, 156, 64)
  | 0x801D => (.security, 1, 32)
  | 0x801E => (.host, 2, 64)
  | _ => (.mgmt, 4, 64)

/-- Bytes of a counter object. -/
def ctrBytes (index : Nat) : Nat := (ctrSet index).2.1 * (ctrSet index).2.2

/-- A byte of a counter object. -/
def State.ctrByte (s : State) (index i : Nat) : Byte :=
  let q := ctrSet index
  BitVec.ofNat 8 (s.ctr q.1 (i / q.2.2) (i % q.2.2 / 4 * 4) / 256 ^ (i % 4))

/-- n bytes of a counter object from an offset on, as they are now (R476). -/
def State.ctrRead (s : State) (index off n : Nat) : Bytes :=
  (List.range' off (min n (ctrBytes index - off))).map (s.ctrByte index)

/-- An object of 0x8000–0x8FFF. -/
def State.counterObj (s : State) (index sub : Nat) : Bytes :=
  if sub = 0 then s.ctrRead index 0 (ctrBytes index) else toLe 8 (tget 0 s.ctrSince (ctrNum (ctrSet index).1))

/-! ### Logs, QUENCH, debug (R364, R440, R520, R534, R538, R544) -/

/-- An object of 0x9000–0xAFFF but for the obsidian images. -/
def State.logObj (s : State) (index sub : Nat) : Bytes :=
  match index, sub with
  | 0x9000, 0 => s.log.main.reverse.flatMap LogEntry.bytes
  | 0x9000, 1 => toLe 4 s.log.count
  | 0x9000, 2 => toLe 4 s.log.lost
  | 0x9000, 4 => s.log.persistent.reverse.flatMap (fun p => toLe 4 p.1.toNat ++ [0, 0, 0, 0] ++ p.2.bytes)
  | 0x9000, _ => toLe 2 (s.obj index sub)
  | 0x9010, _ => if s.recov.margin.isEmpty then List.replicate 32 0 else s.recov.margin
  | 0x9020, _ => s.recov.log.reverse.flatten
  | 0xA000, 4 => toLe 1 s.quenchStatus
  | 0xA000, _ => toLe 1 (s.obj index sub)
  | 0xA001, _ => [s.clk.newest]
  | 0xA010, 1 => hashBytes s.sec.challenge
  | _, _ => [s.sec.debug]

/-- The value of an object for a session of a level. -/
def State.objValue (s : State) (n : Nat) (level : Level) (index sub : Nat) : Bytes :=
  match index / 0x1000 with
  | 1 => s.identityObj n level index sub
  | 2 => s.panelObj index sub
  | 3 => s.supplyObj index sub
  | 4 | 5 => s.partObj index sub
  | 6 => s.trustObj n index sub
  | 7 => s.fabricObj index sub
  | 8 => s.counterObj index sub
  | _ => s.logObj index sub

end Sys2Proof.Machine
end

