-- ==== Sys2Proof/Machine/Records.lean ====
section
/-! DEFINITION. The records that objects take as bytes, read into the operands of their commands: owner claims
and records, revocations, accepts, key loads, debug tokens, images, manifests, the calibration table. -/

namespace Sys2Proof.Machine

/-- n bytes from an offset on. -/
def cut (d : Bytes) (off n : Nat) : Bytes := (d.drop off).take n

/-- A little-endian field of n bytes at an offset. -/
def field (d : Bytes) (off n : Nat) : Nat := leNat (cut d off n)

/-- A byte. -/
def byteOf (d : Bytes) (off : Nat) : Byte := d.getD off 0

/-- A hash field. -/
def hashField (d : Bytes) (off : Nat) : BitVec 256 := BitVec.ofNat 256 (field d off 32)

/-- The key hash of a key block at an offset (R409). -/
def keyField (d : Bytes) (off : Nat) : BitVec 256 := BitVec.ofNat 256 (leNat (sha3 32 (cut d off 1984)))

/-- The signature block at an offset, over everything before it, by the key with a hash (R408). -/
def sigField (d : Bytes) (covered off : Nat) (key : BitVec 256) : SigBlock :=
  { keyHash := key, edOk := Config.verifies key (d.take covered) (cut d off 3373), mldsaOk := true, canonical := true }

/-- An owner claim (R417). -/
def claimOf (d : Bytes) : Claim :=
  { magicOk := d.length == 5405 && d.take 4 == [0x51, 0x43, 0x4C, 0x4D]
    serial := BitVec.ofNat 64 (field d 8 8)
    nonce := hashField d 16
    keyHash := keyField d 48
    sig := sigField d 2032 2032 (keyField d 48) }

/-- The payload bytes of an owner record's kind (R416). -/
def ownerPayloadBytes (kind : Nat) : Option Nat :=
  match kind with
  | 1 => some 0
  | 2 => some 1984
  | 3 | 4 => some 8
  | 5 => some 1216
  | 6 => some 40
  | 7 => some 4
  | _ => none

/-- What every owner record carries (R416). -/
def State.ownerHead (s : State) (d : Bytes) (n : Nat) : OwnerHead :=
  let id := BitVec.ofNat 64 (field d 24 8)
  { magicOk := d.length == 32 + n + 3373 && d.take 4 == [0x51, 0x4F, 0x57, 0x4E]
    serial := BitVec.ofNat 64 (field d 8 8)
    sequence := BitVec.ofNat 32 (field d 16 4)
    keyId := id
    sig := sigField d (32 + n) (32 + n) ((s.ownerKey id).getD 0) }

/-- A write of owner_record (R416): by its kind. (DEDUCED, log 82) -/
def State.writeOwnerRecord (s : State) (d : Bytes) : State :=
  let kind := (byteOf d 4).toNat
  match ownerPayloadBytes kind with
  | none => s.refuseRecord 0x7005 none false
  | some n =>
    let h := s.ownerHead d n
    match kind with
    | 1 => s.recRelease h
    | 2 => s.recKeyAdd h (keyField d 32)
    | 3 => s.recKeyRemove h (BitVec.ofNat 64 (field d 32 8))
    | 4 => s.recKeyPrimary h (BitVec.ofNat 64 (field d 32 8))
    | 5 => s.recImageKey h (cut d 32 1216)
    | 6 => s.recUpdateApprove h (byteOf d 32) (hashField d 40)
    | _ => s.recOperatorGeneration h (BitVec.ofNat 32 (field d 32 4))

/-- A revocation record, with its key block between the covered bytes and the signature (R413). -/
def revokeOf (d : Bytes) : Revoke :=
  { magicOk := d.length == 5373 && d.take 4 == [0x51, 0x52, 0x45, 0x56]
    slot := byteOf d 4
    signer := byteOf d 5
    serial := BitVec.ofNat 64 (field d 8 8)
    keyHash := keyField d 16
    sig := sigField d 16 2000 (keyField d 16) }

/-- A context accept (R424). -/
def State.acceptOf (s : State) (d : Bytes) : Accept :=
  let id := BitVec.ofNat 64 (field d 48 8)
  { magicOk := d.length == 4557 && d.take 4 == [0x51, 0x41, 0x43, 0x43]
    context := byteOf d 4
    debugOk := (byteOf d 5).getLsbD 0
    serial := BitVec.ofNat 64 (field d 8 8)
    nonce := hashField d 16
    keyId := id
    x25519 := cut d 64 32
    mlkem := cut d 96 1088
    sig := sigField d 1184 1184 ((s.ownerKey id).getD 0) }

/-- A key load (R426), opened under WRAP. -/
def State.keyLoadOf (s : State) (c : CtxId) (d : Bytes) : KeyLoad :=
  let plain := match (s.ctx c).cms with
    | some k => gcmOpen (wrapKey k) (cut d 12 12) (d.take 12) (cut d 24 32) (cut d 56 16)
    | none => none
  { magicOk := d.length == 72 && d.take 4 == [0x51, 0x4B, 0x45, 0x59]
    context := byteOf d 4
    slot := byteOf d 5
    sequence := BitVec.ofNat 32 (field d 8 4)
    tagOk := plain.isSome
    key := BitVec.ofNat 256 (beNat (natsOf (plain.getD []))) }

/-- A debug token (R435). -/
def State.debugTokOf (s : State) (d : Bytes) : DebugTok :=
  let id := BitVec.ofNat 64 (field d 48 8)
  { magicOk := d.length == 3429 && d.take 4 == [0x51, 0x44, 0x42, 0x47]
    scope := byteOf d 4
    serial := BitVec.ofNat 64 (field d 8 8)
    challenge := hashField d 16
    keyId := id
    sig := sigField d 56 56 ((s.ownerKey id).getD 0) }

/-- A firmware image: header and body (R410). -/
def fwImageOf (d : Bytes) : FwImage :=
  let body := d.drop 5421
  { component := byteOf d 4
    slot := byteOf d 5
    version := BitVec.ofNat 32 (field d 8 4)
    svn := BitVec.ofNat 32 (field d 12 4)
    bytes := d.length
    digest := hashField d 32
    bodyOk := d.take 4 == [0x51, 0x46, 0x57, 0x49] && field d 16 8 == body.length && sha3 32 body == cut d 32 32
    keyHash := keyField d 64
    sig := sigField d 2048 2048 (keyField d 64) }

/-- A manifest entry (R258). -/
def shardEntryOf (d : Bytes) : ShardEntry :=
  { shard := BitVec.ofNat 32 (field d 0 4)
    flags := byteOf d 4
    length := BitVec.ofNat 64 (field d 8 8)
    placement := BitVec.ofNat 64 (field d 16 8)
    digest := hashField d 32
    zerosOk := field d 5 3 == 0 && field d 24 8 == 0 }

/-- A manifest (R258); a length that differs from what shard_count asks for fails with the header's zeros. -/
def State.manifestOf (s : State) (d : Bytes) : Manifest :=
  let n := field d 4 4
  let id := BitVec.ofNat 64 (field d 24 8)
  let m := min n 65536
  { version := BitVec.ofNat 32 (field d 0 4)
    id := BitVec.ofNat 64 (field d 8 8)
    generation := BitVec.ofNat 64 (field d 16 8)
    keyId := id
    zerosOk := field d 32 32 == 0 && d.length == 64 + 64 * n + 3373
    entries := (List.range m).map (fun i => shardEntryOf (cut d (64 + 64 * i) 64))
    sig := sigField d (64 + 64 * n) (64 + 64 * n) ((s.ownerKey id).getD 0) }

/-- The elements of a section, where they differ from the factory's (R506). -/
def calValues (sec : Nat) (d : Bytes) : Nat → Nat → Tbl Int
  | 0, _ => []
  | n + 1, i =>
    let b := calBytesPer sec
    let raw := leNat (d.take b)
    let v : Int := if sec = 6 ∧ 32768 ≤ raw then (raw : Int) - 65536 else raw
    let rest := calValues sec (d.drop b) n (i + 1)
    if v = calFactory sec i then rest else (i, v) :: rest

/-- A write of cal_table (R505, R507). -/
def calOf (d : Bytes) : CalWrite :=
  let dir (k : Nat) : Bytes := cut d (32 + 16 * k) 16
  { length := d.length
    magicOk := d.take 4 == [0x51, 0x43, 0x41, 0x4C] && field d 20 12 == 0
      && (List.range 10).all (fun k => field (dir k) 2 2 == 0 && field (dir k) 12 4 == 0)
    version := BitVec.ofNat 16 (field d 4 2)
    count := byteOf d 7
    serial := BitVec.ofNat 64 (field d 8 8)
    directory := (List.range 10).map (fun k =>
      ((byteOf (dir k) 0).toNat, (byteOf (dir k) 1).toNat, field (dir k) 4 4, field (dir k) 8 4))
    values := (List.range 10).map (fun k => calValues (k + 1) (d.drop (calOffset (k + 1))) (calCount (k + 1)) 0) }

/-- The entries of a process-data map. -/
def mapOf (d : Bytes) : List MapEntry :=
  (List.range (d.length / 4)).map (fun i =>
    ⟨BitVec.ofNat 16 (field d (4 * i) 2), byteOf d (4 * i + 2), byteOf d (4 * i + 3)⟩)

/-- Words of 32 bits. -/
def wordsOf32 (d : Bytes) : List W32 := (List.range (d.length / 4)).map (fun i => BitVec.ofNat 32 (field d (4 * i) 4))

/-- Pieces of n bytes. -/
def pieces (n : Nat) (d : Bytes) : List Bytes :=
  (List.range ((d.length + n - 1) / n)).map (fun i => cut d (n * i) n)

end Sys2Proof.Machine
end

