-- ==== Sys2Proof/Machine/Dict.lean ====
section
/-! DEFINITION. Access to objects (R474, R478–R490): the checks in their order, process-data maps, and what a
write of each object does. -/

namespace Sys2Proof.Machine

/-- Who accesses an object: a session (0 for none) and its level. -/
structure Caller where
  session : Nat
  level : Level
  deriving DecidableEq, Repr

/-! ### The checks of R474 -/

/-- Another session holds a segmented write of the object, or the process data object that the write binds. -/
def State.objLocked (s : State) (n index sub : Nat) : Bool :=
  s.mgmt.session.any (fun p => p.1 != n && (match p.2 with
    | some x => (match x.xfer with
      | some y => y.write && !y.expired && y.index.toNat == index && y.sub.toNat == sub
      | none => false)
    | none => false))
  || (let o := if index = 0x1200 ∨ index = 0x1201 then (tget {} s.mgmt.tpdo (sub - 1)).owner.toNat
        else if index = 0x1210 then (tget {} s.mgmt.rpdo (sub - 1)).owner.toNat else 0
      o != 0 && o != n)

/-- The objects that OFF serves (R484). -/
def servedOff (index : Nat) : Bool :=
  (decide (0x1000 ≤ index) && decide (index ≤ 0x1101)) || index == 0x2000 || index == 0x3000

/-- The panel stays in BOOT without firmware, and serves no object (R512). (DEDUCED, log 170) -/
def State.bootHeld (s : State) : Bool :=
  s.st == .boot && (match s.boot.start with | some ⟨_, 2, _⟩ => true | _ => false)

/-- The state takes no write of the object, whatever its value (R160, R493, R510). -/
def State.closedTo (s : State) (index : Nat) : Bool :=
  match index with
  | 0x2206 => s.st == .selftest || s.st == .quenched
  | 0x224C => s.st == .quenched
  | 0x6002 => s.st != .updating
  | _ => false

/-- The block of an RWI object runs (R482). -/
def State.blockRuns (s : State) (index sub : Nat) : Bool :=
  if 0x2240 ≤ index ∧ index < 0x2250 then (s.ctx (subCtx sub)).runs
  else if index = 0x7302 then
    (match tget none s.fab.owner (sub - 1) with
    | some c => (s.ctx c).runs
    | none => false)
  else allCtx.any (fun c => (s.ctx c).runs)

/-- The level that an access needs: the object's, or the command's (R483, R486). -/
def needLevel (r : ObjRow) (index sub : Nat) (write : Bool) (v : Bytes) : Nat :=
  if write ∧ index = 0x2000 ∧ sub = 1 ∧ v = [6] then 2 else r.lev

/-- The first of the checks up to BUSY that an access fails (R474). -/
def State.objRefusal (s : State) (c : Caller) (index sub : Nat) (write : Bool) (v : Bytes) : Option FStatus :=
  if (rowsAt index).isEmpty then some .noobj
  else match objRow index sub with
  | none => some .nosub
  | some r =>
    if levelCode c.level < needLevel r index sub write v then some .auth
    else if write ∧ r.cls = 1 then some .readonly
    else if !write ∧ r.cls = 2 then some .writeonly
    else if write ∧ s.objLocked c.session index sub then some .locked
    else if s.bootHeld ∨ s.st = .off ∧ !servedOff index ∨ write ∧ s.closedTo index then some .state
    else if write ∧ (r.cls = 5 ∧ s.blockRuns index sub ∨ index = 0x2000 ∧ sub = 1 ∧ s.boot.running ≠ .none) then
      some .busy
    else none

/-- The type of an object. -/
def objType (index sub : Nat) : Nat := ((objRow index sub).map (·.typ)).getD 0

/-! ### Ranges -/

/-- An FP32 word is finite. -/
def finite32 (v : Nat) : Bool := v / 2 ^ 23 % 256 != 255

/-- lo ≤ v ≤ hi. -/
def within (v lo hi : Nat) : Bool := decide (lo ≤ v) && decide (v ≤ hi)

/-- A coordinate lies in the stored dimensions (R315). -/
def State.coordOk (s : State) (v : Nat) : Bool :=
  let t := s.storedObj 0x700002
  decide (bits v 0 5 ≤ bits t 0 5) && decide (bits v 5 5 ≤ bits t 5 5) && decide (bits v 10 4 ≤ bits t 10 4)

/-- The range of a fixed-size value. -/
def State.valueOk (s : State) (index sub v : Nat) : Bool :=
  let typ := objType index sub
  (typ != 1 || decide (v < 2)) && (typ != 8 || finite32 v) &&
  (if 0x4000 ≤ index ∧ index < 0x4800 then within v 8 30
  else match index with
  | 0x1100 => (match sub with
    | 3 | 4 => decide (v < 8) || v == 255
    | 5 => within v 1024 65535
    | 7 => within v 10 3600
    | _ => within v 500 60000)
  | 0x1201 => within v 0 1000
  | 0x2000 => sub == 6 || within v 1 7
  | 0x2100 => (match sub with
    | 1 | 3 => within v 0 2
    | 2 | 4 | 7 => within v 0 1
    | 5 => within v 100 10000
    | 8 => within v 0x33800000 0x3E800000
    | 9 => within v 1 10000000
    | _ => true)
  | 0x2206 => within v 1 7
  | 0x2241 => within v 10 100000
  | 0x2242 | 0x2247 => within v 0 1
  | 0x2243 => within v 100 10000000
  | 0x2244 => within v 10 1000000
  | 0x2245 => within v 1000 10000000
  | 0x2246 => within v 0 100
  | 0x2248 => within v 10 600000
  | 0x224C => within v 1 2
  | 0x2260 => if sub = 1 then within v 1 168 else within v 60 86400
  | 0x3100 => within v 1 100
  | 0x3201 => fle 0x42200000 (BitVec.ofNat 32 v) && fle (BitVec.ofNat 32 v) 0x43480000
  | 0x3210 => within v 10000 66000
  | 0x3220 => sub == 2 || within v 35 65
  | 0x6002 => within v 1 2
  | 0x6101 => within v 1 2
  | 0x7000 => sub == 2 || s.coordOk v
  | 0x7001 => within v 60 86400
  | 0x7302 => within v 100 600000
  | _ => true)

/-! ### Process data (R487–R489) -/

/-- A map entry names an object of a fixed-size type, at a level, of the classes asked for. -/
def entryFits (level : Level) (rx : Bool) (e : MapEntry) : Bool :=
  match objRow e.index.toNat e.sub.toNat with
  | none => false
  | some r => e.zero == 0 && (typeBytes r.typ).isSome && decide (r.lev ≤ levelCode level)
      && (if rx then r.cls == 3 || r.cls == 4 else r.cls != 2)

/-- Bytes of the values of a map. -/
def mapBytes (m : List MapEntry) : Nat :=
  (m.map (fun e => (typeBytes (objType e.index.toNat e.sub.toNat)).getD 0)).sum

/-- A map keeps the conditions of R487 for a session of a level. -/
def mapFits (level : Level) (rx : Bool) (m : List MapEntry) : Bool :=
  within m.length 1 32 && m.all (entryFits level rx) && (rx || decide (mapBytes m + 8 ≤ 512))

/-- The load of R489 on a channel, but for one TPDO. (DEDUCED, log 99) -/
def State.pdoLoad (s : State) (channel but : Nat) : Nat :=
  ((s.mgmt.tpdo.filter (fun p => p.1 != but &&
      ((s.session p.2.owner.toNat).map (·.channel)) == some channel)).map
    (fun p => p.2.rate.toNat * (32 + 8 + mapBytes p.2.map))).sum

/-- A TPDO, an RPDO becomes f of itself. -/
def State.modTpdo (s : State) (n : Nat) (f : Pdo → Pdo) : State :=
  { s with mgmt := { s.mgmt with tpdo := tmod {} s.mgmt.tpdo n f } }
def State.modRpdo (s : State) (n : Nat) (f : Pdo → Pdo) : State :=
  { s with mgmt := { s.mgmt with rpdo := tmod {} s.mgmt.rpdo n f } }

/-- tpdo_rate: a nonzero rate binds the TPDO to the session, 0 unbinds it. -/
def State.setRate (s : State) (c : Caller) (n rate : Nat) : State :=
  let p := tget {} s.mgmt.tpdo n
  let ch := ((s.session c.session).map (·.channel)).getD 2
  if rate = 0 then (s.modTpdo n (fun p => { p with rate := 0, owner := 0 })).fstatus .ok
  else if 1000 < rate ∨ c.session = 0 ∨ !p.map.all (entryFits c.level false)
      ∨ ch < 2 ∧ 250000 < s.pdoLoad ch n + rate * (40 + mapBytes p.map) then s.fstatus .range
  else (s.modTpdo n (fun p => { p with
    rate := BitVec.ofNat 16 rate, owner := BitVec.ofNat 16 c.session })).fstatus .ok

/-- tpdo_map: STATE while the TPDO is enabled. -/
def State.setTmap (s : State) (c : Caller) (n : Nat) (m : List MapEntry) : State :=
  if (tget {} s.mgmt.tpdo n).rate ≠ 0 then s.fstatus .state
  else if !mapFits c.level false m then s.fstatus .range
  else (s.modTpdo n (fun p => { p with map := m })).fstatus .ok

/-- rpdo_map: a map binds the RPDO to the session, an empty one unbinds it. -/
def State.setRmap (s : State) (c : Caller) (n : Nat) (m : List MapEntry) : State :=
  if m.isEmpty then (s.modRpdo n (fun p => { p with map := [], owner := 0 })).fstatus .ok
  else if (tget {} s.mgmt.rpdo n).owner ≠ 0 then s.fstatus .state
  else if c.session = 0 ∨ !mapFits c.level true m then s.fstatus .range
  else (s.modRpdo n (fun p => { p with map := m, owner := BitVec.ofNat 16 c.session })).fstatus .ok

/-- event_mask: the classes of the session's event stream (R490). -/
def State.setMask (s : State) (n : Nat) (v : W16) : State :=
  match s.session n with
  | some x => (s.setSession n (some { x with mask := v &&& 0x3FE })).fstatus .ok
  | none => s.fstatus .state

/-! ### Fault log objects (R520, R521) -/

/-- alert_ack: 1 releases the third condition of ALERT_N. -/
def State.ackAlert (s : State) (v : Bool) : State :=
  (if v then { s with log := { s.log with alert := false } } else s).fstatus .ok

/-- fault_log_clear: 1 erases both rings. -/
def State.clearLog (s : State) (v : Bool) : State :=
  (if v then { s with log := { s.log with main := [], persistent := [] } } else s).fstatus .ok

/-! ### Writes -/

/-- What a start meets that a write triggers: a free value. -/
def State.withStart (s : State) (f : State → StartIn → State) : State :=
  f { s with freeCount := s.freeCount + 1 } (Config.startIn s.freeCount)

/-- panel_cmd (R486). (DEDUCED, log 95) -/
def State.panelCmd (s : State) (v : Nat) : State :=
  match v with
  | 1 => s.withStart State.coldStart
  | 2 => s.withStart State.warmStart
  | 3 => s.powerOff
  | 4 => s.safeCmd
  | 5 => s.selftest
  | 6 => s.calibrate
  | _ => s.update

/-- graph_cmd (R160). -/
def State.graphWrite (s : State) (c : CtxId) (v : Nat) : State :=
  match v with
  | 1 => s.switchDrain c
  | 2 => s.switchFlush c
  | 3 => s.rollbackCmd c
  | 4 => s.haltCmd c
  | 5 => s.resumeCmd c
  | 6 => s.suspendCmd c
  | _ => s.reinstate c

/-- A value that the object keeps. -/
def State.keep (s : State) (index sub v : Nat) : State := (s.setObj index sub v).fstatus .ok

/-- A value stored until the next start (R481). -/
def State.store (s : State) (index sub v : Nat) : State :=
  let k := index * 256 + sub
  { s with stored := tset (objDefaultAt index sub) s.stored k v }.fstatus .ok

/-- A fixed-size value in range takes effect. -/
def State.putValue (s : State) (c : Caller) (index sub v : Nat) : State :=
  let x := subCtx sub
  let yes := v == 1
  match index, sub with
  | 0x1100, 3 | 0x1100, 4 | 0x1100, 5 | 0x2000, 6 => s.store index sub v
  | 0x7000, _ => s.store index sub (v % 2 ^ 14)
  | 0x1101, _ => s.setMask c.session (BitVec.ofNat 16 v)
  | 0x1201, _ => s.setRate c (sub - 1) v
  | 0x2000, _ => s.panelCmd v
  | 0x2100, 6 =>
    { s.setObj index sub v with
      recov := { s.recov with shadowState := if yes then 1 else 0, passing := 0, compared := [] } }.fstatus .ok
  | 0x2202, _ => (s.modCtx x (fun y => { y with staged := BitVec.ofNat 32 v })).fstatus .ok
  | 0x2206, _ => s.graphWrite x v
  | 0x2244, _ =>
    ((s.setObj index sub v).mapUnits x (fun u => { u with joinPending := some (BitVec.ofNat 32 v) })).fstatus .ok
  | 0x2246, _ => ((s.setObj index sub v).mapUnits x (fun u => { u with prefetchPending := some v })).fstatus .ok
  | 0x224C, _ => s.fillCmd x yes
  | 0x3200, _ => s.coolantSample (sub - 1) (BitVec.ofNat 32 v)
  | 0x3300, _ => s.clearMinMv yes
  | 0x5100, _ => s.clearField yes
  | 0x6002, _ => if yes then s.withStart State.activateFw else s.discard
  | 0x6101, _ => if yes then s.offer x else s.beginClose x
  | 0x9000, 3 => s.clearLog yes
  | 0x9000, 6 => s.ackAlert yes
  | 0xA000, 1 => s.quenchCmd yes
  | 0xA000, 2 => s.sramDump yes
  | _, _ => if 0x8000 ≤ index ∧ index < 0x9000 then s.clearSet (ctrSet index).1 yes else s.keep index sub v

/-- A DOMAIN's bytes take effect, under the rule of the object. -/
def State.putDomain (s : State) (c : Caller) (index sub : Nat) (d : Bytes) : State :=
  let x := subCtx sub
  match index, sub with
  | 0x1200, _ => if d.length % 4 ≠ 0 then s.fstatus .range else s.setTmap c (sub - 1) (mapOf d)
  | 0x1210, _ => if d.length % 4 ≠ 0 then s.fstatus .range else s.setRmap c (sub - 1) (mapOf d)
  | 0x2249, _ => s.loadManifest x (s.manifestOf d)
  | 0x224B, _ =>
    if d.length % 32 ≠ 0 then s.fstatus .range
    else (s.modCtx x (fun y => { y with plan := pieces 32 d })).fstatus .ok
  | 0x3211, _ => if d.length = 32 then s.takeForecast (wordsOf32 d) else s.fstatus .range
  | 0x5000, _ => s.writeCal (calOf d)
  | 0x6000, 4 => s.claimOwner (claimOf d)
  | 0x6000, _ => s.writeOwnerRecord d
  | 0x6001, _ => s.revokeSlot (revokeOf d)
  | 0x6002, _ => if s.st = .updating ∧ d.length < 5421 then s.fstatus .range else s.stageFw (fwImageOf d)
  | 0x6010, _ =>
    if d.length = 34 then s.attest (BitVec.ofNat 16 c.session) c.level (hashField d 0) (byteOf d 32) (byteOf d 33)
    else s.fstatus .range
  | 0x6103, _ => s.acceptCtx x (s.acceptOf d)
  | 0x6104, _ => s.keyLoad x (s.keyLoadOf x d)
  | _, _ => s.debugTok (s.debugTokOf d)

/-- The greatest length of a DOMAIN that is written (R477). -/
def domainMax (index : Nat) : Nat :=
  match index with
  | 0x1200 | 0x1210 => 128
  | 0x224B => 131072
  | _ => 67108864

/-- A write of a whole value: the checks of R474 in order, then its effect. -/
def State.writeObj (s : State) (c : Caller) (index sub : Nat) (v : Bytes) : State :=
  match s.objRefusal c index sub true v with
  | some st => s.fstatus st
  | none =>
    match typeBytes (objType index sub) with
    | none => if domainMax index < v.length then s.fstatus .range else s.putDomain c index sub v
    | some n =>
      if v.length ≠ n then s.fstatus .type
      else if !s.valueOk index sub (leNat v) then s.fstatus .range
      else s.putValue c index sub (leNat v)

end Sys2Proof.Machine
end

