-- ==== Sys2Proof/Machine/Mgmt.lean ====
section
/-! DEFINITION. The management protocol (chapter 15): frames, handshakes, sessions, requests, segmented transfers,
process data, events, the field ports, and register writes. -/

namespace Sys2Proof.Machine

/-! ### Frames (R466–R468) -/

/-- Status codes (R474). -/
def fstatusCode : FStatus → Nat
  | .ok => 0 | .noobj => 0x11 | .nosub => 0x12 | .auth => 0x23 | .readonly => 0x21 | .writeonly => 0x22
  | .locked => 0x61 | .state => 0x71 | .busy => 0x31 | .type => 0x42 | .range => 0x41 | .timeout => 0x51

/-- The payload limit of a channel (R465), and the data that a response carries beside its 8 bytes (R477). -/
def payloadCap (channel : Nat) : Nat := if channel < 2 then 1420 else 4064
def dataCap (channel : Nat) : Nat := payloadCap channel - 8

/-- Where a channel's faults and events are logged: its hub; the detail holds channel and session (R495). (DEDUCED, log 103) -/
def channelLoc (channel : Nat) : Loc := locHub (channel % 2)
def channelDetail (channel session : Nat) : Nat := channel + session * 2 ^ 16

/-- A frame dropped for its size, version, kind or session. -/
def State.malformed (s : State) (channel : Nat) : State := (s.count .mgmt channel 0x10 1).turnAway

/-- A frame dropped for its tag: more than 64 of a channel within 1 s raise event 0x5041, once a minute (R495). -/
def State.tagFailed (s : State) (channel : Nat) : State :=
  let l := s.now :: (tget [] s.mgmt.tagFails channel).filter (fun t => decide (s.now < t + 1000000000))
  let quiet := (tget [] s.mgmt.tagFails (4 + channel)).all (fun t => decide (t + 60000000000 ≤ s.now))
  let s := { s.count .mgmt channel 0x08 1 with
    mgmt := { s.mgmt with tagFails := tset [] s.mgmt.tagFails channel l } }
  let s := if 64 < l.length ∧ quiet then
      { s with mgmt := { s.mgmt with tagFails := tset [] s.mgmt.tagFails (4 + channel) [s.now] } }.event 0x5041 none
        (channelLoc channel) (channelDetail channel 0)
    else s
  s.turnAway

/-- The frame has left the mailbox (R449). -/
def State.frameHere (s : State) (channel : Nat) : State := if channel < 2 then s else s.frameTaken (channel - 2)

/-- What becomes of a session's frame (R468, R473). -/
inductive Verdict where
  | dropped
  | again (x : Session)
  | taken (x : Session)

/-- The credential under which an OPERATOR session opened is no longer valid (R420). -/
def State.sessionRevoked (s : State) (x : Session) : Bool :=
  x.level == .operator && (decide (x.generation < s.sec.minGen) || (s.ownerKey x.keyId).isNone || !s.sec.owned)

/-- The kinds that ask for a RESPONSE (R473). -/
def isRequest (kind : Nat) : Bool := decide (4 ≤ kind) && decide (kind ≤ 8)

/-- A frame of a session: the checks of R468, the re-send case of R473, and its acceptance. (DEDUCED, log 100) -/
def State.frameIn (s : State) (h : FHead) (kind : Nat) : State × Verdict :=
  let ch := h.channel.val
  let n := h.session.toNat
  let s := s.frameHere ch
  if !s.pwr.standby then (s.turnAway, .dropped)
  else if h.version ≠ 1 ∨ h.kind ≠ kind ∨ !h.sizeOk then (s.malformed ch, .dropped)
  else match s.session n with
  | none => (s.malformed ch, .dropped)
  | some x =>
    if x.channel ≠ ch then (s.malformed ch, .dropped)
    else if !h.tagOk then (s.tagFailed ch, .dropped)
    else if s.sessionRevoked x then ((s.endSession n).malformed ch, .dropped)
    else if h.sequence ≤ x.rxSeq then
      if isRequest kind ∧ h.sequence = x.lastReq ∧ x.lastReq ≠ 0 then
        ((s.setSession n (some { x with lastFrame := s.now })).count .mgmt ch 0x00 1, .again x)
      else ((s.count .mgmt ch 0x0C 1).turnAway, .dropped)
    else
      let y := { x with rxSeq := h.sequence, lastFrame := s.now }
      ((s.setSession n (some y)).count .mgmt ch 0x00 1, .taken y)

/-- The last sequence number ends a session (R473). -/
def State.lastFrameEnds (s : State) (h : FHead) : State :=
  if h.sequence = 0xFFFFFFFF then { s.endSession h.session.toNat with answer := s.answer } else s

/-- A RESPONSE to a request, kept for a re-send (R467, R473). (DEDUCED, log 84) -/
def State.respond (s : State) (n : Nat) (req : W32) (index sub : Nat) (st : FStatus) (d : Bytes) : State :=
  match s.session n with
  | none => s
  | some x =>
    let q := x.txSeq.toNat + 1
    let p := toLe 4 req.toNat ++ (if st = .ok then d else [])
    let head := frameHead 9 n q index sub (fstatusCode st) p.length
    let tag := frameTag x.keys q head p
    let s := (s.setSession n (some { x with
      txSeq := BitVec.ofNat 32 q, lastReq := req, lastResp := (head, p, tag) })).channelOut x.channel n 9 head p tag
    if q = 0xFFFFFFFF then s.endSession n else s

/-- A request that a frame carries (R473, R474): its effect, then its RESPONSE; where the effect ends the session,
the RESPONSE goes first (R493). A re-send is answered with the stored RESPONSE and has no effect. (DEDUCED, log 101) -/
def State.request (s : State) (h : FHead) (kind index sub : Nat)
    (f : State → Session → State × FStatus × Bytes) : State :=
  let n := h.session.toNat
  match s.frameIn h kind with
  | (s, .dropped) => s
  | (s, .again x) =>
    ((s.count .mgmt x.channel 0x24 1).channelOut x.channel n 9 x.lastResp.1 x.lastResp.2.1 x.lastResp.2.2).ok
  | (s, .taken x) =>
    let r := f s x
    let t := if (r.1.session n).isSome then r.1.respond n h.sequence index sub r.2.1 r.2.2
      else (f (s.respond n h.sequence index sub r.2.1 r.2.2) x).1
    ({ t with answer := .fjoco r.2.1 r.2.2 }).lastFrameEnds h

/-! ### Handshakes (R469–R472) -/

/-- The open sessions. (DEDUCED, log 83) -/
def State.openSessions (s : State) : List Nat := (s.mgmt.session.filter (fun p => p.2.isSome)).map (·.1)

/-- A session number that no open session and no handshake has. -/
def State.freshSession (s : State) : Nat :=
  ((List.range 32).map (fun i => (s.mgmt.nextSession - 1 + i) % 65535 + 1)).find? (fun n =>
    !s.openSessions.contains n && !s.mgmt.shakes.any (fun k => k.session == n)) |>.getD 1

/-- A HELLO_REPLY message as fragments of its channel's payload limit, under an all-zero key and salt (R468, R469). -/
def State.fragments (s : State) (channel session : Nat) (m : Bytes) : State :=
  ((pieces (payloadCap channel) m).zipIdx).foldl (fun (s : State) p =>
    let head := frameHead 1 session 0 m.length p.2 0 p.1.length
    s.channelOut channel session 1 head p.1 (frameTag (List.replicate 72 0) 0 head p.1)) s

/-- The keys of a session (R470): of the two shared secrets, which are free bytes, and the hash of both messages. -/
def State.sessionKeys (s : State) (hello reply : Bytes) : Bytes × State :=
  let (ss, s) := s.freeBytes 64
  (kmac256 ss (sha3 32 (hello ++ reply)) 72 [0x51, 0x53, 0x45, 0x53, 0x53], s)

/-- The HELLO_REPLY message (R470): the panel's nonce is drawn; its key, ciphertext and signature are free bytes. -/
def State.helloReply (s : State) (n : Nat) : Bytes × State :=
  let (nonce, s) := s.draw
  let (keys, s) := s.freeBytes 1120
  let (cert, s) := s.aliasCert
  let (sig, s) := s.freeBytes 3373
  (toLe 2 n ++ [0, 0] ++ hashBytes nonce ++ keys ++ cert ++ sig, s)

/-- HELLO (R470, R472): a complete message (the client's nonce, and its two public keys) starts a handshake, or is answered BUSY beyond 8 handshakes or 16 open
sessions. -/
def execHello (h : FHead) (hid : W16) (body : HelloBody) (s : State) : Host.Outcome State Fault Refusal :=
  let ch := h.channel.val
  let s := s.frameHere ch
  .next (
    if !s.pwr.standby then s.turnAway
    else if h.version ≠ 1 ∨ h.kind ≠ 0 ∨ !h.sizeOk ∨ hid = 0 ∨ h.session ≠ hid ∨ h.sequence ≠ 0 then s.malformed ch
    else if !h.tagOk then s.tagFailed ch
    else
      let s := (s.count .mgmt ch 0x00 1).count .mgmt ch 0x14 1
      if 8 ≤ s.mgmt.shakes.length ∨ 16 ≤ s.openSessions.length then
        let head := frameHead 1 hid.toNat 0 0 0 (fstatusCode .busy) 0
        (s.channelOut ch hid.toNat 1 head [] (frameTag (List.replicate 72 0) 0 head [])).fstatus .busy
      else
        let n := s.freshSession
        let (m, s) := s.helloReply n
        let (keys, s) := (s.fragments ch hid.toNat m).sessionKeys (toLe 32 body.nonce.toNat ++ body.publics) m
        { s with mgmt := { s.mgmt with
          shakes := s.mgmt.shakes ++ [Shake.mk n ch body.nonce s.now keys]
          nextSession := n % 65535 + 1 } }.ok)

/-- The level that a proof earns (R419, R420). -/
def State.granted (s : State) (level : Byte) (p : Proof) : Option (Level × W32 × W64) :=
  match p with
  | .pub => if level = 0 then some (.pub, 0, 0) else none
  | .operator c g =>
    if level = 1 ∧ s.sec.owned ∧ c.magicOk ∧ (c.serial = s.serial64 ∨ c.serial = 0) ∧ s.sec.minGen ≤ c.generation
        ∧ s.byOwner c.keyId c.sig ∧ sigUnder g c.subject then some (.operator, c.generation, c.keyId)
    else none
  | .owner id g => if level = 2 ∧ s.sec.owned ∧ s.byOwner id g then some (.owner, 0, id) else none
  | .factory => none

/-- A signature of a proof fails. -/
def State.proofSigBad (s : State) (p : Proof) : Bool :=
  match p with
  | .operator c g => !(s.byOwner c.keyId c.sig && sigUnder g c.subject)
  | .owner id g => !s.byOwner id g
  | _ => false

/-- Bytes of a FINISH message (R471). -/
def finishBytes (p : Proof) : Nat :=
  match p with
  | .operator _ _ => 8770
  | .owner _ _ => 3389
  | _ => 8

/-- FINISH (R471, R472): the session opens at the level granted, or AUTH, fault 0x7060 and the end of the session. -/
def execFinish (h : FHead) (level : Byte) (proof : Proof) (s : State) : Host.Outcome State Fault Refusal :=
  let ch := h.channel.val
  let n := h.session.toNat
  let s := s.frameHere ch
  .next (
    if !s.pwr.standby then s.turnAway
    else if h.version ≠ 1 ∨ h.kind ≠ 2 ∨ !h.sizeOk
        ∨ !s.mgmt.shakes.any (fun k => k.session == n && k.channel == ch && decide (s.now < k.begun + 2000000000)) then
      s.malformed ch
    else if !h.tagOk then s.tagFailed ch
    else if h.sequence = 0 then (s.count .mgmt ch 0x0C 1).turnAway
    else
      let s := s.count .mgmt ch 0x00 ((finishBytes proof + payloadCap ch - 1) / payloadCap ch)
      let keys := ((s.mgmt.shakes.find? (fun k => k.session == n)).map (·.keys)).getD []
      let s := { s with mgmt := { s.mgmt with shakes := s.mgmt.shakes.filter (fun k => k.session != n) } }
      let deny (s : State) (st : FStatus) : State :=
        let head := frameHead 3 n 1 0 0 (fstatusCode st) 0
        (s.channelOut ch n 3 head [] (frameTag keys 1 head [])).fstatus st
      match s.granted level proof with
      | some (l, g, k) =>
        if 16 ≤ s.openSessions.length then deny s .busy
        else
          let s := (s.setSession n (some {
            channel := ch, level := l, generation := g, keyId := k, keys := keys, opened := s.now, lastFrame := s.now
            rxSeq := h.sequence })).count .mgmt ch 0x18 1
          (s.frameOut n 3 0 0 0 [BitVec.ofNat 8 (levelCode l), 0, 0, 0]).ok
      | none =>
        let s := if s.proofSigBad proof then s.count .security 0 0x00 1 else s
        let s := (s.count .security 0 0x04 1).fault 0x7060 none (channelLoc ch) (channelDetail ch n)
        deny s .auth)

/-- HANDSHAKE_TIMEOUT (R472). -/
def execHandshakeTimeout (session : W16) (s : State) : Host.Outcome State Fault Refusal :=
  let late (k : Shake) : Bool := k.session == session.toNat
  .next (match s.mgmt.shakes.find? late with
    | some k =>
      let s := s.notBefore (k.begun + 2000000000)
      { s with mgmt := { s.mgmt with shakes := s.mgmt.shakes.filter (fun k => !late k) } }.ok
    | none => s.turnAway)

/-! ### Reads (R476) -/

/-- A session's transfer becomes y. -/
def State.setXfer (s : State) (n : Nat) (y : Option Xfer) : State :=
  match s.session n with
  | some x => s.setSession n (some { x with xfer := y })
  | none => s

/-- Objects that are read from their source, without a snapshot (R476). -/
def sourced (index : Nat) : Bool :=
  (decide (0x8000 ≤ index) && decide (index < 0x9000)) || index == 0xA001 || index == 0x3301

/-- Bytes of snapshots that other sessions hold. -/
def State.snapshots (s : State) (but : Nat) : Nat :=
  (s.mgmt.session.map (fun p =>
    match p.2 with
    | some x => (match x.xfer with
      | some y => if p.1 = but ∨ y.write ∨ y.expired ∨ sourced y.index.toNat then 0 else y.data.length
      | none => 0)
    | none => 0)).sum

/-- A READ (R474, R476): the value, or the total length and the first data of a DOMAIN. -/
def State.readReq (s : State) (n : Nat) (x : Session) (index sub : Nat) : State × FStatus × Bytes :=
  match s.objRefusal ⟨n, x.level⟩ index sub false [] with
  | some st => (s, st, [])
  | none =>
    if objType index sub ≠ 12 then (s, .ok, s.objValue n x.level index sub)
    else
      let counters := decide (0x8000 ≤ index) && decide (index < 0x9000)
      let r := if index = 0xA001 then s.readSlot (sub - 1)
        else if counters then (s, .ok, s.ctrRead index 0 (dataCap x.channel))
        else (s, .ok, s.objValue n x.level index sub)
      let total := if counters then ctrBytes index else r.2.2.length
      if r.2.1 ≠ .ok then r
      else if !sourced index ∧ 67108864 < s.snapshots n + total then (s, .busy, [])
      else
        (r.1.setXfer n (some {
          write := false, index := BitVec.ofNat 16 index, sub := BitVec.ofNat 8 sub
          data := if counters then [] else r.2.2, total := total, last := s.now }),
         .ok, toLe 4 total ++ r.2.2.take (dataCap x.channel))

/-! ### Segments (R476, R477) -/

/-- The time without a segment after which a transfer expires. -/
def State.segLimit (s : State) : Nat := s.obj 0x1100 0x08 * 1000000

/-- A transfer expires: its data goes, and the counter advances. (DEDUCED, log 115) -/
def State.expire (s : State) (n : Nat) (x : Session) (y : Xfer) : State :=
  (s.setXfer n (some { y with expired := true, data := [] })).count .mgmt x.channel 0x34 1

/-- The transfer that a segment belongs to, or what it answers. -/
def State.segment (s : State) (n : Nat) (x : Session) (index sub : Nat) (write : Bool) : State × Sum FStatus Xfer :=
  match s.objRefusal ⟨n, x.level⟩ index sub write [] with
  | some st => (s, .inl st)
  | none =>
    match x.xfer with
    | none => (s, .inl (if objType index sub = 12 then .state else .type))
    | some y =>
      if y.index.toNat ≠ index ∨ y.sub.toNat ≠ sub ∨ y.write ≠ write then (s, .inl .state)
      else if y.expired then (s.setXfer n none, .inl .timeout)
      else if y.last + s.segLimit < s.now then ((s.expire n x y).setXfer n none, .inl .timeout)
      else (s, .inr y)

/-- A SEG_READ. -/
def State.segReadReq (s : State) (n : Nat) (x : Session) (index sub off : Nat) : State × FStatus × Bytes :=
  match s.segment n x index sub false with
  | (s, .inl st) => (s, st, [])
  | (s, .inr y) =>
    let cap := dataCap x.channel
    if index = 0xA001 ∧ s.slotHeader (sub - 1) ≠ some (y.data.take 64) then (s.setXfer n none, .state, [])
    else if y.total ≤ off then (s.setXfer n (some { y with last := s.now }), .range, [])
    else
      let d := if 0x8000 ≤ index ∧ index < 0x9000 then s.ctrRead index off cap else cut y.data off cap
      (s.setXfer n (some { y with last := s.now }), .ok, toLe 4 off ++ d)

/-- A whole value is written: its status. -/
def State.commit (s : State) (n : Nat) (x : Session) (index sub : Nat) (v : Bytes) : State × FStatus × Bytes :=
  let t := s.writeObj ⟨n, x.level⟩ index sub v
  match t.answer with
  | .fjoco st _ => (t, st, [])
  | _ => (t, .ok, [])

/-- A WRITE (R474, R477): of a DOMAIN, the total length and the first data. -/
def State.writeReq (s : State) (n : Nat) (x : Session) (index sub : Nat) (v : Bytes) : State × FStatus × Bytes :=
  if objType index sub ≠ 12 then s.commit n x index sub v
  else match s.objRefusal ⟨n, x.level⟩ index sub true v with
  | some st => (s, st, [])
  | none =>
    let total := field v 0 4
    let d := v.drop 4
    if v.length < 4 then (s, .type, [])
    else if domainMax index < total ∨ total < d.length then (s, .range, [])
    else if d.length = total then
      let r := s.commit n x index sub d
      (if r.2.1 = .ok then r.1.setXfer n none else r.1, r.2)
    else
      (s.setXfer n (some {
        write := true, index := BitVec.ofNat 16 index, sub := BitVec.ofNat 8 sub, data := d, total := total
        last := s.now }), .ok, [])

/-- A SEG_WRITE: the value takes effect with its last byte. -/
def State.segWriteReq (s : State) (n : Nat) (x : Session) (index sub off : Nat) (d : Bytes) :
    State × FStatus × Bytes :=
  match s.segment n x index sub true with
  | (s, .inl st) => (s, st, [])
  | (s, .inr y) =>
    let all := y.data ++ d
    if off ≠ y.data.length ∨ y.total < all.length then (s.setXfer n (some { y with last := s.now }), .range, [])
    else if all.length = y.total then (s.setXfer n none).commit n x index sub all
    else (s.setXfer n (some { y with data := all, last := s.now }), .ok, [])

/-- A SEG_ABORT: the transfer and its data go. -/
def State.segAbortReq (s : State) (n : Nat) (x : Session) (index sub : Nat) : State × FStatus × Bytes :=
  if (rowsAt index).isEmpty then (s, .noobj, [])
  else match objRow index sub, x.xfer with
  | none, _ => (s, .nosub, [])
  | some r, y =>
    if levelCode x.level < r.lev then (s, .auth, [])
    else if (match y with | some y => y.index.toNat != index || y.sub.toNat != sub | none => false) then (s, .state, [])
    else (s.setXfer n none, .ok, [])

/-- FJOCO_READ (R474–R476). -/
def execFjocoRead (h : FHead) (index : W16) (sub : Byte) (s : State) : Host.Outcome State Fault Refusal :=
  .next (s.request h 4 index.toNat sub.toNat (fun s x => s.readReq h.session.toNat x index.toNat sub.toNat))

/-- FJOCO_WRITE (R474, R477). -/
def execFjocoWrite (h : FHead) (index : W16) (sub : Byte) (value : Bytes) (s : State) :
    Host.Outcome State Fault Refusal :=
  .next (s.request h 5 index.toNat sub.toNat (fun s x => s.writeReq h.session.toNat x index.toNat sub.toNat value))

/-- SEG_READ (R476). -/
def execSegRead (h : FHead) (index : W16) (sub : Byte) (off : W32) (s : State) : Host.Outcome State Fault Refusal :=
  .next (s.request h 6 index.toNat sub.toNat (fun s x =>
    s.segReadReq h.session.toNat x index.toNat sub.toNat off.toNat))

/-- SEG_WRITE (R477). -/
def execSegWrite (h : FHead) (index : W16) (sub : Byte) (off : W32) (data : Bytes) (s : State) :
    Host.Outcome State Fault Refusal :=
  .next (s.request h 7 index.toNat sub.toNat (fun s x =>
    s.segWriteReq h.session.toNat x index.toNat sub.toNat off.toNat data))

/-- SEG_ABORT (R477). -/
def execSegAbort (h : FHead) (index : W16) (sub : Byte) (s : State) : Host.Outcome State Fault Refusal :=
  .next (s.request h 8 index.toNat sub.toNat (fun s x => s.segAbortReq h.session.toNat x index.toNat sub.toNat))

/-- SEG_TIMEOUT (R477): the transfer has had no segment for seg_timeout. -/
def execSegTimeout (session : W16) (s : State) : Host.Outcome State Fault Refusal :=
  let n := session.toNat
  .next (match s.session n with
    | some x => (match x.xfer with
      | some y => if !y.expired then ((s.notBefore (y.last + s.segLimit)).expire n x y).ok else s.turnAway
      | none => s.turnAway)
    | none => s.turnAway)

/-! ### The ends of sessions (R473) -/

/-- SESSION_CLOSE. -/
def execSessionClose (h : FHead) (s : State) : Host.Outcome State Fault Refusal :=
  .next (match s.frameIn h 0xD with
    | (s, .taken _) => (s.endSession h.session.toNat).ok
    | (s, _) => s)

/-- SESSION_IDLE: session_idle seconds without an accepted frame. -/
def execSessionIdle (session : W16) (s : State) : Host.Outcome State Fault Refusal :=
  .next (match s.session session.toNat with
    | some x =>
      (((s.notBefore (x.lastFrame + s.obj 0x1100 0x07 * 1000000000)).count .mgmt x.channel 0x1C 1).endSession
        session.toNat).ok
    | none => s.turnAway)

/-! ### Process data (R487, R488) -/

/-- PDO_TX: the bound TPDO's sample time and values, at the bound rate. -/
def execPdoTx (n : Fin 8) (s : State) : Host.Outcome State Fault Refusal :=
  let p := tget {} s.mgmt.tpdo n.val
  let k := p.owner.toNat
  .next (match s.session k with
    | some x =>
      if p.rate = 0 then s.turnAway
      else
        let s := if p.last = 0 then s else s.notBefore (p.last + 1000000000 / p.rate.toNat - 1)
        let d := toLe 8 s.now ++ p.map.flatMap (fun e => s.objValue k x.level e.index.toNat e.sub.toNat)
        (((s.modTpdo n.val (fun p => { p with last := s.now + 1 })).count .mgmt x.channel 0x28 1).frameOut k 0xA
          (n.val + 1) 0 0 d).ok
    | none => s.turnAway)

/-- The values of a PDO_RX, each a single write; one that is refused is counted. -/
def State.applyPdo (s : State) (c : Caller) (channel : Nat) (d : Bytes) : List MapEntry → State
  | [] => s
  | e :: l =>
    let n := (typeBytes (objType e.index.toNat e.sub.toNat)).getD 0
    let t := s.writeObj c e.index.toNat e.sub.toNat (d.take n)
    State.applyPdo (if t.answer = .fjoco .ok [] then t else t.count .mgmt channel 0x30 1) c channel (d.drop n) l

/-- PDO_RX: the frame of the bound session with the map's length, 1 ms or more after the one before. -/
def execPdoRx (h : FHead) (n : Fin 4) (data : Bytes) (s : State) : Host.Outcome State Fault Refusal :=
  .next (match s.frameIn h 0xB with
    | (s, .taken x) =>
      let p := tget {} s.mgmt.rpdo n.val
      let ch := h.channel.val
      if p.owner ≠ h.session ∨ p.owner = 0 then (s.count .mgmt ch 0x30 1).ok
      else
        let soon := p.last ≠ 0 ∧ s.now + 1 < p.last + 1000000
        let s := s.modRpdo n.val (fun p => { p with last := s.now + 1 })
        if data.length ≠ mapBytes p.map ∨ soon then (s.count .mgmt ch 0x30 1).ok
        else ((s.count .mgmt ch 0x2C 1).applyPdo ⟨h.session.toNat, x.level⟩ ch data p.map).ok
    | (s, _) => s)

/-- A write by an open session, not in a frame. -/
def State.sessionWrite (s : State) (session : W16) (index sub : Nat) (v : Bytes) : State :=
  match s.session session.toNat with
  | some x => s.writeObj ⟨session.toNat, x.level⟩ index sub v
  | none => s.turnAway

/-- The bytes of a map. -/
def mapBlob (m : List MapEntry) : Bytes := m.flatMap (fun e => toLe 2 e.index.toNat ++ [e.sub, e.zero])

/-- TPDO_RATE (R487). -/
def execTpdoRate (session : W16) (n : Fin 8) (rate : W16) (s : State) : Host.Outcome State Fault Refusal :=
  .next (s.sessionWrite session 0x1201 (n.val + 1) (toLe 2 rate.toNat))

/-- TPDO_MAP (R487). -/
def execTpdoMap (session : W16) (n : Fin 8) (m : List MapEntry) (s : State) : Host.Outcome State Fault Refusal :=
  .next (s.sessionWrite session 0x1200 (n.val + 1) (mapBlob m))

/-- RPDO_MAP (R487). -/
def execRpdoMap (session : W16) (n : Fin 4) (m : List MapEntry) (s : State) : Host.Outcome State Fault Refusal :=
  .next (s.sessionWrite session 0x1210 (n.val + 1) (mapBlob m))

/-- EVENT_MASK (R490). -/
def execEventMask (session : W16) (mask : W16) (s : State) : Host.Outcome State Fault Refusal :=
  .next (s.sessionWrite session 0x1101 3 (toLe 2 mask.toNat))

/-! ### Field ports (R465, R495) -/

/-- port_state takes or loses bits. -/
def State.setPorts (s : State) (v : BitVec 4) : State := { s with mgmt := { s.mgmt with ports := v } }

/-- PLCA is in use on a port. -/
def State.plcaUsed (s : State) (port : Nat) : Bool := s.obj 0x1100 (3 + port) != 255

/-- FIELD_LINK_LOSS: the link, or its PLCA beacon for 1 s. -/
def execFieldLinkLoss (port : Fin 2) (link : Bool) (s : State) : Host.Outcome State Fault Refusal :=
  let p := port.val
  let v := s.mgmt.ports
  let bit (n : Nat) : BitVec 4 := BitVec.ofNat 4 (2 ^ n)
  .next (if (link ∧ v.getLsbD p) ∨ (!link ∧ v.getLsbD (p + 2) ∧ s.plcaUsed p) then
      ((s.setPorts (if link then v &&& ~~~(bit p ||| bit (p + 2)) else v &&& ~~~(bit (p + 2)))).event 0x5040 none
        (channelLoc p) (channelDetail p 0)).ok
    else s.turnAway)

/-- FIELD_LINK_RETURN. -/
def execFieldLinkReturn (port : Fin 2) (link : Bool) (s : State) : Host.Outcome State Fault Refusal :=
  let p := port.val
  let v := s.mgmt.ports
  .next (if (link ∧ !v.getLsbD p) ∨ (!link ∧ v.getLsbD p ∧ !v.getLsbD (p + 2) ∧ s.plcaUsed p) then
      ((s.setPorts (v ||| BitVec.ofNat 4 (2 ^ (if link then p else p + 2)))).event 0x5042 none
        (channelLoc p) (channelDetail p 0)).ok
    else s.turnAway)

/-- The modified EUI-64 of a MAC address (RFC 4291). (PRESUMED, log 120) -/
def eui64 (mac : BitVec 48) : W64 :=
  let n := mac.toNat
  BitVec.ofNat 64 ((n / 2 ^ 24 * 2 ^ 40 + 0xFFFE * 2 ^ 24 + n % 2 ^ 24)) ^^^ 0x0200000000000000

/-- NEIGHBOR_DISCOVERY (R465): a solicitation from a link-local source for the port's own address is answered. -/
def execNeighborDiscovery (port : Fin 2) (linkLocalSource : Bool) (iid : W64) (s : State) :
    Host.Outcome State Fault Refusal :=
  let mac := if port = 0 then s.anat.macA else s.anat.macB
  .next (if s.pwr.standby ∧ linkLocalSource ∧ iid = eui64 mac then (s.send (.advert port.val iid)).ok else s.turnAway)

/-! ### Register writes (R17, R122, R447, R448, R479) -/

/-- REGISTER_WRITE: an object, a mailbox register, a hub-space register, a ring register. -/
def execRegisterWrite (r : RegRef) (value : Bytes) (s : State) : Host.Outcome State Fault Refusal :=
  .next (match r with
    | .object level index sub => s.writeObj ⟨0, level⟩ index.toNat sub.toNat value
    | .mailbox h off =>
      if value.length = 4 ∧ off % 4 = 0 then
        s.sidebandCmd h.val (fun s => s.mailboxWrite h.val off (BitVec.ofNat 32 (leNat value)))
      else s.turnAway
    | .hub h off =>
      if value.length = 4 then s.hubRegister h.val off (BitVec.ofNat 32 (leNat value)) else s.turnAway
    | .engine c d off =>
      if (s.phys d).isNone then s.turnAway
      else
        let r := s.ringWrite false c d off value
        r.1.status r.2)

end Sys2Proof.Machine
end

