-- ==== Sys2Proof/Machine/Pins.lean ====
section
/-! DEFINITION. Pins (chapter 18): standby power and the test port (R549, R555, R561, R562). The other pins' events are
in Start (PANEL_RST_N), Clocks (QUENCH_N) and Power (PGOOD). -/

namespace Sys2Proof.Machine

/-! ### Standby power (R549) -/

/-- Standby power is present while a source is at 40 V or above. -/
def standbyPresent (aux p0 p1 : Nat) : Bool := decide (40000 ≤ aux) || decide (40000 ≤ p0) || decide (40000 ≤ p1)

/-- Standby power goes: with both busbar pairs below 40 V the input has failed (R370), sessions and the main log
end with their hub, and the discrete outputs are released (R555, R562). (DEDUCED, log 75) -/
def State.loseStandby (s : State) (aux p0 p1 : Nat) : State :=
  let e : LogEntry :=
    { fault := true, code := 0x1001, ctx := 0xFF, phys := true, loc := (locHub 0).word, time := s.now
      detail := BitVec.ofNat 80 (max p0 p1), logged := s.now }
  let t := if s.st = .off then s else
    let g := s.goOff
    { g with log := { g.log with holdup := g.log.holdup ++ [e] } }
  { t with
    pwr := { t.pwr with aux := aux, standby := false, inputMv := max p0 p1 }
    log := { t.log with main := [], count := 0, lost := 0, alert := false }
    mgmt := { t.mgmt with session := [], shakes := [], tpdo := [], rpdo := [] }
    pins := { t.pins with thermtrip := false, tap := .idcode, tapBits := [] } }

/-- STANDBY_LOSS: losing AUX_54V alone has no effect. -/
def execStandbyLoss (aux p0 p1 : Nat) (s : State) : Host.Outcome State Fault Refusal :=
  .next (if !s.pwr.standby then s.turnAway
    else if standbyPresent aux p0 p1 then { s with pwr := { s.pwr with aux := aux } }.ok
    else (s.loseStandby aux p0 p1).ok)

/-- STANDBY_POWER_RETURN: the standby converters come up, and OFF presents its field ports and objects. -/
def execStandbyPowerReturn (aux p0 p1 : Nat) (s : State) : Host.Outcome State Fault Refusal :=
  .next (if s.pwr.standby || !standbyPresent aux p0 p1 then s.turnAway
    else { s with pwr := { s.pwr with aux := aux, standby := true, inputMv := max p0 p1 } }.ok)

/-! ### The test port (R434, R561) -/

/-- IDCODE of HUB0's revision. -/
def idcode : BitVec 32 := 0x0C120545 + (Config.revision.setWidth 32 <<< 28)

/-- The bits that come out while bits go in: the captured register first, bit 0 first. -/
def shiftOut (captured bits : List Bool) : List Bool := (captured ++ bits).take bits.length

/-- The debug scope of the test port is open (R435, R436). -/
def State.tapOpen (s : State) : Bool := (s.sec.debug).toNat.testBit 0

/-- What an instruction selects: all ones is BYPASS; while the port is locked every instruction but IDCODE is. (PRESUMED, log 116) -/
def State.tapSelect (s : State) (ir : Byte) : TapReg :=
  if ir = Config.idcodeIr ∧ ir ≠ 0xFF then .idcode
  else if ir = 0xFF ∨ !s.tapOpen then .bypass
  else .other

/-- TEST_PORT_ACCESS: reset selects IDCODE; a data register of an open scope is one that the manual does not
describe. -/
def execTestPortAccess (op : TapOp) (s : State) : Host.Outcome State Fault Refusal :=
  let put (r : TapReg) (b : List Bool) : State := { s with pins := { s.pins with tap := r, tapBits := b } }
  if !s.pwr.standby then .next s.turnAway
  else match op with
    | .reset => .next (put .idcode []).ok
    | .shiftIr ir =>
      let f := s.free
      .next { f.2 with
        pins := { f.2.pins with
          tap := s.tapSelect ir
          tapBits := shiftOut ([true, false] ++ (List.range 6).map (fun i => f.1.getLsbD i)) (List.replicate 8 false) }
        answer := .done }
    | .shiftDr bits =>
      match s.pins.tap with
      | .idcode => .next (put .idcode (shiftOut ((List.range 32).map (fun i => idcode.getLsbD i)) bits)).ok
      | .bypass => .next (put .bypass (shiftOut [false] bits)).ok
      | .other => if s.tapOpen then .fault .testRegister else .next (put .bypass (shiftOut [false] bits)).ok

end Sys2Proof.Machine
end

