-- ==== Sys2Proof/Machine/Recover.lean ====
section
/-! DEFINITION. Recovery (chapter 17): heartbeats, the failures of tiles, dies and stacks, migration and
relocation, restore and replay, budgets, the margin summary, and SHADOW (R522–R543). -/

namespace Sys2Proof.Machine

/-! ### Detection (R522) -/

/-- Firmware watches the panel's parts. -/
def State.watches (s : State) : Bool :=
  match s.st with
  | .idle | .run | .safe | .updating => true
  | _ => false

/-- One more missed answer; true at the third, which starts the count anew. (DESIGN CHOICE, log 105) -/
def thirdMiss (t : Tbl Nat) (k : Nat) : Tbl Nat × Bool :=
  let n := tget 0 t k + 1
  (tset 0 t k (if n < 3 then n else 0), decide (3 ≤ n))

/-- A tile that firmware tests: good, and its island runs. -/
def State.tileTested (s : State) (d : Die) (t : PTile) : Bool :=
  s.watches && !s.dieBad d.val && !s.tileBad d.val t.val && s.islandUp (.die d ⟨t.val, by omega⟩)

/-- TILE_HEARTBEAT_MISS: the third missed sample fails the tile. -/
def execTileHeartbeatMiss (d : Die) (t : PTile) (s : State) : Host.Outcome State Fault Refusal :=
  let r := thirdMiss s.recov.tileMiss (d.val * 20 + t.val)
  let next := { s with recov := { s.recov with tileMiss := r.1 } }
  .next (if !s.tileTested d t then s.turnAway
    else if r.2 then (next.tileFail d.val t.val).ok else next.ok)

/-- DIE_HEARTBEAT_MISS: the third missed answer starts a probe over the test chain. -/
def execDieHeartbeatMiss (d : Die) (s : State) : Host.Outcome State Fault Refusal :=
  let r := thirdMiss s.recov.dieMiss d.val
  let next := { s with recov := { s.recov with
    dieMiss := r.1
    probing := if r.2 then (d.val, s.now, false) :: s.recov.probing else s.recov.probing } }
  .next (if !s.watches || s.dieBad d.val || s.recov.probing.any (fun p => p.1 == d.val) then s.turnAway else next.ok)

/-- A detection comes before another (R45): by its time, then by the lower physical die. -/
def detectedBefore (p q : Nat × Nat × Bool) : Bool := decide (p.2.1 < q.2.1) || (p.2.1 == q.2.1 && decide (p.1 < q.1))

/-- HUB0 applies the failures that probes have confirmed in the order of their detection, each as soon as no
earlier detection is still being probed (R45). (DEDUCED, log 127) -/
def State.applyProbed (s : State) : Nat → State
  | 0 => s
  | n + 1 =>
    match s.recov.probing.find? (fun p => p.2.2 && s.recov.probing.all (fun q => p.1 == q.1 || detectedBefore p q)) with
    | none => s
    | some p =>
      let t := { s with recov := { s.recov with probing := s.recov.probing.filter (fun q => q.1 != p.1) } }
      (t.dieFail p.1 0 (some p.2.1)).applyProbed n

/-- DIE_PROBE_RESULT: the die that the probe finds failed fails in its turn; its trigger is the third miss (R530). -/
def execDieProbeResult (d : Die) (failed : Bool) (s : State) : Host.Outcome State Fault Refusal :=
  .next (if s.recov.probing.any (fun p => p.1 == d.val && !p.2.2) then
      let l := if failed then s.recov.probing.map (fun q => if q.1 = d.val then (q.1, q.2.1, true) else q)
        else s.recov.probing.filter (fun q => q.1 != d.val)
      ({ s with recov := { s.recov with probing := l } }.applyProbed 156).ok
    else s.turnAway)

/-- SINTER_HEARTBEAT_MISS: the third missed answer loses the stack. -/
def execSinterHeartbeatMiss (k : Stk) (s : State) : Host.Outcome State Fault Refusal :=
  let r := thirdMiss s.recov.sinterMiss k.val
  let next := { s with recov := { s.recov with sinterMiss := r.1 } }
  .next (if !s.watches || s.stackBad k.val then s.turnAway
    else if r.2 then (next.loseStack k.val).ok else next.ok)

/-! ### Failures (R42, R529, R530, R533) -/

/-- TILE_FAILURE. -/
def execTileFailure (d : Die) (t : PTile) (s : State) : Host.Outcome State Fault Refusal :=
  .next (if !s.watches || s.dieBad d.val || s.tileBad d.val t.val then s.turnAway else (s.tileFail d.val t.val).ok)

/-- DIE_FAILURE. -/
def execDieFailure (d : Die) (s : State) : Host.Outcome State Fault Refusal :=
  .next (if !s.watches || s.dieBad d.val || s.isDormant d.val then s.turnAway else (s.dieFail d.val).ok)

/-- DORMANT_DIE_FAILURE: the row loses its dormant column. -/
def execDormantDieFailure (d : Die) (s : State) : Host.Outcome State Fault Refusal :=
  .next (if !s.watches || !s.isDormant d.val then s.turnAway else (s.dieFail d.val).ok)

/-- STACK_LOSS. -/
def execStackLoss (k : Stk) (s : State) : Host.Outcome State Fault Refusal :=
  .next (if !s.watches || s.stackBad k.val then s.turnAway else (s.loseStack k.val).ok)

/-! ### Records of recoveries (R534) -/

/-- The budget of a recovery of a kind, to resumed, in ns. -/
def restoreBudget (kind : Nat) : Nat := if kind ≤ 2 then 1500000000 else 4000000000

/-- The budget of a migration of written bytes at 0.5 TB/s, in ns. -/
def migrationBudget (bytes : Nat) : Nat := bytes / 500 + 1000000000

/-- A field of a record. -/
def recoveryField (r : Bytes) (o n : Nat) : Nat := leNat ((r.drop o).take n)

/-- Records of a context and of some kinds that satisfy p become f of themselves. -/
def State.mapRecovery (s : State) (c : CtxId) (p : Bytes → Bool) (f : Bytes → Bytes) : State :=
  { s with recov := { s.recov with
    log := s.recov.log.map (fun r => if recoveryField r 1 1 = c.val ∧ p r then f r else r) } }

/-- A record of a restore in progress. -/
def openRecord (r : Bytes) : Bool := recoveryField r 0 1 != 5 && recoveryField r 2 1 == 0
/-- A record of a restore that has resumed and is not caught up. -/
def behindRecord (r : Bytes) : Bool :=
  recoveryField r 0 1 != 5 && (recoveryField r 2 1 == 1 || recoveryField r 2 1 == 2)
    && recoveryField r 24 4 == 0xFFFFFFFF

/-- The region has resumed. -/
def resumedRecord (now generation : Nat) (r : Bytes) : Bytes :=
  let t := now - recoveryField r 8 8
  r.take 2 ++ [if t ≤ restoreBudget (recoveryField r 0 1) then 1 else 2] ++ (r.drop 3).take 17
    ++ toLe 4 (t / 1000) ++ toLe 4 0xFFFFFFFF ++ toLe 4 generation

/-- The region has caught up. -/
def caughtRecord (now : Nat) (r : Bytes) : Bytes :=
  r.take 24 ++ toLe 4 ((now - recoveryField r 8 8) / 1000000) ++ r.drop 28

/-- The recovery has failed. (DEDUCED, log 107) -/
def failedRecord (r : Bytes) : Bytes := r.take 2 ++ [3] ++ r.drop 3

/-! ### Restore (R527, R528) -/

/-- Where a region's faults are logged: the logical die concerned, else the first of the region (R545). -/
def State.regionLoc (s : State) (c : CtxId) (die : Nat) : Loc :=
  if die < 144 then locEngine die
  else match (s.ctx c).dies with
    | d :: _ => locEngine d.val
    | [] => locHub 0

/-- The restore fails: its fault, HALTED, outcome 3. -/
def State.failRestore (s : State) (c : CtxId) (die : Nat) (code : W16) (detail : Nat := 0) : State :=
  (((s.fault code (some c) (s.regionLoc c die) detail).haltCtx c).modCtx c (fun x => { x with restore := none })).mapRecovery
    c openRecord failedRecord

/-- A tile of the region is switched off for heat: the restore waits (R542). -/
def State.regionOff (s : State) (c : CtxId) : Bool :=
  (s.ctx c).tiles.any (fun p => match s.tileKey p.1 p.2 with
    | some k => (s.island (k / 20 * 37 + k % 20)).st == 1
    | none => false)

/-- REGION_RESTORE: the newest complete checkpoint is scanned in, or there is none and the context halts. -/
def execRegionRestore (c : CtxId) (s : State) : Host.Outcome State Fault Refusal :=
  .next (match (s.ctx c).restore with
    | none => s.turnAway
    | some r =>
      if s.st ≠ .idle ∧ s.st ≠ .run ∨ r.scanned ∨ s.regionOff c then s.turnAway
      else match (s.ctx c).newest with
        | none => (s.failRestore c r.die 0x6017).ok
        | some g =>
          match s.scanChecks c g with
          | (s, some (d, u)) => (s.failRestore c d.val 0x6009 u).ok
          | (s, none) => (((s.scanIn c g).forgetScratch c).modCtx c (fun x => { x with
            restore := some { r with scanned := true, generation := g.generation } })).ok)

/-- The operations of other panels since a checkpoint are applied again, in log order (R528). (DEDUCED, log 54) -/
def State.replaySync (s : State) (c : CtxId) : State :=
  let x := s.ctx c
  let start := if ((x.newest).bind (·.area)) = some 0 then x.syncA else x.syncB
  (x.syncLog.drop (start - x.syncDropped)).foldl (fun (s : State) q =>
    match s.decode q.2.1.addr with
    | .here (.cell k) =>
      if q.1 = 3 then (syncArrive q.2.2 k s).1
      else if q.1 = 5 then (syncFetchAdd q.2.2 k s).1
      else (syncCas q.2.2 k s).1
    | _ => s) s

/-- REGION_RESUME: a record that fails its checks leaves the context HALTED under 0x6009; else units resume and
replay begins. -/
def execRegionResume (c : CtxId) (recordsOk : Bool) (s : State) : Host.Outcome State Fault Refusal :=
  .next (match (s.ctx c).restore with
    | none => s.turnAway
    | some r =>
      if s.st ≠ .idle ∧ s.st ≠ .run ∨ !r.scanned ∨ r.resumed then s.turnAway
      else if !recordsOk then (s.failRestore c r.die 0x6009).ok
      else
        let s := ((s.replaySync c).resumeUnits c).modCtx c (fun x => { x with
          sw := .steady, kind := none, paused := false
          restore := some { r with resumed := true, resumedUs := (s.now - r.detected) / 1000 } })
        (s.mapRecovery c openRecord (resumedRecord s.now r.generation)).ok)

/-- CAUGHT_UP: every logging port has delivered the records written before detection. -/
def execCaughtUp (c : CtxId) (s : State) : Host.Outcome State Fault Refusal :=
  .next (match (s.ctx c).restore with
    | none => s.turnAway
    | some r =>
      if r.resumed && r.goals.all (fun g => decide (g.2 ≤ (s.logOf g.1).pos)) then
        ((s.modCtx c (fun x => { x with restore := none })).mapRecovery c behindRecord (caughtRecord s.now)).ok
      else s.turnAway)

/-- A migration that copies banks of a context. -/
def State.migrates (s : State) (c : CtxId) (m : Migration) : Bool := s.holdsStack c m.src

/-- RECOVERY_BUDGET_EXPIRY: event 0x6015, once for a recovery; the recovery goes on. -/
def execRecoveryBudgetExpiry (c : CtxId) (s : State) : Host.Outcome State Fault Refusal :=
  let lateM (m : Migration) : Bool :=
    s.migrates c m && !m.late
  .next (match (s.ctx c).restore.filter (fun r => !r.resumed && !r.late), s.recov.migrations.find? lateM with
    | some r, _ =>
      (((s.notBefore (r.detected + restoreBudget r.kind + 1)).event 0x6015 (some c) (s.regionLoc c r.die) r.kind).modCtx
        c (fun x => { x with restore := some { r with late := true } })).ok
    | none, some m =>
      let s := s.notBefore (m.since + migrationBudget m.bytes + 1)
      ({ s with recov := { s.recov with
        migrations := s.recov.migrations.map (fun (y : Migration) =>
          if y.src = m.src then { y with late := true } else y) } }.event
          0x6015 (some c) (s.regionLoc c 0x1FF) 5).ok
    | none, none => s.turnAway)

/-! ### Migration and relocation (R531, R532) -/

/-- Banks that a migration copies: every bank that a context holds, and bank 63. -/
def State.banksToCopy (s : State) (k : Nat) : List Nat :=
  (List.range 63).filter (fun b => (s.bankOwner k b).toNat < 32) ++ [63]

/-- Written lines of some banks of a stack. -/
def State.writtenIn (s : State) (k : Nat) (banks : List Nat) : List Nat :=
  (s.stack k).written.filter (fun n => banks.any (fun b => inBank b n))

/-- A migration of stack n of a failed cell to the die that took its name; none where it cannot start. -/
def State.newMigration (s : State) (d : Nat) (l : LDie) (to_ n : Nat) : Option Migration :=
  let src := 2 * d + n
  let banks := s.banksToCopy src
  if s.stackBad src || s.stackBad (2 * to_ + n) || s.recov.migrations.any (fun m => m.src == src) then none
  else some
    { die := d, logical := l.val, src := src, dst := 2 * to_ + n, banks := banks, since := s.now
      bytes := (s.writtenIn src banks).length * 128 }

/-- A context of the logical die has not resumed. -/
def State.restoring (s : State) (l : LDie) : Bool :=
  allCtx.any (fun c => (s.ctx c).holdsDie l && (s.ctx c).restore.any (fun r => !r.resumed))

/-- MIGRATION_START: of both stacks of a failed cell, once its regions have resumed. -/
def execMigrationStart (d : Die) (s : State) : Host.Outcome State Fault Refusal :=
  .next (match s.anat.orphans.find? (fun p => p.1 == d.val) with
    | none => s.turnAway
    | some (_, l) =>
      match s.phys l with
      | none => s.turnAway
      | some p =>
        let l' := [0, 1].filterMap (s.newMigration d.val l p)
        if s.st ≠ .idle ∧ s.st ≠ .run ∨ s.restoring l ∨ l' = [] then s.turnAway
        else
          let holders := allCtx.filter (fun c => l'.any (s.migrates c))
          let s := { s with recov := { s.recov with migrations := s.recov.migrations ++ l' } }
          (holders.foldl (fun (s : State) c =>
            s.logRecovery (recoveryRecord 5 c.val 0 l.val 0xFF s.now 0 0 0xFFFFFFFF 0)) s).ok)

/-- One bank is copied: its destination takes the owner and the context's keys; written lines go over, and one
that fails its check arrives poisoned. (DEDUCED, log 108) -/
def State.copyBank (s : State) (m : Migration) (b : Nat) : State :=
  let o := s.bankOwner m.src b
  let x := s.stack m.src
  let lines := s.writtenIn m.src [b]
  let torn := lines.filter (fun n => x.poisoned.contains n || x.uncorrectable.contains n)
  let untagged := lines.filter (fun n => s.tagBad m.src n && !torn.contains n)
  let s := s.openRaw m.src (lines.filter (fun n => !torn.contains n && !untagged.contains n))
  let cells := (takeCells s.stackMem (stackBase m.src + b * 2 ^ 30) (stackBase m.src + (b + 1) * 2 ^ 30) (b * 2 ^ 30)).filter
    (fun p => lines.contains (p.1 / 128) && !torn.contains (p.1 / 128) && !untagged.contains (p.1 / 128))
  let s := (s.zeroBank m.dst b).modStack m.dst (fun y => { y with
    owner := if b = 63 then y.owner else tset 0xFF y.owner b o
    written := lines ++ y.written
    poisoned := torn ++ untagged ++ y.poisoned })
  let s := { s with stackMem := layCells s.stackMem 0 (stackBase m.dst) cells }
  let s := if h : o.toNat < 32 then
      s.modCtx ⟨o.toNat, h⟩ (fun y => { y with stackKeys := insertNew m.dst y.stackKeys }) else s
  let s := { s with recov := { s.recov with
    migrations := s.recov.migrations.map (fun (y : Migration) =>
      if y.src = m.src then { y with banks := m.banks.drop 1 } else y) } }
  let s := if torn = [] ∧ untagged = [] then s else s.count .stack m.src 0x04 (torn.length + untagged.length)
  let s := if untagged = [] then s else s.count .stack m.src 0x08 untagged.length
  s.noteBadLines m.src torn

/-- MIGRATION_COPY: the next bank of a migration, which its stacks' open banks let it read and write. -/
def execMigrationCopy (src : Stk) (s : State) : Host.Outcome State Fault Refusal :=
  .next (match s.recov.migrations.find? (fun m => m.src == src.val) with
    | none => s.turnAway
    | some m =>
      match m.banks with
      | [] => s.turnAway
      | b :: _ =>
        if s.st ≠ .idle ∧ s.st ≠ .run ∨ (s.stackBankSt m.src b).shut
            ∨ (s.stackBankSt m.dst b).shut then s.turnAway
        else (s.copyBank m b).ok)

/-- The records of a migration end: the time to its end, and its outcome. -/
def endedRecord (outcome now : Nat) (r : Bytes) : Bytes :=
  let t := now - recoveryField r 8 8
  r.take 2 ++ [BitVec.ofNat 8 outcome] ++ (r.drop 3).take 13 ++ toLe 4 (t / 1000) ++ toLe 4 (t / 1000)
    ++ toLe 4 (t / 1000000) ++ r.drop 28

/-- A record of a migration of a logical die that is in progress. -/
def movingRecord (l : Nat) (r : Bytes) : Bool :=
  recoveryField r 0 1 == 5 && recoveryField r 2 1 == 0 && recoveryField r 4 2 == l

/-- MIGRATION_DEST_FAIL: the destination is lost, its migration stops with fault 0x6013, and the logical die
keeps the source stack. (DEDUCED, log 109) -/
def execMigrationDestFail (src : Stk) (s : State) : Host.Outcome State Fault Refusal :=
  .next (match s.recov.migrations.find? (fun m => m.src == src.val) with
    | none => s.turnAway
    | some m =>
      let holders := allCtx.filter (fun c => s.migrates c m)
      let s := (s.loseStack m.dst).fault 0x6013 none (locStackPhys m.dst) m.src
      let s := { s with recov := { s.recov with migrations := s.recov.migrations.filter (fun y => y.src != m.src) } }
      (holders.foldl (fun (s : State) c => s.mapRecovery c (movingRecord m.logical) failedRecord) s).ok)

/-- The banks that contexts held on an old stack pass to NONE. -/
def State.dropBanks (s : State) (k : Nat) : State :=
  ((List.range 63).filter (fun b => (s.bankOwner k b).toNat < 32)).foldl (fun (s : State) b => s.passBank k b 0xFF) s

/-- The relocation that completes the migrations of a failed cell: each context's list and epoch, old banks to
NONE, event 0x6012; the logical die's home stacks are the new cell's. -/
def State.relocate (s : State) (ms : List Migration) (die l : Nat) : State :=
  let pairs := ms.map (fun m => (m.src, m.dst))
  let holders := allCtx.filter (fun c => ms.any (s.migrates c))
  let since := (ms.map (·.since)).foldl min s.now
  let late := ms.any (fun m => decide (m.since + migrationBudget m.bytes < s.now))
  let s := holders.foldl (fun (s : State) c => ((s.mapUnits c (fun u => u.joinHold s.now)).dropUnsettled
    c).relocateCtx pairs c) s
  let s := ms.foldl (fun (s : State) m => s.dropBanks m.src) s
  let s := holders.foldl (fun (s : State) c =>
    s.mapRecovery c (movingRecord l) (endedRecord (if late then 2 else 1) s.now)) s
  let done (n : Nat) : Bool := s.stackBad (2 * die + n) || ms.any (fun m => m.src == 2 * die + n)
  let s := { s with
    recov := { s.recov with migrations := s.recov.migrations.filter (fun m => m.die != die) }
    anat := { s.anat with
      orphans := if done 0 && done 1 then s.anat.orphans.filter (fun p => p.1 != die) else s.anat.orphans } }
  (s.count .recovery 0 0x18 1).event 0x6012 none (locEngine l) ((s.now - since) / 1000000)

/-- RELOCATION: every bank of the cell's stacks has been copied, and no region of theirs is in a switch, a
checkpoint or a restore. -/
def execRelocation (src : Stk) (s : State) : Host.Outcome State Fault Refusal :=
  .next (match s.recov.migrations.find? (fun m => m.src == src.val) with
    | none => s.turnAway
    | some m =>
      let ms := s.recov.migrations.filter (fun y => y.die == m.die)
      let busy : Bool := allCtx.any (fun c => ms.any (s.migrates c) && ((s.ctx c).kind.isSome || (s.ctx c).ckptRun.isSome
        || (s.ctx c).restore.any (fun r => !r.resumed)))
      if s.st ≠ .idle ∧ s.st ≠ .run ∨ busy ∨ !(ms.all (fun y => y.banks.isEmpty)) then s.turnAway
      else (s.relocate ms m.die m.logical).ok)

/-! ### Margins (R538) -/

/-- The smallest replica reading of a running island of a die: value, key. -/
def State.leastReplica (s : State) : Option (Nat × Nat) :=
  s.clk.island.foldl (fun (z : Option (Nat × Nat)) (p : Nat × IslandS) =>
    let up : Bool := if h : p.1 < 5772 then
        s.islandUp (.die ⟨p.1 / 37, by omega⟩ ⟨p.1 % 37, Nat.mod_lt _ (by decide)⟩) && p.2.last != 0xFF else false
    if !up then z
    else match z with
      | some q => if p.2.last.toNat < q.1 then some (p.2.last.toNat, p.1) else z
      | none => some (p.2.last.toNat, p.1)) (none : Option (Nat × Nat))

/-- Lanes in service: vent die and reading. -/
def State.lanesUp (s : State) : List (Nat × LaneIn) :=
  s.fab.vent.flatMap (fun p => if p.2.st = .up then (p.2.lanes.filter (fun q => q.2.state == 0)).map (fun q => (p.1, q.2))
    else [])

/-- The entry of a list that r puts before every other. -/
def bestOf {A : Type} (r : A → A → Bool) : List A → Option A
  | [] => none
  | a :: l => match bestOf r l with
    | some b => if r b a then some b else some a
    | none => some a

/-- A field of the summary, or free bytes where no part has a reading. -/
def State.orFree (s : State) (n : Nat) (b : Option Bytes) : Bytes × State :=
  match b with
  | some x => (x, s)
  | none => s.freeBytes n

/-- The 32 bytes. (DEDUCED, log 112) -/
def State.marginBytes (s : State) : Bytes × State :=
  let ratio := (s.pwr.resMedian.map (fun p => s.resRatio p.1)).foldl max 1000
  let lanes := s.lanesUp
  let lane (q : Nat × LaneIn) : Bytes := [BitVec.ofNat 8 q.2.lane.val, BitVec.ofNat 8 q.1]
  let (a, t) := s.orFree 4 (s.leastReplica.map (fun q =>
    [BitVec.ofNat 8 q.1, 0] ++ toLe 2 (q.2 / 37 + q.2 % 37 * 256)))
  let (b, t) := t.orFree 4 (s.recov.headroom.map (fun q => i16 q.1 ++ toLe 2 q.2))
  let (c, t) := t.orFree 4 ((bestOf (fun x y => decide (x.2.rxPower.toInt < y.2.rxPower.toInt)) lanes).map (fun q =>
    toLe 2 q.2.rxPower.toNat ++ lane q))
  let (d, t) := t.orFree 6 ((bestOf (fun x y => flt y.2.ber x.2.ber) lanes).map (fun q =>
    toLe 4 q.2.ber.toNat ++ lane q))
  (toLe 8 s.now ++ a ++ b ++ c ++ d ++ toLe 2 ratio ++ [0, 0, 0, 0], t)

/-- MARGIN_SUMMARY: the summary is written, and voltage records begin anew. -/
def execMarginSummary (s : State) : Host.Outcome State Fault Refusal :=
  let (b, t) := s.marginBytes
  .next (if s.watches then { t with recov := { t.recov with margin := b, headroom := none } }.ok else s.turnAway)

/-! ### SHADOW (R539–R541) -/

/-- Checksum points of the loaded units. -/
def State.points (s : State) : List Nat :=
  s.flow.unit.filterMap (fun p => (p.2.active.cfg.bind (·.checksum)).map (fun q => q.1.val))

/-- e of R541 over the two records. (DEDUCED, log 113) -/
def shadowError (norm normRef : W32) (p q : List W32) : W32 :=
  let zero (v : W32) : Bool := v &&& 0x7FFFFFFF == 0
  if zero normRef then (if zero norm then 0 else 0x7F800000)
  else fdiv (fsqrt ((List.zipWith (fun a b => fmul (fsub a b) (fsub a b)) p q).foldl fadd 0)) normRef

/-- A frame fails: event 0x6022, and the passing frames count anew. -/
def State.frameFails (s : State) (point : Nat) (e : W32) : State :=
  ({ s with recov := { s.recov with passing := 0 } }.event 0x6022 none (locHub 0) (point + e.toNat * 2 ^ 16)).count
    .recovery 0 0x30 1

/-- A frame passes; the last of shadow_promote_frames in a row makes the shadow promotable. -/
def State.framePasses (s : State) : State :=
  let s := ({ s with recov := { s.recov with passing := s.recov.passing + 1 } }).count .recovery 0 0x2C 1
  if s.recov.shadowState = 1 ∧ s.obj 0x2100 0x09 ≤ s.recov.passing then
    { s with recov := { s.recov with shadowState := 2 } }.event 0x6023 none (locHub 0)
  else s

/-- A point of a frame has been compared: its failure fails the frame once, and the frame passes when every
point has passed. -/
def State.comparePoint (s : State) (point frame : Nat) (e : W32) : State :=
  let ok := fle e (BitVec.ofNat 32 (s.obj 0x2100 0x08))
  let seen := s.recov.compared.filter (fun p => p.1 == frame)
  let failedBefore := seen.any (fun p => !p.2.2)
  let now := (frame, point, ok) :: seen
  let complete := s.points.all (fun q => now.any (fun p => p.2.1 == q))
  let s := { s with recov := { s.recov with
    sums := s.recov.sums.filter (fun p => !(p.1 == point && p.2.1 == frame))
    compared := (if complete then [] else now) ++ s.recov.compared.filter (fun p => p.1 != frame) } }
  if !ok then (if failedBefore then s else s.frameFails point e)
  else if complete && !failedBefore then s.framePasses else s

/-- SHADOW_COMPARE: the reference's record meets the shadow's of the same frame and point. -/
def execShadowCompare (point : Fin 64) (frame : Nat) (norm : W32) (proj : List W32) (s : State) :
    Host.Outcome State Fault Refusal :=
  .next (if !s.shadow || s.recov.shadowState == 0 then s.turnAway
    else match s.recov.sums.find? (fun p => p.1 == point.val && p.2.1 == frame) with
      | none => s.turnAway
      | some (_, _, n, p) => (s.comparePoint point.val frame (shadowError n norm p proj)).ok)

/-! ### The log's commands (R520, R521) -/

/-- ALERT_ACK. -/
def execAlertAck (v : Bool) (s : State) : Host.Outcome State Fault Refusal := .next (s.ackAlert v)

/-- FAULT_LOG_CLEAR. -/
def execFaultLogClear (v : Bool) (s : State) : Host.Outcome State Fault Refusal := .next (s.clearLog v)

end Sys2Proof.Machine
end

