-- ==== Sys2Proof/Machine/Dispatch.lean ====
section
/-! DEFINITION. The dispatch: one arm for each command of the table. -/

namespace Sys2Proof.Machine

open Sys2Proof

/-- The effect of a command on everything but the queue. -/
def exec (i : Instr) (s : State) : Host.Outcome State Fault Refusal :=
  match i with
  | .coldStart v => Sys2Proof.Machine.execColdStart v s
  | .warmStart v => Sys2Proof.Machine.execWarmStart v s
  | .powerOnStart mv v => Sys2Proof.Machine.execPowerOnStart mv v s
  | .panelRstNRelease v => Sys2Proof.Machine.execPanelRstNRelease v s
  | .panelRstNHeld ns => Sys2Proof.Machine.execPanelRstNHeld ns s
  | .coolantQualified v => Sys2Proof.Machine.execCoolantQualified v s
  | .fwLoad d off data last => Sys2Proof.Machine.execFwLoad d off data last s
  | .startComplete ms => Sys2Proof.Machine.execStartComplete ms s
  | .startStepTimeout step v => Sys2Proof.Machine.execStartStepTimeout step v s
  | .selftest => Sys2Proof.Machine.execSelftest s
  | .selftestComplete found skipped => Sys2Proof.Machine.execSelftestComplete found skipped s
  | .calibrate => Sys2Proof.Machine.execCalibrate s
  | .calibrateComplete values found => Sys2Proof.Machine.execCalibrateComplete values found s
  | .powerOff => Sys2Proof.Machine.execPowerOff s
  | .enterSafe cause => Sys2Proof.Machine.execEnterSafe cause s
  | .update => Sys2Proof.Machine.execUpdate s
  | .fwStage img => Sys2Proof.Machine.execFwStage img s
  | .activate v => Sys2Proof.Machine.execActivate v s
  | .discard => Sys2Proof.Machine.execDiscard s
  | .calTableWrite w => Sys2Proof.Machine.execCalTableWrite w s
  | .fieldDefectsClear v => Sys2Proof.Machine.execFieldDefectsClear v s
  | .countersClear set v => Sys2Proof.Machine.execCountersClear set v s
  | .registerWrite r value => Sys2Proof.Machine.execRegisterWrite r value s
  | .unitFiring d u => Sys2Proof.Machine.execUnitFiring d u s
  | .arrayRound d t a entry out => Sys2Proof.Machine.execArrayRound d t a entry out s
  | .stagingFill d t a entry data scales => Sys2Proof.Machine.execStagingFill d t a entry data scales s
  | .shadowLoad d t a off => Sys2Proof.Machine.execShadowLoad d t a off s
  | .halfFillStart d t a fill bytes => Sys2Proof.Machine.execHalfFillStart d t a fill bytes s
  | .halfTake d t a => Sys2Proof.Machine.execHalfTake d t a s
  | .halfRelease d t a => Sys2Proof.Machine.execHalfRelease d t a s
  | .outputStageWrite d t a o => Sys2Proof.Machine.execOutputStageWrite d t a o s
  | .laneInstruction d t v => Sys2Proof.Machine.execLaneInstruction d t v s
  | .scratchpadAccess d t bank reqs => Sys2Proof.Machine.execScratchpadAccess d t bank reqs s
  | .clean d t base bytes => Sys2Proof.Machine.execClean d t base bytes s
  | .invalidate d t base bytes => Sys2Proof.Machine.execInvalidate d t base bytes s
  | .cleanInvalidate d t base bytes => Sys2Proof.Machine.execCleanInvalidate d t base bytes s
  | .spCreditReq node c d t window n => Sys2Proof.Machine.execSpCreditReq node c d t window n s
  | .spCreditReply src => Sys2Proof.Machine.execSpCreditReply src s
  | .denyFullRetry src => Sys2Proof.Machine.execDenyFullRetry src s
  | .creditReturn d t id => Sys2Proof.Machine.execCreditReturn d t id s
  | .creditExpiry d t id => Sys2Proof.Machine.execCreditExpiry d t id s
  | .bankClose b m => Sys2Proof.Machine.execBankClose b m s
  | .bankCloseComplete b => Sys2Proof.Machine.execBankCloseComplete b s
  | .bankReopen b => Sys2Proof.Machine.execBankReopen b s
  | .bankReopenComplete b => Sys2Proof.Machine.execBankReopenComplete b s
  | .reopen node b => Sys2Proof.Machine.execReopen node b s
  | .commonsAccess d bank reqs => Sys2Proof.Machine.execCommonsAccess d bank reqs s
  | .tail c d e q v => Sys2Proof.Machine.execTail c d e q v s
  | .ringResume c d e q => Sys2Proof.Machine.execRingResume c d e q s
  | .ringAbort c d e q => Sys2Proof.Machine.execRingAbort c d e q s
  | .descriptorFetch d e q => Sys2Proof.Machine.execDescriptorFetch d e q s
  | .descriptorRetire d e q => Sys2Proof.Machine.execDescriptorRetire d e q s
  | .engineWatchdog d e q => Sys2Proof.Machine.execEngineWatchdog d e q s
  | .copy d q => Sys2Proof.Machine.execCopy d q s
  | .transpose d q => Sys2Proof.Machine.execTranspose d q s
  | .convert d q => Sys2Proof.Machine.execConvert d q s
  | .strataPack d q => Sys2Proof.Machine.execStrataPack d q s
  | .strataTrim d q => Sys2Proof.Machine.execStrataTrim d q s
  | .mxPack d q => Sys2Proof.Machine.execMxPack d q s
  | .exp d q => Sys2Proof.Machine.execExp d q s
  | .log d q => Sys2Proof.Machine.execLog d q s
  | .recip d q => Sys2Proof.Machine.execRecip d q s
  | .rsqrt d q => Sys2Proof.Machine.execRsqrt d q s
  | .sqrt d q => Sys2Proof.Machine.execSqrt d q s
  | .gelu d q => Sys2Proof.Machine.execGelu d q s
  | .silu d q => Sys2Proof.Machine.execSilu d q s
  | .sigmoid d q => Sys2Proof.Machine.execSigmoid d q s
  | .tanh d q => Sys2Proof.Machine.execTanh d q s
  | .lnStats d q => Sys2Proof.Machine.execLnStats d q s
  | .rmsStats d q => Sys2Proof.Machine.execRmsStats d q s
  | .normApply d q => Sys2Proof.Machine.execNormApply d q s
  | .sort d q => Sys2Proof.Machine.execSort d q s
  | .merge d q => Sys2Proof.Machine.execMerge d q s
  | .mergeSum d q => Sys2Proof.Machine.execMergeSum d q s
  | .topk d q => Sys2Proof.Machine.execTopk d q s
  | .gather d q => Sys2Proof.Machine.execGather d q s
  | .scatter d q => Sys2Proof.Machine.execScatter d q s
  | .scatterAdd d q => Sys2Proof.Machine.execScatterAdd d q s
  | .predict d q => Sys2Proof.Machine.execPredict d q s
  | .certifyTopk d q => Sys2Proof.Machine.execCertifyTopk d q s
  | .topkSelection d vec settled dst => Sys2Proof.Machine.execTopkSelection d vec settled dst s
  | .combine d q => Sys2Proof.Machine.execCombine d q s
  | .sign1Enc d q => Sys2Proof.Machine.execSign1Enc d q s
  | .sign1Dec d q => Sys2Proof.Machine.execSign1Dec d q s
  | .ringStep d q => Sys2Proof.Machine.execRingStep d q s
  | .gcmEnc d q => Sys2Proof.Machine.execGcmEnc d q s
  | .gcmDec d q => Sys2Proof.Machine.execGcmDec d q s
  | .sha3256 d q => Sys2Proof.Machine.execSha3256 d q s
  | .sha3512 d q => Sys2Proof.Machine.execSha3512 d q s
  | .hashVerify d q => Sys2Proof.Machine.execHashVerify d q s
  | .switchDrain c => Sys2Proof.Machine.execSwitchDrain c s
  | .switchFlush c => Sys2Proof.Machine.execSwitchFlush c s
  | .rollback c => Sys2Proof.Machine.execRollback c s
  | .halt c => Sys2Proof.Machine.execHalt c s
  | .resume c => Sys2Proof.Machine.execResume c s
  | .suspend c => Sys2Proof.Machine.execSuspend c s
  | .reinstate c => Sys2Proof.Machine.execReinstate c s
  | .cfg d u t => Sys2Proof.Machine.execCfg d u t s
  | .unitDrainSwitch d u => Sys2Proof.Machine.execUnitDrainSwitch d u s
  | .unitFlush d u => Sys2Proof.Machine.execUnitFlush d u s
  | .unitRollback d u => Sys2Proof.Machine.execUnitRollback d u s
  | .switchComplete c => Sys2Proof.Machine.execSwitchComplete c s
  | .switchTimeout c => Sys2Proof.Machine.execSwitchTimeout c s
  | .joinWatchdog d u => Sys2Proof.Machine.execJoinWatchdog d u s
  | .liveWriteApply d u => Sys2Proof.Machine.execLiveWriteApply d u s
  | .ctxBcast d u b => Sys2Proof.Machine.execCtxBcast d u b s
  | .imageLoad c img => Sys2Proof.Machine.execImageLoad c img s
  | .checkpointDue c => Sys2Proof.Machine.execCheckpointDue c s
  | .checkpointComplete c => Sys2Proof.Machine.execCheckpointComplete c s
  | .checkpointSkip c => Sys2Proof.Machine.execCheckpointSkip c s
  | .settle d u => Sys2Proof.Machine.execSettle d u s
  | .hint d u => Sys2Proof.Machine.execHint d u s
  | .groupEnd d u => Sys2Proof.Machine.execGroupEnd d u s
  | .dispatchSpan d t a cols => Sys2Proof.Machine.execDispatchSpan d t a cols s
  | .read at_ p => Sys2Proof.Machine.execRead at_ p s
  | .readData at_ p => Sys2Proof.Machine.execReadData at_ p s
  | .write at_ p => Sys2Proof.Machine.execWrite at_ p s
  | .writeDone at_ p => Sys2Proof.Machine.execWriteDone at_ p s
  | .token at_ p => Sys2Proof.Machine.execToken at_ p s
  | .routerForward d p => Sys2Proof.Machine.execRouterForward d p s
  | .regulatorRelease d vc prio => Sys2Proof.Machine.execRegulatorRelease d vc prio s
  | .ack src dst vc seq => Sys2Proof.Machine.execAck src dst vc seq s
  | .resendTimeout src dst vc seq => Sys2Proof.Machine.execResendTimeout src dst vc seq s
  | .pathTest src dst lanes => Sys2Proof.Machine.execPathTest src dst lanes s
  | .qcredit d q n => Sys2Proof.Machine.execQcredit d q n s
  | .syncRead r => Sys2Proof.Machine.execSyncRead r s
  | .syncWrite r v => Sys2Proof.Machine.execSyncWrite r v s
  | .init r v => Sys2Proof.Machine.execInit r v s
  | .arrive r v => Sys2Proof.Machine.execArrive r v s
  | .wait r v => Sys2Proof.Machine.execWait r v s
  | .fetchAdd r v => Sys2Proof.Machine.execFetchAdd r v s
  | .cas r v => Sys2Proof.Machine.execCas r v s
  | .link r v => Sys2Proof.Machine.execLink r v s
  | .readLink r => Sys2Proof.Machine.execReadLink r s
  | .release at_ parent => Sys2Proof.Machine.execRelease at_ parent s
  | .shardManifest c m => Sys2Proof.Machine.execShardManifest c m s
  | .fill c => Sys2Proof.Machine.execFill c s
  | .abandon c => Sys2Proof.Machine.execAbandon c s
  | .fillAttempt c shard => Sys2Proof.Machine.execFillAttempt c shard s
  | .fillWritten c shard => Sys2Proof.Machine.execFillWritten c shard s
  | .shardVerifyDone c shard => Sys2Proof.Machine.execShardVerifyDone c shard s
  | .fillAttemptTimeout c shard => Sys2Proof.Machine.execFillAttemptTimeout c shard s
  | .shardWaitLimit c shard => Sys2Proof.Machine.execShardWaitLimit c shard s
  | .digestPatrol c shard => Sys2Proof.Machine.execDigestPatrol c shard s
  | .scrub k => Sys2Proof.Machine.execScrub k s
  | .stackBankZeroise k b => Sys2Proof.Machine.execStackBankZeroise k b s
  | .linkEnable v => Sys2Proof.Machine.execLinkEnable v s
  | .trainComplete v tx rx => Sys2Proof.Machine.execTrainComplete v tx rx s
  | .keyx v k => Sys2Proof.Machine.execKeyx v k s
  | .keyxComplete v => Sys2Proof.Machine.execKeyxComplete v s
  | .linkRetry v => Sys2Proof.Machine.execLinkRetry v s
  | .frameRx v f => Sys2Proof.Machine.execFrameRx v f s
  | .credit v cls units => Sys2Proof.Machine.execCredit v cls units s
  | .linkstate panel dir up => Sys2Proof.Machine.execLinkstate panel dir up s
  | .laneGroupOut v tx f => Sys2Proof.Machine.execLaneGroupOut v tx f s
  | .groupRetrain v tx f good => Sys2Proof.Machine.execGroupRetrain v tx f good s
  | .rekey v => Sys2Proof.Machine.execRekey v s
  | .marginRefresh v lanes => Sys2Proof.Machine.execMarginRefresh v lanes s
  | .ringGrant d g wire slot run step p half => Sys2Proof.Machine.execRingGrant d g wire slot run step p half s
  | .ringData p => Sys2Proof.Machine.execRingData p s
  | .ringDone d g wire slot run step p bytes => Sys2Proof.Machine.execRingDone d g wire slot run step p bytes s
  | .shardReq panel id shard digest length tag placement => Sys2Proof.Machine.execShardReq panel id shard digest length tag placement s
  | .shardData p => Sys2Proof.Machine.execShardData p s
  | .xtoken p => Sys2Proof.Machine.execXtoken p s
  | .bucketRunStart d g slot => Sys2Proof.Machine.execBucketRunStart d g slot s
  | .ringStepTimeout d g => Sys2Proof.Machine.execRingStepTimeout d g s
  | .referenceLoss hub => Sys2Proof.Machine.execReferenceLoss hub s
  | .referenceReturn => Sys2Proof.Machine.execReferenceReturn s
  | .islandDecouple v => Sys2Proof.Machine.execIslandDecouple v s
  | .relockTimeout v => Sys2Proof.Machine.execRelockTimeout v s
  | .stepChange d ns => Sys2Proof.Machine.execStepChange d ns s
  | .stepChangeTimeout d returned => Sys2Proof.Machine.execStepChangeTimeout d returned s
  | .stretchRateWindow d stretches cycles => Sys2Proof.Machine.execStretchRateWindow d stretches cycles s
  | .ceilingExpiry d margin => Sys2Proof.Machine.execCeilingExpiry d margin s
  | .lockstepFallback d skewPs ns => Sys2Proof.Machine.execLockstepFallback d skewPs ns s
  | .replicaWindow v minimum => Sys2Proof.Machine.execReplicaWindow v minimum s
  | .replicaFailure v => Sys2Proof.Machine.execReplicaFailure v s
  | .heatSwitchOff d v => Sys2Proof.Machine.execHeatSwitchOff d v s
  | .heatSwitchOn d v => Sys2Proof.Machine.execHeatSwitchOn d v s
  | .quenchN ns => Sys2Proof.Machine.execQuenchN ns s
  | .quenchCmd v => Sys2Proof.Machine.execQuenchCmd v s
  | .readoutComplete failed => Sys2Proof.Machine.execReadoutComplete failed s
  | .quenchSramDump v => Sys2Proof.Machine.execQuenchSramDump v s
  | .sramDumpComplete failed => Sys2Proof.Machine.execSramDumpComplete failed s
  | .obsidianImage slot => Sys2Proof.Machine.execObsidianImage slot s
  | .inputFault mv us => Sys2Proof.Machine.execInputFault mv us s
  | .inputMarginal mv => Sys2Proof.Machine.execInputMarginal mv s
  | .inputOvercurrent da us => Sys2Proof.Machine.execInputOvercurrent da us s
  | .inputFoldback da us => Sys2Proof.Machine.execInputFoldback da us s
  | .busbarImbalance p0 p1 ms => Sys2Proof.Machine.execBusbarImbalance p0 p1 ms s
  | .converterFailure g m => Sys2Proof.Machine.execConverterFailure g m s
  | .switchOnSlot groups inputW => Sys2Proof.Machine.execSwitchOnSlot groups inputW s
  | .switchOnAbandon dom => Sys2Proof.Machine.execSwitchOnAbandon dom s
  | .efuseOpen f amps ns => Sys2Proof.Machine.execEfuseOpen f amps ns s
  | .phaseFailure d p => Sys2Proof.Machine.execPhaseFailure d p s
  | .shunt d mv => Sys2Proof.Machine.execShunt d mv s
  | .boost d mv => Sys2Proof.Machine.execBoost d mv s
  | .powerTick p => Sys2Proof.Machine.execPowerTick p s
  | .currentLogRow inputDa groups => Sys2Proof.Machine.execCurrentLogRow inputDa groups s
  | .minVoltageClear v => Sys2Proof.Machine.execMinVoltageClear v s
  | .resistanceUpdate d samples => Sys2Proof.Machine.execResistanceUpdate d samples s
  | .sensorDisagreement k a b ms => Sys2Proof.Machine.execSensorDisagreement k a b ms s
  | .sensorExclusion k which reading => Sys2Proof.Machine.execSensorExclusion k which reading s
  | .thermalStageEnter k a b => Sys2Proof.Machine.execThermalStageEnter k a b s
  | .thermalStageLower d => Sys2Proof.Machine.execThermalStageLower d s
  | .thermalStageExit k a b ms => Sys2Proof.Machine.execThermalStageExit k a b ms s
  | .thermalTrip k which r1 r2 r3 => Sys2Proof.Machine.execThermalTrip k which r1 r2 r3 s
  | .hostThermtrip h => Sys2Proof.Machine.execHostThermtrip h s
  | .coolantSample which v => Sys2Proof.Machine.execCoolantSample which v s
  | .coolantTimeout which => Sys2Proof.Machine.execCoolantTimeout which s
  | .outletBelowInlet ms => Sys2Proof.Machine.execOutletBelowInlet ms s
  | .lowFlow ms => Sys2Proof.Machine.execLowFlow ms s
  | .thetaUpdate hottest inputW => Sys2Proof.Machine.execThetaUpdate hottest inputW s
  | .powerForecast p => Sys2Proof.Machine.execPowerForecast p s
  | .forecastInterval v inputW => Sys2Proof.Machine.execForecastInterval v inputW s
  | .forecastExpiry => Sys2Proof.Machine.execForecastExpiry s
  | .simmerCheck temps ms => Sys2Proof.Machine.execSimmerCheck temps ms s
  | .rootTakeover ms => Sys2Proof.Machine.execRootTakeover ms s
  | .rootLost => Sys2Proof.Machine.execRootLost s
  | .entropyFailure h => Sys2Proof.Machine.execEntropyFailure h s
  | .ownerClaim c => Sys2Proof.Machine.execOwnerClaim c s
  | .ownerRelease h => Sys2Proof.Machine.execOwnerRelease h s
  | .keyAdd h keyHash => Sys2Proof.Machine.execKeyAdd h keyHash s
  | .keyRemove h keyId => Sys2Proof.Machine.execKeyRemove h keyId s
  | .keyPrimary h keyId => Sys2Proof.Machine.execKeyPrimary h keyId s
  | .imageKey h key => Sys2Proof.Machine.execImageKey h key s
  | .updateApprove h component digest => Sys2Proof.Machine.execUpdateApprove h component digest s
  | .operatorGeneration h g => Sys2Proof.Machine.execOperatorGeneration h g s
  | .revocation r => Sys2Proof.Machine.execRevocation r s
  | .attestRequest session level nonce kind c => Sys2Proof.Machine.execAttestRequest session level nonce kind c s
  | .offer c => Sys2Proof.Machine.execOffer c s
  | .offerExpiry c => Sys2Proof.Machine.execOfferExpiry c s
  | .ctxAccept c a => Sys2Proof.Machine.execCtxAccept c a s
  | .ctxKeyLoad c k => Sys2Proof.Machine.execCtxKeyLoad c k s
  | .close c => Sys2Proof.Machine.execClose c s
  | .closeComplete c => Sys2Proof.Machine.execCloseComplete c s
  | .debugToken t => Sys2Proof.Machine.execDebugToken t s
  | .hostLinkTrain h modules => Sys2Proof.Machine.execHostLinkTrain h modules s
  | .hostLinkError h modules => Sys2Proof.Machine.execHostLinkError h modules s
  | .hostLinkRetry h modules => Sys2Proof.Machine.execHostLinkRetry h modules s
  | .hWrite h kind length addr data => Sys2Proof.Machine.execHWrite h kind length addr data s
  | .hRead h kind tag length addr => Sys2Proof.Machine.execHRead h kind tag length addr s
  | .pCpl h m status data => Sys2Proof.Machine.execPCpl h m status data s
  | .dpCtrl h v => Sys2Proof.Machine.execDpCtrl h v s
  | .dpStatus h v => Sys2Proof.Machine.execDpStatus h v s
  | .dpStatusRead h tag => Sys2Proof.Machine.execDpStatusRead h tag s
  | .mbInLen h len => Sys2Proof.Machine.execMbInLen h len s
  | .mbAckConsumed h => Sys2Proof.Machine.execMbAckConsumed h s
  | .mbAckClearOverrun h => Sys2Proof.Machine.execMbAckClearOverrun h s
  | .dbStatusClear h v => Sys2Proof.Machine.execDbStatusClear h v s
  | .moverTail h m v => Sys2Proof.Machine.execMoverTail h m v s
  | .moverResume h m => Sys2Proof.Machine.execMoverResume h m s
  | .moverAbort h m => Sys2Proof.Machine.execMoverAbort h m s
  | .moverPiece h m => Sys2Proof.Machine.execMoverPiece h m s
  | .descriptorComplete h m => Sys2Proof.Machine.execDescriptorComplete h m s
  | .hello h hid body => Sys2Proof.Machine.execHello h hid body s
  | .finish h level proof => Sys2Proof.Machine.execFinish h level proof s
  | .handshakeTimeout session => Sys2Proof.Machine.execHandshakeTimeout session s
  | .fjocoRead h index sub => Sys2Proof.Machine.execFjocoRead h index sub s
  | .fjocoWrite h index sub value => Sys2Proof.Machine.execFjocoWrite h index sub value s
  | .segRead h index sub off => Sys2Proof.Machine.execSegRead h index sub off s
  | .segWrite h index sub off data => Sys2Proof.Machine.execSegWrite h index sub off data s
  | .segAbort h index sub => Sys2Proof.Machine.execSegAbort h index sub s
  | .segTimeout session => Sys2Proof.Machine.execSegTimeout session s
  | .sessionClose h => Sys2Proof.Machine.execSessionClose h s
  | .sessionIdle session => Sys2Proof.Machine.execSessionIdle session s
  | .pdoTx n => Sys2Proof.Machine.execPdoTx n s
  | .pdoRx h n data => Sys2Proof.Machine.execPdoRx h n data s
  | .tpdoRate session n rate => Sys2Proof.Machine.execTpdoRate session n rate s
  | .tpdoMap session n m => Sys2Proof.Machine.execTpdoMap session n m s
  | .rpdoMap session n m => Sys2Proof.Machine.execRpdoMap session n m s
  | .eventMask session mask => Sys2Proof.Machine.execEventMask session mask s
  | .fieldLinkLoss port link => Sys2Proof.Machine.execFieldLinkLoss port link s
  | .fieldLinkReturn port link => Sys2Proof.Machine.execFieldLinkReturn port link s
  | .neighborDiscovery port linkLocalSource iid => Sys2Proof.Machine.execNeighborDiscovery port linkLocalSource iid s
  | .tileHeartbeatMiss d t => Sys2Proof.Machine.execTileHeartbeatMiss d t s
  | .dieHeartbeatMiss d => Sys2Proof.Machine.execDieHeartbeatMiss d s
  | .dieProbeResult d failed => Sys2Proof.Machine.execDieProbeResult d failed s
  | .sinterHeartbeatMiss k => Sys2Proof.Machine.execSinterHeartbeatMiss k s
  | .tileFailure d t => Sys2Proof.Machine.execTileFailure d t s
  | .dieFailure d => Sys2Proof.Machine.execDieFailure d s
  | .dormantDieFailure d => Sys2Proof.Machine.execDormantDieFailure d s
  | .migrationStart d => Sys2Proof.Machine.execMigrationStart d s
  | .migrationCopy src => Sys2Proof.Machine.execMigrationCopy src s
  | .migrationDestFail src => Sys2Proof.Machine.execMigrationDestFail src s
  | .relocation src => Sys2Proof.Machine.execRelocation src s
  | .stackLoss k => Sys2Proof.Machine.execStackLoss k s
  | .regionRestore c => Sys2Proof.Machine.execRegionRestore c s
  | .regionResume c recordsOk => Sys2Proof.Machine.execRegionResume c recordsOk s
  | .caughtUp c => Sys2Proof.Machine.execCaughtUp c s
  | .recoveryBudgetExpiry c => Sys2Proof.Machine.execRecoveryBudgetExpiry c s
  | .marginSummary => Sys2Proof.Machine.execMarginSummary s
  | .shadowCompare point frame norm proj => Sys2Proof.Machine.execShadowCompare point frame norm proj s
  | .alertAck v => Sys2Proof.Machine.execAlertAck v s
  | .faultLogClear v => Sys2Proof.Machine.execFaultLogClear v s
  | .standbyLoss aux p0 p1 => Sys2Proof.Machine.execStandbyLoss aux p0 p1 s
  | .graphStart c => Sys2Proof.Machine.execGraphStart c s
  | .droopStretch d v sagMv => Sys2Proof.Machine.execDroopStretch d v sagMv s
  | .sensorsAgree k a b ms => Sys2Proof.Machine.execSensorsAgree k a b ms s
  | .thermalCeilingRaise d => Sys2Proof.Machine.execThermalCeilingRaise d s
  | .firmwareWatchdog v => Sys2Proof.Machine.execFirmwareWatchdog v s
  | .quenchNHigh ns => Sys2Proof.Machine.execQuenchNHigh ns s
  | .standbyPowerReturn aux p0 p1 => Sys2Proof.Machine.execStandbyPowerReturn aux p0 p1 s
  | .testPortAccess op => Sys2Proof.Machine.execTestPortAccess op s
  | .switchOnRetry dom => Sys2Proof.Machine.execSwitchOnRetry dom s

end Sys2Proof.Machine
end

