-- ==== Sys2Proof/Machine/Step.lean ====
section
/-! DEFINITION. One step of the panel: the command at the front of the queue takes effect; with an
empty queue a nanosecond passes. -/

namespace Sys2Proof.Machine

/-- A nanosecond passes while no command waits (R22). (DESIGN CHOICE, log 3) -/
def tick (s : State) : State := { s with now := s.now + 1 }

/-- The command in front of the queue has its effect on the state with the queue's rest. (DESIGN CHOICE, log 1) -/
def step (s : State) : Host.Outcome State Fault Refusal :=
  match s.pending with
  | [] => .next (tick s)
  | c :: rest => exec c { s with pending := rest }

/-- The command of the table that a word spells, in front of the queue: the table gives no row any
bits, so no word spells a command. -/
def State.withFetchWord (s : State) (_nbits _w : Nat) : State := s

end Sys2Proof.Machine
end

