-- ==== Sys2Proof/Machine/Flags.lean ====
section
/-! DEFINITION. The flags that the panel shows on its pins, computed from the state (R521, R555–R560). -/

namespace Sys2Proof.Machine

/-! ### Output pins (R558–R560) -/

/-- ALERT_N is asserted (R521): SAFE, a BOOT that waits for loadable firmware (R512), or a fault of an alert class;
it needs standby power. -/
def State.alertN (s : State) : Bool :=
  s.pwr.standby && (s.st == .safe || s.log.alert
    || s.bootHeld)

/-- THERMTRIP_N is asserted. -/
def State.thermtripN (s : State) : Bool := s.pwr.standby && s.pins.thermtrip

/-- PGOOD is high. -/
def State.pgoodPin (s : State) : Bool := s.pwr.standby && s.pins.pgood

end Sys2Proof.Machine
end

