-- ==== Sys2Proof/Safety.lean ====
section
/-! DEFINITION. What a safe state is and what a command may change, in the terms that claims use. -/

namespace Sys2Proof.Machine

/-- The memories of stacks, commons and scratchpads, and the sequencer memories, are in canonical form. -/
def State.memWf (s : State) : Bool :=
  Memory.wf s.stackMem && Memory.wf s.commonsMem && Memory.wf s.spadMem && Memory.wf s.boot.seqMem

/-! ### What a command leaves alone -/

/-- The parts of the panel's state; a command's answer is no part. -/
inductive Part where
  | panelState | time | faultLog | anatomy | objects | storedObjects | counters | counterTimes | stackMem | commonsMem
  | spadMem | tiles | engines | contexts | stacks | network | fabric | clocks | power | thermal | security | hostSites
  | sessions | starts | recovery | pins | messages | freeValues | queue
  deriving DecidableEq, Repr

/-- A part is the same in two states; a memory is when every byte of it reads the same. -/
def State.same (s t : State) : Part → Prop
  | .panelState => t.st = s.st ∧ t.since = s.since
  | .time => t.now = s.now
  | .faultLog => t.log = s.log
  | .anatomy => t.anat = s.anat
  | .objects => t.dict = s.dict
  | .storedObjects => t.stored = s.stored
  | .counters => t.ctrs = s.ctrs
  | .counterTimes => t.ctrSince = s.ctrSince
  | .stackMem => ∀ a, byteAt t.stackMem a = byteAt s.stackMem a
  | .commonsMem => ∀ a, byteAt t.commonsMem a = byteAt s.commonsMem a
  | .spadMem => ∀ a, byteAt t.spadMem a = byteAt s.spadMem a
  | .tiles => t.tiles = s.tiles
  | .engines => t.eng = s.eng
  | .contexts => t.flow = s.flow
  | .stacks => t.stk = s.stk
  | .network => t.net = s.net
  | .fabric => t.fab = s.fab
  | .clocks => t.clk = s.clk
  | .power => t.pwr = s.pwr
  | .thermal => t.thm = s.thm
  | .security => t.sec = s.sec
  | .hostSites => t.hst = s.hst
  | .sessions => t.mgmt = s.mgmt
  | .starts => t.boot = s.boot
  | .recovery => t.recov = s.recov
  | .pins => t.pins = s.pins
  | .messages => t.sent = s.sent
  | .freeValues => t.freeCount = s.freeCount
  | .queue => t.pending = s.pending

/-- What the report of a fault or an event may change: the log and its counters, the EVENT frames and doorbells that
tell of it, and the draws of those frames. -/
def reports : List Part := [.faultLog, .counters, .security, .hostSites, .sessions, .messages]

/-- Some parts, and what a report may change. -/
def reporting (l : List Part) : List Part := reports ++ l

/-- The groups in which what a command may change is claimed: commands whose effect stays in one area, those whose
effect goes through the memories, networks and failures of the panel, and those that move the panel's state. -/
inductive Shape where
  | tileWork | contextWork | trust | netWork | clockWork | powerWork | hostWork | panelWork | traffic | panelReach
  deriving DecidableEq, Repr

/-- A command's group, and the parts that its rules let it change. -/
def frameOf : Instr → Shape × List Part
  | .stagingFill .. | .halfRelease .. | .creditReturn .. => (.tileWork, [.tiles])
  | .shadowLoad .. => (.tileWork, [.counters, .tiles])
  | .arrayRound .. => (.tileWork, [.counters, .tiles, .freeValues])
  | .spCreditReq .. => (.tileWork, [.counters, .tiles, .messages])
  | .bankCloseComplete .. | .bankReopen .. => (.tileWork, [.tiles, .engines, .stacks])
  | .denyFullRetry .. => (.tileWork, [.time, .counters, .tiles, .messages])
  | .bankReopenComplete ..
    => (.tileWork, [.counters, .stackMem, .commonsMem, .spadMem, .tiles, .engines, .stacks, .messages])
  | .tail .. | .ringResume .. => (.tileWork, reporting [.engines])
  | .ringGrant .. => (.tileWork, reporting [.fabric])
  | .spCreditReply .. => (.tileWork, reporting [.tiles])
  | .halfTake .. | .dispatchSpan .. => (.tileWork, reporting [.tiles, .contexts])
  | .creditExpiry .. => (.tileWork, reporting [.time, .tiles])
  | .ringStepTimeout .. => (.tileWork, reporting [.time, .contexts, .fabric])
  | .switchDrain .. | .switchFlush .. => (.contextWork, [.contexts])
  | .fill .. | .abandon .. | .fillWritten .. => (.contextWork, [.contexts, .fabric])
  | .liveWriteApply .. => (.contextWork, [.counters, .contexts])
  | .stackBankZeroise .. => (.contextWork, [.stackMem, .stacks])
  | .rollback .. => (.contextWork, [.tiles, .contexts])
  | .halt .. | .resume .. | .cfg .. | .ctxBcast .. => (.contextWork, [.counters, .contexts, .messages])
  | .checkpointSkip .. => (.contextWork, [.time, .counters, .contexts])
  | .switchTimeout .. | .joinWatchdog .. | .digestPatrol .. => (.contextWork, reporting [.time, .contexts])
  | .shardManifest .. => (.contextWork, reporting [.contexts, .stacks, .fabric])
  | .fillAttemptTimeout .. => (.contextWork, reporting [.time, .contexts, .fabric])
  | .offerExpiry .. => (.trust, [.time, .contexts])
  | .offer .. => (.trust, [.contexts, .security, .freeValues])
  | .attestRequest .. => (.trust, [.counters, .security, .freeValues])
  | .ownerClaim .. | .keyAdd .. | .keyRemove .. | .keyPrimary .. | .imageKey .. | .updateApprove ..
  | .operatorGeneration .. | .revocation .. => (.trust, reporting [])
  | .ctxAccept .. | .ctxKeyLoad .. => (.trust, reporting [.contexts])
  | .close .. => (.trust, reporting [.contexts, .fabric])
  | .qcredit .. => (.netWork, [.contexts])
  | .linkEnable .. | .trainComplete .. => (.netWork, [.fabric])
  | .ack .. => (.netWork, [.contexts, .network])
  | .linkRetry .. => (.netWork, [.time, .fabric])
  | .credit .. => (.netWork, [.counters, .fabric, .messages])
  | .routerForward .. => (.netWork, [.counters, .network, .messages])
  | .release .. => (.netWork, [.counters, .network, .fabric, .messages])
  | .rekey .. => (.netWork, [.time, .counters, .fabric, .messages])
  | .regulatorRelease .. => (.netWork, [.time, .counters, .network, .fabric, .messages])
  | .keyx .. | .keyxComplete .. | .linkstate .. | .laneGroupOut .. | .marginRefresh ..
    => (.netWork, reporting [.fabric])
  | .groupRetrain .. => (.netWork, reporting [.time, .fabric])
  | .syncRead .. | .syncWrite .. | .init .. | .arrive .. | .wait .. | .fetchAdd .. | .cas .. | .link ..
  | .readLink .. => (.netWork, reporting [.contexts, .network, .fabric])
  | .referenceReturn .. => (.clockWork, [.clocks])
  | .quenchNHigh .. => (.clockWork, [.pins])
  | .powerForecast .. | .sensorsAgree .. => (.clockWork, [.thermal])
  | .islandDecouple .. | .stepChange .. => (.clockWork, [.counters, .clocks])
  | .quenchSramDump .. => (.clockWork, [.objects, .clocks])
  | .thetaUpdate .. => (.clockWork, [.power, .thermal])
  | .obsidianImage .. => (.clockWork, [.security, .freeValues])
  | .ceilingExpiry .. => (.clockWork, [.time, .clocks])
  | .forecastInterval .. | .forecastExpiry .. => (.clockWork, [.time, .thermal])
  | .thermalStageExit .. => (.clockWork, [.clocks, .power, .thermal])
  | .simmerCheck .. => (.clockWork, [.counters, .clocks, .thermal])
  | .thermalStageLower .. | .thermalCeilingRaise .. => (.clockWork, [.time, .clocks, .thermal])
  | .droopStretch .. => (.clockWork, [.counters, .clocks, .power, .recovery])
  | .outletBelowInlet .. => (.clockWork, reporting [])
  | .referenceLoss .. | .stretchRateWindow .. | .lockstepFallback .. | .replicaWindow ..
    => (.clockWork, reporting [.clocks])
  | .sensorDisagreement .. => (.clockWork, reporting [.thermal])
  | .readoutComplete .. | .sramDumpComplete .. => (.clockWork, reporting [.clocks, .freeValues])
  | .coolantSample .. => (.clockWork, reporting [.objects, .power, .thermal])
  | .coolantTimeout .. => (.clockWork, reporting [.time, .power, .thermal])
  | .shunt .. => (.powerWork, [.counters])
  | .currentLogRow .. | .minVoltageClear .. => (.powerWork, [.power])
  | .switchOnSlot .. | .boost .. => (.powerWork, [.counters, .power])
  | .switchOnRetry .. => (.powerWork, [.time, .power])
  | .powerTick .. => (.powerWork, [.counters, .clocks, .power, .thermal])
  | .inputOvercurrent .. => (.powerWork, reporting [.clocks])
  | .inputMarginal .. | .busbarImbalance .. => (.powerWork, reporting [.power])
  | .mbAckClearOverrun .. | .dbStatusClear .. => (.hostWork, [.hostSites])
  | .neighborDiscovery .. => (.hostWork, [.messages])
  | .mbInLen .. => (.hostWork, [.counters, .hostSites])
  | .handshakeTimeout .. => (.hostWork, [.time, .sessions])
  | .mbAckConsumed .. | .descriptorComplete .. => (.hostWork, [.counters, .hostSites, .messages])
  | .segTimeout .. => (.hostWork, [.time, .counters, .sessions])
  | .sessionIdle .. => (.hostWork, [.time, .counters, .security, .sessions])
  | .pdoTx .. => (.hostWork, [.time, .counters, .security, .hostSites, .sessions, .messages])
  | .hostLinkTrain .. | .hostLinkError .. | .finish .. | .segRead .. | .segAbort .. | .sessionClose ..
  | .fieldLinkLoss .. | .fieldLinkReturn .. => (.hostWork, reporting [])
  | .hello .. | .fjocoRead .. => (.hostWork, reporting [.freeValues])
  | .hostLinkRetry .. => (.hostWork, reporting [.time])
  | .fieldDefectsClear .. => (.panelWork, [.anatomy])
  | .alertAck .. | .faultLogClear .. => (.panelWork, [.faultLog])
  | .panelRstNHeld .. => (.panelWork, [.pins])
  | .standbyPowerReturn .. => (.panelWork, [.power])
  | .dieHeartbeatMiss .. | .migrationStart .. => (.panelWork, [.recovery])
  | .caughtUp .. => (.panelWork, [.contexts, .recovery])
  | .countersClear .. => (.panelWork, [.counters, .counterTimes])
  | .testPortAccess .. => (.panelWork, [.pins, .freeValues])
  | .marginSummary .. => (.panelWork, [.recovery, .freeValues])
  | .fwLoad .. => (.panelWork, [.starts, .messages])
  | .selftest .. | .update .. | .discard .. => (.panelWork, [.panelState, .hostSites, .starts, .messages])
  | .shadowCompare .. => (.panelWork, reporting [.recovery])
  | .fwStage .. | .calTableWrite .. => (.panelWork, reporting [.starts])
  | .calibrate .. => (.panelWork, reporting [.panelState, .starts])
  | .calibrateComplete .. => (.panelWork, reporting [.panelState, .anatomy, .starts])
  | .recoveryBudgetExpiry .. => (.panelWork, reporting [.time, .contexts, .recovery])
  | .regionResume .. => (.panelWork, reporting [.contexts, .network, .fabric, .recovery])
  | .heatSwitchOn .. => (.traffic, reporting [.tiles, .engines, .stacks, .clocks, .recovery])
  | .relocation .. => (.traffic, reporting [.anatomy, .tiles, .engines, .contexts, .stacks, .recovery])
  | .topkSelection .. => (.traffic, reporting [.commonsMem, .tiles, .engines, .contexts, .network, .recovery])
  | .resendTimeout .. => (.traffic, reporting [.time, .tiles, .engines, .contexts, .network, .fabric, .recovery])
  | .commonsAccess .. | .stepChangeTimeout .. | .resistanceUpdate .. | .dieProbeResult .. | .dieFailure ..
  | .dormantDieFailure ..
    => (.traffic, reporting [.anatomy, .commonsMem, .tiles, .engines, .contexts, .network, .fabric, .power,
      .recovery])
  | .scratchpadAccess .. | .settle .. | .hint .. | .groupEnd .. | .tileHeartbeatMiss .. | .tileFailure ..
    => (.traffic, reporting [.anatomy, .commonsMem, .spadMem, .tiles, .engines, .contexts, .network, .fabric,
      .power, .recovery])
  | .pathTest .. | .scrub .. | .efuseOpen .. | .sinterHeartbeatMiss .. | .migrationDestFail .. | .stackLoss ..
    => (.traffic, reporting [.anatomy, .commonsMem, .tiles, .engines, .contexts, .stacks, .network, .fabric,
      .power, .recovery])
  | .bankClose ..
    => (.traffic, reporting [.anatomy, .commonsMem, .spadMem, .tiles, .engines, .contexts, .stacks, .network,
      .fabric, .power, .recovery])
  | .phaseFailure ..
    => (.traffic, reporting [.anatomy, .commonsMem, .tiles, .engines, .contexts, .stacks, .network, .fabric,
      .clocks, .power, .recovery])
  | .shardReq .. | .migrationCopy ..
    => (.traffic, reporting [.anatomy, .stackMem, .commonsMem, .tiles, .engines, .contexts, .stacks, .network,
      .fabric, .power, .recovery])
  | .heatSwitchOff ..
    => (.traffic, reporting [.anatomy, .commonsMem, .spadMem, .tiles, .engines, .contexts, .stacks, .network,
      .fabric, .clocks, .power, .recovery])
  | .halfFillStart .. | .outputStageWrite .. | .clean .. | .invalidate .. | .cleanInvalidate .. | .reopen ..
  | .descriptorFetch .. | .descriptorRetire .. | .unitDrainSwitch .. | .imageLoad .. | .checkpointComplete ..
  | .fillAttempt .. | .ringDone .. | .bucketRunStart .. | .hWrite .. | .hRead .. | .pCpl .. | .dpCtrl ..
  | .dpStatus .. | .dpStatusRead .. | .moverTail .. | .moverResume .. | .moverAbort .. | .moverPiece ..
    => (.traffic, reporting [.anatomy, .stackMem, .commonsMem, .spadMem, .tiles, .engines, .contexts, .stacks,
      .network, .fabric, .power, .recovery])
  | .laneInstruction .. | .ringAbort .. | .copy .. | .transpose .. | .convert .. | .strataPack ..
  | .strataTrim .. | .mxPack .. | .exp .. | .log .. | .recip .. | .rsqrt .. | .sqrt .. | .gelu .. | .silu ..
  | .sigmoid .. | .tanh .. | .lnStats .. | .rmsStats .. | .normApply .. | .sort .. | .merge .. | .mergeSum ..
  | .topk .. | .gather .. | .scatter .. | .scatterAdd .. | .predict .. | .certifyTopk .. | .combine ..
  | .sign1Enc .. | .sign1Dec .. | .ringStep .. | .gcmEnc .. | .gcmDec .. | .sha3256 .. | .sha3512 ..
  | .hashVerify .. | .suspend .. | .reinstate .. | .unitFlush .. | .unitRollback .. | .switchComplete ..
  | .read .. | .readData .. | .write .. | .writeDone .. | .token .. | .shardVerifyDone .. | .frameRx ..
  | .ringData .. | .shardData .. | .xtoken .. | .regionRestore ..
    => (.traffic, reporting [.anatomy, .stackMem, .commonsMem, .spadMem, .tiles, .engines, .contexts, .stacks,
      .network, .fabric, .power, .recovery, .freeValues])
  | .unitFiring .. | .shardWaitLimit ..
    => (.traffic, reporting [.time, .anatomy, .stackMem, .commonsMem, .spadMem, .tiles, .engines, .contexts,
      .stacks, .network, .fabric, .power, .recovery])
  | .engineWatchdog .. | .checkpointDue ..
    => (.traffic, reporting [.time, .anatomy, .stackMem, .commonsMem, .spadMem, .tiles, .engines, .contexts,
      .stacks, .network, .fabric, .power, .recovery, .freeValues])
  | .selftestComplete .. => (.panelReach, reporting [.panelState, .anatomy, .stacks, .starts])
  | .quenchCmd .. => (.panelReach, reporting [.panelState, .contexts, .clocks, .starts])
  | .quenchN .. => (.panelReach, reporting [.panelState, .contexts, .clocks, .starts, .pins])
  | .enterSafe .. | .lowFlow .. | .rootLost .. | .entropyFailure ..
    => (.panelReach, reporting [.panelState, .contexts, .clocks, .thermal, .starts, .recovery])
  | .inputFoldback ..
    => (.panelReach, reporting [.panelState, .contexts, .clocks, .power, .thermal, .starts, .recovery])
  | .converterFailure .. | .hostThermtrip ..
    => (.panelReach, reporting [.panelState, .contexts, .clocks, .power, .thermal, .starts, .recovery, .pins])
  | .switchOnAbandon ..
    => (.panelReach, reporting [.panelState, .time, .contexts, .clocks, .power, .thermal, .starts, .recovery])
  | .coolantQualified ..
    => (.panelReach, reporting [.panelState, .anatomy, .contexts, .network, .fabric, .clocks, .power, .thermal,
      .starts, .recovery, .pins])
  | .startComplete ..
    => (.panelReach, reporting [.panelState, .anatomy, .tiles, .contexts, .stacks, .fabric, .clocks, .power,
      .thermal, .starts, .recovery])
  | .closeComplete .. | .debugToken ..
    => (.panelReach, reporting [.panelState, .anatomy, .stackMem, .commonsMem, .spadMem, .tiles, .engines,
      .contexts, .stacks, .network, .fabric, .power, .recovery])
  | .thermalStageEnter ..
    => (.panelReach, reporting [.panelState, .anatomy, .commonsMem, .tiles, .engines, .contexts, .stacks,
      .network, .fabric, .clocks, .power, .thermal, .starts, .recovery])
  | .ownerRelease ..
    => (.panelReach, reporting [.panelState, .anatomy, .stackMem, .commonsMem, .spadMem, .tiles, .engines,
      .contexts, .stacks, .network, .fabric, .clocks, .power, .recovery])
  | .graphStart ..
    => (.panelReach, reporting [.panelState, .anatomy, .stackMem, .commonsMem, .spadMem, .tiles, .engines,
      .contexts, .stacks, .network, .fabric, .power, .recovery, .freeValues])
  | .replicaFailure .. | .sensorExclusion ..
    => (.panelReach, reporting [.panelState, .anatomy, .commonsMem, .spadMem, .tiles, .engines, .contexts,
      .stacks, .network, .fabric, .clocks, .power, .thermal, .starts, .recovery])
  | .thermalTrip ..
    => (.panelReach, reporting [.panelState, .anatomy, .commonsMem, .tiles, .engines, .contexts, .stacks,
      .network, .fabric, .clocks, .power, .thermal, .starts, .recovery, .pins])
  | .relockTimeout ..
    => (.panelReach, reporting [.panelState, .time, .anatomy, .commonsMem, .spadMem, .tiles, .engines,
      .contexts, .stacks, .network, .fabric, .clocks, .power, .thermal, .starts, .recovery])
  | .powerOff .. | .inputFault .. | .standbyLoss ..
    => (.panelReach, [.panelState, .time, .faultLog, .anatomy, .objects, .counters, .counterTimes, .stackMem,
      .commonsMem, .spadMem, .tiles, .engines, .contexts, .stacks, .network, .fabric, .clocks, .power,
      .thermal, .security, .hostSites, .sessions, .starts, .recovery, .pins])
  | .coldStart .. | .warmStart .. | .powerOnStart .. | .panelRstNRelease .. | .startStepTimeout ..
  | .activate .. | .rootTakeover .. | .firmwareWatchdog ..
    => (.panelReach, reporting [.panelState, .time, .anatomy, .objects, .counterTimes, .stackMem, .commonsMem,
      .spadMem, .tiles, .engines, .contexts, .stacks, .network, .fabric, .clocks, .power, .thermal, .starts,
      .recovery, .pins])
  | .registerWrite .. | .fjocoWrite .. | .segWrite .. | .pdoRx .. | .tpdoRate .. | .tpdoMap .. | .rpdoMap ..
  | .eventMask ..
    => (.panelReach, reporting [.panelState, .time, .anatomy, .objects, .storedObjects, .counterTimes,
      .stackMem, .commonsMem, .spadMem, .tiles, .engines, .contexts, .stacks, .network, .fabric, .clocks,
      .power, .thermal, .starts, .recovery, .pins, .freeValues])

/-- From s to t a command has changed nothing but the parts that it may change, and never the queue. -/
def Framed (c : Instr) (s t : State) : Prop := ∀ p, p ∉ (frameOf c).2 → s.same t p

end Sys2Proof.Machine
end

