-- ==== Sys2Proof/Certificates/Slice0/Obligations.lean ====
section
/-! DEFINITION. The statements for the provers. -/

open Sys2Proof Sys2Proof.Machine

/-- A step takes the command at the front of the queue and gives the outcome of that command on the state with the queue's
rest. -/
def Obligations.StepRunsTheFrontCommand : Prop :=
  ∀ (s : State) (c : Instr) (rest : List Instr), s.pending = c :: rest → step s = exec c { s with pending := rest }

/-- With no command waiting, one nanosecond passes and nothing else changes (DESIGN CHOICE, log 3). -/
def Obligations.AnEmptyQueueLetsANanosecondPass : Prop :=
  ∀ s : State, s.pending = [] → step s = .next { s with now := s.now + 1 }

/-- After reset the panel is OFF with no command waiting, every context is CLOSED, the log is empty, the memories are in
canonical form and list nothing, and every counter is zero. -/
def Obligations.ResetIsOff : Prop :=
  State.reset.st = .off ∧ State.reset.pending = [] ∧ State.reset.log.main = [] ∧ State.reset.memWf = true ∧
    (∀ c : CtxId, (State.reset.ctx c).key = .closed ∧ (State.reset.ctx c).sw = .none) ∧
    (∀ a, byteAt State.reset.stackMem a = 0 ∧ byteAt State.reset.commonsMem a = 0 ∧ byteAt State.reset.spadMem a = 0) ∧
    (∀ k r o, State.reset.ctr k r o = 0)

/-- Every step from a state whose memories are in canonical form leaves them in canonical form, whatever the command. -/
def Obligations.EveryStepKeepsTheMemoriesCanonical : Prop :=
  ∀ s s' : State, s.memWf = true → step s = .next s' → s'.memWf = true

/-- No command is refused: whatever the state and the command, exec answers a next state or the one fault. -/
def Obligations.NoCommandIsRefused : Prop :=
  ∀ (c : Instr) (s : State) (r : Refusal), exec c s ≠ .refused r

/-- The only fault is an access to a data register that the manual does not describe: TEST_PORT_ACCESS shifts data, with
standby power, the port's debug scope open and an instruction selected that is neither IDCODE nor BYPASS. -/
def Obligations.OnlyAnUndescribedTestRegisterFaults : Prop :=
  ∀ (c : Instr) (s : State) (f : Fault), exec c s = .fault f ↔
    f = .testRegister ∧ s.pwr.standby = true ∧ s.pins.tap = .other ∧ s.tapOpen = true ∧
      ∃ bits, c = .testPortAccess (.shiftDr bits)

/-- ARRAY_ROUND, STAGING_FILL, SHADOW_LOAD, HALF_FILL_START, HALF_TAKE, HALF_RELEASE and OUTPUT_STAGE_WRITE run when their
unit is live and what they work on is there. -/
def Obligations.ArrayPairCommandsComplete : Prop :=
  ∀ (s : State) (d : LDie) (t : LTile) (a : Fin 2) (c : CtxId) (g : UnitCfg) (k : Nat),
    s.tileKey d t = some k →
    let arr := (s.tile k).arr a
    (∀ (x : ArrayCfg) (entry : Fin 256) (out : Nat),
      s.live d t.val = some (c, g) → arrayCfg g = some x → roundBitmap g = false →
      (g.layer = none → out + modeOuts x.wFmt.toNat ≤ 16384) →
      arr.room (colEntries (arr.nextCols entry.val) (modeOuts x.wFmt.toNat) out) = true →
      (∀ n < arr.roundSpan false entry.val, (arr.stage entry.val n).data ≠ []) →
      (arr.turns entry.val = true → arr.shadow ≠ []) →
      ∃ s', exec (.arrayRound d t a entry out) s = .next s' ∧ s'.answer = .done ∧
        entry.val ∈ ((s'.tile k).arr a).served) ∧
    (∀ (x : ArrayCfg) (entry : Fin 256) (out : Nat) (r : State),
      s.live d t.val = some (c, g) → arrayCfg g = some x → roundBitmap g = true →
      (g.layer = none → out + modeOuts x.wFmt.toNat ≤ 16384) →
      arr.room (colEntries [] (modeOuts x.wFmt.toNat) out) = true →
      (∀ n < 8, (arr.stage entry.val n).data ≠ []) →
      s.roundDispatched d t a k x entry.val out = some r →
      exec (.arrayRound d t a entry out) s = .next r.ok ∧ entry.val ∈ ((r.tile k).arr a).served) ∧
    (∀ (x : ArrayCfg) (entry : Fin 256) (data : Bytes) (scales : Byte × Byte),
      s.live d t.val = some (c, g) → arrayCfg g = some x → data.length = 8 * elemBits x.aFmt.toNat →
      ∃ s', exec (.stagingFill d t a entry data scales) s = .next s' ∧ s'.answer = .done ∧
        (((s'.tile k).arr a).stage entry.val 0).data = data ∧
        (((s'.tile k).arr a).stage entry.val 0).scales = scales) ∧
    (∀ (x : ArrayCfg) (off : Nat) (b : Bool) (l : Load),
      s.live d t.val = some (c, g) → arrayCfg g = some x →
      arr.shadow = [] → arr.inState .inUse = some b → (arr.half b).uses < x.reuse →
      (arr.half b).load x (passKind (s.ctx c).specPosture x g.layer (arr.half b).settle) off = some l →
      ∃ s', exec (.shadowLoad d t a off) s = .next s' ∧ s'.answer = .done ∧
        ((s'.tile k).arr a).shadow = l.weights ∧ ((s'.tile k).arr a).shadowScales = l.scales ∧
        ((s'.tile k).arr a).active = arr.active) ∧
    (∀ (f : FillDecl) (bytes : Nat) (h h' : Half) (r : State),
      s.live d (streamUnit t a) = some (c, g) → bytes ≤ 65536 → (arr.half arr.fillB).st = .empty →
      s.declaredHalf c g (s.tile k) (s.unit (unitKey d (streamUnit t a))) f bytes = some h →
      s.taggedHalf c d t g ((s.live d t.val).bind (fun p => arrayCfg p.2)) h = (r, some h') →
      let filled := r.modTile k (fun y => y.modArr a (fun z =>
        { z.modHalf z.fillB (fun _ => h') with fillB := !z.fillB }))
      exec (.halfFillStart d t a f bytes) s = .next (filled.fetchHalf c d t (streamUnit t a) f h').ok ∧
        ((filled.tile k).arr a).half ((r.tile k).arr a).fillB = h') ∧
    (∀ (off bytes : Nat) (merge : Bool) (group : Option Byte),
      s.live d (streamUnit t a) = some (c, g) → bytes ≤ 65536 → (arr.half arr.fillB).st = .empty →
      (s.tile k).inResident off bytes = true →
      ∃ s', exec (.halfFillStart d t a ⟨.resident off, .first, merge, group⟩ bytes) s = .next s' ∧ s'.answer = .done ∧
        (((s'.tile k).arr a).half arr.fillB).st = (if bytes = 0 then .ready else .filling) ∧
        (((s'.tile k).arr a).half arr.fillB).size = bytes ∧ ((s'.tile k).arr a).fillB = !arr.fillB) ∧
    (s.live d t.val = some (c, g) → arr.inState .inUse = none → (arr.half arr.takeB).st = .ready →
      ∃ s', exec (.halfTake d t a) s = .next s' ∧ s'.answer = .done) ∧
    (∀ (x : ArrayCfg) (b : Bool),
      s.live d t.val = some (c, g) → arrayCfg g = some x → arr.inState .inUse = some b → x.reuse ≤ (arr.half b).uses →
      ∃ s', exec (.halfRelease d t a) s = .next s' ∧ s'.answer = .done ∧
        ((s'.tile k).arr a).half b = {}) ∧
    (∀ (x : ArrayCfg) (o : StageOut),
      s.live d t.val = some (c, g) → arrayCfg g = some x → (g.layer = none → outsOf x g.layer * o.vectors ≤ 16384) →
      let outs := List.range' o.firstOutput o.count
      let all := (List.range o.vectors).flatMap (fun v => outs.map (fun i => v * outsOf x g.layer + i))
      (o.part = .send →
        s.canEmitN g 0 (chunk (max (s.outWidth g 0) 8) (all.flatMap (fun i =>
          toLe 4 (tget 0 arr.acc i).toNat ++ toLe 4 (tget 0 arr.env i).toNat))).length = true →
        ∃ s', exec (.outputStageWrite d t a o) s = .next s' ∧ s'.answer = .done) ∧
      (∀ (port : Fin 4) (i : QueueDecl) (k : Token), o.part = .combine port →
        (s.heads c d t.val g).2.find? (fun p => p.1.port == port) = some (i, some k) → 8 * all.length ≤ k.payload.length →
        ∃ s', exec (.outputStageWrite d t a o) s = .next s' ∧ s'.answer = .done) ∧
      (o.part = .finish → g.layer = none → o.dest = none →
        s.canEmitN g 0 (chunk (max (s.outWidth g 0) 1) (stageBytes x.outFmt.toNat x.conv.toNat (s.tile k).sr
          (stageWords x g.layer (fun _ => 0) arr o.vectors outs [])).1).length = true →
        ∃ s', exec (.outputStageWrite d t a o) s = .next s' ∧ s'.answer = .done) ∧
      (∀ (l : LayerDecl) (bias : Nat → W32) (q r : State), o.part = .finish → g.layer = some l →
        s.biases ⟨c, false, .none, t.val⟩ l o.firstOutput o.count = (q, .ok bias) →
        q.stageLayer c d t a k g x l bias o outs = (r, true) →
        exec (.outputStageWrite d t a o) s = .next r.ok))

/-- LANE_INSTRUCTION, SCRATCHPAD_ACCESS and the cache operations CLEAN, INVALIDATE and CLEAN_INVALIDATE run when their unit is
live, their access is granted, or a context holds their tile and the lines that they write back are acknowledged. -/
def Obligations.LaneScratchpadAndCacheCommandsComplete : Prop :=
  ∀ (s : State) (d : LDie) (t : LTile) (k : Nat), s.tileKey d t = some k →
    (∀ (c : CtxId) (g : UnitCfg) (i : LaneInstr), s.live d (16 + t.val) = some (c, g) →
      let s1 := s.count64 .unit (unitKey d (16 + t.val)) 0x08 1
      let cacheable := match g.op with | .lane _ _ y => y | _ => false
      (∀ f, i.op = .convFrom f → fmtOk f.toNat = true) →
      (∀ f v, i.op = .convTo f v → fmtOk f.toNat = true ∧ convOk v.toNat = true) →
      (∀ off, i.op = .load off → ∃ s2 b, s1.laneAccess c d t k cacheable off none = (s2, .ok b)) →
      (∀ off, i.op = .store off →
        ∃ s2 b, s1.laneAccess c d t k cacheable off (some ((s.tile k).regBytes i.a.val)) = (s2, .ok b)) →
      (∀ a first, i.op = .stage a first → ∃ s2 ws, s1.stageLanes c d t k a first = (s2, some ws)) →
      ∃ s', exec (.laneInstruction d t i) s = .next s' ∧ s'.answer = .done ∧
        (i.op = .add → ∀ n < 64, (s'.tile k).lane i.dst.val n =
          fadd ((s.tile k).lane i.a.val n) ((s.tile k).lane i.b.val n)) ∧
        (i.op = .cmpLt → (s'.tile k).mask = laneMask (s.tile k) flt i.a.val i.b.val)) ∧
    (∀ (bank : Fin 32) (reqs : List MemReq) (r : MemReq),
      let s0 := s.spadArrive d t k (atBank 13 32 (2 ^ 22) bank.val reqs)
      roundRobin (tget 0 (s0.tile k).bankPtr bank.val) 13 (tget [] (s0.tile k).bankWait bank.val) = some r →
      let s1 := s0.modTile k (fun y =>
        { y with bankWait := tset [] y.bankWait bank.val ((tget [] y.bankWait bank.val).erase r) })
      let w : Who := ⟨r.ctx, r.firmware, r.role, portUnit t r.port⟩
      (∀ s2 b, r.write = false → s1.spadRead w d t r.addr r.len = (s2, .ok b) →
        ∃ s', exec (.scratchpadAccess d t bank reqs) s = .next s' ∧ s'.answer = .data .ok b) ∧
      (∀ s2 b, r.write = true → s1.spadWrite w d t r.addr r.data r.unsettled = (s2, .ok b) →
        exec (.scratchpadAccess d t bank reqs) s = .next (s2.status .ok))) ∧
    (∀ (base : W64) (bytes : Nat) (w : Who), s.cacheWho d t = some (w, k) →
      (∀ r, s.cacheRange w (tileRec d t.val) k .clean (lineRange base bytes) = (r, true) →
        exec (.clean d t base bytes) s = .next r.ok) ∧
      (∃ s', exec (.invalidate d t base bytes) s = .next s' ∧ s'.answer = .done ∧ s'.spadMem = s.spadMem ∧
        s'.stackMem = s.stackMem) ∧
      (∀ r, s.cacheRange w (tileRec d t.val) k .cleanInvalidate (lineRange base bytes) = (r, true) →
        exec (.cleanInvalidate d t base bytes) s = .next r.ok))

/-- The credit and bank commands run when the table, the bank or the waiting reply is as their rule asks. -/
def Obligations.CreditAndBankCommandsComplete : Prop :=
  ∀ s : State,
    (∀ (node : BitVec 12) (c : CtxId) (d : LDie) (t : LTile) (w n : Nat), (s.phys d).isSome →
      ∃ s', exec (.spCreditReq node c d t w n) s = .next s' ∧ s'.answer = .done ∧
        tget [] s'.tiles.replies (s.sourceDie node) =
          tget [] s.tiles.replies (s.sourceDie node) ++ [(⟨node, c, d, t, w, n⟩, s.creditAnswer ⟨node, c, d, t, w, n⟩)]) ∧
    (∀ (src : LDie) (r : CreditReq) (ans : CreditAns) (rest : List (CreditReq × CreditAns)),
      tget [] s.tiles.replies src.val = (r, ans) :: rest →
      ∃ s', exec (.spCreditReply src) s = .next s' ∧ tget [] s'.tiles.replies src.val = rest ∧
        s'.answer = (match ans with
          | .grant i => .word .ok (BitVec.ofNat 64 i.val)
          | .denyFull => .status .nocredit
          | .denyRange => .status .denied)) ∧
    (∀ (src : LDie) (r : CreditReq) (t0 : Nat) (rest : List (CreditReq × Nat)),
      tget [] s.tiles.denied src.val = (r, t0) :: rest →
      ∃ s', exec (.denyFullRetry src) s = .next s' ∧ s'.answer = .done ∧
        tget [] s'.tiles.denied src.val = rest ∧ t0 + 1000 ≤ s'.now) ∧
    (∀ (d : LDie) (t : LTile) (id : Fin 64) (k : Nat) (q : Credit), s.tileKey d t = some k →
      tget none (s.tile k).credits id.val = some q →
      (∃ s', exec (.creditReturn d t id) s = .next s' ∧ s'.answer = .done ∧
        tget none (s'.tile k).credits id.val = none) ∧
      ((s.tile k).shutAt = none →
        ∃ s', exec (.creditExpiry d t id) s = .next s' ∧ s'.answer = .done ∧
          tget none (s'.tile k).credits id.val = none ∧
          q.granted + q.frozen + s.obj 0x2241 (q.ctx.val + 1) * 1000 ≤ s'.now)) ∧
    (∀ (b : BankRef) (m : CloseMode),
      (s.bankSt b = .open → s.modeOk b m = true →
        ∃ s', exec (.bankClose b m) s = .next s' ∧ s'.answer = .done ∧ s'.bankSt b = .closing m) ∧
      (s.bankSt b = .closing m →
        ∃ s', exec (.bankCloseComplete b) s = .next s' ∧ s'.answer = .done ∧ s'.bankSt b = .closed m) ∧
      (s.bankSt b = .closed m →
        ∃ s', exec (.bankReopen b) s = .next s' ∧ s'.answer = .done ∧ s'.bankSt b = .opening m) ∧
      (s.bankSt b = .opening m →
        ∃ s', exec (.bankReopenComplete b) s = .next s' ∧ s'.answer = .done ∧
          ((∀ k i, b = .stack k i → s.bankOwner k.val i.val ≠ 0xFD) → s'.bankSt b = .open))) ∧
    (∀ (node : BitVec 12) (b : BankRef),
      let due (p : BitVec 12 × BitVec 12 × Pkt) : Bool := p.1 == node && (s.pktBanks p.2.2).contains b
      let sent := (s.net.parked.filter due).foldl (fun (x : State) p => (x.inject p.1 p.2.1 p.2.2).1)
        { s with answer := .done, net := { s.net with parked := s.net.parked.filter (fun p => !due p) } }
      exec (.reopen node b) s = .next (if nodeKind node = 2 ∧ nodeIndex node < 2 then sent.drainSites else sent))

/-- COMMONS_ACCESS, the ring registers TAIL, RING_RESUME and RING_ABORT, the fetch and the retirement of a descriptor and the
engine watchdog run when the bank is open, the ring is bound to the context and the descriptor is as their rule asks. -/
def Obligations.CommonsAndRingCommandsComplete : Prop :=
  ∀ (s : State) (d : LDie) (p : Nat), s.phys d = some p →
    (∀ (bank : Fin 64) (reqs : List MemReq) (r : MemReq),
      let s0 := s.commonsArrive d p (atBank 20 64 (2 ^ 25) bank.val reqs)
      roundRobin (tget 0 (s0.commons p).ptr bank.val) 20 (tget [] (s0.commons p).bankWait bank.val) = some r →
      let s1 := s0.modCommons p (fun y =>
        { y with
          ptr := tset 0 y.ptr bank.val ((r.port + 1) % 20)
          bankWait := tset [] y.bankWait bank.val ((tget [] y.bankWait bank.val).erase r) })
      let w : Who := ⟨r.ctx, r.firmware, if r.port = 18 then .none else r.role, commonsUnit r.port⟩
      (∀ s2 b, r.write = false → s1.commonsRead w d r.addr r.len = (s2, .ok b) →
        exec (.commonsAccess d bank reqs) s = .next { s2 with answer := .data .ok b }) ∧
      (∀ s2 b, r.write = true → s1.commonsWrite w d r.addr r.data r.unsettled = (s2, .ok b) →
        exec (.commonsAccess d bank reqs) s = .next (s2.status .ok))) ∧
    (∀ (c : CtxId) (e : EngId) (q : RingId) (v : W32), (s.ring (ringKey d e q)).ctx = some c →
      (((v - (s.ring (ringKey d e q)).done).toNat ≤ (s.ring (ringKey d e q)).slots) →
        exec (.tail c d e q v) s = .next ((s.modRing (ringKey d e q) (fun r => { r with tail := v })).status .ok)) ∧
      exec (.ringResume c d e q) s =
        .next ((s.modRing (ringKey d e q) (fun r => { r with halted := false })).status .ok) ∧
      (∃ s', exec (.ringAbort c d e q) s = .next s' ∧ s'.answer = .status .ok ∧
        (s'.ring (ringKey d e q)).descs = [] ∧ (s'.ring (ringKey d e q)).waitFence = false ∧
        (s'.ring (ringKey d e q)).head = (s'.ring (ringKey d e q)).tail ∧
        (s'.ring (ringKey d e q)).done = (s'.ring (ringKey d e q)).tail)) ∧
    (∀ (c : CtxId) (e : EngId) (q : RingId) (t : State) (b : Bytes),
      let r := s.ring (ringKey d e q)
      r.ctx = some c → s.engineLive c d e.val = true → r.halted = false →
      r.head ≠ r.tail → ((s.engine (engKey d e)).placed = none ∨ (s.engine (engKey d e)).placed = some c) →
      s.inProgress d e < 4 → s.startTurn d e q = true →
      s.commonsRead (whoEngine c e) d (r.slotOff r.head.toNat) 64 = (t, .ok b) →
      let slot := r.head.toNat % r.slots
      let w := slotWords b
      exec (.descriptorFetch d e q) s = .next (t.takeDesc d e q c slot w) ∧
      (dEpoch w = t.engineEpoch d e c + 2 →
        ∃ s', exec (.descriptorFetch d e q) s = .next s' ∧ s'.answer = .done ∧
          (s'.ring (ringKey d e q)).head = (t.ring (ringKey d e q)).head + 1) ∧
      (∀ (r2 : State) (extra : Bytes), dEpoch w = t.engineEpoch d e c →
        dFence w = false ∨ (t.ring (ringKey d e q)).descs = [] → dOp w / 16 = e.val → dEngine w = e.val → dCtx w = c.val →
        t.foreignStep d q slot w = false → dCount w ≠ 0 →
        t.epeek (whoEngine c e) (w.getD 2 0) (extraLen w) = (r2, .ok extra) → r2.descFault c d e w extra = none →
        ∃ s', exec (.descriptorFetch d e q) s = .next s' ∧ s'.answer = .done ∧
          (s'.ring (ringKey d e q)).descs = (r2.ring (ringKey d e q)).descs ++
            [{ slot := slot, words := w, started := t.now, fin := none }])) ∧
    (∀ (c : CtxId) (e : EngId) (q : RingId) (x : Desc) (rest : List Desc) (f : DStatus × W16 × W64) (t : State) (b : Bytes),
      (s.ring (ringKey d e q)).ctx = some c → (s.ring (ringKey d e q)).descs = x :: rest → x.fin = some f →
      (x.unsettled = true → x.confirmed = true ∨ f.1 = .discarded ∨ f.1 = .aborted) →
      s.putRecord d e q c x f = (t, .ok b) →
      ∃ s', exec (.descriptorRetire d e q) s = .next s' ∧ s'.answer = .done) ∧
    (∀ (c : CtxId) (e : EngId) (q : RingId) (x : Desc),
      (s.ring (ringKey d e q)).ctx = some c →
      (s.ring (ringKey d e q)).descs.find? (fun x => x.fin.isNone) = some x → s.yields c = false →
      ∃ s', exec (.engineWatchdog d e q) s = .next s' ∧ s'.answer = .done ∧
        (s'.ring (ringKey d e q)).halted = true ∧
        x.started + (x.wakes s.now).excused + s.obj 0x2243 (c.val + 1) * 1000 + 1 ≤ s'.now)

/-- Every engine operation runs a chunk of the descriptor in front of its ring when its ring has its turn and no dataflow
token of its unit is ready: the last chunk marks the descriptor as finished OK (HASH_VERIFY: OK or MISMATCH) with its
result, an earlier one leaves its progress. -/
def Obligations.EngineOperationsComplete : Prop :=
  ∀ (s t : State) (d : LDie) (q : RingId) (c : CtxId) (x : Desc) (n : Nat) (k : List Nat),
    let ready (e op : Nat) (f : EngOp) (stop : Option Stop) : Prop :=
      s.engineLive c d e = true ∧ (s.ring (ringKey d e q)).ctx = some c ∧
      (s.ring (ringKey d e q)).descs.find? (fun y => y.fin.isNone) = some x ∧
      dOp x.words = op ∧ s.ringTurn d e q = true ∧ s.tokenReady d (96 + e) = false ∧
      s.runChunk (engW c d e) f x = (t, n, k, stop)
    let ended (e : Nat) (f : EngOp) : State :=
      ((t.engBusy d e (f.chunkCycles x)).modEngine (engKey d e) (fun z => { z with next := (q.val + 1) % 8 })).freeWork
        (engW c d e) x
    let marks (e : Nat) (f : EngOp) (st : DStatus) (r : Nat) (s' : State) : Prop :=
      (s'.ring (ringKey d e q)).descs = modRunning (fun y =>
        { y with fin := some (st, 0, BitVec.ofNat 64 r), held := none }) ((ended e f).ring (ringKey d e q)).descs
    let runs (e op : Nat) (f : EngOp) (i : Instr) : Prop :=
      ready e op f none →
      (f.lastChunk x = true →
        ∃ s', exec i s = .next s' ∧ s'.answer = .done ∧ marks e f .ok (f.result x.words n k) s') ∧
      (f.lastChunk x = false →
        ∃ s', exec i s = .next s' ∧ s'.answer = .done ∧
          (s'.ring (ringKey d e q)).descs = modRunning (fun y =>
            { y with
              units := n, keep := k, chunks := x.chunks + 1, excused := (x.wakes s.now).excused
              waitSince := none }) (t.ring (ringKey d e q)).descs)
    (ready 7 0x74 opHashVerify (some .mismatch) →
      ∃ s', exec (.hashVerify d q) s = .next s' ∧ s'.answer = .done ∧
        marks 7 opHashVerify .mismatch (opHashVerify.result x.words (n + 1) k) s') ∧
    runs 0 0x01 opCopy (.copy d q) ∧ runs 0 0x02 opTranspose (.transpose d q) ∧
    runs 0 0x03 opConvert (.convert d q) ∧ runs 0 0x04 opStrataPack (.strataPack d q) ∧
    runs 0 0x05 opStrataTrim (.strataTrim d q) ∧ runs 0 0x06 opMxPack (.mxPack d q) ∧
    runs 1 0x10 opCurve (.exp d q) ∧ runs 1 0x11 opCurve (.log d q) ∧
    runs 1 0x12 opCurve (.recip d q) ∧ runs 1 0x13 opCurve (.rsqrt d q) ∧
    runs 1 0x14 opCurve (.sqrt d q) ∧ runs 1 0x15 opCurve (.gelu d q) ∧
    runs 1 0x16 opCurve (.silu d q) ∧ runs 1 0x17 opCurve (.sigmoid d q) ∧
    runs 1 0x18 opCurve (.tanh d q) ∧ runs 2 0x20 (opStats false) (.lnStats d q) ∧
    runs 2 0x21 (opStats true) (.rmsStats d q) ∧ runs 2 0x22 opNormApply (.normApply d q) ∧
    runs 3 0x30 opSort (.sort d q) ∧ runs 3 0x31 (opMerge false) (.merge d q) ∧
    runs 3 0x32 (opMerge true) (.mergeSum d q) ∧ runs 3 0x33 opTopk (.topk d q) ∧
    runs 4 0x40 opGather (.gather d q) ∧ runs 4 0x41 opScatter (.scatter d q) ∧
    runs 4 0x42 opScatterAdd (.scatterAdd d q) ∧ runs geyser 0x50 opPredict (.predict d q) ∧
    runs geyser 0x51 opCertify (.certifyTopk d q) ∧ runs 6 0x60 opCombine (.combine d q) ∧
    runs 6 0x61 opSign1Enc (.sign1Enc d q) ∧ runs 6 0x62 opSign1Dec (.sign1Dec d q) ∧
    runs 7 0x70 (opGcm false) (.gcmEnc d q) ∧ runs 7 0x71 (opGcm true) (.gcmDec d q) ∧
    runs 7 0x72 (opSha3 32) (.sha3256 d q) ∧ runs 7 0x73 (opSha3 64) (.sha3512 d q) ∧
    runs 7 0x74 opHashVerify (.hashVerify d q)

/-- TOPK_SELECTION, RING_STEP, BUCKET_RUN_START, RING_STEP_TIMEOUT, RING_GRANT and RING_DONE run when the decisions, the step
or the group are as their rule asks. -/
def Obligations.SelectionAndRingExchangeCommandsComplete : Prop :=
  ∀ (s : State) (d : LDie),
    (∀ (c : CtxId) (g : UnitCfg) (vec : Nat) (ins und : List Nat) (k : Nat) (l : LayerDecl) (settled : List (Nat × W32))
      (dst : Nat),
      s.live d (96 + geyser) = some (c, g) →
      (s.engine (engKey d geyser)).certs.find? (fun p => p.1 == vec) = some (k, ins, und) →
      (s.geyserLayer d).map (·.2) = some l → l.v ≤ (s.engine (engKey d geyser)).certs.length →
      (∀ i ∈ und, (settled.find? (fun p => p.1 == i)).isSome) →
      (l.indices = false → ∀ i ∈ ins, (settled.find? (fun p => p.1 == i)).isSome) →
      ∃ s', exec (.topkSelection d vec settled dst) s = .next s' ∧ s'.answer = .done) ∧
    (∀ (q : RingId) (c : CtxId) (x : Desc) (k : Nat) (g : GroupRun) (t : State),
      s.engineLive c d 6 = true → (s.ring (ringKey d 6 q)).ctx = some c →
      (s.ring (ringKey d 6 q)).descs.find? (fun y => y.fin.isNone) = some x →
      s.groupOfRing d q (bits (dA x.words) 14 2) = some (k, g) →
      dOp x.words = 0x63 → g.ctx = c → g.st = .running →
      s.ringTurn d 6 q = true → s.tokenReady d 102 = false →
      (s.stepRun k g x.words = .moved t ∨ s.stepRun k g x.words = .ends t none) →
      ∃ s', exec (.ringStep d q) s = .next s' ∧ s'.answer = .done) ∧
    (∀ (g : Fin 4) (slot : Nat) (x : GroupRun), s.group (groupKey d g) = some x →
      (x.st = .idle ∨ x.st = .running → slot < x.decl.slots.length → (s.ctx x.ctx).runs = true →
        ∃ s', exec (.bucketRunStart d g slot) s = .next s' ∧ s'.answer = .done) ∧
      (x.st = .running →
        ∃ s', exec (.ringStepTimeout d g) s = .next s' ∧ s'.answer = .done ∧
          (s'.group (groupKey d g)).map (·.st) = some .halted ∧ (s'.ctx x.ctx).sw = .halted) ∧
      (x.st ≠ .halted → ∀ (slot : W16) (run : W32) (step : W16) (half : W64),
        ∃ s', exec (.ringGrant d g (BitVec.ofNat 8 (s.wireOf x)) slot run step (BitVec.ofNat 16 x.decl.p) half) s = .next s' ∧
          s'.answer = .done ∧
          (g.val = x.decl.group.val → ∃ y, s'.group (groupKey d g) = some y ∧
            ⟨slot.toNat, run.toNat, step.toNat, half.toNat⟩ ∈ y.grants)) ∧
      (∀ (wire : Byte) (run : W32) (step p : W16) (bytes : W32),
        x.st = .running → x.run = run.toNat →
        (∃ y, x.decl.slots[x.slot]? = some y) → x.slot < 2 ^ 16 →
        ∃ s', exec (.ringDone d g wire (BitVec.ofNat 16 x.slot) run step p bytes) s = .next s' ∧ s'.answer = .done))

/-- The reference, islands, frequency steps and margins: each event acts on an island that is up or a die whose clocks can
change step. -/
def Obligations.ClockCommandsComplete : Prop :=
  ∀ s : State,
    (∀ hub : Option Hub,
      s.clk.crystalOk = true ∨ s.clk.pll0 = true ∧ hub = some 0 ∨ s.clk.pll1 = true ∧ hub = some 1 →
      (hub = none ∨ s.clk.pll0 = true ∧ hub = some 0 ∨ s.clk.pll1 = true ∧ hub = some 1) →
      ∃ s', exec (.referenceLoss hub) s = .next s' ∧ (hub = none → s.clk.crystalOk = true → s'.answer = .done ∧ s'.clk.crystalOk = false) ∧
        (∀ h, hub = some h → s'.answer = .done ∧ (h = 0 → s'.clk.pll0 = false) ∧ (h = 1 → s'.clk.pll1 = false))) ∧
    (s.pwr.busOn = true → s.clk.refState ≠ 0 →
      ∃ s', exec .referenceReturn s = .next s' ∧ s'.answer = .done ∧ s'.clk.refState = 0 ∧ s'.clk.crystalOk = true ∧
        s'.clk.pll0 = true ∧ s'.clk.pll1 = true) ∧
    (∀ i : Island, s.islandUp i = true →
      ((s.island (islandKey i)).outOfLock s.now = false →
        ∃ s', exec (.islandDecouple i) s = .next s' ∧ s'.answer = .done ∧
          (s'.island (islandKey i)).locked = false ∧ (s'.island (islandKey i)).since = s.now) ∧
      ((s.island (islandKey i)).locked = false →
        ∃ s', exec (.relockTimeout i) s = .next s' ∧ s'.answer = .done) ∧
      (∀ minimum : Nat, ∃ s', exec (.replicaWindow i minimum) s = .next s' ∧ s'.answer = .done ∧
        (s'.island (islandKey i)).last = BitVec.ofNat 8 (min minimum 0xFE)) ∧
      (∃ s', exec (.replicaFailure i) s = .next s' ∧ s'.answer = .done)) ∧
    (∀ d : Die, s.stepReady d.val = true →
      (∀ ns, ns ≤ 20000 → (s.dieClk d.val).step ≠ s.targetStep d.val →
        ∃ s', exec (.stepChange d ns) s = .next s' ∧ s'.answer = .done ∧
          (s'.dieClk d.val).step = stepToward4 (s.dieClk d.val).step (s.targetStep d.val)) ∧
      (∀ returned, (s.dieClk d.val).step ≠ s.targetStep d.val →
        ∃ s', exec (.stepChangeTimeout d returned) s = .next s' ∧ s'.answer = .done ∧
          (returned = true → (s'.dieClk d.val).step = (s.dieClk d.val).step)) ∧
      (∀ stretches cycles, s.obj 0x3100 0x03 * cycles < 1000 * stretches →
        ∃ s', exec (.stretchRateWindow d stretches cycles) s = .next s' ∧ s'.answer = .done ∧
          (s'.dieClk d.val).stretch = lowerFor10s s.now (s.dieClk d.val).step (s.dieClk d.val).stretch) ∧
      (∀ skewPs ns, s.lockstep d.val = true → 8 < skewPs → 1000000 < ns →
        ∃ s', exec (.lockstepFallback d skewPs ns) s = .next s' ∧ s'.answer = .done ∧ s'.lockstep d.val = false)) ∧
    (∀ (d : Die) (p : Nat × Nat) (l : List (Nat × Nat)),
      ((s.dieClk d.val).margin = p :: l →
        ∃ s', exec (.ceilingExpiry d true) s = .next s' ∧ s'.answer = .done ∧ (s'.dieClk d.val).margin = l ∧ p.1 ≤ s'.now) ∧
      ((s.dieClk d.val).stretch = p :: l →
        ∃ s', exec (.ceilingExpiry d false) s = .next s' ∧ s'.answer = .done ∧ (s'.dieClk d.val).stretch = l ∧ p.1 ≤ s'.now)) ∧
    (∀ (d : Die) (i : Fin 21) (sag : Nat), s.islandUp (.die d ⟨i.val, by omega⟩) = true →
      s.cal 5 (3 * d.val) < sag ∨ s.cal 5 (3 * d.val + 1) < sag ∨ s.cal 5 (3 * d.val + 2) < sag →
      ∃ s', exec (.droopStretch d i sag) s = .next s' ∧ s'.answer = .done)

/-- Switching an island off and on for heat, QUENCH by pin and command, its read-out, dump and image run when the
island, the pin and quench_status are as their rule asks. -/
def Obligations.HeatSwitchAndQuenchCommandsComplete : Prop :=
  ∀ s : State,
    (∀ (d : Die) (i : Fin 21), s.islandUp (.die d ⟨i.val, by omega⟩) = true →
      (s.spot (dieSpot d.val i.val)).stage = 3 →
      ∃ s', exec (.heatSwitchOff d i) s = .next s' ∧ s'.answer = .done ∧ (s'.island (d.val * 37 + i.val)).st = 1 ∧
        s'.domOn (islandDom d i) = false) ∧
    (∀ (d : Die) (i : Fin 21), (s.island (d.val * 37 + i.val)).st = 1 → s.domOn (islandDom d i) = true →
      ∃ s', exec (.heatSwitchOn d i) s = .next s' ∧ s'.answer = .done ∧ (s'.island (d.val * 37 + i.val)).st = 0 ∧
        (s'.island (d.val * 37 + i.val)).locked = true) ∧
    (∀ ns, 200 ≤ ns → s.pins.quenchArmed = true → s.quenchable = true →
      ∃ s', exec (.quenchN ns) s = .next s' ∧ s'.answer = .done ∧ s'.st = .quenched ∧ s'.clk.trigger = 0 ∧
        s'.pins.quenchArmed = false) ∧
    (∀ ns, ∃ s', exec (.quenchNHigh ns) s = .next s' ∧ s'.answer = .done ∧ s'.pins.quenchLow = false ∧
      (200 ≤ ns → s'.pins.quenchArmed = true)) ∧
    (∀ v, s.quenchable = true →
      ∃ s', exec (.quenchCmd v) s = .next s' ∧ s'.answer = .fjoco .ok [] ∧ (v = true → s'.st = .quenched ∧ s'.clk.trigger = 1)
        ∧ (v = false → s'.st = s.st)) ∧
    (∀ failed, s.st = .quenched → s.clk.quench = 1 →
      ∃ s', exec (.readoutComplete failed) s = .next s' ∧ s'.answer = .done ∧
        s'.clk.quench = (if failed then 6 else if s.clk.dumpAsked then 4 else 3) ∧
        (failed = false → s'.clk.newest = BitVec.ofNat 8 s.imageSlot)) ∧
    (∀ v, ∃ s', exec (.quenchSramDump v) s = .next s' ∧ s'.answer = .fjoco .ok [] ∧
      s'.obj 0xA000 0x02 = (if v then 1 else 0) ∧
      (v = true → s.st = .quenched → s.clk.quench = 3 → s'.clk.quench = 4)) ∧
    (∀ failed, s.st = .quenched → s.clk.quench = 4 →
      ∃ s', exec (.sramDumpComplete failed) s = .next s' ∧ s'.answer = .done ∧ s'.clk.quench = (if failed then 6 else 5)) ∧
    (∀ slot : Fin 2,
      (s.sec.imageKey.isEmpty = true →
        ∃ s', exec (.obsidianImage slot) s = .next s' ∧ s'.answer = .fjoco .state []) ∧
      (s.sec.imageKey.isEmpty = false → ∀ h, s.slotHeader slot.val = some h →
        ∃ s' b, exec (.obsidianImage slot) s = .next s' ∧ s'.answer = .fjoco .ok (h ++ b)) ∧
      (s.sec.imageKey.isEmpty = false → s.slotHeader slot.val = none →
        ∃ s', exec (.obsidianImage slot) s = .next s' ∧ s'.answer = .fjoco .ok []))

/-- A packet of its row's opcode that arrives intact, in its place and not void is accepted and delivered; an XTOKEN whose link queue
is not declared is dropped and counted. -/
def Obligations.IntactPacketsAreDelivered : Prop :=
  ∀ (s : State) (node : BitVec 12) (p : Pkt),
    let delivered (i : Instr) : Prop :=
      exec i s = .next (s.ok.arrived node p) ∧ (s.ok.accept node p).2.head? = some p
    pktHead p = p.headCheck → opcodeKnown p.opcode = true → s.namesNode node p = true →
    pktCrc p = p.crc → p.seq.toNat = tget 0 s.net.seqRx (s.rxKey node p) →
    s.net.void.contains (p.srcNode, p.vc, p.seq, p.dest) = false →
    (p.opcode = 0x01 → delivered (.read node p)) ∧
    (p.opcode = 0x02 → delivered (.readData node p)) ∧
    (p.opcode = 0x03 → delivered (.write node p)) ∧
    (p.opcode = 0x04 → delivered (.writeDone node p)) ∧
    (p.opcode = 0x05 → delivered (.token node p)) ∧
    (s.pktNode p = node → node ≠ nodeAway →
      (p.opcode = 0x11 → delivered (.ringData p)) ∧
      (p.opcode = 0x14 → delivered (.shardData p)) ∧
      (p.opcode = 0x15 → s.linkDeclared p = true → delivered (.xtoken p)) ∧
      (p.opcode = 0x15 → s.linkDeclared p = false →
        exec (.xtoken p) s = .next (s.count .fabric (bits p.dest.toNat 37 3) 0x1C 1).ok))

/-- Forwarding, regulators, acknowledgement, re-sending, the path test and returned queue credits run when the packet, the
regulator or the copy is there. -/
def Obligations.NetworkCommandsComplete : Prop :=
  ∀ s : State,
    (∀ (d : Die) (p : Pkt),
      ∃ s', exec (.routerForward d p) s = .next s' ∧ s'.answer = .done ∧
        (pktHead p ≠ p.headCheck → s'.sent = s.sent) ∧
        (∀ port, pktHead p = p.headCheck → p.mcast = false → s.exitOf d.val p = some (d.val, port) →
          (∃ l, tget [] (tget {} s'.net.out (d.val * 12 + port)).lanes p.vc.toNat = l ++ [(p, pktFlits p / 64)]) ∧
          (s.net.out = [] → s'.sent = .hop d.val port p :: s.sent))) ∧
    (∀ (d : Die) (vc : Fin 8) (prio : Fin 4) (p : Pkt) (rest : List Pkt) (t : Nat),
      let key := d.val * 24 + vc.val * 3 + (prio.val - 1)
      prio ≠ 0 → (tget {} s.net.reg key).held = p :: rest → (tget {} s.net.reg key).fillsAt (pktFlits p) = some t →
      ∃ s', exec (.regulatorRelease d vc prio) s = .next s' ∧ s'.answer = .done) ∧
    (∀ (src dst : BitVec 12) (vc : Fin 8) (seq : W32) (x : SrcCopy), s.copyOf src dst vc.val seq = some x →
      (∃ s', exec (.ack src dst vc seq) s = .next s' ∧ s'.answer = .done ∧ s'.net.copies = s.net.copies.erase x) ∧
      (x.sends < 8 → ∃ s', exec (.resendTimeout src dst vc seq) s = .next s' ∧ s'.answer = .done) ∧
      (8 ≤ x.sends → ∃ s', exec (.resendTimeout src dst vc seq) s = .next s' ∧ s'.answer = .status .pathFault)) ∧
    (∀ (src dst : BitVec 12) (lanes : List W32), (∃ w ∈ lanes, recKind w = 2) →
      ∃ s', exec (.pathTest src dst lanes) s = .next s' ∧ s'.answer = .done) ∧
    (∀ (d : LDie) (q : Fin 448) (n : Nat), (s.queue (queueKey d q.val)).decl.isSome →
      ∃ s', exec (.qcredit d q n) s = .next s' ∧ s'.answer = .done ∧
        s'.queue (queueKey d q.val) = (s.queue (queueKey d q.val)).taken n)

/-- Every sync operation on a cell of this panel that its requester owns answers OK with the word before it (READ_LINK: the
parent), and leaves the cell as R297 says; a WAIT on the present generation waits; RELEASE acts at a die or hub. -/
def Obligations.SyncOperationsComplete : Prop :=
  ∀ (s : State) (r : SyncReq) (v : W64) (k : Nat),
    (r.addr.toNat % 8 = 0 → s.decode r.addr = .here (.cell k) → (k < hubFirst → (s.cellDie k).isSome) →
      r.panel = s.srcPanel → s.syncReach r.node (s.cellNode k) = true → s.ownsCell r k = true →
      let w := (s.cell k).word
      (∃ s', exec (.syncRead r) s = .next s' ∧ s'.answer = .word .ok w ∧ s'.cell k = s.cell k) ∧
      (r.firmware = true →
        ∃ s', exec (.syncWrite r v) s = .next s' ∧ s'.answer = .word .ok w ∧ (s'.cell k).word = v) ∧
      (∃ s', exec (.init r v) s = .next s' ∧ s'.answer = .word .ok w ∧
        (s'.cell k).word = cWord (cGen w) (bits v.toNat 0 16) false 0) ∧
      (bits v.toNat 0 8 ≠ 0 → ∃ s', exec (.arrive r v) s = .next s' ∧ s'.answer = .word .ok w) ∧
      (cGen w ≠ bits v.toNat 0 16 →
        ∃ s', exec (.wait r v) s = .next s' ∧ s'.answer = .word .ok w ∧ s'.cell k = s.cell k) ∧
      (cGen w = bits v.toNat 0 16 → s.waiters k < waitLimit k →
        ∃ s', exec (.wait r v) s = .next s' ∧ s'.answer = .done ∧
          (s'.cell k).waiters = (s.cell k).waiters ++ [(r, v)]) ∧
      (∃ s', exec (.fetchAdd r v) s = .next s' ∧ s'.answer = .word .ok w ∧
        (s'.cell k).word = cWord (cGen w) (cTarget w) (cPending w) (cValue w + bits v.toNat 0 31)) ∧
      (∃ s', exec (.cas r v) s = .next s' ∧ s'.answer = .word .ok w ∧
        (s'.cell k).word = if cValue w = bits v.toNat 32 31 then
          cWord (cGen w) (cTarget w) (cPending w) (bits v.toNat 0 31) else w) ∧
      (v = 0 → ∃ s', exec (.link r v) s = .next s' ∧ s'.answer = .word .ok w ∧ (s'.cell k).link = 0) ∧
      (∀ parent, v.toNat % 8 = 0 → s.decode v = .here (.cell parent) → s.ownsCell r parent = true →
        ∃ s', exec (.link r v) s = .next s' ∧ s'.answer = .word .ok w ∧ (s'.cell k).link = v) ∧
      (∃ s', exec (.readLink r) s = .next s' ∧ s'.answer = .word .ok (s.cell k).link ∧ s'.cell k = s.cell k)) ∧
    (∀ (node : BitVec 12),
      (nodeKind node = 0 ∧ (s.logical (nodeIndex node)).isSome ∨ nodeKind node = 2 ∧ nodeIndex node < 2) →
      ∃ s', exec (.release node v) s = .next s' ∧ s'.answer = .done)

/-- Enabling, training, keying, retrying and re-grouping a link, its margins, credits, link-state messages and frames run in
the link states that their rule names. -/
def Obligations.FabricLinkCommandsComplete : Prop :=
  ∀ (s : State) (v : Vent),
    ((s.vent v.val).st = .off → s.ventUsable v.val = true →
      ∃ s', exec (.linkEnable v) s = .next s' ∧ s'.answer = .done ∧ (s'.vent v.val).st = .train) ∧
    (∀ tx rx : Byte, (s.vent v.val).st = .train →
      ∃ s', exec (.trainComplete v tx rx) s = .next s' ∧ s'.answer = .done ∧ (s'.vent v.val).tx = tx ∧ (s'.vent v.val).rx = rx ∧
        (s'.vent v.val).st = (if 2 ≤ groupCount tx ∧ 2 ≤ groupCount rx then .keyx else .fault)) ∧
    (∀ k : KeyxIn, (s.vent v.val).st = .keyx → k.sigOk = true → k.ownerHash = s.sec.ownerKeys.headD 0 →
      k.coord = s.neighbourWord v.val → k.ventIdx = facing v.val →
      ∃ s', exec (.keyx v k) s = .next s' ∧ s'.answer = .done ∧ (s'.vent v.val).keyed = true ∧
        (s'.vent v.val).peer = coordWord k.coord) ∧
    ((s.vent v.val).st = .keyx → (s.vent v.val).keyed = true →
      ∃ s', exec (.keyxComplete v) s = .next s' ∧ s'.answer = .done ∧ (s'.vent v.val).st = .up) ∧
    ((s.vent v.val).st = .up → (s.vent v.val).rekeying = true → (s.vent v.val).keyed = true →
      ∃ s', exec (.keyxComplete v) s = .next s' ∧ s'.answer = .done ∧ (s'.vent v.val).rekeying = false ∧
        (s'.vent v.val).txPhase = !(s.vent v.val).txPhase) ∧
    ((s.vent v.val).st = .up → (s.vent v.val).rekeying = false →
      ∃ s', exec (.rekey v) s = .next s' ∧ s'.answer = .done ∧ (s'.vent v.val).rekeying = true ∧
        (s'.vent v.val).keyed = false) ∧
    ((s.vent v.val).st = .fault → s.ventUsable v.val = true →
      ∃ s', exec (.linkRetry v) s = .next s' ∧ s'.answer = .done ∧ (s'.vent v.val).st = .train ∧
        (s'.vent v.val).retries = (s.vent v.val).retries + 1 ∧ (s.vent v.val).retryAt ≤ s'.now) ∧
    (∀ (tx : Bool) (f : Fin 8), (s.vent v.val).st = .up ∨ (s.vent v.val).st = .keyx →
      ((s.vent v.val).groups tx).toNat.testBit f.val = true →
      ∃ s', exec (.laneGroupOut v tx f) s = .next s' ∧ s'.answer = .done) ∧
    (∀ (tx : Bool) (f : Fin 8) (good : Bool), (s.vent v.val).st = .up →
      ((s.vent v.val).groupOut.find? (fun g => g.1 == tx && g.2.1 == f.val)).isSome = true →
      ∃ s', exec (.groupRetrain v tx f good) s = .next s' ∧ s'.answer = .done) ∧
    (∀ lanes : List LaneIn, (s.vent v.val).st ≠ .off →
      ∃ s', exec (.marginRefresh v lanes) s = .next s' ∧ s'.answer = .done) ∧
    (∀ (cls : Fin 32) (units : Nat), (s.vent v.val).st = .up → cls.val < 22 →
      ∃ s', exec (.credit v cls units) s = .next s' ∧ s'.answer = .done ∧
        ((s.vent v.val).waiting = [] →
          (s'.vent v.val).credit cls.val = min (fullCredits cls.val) ((s.vent v.val).credit cls.val + units))) ∧
    (∀ (panel : W16) (dir : Fin 6) (up : Bool),
      ∃ s', exec (.linkstate panel dir up) s = .next s' ∧ s'.answer = .done ∧
        (up = true → (panel, BitVec.ofNat 8 dir.val) ∉ s'.fab.down) ∧
        (up = false → s.fab.down.length < 1024 → (panel, BitVec.ofNat 8 dir.val) ∈ s'.fab.down)) ∧
    (∀ f : LinkFrame, (s.vent v.val).st = .up →
      (f.fecOk = false → exec (.frameRx v f) s = .next (s.count .fabric v.val 0x08 1).ok) ∧
      (f.fecOk = true → (s.vent v.val).takeFrame s.now f = none →
        ∃ s', exec (.frameRx v f) s = .next s' ∧ s'.answer = .done) ∧
      (f.fecOk = true → ((s.vent v.val).takeFrame s.now f).isSome = true →
        isMessage f.body = true ∨ s.badSource f.srcPanel = true ∨ f.destPanel ≠ s.srcPanel →
        ∃ s', exec (.frameRx v f) s = .next s' ∧ s'.answer = .done) ∧
      (∀ r st w, f.fecOk = true → ((s.vent v.val).takeFrame s.now f).isSome = true → f.body = .syncResp r st w →
        s.badSource f.srcPanel = false → f.destPanel = s.srcPanel →
        ∃ s', exec (.frameRx v f) s = .next s' ∧ s'.answer = .word st w))

/-- The commands of a context's graph run in the switch states of R160 to R166 and leave the one that their rule names. -/
def Obligations.GraphSwitchCommandsComplete : Prop :=
  ∀ (s : State) (c : CtxId), s.st ≠ .selftest → s.st ≠ .quenched →
    ((s.ctx c).sw = .steady →
      ∃ s', exec (.switchDrain c) s = .next s' ∧ s'.answer = .fjoco .ok [] ∧ (s'.ctx c).sw = .arming ∧
        (s'.ctx c).kind = some .drain) ∧
    ((s.ctx c).sw = .steady ∨ (s.ctx c).sw = .halted →
      ∃ s', exec (.switchFlush c) s = .next s' ∧ s'.answer = .fjoco .ok [] ∧ (s'.ctx c).sw = .arming ∧
        (s'.ctx c).kind = some .flush) ∧
    ((s.ctx c).sw = .draining →
      ∃ s', exec (.switchFlush c) s = .next s' ∧ s'.answer = .fjoco .ok [] ∧ (s'.ctx c).sw = .flushing) ∧
    ((s.ctx c).sw = .steady ∨ (s.ctx c).sw = .halted → (s.ctx c).previous ≠ 0 →
      ∃ s', exec (.rollback c) s = .next s' ∧ s'.answer = .fjoco .ok [] ∧ (s'.ctx c).sw = .arming ∧
        (s'.ctx c).kind = some .rollback) ∧
    ((s.ctx c).sw = .arming → s.armRefusal c = none →
      ((s.ctx c).kind = some .drain →
        ((s.settleArm c).ctx c).sw = .draining ∧ ((s.settleArm c).ctx c).target = (s.ctx c).staged) ∧
      ((s.ctx c).kind = some .flush →
        ((s.settleArm c).ctx c).sw = .flushing ∧ ((s.settleArm c).ctx c).target = (s.ctx c).staged) ∧
      ((s.ctx c).kind = some .rollback →
        ((s.settleArm c).ctx c).sw = .flushing ∧ ((s.settleArm c).ctx c).target = (s.ctx c).previous)) ∧
    ((s.ctx c).sw = .steady →
      ∃ s', exec (.halt c) s = .next s' ∧ s'.answer = .fjoco .ok [] ∧ (s'.ctx c).sw = .halted) ∧
    ((s.ctx c).sw = .halted →
      ∃ s', exec (.resume c) s = .next s' ∧ s'.answer = .fjoco .ok [] ∧ (s'.ctx c).sw = .steady) ∧
    ((s.ctx c).sw = .steady ∨ (s.ctx c).sw = .halted →
      (let r := ((s.bcast c).stopUnits c).scanRegion c none; (r.1.scanCommit c r.2).2.torn) = false →
      ∃ s', exec (.suspend c) s = .next s' ∧ s'.answer = .fjoco .ok [] ∧ (s'.ctx c).sw = .suspended ∧
        (s'.ctx c).suspendImg.isSome = true) ∧
    (∀ (g : Scan) (t : State), (s.ctx c).sw = .suspended → (s.ctx c).suspendImg = some g → s.scanChecks c g = (t, none) →
      ∃ s', exec (.reinstate c) s = .next s' ∧ s'.answer = .fjoco .ok [] ∧ (s'.ctx c).sw = .halted ∧
        s'.spadMem = (t.scanIn c g).spadMem ∧ s'.commonsMem = (t.scanIn c g).commonsMem) ∧
    (∀ img : Image, (s.ctx c).key = .opened → (s.ctx c).sw = .none → s.imageRefusal c img = none →
      ∃ s', exec (.imageLoad c img) s = .next s' ∧ s'.answer = .fjoco .ok [] ∧ (s'.ctx c).image = some img) ∧
    (∀ i : Image, (s.ctx c).image = some i → s.st = .idle ∨ s.st = .run → (s.ctx c).sw = .none → (s.ctx c).key = .opened →
      ∃ s', exec (.graphStart c) s = .next s' ∧ s'.answer = .fjoco .ok [] ∧ (s'.ctx c).sw = .steady ∧
        (s'.ctx c).active = i.graph.version)

/-- A unit's configuration writes, switch events, broadcasts, watchdog and LIVE writes, the end of a switch and the
checkpoints of a context run when the unit or the context is as their rule asks. -/
def Obligations.UnitAndCheckpointCommandsComplete : Prop :=
  ∀ s : State,
    (∀ (d : LDie) (u : Fin 112),
      (∀ v g, ∃ s', exec (.cfg d u (.loadBuffer v g)) s = .next s' ∧ s'.answer = .done ∧
        (s'.unit (unitKey d u.val)).load = { version := v, cfg := some g }) ∧
      (∀ (r : Byte) (v : W64), ∃ s', exec (.cfg d u (.register r v)) s = .next s' ∧ s'.answer = .done ∧
        tget 0 (s'.unit (unitKey d u.val)).regs r.toNat = v) ∧
      (∀ c g, let s1 := s.afterArm d u.val
        s1.turning d u.val .draining = some (c, g) →
        let r := (s1.heads c d u.val g).1
        (r.turning d u.val .draining).isSome = true → drainReady (r.unit (unitKey d u.val)) g = true →
        r.passOpen d u.val = false → r.canEnd d u.val g = true →
        ∃ s', exec (.unitDrainSwitch d u) s = .next s' ∧ s'.answer = .done) ∧
      (∀ c g, let s1 := s.afterArm d u.val
        s1.turning d u.val .flushing = some (c, g) →
        ((s1.ctx c).kind = some .flush →
          ∃ s', exec (.unitFlush d u) s = .next s' ∧ s'.answer = .done) ∧
        ((s1.ctx c).kind = some .rollback →
          ∃ s', exec (.unitRollback d u) s = .next s' ∧ s'.answer = .done)) ∧
      (∀ c g a b t, let s1 := s.afterArm d u.val
        let x := s1.unit (unitKey d u.val)
        s1.live d u.val = some (c, g) → s1.joinWaits d u.val g = some (a, b) → x.joinSince = some t → s1.yields c = false →
        ∃ s', exec (.joinWatchdog d u) s = .next s' ∧ s'.answer = .done ∧
          t + (x.active.join.toNat * 1000 - x.joinCount) < s'.now ∧
          (s'.ctx c).sw = if (s1.ctx c).sw = .draining then .flushing else .halted) ∧
      (∀ c, let x := s.unit (unitKey d u.val)
        x.ctx = some c → x.joinPending.isSome = true ∨ x.prefetchPending.isSome = true →
        (s.ctx c).sw ≠ .draining → (s.ctx c).sw ≠ .flushing → (s.ctx c).sw ≠ .arming →
        ∃ s', exec (.liveWriteApply d u) s = .next s' ∧ s'.answer = .done ∧
          let y := s'.unit (unitKey d u.val)
          y.active.join = x.joinPending.getD x.active.join ∧
          y.active.prefetch = x.prefetchPending.getD x.active.prefetch ∧
          y.joinPending = none ∧ y.prefetchPending = none) ∧
      (∀ c b, (s.unit (unitKey d u.val)).ctx = some c →
        ∃ s', exec (.ctxBcast d u b) s = .next s' ∧ s'.answer = .done ∧
          (s'.unit (unitKey d u.val)).stopped = (b != .resume))) ∧
    (∀ c : CtxId,
      (let s1 := s.settleArm c;
        ((s1.ctx c).sw = .draining ∨ (s1.ctx c).sw = .flushing → s1.allSwitched c = true →
          ∃ s', exec (.switchComplete c) s = .next s' ∧ s'.answer = .done ∧
            ((s1.ctx c).ckptDue = none → (s'.ctx c).sw = .steady)) ∧
        ((s1.ctx c).sw = .draining →
          ∃ s', exec (.switchTimeout c) s = .next s' ∧ s'.answer = .done ∧ (s'.ctx c).sw = .flushing ∧
            (s1.ctx c).switchStart + s1.obj 0x2245 (c.val + 1) * 1000 < s'.now)) ∧
      (s.st = .run → (s.ctx c).runs = true → (s.ctx c).restore.any (fun r => !r.resumed) = false →
        (s.ctx c).ckptRun = none →
        ∃ s', exec (.checkpointDue c) s = .next s' ∧ s'.answer = .done ∧
          ((s'.ctx c).ckptRun.isSome = true ∨ (s'.ctx c).ckptDue.isSome = true)) ∧
      (∀ x, (s.ctx c).ckptRun = some x → s.st = .idle ∨ s.st = .run →
        ∃ s', exec (.checkpointComplete c) s = .next s' ∧ s'.answer = .done ∧ (s'.ctx c).ckptRun = none ∧
          (s'.ctx c).paused = false) ∧
      (∀ t, (s.ctx c).ckptDue = some t →
        ∃ s', exec (.checkpointSkip c) s = .next s' ∧ s'.answer = .done ∧ (s'.ctx c).ckptDue = some s'.now ∧
          t + s.ckptInterval ≤ s'.now))

/-- A unit fires when what its rule asks for is there: a WSTREAM without inputs at once, a SOURCE with its next token and
credits, an INGRESS port with a token of its epoch, and any other unit with a token at every input and what its output
needs. -/
def Obligations.UnitFiringCompletes : Prop :=
  ∀ (s : State) (d : LDie) (u : Fin 112) (c : CtxId) (g : UnitCfg),
    let s1 := s.behindChunk d u.val
    s1.live d u.val = some (c, g) →
    (g.op = .wstream → g.inputs = [] →
      ∃ s', exec (.unitFiring d u) s = .next s' ∧ s'.answer = .done) ∧
    (∀ addr bytes frame t f b, g.op = .source addr bytes frame false → s1.canEmitAll g = true →
      s1.sourceNext c d u.val g addr bytes = (t, some (f, b)) →
      ∃ s', exec (.unitFiring d u) s = .next s' ∧ s'.answer = .done) ∧
    (∀ lq s3 t, g.op = .ingress lq →
      (s1.logArrivals c d u.val lq.val (s1.logOf (unitKey d u.val)).waiting.length).logNext c d u.val = (s3, some t) →
      t.endMark = true ∨ s3.canEmitAll g = true →
      tokenFate c (unitRole u.val g) (s3.unit (unitKey d u.val)) { t with ctx := BitVec.ofNat 5 c.val } = .accept →
      ∃ s', exec (.unitFiring d u) s = .next s' ∧ s'.answer = .done) ∧
    (let r := s1.heads c d u.val g
      let need := r.2.filter (fun p => !p.1.backEdge)
      let s2 := r.1.modUnit (unitKey d u.val) (fun x => x.joinHold s1.now)
      let fires : Prop := ∃ s', exec (.unitFiring d u) s = .next s' ∧ s'.answer = .done
      (r.1.live d u.val).isSome = true → need ≠ [] → (∀ p ∈ need, p.2.isSome = true) →
      ((match g.op with | .lane _ _ _ | .array _ | .engine _ _ _ _ _ => true | _ => false) = true → s2.canEmitAll g = true →
        fires) ∧
      (∀ dst mode, g.op = .mover dst mode → g.inputs ≠ [] → g.outputs ≠ [] → s2.canEmitAll g = true → fires) ∧
      (∀ addr t, g.op = .sink addr → (r.2.filterMap (·.2)).head? = some t →
        (s2.sinkWrite c d u.val g addr t).2 = true → fires) ∧
      (∀ lq dest n, g.op = .egress lq dest n → s2.egressOpen (unitKey d u.val) = true → fires))

/-- Thermal stages, sensors, trips, coolant samples, forecasts and SIMMER act when the reading, the stage or the time is as
their rule asks. -/
def Obligations.ThermalCommandsComplete : Prop :=
  ∀ s : State,
    (∀ (x : Spot) (a b : Int), s.st ≠ .off → enters ((s.readSpot x a b).spot (spotKey x)) (stageEnter x) ≠ [] →
      ∃ s', exec (.thermalStageEnter x a b) s = .next s' ∧ s'.answer = .done) ∧
    (∀ d : Die, (s.hotAt d.val 1).any (fun k => (s.spot k).atLeast (if k < 3276 then 95 else 90)) = true →
      tget 0 s.thm.lowered d.val ≠ 0 →
      ∃ s', exec (.thermalStageLower d) s = .next s' ∧ s'.answer = .done ∧
        (s'.dieClk d.val).thermalCeil = max 8 ((s.dieClk d.val).thermalCeil - 1) ∧
        tget 0 s.thm.lowered d.val - 1 + 5000000 ≤ s'.now) ∧
    (∀ (k : Stk) (a b : Int) (ms : Nat), 1000 ≤ ms →
      let t := s.readSpot (.stack k) a b
      let y := t.spot (spotKey (.stack k))
      (y.exA && y.exB) = false → keeps y (stageLeave (.stack k)) true < y.stage →
      ∃ s', exec (.thermalStageExit (.stack k) a b ms) s = .next s' ∧ s'.answer = .done ∧
        (s'.spot (spotKey (.stack k))).stage = keeps y (stageLeave (.stack k)) true) ∧
    (∀ (x : Spot) (a b : Int) (ms : Nat), (∀ k, x ≠ .stack k) → 100 ≤ ms →
      let t := s.readSpot x a b
      let y := t.spot (spotKey x)
      (y.exA && y.exB) = false → keeps y (stageLeave x) true < y.stage →
      ∃ s', exec (.thermalStageExit x a b ms) s = .next s' ∧ s'.answer = .done) ∧
    (∀ d : Die, s.hotAt d.val 1 = [] → (s.dieClk d.val).thermalCeil < 30 →
      ∃ s', exec (.thermalCeilingRaise d) s = .next s' ∧ s'.answer = .done ∧
        (s'.dieClk d.val).thermalCeil = (s.dieClk d.val).thermalCeil + 1) ∧
    (∀ (x : Spot) (a b : Int) (ms : Nat),
      let y := s.spot (spotKey x)
      (y.hotter = false → y.exA = false → y.exB = false → 500 < (a - b).natAbs → 10 < ms →
        ∃ s', exec (.sensorDisagreement x a b ms) s = .next s' ∧ s'.answer = .done ∧
          (s'.spot (spotKey x)).hotter = true) ∧
      (y.hotter = true → (a - b).natAbs ≤ 500 → 1000 ≤ ms →
        ∃ s', exec (.sensorsAgree x a b ms) s = .next s' ∧ s'.answer = .done ∧
          (s'.spot (spotKey x)).hotter = false)) ∧
    (∀ (x : Spot) (which : Fin 2) (reading : Int),
      (if which = 0 then (s.spot (spotKey x)).exA else (s.spot (spotKey x)).exB) = false →
      reading < -2000 ∨ 15000 < reading →
      ∃ s', exec (.sensorExclusion x which reading) s = .next s' ∧ s'.answer = .done) ∧
    (∀ (x : Spot) (which : Fin 2) (r1 r2 r3 : Int), s.st ≠ .off → (s.spot (spotKey x)).tripped = false →
      (if which = 0 then (s.spot (spotKey x)).exA else (s.spot (spotKey x)).exB) = false →
      tripLimit x ≤ r1 → tripLimit x ≤ r2 → tripLimit x ≤ r3 →
      ∃ s', exec (.thermalTrip x which r1 r2 r3) s = .next s' ∧ s'.answer = .done ∧ s'.thm.lastTrip.isSome = true) ∧
    (∀ (which : Fin 3) (v : W32),
      let r := coolantRange which.val
      ((fle r.1 v && fle v r.2) = false →
        ∃ s', exec (.coolantSample which v) s = .next s' ∧ s'.answer = .fjoco .ok [] ∧
          s'.thm.rejected = min (s.thm.rejected + 1) 0xFFFFFFFF ∧ s'.thm.samples = s.thm.samples) ∧
      ((fle r.1 v && fle v r.2) = true →
        ∃ s', exec (.coolantSample which v) s = .next s' ∧ s'.answer = .fjoco .ok [] ∧
          (tget [] s'.thm.samples which.val).head? = some v ∧ tget 0 s'.thm.accepted which.val = s.now)) ∧
    (∀ which : Fin 3, s.thm.timeout.getLsbD which.val = false →
      ∃ s', exec (.coolantTimeout which) s = .next s' ∧ s'.answer = .done ∧ s'.thm.timeout.getLsbD which.val = true ∧
        tget 0 s.thm.accepted which.val + 500000000 ≤ s'.now) ∧
    (∀ ms, 10000 ≤ ms → s.thm.timeout.getLsbD 1 = false → ratF32 (s.coolant 1) < ratF32 (s.coolant 0) - 1 →
      ∃ s', exec (.outletBelowInlet ms) s = .next s' ∧ s'.answer = .done) ∧
    (∀ ms, 1000 ≤ ms → flt (s.coolant 2) 0x41A00000 = true → s.st ≠ .off →
      ∃ s', exec (.lowFlow ms) s = .next s' ∧ s'.answer = .done) ∧
    (∀ (hottest : Int) (w : Nat), 10000 ≤ w → s.thm.timeout = 0 →
      ∃ s', exec (.thetaUpdate hottest w) s = .next s' ∧ s'.answer = .done) ∧
    (∀ p : List W32, p.length = 8 → (∀ w ∈ p, w.toNat ≤ 66000) →
      ∃ s', exec (.powerForecast p) s = .next s' ∧ s'.answer = .fjoco .ok [] ∧ s'.thm.forecast = p ∧
        s'.thm.forecastAt = s.now) ∧
    (s.thm.forecast ≠ [] →
      (∀ (i : Fin 8) (w : Nat), s.now < s.thm.forecastAt + i.val * 250000000 + 250000000 →
        ∃ s', exec (.forecastInterval i w) s = .next s' ∧ s'.answer = .done ∧
          s'.thm.boostP = if w < (s.thm.forecast.getD i.val 0).toNat then
            some ((s.thm.forecast.getD i.val 0).toNat, s.thm.forecastAt + i.val * 250000000 + 250000000) else none) ∧
      ∃ s', exec .forecastExpiry s = .next s' ∧ s'.answer = .done ∧ s'.thm.forecast = [] ∧ s'.thm.boostP = none) ∧
    (∀ (temps : List (Die × Int)) (ms : Nat), s.obj 0x3220 0x02 = 1 → s.st = .idle ∨ s.st = .run →
      ∃ s', exec (.simmerCheck temps ms) s = .next s' ∧ s'.answer = .done)

/-- Input, busbar, converters, switch-on, fuses, phases, shunts, the power tick, the current log, the minimum voltages and
the path resistances act when the measurement and the supply are as their rule asks. -/
def Obligations.PowerCommandsComplete : Prop :=
  ∀ s : State,
    (s.st ≠ .off →
      (∀ mv us, mv < 44000 ∧ 1000 ≤ us ∨ 60000 < mv ∧ 100 ≤ us →
        ∃ s', exec (.inputFault mv us) s = .next s' ∧ s'.answer = .done ∧ s'.st = .off ∧ s'.pwr.busOn = false ∧
          s'.pins.pgood = false) ∧
      (∀ mv, 44000 ≤ mv ∧ mv < 48000 ∨ 58000 < mv ∧ mv ≤ 60000 →
        ∃ s', exec (.inputMarginal mv) s = .next s' ∧ s'.answer = .done ∧ s'.pwr.inputMv = mv ∧ s'.st = s.st) ∧
      (∀ da us, s.currentLimit < da → 100 ≤ us →
        ∃ s', exec (.inputOvercurrent da us) s = .next s' ∧ s'.answer = .done ∧
          ∀ d ∈ s.inService, (s'.dieClk d).powerCeil = 8) ∧
      (∀ da us, 13500 < da → 10 ≤ us →
        ∃ s', exec (.inputFoldback da us) s = .next s' ∧ s'.answer = .done)) ∧
    (∀ p0 p1 ms, 2000 ≤ p0 + p1 → p0 = 0 ∨ p1 = 0 ∨ 60 * (p0 + p1) < 100 * max p0 p1 ∧ 1000 ≤ ms →
      ∃ s', exec (.busbarImbalance p0 p1 ms) s = .next s' ∧ s'.answer = .done ∧ s'.pwr.pair0 = p0 ∧ s'.pwr.pair1 = p1) ∧
    (s.pwr.busOn = true →
      (∀ (g : Fin 14) (m : Fin 2), s.pwr.convFailed.toNat.testBit (2 * g.val + m.val) = false →
        ∃ s', exec (.converterFailure g m) s = .next s' ∧ s'.answer = .done) ∧
      (∀ (d : Die) (p : Fin 14), s.dieFenced d.val = false → (s.phases d.val).toNat.testBit p.val = false →
        ∃ s', exec (.phaseFailure d p) s = .next s' ∧ s'.answer = .done) ∧
      (∀ p : PowerIn, ∃ s', exec (.powerTick p) s = .next s' ∧ s'.answer = .done)) ∧
    (∀ groups w, s.pwr.waiting.any (fun w => !w.retry) = true →
      ∃ s', exec (.switchOnSlot groups w) s = .next s' ∧ s'.answer = .done) ∧
    (∀ dom : Domain,
      (s.pwr.waiting.any (fun w => w.dom == dom && !w.retry) = true →
        ∃ s', exec (.switchOnAbandon dom) s = .next s' ∧ s'.answer = .done) ∧
      (s.pwr.waiting.any (fun w => w.dom == dom && w.retry) = true →
        (isHost dom || s.st == .idle || s.st == .run) = true →
        ∃ s', exec (.switchOnRetry dom) s = .next s' ∧ s'.answer = .done ∧
          s'.pwr.waiting.any (fun w => w.dom == dom && w.retry) = false)) ∧
    (∀ (k : Stk) amps ns, s.domOn (fuseKey (.stack k)) = true → 20 < amps ∧ 1000 ≤ ns ∨ 40 < amps ∧ 200 ≤ ns →
      ∃ s', exec (.efuseOpen (.stack k) amps ns) s = .next s' ∧ s'.answer = .done) ∧
    (∀ (v : Vent) amps ns, s.domOn (fuseKey (.vent v)) = true → 25 < amps ∧ 1000 ≤ ns ∨ 50 < amps ∧ 200 ≤ ns →
      ∃ s', exec (.efuseOpen (.vent v) amps ns) s = .next s' ∧ s'.answer = .done) ∧
    (∀ (d : Die), s.domOn (312 + d.val) = true →
      (∀ mv, 25 ≤ mv →
        exec (.shunt d mv) s = .next (s.count .power d.val 0x00 1).ok ∧
        (tget 0 s.pwr.boostUntil d.val ≤ s.now →
          ∃ s', exec (.boost d mv) s = .next s' ∧ s'.answer = .done ∧
            tget 0 s'.pwr.boostUntil d.val = s.now + 20000) ∧
        (s.now < tget 0 s.pwr.boostUntil d.val → 25 < mv →
          exec (.boost d mv) s = .next (s.count .power d.val 0x08 1).ok)) ∧
      (∀ samples : List Nat, 16 ≤ samples.length →
        ∃ s', exec (.resistanceUpdate d samples) s = .next s' ∧ s'.answer = .done)) ∧
    (∀ da groups,
      s.st = .boot ∨ s.st = .selftest ∨ s.st = .safe ∨ s.st = .updating ∨ s.now < s.pwr.rowsUntil ∨ s.obj 0x3301 0x01 = 1 →
      ∃ s' row, exec (.currentLogRow da groups) s = .next s' ∧ s'.answer = .done ∧
        s'.pwr.rows = (row :: s.pwr.rows).take 131072) ∧
    (∀ v, ∃ s', exec (.minVoltageClear v) s = .next s' ∧ s'.answer = .fjoco .ok [] ∧ (v = true → s'.pwr.minMv = []) ∧
      (v = false → s'.pwr = s.pwr))

/-- The host links, the data port, the mailbox and the movers run when the site, its link and what waits there are as their
rule asks. -/
def Obligations.HostCommandsComplete : Prop :=
  ∀ (s : State) (h : Hub),
    (∀ modules, s.siteOn h.val = true → (s.site h.val).link = 0 → s.st ≠ .off →
      ∃ s', exec (.hostLinkTrain h modules) s = .next s' ∧ s'.answer = .done ∧
        (s'.site h.val).link = if modules = 0 then 3 else 2) ∧
    (∀ modules, (s.site h.val).link = 1 ∨ (s.site h.val).link = 2 →
      ((s.site h.val).retrains.filter (fun t => decide (s.now < t + 1000000000))).length < 3 →
      ∃ s', exec (.hostLinkError h modules) s = .next s' ∧ s'.answer = .done) ∧
    (∀ modules, (s.site h.val).link = 3 →
      ∃ s', exec (.hostLinkRetry h modules) s = .next s' ∧ s'.answer = .done ∧
        (s'.site h.val).link = (if modules = 0 then 3 else 2) ∧ (s.site h.val).downAt + 10000000000 ≤ s'.now) ∧
    (s.siteOn h.val = true → (s.site h.val).link ≠ 4 →
      ∃ s', exec (.hostThermtrip h) s = .next s' ∧ s'.answer = .done ∧ s'.siteOn h.val = false) ∧
    (s.hostLive h.val = true → (s.site h.val).reqs = [] →
      (∀ (len : W16) (addr : W64) (data : Bytes), len.toNat ≤ 4096 → data.length = len.toNat →
        let q : HostReq := { write := true, tag := 0, addr := addr, len := data.length, data := data }
        ∀ t r, (s.ok.modSite h.val (fun x => { x with reqs := x.reqs ++ [q] })).hostServe h.val q = (t, r, some (.ok, 0)) →
          r.write = true → ∃ s', exec (.hWrite h 1 len addr data) s = .next s' ∧ s'.answer = .status .ok) ∧
      (∀ (tag : Byte) (len : W16) (addr : W64), len.toNat ≤ 4096 →
        let q : HostReq := { write := false, tag := tag, addr := addr, len := len.toNat, data := [] }
        ∀ t r, (s.ok.modSite h.val (fun x => { x with reqs := x.reqs ++ [q] })).hostServe h.val q = (t, r, some (.ok, 0)) →
          r.write = false → ∃ s', exec (.hRead h 2 tag len addr) s = .next s' ∧ s'.answer = .data .ok r.got) ∧
      (∀ tag : Byte, ∃ s', exec (.dpStatusRead h tag) s = .next s' ∧
        s'.answer = .data .ok (toLe 4 (s.site h.val).stat.toNat))) ∧
    (s.st ≠ .off → s.st ≠ .quenched → (s.site h.val).reqs = [] →
      (∀ v : W32, ctrlOk v = true →
        ∃ s', exec (.dpCtrl h v) s = .next s' ∧ s'.answer = .status .ok ∧ (s'.site h.val).ctrl = v) ∧
      (∀ v : W32, ∃ s', exec (.dpStatus h v) s = .next s' ∧ s'.answer = .status .ok ∧
        (s'.site h.val).stat = if v.getLsbD 4 then 0 else (s.site h.val).stat) ∧
      (∀ (m : Fin 8) (v : W32), ∃ s', exec (.moverTail h m v) s = .next s' ∧ s'.answer = .status .ok ∧
        ((s'.site h.val).mover m.val).tail =
          if 256 < (v - ((s.site h.val).mover m.val).done).toNat then ((s.site h.val).mover m.val).tail else v) ∧
      (∀ m : Fin 8, ∃ s', exec (.moverResume h m) s = .next s' ∧ s'.answer = .status .ok ∧
        ((s'.site h.val).mover m.val).status = 0) ∧
      (∀ m : Fin 8, ∃ s', exec (.moverAbort h m) s = .next s' ∧ s'.answer = .status .ok ∧
        ((s'.site h.val).mover m.val).cur = none ∧
        ((s'.site h.val).mover m.val).head = ((s'.site h.val).mover m.val).tail ∧
        ((s'.site h.val).mover m.val).done = ((s'.site h.val).mover m.val).tail)) ∧
    (s.sideband h.val = true →
      (∀ len : W32, s.inBusy h.val = false → 32 ≤ len.toNat → len.toNat ≤ 4096 →
        ∃ s', exec (.mbInLen h len) s = .next s' ∧ s'.answer = .done ∧ (s'.site h.val).inLen = len ∧
          (s'.site h.val).busy = true) ∧
      ((s.site h.val).full = true → (s.site h.val).queue = [] →
        ∃ s', exec (.mbAckConsumed h) s = .next s' ∧ s'.answer = .done ∧ (s'.site h.val).full = false) ∧
      (∃ s', exec (.mbAckClearOverrun h) s = .next s' ∧ s'.answer = .done ∧ (s'.site h.val).overrun = false) ∧
      (∀ v : W32, ∃ s', exec (.dbStatusClear h v) s = .next s' ∧ s'.answer = .done ∧
        (s'.site h.val).dbStatus = (s.site h.val).dbStatus &&& ~~~v &&& 0xF)) ∧
    (∀ m : Fin 8,
      (s.hostLive h.val = true → ((s.site h.val).mover m.val).ready = true →
        (s.site h.val).moverWaits m.val = false →
        ∃ s', exec (.moverPiece h m) s = .next s' ∧ s'.answer = .done) ∧
      (∀ d n status data, ((s.site h.val).mover m.val).cur = some d → ((s.site h.val).mover m.val).inFlight = some n →
        status ≠ .ok ∨ 0 < data.length ∧ data.length ≤ n →
        ∃ s', exec (.pCpl h m status data) s = .next s' ∧ s'.answer = .done) ∧
      (∀ d, ((s.site h.val).mover m.val).cur = some d → s.st ≠ .quenched →
        ((s.site h.val).mover m.val).failed ≠ none ∨
          ((s.site h.val).mover m.val).inFlight = none ∧ d.length.toNat ≤ ((s.site h.val).mover m.val).moved →
        ∃ s', exec (.descriptorComplete h m) s = .next s' ∧ s'.answer = .done ∧
          ((s'.site h.val).mover m.val).done = ((s.site h.val).mover m.val).done + 1 ∧
          ((s'.site h.val).mover m.val).cur = none))

/-- HELLO, FINISH, HANDSHAKE_TIMEOUT, SESSION_CLOSE and SESSION_IDLE: a well-formed HELLO starts a handshake, a FINISH whose
proof earns a level opens the session at that level, and a session or handshake that closes or times out is gone. -/
def Obligations.ManagementCommandsComplete : Prop :=
  ∀ s : State,
    (∀ (h : FHead) (hid : W16) (body : HelloBody), s.pwr.standby = true → h.version = 1 → h.kind = 0 →
      h.sizeOk = true → hid ≠ 0 → h.session = hid → h.sequence = 0 → h.tagOk = true → s.mgmt.shakes.length < 8 → s.openSessions.length < 16 →
      ∃ s' n k, exec (.hello h hid body) s = .next s' ∧ s'.answer = .done ∧
        s'.mgmt.shakes = s.mgmt.shakes ++ [{ session := n, channel := h.channel.val, nonce := body.nonce, begun := s.now, keys := k }]) ∧
    (∀ (h : FHead) (level : Byte) (proof : Proof) (l : Level) (g : W32) (k : W64), s.pwr.standby = true → h.version = 1 →
      h.kind = 2 → h.sizeOk = true →
      s.mgmt.shakes.any (fun k => k.session == h.session.toNat && k.channel == h.channel.val && decide (s.now < k.begun + 2000000000)) = true →
      h.tagOk = true → h.sequence ≠ 0 → s.granted level proof = some (l, g, k) → s.openSessions.length < 16 →
      ∃ s' x, exec (.finish h level proof) s = .next s' ∧ s'.answer = .done ∧ s'.session h.session.toNat = some x ∧
        x.level = l ∧ x.generation = g ∧ x.keyId = k ∧ x.channel = h.channel.val ∧ x.rxSeq = h.sequence) ∧
    (∀ session : W16, s.mgmt.shakes.any (fun k => k.session == session.toNat) = true →
      ∃ s', exec (.handshakeTimeout session) s = .next s' ∧ s'.answer = .done ∧
        s'.mgmt.shakes = s.mgmt.shakes.filter (fun k => k.session != session.toNat)) ∧
    (∀ (h : FHead) (x : Session), s.pwr.standby = true → h.version = 1 → h.kind = 0xD → h.sizeOk = true →
      s.session h.session.toNat = some x → x.channel = h.channel.val → h.tagOk = true → s.sessionRevoked x = false →
      x.rxSeq < h.sequence →
      ∃ s', exec (.sessionClose h) s = .next s' ∧ s'.answer = .done ∧ s'.session h.session.toNat = none) ∧
    (∀ (session : W16) (x : Session), s.session session.toNat = some x →
      ∃ s', exec (.sessionIdle session) s = .next s' ∧ s'.answer = .done ∧ s'.session session.toNat = none ∧
        x.lastFrame + s.obj 0x1100 0x07 * 1000000000 ≤ s'.now)

/-- FJOCO_READ, FJOCO_WRITE, SEG_READ, SEG_WRITE, SEG_ABORT and SEG_TIMEOUT: a request that a session's frame carries intact
and in order, on an object that admits it, is answered OK, a read with the value or its segment. -/
def Obligations.ObjectRequestsComplete : Prop :=
  ∀ (s : State) (h : FHead) (x : Session) (index : W16) (sub : Byte),
    s.pwr.standby = true → h.version = 1 → h.sizeOk = true → s.session h.session.toNat = some x →
    x.channel = h.channel.val → h.tagOk = true → s.sessionRevoked x = false → x.rxSeq < h.sequence →
    let n := h.session.toNat
    let i := index.toNat
    let j := sub.toNat
    let t := ((s.frameHere h.channel.val).setSession n (some { x with rxSeq := h.sequence, lastFrame := s.now })).count .mgmt
      h.channel.val 0x00 1
    let by_ : Caller := ⟨n, x.level⟩
    let answers (c : Instr) (b : Bytes) : Prop := ∃ s', exec c s = .next s' ∧ s'.answer = .fjoco .ok b
    let counters : Prop := 0x8000 ≤ i ∧ i < 0x9000
    (h.kind = 4 → t.objRefusal by_ i j false [] = none →
      (objType i j ≠ 12 → answers (.fjocoRead h index sub) (t.objValue n x.level i j)) ∧
      (objType i j = 12 → counters →
        answers (.fjocoRead h index sub)
          (toLe 4 (ctrBytes i) ++ (t.ctrRead i 0 (dataCap x.channel)).take (dataCap x.channel))) ∧
      (objType i j = 12 → ¬counters → i ≠ 0xA001 →
        sourced i = true ∨ t.snapshots n + (t.objValue n x.level i j).length ≤ 67108864 →
        answers (.fjocoRead h index sub) (toLe 4 (t.objValue n x.level i j).length ++
          (t.objValue n x.level i j).take (dataCap x.channel))) ∧
      (∀ r b, i = 0xA001 → t.readSlot (j - 1) = (r, .ok, b) →
        answers (.fjocoRead h index sub) (toLe 4 b.length ++ b.take (dataCap x.channel)))) ∧
    (∀ v : Bytes, h.kind = 5 → t.objRefusal by_ i j true v = none →
      (typeBytes (objType i j) = some v.length → t.valueOk i j (leNat v) = true →
        ((t.putValue by_ i j (leNat v)).answer = .fjoco .ok [] → answers (.fjocoWrite h index sub v) []) ∧
        (i = 0x2242 → ∃ s', exec (.fjocoWrite h index sub v) s = .next s' ∧ s'.answer = .fjoco .ok [] ∧
          s'.obj i j = leNat v)) ∧
      (objType i j = 12 → 4 ≤ v.length → field v 0 4 ≤ domainMax i → (v.drop 4).length < field v 0 4 →
        answers (.fjocoWrite h index sub v) []) ∧
      (objType i j = 12 → 4 ≤ v.length → field v 0 4 ≤ domainMax i → (v.drop 4).length = field v 0 4 →
        (t.writeObj by_ i j (v.drop 4)).answer = .fjoco .ok [] → answers (.fjocoWrite h index sub v) [])) ∧
    (∀ y : Xfer, x.xfer = some y → y.index = index → y.sub = sub → y.expired = false → t.now ≤ y.last + t.segLimit →
      (∀ off : W32, h.kind = 6 → y.write = false → t.objRefusal by_ i j false [] = none → off.toNat < y.total →
        (i = 0xA001 → t.slotHeader (j - 1) = some (y.data.take 64)) →
        (counters → answers (.segRead h index sub off) (toLe 4 off.toNat ++ t.ctrRead i off.toNat (dataCap x.channel))) ∧
        (¬counters → answers (.segRead h index sub off) (toLe 4 off.toNat ++ cut y.data off.toNat (dataCap x.channel)))) ∧
      (∀ (off : W32) (d : Bytes), h.kind = 7 → y.write = true → t.objRefusal by_ i j true [] = none →
        off.toNat = y.data.length →
        (y.data.length + d.length < y.total → answers (.segWrite h index sub off d) []) ∧
        (y.data.length + d.length = y.total →
          ((t.setXfer n none).writeObj by_ i j (y.data ++ d)).answer = .fjoco .ok [] →
          answers (.segWrite h index sub off d) []))) ∧
    (∀ r : ObjRow, h.kind = 8 → objRow i j = some r → r.lev ≤ levelCode x.level →
      (∀ y, x.xfer = some y → y.index = index ∧ y.sub = sub) → answers (.segAbort h index sub) []) ∧
    (∀ y, x.xfer = some y → y.expired = false →
      ∃ s', exec (.segTimeout h.session) s = .next s' ∧ s'.answer = .done ∧ y.last + s.segLimit ≤ s'.now ∧
        (s'.session n).bind (·.xfer) = some { y with expired := true, data := [] })

/-- PDO_RX, PDO_TX, TPDO_RATE, TPDO_MAP, RPDO_MAP and EVENT_MASK: the values of a bound PDO_RX of its map's length are
written, a bound TPDO is sent, and a rate, a map or a mask that its object admits is set. -/
def Obligations.ProcessDataCommandsComplete : Prop :=
  ∀ (s : State) (session : W16) (x : Session), s.session session.toNat = some x →
    let by_ : Caller := ⟨session.toNat, x.level⟩
    (∀ (h : FHead) (n : Fin 4) (data : Bytes), s.pwr.standby = true → h.version = 1 → h.kind = 0xB → h.sizeOk = true →
      h.session = session → x.channel = h.channel.val → h.tagOk = true → s.sessionRevoked x = false →
      x.rxSeq < h.sequence →
      let p := tget {} s.mgmt.rpdo n.val
      p.owner = session → session ≠ 0 → data.length = mapBytes p.map → p.last = 0 ∨ p.last + 1000000 ≤ s.now + 1 →
      let t := ((s.frameHere h.channel.val).setSession session.toNat
        (some { x with rxSeq := h.sequence, lastFrame := s.now })).count .mgmt h.channel.val 0x00 1
      exec (.pdoRx h n data) s = .next (((t.modRpdo n.val (fun p => { p with last := s.now + 1 })).count .mgmt h.channel.val
        0x2C 1).applyPdo by_ h.channel.val data p.map).ok) ∧
    (∀ n : Fin 8, (tget {} s.mgmt.tpdo n.val).owner = session → (tget {} s.mgmt.tpdo n.val).rate ≠ 0 →
      ∃ s', exec (.pdoTx n) s = .next s' ∧ s'.answer = .done) ∧
    (∀ (n : Fin 8) (rate : W16), s.objRefusal by_ 0x1201 (n.val + 1) true (toLe 2 rate.toNat) = none →
      (rate = 0 →
        ∃ s', exec (.tpdoRate session n rate) s = .next s' ∧ s'.answer = .fjoco .ok [] ∧
          (tget {} s'.mgmt.tpdo n.val).rate = 0) ∧
      (rate ≠ 0 → rate.toNat ≤ 1000 → session ≠ 0 →
        (tget {} s.mgmt.tpdo n.val).map.all (entryFits x.level false) = true →
        (x.channel < 2 →
          s.pdoLoad x.channel n.val + rate.toNat * (40 + mapBytes (tget {} s.mgmt.tpdo n.val).map) ≤ 250000) →
        ∃ s', exec (.tpdoRate session n rate) s = .next s' ∧ s'.answer = .fjoco .ok [] ∧
          (tget {} s'.mgmt.tpdo n.val).rate = rate ∧ (tget {} s'.mgmt.tpdo n.val).owner = session)) ∧
    (∀ (n : Fin 8) (m : List MapEntry), s.objRefusal by_ 0x1200 (n.val + 1) true (mapBlob m) = none →
      (tget {} s.mgmt.tpdo n.val).rate = 0 → mapFits x.level false m = true →
      ∃ s', exec (.tpdoMap session n m) s = .next s' ∧ s'.answer = .fjoco .ok [] ∧
        (tget {} s'.mgmt.tpdo n.val).map = m) ∧
    (∀ (n : Fin 4) (m : List MapEntry), s.objRefusal by_ 0x1210 (n.val + 1) true (mapBlob m) = none →
      (m = [] →
        ∃ s', exec (.rpdoMap session n m) s = .next s' ∧ s'.answer = .fjoco .ok [] ∧
          (tget {} s'.mgmt.rpdo n.val).map = [] ∧ (tget {} s'.mgmt.rpdo n.val).owner = 0) ∧
      ((tget {} s.mgmt.rpdo n.val).owner = 0 → mapFits x.level true m = true → session ≠ 0 →
        ∃ s', exec (.rpdoMap session n m) s = .next s' ∧ s'.answer = .fjoco .ok [] ∧
          (tget {} s'.mgmt.rpdo n.val).map = m ∧ (tget {} s'.mgmt.rpdo n.val).owner = session)) ∧
    (∀ mask : W16, s.objRefusal by_ 0x1101 3 true (toLe 2 mask.toNat) = none →
      ∃ s', exec (.eventMask session mask) s = .next s' ∧ s'.answer = .fjoco .ok [] ∧
        (s'.session session.toNat).map (·.mask) = some (mask &&& 0x3FE))

/-- FIELD_LINK_LOSS, FIELD_LINK_RETURN, NEIGHBOR_DISCOVERY and REGISTER_WRITE: a link or beacon that changes is noted, a
solicitation of the port's own address is answered, and a write of an object, a mailbox, hub or ring register that its
rule admits is done. -/
def Obligations.PortAndRegisterCommandsComplete : Prop :=
  ∀ s : State,
    (∀ (port : Fin 2) (link : Bool),
      ((link = true ∧ s.mgmt.ports.getLsbD port.val = true) ∨
          (link = false ∧ s.mgmt.ports.getLsbD (port.val + 2) = true ∧ s.plcaUsed port.val = true) →
        ∃ s', exec (.fieldLinkLoss port link) s = .next s' ∧ s'.answer = .done ∧
          s'.mgmt.ports.getLsbD (if link then port.val else port.val + 2) = false) ∧
      ((link = true ∧ s.mgmt.ports.getLsbD port.val = false) ∨
          (link = false ∧ s.mgmt.ports.getLsbD port.val = true ∧ s.mgmt.ports.getLsbD (port.val + 2) = false ∧
            s.plcaUsed port.val = true) →
        ∃ s', exec (.fieldLinkReturn port link) s = .next s' ∧ s'.answer = .done ∧
          s'.mgmt.ports.getLsbD (if link then port.val else port.val + 2) = true)) ∧
    (∀ (port : Fin 2) (iid : W64), s.pwr.standby = true →
      iid = eui64 (if port = 0 then s.anat.macA else s.anat.macB) →
      ∃ s', exec (.neighborDiscovery port true iid) s = .next s' ∧ s'.answer = .done ∧
        s'.sent = .advert port.val iid :: s.sent) ∧
    (∀ (level : Level) (sub : Byte) (value : Bytes), s.objRefusal ⟨0, level⟩ 0x2242 sub.toNat true value = none →
      value.length = 1 → leNat value ≤ 1 →
      ∃ s', exec (.registerWrite (.object level 0x2242 sub) value) s = .next s' ∧ s'.answer = .fjoco .ok [] ∧
        s'.obj 0x2242 sub.toNat = leNat value) ∧
    (∀ (h : Hub) (off : Nat) (value : Bytes), s.sideband h.val = true → value.length = 4 → off % 4 = 0 →
      exec (.registerWrite (.mailbox h off) value) s = .next (s.mailboxWrite h.val off (BitVec.ofNat 32 (leNat value))).ok) ∧
    (∀ (h : Hub) (v : Bytes), s.st ≠ .off → s.st ≠ .quenched → (s.site h.val).reqs = [] → v.length = 4 →
      ctrlOk (BitVec.ofNat 32 (leNat v)) = true →
      ∃ s', exec (.registerWrite (.hub h 0x10008) v) s = .next s' ∧ s'.answer = .status .ok ∧
        (s'.site h.val).ctrl = BitVec.ofNat 32 (leNat v)) ∧
    (∀ (c : CtxId) (d : LDie) (e : EngId) (q : RingId) (b : Byte), (s.phys d).isSome = true →
      (s.ring (ringKey d e q)).ctx = some c →
      ∃ s', exec (.registerWrite (.engine c d (e.val * 0x1000 + q.val * 0x100 + 0x0A)) [b]) s = .next s' ∧
        s'.answer = .status .ok ∧ (s'.ring (ringKey d e q)).prio = BitVec.ofNat 8 (b.toNat % 4))

/-- The heartbeats, failures, restores, migrations, margins, SHADOW records and log commands run when their trigger holds,
and leave what their rule writes. -/
def Obligations.RecoveryCommandsComplete : Prop :=
  ∀ s : State,
    (∀ (d : Die) (t : PTile), s.tileTested d t = true →
      ∃ s', exec (.tileHeartbeatMiss d t) s = .next s' ∧ s'.answer = .done ∧
        (tget 0 s.recov.tileMiss (d.val * 20 + t.val) < 2 →
          tget 0 s'.recov.tileMiss (d.val * 20 + t.val) = tget 0 s.recov.tileMiss (d.val * 20 + t.val) + 1)) ∧
    (∀ d : Die, s.watches = true → s.dieBad d.val = false → s.recov.probing.any (fun p => p.1 == d.val) = false →
      ∃ s', exec (.dieHeartbeatMiss d) s = .next s' ∧ s'.answer = .done ∧
        (2 ≤ tget 0 s.recov.dieMiss d.val → (d.val, s.now, false) ∈ s'.recov.probing)) ∧
    (∀ d : Die, s.recov.probing.any (fun p => p.1 == d.val && !p.2.2) = true →
      (∃ s', exec (.dieProbeResult d false) s = .next s' ∧ s'.answer = .done ∧
        (s.recov.probing.all (fun q => !q.2.2) = true →
          s'.recov.probing = s.recov.probing.filter (fun q => q.1 != d.val))) ∧
      ∃ s', exec (.dieProbeResult d true) s = .next s' ∧ s'.answer = .done) ∧
    (∀ k : Stk, s.watches = true → s.stackBad k.val = false →
      (∃ s', exec (.sinterHeartbeatMiss k) s = .next s' ∧ s'.answer = .done ∧
        (tget 0 s.recov.sinterMiss k.val < 2 →
          tget 0 s'.recov.sinterMiss k.val = tget 0 s.recov.sinterMiss k.val + 1)) ∧
      ∃ s', exec (.stackLoss k) s = .next s' ∧ s'.answer = .done) ∧
    (∀ (d : Die) (t : PTile), s.watches = true → s.dieBad d.val = false → s.tileBad d.val t.val = false →
      ∃ s', exec (.tileFailure d t) s = .next s' ∧ s'.answer = .done) ∧
    (∀ d : Die, s.watches = true → s.dieBad d.val = false → s.isDormant d.val = false →
      ∃ s', exec (.dieFailure d) s = .next s' ∧ s'.answer = .done) ∧
    (∀ d : Die, s.watches = true → s.isDormant d.val = true →
      ∃ s', exec (.dormantDieFailure d) s = .next s' ∧ s'.answer = .done) ∧
    (∀ (c : CtxId) r, (s.ctx c).restore = some r → s.st = .idle ∨ s.st = .run →
      (∀ g t, r.scanned = false → s.regionOff c = false → (s.ctx c).newest = some g → s.scanChecks c g = (t, none) →
        ∃ s', exec (.regionRestore c) s = .next s' ∧ s'.answer = .done ∧
          (s'.ctx c).restore = some { r with scanned := true, generation := g.generation }) ∧
      (r.scanned = true → r.resumed = false →
        ∃ s', exec (.regionResume c true) s = .next s' ∧ s'.answer = .done ∧ (s'.ctx c).sw = .steady ∧
          (s'.ctx c).paused = false) ∧
      (r.resumed = true → (∀ g ∈ r.goals, g.2 ≤ (s.logOf g.1).pos) →
        ∃ s', exec (.caughtUp c) s = .next s' ∧ s'.answer = .done ∧ (s'.ctx c).restore = none) ∧
      (r.resumed = false → r.late = false →
        ∃ s', exec (.recoveryBudgetExpiry c) s = .next s' ∧ s'.answer = .done ∧
          (s'.ctx c).restore = some { r with late := true } ∧ r.detected + restoreBudget r.kind + 1 ≤ s'.now)) ∧
    (∀ (d : Die) q p, s.anat.orphans.find? (fun p => p.1 == d.val) = some q → s.phys q.2 = some p →
      s.st = .idle ∨ s.st = .run → s.restoring q.2 = false → [0, 1].filterMap (s.newMigration d.val q.2 p) ≠ [] →
      ∃ s', exec (.migrationStart d) s = .next s' ∧ s'.answer = .done ∧
        s'.recov.migrations = s.recov.migrations ++ [0, 1].filterMap (s.newMigration d.val q.2 p)) ∧
    (∀ (k : Stk) m, s.recov.migrations.find? (fun m => m.src == k.val) = some m →
      (∀ b l, m.banks = b :: l → s.st = .idle ∨ s.st = .run →
        (s.stackBankSt m.src b).shut = false → (s.stackBankSt m.dst b).shut = false →
        ∃ s', exec (.migrationCopy k) s = .next s' ∧ s'.answer = .done) ∧
      (∃ s', exec (.migrationDestFail k) s = .next s' ∧ s'.answer = .done ∧
        ∀ y ∈ s'.recov.migrations, y.src ≠ k.val) ∧
      (s.st = .idle ∨ s.st = .run → (∀ y ∈ s.recov.migrations, y.die = m.die → y.banks = []) →
        (∀ (c : CtxId) (y : Migration), y ∈ s.recov.migrations → y.die = m.die → s.migrates c y = true →
          (s.ctx c).kind = none ∧ (s.ctx c).ckptRun = none ∧ ∀ r, (s.ctx c).restore = some r → r.resumed = true) →
        ∃ s', exec (.relocation k) s = .next s' ∧ s'.answer = .done ∧ ∀ y ∈ s'.recov.migrations, y.die ≠ m.die)) ∧
    (s.watches = true →
      ∃ s', exec .marginSummary s = .next s' ∧ s'.answer = .done ∧ s'.recov.margin = s.marginBytes.1) ∧
    (∀ (point : Fin 64) (frame : Nat) (norm : W32) (proj : List W32) q, s.shadow = true → s.recov.shadowState ≠ 0 →
      s.recov.sums.find? (fun p => p.1 == point.val && p.2.1 == frame) = some q →
      ∃ s', exec (.shadowCompare point frame norm proj) s = .next s' ∧ s'.answer = .done ∧
        ∀ p ∈ s'.recov.sums, ¬(p.1 = point.val ∧ p.2.1 = frame)) ∧
    (∀ v : Bool,
      (∃ s', exec (.alertAck v) s = .next s' ∧ s'.answer = .fjoco .ok [] ∧
        s'.log.alert = if v then false else s.log.alert) ∧
      ∃ s', exec (.faultLogClear v) s = .next s' ∧ s'.answer = .fjoco .ok [] ∧
        s'.log.main = (if v then [] else s.log.main) ∧ s'.log.persistent = if v then [] else s.log.persistent)

/-- Standby power that goes and returns, and the test port of a panel with standby power. -/
def Obligations.PinCommandsComplete : Prop :=
  ∀ s : State,
    (∀ aux p0 p1 : Nat, s.pwr.standby = true →
      (standbyPresent aux p0 p1 = true →
        ∃ s', exec (.standbyLoss aux p0 p1) s = .next s' ∧ s'.answer = .done ∧ s'.pwr.aux = aux ∧
          s'.pwr.standby = true) ∧
      (standbyPresent aux p0 p1 = false →
        ∃ s', exec (.standbyLoss aux p0 p1) s = .next s' ∧ s'.answer = .done ∧ s'.pwr.standby = false ∧ s'.st = .off ∧
          s'.log.main = [] ∧ s'.mgmt.session = [])) ∧
    (∀ aux p0 p1 : Nat, s.pwr.standby = false → standbyPresent aux p0 p1 = true →
      ∃ s', exec (.standbyPowerReturn aux p0 p1) s = .next s' ∧ s'.answer = .done ∧ s'.pwr.standby = true ∧
        s'.pwr.aux = aux ∧ s'.pwr.inputMv = max p0 p1) ∧
    (s.pwr.standby = true →
      (∃ s', exec (.testPortAccess .reset) s = .next s' ∧ s'.answer = .done ∧ s'.pins.tap = .idcode) ∧
      (∀ ir, ∃ s', exec (.testPortAccess (.shiftIr ir)) s = .next s' ∧ s'.answer = .done ∧
        s'.pins.tap = s.tapSelect ir ∧ s'.pins.tapBits.take 2 = [true, false]) ∧
      (∀ bits, s.pins.tap = .idcode →
        ∃ s', exec (.testPortAccess (.shiftDr bits)) s = .next s' ∧ s'.answer = .done ∧
          s'.pins.tapBits = shiftOut ((List.range 32).map (fun i => idcode.getLsbD i)) bits) ∧
      (∀ bits, s.pins.tap = .bypass ∨ s.pins.tap = .other ∧ s.tapOpen = false →
        ∃ s', exec (.testPortAccess (.shiftDr bits)) s = .next s' ∧ s'.answer = .done ∧
          s'.pins.tapBits = shiftOut [false] bits))

/-- The token of a stream port that is intact and of a command's kind is consumed: SETTLE adds its indices to the port's
list, HINT and GROUP_END act; a dispatch span of a dispatch array whose entries fit completes. -/
def Obligations.SparseStreamCommandsComplete : Prop :=
  ∀ (s : State) (d : LDie),
    (∀ (u : Fin 112) t c g l i k, s.streamHead d u.val = (t, .token c g l i k) → k.poisoned = false →
      (slKind k.payload = 0 →
        ∃ s', exec (.settle d u) s = .next s' ∧ s'.answer = .done ∧
          (s'.unit (unitKey d u.val)).settleList =
            (((t.consume c d u.val i k).unit (unitKey d u.val)).meetGroup (t.unit (unitKey d u.val)).frame
              k.payload).settleList ++ slIndices k.payload) ∧
      (slKind k.payload = 1 → ∃ s', exec (.hint d u) s = .next s' ∧ s'.answer = .done) ∧
      (slKind k.payload = 2 → ∃ s', exec (.groupEnd d u) s = .next s' ∧ s'.answer = .done)) ∧
    (∀ (t : LTile) (a : Fin 2) (cols : List (List (Nat × W16))) c g k x p, s.live d t.val = some (c, g) →
      s.tileKey d t = some k → arrayCfg g = some x → g.sparse = some p → p.arr = 2 →
      (((cols.take (modeOuts x.wFmt.toNat)).map (roundEntries (nextSpan ((s.tile k).arr a).disp))).zipIdx.all (fun q =>
        decide ((tget [] ((s.tile k).arr a).disp q.2).length + q.1.length ≤ 1024)) = true) →
      ∃ s', exec (.dispatchSpan d t a cols) s = .next s' ∧ s'.answer = .done)

/-- The root, the owner, the attestation, the context keys and the debug tokens: each command that its rule accepts has its
effect. -/
def Obligations.SecurityCommandsComplete : Prop :=
  ∀ s : State,
    (∀ ms : Nat, s.sec.root = 0 → 10 ≤ ms → s.boot.start = none →
      ∃ s', exec (.rootTakeover ms) s = .next s' ∧ s'.answer = .done ∧ s'.sec.root = 1 ∧ s'.mgmt.shakes = []) ∧
    (s.sec.root ≠ 2 → ∃ s', exec .rootLost s = .next s' ∧ s'.answer = .done) ∧
    (∀ h : Hub, s.sec.entropy = [] →
      ∃ s', exec (.entropyFailure h) s = .next s' ∧ s'.answer = .done ∧ s'.sec.entropy = [h.val]) ∧
    (∀ h : Hub, s.sec.entropy.contains h.val = false → ∃ s', exec (.entropyFailure h) s = .next s' ∧ s'.answer = .done) ∧
    (∀ c : Claim, s.sec.owned = false → c.magicOk = true → c.serial = s.serial64 → c.nonce = s.sec.claimNonce →
      sigUnder c.sig c.keyHash = true →
      ∃ s', exec (.ownerClaim c) s = .next s' ∧ s'.answer = .fjoco .ok [] ∧ s'.sec.owned = true ∧
        s'.sec.ownerKeys = [c.keyHash] ∧ s'.sec.sequence = 0) ∧
    (∀ h : OwnerHead,
      (s.recordOk h false = true →
        (s.st ≠ .quenched → ∃ s', exec (.ownerRelease h) s = .next s' ∧ s'.answer = .fjoco .ok []) ∧
        ∀ component digest, ∃ s', exec (.updateApprove h component digest) s = .next s' ∧ s'.answer = .fjoco .ok [] ∧
          s'.sec.sequence = h.sequence ∧ (component, digest) ∈ s'.sec.approvals) ∧
      (s.recordOk h true = true →
        (∀ k, s.sec.ownerKeys.length < 4 →
          ∃ s', exec (.keyAdd h k) s = .next s' ∧ s'.answer = .fjoco .ok [] ∧ s'.sec.sequence = h.sequence ∧
            k ∈ s'.sec.ownerKeys) ∧
        (∀ id, (s.ownerKey id).isSome = true → 1 < s.sec.ownerKeys.length →
          ∃ s', exec (.keyRemove h id) s = .next s' ∧ s'.answer = .fjoco .ok [] ∧ s'.sec.sequence = h.sequence ∧
            s'.sec.ownerKeys = s.sec.ownerKeys.filter (fun k => keyIdOf k != id)) ∧
        (∀ id, (s.ownerKey id).isSome = true →
          ∃ s', exec (.keyPrimary h id) s = .next s' ∧ s'.answer = .fjoco .ok [] ∧ s'.sec.sequence = h.sequence ∧
            (s'.sec.ownerKeys.head?.map keyIdOf) = some id) ∧
        (∀ key, key.length = 1216 →
          ∃ s', exec (.imageKey h key) s = .next s' ∧ s'.answer = .fjoco .ok [] ∧ s'.sec.sequence = h.sequence ∧
            s'.sec.imageKey = key) ∧
        (∀ g, ∃ s', exec (.operatorGeneration h g) s = .next s' ∧ s'.answer = .fjoco .ok [] ∧
          s'.sec.sequence = h.sequence ∧ s'.sec.minGen = g))) ∧
    (∀ r : Revoke, s.revocable r = true → r.keyHash = tget 0 s.sec.vendor r.signer.toNat → r.magicOk = true →
      sigUnder r.sig r.keyHash = true → r.serial = s.serial64 ∨ r.serial = 0 →
      ∃ s', exec (.revocation r) s = .next s' ∧ s'.answer = .fjoco .ok [] ∧
        s'.sec.revoked = s.sec.revoked ||| BitVec.ofNat 8 (2 ^ r.slot.toNat)) ∧
    (∀ (session : W16) (level : Level) (nonce : BitVec 256) (c : Byte),
      (∃ s', exec (.attestRequest session level nonce 0 c) s = .next s' ∧ s'.answer = .fjoco .ok [] ∧
        tget [] s'.sec.reports session.toNat = (s.attestReport nonce 0 c.toNat).1) ∧
      (∀ x : CtxId, level ≠ .pub → c.toNat = x.val → (s.ctx x).key = .opened →
        ∃ s', exec (.attestRequest session level nonce 1 c) s = .next s' ∧ s'.answer = .fjoco .ok [])) ∧
    (∀ c : CtxId,
      ((s.ctx c).key = .closed ∨ (s.ctx c).key = .offered →
        ∃ s', exec (.offer c) s = .next s' ∧ s'.answer = .fjoco .ok [] ∧ (s'.ctx c).key = .offered ∧
          (s'.ctx c).offerNonce = some s.draw.1) ∧
      ((s.ctx c).key = .offered →
        ∃ s', exec (.offerExpiry c) s = .next s' ∧ s'.answer = .done ∧ (s'.ctx c).key = .closed ∧
          (s.ctx c).offerAt + 60000000000 ≤ s'.now) ∧
      (∀ a : Accept, s.acceptOk c a = true →
        ∃ s', exec (.ctxAccept c a) s = .next s' ∧ s'.answer = .fjoco .ok [] ∧ (s'.ctx c).key = .opened ∧
          (s'.ctx c).cms = some (masterSecret s.draw.1 s.draw.2.draw.1 (s.offerBytes c) (acceptFront a))) ∧
      (∀ k : KeyLoad, (s.ctx c).key = .opened → k.magicOk = true → k.context.toNat = c.val → 1 ≤ k.slot → k.slot < 8 →
        k.tagOk = true → (∀ p, tget none (s.ctx c).slots k.slot.toNat = some p → p.2 < k.sequence) →
        ∃ s', exec (.ctxKeyLoad c k) s = .next s' ∧ s'.answer = .fjoco .ok [] ∧
          tget none (s'.ctx c).slots k.slot.toNat = some (k.key, k.sequence)) ∧
      (s.st ≠ .quenched →
        ((s.ctx c).key = .offered →
          ∃ s', exec (.close c) s = .next s' ∧ s'.answer = .fjoco .ok [] ∧ (s'.ctx c).key = .closed) ∧
        ((s.ctx c).key = .opened →
          ∃ s', exec (.close c) s = .next s' ∧ s'.answer = .fjoco .ok [] ∧ (s'.ctx c).key = .closing)) ∧
      ((s.ctx c).key = .closing → ∃ s', exec (.closeComplete c) s = .next s' ∧ s'.answer = .done)) ∧
    (∀ t : DebugTok, s.st ≠ .quenched → s.sec.owned = true → t.magicOk = true → t.challenge = s.sec.challenge →
      s.byOwner t.keyId t.sig = true →
      ∃ s', exec (.debugToken t) s = .next s' ∧ s'.answer = .fjoco .ok [] ∧ s'.sec.debug = t.scope &&& 7)

/-- The manifest, the fills, the verification and patrol of shards, the peer requests, the scrub and the zeroisation of a
bank run when their shard, stack or bank is as their rule asks. -/
def Obligations.ShardCommandsComplete : Prop :=
  ∀ s : State,
    (∀ c : CtxId,
      (∀ m : Manifest, (s.ctx c).runs = false → s.ownerSig m.keyId m.sig = true → s.manifestOk c m = true →
        ∃ s', exec (.shardManifest c m) s = .next s' ∧ s'.answer = .fjoco .ok [] ∧ (s'.ctx c).manifest = some m ∧
          (s'.ctx c).shards = []) ∧
      (s.st ≠ .quenched →
        (∃ s', exec (.fill c) s = .next s' ∧ s'.answer = .fjoco .ok []) ∧
        ∃ s', exec (.abandon c) s = .next s' ∧ s'.answer = .fjoco .ok []) ∧
      (∀ (i : Nat) e, (s.ctx c).entry i = some e →
        (((s.ctx c).shard i).want = true → s.fillsRun = true → (s.ctx c).key = .opened →
          s.fillsOn c (s.shardPlace c e).1 < 4 →
          ∃ s', exec (.fillAttempt c i) s = .next s' ∧ s'.answer = .done) ∧
        (((s.ctx c).shard i).st = .filling → e.length.toNat ≤ ((s.ctx c).shard i).got →
          ∃ s', exec (.fillWritten c i) s = .next s' ∧ s'.answer = .done ∧ ((s'.ctx c).shard i).st = .verifying) ∧
        (((s.ctx c).shard i).st = .filling →
          ∃ s', exec (.fillAttemptTimeout c i) s = .next s' ∧ s'.answer = .done) ∧
        (s.fillsRun = true → s.shardOpen (s.shardPlace c e).1 (s.shardPlace c e).2 e.length.toNat = true →
          (((s.ctx c).shard i).st = .verifying →
            ∃ s', exec (.shardVerifyDone c i) s = .next s' ∧ s'.answer = .done) ∧
          (((s.ctx c).shard i).st = .valid → (s.ctx c).sealed i = true →
            ∃ s', exec (.digestPatrol c i) s = .next s' ∧ s'.answer = .done))) ∧
      (∀ (i : Nat) h, (s.ctx c).held.find? (fun h => h.1 == i) = some h →
        ∃ s', exec (.shardWaitLimit c i) s = .next s' ∧ s'.answer = .done)) ∧
    (∀ panel id shard digest length tag placement,
      ∃ s', exec (.shardReq panel id shard digest length tag placement) s = .next s' ∧ s'.answer = .done) ∧
    (∀ k : Stk,
      (s.stackBad k.val = false → s.fillsRun = true → ∃ s', exec (.scrub k) s = .next s' ∧ s'.answer = .done) ∧
      ∀ b : Fin 64, (s.stack k.val).zeroising.contains b.val = true →
        ∃ s', exec (.stackBankZeroise k b) s = .next s' ∧ s'.answer = .done)

/-- Starts, self-test, calibration, SAFE, OFF, the firmware update and the objects that a start reads: each command has its
effect in the states and under the conditions that its rule names. -/
def Obligations.StartAndUpdateCommandsComplete : Prop :=
  ∀ s : State,
    (∀ i : StartIn,
      (s.boot.running = .none → s.coldOk = true →
        ∃ s', exec (.coldStart i) s = .next s' ∧ s'.answer = .fjoco .ok []) ∧
      (s.boot.running = .none → s.st = .idle ∨ s.st = .run ∨ s.st = .safe ∨ s.st = .quenched →
        ∃ s', exec (.warmStart i) s = .next s' ∧ s'.answer = .fjoco .ok []) ∧
      (∀ mv : Nat, s.st = .off → 48000 ≤ mv → mv ≤ 58000 → s.obj 0x2000 0x06 = 1 → s.pins.rstHeld = false →
        ∃ s', exec (.powerOnStart mv i) s = .next s' ∧ s'.answer = .done) ∧
      (s.pins.rstHeld = true → s.coldOk = true → s.boot.running = .none →
        ∃ s', exec (.panelRstNRelease i) s = .next s' ∧ s'.answer = .done) ∧
      (∀ kind j, s.boot.start = some ⟨kind, 4, j⟩ → s.st = .boot → s.coolantOk = true →
        ∃ s', exec (.coolantQualified i) s = .next s' ∧ s'.answer = .done) ∧
      (∀ step x, s.boot.start = some x →
        ∃ s', exec (.startStepTimeout step i) s = .next s' ∧ s'.answer = .done ∧
          (x.kind ≠ .trial → s'.boot.start = none ∧ s'.boot.running = .none)) ∧
      (∀ n j, s.boot.start = some ⟨.trial, n, j⟩ →
        ∃ s', exec (.firmwareWatchdog i) s = .next s' ∧ s'.answer = .done) ∧
      (s.st = .updating → s.boot.fw.any (fun p => p.2.st == 1) = true →
        ∃ s', exec (.activate i) s = .next s' ∧ s'.answer = .fjoco .ok [])) ∧
    (∀ ns : Nat, 1000000 ≤ ns →
      ∃ s', exec (.panelRstNHeld ns) s = .next s' ∧ s'.answer = .done ∧ s'.pins.rstHeld = true) ∧
    (∀ (d : Die) (off : Nat) (data : Bytes) (last : Bool), s.boot.start ≠ none → s.dieFenced d.val = false →
      off + data.length ≤ 2 ^ 26 →
      ∃ s', exec (.fwLoad d off data last) s = .next s' ∧ s'.answer = .done ∧
        s'.boot.seqMem = putBytes s.boot.seqMem (d.val * 2 ^ 26 + off) data ∧ (last = true → d.val ∈ s'.boot.loaded)) ∧
    (∀ ms kind i, s.boot.start = some ⟨kind, 7, i⟩ →
      ∃ s', exec (.startComplete ms) s = .next s' ∧ s'.answer = .done) ∧
    (s.boot.running = .none →
      (s.st = .idle →
        (∃ s', exec .selftest s = .next s' ∧ s'.answer = .fjoco .ok [] ∧ s'.st = .selftest) ∧
        ((∀ c, (s.ctx c).key = .closed) →
          (∃ s', exec .calibrate s = .next s' ∧ s'.answer = .fjoco .ok [] ∧ (s.calReady = true → s'.st = .selftest)) ∧
          ∃ s', exec .update s = .next s' ∧ s'.answer = .fjoco .ok [] ∧ s'.st = .updating)) ∧
      (s.st = .idle ∨ s.st = .run ∨ s.st = .safe ∨ s.st = .quenched →
        ∃ s', exec .powerOff s = .next s' ∧ s'.answer = .fjoco .ok [] ∧ s'.st = .off) ∧
      (s.st = .idle ∨ s.st = .run →
        ∃ s', exec (.enterSafe none) s = .next s' ∧ s'.answer = .fjoco .ok [] ∧ s'.st = .safe) ∧
      (∀ w : CalWrite, (∀ c, (s.ctx c).runs = false) → w.length = calLength → w.magicOk = true → w.version = 1 →
        w.count = 10 → w.serial = BitVec.ofNat 64 s.anat.serial.toNat → w.directory = calDirectory → calOk w.values = true →
        ∃ s', exec (.calTableWrite w) s = .next s' ∧ s'.answer = .fjoco .ok [])) ∧
    (∀ code : W16, s.st = .boot ∨ s.st = .selftest ∨ s.st = .idle ∨ s.st = .run → s.obj 0xA000 0x03 ≠ 1 →
      ∃ s', exec (.enterSafe (some code)) s = .next s' ∧ s'.answer = .done ∧ s'.st = .safe ∧ s'.recov.safeCause = code) ∧
    (s.st = .selftest →
      (∀ found skipped, s.boot.running = .selftest →
        ∃ s', exec (.selftestComplete found skipped) s = .next s' ∧ s'.answer = .done ∧ s'.st = .idle ∧
          s'.boot.running = .none) ∧
      (∀ values found, s.boot.running = .calibrate →
        ∃ s', exec (.calibrateComplete values found) s = .next s' ∧ s'.answer = .done ∧ s'.st = .idle ∧
          s'.boot.running = .none)) ∧
    (s.st = .updating →
      (∀ img : FwImage, s.components.contains img.component.toNat = true → img.bytes ≤ 67108864 → s.fwCheck img = none →
        ∃ s', exec (.fwStage img) s = .next s' ∧ s'.answer = .fjoco .ok []) ∧
      ∃ s', exec .discard s = .next s' ∧ s'.answer = .fjoco .ok [] ∧
        s'.st = if s.boot.updFromSafe then .safe else .idle) ∧
    (∀ v : Bool,
      (∃ s', exec (.fieldDefectsClear v) s = .next s' ∧ s'.answer = .fjoco .ok [] ∧
        s'.anat.clearScheduled = (v || s.anat.clearScheduled)) ∧
      ∀ set : CtrSet, ∃ s', exec (.countersClear set v) s = .next s' ∧ s'.answer = .fjoco .ok [] ∧
        (v = false → s'.ctrs = s.ctrs))

/-- Commands of tiles, rings and sparse streams whose effect stays in their area change nothing but the parts that their
rules let them change. -/
def Obligations.FrameOfTileAndRingCommands : Prop :=
  ∀ (c : Instr) (s s' : State), (frameOf c).1 = .tileWork → exec c s = .next s' → Framed c s s'

/-- Commands of contexts and shards whose effect stays in their area change nothing but the parts that their rules let them
change. -/
def Obligations.FrameOfContextAndShardCommands : Prop :=
  ∀ (c : Instr) (s s' : State), (frameOf c).1 = .contextWork → exec c s = .next s' → Framed c s s'

/-- Commands of owner records, keys and attestation change nothing but the parts that their rules let them change. -/
def Obligations.FrameOfTrustCommands : Prop :=
  ∀ (c : Instr) (s s' : State), (frameOf c).1 = .trust → exec c s = .next s' → Framed c s s'

/-- Commands of the networks, the sync cells and the fabric links whose effect stays in their area change nothing but the
parts that their rules let them change. -/
def Obligations.FrameOfNetworkAndFabricCommands : Prop :=
  ∀ (c : Instr) (s s' : State), (frameOf c).1 = .netWork → exec c s = .next s' → Framed c s s'

/-- Commands of clocks, QUENCH, sensors and coolant whose effect stays in their area change nothing but the parts that their
rules let them change. -/
def Obligations.FrameOfClockAndHeatCommands : Prop :=
  ∀ (c : Instr) (s s' : State), (frameOf c).1 = .clockWork → exec c s = .next s' → Framed c s s'

/-- Commands of the power delivery whose effect stays in their area change nothing but the parts that their rules let them
change. -/
def Obligations.FrameOfPowerCommands : Prop :=
  ∀ (c : Instr) (s s' : State), (frameOf c).1 = .powerWork → exec c s = .next s' → Framed c s s'

/-- Commands of the mailboxes, the host links and the management sessions whose effect stays in their area change nothing
but the parts that their rules let them change. -/
def Obligations.FrameOfMailboxAndSessionCommands : Prop :=
  ∀ (c : Instr) (s s' : State), (frameOf c).1 = .hostWork → exec c s = .next s' → Framed c s s'

/-- Commands of heartbeats, records, pins, self-test and firmware slots whose effect stays in their area change nothing but
the parts that their rules let them change. -/
def Obligations.FrameOfRecoveryAndFirmwareCommands : Prop :=
  ∀ (c : Instr) (s s' : State), (frameOf c).1 = .panelWork → exec c s = .next s' → Framed c s s'

/-- Commands that reach through memories, networks and the failures of tiles, dies and stacks leave the panel's state, its pins,
its objects, its sensors, its start and the queue alone, and every part that their rules do not let them change. -/
def Obligations.FrameOfTrafficAndFailureCommands : Prop :=
  ∀ (c : Instr) (s s' : State), (frameOf c).1 = .traffic → exec c s = .next s' → Framed c s s'

/-- Commands that move the panel between its states, or write an object, leave the queue alone, and every part that their
rules do not let them change: no command but a write of an object changes a stored object. -/
def Obligations.FrameOfCommandsThatMoveThePanel : Prop :=
  ∀ (c : Instr) (s s' : State), (frameOf c).1 = .panelReach → exec c s = .next s' → Framed c s s'

/-- R298: an arrival at a cell adds n to its value; one that reaches its target without an arrival pending takes the target
off and fires the cell, or sends ARRIVE(1) to its parent; a firing raises the generation, answers every waiter and
broadcasts RELEASE; and RELEASE(p) at a die or hub fires exactly its pending children of p. -/
def Obligations.ArriveAndReleaseFollowTheProcedure : Prop :=
  ∀ s : State,
    (∀ k n : Nat,
      let x := s.cell k
      let v := (cValue x.word + n) % 2 ^ 31
      let t := s.arriveCell k n
      let full : Prop := cTarget x.word ≠ 0 ∧ cTarget x.word ≤ v ∧ cPending x.word = false
      let w := cWord (cGen x.word + 1) (cTarget x.word) false (v - cTarget x.word)
      (full → x.link = 0 →
        t.cell k = { x with word := w, waiters := [] } ∧ .release (cellAddr k) ∈ t.sent ∧
          ∀ q ∈ x.waiters, q.1.panel = s.srcPanel → .sync q.1.node q.1.seq .ok w ∈ t.sent) ∧
      (full → x.link ≠ 0 →
        t.cell k = { x with word := cWord (cGen x.word) (cTarget x.word) true (v - cTarget x.word) } ∧
          t.sent = .arrive x.link 1 :: s.sent) ∧
      (¬full →
        t.cell k = { x with word := cWord (cGen x.word) (cTarget x.word) (cPending x.word) v } ∧ t.sent = s.sent) ∧
      ∀ j, j ≠ k → t.cell j = s.cell j) ∧
    (∀ (r : SyncReq) (v : W64) (k : Nat), r.addr.toNat % 8 = 0 → s.decode r.addr = .here (.cell k) →
      (k < hubFirst → (s.cellDie k).isSome) → r.panel = s.srcPanel →
      s.syncReach r.node (s.cellNode k) = true → s.ownsCell r k = true → bits v.toNat 0 8 ≠ 0 →
      ∃ s', exec (.arrive r v) s = .next s' ∧ s'.answer = .word .ok (s.cell k).word ∧
        ∀ j, s'.cell j = (s.arriveCell k (bits v.toNat 0 8)).cell j) ∧
    (∀ (node : BitVec 12) (p : W64) (first n : Nat),
      (∃ l, nodeKind node = 0 ∧ s.logical (nodeIndex node) = some l ∧ first = dieCells l.val ∧ n = 512) ∨
        (nodeKind node = 2 ∧ nodeIndex node < 2 ∧ first = hubCells (nodeIndex node) ∧ n = 4096) →
      ∃ s', exec (.release node p) s = .next s' ∧ s'.answer = .done ∧
        ∀ k, let x := s.cell k
          if first ≤ k ∧ k < first + n ∧ x.link ≠ 0 ∧ s.decode x.link = s.decode p ∧ cPending x.word = true then
            s'.cell k = { x with word := cWord (cGen x.word + 1) (cTarget x.word) false (cValue x.word), waiters := [] } ∧
              .release (cellAddr k) ∈ s'.sent
          else s'.cell k = s.cell k)

/-- R347: the target step of a die is the lowest of its seven ceilings and never below 8 (in SAFE it is 8, as R390 fixes);
below the highest step, step_ceiling_source shows, in the order of its bits, which ceilings are the lowest; die_step shows
the current step. -/
def Obligations.TargetStepIsTheLowestCeiling : Prop :=
  ∀ (s : State) (d : Die),
    let c := s.ceilings d.val
    (s.st = .safe → s.targetStep d.val = 8) ∧
    c = [s.postureCeil, s.obj (0x4000 + d.val) 0x0E, (s.dieClk d.val).powerCeil, (s.dieClk d.val).thermalCeil,
      (s.dieClk d.val).phaseCeil, lowest (s.dieClk d.val).margin, lowest (s.dieClk d.val).stretch] ∧
    8 ≤ s.targetStep d.val ∧
    (s.st ≠ .safe → (∀ x ∈ c, s.targetStep d.val ≤ max 8 x) ∧ ((∃ x ∈ c, x ≤ 8) ∧ s.targetStep d.val = 8 ∨
      s.targetStep d.val ∈ c)) ∧
    ((∃ x ∈ c, x < 30) →
      ∀ i : Fin 7, (s.ceilingSource d.val).testBit i.val = true ↔ ∀ x ∈ c, c.getD i.val 30 ≤ x) ∧
    s.dieObj d.val 0x0D = toLe 1 (s.ceilingSource d.val) ∧ s.dieObj d.val 0x0C = toLe 1 (s.dieClk d.val).step ∧
    (∀ ns : Nat, s.stepReady d.val = true → (s.dieClk d.val).step ≠ s.targetStep d.val → ns ≤ 20000 →
      ∃ s', exec (.stepChange d ns) s = .next s' ∧
        (s'.dieClk d.val).step = stepToward4 (s.dieClk d.val).step (s.targetStep d.val) ∧
        ∀ e, e ≠ d.val → s'.dieClk e = s.dieClk e)

/-- R521: with standby power, ALERT_N is asserted exactly while the panel is in SAFE, while R512 holds the panel in BOOT, as it
does after a cold start that finds component 1 or 2 with no loadable slot, or while a fault of an alert class has been logged since the last acknowledgement; every
logged occurrence of such a fault, new or folded, makes the third condition hold, nothing else that is logged does, and
alert_ack releases it. -/
def Obligations.AlertFollowsItsThreeConditions : Prop :=
  ∀ s : State,
    (s.pwr.standby = true →
      (s.alertN = true ↔ s.st = .safe ∨ (s.st = .boot ∧ ∃ kind i, s.boot.start = some ⟨kind, 2, i⟩) ∨
        s.log.alert = true)) ∧
    (∀ i : StartIn, s.pwr.standby = true → s.boot.running = .none → s.coldOk = true → s.sec.uds0 = s.sec.uds1 →
      s.trialSet = false → (∃ c, (c = 1 ∨ c = 2) ∧ (s.loadComponent c).2 = false) →
      ∃ s', exec (.coldStart i) s = .next s' ∧ s'.st = .boot ∧ s'.alertN = true) ∧
    (∀ e : LogEntry, (s.logEntry e).log.alert =
      (s.log.alert || (e.fault && (s.obj 0x9000 0x05).testBit (codeClass e.code)))) ∧
    (∃ s', exec (.alertAck true) s = .next s' ∧ s'.log.alert = false ∧ s'.st = s.st) ∧
    ∃ s', exec (.alertAck false) s = .next s' ∧ s'.log.alert = s.log.alert

/-- An occurrence folds into the newest entry that it matches within 1 s, whose repeats rise and nothing else of the log
changes; any other occurrence becomes a new entry of both rings, an event of the main ring alone. -/
def Obligations.LoggedOccurrencesFold : Prop :=
  ∀ (s : State) (e : LogEntry),
    (∀ pre f post, s.log.main = pre ++ f :: post → (∀ g ∈ pre, foldsInto e g = false) → foldsInto e f = true →
      (s.logEntry e).log.main = pre ++ { f with repeats := min (f.repeats + 1) 0xFFFF } :: post ∧
        (s.logEntry e).log.persistent = s.log.persistent) ∧
    ((∀ g ∈ s.log.main, foldsInto e g = false) →
      (s.logEntry e).log.main = (e :: s.log.main).take 65536 ∧
        (s.logEntry e).log.persistent =
          if e.fault then ((s.boot.startCount, e) :: s.log.persistent).take 4096 else s.log.persistent) ∧
    (∀ f, foldsInto e f = true ↔ e.code = f.code ∧ e.loc = f.loc ∧ e.ctx = f.ctx ∧ e.held = f.held ∧
      e.holdup = false ∧ f.holdup = false ∧ e.logged < f.logged + 1000000000)

/-- A 32-bit counter rises by what it counts and saturates at its largest value, no other counter changes, and
COUNTERS_CLEAR zeroes exactly the counters of its set and keeps the time. -/
def Obligations.CountersSaturateAndClear : Prop :=
  ∀ s : State,
    (∀ (k : CtrSet) (r o n : Nat), (s.count k r o n).ctr k r o = min (s.ctr k r o + n) 0xFFFFFFFF) ∧
    (∀ (k k' : CtrSet) (r r' o o' n : Nat), ctrKey k' r' o' ≠ ctrKey k r o →
      (s.count k r o n).ctr k' r' o' = s.ctr k' r' o') ∧
    (∀ k : CtrSet, ∃ s', exec (.countersClear k true) s = .next s' ∧ s'.answer = .fjoco .ok [] ∧
      (∀ r o, r < 2 ^ 20 → o < 256 → s'.ctr k r o = 0) ∧ tget 0 s'.ctrSince (ctrNum k) = s.now)

/-- A write of cal_table that R507 refuses answers RANGE and changes nothing; an accepted one replaces every value, sets the
origin to 1 and advances the generation by one; one that meets a command or a running context answers BUSY. -/
def Obligations.CalTableWriteReplacesOrChangesNothing : Prop :=
  ∀ (s : State) (w : CalWrite),
    let good : Prop := w.length = calLength ∧ w.magicOk = true ∧ w.version = 1 ∧ w.count = 10 ∧
      w.serial = BitVec.ofNat 64 s.anat.serial.toNat ∧ w.directory = calDirectory ∧ calOk w.values = true
    let busy : Prop := s.boot.running ≠ .none ∨ ∃ c, (s.ctx c).runs = true
    (busy → exec (.calTableWrite w) s = .next { s with answer := .fjoco .busy [] }) ∧
    (¬busy → ¬good → exec (.calTableWrite w) s = .next { s with answer := .fjoco .range [] }) ∧
    (¬busy → good → ∃ s', exec (.calTableWrite w) s = .next s' ∧ s'.answer = .fjoco .ok [] ∧ s'.boot.cal = w.values ∧
      s'.boot.calOrigin = 1 ∧ s'.boot.calGen = s.boot.calGen + 1)

/-- A panel command that meets a running command answers BUSY, one in a state outside its row answers STATE, and neither
changes anything else. -/
def Obligations.PanelCommandsOutsideTheirRowChangeNothing : Prop :=
  ∀ (s : State) (i : StartIn),
    let busy : Host.Outcome State Fault Refusal := .next { s with answer := .fjoco .busy [] }
    let state : Host.Outcome State Fault Refusal := .next { s with answer := .fjoco .state [] }
    (s.boot.running ≠ .none →
      exec (.coldStart i) s = busy ∧ exec (.warmStart i) s = busy ∧ exec .powerOff s = busy ∧
        exec (.enterSafe none) s = busy ∧ exec .selftest s = busy ∧ exec .calibrate s = busy ∧ exec .update s = busy) ∧
    (s.boot.running = .none →
      (s.coldOk = false → exec (.coldStart i) s = state) ∧
      (s.st ≠ .idle → s.st ≠ .run → s.st ≠ .safe → s.st ≠ .quenched →
        exec (.warmStart i) s = state ∧ exec .powerOff s = state) ∧
      (s.st ≠ .idle → s.st ≠ .run → exec (.enterSafe none) s = state) ∧
      (s.st ≠ .idle → exec .selftest s = state ∧ exec .calibrate s = state) ∧
      ((∃ c, (s.ctx c).key ≠ .closed) → exec .calibrate s = state) ∧
      (s.st ≠ .idle → ¬(s.st = .safe ∧ s.recov.safeCause = 0x7015) → exec .update s = state))

/-- R428: every accepted cold or warm start erases every context master secret and the keys made from it, every context is
CLOSED after it, and no byte that a context left in a stack reads back: of a warm start only the firmware's bank 63 of each
stack keeps its bytes. -/
def Obligations.StartsCloseEveryContext : Prop :=
  ∀ (s : State) (i : StartIn), s.boot.running = .none →
    let erased (s' : State) : Prop := ∀ c, (s'.ctx c).key = .closed ∧ (s'.ctx c).cms = none ∧ (s'.ctx c).slots = [] ∧
      (s'.ctx c).stackKeys = []
    (s.coldOk = true →
      ∃ s', exec (.coldStart i) s = .next s' ∧ erased s' ∧ ∀ a, byteAt s'.stackMem a = 0) ∧
    (s.st = .idle ∨ s.st = .run ∨ s.st = .safe ∨ s.st = .quenched →
      ∃ s', exec (.warmStart i) s = .next s' ∧ erased s' ∧
        ∀ a, a % 2 ^ 36 / 2 ^ 30 ≠ 63 → byteAt s'.stackMem a = 0)

/-- In a cycle a scratchpad bank or a commons bank grants one of the accesses that wait at it once the cycle's have arrived.
One on words without an error changes no byte of the memory but those of a write, and a write that completes leaves its data
there; with none to grant no byte changes. -/
def Obligations.BanksStoreOnlyTheGrantedWrite : Prop :=
  (∀ (s s' : State) (d : LDie) (t : LTile) (bank : Fin 32) (reqs : List MemReq) (k : Nat), s.tileKey d t = some k →
    exec (.scratchpadAccess d t bank reqs) s = .next s' →
    let q := s.spadArrive d t k (atBank 13 32 (2 ^ 22) bank.val reqs)
    match roundRobin (tget 0 (q.tile k).bankPtr bank.val) 13 (tget [] (q.tile k).bankWait bank.val) with
    | none => ∀ a, byteAt s'.spadMem a = byteAt s.spadMem a
    | some r =>
      (∀ a ∈ wordsOf r.addr (reqSize r), a ∉ (s.tile k).bad ∧ a ∉ (s.tile k).weak) →
      (r.write = false → ∀ a, byteAt s'.spadMem a = byteAt s.spadMem a) ∧
      (r.write = true → ∀ a, a < spadBase k + r.addr ∨ spadBase k + r.addr + r.data.length ≤ a →
        byteAt s'.spadMem a = byteAt s.spadMem a) ∧
      (r.write = true → s'.answer = .status .ok → bytesAt s'.spadMem (spadBase k + r.addr) r.data.length = r.data)) ∧
  (∀ (s s' : State) (d : LDie) (bank : Fin 64) (reqs : List MemReq) (p : Nat), s.phys d = some p →
    exec (.commonsAccess d bank reqs) s = .next s' →
    let q := s.commonsArrive d p (atBank 20 64 (2 ^ 25) bank.val reqs)
    match roundRobin (tget 0 (q.commons p).ptr bank.val) 20 (tget [] (q.commons p).bankWait bank.val) with
    | none => ∀ a, byteAt s'.commonsMem a = byteAt s.commonsMem a
    | some r =>
      (∀ a ∈ wordsOf r.addr (reqSize r), a ∉ (s.commons p).bad) →
      (r.write = false → ∀ a, byteAt s'.commonsMem a = byteAt s.commonsMem a) ∧
      (r.write = true → ∀ a, a < commonsBase p + r.addr ∨ commonsBase p + r.addr + r.data.length ≤ a →
        byteAt s'.commonsMem a = byteAt s.commonsMem a) ∧
      (r.write = true → s'.answer = .status .ok → bytesAt s'.commonsMem (commonsBase p + r.addr) r.data.length = r.data))

/-- FW_LOAD stores its block where the die's sequencer memory has it and changes no other byte; the zeroisation of a stack
bank leaves every byte of the bank zero and every other byte of the stacks as it was. -/
def Obligations.FirmwareLoadsAndZeroisationStayInPlace : Prop :=
  ∀ s : State, s.memWf = true →
    (∀ (d : Die) (off : Nat) (data : Bytes) (last : Bool) (s' : State), exec (.fwLoad d off data last) s = .next s' →
      (∀ a, a < d.val * 2 ^ 26 + off ∨ d.val * 2 ^ 26 + off + data.length ≤ a →
        byteAt s'.boot.seqMem a = byteAt s.boot.seqMem a) ∧
      (s'.answer = .done → bytesAt s'.boot.seqMem (d.val * 2 ^ 26 + off) data.length = data)) ∧
    (∀ (k : Stk) (b : Fin 64), (s.stack k.val).zeroising.contains b.val = true →
      ∃ s', exec (.stackBankZeroise k b) s = .next s' ∧
        ∀ a, byteAt s'.stackMem a =
          if stackBase k.val + b.val * 2 ^ 30 ≤ a ∧ a < stackBase k.val + (b.val + 1) * 2 ^ 30 then 0
          else byteAt s.stackMem a)

/-- A low of QUENCH_N takes QUENCH exactly when it lasts 200 ns, the pin is armed and the panel is neither OFF nor QUENCHED,
and disarms it; a shorter low changes nothing; a high of 200 ns arms the pin again. -/
def Obligations.QuenchPinNeedsTwoHundredNanoseconds : Prop :=
  ∀ (s : State) (ns : Nat),
    (ns < 200 → exec (.quenchN ns) s = .next { s with answer := .turnedAway }) ∧
    (200 ≤ ns → s.pins.quenchArmed = true → s.quenchable = true →
      ∃ s', exec (.quenchN ns) s = .next s' ∧ s'.st = .quenched ∧ s'.clk.quench = 1 ∧ s'.pins.quenchArmed = false) ∧
    (200 ≤ ns → ¬(s.pins.quenchArmed = true ∧ s.quenchable = true) →
      ∃ s', exec (.quenchN ns) s = .next s' ∧ s'.st = s.st ∧ s'.pins.quenchArmed = s.pins.quenchArmed ∧
        s'.clk = s.clk) ∧
    (∃ s', exec (.quenchNHigh ns) s = .next s' ∧ s'.st = s.st ∧
      s'.pins.quenchArmed = (s.pins.quenchArmed || decide (200 ≤ ns)))

/-- An owner record whose sequence is not above owner_sequence is refused with RANGE and changes no owner key, image key,
approval, generation or sequence. -/
def Obligations.ReplayedOwnerRecordsHaveNoEffect : Prop :=
  ∀ (s : State) (h : OwnerHead), h.sequence ≤ s.sec.sequence →
    let kept (s' : State) : Prop := s'.sec.ownerKeys = s.sec.ownerKeys ∧ s'.sec.owned = s.sec.owned ∧
      s'.sec.imageKey = s.sec.imageKey ∧ s'.sec.approvals = s.sec.approvals ∧ s'.sec.minGen = s.sec.minGen ∧
      s'.sec.sequence = s.sec.sequence
    let refused (c : Instr) : Prop := ∃ s', exec c s = .next s' ∧ s'.answer = .fjoco .range [] ∧ kept s'
    (∀ k, refused (.keyAdd h k)) ∧ (∀ k, refused (.keyRemove h k)) ∧ (∀ k, refused (.keyPrimary h k)) ∧
      (∀ k, refused (.imageKey h k)) ∧ (∀ c d, refused (.updateApprove h c d)) ∧
      (∀ g, refused (.operatorGeneration h g)) ∧ (s.st ≠ .quenched → refused (.ownerRelease h))

/-- A sync operation of this panel on a cell whose block its requester does not own answers NOT_OWNED and leaves every cell
as it was. -/
def Obligations.CellsOfAnotherOwnerStayAsTheyWere : Prop :=
  ∀ (s : State) (r : SyncReq) (v : W64) (k : Nat), r.addr.toNat % 8 = 0 → s.decode r.addr = .here (.cell k) →
    (k < hubFirst → (s.cellDie k).isSome) → r.panel = s.srcPanel →
      s.syncReach r.node (s.cellNode k) = true → s.ownsCell r k = false →
    let denied (c : Instr) : Prop := ∃ s', exec c s = .next s' ∧ s'.answer = .word .notOwned 0 ∧ s'.net.cells = s.net.cells
    denied (.syncRead r) ∧ denied (.init r v) ∧ (bits v.toNat 0 8 ≠ 0 → denied (.arrive r v)) ∧ denied (.wait r v) ∧
      denied (.fetchAdd r v) ∧ denied (.cas r v) ∧ (s.linkOperand v = true → denied (.link r v)) ∧ denied (.readLink r) ∧
      denied (.syncWrite r v)

/-- A host site that trips loses its supply, enters TRIPPED, ends what is in flight and raises fault 0x2010 with its hub as
the location; THERMTRIP_N is asserted. -/
def Obligations.AHostTripRemovesTheSupply : Prop :=
  ∀ (s : State) (h : Hub), s.siteOn h.val = true → (s.site h.val).link ≠ 4 →
    ∃ s', exec (.hostThermtrip h) s = .next s' ∧ s'.answer = .done ∧ s'.siteOn h.val = false ∧
      (s'.site h.val).link = 4 ∧ (s'.site h.val).reqs = [] ∧ s'.pins.thermtrip = true

/-- A closed scratchpad bank at which no earlier request waits answers BANK_CLOSED to the requests of its cycle and grants
none: no byte of a scratchpad changes. -/
def Obligations.ClosedBanksServeNothing : Prop :=
  ∀ (s : State) (d : LDie) (t : LTile) (bank : Fin 32) (reqs : List MemReq) (k : Nat), s.tileKey d t = some k →
    (tget BankSt.open (s.tile k).banks bank.val).shut = true → tget [] (s.tile k).bankWait bank.val = [] →
    atBank 13 32 (2 ^ 22) bank.val reqs ≠ [] →
    ∃ s', exec (.scratchpadAccess d t bank reqs) s = .next s' ∧ s'.answer = .status .bankClosed ∧
      ∀ a, byteAt s'.spadMem a = byteAt s.spadMem a
end

