-- ==== Sys2Proof/Decode.lean ====
section
/-! DEFINITION. Decoding: the table of operations and events gives no row any bits, so no word spells
a command. -/

namespace Sys2Proof

/-- The command that a word of the table spells. No row of the table has bits. (DESIGN CHOICE, log 2) -/
def decodeTableWord (_nbits _w : Nat) : Option Instr := none

end Sys2Proof
end

