-- ==== Sys2Proof/Laws/Tables.lean ====
section
/-! SUPPORT. The laws of sparse tables and byte memories: what a read gives after a write, and that every
operation keeps the canonical form. -/

namespace Sys2Proof.Machine

variable {V : Type}

/-- Skipping the keys up to i leaves every entry above i as it is. -/
theorem tget_tskip_above (d : V) (t : Tbl V) {i j : Nat} (h : i < j) : tget d (tskip i t) j = tget d t j := by
  induction t with
  | nil => rfl
  | cons e t ih =>
    obtain ⟨k, v⟩ := e
    by_cases hk : k ≤ i
    · have h1 : ¬ j < k := by omega
      have h2 : j ≠ k := by omega
      simp [tskip, tget, hk, h1, h2, ih]
    · simp [tskip, hk]

/-- Skipping the keys up to i leaves no entry at i or below. -/
theorem tget_tskip_below (d : V) (t : Tbl V) {i j : Nat} (h : j ≤ i) : tget d (tskip i t) j = d := by
  induction t with
  | nil => rfl
  | cons e t ih =>
    obtain ⟨k, v⟩ := e
    by_cases hk : k ≤ i
    · simp [tskip, hk, ih]
    · have h1 : j < k := by omega
      simp [tskip, tget, hk, h1]

variable [DecidableEq V]

/-- An entry reads as it was written, and every other entry as before. -/
theorem tget_tset (d : V) (t : Tbl V) (i j : Nat) (v : V) :
    tget d (tset d t i v) j = if j = i then v else tget d t j := by
  induction t with
  | nil =>
    by_cases hv : v = d <;> by_cases hj : j = i <;> simp [tset, tget, hv, hj]
  | cons e t ih =>
    obtain ⟨k, w⟩ := e
    rcases Nat.lt_trichotomy i k with h | h | h
    · by_cases hv : v = d
      · by_cases hj : j = i
        · subst hj; simp [tset, tget, h, hv]
        · simp [tset, h, hv, hj]
      · by_cases hj : j = i
        · subst hj; simp [tset, tget, h, hv]
        · by_cases hl : j < i
          · have : j < k := by omega
            simp [tset, tget, h, hv, hj, hl, this]
          · simp [tset, tget, h, hv, hj, hl]
    · subst h
      by_cases hv : v = d
      · rcases Nat.lt_trichotomy j i with hj | hj | hj
        · have : j ≠ i := by omega
          simp [tset, hv, tget, hj, this, tget_tskip_below d t (Nat.le_of_lt hj)]
        · subst hj; simp [tset, hv, tget_tskip_below d t (Nat.le_refl j)]
        · have h1 : j ≠ i := by omega
          have h2 : ¬ j < i := by omega
          simp [tset, hv, tget, h1, h2, tget_tskip_above d t hj]
      · rcases Nat.lt_trichotomy j i with hj | hj | hj
        · have : j ≠ i := by omega
          simp [tset, hv, tget, hj, this]
        · subst hj; simp [tset, hv, tget]
        · have h1 : j ≠ i := by omega
          have h2 : ¬ j < i := by omega
          simp [tset, hv, tget, h1, h2]
    · have h1 : ¬ i < k := by omega
      have h2 : i ≠ k := by omega
      rcases Nat.lt_trichotomy j k with hj | hj | hj
      · have : j ≠ i := by omega
        simp [tset, tget, h1, h2, hj, this]
      · subst hj; simp [tset, tget, h1, h2, h2.symm]
      · have h3 : ¬ j < k := by omega
        have h4 : j ≠ k := by omega
        simp [tset, tget, h1, h2, h3, h4, ih]

@[simp] theorem tget_tset_same (d : V) (t : Tbl V) (i : Nat) (v : V) : tget d (tset d t i v) i = v := by
  simp [tget_tset]

theorem tget_tset_other (d : V) (t : Tbl V) {i j : Nat} (v : V) (h : j ≠ i) :
    tget d (tset d t i v) j = tget d t j := by
  simp [tget_tset, h]

@[simp] theorem tget_tmod_same (d : V) (t : Tbl V) (i : Nat) (f : V → V) :
    tget d (tmod d t i f) i = f (tget d t i) := by
  simp [tmod]

theorem tget_tmod_other (d : V) (t : Tbl V) {i j : Nat} (f : V → V) (h : j ≠ i) :
    tget d (tmod d t i f) j = tget d t j := by
  simp [tmod, tget_tset, h]

/-- A canonical table stays canonical above a lower bound. -/
theorem twf_mono (d : V) (t : Tbl V) {lo hi : Nat} (h : lo ≤ hi) (w : twf d hi t = true) : twf d lo t = true := by
  cases t with
  | nil => rfl
  | cons e t =>
    obtain ⟨k, v⟩ := e
    simp only [twf, Bool.and_eq_true, decide_eq_true_eq] at w ⊢
    exact ⟨⟨by omega, w.1.2⟩, w.2⟩

theorem twf_tskip (d : V) (t : Tbl V) {lo i : Nat} (w : twf d lo t = true) : twf d lo (tskip i t) = true := by
  induction t generalizing lo with
  | nil => rfl
  | cons e t ih =>
    obtain ⟨k, v⟩ := e
    by_cases hk : k ≤ i
    · simp only [tskip, hk, if_true]
      simp only [twf, Bool.and_eq_true, decide_eq_true_eq] at w
      exact twf_mono d _ (by omega) (ih w.2)
    · simpa [tskip, hk] using w

/-- Writing an entry keeps the canonical form. -/
theorem twf_tset (d : V) (t : Tbl V) {lo i : Nat} (v : V) (h : lo ≤ i) (w : twf d lo t = true) :
    twf d lo (tset d t i v) = true := by
  induction t generalizing lo with
  | nil =>
    by_cases hv : v = d
    · simp [tset, hv, twf]
    · simp [tset, hv, twf, h]
  | cons e t ih =>
    obtain ⟨k, u⟩ := e
    have w' := w
    simp only [twf, Bool.and_eq_true, decide_eq_true_eq] at w
    rcases Nat.lt_trichotomy i k with hi | hi | hi
    · by_cases hv : v = d
      · simpa [tset, hi, hv] using w'
      · have : i + 1 ≤ k := hi
        simp [tset, hi, hv, twf, h, w.1.2, w.2, this]
    · subst hi
      by_cases hv : v = d
      · simpa [tset, hv] using twf_mono d _ (by omega) (twf_tskip d t w.2)
      · simp [tset, hv, twf, h, w.2]
    · have h1 : ¬ i < k := by omega
      have h2 : i ≠ k := by omega
      simp [tset, h1, h2, twf, w.1.1, w.1.2, ih (lo := k + 1) (by omega) w.2]

omit [DecidableEq V] in
/-- A cleared range reads the default; nothing else changes, in a canonical table. -/
theorem tget_tclear_in (d : V) (t : Tbl V) {lo hi i : Nat} (h1 : lo ≤ i) (h2 : i < hi) :
    tget d (tclear lo hi t) i = d := by
  induction t with
  | nil => rfl
  | cons e t ih =>
    obtain ⟨k, v⟩ := e
    by_cases hk : lo ≤ k ∧ k < hi
    · simp [tclear, hk, ih]
    · have h3 : i ≠ k := by rintro rfl; exact hk ⟨h1, h2⟩
      have hk' : ¬ ((decide (lo ≤ k) && decide (k < hi)) = true) := by simpa using hk
      by_cases hl : i < k
      · simp [tclear, hk', tget, hl]
      · simp [tclear, hk', tget, hl, h3, ih]

/-- Nothing below the bound of a canonical table is listed. -/
theorem tget_below (d : V) (t : Tbl V) {lo i : Nat} (w : twf d lo t = true) (h : i < lo) : tget d t i = d := by
  cases t with
  | nil => rfl
  | cons e t =>
    obtain ⟨k, v⟩ := e
    simp only [twf, Bool.and_eq_true, decide_eq_true_eq] at w
    have : i < k := by omega
    simp [tget, this]

theorem tget_tclear_out (d : V) (t : Tbl V) {b lo hi i : Nat} (w : twf d b t = true) (h : i < lo ∨ hi ≤ i) :
    tget d (tclear lo hi t) i = tget d t i := by
  induction t generalizing b with
  | nil => rfl
  | cons e t ih =>
    obtain ⟨k, v⟩ := e
    simp only [twf, Bool.and_eq_true, decide_eq_true_eq] at w
    by_cases hk : lo ≤ k ∧ k < hi
    · have h3 : i ≠ k := by omega
      by_cases hl : i < k
      · have h4 : tget d t i = d := tget_below d t w.2 (by omega)
        simp [tclear, hk, ih w.2, tget, hl, h4]
      · simp [tclear, hk, ih w.2, tget, hl, h3]
    · have hk' : ¬ ((decide (lo ≤ k) && decide (k < hi)) = true) := by simpa using hk
      by_cases hl : i < k
      · simp [tclear, hk', tget, hl]
      · simp [tclear, hk', tget, hl, ih w.2]

/-- Clearing a range keeps the canonical form. -/
theorem twf_tclear (d : V) (t : Tbl V) {b lo hi : Nat} (w : twf d b t = true) :
    twf d b (tclear lo hi t) = true := by
  induction t generalizing b with
  | nil => rfl
  | cons e t ih =>
    obtain ⟨k, v⟩ := e
    simp only [twf, Bool.and_eq_true, decide_eq_true_eq] at w
    by_cases hk : lo ≤ k ∧ k < hi
    · simp only [tclear, hk, decide_true, Bool.and_true, if_true]
      exact twf_mono d _ (by omega) (ih w.2)
    · have hk' : ¬ ((decide (lo ≤ k) && decide (k < hi)) = true) := by simpa using hk
      simp [tclear, hk', twf, w.1.1, w.1.2, ih w.2]

/-! ### Byte memories -/

/-- A byte reads as it was written, and every other byte as before. -/
theorem byteAt_putByte (m : List Host.Cell) (a c : Nat) (b : Byte) :
    byteAt (putByte m a b) c = if c = a then b else byteAt m c := tget_tset _ _ _ _ _

/-- Bytes outside the written ones read as before. -/
theorem byteAt_putBytes_out (m : List Host.Cell) (a c : Nat) (bs : Bytes) (h : c < a ∨ a + bs.length ≤ c) :
    byteAt (putBytes m a bs) c = byteAt m c := by
  induction bs generalizing m a with
  | nil => rfl
  | cons b bs ih =>
    simp only [List.length_cons] at h
    have h1 : c ≠ a := by omega
    rw [putBytes, ih _ _ (by omega), byteAt_putByte, if_neg h1]

/-- A written byte reads as it was written. -/
theorem byteAt_putBytes_in (m : List Host.Cell) (a n : Nat) (bs : Bytes) (h : n < bs.length) :
    byteAt (putBytes m a bs) (a + n) = bs[n] := by
  induction bs generalizing m a n with
  | nil => simp at h
  | cons b bs ih =>
    cases n with
    | zero =>
      rw [putBytes, byteAt_putBytes_out _ _ _ _ (by omega), Nat.add_zero, byteAt_putByte, if_pos rfl]
      rfl
    | succ n =>
      have := ih (putByte m a b) (a + 1) n (by simpa using h)
      rw [putBytes, show a + (n + 1) = a + 1 + n by omega, this]
      rfl

/-- The bytes of a range read as they were written. -/
theorem bytesAt_putBytes (m : List Host.Cell) (a : Nat) (bs : Bytes) :
    bytesAt (putBytes m a bs) a bs.length = bs := by
  induction bs generalizing m a with
  | nil => rfl
  | cons b bs ih =>
    rw [List.length_cons, bytesAt, putBytes, ih, byteAt_putBytes_out _ _ _ _ (by omega), byteAt_putByte, if_pos rfl]

/-- A range that a write does not touch reads as before. -/
theorem bytesAt_putBytes_out (m : List Host.Cell) (a c n : Nat) (bs : Bytes)
    (h : c + n ≤ a ∨ a + bs.length ≤ c) : bytesAt (putBytes m a bs) c n = bytesAt m c n := by
  induction n generalizing c with
  | zero => rfl
  | succ n ih =>
    rw [bytesAt, bytesAt, ih (c + 1) (by omega), byteAt_putBytes_out _ _ _ _ (by omega)]

theorem wf_putByte {m : List Host.Cell} (a : Nat) (b : Byte) (w : Memory.wf m = true) :
    Memory.wf (putByte m a b) = true := twf_tset _ _ _ (Nat.zero_le a) w

theorem wf_putBytes {m : List Host.Cell} (a : Nat) (bs : Bytes) (w : Memory.wf m = true) :
    Memory.wf (putBytes m a bs) = true := by
  induction bs generalizing m a with
  | nil => exact w
  | cons b bs ih => exact ih (a + 1) (wf_putByte a b w)

theorem wf_zeroRange {m : List Host.Cell} (lo hi : Nat) (w : Memory.wf m = true) :
    Memory.wf (zeroRange m lo hi) = true := twf_tclear _ _ w

end Sys2Proof.Machine
end

