-- ==== Sys2Proof/Laws/State.lean ====
section
/-! SUPPORT. The projections of every plain update of the state: what each changes, and that it changes
nothing else. Later proofs cite these and never unfold a record update. -/

namespace Sys2Proof.Machine

variable (s : State)


/-! ### setObj -/

@[simp] theorem State.setObj_st (i n v : Nat) : (s.setObj i n v).st = s.st := rfl
@[simp] theorem State.setObj_since (i n v : Nat) : (s.setObj i n v).since = s.since := rfl
@[simp] theorem State.setObj_now (i n v : Nat) : (s.setObj i n v).now = s.now := rfl
@[simp] theorem State.setObj_log (i n v : Nat) : (s.setObj i n v).log = s.log := rfl
@[simp] theorem State.setObj_anat (i n v : Nat) : (s.setObj i n v).anat = s.anat := rfl
@[simp] theorem State.setObj_stored (i n v : Nat) : (s.setObj i n v).stored = s.stored := rfl
@[simp] theorem State.setObj_ctrs (i n v : Nat) : (s.setObj i n v).ctrs = s.ctrs := rfl
@[simp] theorem State.setObj_ctrSince (i n v : Nat) : (s.setObj i n v).ctrSince = s.ctrSince := rfl
@[simp] theorem State.setObj_stackMem (i n v : Nat) : (s.setObj i n v).stackMem = s.stackMem := rfl
@[simp] theorem State.setObj_commonsMem (i n v : Nat) : (s.setObj i n v).commonsMem = s.commonsMem := rfl
@[simp] theorem State.setObj_spadMem (i n v : Nat) : (s.setObj i n v).spadMem = s.spadMem := rfl
@[simp] theorem State.setObj_tiles (i n v : Nat) : (s.setObj i n v).tiles = s.tiles := rfl
@[simp] theorem State.setObj_eng (i n v : Nat) : (s.setObj i n v).eng = s.eng := rfl
@[simp] theorem State.setObj_flow (i n v : Nat) : (s.setObj i n v).flow = s.flow := rfl
@[simp] theorem State.setObj_stk (i n v : Nat) : (s.setObj i n v).stk = s.stk := rfl
@[simp] theorem State.setObj_net (i n v : Nat) : (s.setObj i n v).net = s.net := rfl
@[simp] theorem State.setObj_fab (i n v : Nat) : (s.setObj i n v).fab = s.fab := rfl
@[simp] theorem State.setObj_clk (i n v : Nat) : (s.setObj i n v).clk = s.clk := rfl
@[simp] theorem State.setObj_pwr (i n v : Nat) : (s.setObj i n v).pwr = s.pwr := rfl
@[simp] theorem State.setObj_thm (i n v : Nat) : (s.setObj i n v).thm = s.thm := rfl
@[simp] theorem State.setObj_sec (i n v : Nat) : (s.setObj i n v).sec = s.sec := rfl
@[simp] theorem State.setObj_hst (i n v : Nat) : (s.setObj i n v).hst = s.hst := rfl
@[simp] theorem State.setObj_mgmt (i n v : Nat) : (s.setObj i n v).mgmt = s.mgmt := rfl
@[simp] theorem State.setObj_boot (i n v : Nat) : (s.setObj i n v).boot = s.boot := rfl
@[simp] theorem State.setObj_recov (i n v : Nat) : (s.setObj i n v).recov = s.recov := rfl
@[simp] theorem State.setObj_pins (i n v : Nat) : (s.setObj i n v).pins = s.pins := rfl
@[simp] theorem State.setObj_sent (i n v : Nat) : (s.setObj i n v).sent = s.sent := rfl
@[simp] theorem State.setObj_answer (i n v : Nat) : (s.setObj i n v).answer = s.answer := rfl
@[simp] theorem State.setObj_freeCount (i n v : Nat) : (s.setObj i n v).freeCount = s.freeCount := rfl
@[simp] theorem State.setObj_pending (i n v : Nat) : (s.setObj i n v).pending = s.pending := rfl

/-! ### count -/

@[simp] theorem State.count_st (k : CtrSet) (r o n : Nat) : (s.count k r o n).st = s.st := rfl
@[simp] theorem State.count_since (k : CtrSet) (r o n : Nat) : (s.count k r o n).since = s.since := rfl
@[simp] theorem State.count_now (k : CtrSet) (r o n : Nat) : (s.count k r o n).now = s.now := rfl
@[simp] theorem State.count_log (k : CtrSet) (r o n : Nat) : (s.count k r o n).log = s.log := rfl
@[simp] theorem State.count_anat (k : CtrSet) (r o n : Nat) : (s.count k r o n).anat = s.anat := rfl
@[simp] theorem State.count_dict (k : CtrSet) (r o n : Nat) : (s.count k r o n).dict = s.dict := rfl
@[simp] theorem State.count_stored (k : CtrSet) (r o n : Nat) : (s.count k r o n).stored = s.stored := rfl
@[simp] theorem State.count_ctrSince (k : CtrSet) (r o n : Nat) : (s.count k r o n).ctrSince = s.ctrSince := rfl
@[simp] theorem State.count_stackMem (k : CtrSet) (r o n : Nat) : (s.count k r o n).stackMem = s.stackMem := rfl
@[simp] theorem State.count_commonsMem (k : CtrSet) (r o n : Nat) : (s.count k r o n).commonsMem = s.commonsMem := rfl
@[simp] theorem State.count_spadMem (k : CtrSet) (r o n : Nat) : (s.count k r o n).spadMem = s.spadMem := rfl
@[simp] theorem State.count_tiles (k : CtrSet) (r o n : Nat) : (s.count k r o n).tiles = s.tiles := rfl
@[simp] theorem State.count_eng (k : CtrSet) (r o n : Nat) : (s.count k r o n).eng = s.eng := rfl
@[simp] theorem State.count_flow (k : CtrSet) (r o n : Nat) : (s.count k r o n).flow = s.flow := rfl
@[simp] theorem State.count_stk (k : CtrSet) (r o n : Nat) : (s.count k r o n).stk = s.stk := rfl
@[simp] theorem State.count_net (k : CtrSet) (r o n : Nat) : (s.count k r o n).net = s.net := rfl
@[simp] theorem State.count_fab (k : CtrSet) (r o n : Nat) : (s.count k r o n).fab = s.fab := rfl
@[simp] theorem State.count_clk (k : CtrSet) (r o n : Nat) : (s.count k r o n).clk = s.clk := rfl
@[simp] theorem State.count_pwr (k : CtrSet) (r o n : Nat) : (s.count k r o n).pwr = s.pwr := rfl
@[simp] theorem State.count_thm (k : CtrSet) (r o n : Nat) : (s.count k r o n).thm = s.thm := rfl
@[simp] theorem State.count_sec (k : CtrSet) (r o n : Nat) : (s.count k r o n).sec = s.sec := rfl
@[simp] theorem State.count_hst (k : CtrSet) (r o n : Nat) : (s.count k r o n).hst = s.hst := rfl
@[simp] theorem State.count_mgmt (k : CtrSet) (r o n : Nat) : (s.count k r o n).mgmt = s.mgmt := rfl
@[simp] theorem State.count_boot (k : CtrSet) (r o n : Nat) : (s.count k r o n).boot = s.boot := rfl
@[simp] theorem State.count_recov (k : CtrSet) (r o n : Nat) : (s.count k r o n).recov = s.recov := rfl
@[simp] theorem State.count_pins (k : CtrSet) (r o n : Nat) : (s.count k r o n).pins = s.pins := rfl
@[simp] theorem State.count_sent (k : CtrSet) (r o n : Nat) : (s.count k r o n).sent = s.sent := rfl
@[simp] theorem State.count_answer (k : CtrSet) (r o n : Nat) : (s.count k r o n).answer = s.answer := rfl
@[simp] theorem State.count_freeCount (k : CtrSet) (r o n : Nat) : (s.count k r o n).freeCount = s.freeCount := rfl
@[simp] theorem State.count_pending (k : CtrSet) (r o n : Nat) : (s.count k r o n).pending = s.pending := rfl

/-! ### count64 -/

@[simp] theorem State.count64_st (k : CtrSet) (r o n : Nat) : (s.count64 k r o n).st = s.st := rfl
@[simp] theorem State.count64_since (k : CtrSet) (r o n : Nat) : (s.count64 k r o n).since = s.since := rfl
@[simp] theorem State.count64_now (k : CtrSet) (r o n : Nat) : (s.count64 k r o n).now = s.now := rfl
@[simp] theorem State.count64_log (k : CtrSet) (r o n : Nat) : (s.count64 k r o n).log = s.log := rfl
@[simp] theorem State.count64_anat (k : CtrSet) (r o n : Nat) : (s.count64 k r o n).anat = s.anat := rfl
@[simp] theorem State.count64_dict (k : CtrSet) (r o n : Nat) : (s.count64 k r o n).dict = s.dict := rfl
@[simp] theorem State.count64_stored (k : CtrSet) (r o n : Nat) : (s.count64 k r o n).stored = s.stored := rfl
@[simp] theorem State.count64_ctrSince (k : CtrSet) (r o n : Nat) : (s.count64 k r o n).ctrSince = s.ctrSince := rfl
@[simp] theorem State.count64_stackMem (k : CtrSet) (r o n : Nat) : (s.count64 k r o n).stackMem = s.stackMem := rfl
@[simp] theorem State.count64_commonsMem (k : CtrSet) (r o n : Nat) : (s.count64 k r o n).commonsMem = s.commonsMem := rfl
@[simp] theorem State.count64_spadMem (k : CtrSet) (r o n : Nat) : (s.count64 k r o n).spadMem = s.spadMem := rfl
@[simp] theorem State.count64_tiles (k : CtrSet) (r o n : Nat) : (s.count64 k r o n).tiles = s.tiles := rfl
@[simp] theorem State.count64_eng (k : CtrSet) (r o n : Nat) : (s.count64 k r o n).eng = s.eng := rfl
@[simp] theorem State.count64_flow (k : CtrSet) (r o n : Nat) : (s.count64 k r o n).flow = s.flow := rfl
@[simp] theorem State.count64_stk (k : CtrSet) (r o n : Nat) : (s.count64 k r o n).stk = s.stk := rfl
@[simp] theorem State.count64_net (k : CtrSet) (r o n : Nat) : (s.count64 k r o n).net = s.net := rfl
@[simp] theorem State.count64_fab (k : CtrSet) (r o n : Nat) : (s.count64 k r o n).fab = s.fab := rfl
@[simp] theorem State.count64_clk (k : CtrSet) (r o n : Nat) : (s.count64 k r o n).clk = s.clk := rfl
@[simp] theorem State.count64_pwr (k : CtrSet) (r o n : Nat) : (s.count64 k r o n).pwr = s.pwr := rfl
@[simp] theorem State.count64_thm (k : CtrSet) (r o n : Nat) : (s.count64 k r o n).thm = s.thm := rfl
@[simp] theorem State.count64_sec (k : CtrSet) (r o n : Nat) : (s.count64 k r o n).sec = s.sec := rfl
@[simp] theorem State.count64_hst (k : CtrSet) (r o n : Nat) : (s.count64 k r o n).hst = s.hst := rfl
@[simp] theorem State.count64_mgmt (k : CtrSet) (r o n : Nat) : (s.count64 k r o n).mgmt = s.mgmt := rfl
@[simp] theorem State.count64_boot (k : CtrSet) (r o n : Nat) : (s.count64 k r o n).boot = s.boot := rfl
@[simp] theorem State.count64_recov (k : CtrSet) (r o n : Nat) : (s.count64 k r o n).recov = s.recov := rfl
@[simp] theorem State.count64_pins (k : CtrSet) (r o n : Nat) : (s.count64 k r o n).pins = s.pins := rfl
@[simp] theorem State.count64_sent (k : CtrSet) (r o n : Nat) : (s.count64 k r o n).sent = s.sent := rfl
@[simp] theorem State.count64_answer (k : CtrSet) (r o n : Nat) : (s.count64 k r o n).answer = s.answer := rfl
@[simp] theorem State.count64_freeCount (k : CtrSet) (r o n : Nat) : (s.count64 k r o n).freeCount = s.freeCount := rfl
@[simp] theorem State.count64_pending (k : CtrSet) (r o n : Nat) : (s.count64 k r o n).pending = s.pending := rfl

/-! ### countMax -/

@[simp] theorem State.countMax_st (k : CtrSet) (r o n : Nat) : (s.countMax k r o n).st = s.st := rfl
@[simp] theorem State.countMax_since (k : CtrSet) (r o n : Nat) : (s.countMax k r o n).since = s.since := rfl
@[simp] theorem State.countMax_now (k : CtrSet) (r o n : Nat) : (s.countMax k r o n).now = s.now := rfl
@[simp] theorem State.countMax_log (k : CtrSet) (r o n : Nat) : (s.countMax k r o n).log = s.log := rfl
@[simp] theorem State.countMax_anat (k : CtrSet) (r o n : Nat) : (s.countMax k r o n).anat = s.anat := rfl
@[simp] theorem State.countMax_dict (k : CtrSet) (r o n : Nat) : (s.countMax k r o n).dict = s.dict := rfl
@[simp] theorem State.countMax_stored (k : CtrSet) (r o n : Nat) : (s.countMax k r o n).stored = s.stored := rfl
@[simp] theorem State.countMax_ctrSince (k : CtrSet) (r o n : Nat) : (s.countMax k r o n).ctrSince = s.ctrSince := rfl
@[simp] theorem State.countMax_stackMem (k : CtrSet) (r o n : Nat) : (s.countMax k r o n).stackMem = s.stackMem := rfl
@[simp] theorem State.countMax_commonsMem (k : CtrSet) (r o n : Nat) : (s.countMax k r o n).commonsMem = s.commonsMem := rfl
@[simp] theorem State.countMax_spadMem (k : CtrSet) (r o n : Nat) : (s.countMax k r o n).spadMem = s.spadMem := rfl
@[simp] theorem State.countMax_tiles (k : CtrSet) (r o n : Nat) : (s.countMax k r o n).tiles = s.tiles := rfl
@[simp] theorem State.countMax_eng (k : CtrSet) (r o n : Nat) : (s.countMax k r o n).eng = s.eng := rfl
@[simp] theorem State.countMax_flow (k : CtrSet) (r o n : Nat) : (s.countMax k r o n).flow = s.flow := rfl
@[simp] theorem State.countMax_stk (k : CtrSet) (r o n : Nat) : (s.countMax k r o n).stk = s.stk := rfl
@[simp] theorem State.countMax_net (k : CtrSet) (r o n : Nat) : (s.countMax k r o n).net = s.net := rfl
@[simp] theorem State.countMax_fab (k : CtrSet) (r o n : Nat) : (s.countMax k r o n).fab = s.fab := rfl
@[simp] theorem State.countMax_clk (k : CtrSet) (r o n : Nat) : (s.countMax k r o n).clk = s.clk := rfl
@[simp] theorem State.countMax_pwr (k : CtrSet) (r o n : Nat) : (s.countMax k r o n).pwr = s.pwr := rfl
@[simp] theorem State.countMax_thm (k : CtrSet) (r o n : Nat) : (s.countMax k r o n).thm = s.thm := rfl
@[simp] theorem State.countMax_sec (k : CtrSet) (r o n : Nat) : (s.countMax k r o n).sec = s.sec := rfl
@[simp] theorem State.countMax_hst (k : CtrSet) (r o n : Nat) : (s.countMax k r o n).hst = s.hst := rfl
@[simp] theorem State.countMax_mgmt (k : CtrSet) (r o n : Nat) : (s.countMax k r o n).mgmt = s.mgmt := rfl
@[simp] theorem State.countMax_boot (k : CtrSet) (r o n : Nat) : (s.countMax k r o n).boot = s.boot := rfl
@[simp] theorem State.countMax_recov (k : CtrSet) (r o n : Nat) : (s.countMax k r o n).recov = s.recov := rfl
@[simp] theorem State.countMax_pins (k : CtrSet) (r o n : Nat) : (s.countMax k r o n).pins = s.pins := rfl
@[simp] theorem State.countMax_sent (k : CtrSet) (r o n : Nat) : (s.countMax k r o n).sent = s.sent := rfl
@[simp] theorem State.countMax_answer (k : CtrSet) (r o n : Nat) : (s.countMax k r o n).answer = s.answer := rfl
@[simp] theorem State.countMax_freeCount (k : CtrSet) (r o n : Nat) : (s.countMax k r o n).freeCount = s.freeCount := rfl
@[simp] theorem State.countMax_pending (k : CtrSet) (r o n : Nat) : (s.countMax k r o n).pending = s.pending := rfl

/-! ### clearCounters -/

@[simp] theorem State.clearCounters_st (k : CtrSet) : (s.clearCounters k).st = s.st := rfl
@[simp] theorem State.clearCounters_since (k : CtrSet) : (s.clearCounters k).since = s.since := rfl
@[simp] theorem State.clearCounters_now (k : CtrSet) : (s.clearCounters k).now = s.now := rfl
@[simp] theorem State.clearCounters_log (k : CtrSet) : (s.clearCounters k).log = s.log := rfl
@[simp] theorem State.clearCounters_anat (k : CtrSet) : (s.clearCounters k).anat = s.anat := rfl
@[simp] theorem State.clearCounters_dict (k : CtrSet) : (s.clearCounters k).dict = s.dict := rfl
@[simp] theorem State.clearCounters_stored (k : CtrSet) : (s.clearCounters k).stored = s.stored := rfl
@[simp] theorem State.clearCounters_stackMem (k : CtrSet) : (s.clearCounters k).stackMem = s.stackMem := rfl
@[simp] theorem State.clearCounters_commonsMem (k : CtrSet) : (s.clearCounters k).commonsMem = s.commonsMem := rfl
@[simp] theorem State.clearCounters_spadMem (k : CtrSet) : (s.clearCounters k).spadMem = s.spadMem := rfl
@[simp] theorem State.clearCounters_tiles (k : CtrSet) : (s.clearCounters k).tiles = s.tiles := rfl
@[simp] theorem State.clearCounters_eng (k : CtrSet) : (s.clearCounters k).eng = s.eng := rfl
@[simp] theorem State.clearCounters_flow (k : CtrSet) : (s.clearCounters k).flow = s.flow := rfl
@[simp] theorem State.clearCounters_stk (k : CtrSet) : (s.clearCounters k).stk = s.stk := rfl
@[simp] theorem State.clearCounters_net (k : CtrSet) : (s.clearCounters k).net = s.net := rfl
@[simp] theorem State.clearCounters_fab (k : CtrSet) : (s.clearCounters k).fab = s.fab := rfl
@[simp] theorem State.clearCounters_clk (k : CtrSet) : (s.clearCounters k).clk = s.clk := rfl
@[simp] theorem State.clearCounters_pwr (k : CtrSet) : (s.clearCounters k).pwr = s.pwr := rfl
@[simp] theorem State.clearCounters_thm (k : CtrSet) : (s.clearCounters k).thm = s.thm := rfl
@[simp] theorem State.clearCounters_sec (k : CtrSet) : (s.clearCounters k).sec = s.sec := rfl
@[simp] theorem State.clearCounters_hst (k : CtrSet) : (s.clearCounters k).hst = s.hst := rfl
@[simp] theorem State.clearCounters_mgmt (k : CtrSet) : (s.clearCounters k).mgmt = s.mgmt := rfl
@[simp] theorem State.clearCounters_boot (k : CtrSet) : (s.clearCounters k).boot = s.boot := rfl
@[simp] theorem State.clearCounters_recov (k : CtrSet) : (s.clearCounters k).recov = s.recov := rfl
@[simp] theorem State.clearCounters_pins (k : CtrSet) : (s.clearCounters k).pins = s.pins := rfl
@[simp] theorem State.clearCounters_sent (k : CtrSet) : (s.clearCounters k).sent = s.sent := rfl
@[simp] theorem State.clearCounters_answer (k : CtrSet) : (s.clearCounters k).answer = s.answer := rfl
@[simp] theorem State.clearCounters_freeCount (k : CtrSet) : (s.clearCounters k).freeCount = s.freeCount := rfl
@[simp] theorem State.clearCounters_pending (k : CtrSet) : (s.clearCounters k).pending = s.pending := rfl

/-! ### modSite -/

@[simp] theorem State.modSite_st (h : Nat) (f : Site → Site) : (s.modSite h f).st = s.st := rfl
@[simp] theorem State.modSite_since (h : Nat) (f : Site → Site) : (s.modSite h f).since = s.since := rfl
@[simp] theorem State.modSite_now (h : Nat) (f : Site → Site) : (s.modSite h f).now = s.now := rfl
@[simp] theorem State.modSite_log (h : Nat) (f : Site → Site) : (s.modSite h f).log = s.log := rfl
@[simp] theorem State.modSite_anat (h : Nat) (f : Site → Site) : (s.modSite h f).anat = s.anat := rfl
@[simp] theorem State.modSite_dict (h : Nat) (f : Site → Site) : (s.modSite h f).dict = s.dict := rfl
@[simp] theorem State.modSite_stored (h : Nat) (f : Site → Site) : (s.modSite h f).stored = s.stored := rfl
@[simp] theorem State.modSite_ctrs (h : Nat) (f : Site → Site) : (s.modSite h f).ctrs = s.ctrs := rfl
@[simp] theorem State.modSite_ctrSince (h : Nat) (f : Site → Site) : (s.modSite h f).ctrSince = s.ctrSince := rfl
@[simp] theorem State.modSite_stackMem (h : Nat) (f : Site → Site) : (s.modSite h f).stackMem = s.stackMem := rfl
@[simp] theorem State.modSite_commonsMem (h : Nat) (f : Site → Site) : (s.modSite h f).commonsMem = s.commonsMem := rfl
@[simp] theorem State.modSite_spadMem (h : Nat) (f : Site → Site) : (s.modSite h f).spadMem = s.spadMem := rfl
@[simp] theorem State.modSite_tiles (h : Nat) (f : Site → Site) : (s.modSite h f).tiles = s.tiles := rfl
@[simp] theorem State.modSite_eng (h : Nat) (f : Site → Site) : (s.modSite h f).eng = s.eng := rfl
@[simp] theorem State.modSite_flow (h : Nat) (f : Site → Site) : (s.modSite h f).flow = s.flow := rfl
@[simp] theorem State.modSite_stk (h : Nat) (f : Site → Site) : (s.modSite h f).stk = s.stk := rfl
@[simp] theorem State.modSite_net (h : Nat) (f : Site → Site) : (s.modSite h f).net = s.net := rfl
@[simp] theorem State.modSite_fab (h : Nat) (f : Site → Site) : (s.modSite h f).fab = s.fab := rfl
@[simp] theorem State.modSite_clk (h : Nat) (f : Site → Site) : (s.modSite h f).clk = s.clk := rfl
@[simp] theorem State.modSite_pwr (h : Nat) (f : Site → Site) : (s.modSite h f).pwr = s.pwr := rfl
@[simp] theorem State.modSite_thm (h : Nat) (f : Site → Site) : (s.modSite h f).thm = s.thm := rfl
@[simp] theorem State.modSite_sec (h : Nat) (f : Site → Site) : (s.modSite h f).sec = s.sec := rfl
@[simp] theorem State.modSite_mgmt (h : Nat) (f : Site → Site) : (s.modSite h f).mgmt = s.mgmt := rfl
@[simp] theorem State.modSite_boot (h : Nat) (f : Site → Site) : (s.modSite h f).boot = s.boot := rfl
@[simp] theorem State.modSite_recov (h : Nat) (f : Site → Site) : (s.modSite h f).recov = s.recov := rfl
@[simp] theorem State.modSite_pins (h : Nat) (f : Site → Site) : (s.modSite h f).pins = s.pins := rfl
@[simp] theorem State.modSite_sent (h : Nat) (f : Site → Site) : (s.modSite h f).sent = s.sent := rfl
@[simp] theorem State.modSite_answer (h : Nat) (f : Site → Site) : (s.modSite h f).answer = s.answer := rfl
@[simp] theorem State.modSite_freeCount (h : Nat) (f : Site → Site) : (s.modSite h f).freeCount = s.freeCount := rfl
@[simp] theorem State.modSite_pending (h : Nat) (f : Site → Site) : (s.modSite h f).pending = s.pending := rfl

/-! ### setSession -/

@[simp] theorem State.setSession_st (n : Nat) (x : Option Session) : (s.setSession n x).st = s.st := rfl
@[simp] theorem State.setSession_since (n : Nat) (x : Option Session) : (s.setSession n x).since = s.since := rfl
@[simp] theorem State.setSession_now (n : Nat) (x : Option Session) : (s.setSession n x).now = s.now := rfl
@[simp] theorem State.setSession_log (n : Nat) (x : Option Session) : (s.setSession n x).log = s.log := rfl
@[simp] theorem State.setSession_anat (n : Nat) (x : Option Session) : (s.setSession n x).anat = s.anat := rfl
@[simp] theorem State.setSession_dict (n : Nat) (x : Option Session) : (s.setSession n x).dict = s.dict := rfl
@[simp] theorem State.setSession_stored (n : Nat) (x : Option Session) : (s.setSession n x).stored = s.stored := rfl
@[simp] theorem State.setSession_ctrs (n : Nat) (x : Option Session) : (s.setSession n x).ctrs = s.ctrs := rfl
@[simp] theorem State.setSession_ctrSince (n : Nat) (x : Option Session) : (s.setSession n x).ctrSince = s.ctrSince := rfl
@[simp] theorem State.setSession_stackMem (n : Nat) (x : Option Session) : (s.setSession n x).stackMem = s.stackMem := rfl
@[simp] theorem State.setSession_commonsMem (n : Nat) (x : Option Session) : (s.setSession n x).commonsMem = s.commonsMem := rfl
@[simp] theorem State.setSession_spadMem (n : Nat) (x : Option Session) : (s.setSession n x).spadMem = s.spadMem := rfl
@[simp] theorem State.setSession_tiles (n : Nat) (x : Option Session) : (s.setSession n x).tiles = s.tiles := rfl
@[simp] theorem State.setSession_eng (n : Nat) (x : Option Session) : (s.setSession n x).eng = s.eng := rfl
@[simp] theorem State.setSession_flow (n : Nat) (x : Option Session) : (s.setSession n x).flow = s.flow := rfl
@[simp] theorem State.setSession_stk (n : Nat) (x : Option Session) : (s.setSession n x).stk = s.stk := rfl
@[simp] theorem State.setSession_net (n : Nat) (x : Option Session) : (s.setSession n x).net = s.net := rfl
@[simp] theorem State.setSession_fab (n : Nat) (x : Option Session) : (s.setSession n x).fab = s.fab := rfl
@[simp] theorem State.setSession_clk (n : Nat) (x : Option Session) : (s.setSession n x).clk = s.clk := rfl
@[simp] theorem State.setSession_pwr (n : Nat) (x : Option Session) : (s.setSession n x).pwr = s.pwr := rfl
@[simp] theorem State.setSession_thm (n : Nat) (x : Option Session) : (s.setSession n x).thm = s.thm := rfl
@[simp] theorem State.setSession_sec (n : Nat) (x : Option Session) : (s.setSession n x).sec = s.sec := rfl
@[simp] theorem State.setSession_hst (n : Nat) (x : Option Session) : (s.setSession n x).hst = s.hst := rfl
@[simp] theorem State.setSession_boot (n : Nat) (x : Option Session) : (s.setSession n x).boot = s.boot := rfl
@[simp] theorem State.setSession_recov (n : Nat) (x : Option Session) : (s.setSession n x).recov = s.recov := rfl
@[simp] theorem State.setSession_pins (n : Nat) (x : Option Session) : (s.setSession n x).pins = s.pins := rfl
@[simp] theorem State.setSession_sent (n : Nat) (x : Option Session) : (s.setSession n x).sent = s.sent := rfl
@[simp] theorem State.setSession_answer (n : Nat) (x : Option Session) : (s.setSession n x).answer = s.answer := rfl
@[simp] theorem State.setSession_freeCount (n : Nat) (x : Option Session) : (s.setSession n x).freeCount = s.freeCount := rfl
@[simp] theorem State.setSession_pending (n : Nat) (x : Option Session) : (s.setSession n x).pending = s.pending := rfl

/-! ### send -/

@[simp] theorem State.send_st (m : Msg) : (s.send m).st = s.st := rfl
@[simp] theorem State.send_since (m : Msg) : (s.send m).since = s.since := rfl
@[simp] theorem State.send_now (m : Msg) : (s.send m).now = s.now := rfl
@[simp] theorem State.send_log (m : Msg) : (s.send m).log = s.log := rfl
@[simp] theorem State.send_anat (m : Msg) : (s.send m).anat = s.anat := rfl
@[simp] theorem State.send_dict (m : Msg) : (s.send m).dict = s.dict := rfl
@[simp] theorem State.send_stored (m : Msg) : (s.send m).stored = s.stored := rfl
@[simp] theorem State.send_ctrs (m : Msg) : (s.send m).ctrs = s.ctrs := rfl
@[simp] theorem State.send_ctrSince (m : Msg) : (s.send m).ctrSince = s.ctrSince := rfl
@[simp] theorem State.send_stackMem (m : Msg) : (s.send m).stackMem = s.stackMem := rfl
@[simp] theorem State.send_commonsMem (m : Msg) : (s.send m).commonsMem = s.commonsMem := rfl
@[simp] theorem State.send_spadMem (m : Msg) : (s.send m).spadMem = s.spadMem := rfl
@[simp] theorem State.send_tiles (m : Msg) : (s.send m).tiles = s.tiles := rfl
@[simp] theorem State.send_eng (m : Msg) : (s.send m).eng = s.eng := rfl
@[simp] theorem State.send_flow (m : Msg) : (s.send m).flow = s.flow := rfl
@[simp] theorem State.send_stk (m : Msg) : (s.send m).stk = s.stk := rfl
@[simp] theorem State.send_net (m : Msg) : (s.send m).net = s.net := rfl
@[simp] theorem State.send_fab (m : Msg) : (s.send m).fab = s.fab := rfl
@[simp] theorem State.send_clk (m : Msg) : (s.send m).clk = s.clk := rfl
@[simp] theorem State.send_pwr (m : Msg) : (s.send m).pwr = s.pwr := rfl
@[simp] theorem State.send_thm (m : Msg) : (s.send m).thm = s.thm := rfl
@[simp] theorem State.send_sec (m : Msg) : (s.send m).sec = s.sec := rfl
@[simp] theorem State.send_hst (m : Msg) : (s.send m).hst = s.hst := rfl
@[simp] theorem State.send_mgmt (m : Msg) : (s.send m).mgmt = s.mgmt := rfl
@[simp] theorem State.send_boot (m : Msg) : (s.send m).boot = s.boot := rfl
@[simp] theorem State.send_recov (m : Msg) : (s.send m).recov = s.recov := rfl
@[simp] theorem State.send_pins (m : Msg) : (s.send m).pins = s.pins := rfl
@[simp] theorem State.send_answer (m : Msg) : (s.send m).answer = s.answer := rfl
@[simp] theorem State.send_freeCount (m : Msg) : (s.send m).freeCount = s.freeCount := rfl
@[simp] theorem State.send_pending (m : Msg) : (s.send m).pending = s.pending := rfl

/-! ### ok -/

@[simp] theorem State.ok_st : (s.ok).st = s.st := rfl
@[simp] theorem State.ok_since : (s.ok).since = s.since := rfl
@[simp] theorem State.ok_now : (s.ok).now = s.now := rfl
@[simp] theorem State.ok_log : (s.ok).log = s.log := rfl
@[simp] theorem State.ok_anat : (s.ok).anat = s.anat := rfl
@[simp] theorem State.ok_dict : (s.ok).dict = s.dict := rfl
@[simp] theorem State.ok_stored : (s.ok).stored = s.stored := rfl
@[simp] theorem State.ok_ctrs : (s.ok).ctrs = s.ctrs := rfl
@[simp] theorem State.ok_ctrSince : (s.ok).ctrSince = s.ctrSince := rfl
@[simp] theorem State.ok_stackMem : (s.ok).stackMem = s.stackMem := rfl
@[simp] theorem State.ok_commonsMem : (s.ok).commonsMem = s.commonsMem := rfl
@[simp] theorem State.ok_spadMem : (s.ok).spadMem = s.spadMem := rfl
@[simp] theorem State.ok_tiles : (s.ok).tiles = s.tiles := rfl
@[simp] theorem State.ok_eng : (s.ok).eng = s.eng := rfl
@[simp] theorem State.ok_flow : (s.ok).flow = s.flow := rfl
@[simp] theorem State.ok_stk : (s.ok).stk = s.stk := rfl
@[simp] theorem State.ok_net : (s.ok).net = s.net := rfl
@[simp] theorem State.ok_fab : (s.ok).fab = s.fab := rfl
@[simp] theorem State.ok_clk : (s.ok).clk = s.clk := rfl
@[simp] theorem State.ok_pwr : (s.ok).pwr = s.pwr := rfl
@[simp] theorem State.ok_thm : (s.ok).thm = s.thm := rfl
@[simp] theorem State.ok_sec : (s.ok).sec = s.sec := rfl
@[simp] theorem State.ok_hst : (s.ok).hst = s.hst := rfl
@[simp] theorem State.ok_mgmt : (s.ok).mgmt = s.mgmt := rfl
@[simp] theorem State.ok_boot : (s.ok).boot = s.boot := rfl
@[simp] theorem State.ok_recov : (s.ok).recov = s.recov := rfl
@[simp] theorem State.ok_pins : (s.ok).pins = s.pins := rfl
@[simp] theorem State.ok_sent : (s.ok).sent = s.sent := rfl
@[simp] theorem State.ok_freeCount : (s.ok).freeCount = s.freeCount := rfl
@[simp] theorem State.ok_pending : (s.ok).pending = s.pending := rfl

/-! ### turnAway -/

@[simp] theorem State.turnAway_st : (s.turnAway).st = s.st := rfl
@[simp] theorem State.turnAway_since : (s.turnAway).since = s.since := rfl
@[simp] theorem State.turnAway_now : (s.turnAway).now = s.now := rfl
@[simp] theorem State.turnAway_log : (s.turnAway).log = s.log := rfl
@[simp] theorem State.turnAway_anat : (s.turnAway).anat = s.anat := rfl
@[simp] theorem State.turnAway_dict : (s.turnAway).dict = s.dict := rfl
@[simp] theorem State.turnAway_stored : (s.turnAway).stored = s.stored := rfl
@[simp] theorem State.turnAway_ctrs : (s.turnAway).ctrs = s.ctrs := rfl
@[simp] theorem State.turnAway_ctrSince : (s.turnAway).ctrSince = s.ctrSince := rfl
@[simp] theorem State.turnAway_stackMem : (s.turnAway).stackMem = s.stackMem := rfl
@[simp] theorem State.turnAway_commonsMem : (s.turnAway).commonsMem = s.commonsMem := rfl
@[simp] theorem State.turnAway_spadMem : (s.turnAway).spadMem = s.spadMem := rfl
@[simp] theorem State.turnAway_tiles : (s.turnAway).tiles = s.tiles := rfl
@[simp] theorem State.turnAway_eng : (s.turnAway).eng = s.eng := rfl
@[simp] theorem State.turnAway_flow : (s.turnAway).flow = s.flow := rfl
@[simp] theorem State.turnAway_stk : (s.turnAway).stk = s.stk := rfl
@[simp] theorem State.turnAway_net : (s.turnAway).net = s.net := rfl
@[simp] theorem State.turnAway_fab : (s.turnAway).fab = s.fab := rfl
@[simp] theorem State.turnAway_clk : (s.turnAway).clk = s.clk := rfl
@[simp] theorem State.turnAway_pwr : (s.turnAway).pwr = s.pwr := rfl
@[simp] theorem State.turnAway_thm : (s.turnAway).thm = s.thm := rfl
@[simp] theorem State.turnAway_sec : (s.turnAway).sec = s.sec := rfl
@[simp] theorem State.turnAway_hst : (s.turnAway).hst = s.hst := rfl
@[simp] theorem State.turnAway_mgmt : (s.turnAway).mgmt = s.mgmt := rfl
@[simp] theorem State.turnAway_boot : (s.turnAway).boot = s.boot := rfl
@[simp] theorem State.turnAway_recov : (s.turnAway).recov = s.recov := rfl
@[simp] theorem State.turnAway_pins : (s.turnAway).pins = s.pins := rfl
@[simp] theorem State.turnAway_sent : (s.turnAway).sent = s.sent := rfl
@[simp] theorem State.turnAway_freeCount : (s.turnAway).freeCount = s.freeCount := rfl
@[simp] theorem State.turnAway_pending : (s.turnAway).pending = s.pending := rfl

/-! ### status -/

@[simp] theorem State.status_st (x : Status) : (s.status x).st = s.st := rfl
@[simp] theorem State.status_since (x : Status) : (s.status x).since = s.since := rfl
@[simp] theorem State.status_now (x : Status) : (s.status x).now = s.now := rfl
@[simp] theorem State.status_log (x : Status) : (s.status x).log = s.log := rfl
@[simp] theorem State.status_anat (x : Status) : (s.status x).anat = s.anat := rfl
@[simp] theorem State.status_dict (x : Status) : (s.status x).dict = s.dict := rfl
@[simp] theorem State.status_stored (x : Status) : (s.status x).stored = s.stored := rfl
@[simp] theorem State.status_ctrs (x : Status) : (s.status x).ctrs = s.ctrs := rfl
@[simp] theorem State.status_ctrSince (x : Status) : (s.status x).ctrSince = s.ctrSince := rfl
@[simp] theorem State.status_stackMem (x : Status) : (s.status x).stackMem = s.stackMem := rfl
@[simp] theorem State.status_commonsMem (x : Status) : (s.status x).commonsMem = s.commonsMem := rfl
@[simp] theorem State.status_spadMem (x : Status) : (s.status x).spadMem = s.spadMem := rfl
@[simp] theorem State.status_tiles (x : Status) : (s.status x).tiles = s.tiles := rfl
@[simp] theorem State.status_eng (x : Status) : (s.status x).eng = s.eng := rfl
@[simp] theorem State.status_flow (x : Status) : (s.status x).flow = s.flow := rfl
@[simp] theorem State.status_stk (x : Status) : (s.status x).stk = s.stk := rfl
@[simp] theorem State.status_net (x : Status) : (s.status x).net = s.net := rfl
@[simp] theorem State.status_fab (x : Status) : (s.status x).fab = s.fab := rfl
@[simp] theorem State.status_clk (x : Status) : (s.status x).clk = s.clk := rfl
@[simp] theorem State.status_pwr (x : Status) : (s.status x).pwr = s.pwr := rfl
@[simp] theorem State.status_thm (x : Status) : (s.status x).thm = s.thm := rfl
@[simp] theorem State.status_sec (x : Status) : (s.status x).sec = s.sec := rfl
@[simp] theorem State.status_hst (x : Status) : (s.status x).hst = s.hst := rfl
@[simp] theorem State.status_mgmt (x : Status) : (s.status x).mgmt = s.mgmt := rfl
@[simp] theorem State.status_boot (x : Status) : (s.status x).boot = s.boot := rfl
@[simp] theorem State.status_recov (x : Status) : (s.status x).recov = s.recov := rfl
@[simp] theorem State.status_pins (x : Status) : (s.status x).pins = s.pins := rfl
@[simp] theorem State.status_sent (x : Status) : (s.status x).sent = s.sent := rfl
@[simp] theorem State.status_freeCount (x : Status) : (s.status x).freeCount = s.freeCount := rfl
@[simp] theorem State.status_pending (x : Status) : (s.status x).pending = s.pending := rfl

/-! ### fstatus -/

@[simp] theorem State.fstatus_st (x : FStatus) : (s.fstatus x).st = s.st := rfl
@[simp] theorem State.fstatus_since (x : FStatus) : (s.fstatus x).since = s.since := rfl
@[simp] theorem State.fstatus_now (x : FStatus) : (s.fstatus x).now = s.now := rfl
@[simp] theorem State.fstatus_log (x : FStatus) : (s.fstatus x).log = s.log := rfl
@[simp] theorem State.fstatus_anat (x : FStatus) : (s.fstatus x).anat = s.anat := rfl
@[simp] theorem State.fstatus_dict (x : FStatus) : (s.fstatus x).dict = s.dict := rfl
@[simp] theorem State.fstatus_stored (x : FStatus) : (s.fstatus x).stored = s.stored := rfl
@[simp] theorem State.fstatus_ctrs (x : FStatus) : (s.fstatus x).ctrs = s.ctrs := rfl
@[simp] theorem State.fstatus_ctrSince (x : FStatus) : (s.fstatus x).ctrSince = s.ctrSince := rfl
@[simp] theorem State.fstatus_stackMem (x : FStatus) : (s.fstatus x).stackMem = s.stackMem := rfl
@[simp] theorem State.fstatus_commonsMem (x : FStatus) : (s.fstatus x).commonsMem = s.commonsMem := rfl
@[simp] theorem State.fstatus_spadMem (x : FStatus) : (s.fstatus x).spadMem = s.spadMem := rfl
@[simp] theorem State.fstatus_tiles (x : FStatus) : (s.fstatus x).tiles = s.tiles := rfl
@[simp] theorem State.fstatus_eng (x : FStatus) : (s.fstatus x).eng = s.eng := rfl
@[simp] theorem State.fstatus_flow (x : FStatus) : (s.fstatus x).flow = s.flow := rfl
@[simp] theorem State.fstatus_stk (x : FStatus) : (s.fstatus x).stk = s.stk := rfl
@[simp] theorem State.fstatus_net (x : FStatus) : (s.fstatus x).net = s.net := rfl
@[simp] theorem State.fstatus_fab (x : FStatus) : (s.fstatus x).fab = s.fab := rfl
@[simp] theorem State.fstatus_clk (x : FStatus) : (s.fstatus x).clk = s.clk := rfl
@[simp] theorem State.fstatus_pwr (x : FStatus) : (s.fstatus x).pwr = s.pwr := rfl
@[simp] theorem State.fstatus_thm (x : FStatus) : (s.fstatus x).thm = s.thm := rfl
@[simp] theorem State.fstatus_sec (x : FStatus) : (s.fstatus x).sec = s.sec := rfl
@[simp] theorem State.fstatus_hst (x : FStatus) : (s.fstatus x).hst = s.hst := rfl
@[simp] theorem State.fstatus_mgmt (x : FStatus) : (s.fstatus x).mgmt = s.mgmt := rfl
@[simp] theorem State.fstatus_boot (x : FStatus) : (s.fstatus x).boot = s.boot := rfl
@[simp] theorem State.fstatus_recov (x : FStatus) : (s.fstatus x).recov = s.recov := rfl
@[simp] theorem State.fstatus_pins (x : FStatus) : (s.fstatus x).pins = s.pins := rfl
@[simp] theorem State.fstatus_sent (x : FStatus) : (s.fstatus x).sent = s.sent := rfl
@[simp] theorem State.fstatus_freeCount (x : FStatus) : (s.fstatus x).freeCount = s.freeCount := rfl
@[simp] theorem State.fstatus_pending (x : FStatus) : (s.fstatus x).pending = s.pending := rfl

/-! ### notBefore -/

@[simp] theorem State.notBefore_st (t : Nat) : (s.notBefore t).st = s.st := rfl
@[simp] theorem State.notBefore_since (t : Nat) : (s.notBefore t).since = s.since := rfl
@[simp] theorem State.notBefore_log (t : Nat) : (s.notBefore t).log = s.log := rfl
@[simp] theorem State.notBefore_anat (t : Nat) : (s.notBefore t).anat = s.anat := rfl
@[simp] theorem State.notBefore_dict (t : Nat) : (s.notBefore t).dict = s.dict := rfl
@[simp] theorem State.notBefore_stored (t : Nat) : (s.notBefore t).stored = s.stored := rfl
@[simp] theorem State.notBefore_ctrs (t : Nat) : (s.notBefore t).ctrs = s.ctrs := rfl
@[simp] theorem State.notBefore_ctrSince (t : Nat) : (s.notBefore t).ctrSince = s.ctrSince := rfl
@[simp] theorem State.notBefore_stackMem (t : Nat) : (s.notBefore t).stackMem = s.stackMem := rfl
@[simp] theorem State.notBefore_commonsMem (t : Nat) : (s.notBefore t).commonsMem = s.commonsMem := rfl
@[simp] theorem State.notBefore_spadMem (t : Nat) : (s.notBefore t).spadMem = s.spadMem := rfl
@[simp] theorem State.notBefore_tiles (t : Nat) : (s.notBefore t).tiles = s.tiles := rfl
@[simp] theorem State.notBefore_eng (t : Nat) : (s.notBefore t).eng = s.eng := rfl
@[simp] theorem State.notBefore_flow (t : Nat) : (s.notBefore t).flow = s.flow := rfl
@[simp] theorem State.notBefore_stk (t : Nat) : (s.notBefore t).stk = s.stk := rfl
@[simp] theorem State.notBefore_net (t : Nat) : (s.notBefore t).net = s.net := rfl
@[simp] theorem State.notBefore_fab (t : Nat) : (s.notBefore t).fab = s.fab := rfl
@[simp] theorem State.notBefore_clk (t : Nat) : (s.notBefore t).clk = s.clk := rfl
@[simp] theorem State.notBefore_pwr (t : Nat) : (s.notBefore t).pwr = s.pwr := rfl
@[simp] theorem State.notBefore_thm (t : Nat) : (s.notBefore t).thm = s.thm := rfl
@[simp] theorem State.notBefore_sec (t : Nat) : (s.notBefore t).sec = s.sec := rfl
@[simp] theorem State.notBefore_hst (t : Nat) : (s.notBefore t).hst = s.hst := rfl
@[simp] theorem State.notBefore_mgmt (t : Nat) : (s.notBefore t).mgmt = s.mgmt := rfl
@[simp] theorem State.notBefore_boot (t : Nat) : (s.notBefore t).boot = s.boot := rfl
@[simp] theorem State.notBefore_recov (t : Nat) : (s.notBefore t).recov = s.recov := rfl
@[simp] theorem State.notBefore_pins (t : Nat) : (s.notBefore t).pins = s.pins := rfl
@[simp] theorem State.notBefore_sent (t : Nat) : (s.notBefore t).sent = s.sent := rfl
@[simp] theorem State.notBefore_answer (t : Nat) : (s.notBefore t).answer = s.answer := rfl
@[simp] theorem State.notBefore_freeCount (t : Nat) : (s.notBefore t).freeCount = s.freeCount := rfl
@[simp] theorem State.notBefore_pending (t : Nat) : (s.notBefore t).pending = s.pending := rfl

/-! ### setDom -/

@[simp] theorem State.setDom_st (k : Nat) (b : Bool) : (s.setDom k b).st = s.st := rfl
@[simp] theorem State.setDom_since (k : Nat) (b : Bool) : (s.setDom k b).since = s.since := rfl
@[simp] theorem State.setDom_now (k : Nat) (b : Bool) : (s.setDom k b).now = s.now := rfl
@[simp] theorem State.setDom_log (k : Nat) (b : Bool) : (s.setDom k b).log = s.log := rfl
@[simp] theorem State.setDom_anat (k : Nat) (b : Bool) : (s.setDom k b).anat = s.anat := rfl
@[simp] theorem State.setDom_dict (k : Nat) (b : Bool) : (s.setDom k b).dict = s.dict := rfl
@[simp] theorem State.setDom_stored (k : Nat) (b : Bool) : (s.setDom k b).stored = s.stored := rfl
@[simp] theorem State.setDom_ctrs (k : Nat) (b : Bool) : (s.setDom k b).ctrs = s.ctrs := rfl
@[simp] theorem State.setDom_ctrSince (k : Nat) (b : Bool) : (s.setDom k b).ctrSince = s.ctrSince := rfl
@[simp] theorem State.setDom_stackMem (k : Nat) (b : Bool) : (s.setDom k b).stackMem = s.stackMem := rfl
@[simp] theorem State.setDom_commonsMem (k : Nat) (b : Bool) : (s.setDom k b).commonsMem = s.commonsMem := rfl
@[simp] theorem State.setDom_spadMem (k : Nat) (b : Bool) : (s.setDom k b).spadMem = s.spadMem := rfl
@[simp] theorem State.setDom_tiles (k : Nat) (b : Bool) : (s.setDom k b).tiles = s.tiles := rfl
@[simp] theorem State.setDom_eng (k : Nat) (b : Bool) : (s.setDom k b).eng = s.eng := rfl
@[simp] theorem State.setDom_flow (k : Nat) (b : Bool) : (s.setDom k b).flow = s.flow := rfl
@[simp] theorem State.setDom_stk (k : Nat) (b : Bool) : (s.setDom k b).stk = s.stk := rfl
@[simp] theorem State.setDom_net (k : Nat) (b : Bool) : (s.setDom k b).net = s.net := rfl
@[simp] theorem State.setDom_fab (k : Nat) (b : Bool) : (s.setDom k b).fab = s.fab := rfl
@[simp] theorem State.setDom_clk (k : Nat) (b : Bool) : (s.setDom k b).clk = s.clk := rfl
@[simp] theorem State.setDom_thm (k : Nat) (b : Bool) : (s.setDom k b).thm = s.thm := rfl
@[simp] theorem State.setDom_sec (k : Nat) (b : Bool) : (s.setDom k b).sec = s.sec := rfl
@[simp] theorem State.setDom_hst (k : Nat) (b : Bool) : (s.setDom k b).hst = s.hst := rfl
@[simp] theorem State.setDom_mgmt (k : Nat) (b : Bool) : (s.setDom k b).mgmt = s.mgmt := rfl
@[simp] theorem State.setDom_boot (k : Nat) (b : Bool) : (s.setDom k b).boot = s.boot := rfl
@[simp] theorem State.setDom_recov (k : Nat) (b : Bool) : (s.setDom k b).recov = s.recov := rfl
@[simp] theorem State.setDom_pins (k : Nat) (b : Bool) : (s.setDom k b).pins = s.pins := rfl
@[simp] theorem State.setDom_sent (k : Nat) (b : Bool) : (s.setDom k b).sent = s.sent := rfl
@[simp] theorem State.setDom_answer (k : Nat) (b : Bool) : (s.setDom k b).answer = s.answer := rfl
@[simp] theorem State.setDom_freeCount (k : Nat) (b : Bool) : (s.setDom k b).freeCount = s.freeCount := rfl
@[simp] theorem State.setDom_pending (k : Nat) (b : Bool) : (s.setDom k b).pending = s.pending := rfl

/-! ### modCtx -/

@[simp] theorem State.modCtx_st (c : CtxId) (f : CtxS → CtxS) : (s.modCtx c f).st = s.st := rfl
@[simp] theorem State.modCtx_since (c : CtxId) (f : CtxS → CtxS) : (s.modCtx c f).since = s.since := rfl
@[simp] theorem State.modCtx_now (c : CtxId) (f : CtxS → CtxS) : (s.modCtx c f).now = s.now := rfl
@[simp] theorem State.modCtx_log (c : CtxId) (f : CtxS → CtxS) : (s.modCtx c f).log = s.log := rfl
@[simp] theorem State.modCtx_anat (c : CtxId) (f : CtxS → CtxS) : (s.modCtx c f).anat = s.anat := rfl
@[simp] theorem State.modCtx_dict (c : CtxId) (f : CtxS → CtxS) : (s.modCtx c f).dict = s.dict := rfl
@[simp] theorem State.modCtx_stored (c : CtxId) (f : CtxS → CtxS) : (s.modCtx c f).stored = s.stored := rfl
@[simp] theorem State.modCtx_ctrs (c : CtxId) (f : CtxS → CtxS) : (s.modCtx c f).ctrs = s.ctrs := rfl
@[simp] theorem State.modCtx_ctrSince (c : CtxId) (f : CtxS → CtxS) : (s.modCtx c f).ctrSince = s.ctrSince := rfl
@[simp] theorem State.modCtx_stackMem (c : CtxId) (f : CtxS → CtxS) : (s.modCtx c f).stackMem = s.stackMem := rfl
@[simp] theorem State.modCtx_commonsMem (c : CtxId) (f : CtxS → CtxS) : (s.modCtx c f).commonsMem = s.commonsMem := rfl
@[simp] theorem State.modCtx_spadMem (c : CtxId) (f : CtxS → CtxS) : (s.modCtx c f).spadMem = s.spadMem := rfl
@[simp] theorem State.modCtx_tiles (c : CtxId) (f : CtxS → CtxS) : (s.modCtx c f).tiles = s.tiles := rfl
@[simp] theorem State.modCtx_eng (c : CtxId) (f : CtxS → CtxS) : (s.modCtx c f).eng = s.eng := rfl
@[simp] theorem State.modCtx_stk (c : CtxId) (f : CtxS → CtxS) : (s.modCtx c f).stk = s.stk := rfl
@[simp] theorem State.modCtx_net (c : CtxId) (f : CtxS → CtxS) : (s.modCtx c f).net = s.net := rfl
@[simp] theorem State.modCtx_fab (c : CtxId) (f : CtxS → CtxS) : (s.modCtx c f).fab = s.fab := rfl
@[simp] theorem State.modCtx_clk (c : CtxId) (f : CtxS → CtxS) : (s.modCtx c f).clk = s.clk := rfl
@[simp] theorem State.modCtx_pwr (c : CtxId) (f : CtxS → CtxS) : (s.modCtx c f).pwr = s.pwr := rfl
@[simp] theorem State.modCtx_thm (c : CtxId) (f : CtxS → CtxS) : (s.modCtx c f).thm = s.thm := rfl
@[simp] theorem State.modCtx_sec (c : CtxId) (f : CtxS → CtxS) : (s.modCtx c f).sec = s.sec := rfl
@[simp] theorem State.modCtx_hst (c : CtxId) (f : CtxS → CtxS) : (s.modCtx c f).hst = s.hst := rfl
@[simp] theorem State.modCtx_mgmt (c : CtxId) (f : CtxS → CtxS) : (s.modCtx c f).mgmt = s.mgmt := rfl
@[simp] theorem State.modCtx_boot (c : CtxId) (f : CtxS → CtxS) : (s.modCtx c f).boot = s.boot := rfl
@[simp] theorem State.modCtx_recov (c : CtxId) (f : CtxS → CtxS) : (s.modCtx c f).recov = s.recov := rfl
@[simp] theorem State.modCtx_pins (c : CtxId) (f : CtxS → CtxS) : (s.modCtx c f).pins = s.pins := rfl
@[simp] theorem State.modCtx_sent (c : CtxId) (f : CtxS → CtxS) : (s.modCtx c f).sent = s.sent := rfl
@[simp] theorem State.modCtx_answer (c : CtxId) (f : CtxS → CtxS) : (s.modCtx c f).answer = s.answer := rfl
@[simp] theorem State.modCtx_freeCount (c : CtxId) (f : CtxS → CtxS) : (s.modCtx c f).freeCount = s.freeCount := rfl
@[simp] theorem State.modCtx_pending (c : CtxId) (f : CtxS → CtxS) : (s.modCtx c f).pending = s.pending := rfl

/-! ### modUnit -/

@[simp] theorem State.modUnit_st (k : Nat) (f : UnitS → UnitS) : (s.modUnit k f).st = s.st := rfl
@[simp] theorem State.modUnit_since (k : Nat) (f : UnitS → UnitS) : (s.modUnit k f).since = s.since := rfl
@[simp] theorem State.modUnit_now (k : Nat) (f : UnitS → UnitS) : (s.modUnit k f).now = s.now := rfl
@[simp] theorem State.modUnit_log (k : Nat) (f : UnitS → UnitS) : (s.modUnit k f).log = s.log := rfl
@[simp] theorem State.modUnit_anat (k : Nat) (f : UnitS → UnitS) : (s.modUnit k f).anat = s.anat := rfl
@[simp] theorem State.modUnit_dict (k : Nat) (f : UnitS → UnitS) : (s.modUnit k f).dict = s.dict := rfl
@[simp] theorem State.modUnit_stored (k : Nat) (f : UnitS → UnitS) : (s.modUnit k f).stored = s.stored := rfl
@[simp] theorem State.modUnit_ctrs (k : Nat) (f : UnitS → UnitS) : (s.modUnit k f).ctrs = s.ctrs := rfl
@[simp] theorem State.modUnit_ctrSince (k : Nat) (f : UnitS → UnitS) : (s.modUnit k f).ctrSince = s.ctrSince := rfl
@[simp] theorem State.modUnit_stackMem (k : Nat) (f : UnitS → UnitS) : (s.modUnit k f).stackMem = s.stackMem := rfl
@[simp] theorem State.modUnit_commonsMem (k : Nat) (f : UnitS → UnitS) : (s.modUnit k f).commonsMem = s.commonsMem := rfl
@[simp] theorem State.modUnit_spadMem (k : Nat) (f : UnitS → UnitS) : (s.modUnit k f).spadMem = s.spadMem := rfl
@[simp] theorem State.modUnit_tiles (k : Nat) (f : UnitS → UnitS) : (s.modUnit k f).tiles = s.tiles := rfl
@[simp] theorem State.modUnit_eng (k : Nat) (f : UnitS → UnitS) : (s.modUnit k f).eng = s.eng := rfl
@[simp] theorem State.modUnit_stk (k : Nat) (f : UnitS → UnitS) : (s.modUnit k f).stk = s.stk := rfl
@[simp] theorem State.modUnit_net (k : Nat) (f : UnitS → UnitS) : (s.modUnit k f).net = s.net := rfl
@[simp] theorem State.modUnit_fab (k : Nat) (f : UnitS → UnitS) : (s.modUnit k f).fab = s.fab := rfl
@[simp] theorem State.modUnit_clk (k : Nat) (f : UnitS → UnitS) : (s.modUnit k f).clk = s.clk := rfl
@[simp] theorem State.modUnit_pwr (k : Nat) (f : UnitS → UnitS) : (s.modUnit k f).pwr = s.pwr := rfl
@[simp] theorem State.modUnit_thm (k : Nat) (f : UnitS → UnitS) : (s.modUnit k f).thm = s.thm := rfl
@[simp] theorem State.modUnit_sec (k : Nat) (f : UnitS → UnitS) : (s.modUnit k f).sec = s.sec := rfl
@[simp] theorem State.modUnit_hst (k : Nat) (f : UnitS → UnitS) : (s.modUnit k f).hst = s.hst := rfl
@[simp] theorem State.modUnit_mgmt (k : Nat) (f : UnitS → UnitS) : (s.modUnit k f).mgmt = s.mgmt := rfl
@[simp] theorem State.modUnit_boot (k : Nat) (f : UnitS → UnitS) : (s.modUnit k f).boot = s.boot := rfl
@[simp] theorem State.modUnit_recov (k : Nat) (f : UnitS → UnitS) : (s.modUnit k f).recov = s.recov := rfl
@[simp] theorem State.modUnit_pins (k : Nat) (f : UnitS → UnitS) : (s.modUnit k f).pins = s.pins := rfl
@[simp] theorem State.modUnit_sent (k : Nat) (f : UnitS → UnitS) : (s.modUnit k f).sent = s.sent := rfl
@[simp] theorem State.modUnit_answer (k : Nat) (f : UnitS → UnitS) : (s.modUnit k f).answer = s.answer := rfl
@[simp] theorem State.modUnit_freeCount (k : Nat) (f : UnitS → UnitS) : (s.modUnit k f).freeCount = s.freeCount := rfl
@[simp] theorem State.modUnit_pending (k : Nat) (f : UnitS → UnitS) : (s.modUnit k f).pending = s.pending := rfl

/-! ### modQueue -/

@[simp] theorem State.modQueue_st (k : Nat) (f : QueueS → QueueS) : (s.modQueue k f).st = s.st := rfl
@[simp] theorem State.modQueue_since (k : Nat) (f : QueueS → QueueS) : (s.modQueue k f).since = s.since := rfl
@[simp] theorem State.modQueue_now (k : Nat) (f : QueueS → QueueS) : (s.modQueue k f).now = s.now := rfl
@[simp] theorem State.modQueue_log (k : Nat) (f : QueueS → QueueS) : (s.modQueue k f).log = s.log := rfl
@[simp] theorem State.modQueue_anat (k : Nat) (f : QueueS → QueueS) : (s.modQueue k f).anat = s.anat := rfl
@[simp] theorem State.modQueue_dict (k : Nat) (f : QueueS → QueueS) : (s.modQueue k f).dict = s.dict := rfl
@[simp] theorem State.modQueue_stored (k : Nat) (f : QueueS → QueueS) : (s.modQueue k f).stored = s.stored := rfl
@[simp] theorem State.modQueue_ctrs (k : Nat) (f : QueueS → QueueS) : (s.modQueue k f).ctrs = s.ctrs := rfl
@[simp] theorem State.modQueue_ctrSince (k : Nat) (f : QueueS → QueueS) : (s.modQueue k f).ctrSince = s.ctrSince := rfl
@[simp] theorem State.modQueue_stackMem (k : Nat) (f : QueueS → QueueS) : (s.modQueue k f).stackMem = s.stackMem := rfl
@[simp] theorem State.modQueue_commonsMem (k : Nat) (f : QueueS → QueueS) : (s.modQueue k f).commonsMem = s.commonsMem := rfl
@[simp] theorem State.modQueue_spadMem (k : Nat) (f : QueueS → QueueS) : (s.modQueue k f).spadMem = s.spadMem := rfl
@[simp] theorem State.modQueue_tiles (k : Nat) (f : QueueS → QueueS) : (s.modQueue k f).tiles = s.tiles := rfl
@[simp] theorem State.modQueue_eng (k : Nat) (f : QueueS → QueueS) : (s.modQueue k f).eng = s.eng := rfl
@[simp] theorem State.modQueue_stk (k : Nat) (f : QueueS → QueueS) : (s.modQueue k f).stk = s.stk := rfl
@[simp] theorem State.modQueue_net (k : Nat) (f : QueueS → QueueS) : (s.modQueue k f).net = s.net := rfl
@[simp] theorem State.modQueue_fab (k : Nat) (f : QueueS → QueueS) : (s.modQueue k f).fab = s.fab := rfl
@[simp] theorem State.modQueue_clk (k : Nat) (f : QueueS → QueueS) : (s.modQueue k f).clk = s.clk := rfl
@[simp] theorem State.modQueue_pwr (k : Nat) (f : QueueS → QueueS) : (s.modQueue k f).pwr = s.pwr := rfl
@[simp] theorem State.modQueue_thm (k : Nat) (f : QueueS → QueueS) : (s.modQueue k f).thm = s.thm := rfl
@[simp] theorem State.modQueue_sec (k : Nat) (f : QueueS → QueueS) : (s.modQueue k f).sec = s.sec := rfl
@[simp] theorem State.modQueue_hst (k : Nat) (f : QueueS → QueueS) : (s.modQueue k f).hst = s.hst := rfl
@[simp] theorem State.modQueue_mgmt (k : Nat) (f : QueueS → QueueS) : (s.modQueue k f).mgmt = s.mgmt := rfl
@[simp] theorem State.modQueue_boot (k : Nat) (f : QueueS → QueueS) : (s.modQueue k f).boot = s.boot := rfl
@[simp] theorem State.modQueue_recov (k : Nat) (f : QueueS → QueueS) : (s.modQueue k f).recov = s.recov := rfl
@[simp] theorem State.modQueue_pins (k : Nat) (f : QueueS → QueueS) : (s.modQueue k f).pins = s.pins := rfl
@[simp] theorem State.modQueue_sent (k : Nat) (f : QueueS → QueueS) : (s.modQueue k f).sent = s.sent := rfl
@[simp] theorem State.modQueue_answer (k : Nat) (f : QueueS → QueueS) : (s.modQueue k f).answer = s.answer := rfl
@[simp] theorem State.modQueue_freeCount (k : Nat) (f : QueueS → QueueS) : (s.modQueue k f).freeCount = s.freeCount := rfl
@[simp] theorem State.modQueue_pending (k : Nat) (f : QueueS → QueueS) : (s.modQueue k f).pending = s.pending := rfl

/-! ### modTile -/

@[simp] theorem State.modTile_st (k : Nat) (f : TileS → TileS) : (s.modTile k f).st = s.st := rfl
@[simp] theorem State.modTile_since (k : Nat) (f : TileS → TileS) : (s.modTile k f).since = s.since := rfl
@[simp] theorem State.modTile_now (k : Nat) (f : TileS → TileS) : (s.modTile k f).now = s.now := rfl
@[simp] theorem State.modTile_log (k : Nat) (f : TileS → TileS) : (s.modTile k f).log = s.log := rfl
@[simp] theorem State.modTile_anat (k : Nat) (f : TileS → TileS) : (s.modTile k f).anat = s.anat := rfl
@[simp] theorem State.modTile_dict (k : Nat) (f : TileS → TileS) : (s.modTile k f).dict = s.dict := rfl
@[simp] theorem State.modTile_stored (k : Nat) (f : TileS → TileS) : (s.modTile k f).stored = s.stored := rfl
@[simp] theorem State.modTile_ctrs (k : Nat) (f : TileS → TileS) : (s.modTile k f).ctrs = s.ctrs := rfl
@[simp] theorem State.modTile_ctrSince (k : Nat) (f : TileS → TileS) : (s.modTile k f).ctrSince = s.ctrSince := rfl
@[simp] theorem State.modTile_stackMem (k : Nat) (f : TileS → TileS) : (s.modTile k f).stackMem = s.stackMem := rfl
@[simp] theorem State.modTile_commonsMem (k : Nat) (f : TileS → TileS) : (s.modTile k f).commonsMem = s.commonsMem := rfl
@[simp] theorem State.modTile_spadMem (k : Nat) (f : TileS → TileS) : (s.modTile k f).spadMem = s.spadMem := rfl
@[simp] theorem State.modTile_eng (k : Nat) (f : TileS → TileS) : (s.modTile k f).eng = s.eng := rfl
@[simp] theorem State.modTile_flow (k : Nat) (f : TileS → TileS) : (s.modTile k f).flow = s.flow := rfl
@[simp] theorem State.modTile_stk (k : Nat) (f : TileS → TileS) : (s.modTile k f).stk = s.stk := rfl
@[simp] theorem State.modTile_net (k : Nat) (f : TileS → TileS) : (s.modTile k f).net = s.net := rfl
@[simp] theorem State.modTile_fab (k : Nat) (f : TileS → TileS) : (s.modTile k f).fab = s.fab := rfl
@[simp] theorem State.modTile_clk (k : Nat) (f : TileS → TileS) : (s.modTile k f).clk = s.clk := rfl
@[simp] theorem State.modTile_pwr (k : Nat) (f : TileS → TileS) : (s.modTile k f).pwr = s.pwr := rfl
@[simp] theorem State.modTile_thm (k : Nat) (f : TileS → TileS) : (s.modTile k f).thm = s.thm := rfl
@[simp] theorem State.modTile_sec (k : Nat) (f : TileS → TileS) : (s.modTile k f).sec = s.sec := rfl
@[simp] theorem State.modTile_hst (k : Nat) (f : TileS → TileS) : (s.modTile k f).hst = s.hst := rfl
@[simp] theorem State.modTile_mgmt (k : Nat) (f : TileS → TileS) : (s.modTile k f).mgmt = s.mgmt := rfl
@[simp] theorem State.modTile_boot (k : Nat) (f : TileS → TileS) : (s.modTile k f).boot = s.boot := rfl
@[simp] theorem State.modTile_recov (k : Nat) (f : TileS → TileS) : (s.modTile k f).recov = s.recov := rfl
@[simp] theorem State.modTile_pins (k : Nat) (f : TileS → TileS) : (s.modTile k f).pins = s.pins := rfl
@[simp] theorem State.modTile_sent (k : Nat) (f : TileS → TileS) : (s.modTile k f).sent = s.sent := rfl
@[simp] theorem State.modTile_answer (k : Nat) (f : TileS → TileS) : (s.modTile k f).answer = s.answer := rfl
@[simp] theorem State.modTile_freeCount (k : Nat) (f : TileS → TileS) : (s.modTile k f).freeCount = s.freeCount := rfl
@[simp] theorem State.modTile_pending (k : Nat) (f : TileS → TileS) : (s.modTile k f).pending = s.pending := rfl

/-! ### modCommons -/

@[simp] theorem State.modCommons_st (k : Nat) (f : CommonsS → CommonsS) : (s.modCommons k f).st = s.st := rfl
@[simp] theorem State.modCommons_since (k : Nat) (f : CommonsS → CommonsS) : (s.modCommons k f).since = s.since := rfl
@[simp] theorem State.modCommons_now (k : Nat) (f : CommonsS → CommonsS) : (s.modCommons k f).now = s.now := rfl
@[simp] theorem State.modCommons_log (k : Nat) (f : CommonsS → CommonsS) : (s.modCommons k f).log = s.log := rfl
@[simp] theorem State.modCommons_anat (k : Nat) (f : CommonsS → CommonsS) : (s.modCommons k f).anat = s.anat := rfl
@[simp] theorem State.modCommons_dict (k : Nat) (f : CommonsS → CommonsS) : (s.modCommons k f).dict = s.dict := rfl
@[simp] theorem State.modCommons_stored (k : Nat) (f : CommonsS → CommonsS) : (s.modCommons k f).stored = s.stored := rfl
@[simp] theorem State.modCommons_ctrs (k : Nat) (f : CommonsS → CommonsS) : (s.modCommons k f).ctrs = s.ctrs := rfl
@[simp] theorem State.modCommons_ctrSince (k : Nat) (f : CommonsS → CommonsS) : (s.modCommons k f).ctrSince = s.ctrSince := rfl
@[simp] theorem State.modCommons_stackMem (k : Nat) (f : CommonsS → CommonsS) : (s.modCommons k f).stackMem = s.stackMem := rfl
@[simp] theorem State.modCommons_commonsMem (k : Nat) (f : CommonsS → CommonsS) : (s.modCommons k f).commonsMem = s.commonsMem := rfl
@[simp] theorem State.modCommons_spadMem (k : Nat) (f : CommonsS → CommonsS) : (s.modCommons k f).spadMem = s.spadMem := rfl
@[simp] theorem State.modCommons_tiles (k : Nat) (f : CommonsS → CommonsS) : (s.modCommons k f).tiles = s.tiles := rfl
@[simp] theorem State.modCommons_flow (k : Nat) (f : CommonsS → CommonsS) : (s.modCommons k f).flow = s.flow := rfl
@[simp] theorem State.modCommons_stk (k : Nat) (f : CommonsS → CommonsS) : (s.modCommons k f).stk = s.stk := rfl
@[simp] theorem State.modCommons_net (k : Nat) (f : CommonsS → CommonsS) : (s.modCommons k f).net = s.net := rfl
@[simp] theorem State.modCommons_fab (k : Nat) (f : CommonsS → CommonsS) : (s.modCommons k f).fab = s.fab := rfl
@[simp] theorem State.modCommons_clk (k : Nat) (f : CommonsS → CommonsS) : (s.modCommons k f).clk = s.clk := rfl
@[simp] theorem State.modCommons_pwr (k : Nat) (f : CommonsS → CommonsS) : (s.modCommons k f).pwr = s.pwr := rfl
@[simp] theorem State.modCommons_thm (k : Nat) (f : CommonsS → CommonsS) : (s.modCommons k f).thm = s.thm := rfl
@[simp] theorem State.modCommons_sec (k : Nat) (f : CommonsS → CommonsS) : (s.modCommons k f).sec = s.sec := rfl
@[simp] theorem State.modCommons_hst (k : Nat) (f : CommonsS → CommonsS) : (s.modCommons k f).hst = s.hst := rfl
@[simp] theorem State.modCommons_mgmt (k : Nat) (f : CommonsS → CommonsS) : (s.modCommons k f).mgmt = s.mgmt := rfl
@[simp] theorem State.modCommons_boot (k : Nat) (f : CommonsS → CommonsS) : (s.modCommons k f).boot = s.boot := rfl
@[simp] theorem State.modCommons_recov (k : Nat) (f : CommonsS → CommonsS) : (s.modCommons k f).recov = s.recov := rfl
@[simp] theorem State.modCommons_pins (k : Nat) (f : CommonsS → CommonsS) : (s.modCommons k f).pins = s.pins := rfl
@[simp] theorem State.modCommons_sent (k : Nat) (f : CommonsS → CommonsS) : (s.modCommons k f).sent = s.sent := rfl
@[simp] theorem State.modCommons_answer (k : Nat) (f : CommonsS → CommonsS) : (s.modCommons k f).answer = s.answer := rfl
@[simp] theorem State.modCommons_freeCount (k : Nat) (f : CommonsS → CommonsS) : (s.modCommons k f).freeCount = s.freeCount := rfl
@[simp] theorem State.modCommons_pending (k : Nat) (f : CommonsS → CommonsS) : (s.modCommons k f).pending = s.pending := rfl

/-! ### modEngine -/

@[simp] theorem State.modEngine_st (k : Nat) (f : EngineS → EngineS) : (s.modEngine k f).st = s.st := rfl
@[simp] theorem State.modEngine_since (k : Nat) (f : EngineS → EngineS) : (s.modEngine k f).since = s.since := rfl
@[simp] theorem State.modEngine_now (k : Nat) (f : EngineS → EngineS) : (s.modEngine k f).now = s.now := rfl
@[simp] theorem State.modEngine_log (k : Nat) (f : EngineS → EngineS) : (s.modEngine k f).log = s.log := rfl
@[simp] theorem State.modEngine_anat (k : Nat) (f : EngineS → EngineS) : (s.modEngine k f).anat = s.anat := rfl
@[simp] theorem State.modEngine_dict (k : Nat) (f : EngineS → EngineS) : (s.modEngine k f).dict = s.dict := rfl
@[simp] theorem State.modEngine_stored (k : Nat) (f : EngineS → EngineS) : (s.modEngine k f).stored = s.stored := rfl
@[simp] theorem State.modEngine_ctrs (k : Nat) (f : EngineS → EngineS) : (s.modEngine k f).ctrs = s.ctrs := rfl
@[simp] theorem State.modEngine_ctrSince (k : Nat) (f : EngineS → EngineS) : (s.modEngine k f).ctrSince = s.ctrSince := rfl
@[simp] theorem State.modEngine_stackMem (k : Nat) (f : EngineS → EngineS) : (s.modEngine k f).stackMem = s.stackMem := rfl
@[simp] theorem State.modEngine_commonsMem (k : Nat) (f : EngineS → EngineS) : (s.modEngine k f).commonsMem = s.commonsMem := rfl
@[simp] theorem State.modEngine_spadMem (k : Nat) (f : EngineS → EngineS) : (s.modEngine k f).spadMem = s.spadMem := rfl
@[simp] theorem State.modEngine_tiles (k : Nat) (f : EngineS → EngineS) : (s.modEngine k f).tiles = s.tiles := rfl
@[simp] theorem State.modEngine_flow (k : Nat) (f : EngineS → EngineS) : (s.modEngine k f).flow = s.flow := rfl
@[simp] theorem State.modEngine_stk (k : Nat) (f : EngineS → EngineS) : (s.modEngine k f).stk = s.stk := rfl
@[simp] theorem State.modEngine_net (k : Nat) (f : EngineS → EngineS) : (s.modEngine k f).net = s.net := rfl
@[simp] theorem State.modEngine_fab (k : Nat) (f : EngineS → EngineS) : (s.modEngine k f).fab = s.fab := rfl
@[simp] theorem State.modEngine_clk (k : Nat) (f : EngineS → EngineS) : (s.modEngine k f).clk = s.clk := rfl
@[simp] theorem State.modEngine_pwr (k : Nat) (f : EngineS → EngineS) : (s.modEngine k f).pwr = s.pwr := rfl
@[simp] theorem State.modEngine_thm (k : Nat) (f : EngineS → EngineS) : (s.modEngine k f).thm = s.thm := rfl
@[simp] theorem State.modEngine_sec (k : Nat) (f : EngineS → EngineS) : (s.modEngine k f).sec = s.sec := rfl
@[simp] theorem State.modEngine_hst (k : Nat) (f : EngineS → EngineS) : (s.modEngine k f).hst = s.hst := rfl
@[simp] theorem State.modEngine_mgmt (k : Nat) (f : EngineS → EngineS) : (s.modEngine k f).mgmt = s.mgmt := rfl
@[simp] theorem State.modEngine_boot (k : Nat) (f : EngineS → EngineS) : (s.modEngine k f).boot = s.boot := rfl
@[simp] theorem State.modEngine_recov (k : Nat) (f : EngineS → EngineS) : (s.modEngine k f).recov = s.recov := rfl
@[simp] theorem State.modEngine_pins (k : Nat) (f : EngineS → EngineS) : (s.modEngine k f).pins = s.pins := rfl
@[simp] theorem State.modEngine_sent (k : Nat) (f : EngineS → EngineS) : (s.modEngine k f).sent = s.sent := rfl
@[simp] theorem State.modEngine_answer (k : Nat) (f : EngineS → EngineS) : (s.modEngine k f).answer = s.answer := rfl
@[simp] theorem State.modEngine_freeCount (k : Nat) (f : EngineS → EngineS) : (s.modEngine k f).freeCount = s.freeCount := rfl
@[simp] theorem State.modEngine_pending (k : Nat) (f : EngineS → EngineS) : (s.modEngine k f).pending = s.pending := rfl

/-! ### modRing -/

@[simp] theorem State.modRing_st (k : Nat) (f : Ring → Ring) : (s.modRing k f).st = s.st := rfl
@[simp] theorem State.modRing_since (k : Nat) (f : Ring → Ring) : (s.modRing k f).since = s.since := rfl
@[simp] theorem State.modRing_now (k : Nat) (f : Ring → Ring) : (s.modRing k f).now = s.now := rfl
@[simp] theorem State.modRing_log (k : Nat) (f : Ring → Ring) : (s.modRing k f).log = s.log := rfl
@[simp] theorem State.modRing_anat (k : Nat) (f : Ring → Ring) : (s.modRing k f).anat = s.anat := rfl
@[simp] theorem State.modRing_dict (k : Nat) (f : Ring → Ring) : (s.modRing k f).dict = s.dict := rfl
@[simp] theorem State.modRing_stored (k : Nat) (f : Ring → Ring) : (s.modRing k f).stored = s.stored := rfl
@[simp] theorem State.modRing_ctrs (k : Nat) (f : Ring → Ring) : (s.modRing k f).ctrs = s.ctrs := rfl
@[simp] theorem State.modRing_ctrSince (k : Nat) (f : Ring → Ring) : (s.modRing k f).ctrSince = s.ctrSince := rfl
@[simp] theorem State.modRing_stackMem (k : Nat) (f : Ring → Ring) : (s.modRing k f).stackMem = s.stackMem := rfl
@[simp] theorem State.modRing_commonsMem (k : Nat) (f : Ring → Ring) : (s.modRing k f).commonsMem = s.commonsMem := rfl
@[simp] theorem State.modRing_spadMem (k : Nat) (f : Ring → Ring) : (s.modRing k f).spadMem = s.spadMem := rfl
@[simp] theorem State.modRing_tiles (k : Nat) (f : Ring → Ring) : (s.modRing k f).tiles = s.tiles := rfl
@[simp] theorem State.modRing_flow (k : Nat) (f : Ring → Ring) : (s.modRing k f).flow = s.flow := rfl
@[simp] theorem State.modRing_stk (k : Nat) (f : Ring → Ring) : (s.modRing k f).stk = s.stk := rfl
@[simp] theorem State.modRing_net (k : Nat) (f : Ring → Ring) : (s.modRing k f).net = s.net := rfl
@[simp] theorem State.modRing_fab (k : Nat) (f : Ring → Ring) : (s.modRing k f).fab = s.fab := rfl
@[simp] theorem State.modRing_clk (k : Nat) (f : Ring → Ring) : (s.modRing k f).clk = s.clk := rfl
@[simp] theorem State.modRing_pwr (k : Nat) (f : Ring → Ring) : (s.modRing k f).pwr = s.pwr := rfl
@[simp] theorem State.modRing_thm (k : Nat) (f : Ring → Ring) : (s.modRing k f).thm = s.thm := rfl
@[simp] theorem State.modRing_sec (k : Nat) (f : Ring → Ring) : (s.modRing k f).sec = s.sec := rfl
@[simp] theorem State.modRing_hst (k : Nat) (f : Ring → Ring) : (s.modRing k f).hst = s.hst := rfl
@[simp] theorem State.modRing_mgmt (k : Nat) (f : Ring → Ring) : (s.modRing k f).mgmt = s.mgmt := rfl
@[simp] theorem State.modRing_boot (k : Nat) (f : Ring → Ring) : (s.modRing k f).boot = s.boot := rfl
@[simp] theorem State.modRing_recov (k : Nat) (f : Ring → Ring) : (s.modRing k f).recov = s.recov := rfl
@[simp] theorem State.modRing_pins (k : Nat) (f : Ring → Ring) : (s.modRing k f).pins = s.pins := rfl
@[simp] theorem State.modRing_sent (k : Nat) (f : Ring → Ring) : (s.modRing k f).sent = s.sent := rfl
@[simp] theorem State.modRing_answer (k : Nat) (f : Ring → Ring) : (s.modRing k f).answer = s.answer := rfl
@[simp] theorem State.modRing_freeCount (k : Nat) (f : Ring → Ring) : (s.modRing k f).freeCount = s.freeCount := rfl
@[simp] theorem State.modRing_pending (k : Nat) (f : Ring → Ring) : (s.modRing k f).pending = s.pending := rfl

/-! ### modStack -/

@[simp] theorem State.modStack_st (k : Nat) (f : StackS → StackS) : (s.modStack k f).st = s.st := rfl
@[simp] theorem State.modStack_since (k : Nat) (f : StackS → StackS) : (s.modStack k f).since = s.since := rfl
@[simp] theorem State.modStack_now (k : Nat) (f : StackS → StackS) : (s.modStack k f).now = s.now := rfl
@[simp] theorem State.modStack_log (k : Nat) (f : StackS → StackS) : (s.modStack k f).log = s.log := rfl
@[simp] theorem State.modStack_anat (k : Nat) (f : StackS → StackS) : (s.modStack k f).anat = s.anat := rfl
@[simp] theorem State.modStack_dict (k : Nat) (f : StackS → StackS) : (s.modStack k f).dict = s.dict := rfl
@[simp] theorem State.modStack_stored (k : Nat) (f : StackS → StackS) : (s.modStack k f).stored = s.stored := rfl
@[simp] theorem State.modStack_ctrs (k : Nat) (f : StackS → StackS) : (s.modStack k f).ctrs = s.ctrs := rfl
@[simp] theorem State.modStack_ctrSince (k : Nat) (f : StackS → StackS) : (s.modStack k f).ctrSince = s.ctrSince := rfl
@[simp] theorem State.modStack_stackMem (k : Nat) (f : StackS → StackS) : (s.modStack k f).stackMem = s.stackMem := rfl
@[simp] theorem State.modStack_commonsMem (k : Nat) (f : StackS → StackS) : (s.modStack k f).commonsMem = s.commonsMem := rfl
@[simp] theorem State.modStack_spadMem (k : Nat) (f : StackS → StackS) : (s.modStack k f).spadMem = s.spadMem := rfl
@[simp] theorem State.modStack_tiles (k : Nat) (f : StackS → StackS) : (s.modStack k f).tiles = s.tiles := rfl
@[simp] theorem State.modStack_eng (k : Nat) (f : StackS → StackS) : (s.modStack k f).eng = s.eng := rfl
@[simp] theorem State.modStack_flow (k : Nat) (f : StackS → StackS) : (s.modStack k f).flow = s.flow := rfl
@[simp] theorem State.modStack_net (k : Nat) (f : StackS → StackS) : (s.modStack k f).net = s.net := rfl
@[simp] theorem State.modStack_fab (k : Nat) (f : StackS → StackS) : (s.modStack k f).fab = s.fab := rfl
@[simp] theorem State.modStack_clk (k : Nat) (f : StackS → StackS) : (s.modStack k f).clk = s.clk := rfl
@[simp] theorem State.modStack_pwr (k : Nat) (f : StackS → StackS) : (s.modStack k f).pwr = s.pwr := rfl
@[simp] theorem State.modStack_thm (k : Nat) (f : StackS → StackS) : (s.modStack k f).thm = s.thm := rfl
@[simp] theorem State.modStack_sec (k : Nat) (f : StackS → StackS) : (s.modStack k f).sec = s.sec := rfl
@[simp] theorem State.modStack_hst (k : Nat) (f : StackS → StackS) : (s.modStack k f).hst = s.hst := rfl
@[simp] theorem State.modStack_mgmt (k : Nat) (f : StackS → StackS) : (s.modStack k f).mgmt = s.mgmt := rfl
@[simp] theorem State.modStack_boot (k : Nat) (f : StackS → StackS) : (s.modStack k f).boot = s.boot := rfl
@[simp] theorem State.modStack_recov (k : Nat) (f : StackS → StackS) : (s.modStack k f).recov = s.recov := rfl
@[simp] theorem State.modStack_pins (k : Nat) (f : StackS → StackS) : (s.modStack k f).pins = s.pins := rfl
@[simp] theorem State.modStack_sent (k : Nat) (f : StackS → StackS) : (s.modStack k f).sent = s.sent := rfl
@[simp] theorem State.modStack_answer (k : Nat) (f : StackS → StackS) : (s.modStack k f).answer = s.answer := rfl
@[simp] theorem State.modStack_freeCount (k : Nat) (f : StackS → StackS) : (s.modStack k f).freeCount = s.freeCount := rfl
@[simp] theorem State.modStack_pending (k : Nat) (f : StackS → StackS) : (s.modStack k f).pending = s.pending := rfl

/-! ### modVent -/

@[simp] theorem State.modVent_st (k : Nat) (f : VentS → VentS) : (s.modVent k f).st = s.st := rfl
@[simp] theorem State.modVent_since (k : Nat) (f : VentS → VentS) : (s.modVent k f).since = s.since := rfl
@[simp] theorem State.modVent_now (k : Nat) (f : VentS → VentS) : (s.modVent k f).now = s.now := rfl
@[simp] theorem State.modVent_log (k : Nat) (f : VentS → VentS) : (s.modVent k f).log = s.log := rfl
@[simp] theorem State.modVent_anat (k : Nat) (f : VentS → VentS) : (s.modVent k f).anat = s.anat := rfl
@[simp] theorem State.modVent_dict (k : Nat) (f : VentS → VentS) : (s.modVent k f).dict = s.dict := rfl
@[simp] theorem State.modVent_stored (k : Nat) (f : VentS → VentS) : (s.modVent k f).stored = s.stored := rfl
@[simp] theorem State.modVent_ctrs (k : Nat) (f : VentS → VentS) : (s.modVent k f).ctrs = s.ctrs := rfl
@[simp] theorem State.modVent_ctrSince (k : Nat) (f : VentS → VentS) : (s.modVent k f).ctrSince = s.ctrSince := rfl
@[simp] theorem State.modVent_stackMem (k : Nat) (f : VentS → VentS) : (s.modVent k f).stackMem = s.stackMem := rfl
@[simp] theorem State.modVent_commonsMem (k : Nat) (f : VentS → VentS) : (s.modVent k f).commonsMem = s.commonsMem := rfl
@[simp] theorem State.modVent_spadMem (k : Nat) (f : VentS → VentS) : (s.modVent k f).spadMem = s.spadMem := rfl
@[simp] theorem State.modVent_tiles (k : Nat) (f : VentS → VentS) : (s.modVent k f).tiles = s.tiles := rfl
@[simp] theorem State.modVent_eng (k : Nat) (f : VentS → VentS) : (s.modVent k f).eng = s.eng := rfl
@[simp] theorem State.modVent_flow (k : Nat) (f : VentS → VentS) : (s.modVent k f).flow = s.flow := rfl
@[simp] theorem State.modVent_stk (k : Nat) (f : VentS → VentS) : (s.modVent k f).stk = s.stk := rfl
@[simp] theorem State.modVent_net (k : Nat) (f : VentS → VentS) : (s.modVent k f).net = s.net := rfl
@[simp] theorem State.modVent_clk (k : Nat) (f : VentS → VentS) : (s.modVent k f).clk = s.clk := rfl
@[simp] theorem State.modVent_pwr (k : Nat) (f : VentS → VentS) : (s.modVent k f).pwr = s.pwr := rfl
@[simp] theorem State.modVent_thm (k : Nat) (f : VentS → VentS) : (s.modVent k f).thm = s.thm := rfl
@[simp] theorem State.modVent_sec (k : Nat) (f : VentS → VentS) : (s.modVent k f).sec = s.sec := rfl
@[simp] theorem State.modVent_hst (k : Nat) (f : VentS → VentS) : (s.modVent k f).hst = s.hst := rfl
@[simp] theorem State.modVent_mgmt (k : Nat) (f : VentS → VentS) : (s.modVent k f).mgmt = s.mgmt := rfl
@[simp] theorem State.modVent_boot (k : Nat) (f : VentS → VentS) : (s.modVent k f).boot = s.boot := rfl
@[simp] theorem State.modVent_recov (k : Nat) (f : VentS → VentS) : (s.modVent k f).recov = s.recov := rfl
@[simp] theorem State.modVent_pins (k : Nat) (f : VentS → VentS) : (s.modVent k f).pins = s.pins := rfl
@[simp] theorem State.modVent_sent (k : Nat) (f : VentS → VentS) : (s.modVent k f).sent = s.sent := rfl
@[simp] theorem State.modVent_answer (k : Nat) (f : VentS → VentS) : (s.modVent k f).answer = s.answer := rfl
@[simp] theorem State.modVent_freeCount (k : Nat) (f : VentS → VentS) : (s.modVent k f).freeCount = s.freeCount := rfl
@[simp] theorem State.modVent_pending (k : Nat) (f : VentS → VentS) : (s.modVent k f).pending = s.pending := rfl

/-! ### modDieClk -/

@[simp] theorem State.modDieClk_st (k : Nat) (f : DieClk → DieClk) : (s.modDieClk k f).st = s.st := rfl
@[simp] theorem State.modDieClk_since (k : Nat) (f : DieClk → DieClk) : (s.modDieClk k f).since = s.since := rfl
@[simp] theorem State.modDieClk_now (k : Nat) (f : DieClk → DieClk) : (s.modDieClk k f).now = s.now := rfl
@[simp] theorem State.modDieClk_log (k : Nat) (f : DieClk → DieClk) : (s.modDieClk k f).log = s.log := rfl
@[simp] theorem State.modDieClk_anat (k : Nat) (f : DieClk → DieClk) : (s.modDieClk k f).anat = s.anat := rfl
@[simp] theorem State.modDieClk_dict (k : Nat) (f : DieClk → DieClk) : (s.modDieClk k f).dict = s.dict := rfl
@[simp] theorem State.modDieClk_stored (k : Nat) (f : DieClk → DieClk) : (s.modDieClk k f).stored = s.stored := rfl
@[simp] theorem State.modDieClk_ctrs (k : Nat) (f : DieClk → DieClk) : (s.modDieClk k f).ctrs = s.ctrs := rfl
@[simp] theorem State.modDieClk_ctrSince (k : Nat) (f : DieClk → DieClk) : (s.modDieClk k f).ctrSince = s.ctrSince := rfl
@[simp] theorem State.modDieClk_stackMem (k : Nat) (f : DieClk → DieClk) : (s.modDieClk k f).stackMem = s.stackMem := rfl
@[simp] theorem State.modDieClk_commonsMem (k : Nat) (f : DieClk → DieClk) : (s.modDieClk k f).commonsMem = s.commonsMem := rfl
@[simp] theorem State.modDieClk_spadMem (k : Nat) (f : DieClk → DieClk) : (s.modDieClk k f).spadMem = s.spadMem := rfl
@[simp] theorem State.modDieClk_tiles (k : Nat) (f : DieClk → DieClk) : (s.modDieClk k f).tiles = s.tiles := rfl
@[simp] theorem State.modDieClk_eng (k : Nat) (f : DieClk → DieClk) : (s.modDieClk k f).eng = s.eng := rfl
@[simp] theorem State.modDieClk_flow (k : Nat) (f : DieClk → DieClk) : (s.modDieClk k f).flow = s.flow := rfl
@[simp] theorem State.modDieClk_stk (k : Nat) (f : DieClk → DieClk) : (s.modDieClk k f).stk = s.stk := rfl
@[simp] theorem State.modDieClk_net (k : Nat) (f : DieClk → DieClk) : (s.modDieClk k f).net = s.net := rfl
@[simp] theorem State.modDieClk_fab (k : Nat) (f : DieClk → DieClk) : (s.modDieClk k f).fab = s.fab := rfl
@[simp] theorem State.modDieClk_pwr (k : Nat) (f : DieClk → DieClk) : (s.modDieClk k f).pwr = s.pwr := rfl
@[simp] theorem State.modDieClk_thm (k : Nat) (f : DieClk → DieClk) : (s.modDieClk k f).thm = s.thm := rfl
@[simp] theorem State.modDieClk_sec (k : Nat) (f : DieClk → DieClk) : (s.modDieClk k f).sec = s.sec := rfl
@[simp] theorem State.modDieClk_hst (k : Nat) (f : DieClk → DieClk) : (s.modDieClk k f).hst = s.hst := rfl
@[simp] theorem State.modDieClk_mgmt (k : Nat) (f : DieClk → DieClk) : (s.modDieClk k f).mgmt = s.mgmt := rfl
@[simp] theorem State.modDieClk_boot (k : Nat) (f : DieClk → DieClk) : (s.modDieClk k f).boot = s.boot := rfl
@[simp] theorem State.modDieClk_recov (k : Nat) (f : DieClk → DieClk) : (s.modDieClk k f).recov = s.recov := rfl
@[simp] theorem State.modDieClk_pins (k : Nat) (f : DieClk → DieClk) : (s.modDieClk k f).pins = s.pins := rfl
@[simp] theorem State.modDieClk_sent (k : Nat) (f : DieClk → DieClk) : (s.modDieClk k f).sent = s.sent := rfl
@[simp] theorem State.modDieClk_answer (k : Nat) (f : DieClk → DieClk) : (s.modDieClk k f).answer = s.answer := rfl
@[simp] theorem State.modDieClk_freeCount (k : Nat) (f : DieClk → DieClk) : (s.modDieClk k f).freeCount = s.freeCount := rfl
@[simp] theorem State.modDieClk_pending (k : Nat) (f : DieClk → DieClk) : (s.modDieClk k f).pending = s.pending := rfl

/-! ### modIsland -/

@[simp] theorem State.modIsland_st (k : Nat) (f : IslandS → IslandS) : (s.modIsland k f).st = s.st := rfl
@[simp] theorem State.modIsland_since (k : Nat) (f : IslandS → IslandS) : (s.modIsland k f).since = s.since := rfl
@[simp] theorem State.modIsland_now (k : Nat) (f : IslandS → IslandS) : (s.modIsland k f).now = s.now := rfl
@[simp] theorem State.modIsland_log (k : Nat) (f : IslandS → IslandS) : (s.modIsland k f).log = s.log := rfl
@[simp] theorem State.modIsland_anat (k : Nat) (f : IslandS → IslandS) : (s.modIsland k f).anat = s.anat := rfl
@[simp] theorem State.modIsland_dict (k : Nat) (f : IslandS → IslandS) : (s.modIsland k f).dict = s.dict := rfl
@[simp] theorem State.modIsland_stored (k : Nat) (f : IslandS → IslandS) : (s.modIsland k f).stored = s.stored := rfl
@[simp] theorem State.modIsland_ctrs (k : Nat) (f : IslandS → IslandS) : (s.modIsland k f).ctrs = s.ctrs := rfl
@[simp] theorem State.modIsland_ctrSince (k : Nat) (f : IslandS → IslandS) : (s.modIsland k f).ctrSince = s.ctrSince := rfl
@[simp] theorem State.modIsland_stackMem (k : Nat) (f : IslandS → IslandS) : (s.modIsland k f).stackMem = s.stackMem := rfl
@[simp] theorem State.modIsland_commonsMem (k : Nat) (f : IslandS → IslandS) : (s.modIsland k f).commonsMem = s.commonsMem := rfl
@[simp] theorem State.modIsland_spadMem (k : Nat) (f : IslandS → IslandS) : (s.modIsland k f).spadMem = s.spadMem := rfl
@[simp] theorem State.modIsland_tiles (k : Nat) (f : IslandS → IslandS) : (s.modIsland k f).tiles = s.tiles := rfl
@[simp] theorem State.modIsland_eng (k : Nat) (f : IslandS → IslandS) : (s.modIsland k f).eng = s.eng := rfl
@[simp] theorem State.modIsland_flow (k : Nat) (f : IslandS → IslandS) : (s.modIsland k f).flow = s.flow := rfl
@[simp] theorem State.modIsland_stk (k : Nat) (f : IslandS → IslandS) : (s.modIsland k f).stk = s.stk := rfl
@[simp] theorem State.modIsland_net (k : Nat) (f : IslandS → IslandS) : (s.modIsland k f).net = s.net := rfl
@[simp] theorem State.modIsland_fab (k : Nat) (f : IslandS → IslandS) : (s.modIsland k f).fab = s.fab := rfl
@[simp] theorem State.modIsland_pwr (k : Nat) (f : IslandS → IslandS) : (s.modIsland k f).pwr = s.pwr := rfl
@[simp] theorem State.modIsland_thm (k : Nat) (f : IslandS → IslandS) : (s.modIsland k f).thm = s.thm := rfl
@[simp] theorem State.modIsland_sec (k : Nat) (f : IslandS → IslandS) : (s.modIsland k f).sec = s.sec := rfl
@[simp] theorem State.modIsland_hst (k : Nat) (f : IslandS → IslandS) : (s.modIsland k f).hst = s.hst := rfl
@[simp] theorem State.modIsland_mgmt (k : Nat) (f : IslandS → IslandS) : (s.modIsland k f).mgmt = s.mgmt := rfl
@[simp] theorem State.modIsland_boot (k : Nat) (f : IslandS → IslandS) : (s.modIsland k f).boot = s.boot := rfl
@[simp] theorem State.modIsland_recov (k : Nat) (f : IslandS → IslandS) : (s.modIsland k f).recov = s.recov := rfl
@[simp] theorem State.modIsland_pins (k : Nat) (f : IslandS → IslandS) : (s.modIsland k f).pins = s.pins := rfl
@[simp] theorem State.modIsland_sent (k : Nat) (f : IslandS → IslandS) : (s.modIsland k f).sent = s.sent := rfl
@[simp] theorem State.modIsland_answer (k : Nat) (f : IslandS → IslandS) : (s.modIsland k f).answer = s.answer := rfl
@[simp] theorem State.modIsland_freeCount (k : Nat) (f : IslandS → IslandS) : (s.modIsland k f).freeCount = s.freeCount := rfl
@[simp] theorem State.modIsland_pending (k : Nat) (f : IslandS → IslandS) : (s.modIsland k f).pending = s.pending := rfl

/-! ### modCell -/

@[simp] theorem State.modCell_st (k : Nat) (f : Cell → Cell) : (s.modCell k f).st = s.st := rfl
@[simp] theorem State.modCell_since (k : Nat) (f : Cell → Cell) : (s.modCell k f).since = s.since := rfl
@[simp] theorem State.modCell_now (k : Nat) (f : Cell → Cell) : (s.modCell k f).now = s.now := rfl
@[simp] theorem State.modCell_log (k : Nat) (f : Cell → Cell) : (s.modCell k f).log = s.log := rfl
@[simp] theorem State.modCell_anat (k : Nat) (f : Cell → Cell) : (s.modCell k f).anat = s.anat := rfl
@[simp] theorem State.modCell_dict (k : Nat) (f : Cell → Cell) : (s.modCell k f).dict = s.dict := rfl
@[simp] theorem State.modCell_stored (k : Nat) (f : Cell → Cell) : (s.modCell k f).stored = s.stored := rfl
@[simp] theorem State.modCell_ctrs (k : Nat) (f : Cell → Cell) : (s.modCell k f).ctrs = s.ctrs := rfl
@[simp] theorem State.modCell_ctrSince (k : Nat) (f : Cell → Cell) : (s.modCell k f).ctrSince = s.ctrSince := rfl
@[simp] theorem State.modCell_stackMem (k : Nat) (f : Cell → Cell) : (s.modCell k f).stackMem = s.stackMem := rfl
@[simp] theorem State.modCell_commonsMem (k : Nat) (f : Cell → Cell) : (s.modCell k f).commonsMem = s.commonsMem := rfl
@[simp] theorem State.modCell_spadMem (k : Nat) (f : Cell → Cell) : (s.modCell k f).spadMem = s.spadMem := rfl
@[simp] theorem State.modCell_tiles (k : Nat) (f : Cell → Cell) : (s.modCell k f).tiles = s.tiles := rfl
@[simp] theorem State.modCell_eng (k : Nat) (f : Cell → Cell) : (s.modCell k f).eng = s.eng := rfl
@[simp] theorem State.modCell_flow (k : Nat) (f : Cell → Cell) : (s.modCell k f).flow = s.flow := rfl
@[simp] theorem State.modCell_stk (k : Nat) (f : Cell → Cell) : (s.modCell k f).stk = s.stk := rfl
@[simp] theorem State.modCell_fab (k : Nat) (f : Cell → Cell) : (s.modCell k f).fab = s.fab := rfl
@[simp] theorem State.modCell_clk (k : Nat) (f : Cell → Cell) : (s.modCell k f).clk = s.clk := rfl
@[simp] theorem State.modCell_pwr (k : Nat) (f : Cell → Cell) : (s.modCell k f).pwr = s.pwr := rfl
@[simp] theorem State.modCell_thm (k : Nat) (f : Cell → Cell) : (s.modCell k f).thm = s.thm := rfl
@[simp] theorem State.modCell_sec (k : Nat) (f : Cell → Cell) : (s.modCell k f).sec = s.sec := rfl
@[simp] theorem State.modCell_hst (k : Nat) (f : Cell → Cell) : (s.modCell k f).hst = s.hst := rfl
@[simp] theorem State.modCell_mgmt (k : Nat) (f : Cell → Cell) : (s.modCell k f).mgmt = s.mgmt := rfl
@[simp] theorem State.modCell_boot (k : Nat) (f : Cell → Cell) : (s.modCell k f).boot = s.boot := rfl
@[simp] theorem State.modCell_recov (k : Nat) (f : Cell → Cell) : (s.modCell k f).recov = s.recov := rfl
@[simp] theorem State.modCell_pins (k : Nat) (f : Cell → Cell) : (s.modCell k f).pins = s.pins := rfl
@[simp] theorem State.modCell_sent (k : Nat) (f : Cell → Cell) : (s.modCell k f).sent = s.sent := rfl
@[simp] theorem State.modCell_answer (k : Nat) (f : Cell → Cell) : (s.modCell k f).answer = s.answer := rfl
@[simp] theorem State.modCell_freeCount (k : Nat) (f : Cell → Cell) : (s.modCell k f).freeCount = s.freeCount := rfl
@[simp] theorem State.modCell_pending (k : Nat) (f : Cell → Cell) : (s.modCell k f).pending = s.pending := rfl

/-! ### modSpot -/

@[simp] theorem State.modSpot_st (k : Nat) (f : SpotS → SpotS) : (s.modSpot k f).st = s.st := rfl
@[simp] theorem State.modSpot_since (k : Nat) (f : SpotS → SpotS) : (s.modSpot k f).since = s.since := rfl
@[simp] theorem State.modSpot_now (k : Nat) (f : SpotS → SpotS) : (s.modSpot k f).now = s.now := rfl
@[simp] theorem State.modSpot_log (k : Nat) (f : SpotS → SpotS) : (s.modSpot k f).log = s.log := rfl
@[simp] theorem State.modSpot_anat (k : Nat) (f : SpotS → SpotS) : (s.modSpot k f).anat = s.anat := rfl
@[simp] theorem State.modSpot_dict (k : Nat) (f : SpotS → SpotS) : (s.modSpot k f).dict = s.dict := rfl
@[simp] theorem State.modSpot_stored (k : Nat) (f : SpotS → SpotS) : (s.modSpot k f).stored = s.stored := rfl
@[simp] theorem State.modSpot_ctrs (k : Nat) (f : SpotS → SpotS) : (s.modSpot k f).ctrs = s.ctrs := rfl
@[simp] theorem State.modSpot_ctrSince (k : Nat) (f : SpotS → SpotS) : (s.modSpot k f).ctrSince = s.ctrSince := rfl
@[simp] theorem State.modSpot_stackMem (k : Nat) (f : SpotS → SpotS) : (s.modSpot k f).stackMem = s.stackMem := rfl
@[simp] theorem State.modSpot_commonsMem (k : Nat) (f : SpotS → SpotS) : (s.modSpot k f).commonsMem = s.commonsMem := rfl
@[simp] theorem State.modSpot_spadMem (k : Nat) (f : SpotS → SpotS) : (s.modSpot k f).spadMem = s.spadMem := rfl
@[simp] theorem State.modSpot_tiles (k : Nat) (f : SpotS → SpotS) : (s.modSpot k f).tiles = s.tiles := rfl
@[simp] theorem State.modSpot_eng (k : Nat) (f : SpotS → SpotS) : (s.modSpot k f).eng = s.eng := rfl
@[simp] theorem State.modSpot_flow (k : Nat) (f : SpotS → SpotS) : (s.modSpot k f).flow = s.flow := rfl
@[simp] theorem State.modSpot_stk (k : Nat) (f : SpotS → SpotS) : (s.modSpot k f).stk = s.stk := rfl
@[simp] theorem State.modSpot_net (k : Nat) (f : SpotS → SpotS) : (s.modSpot k f).net = s.net := rfl
@[simp] theorem State.modSpot_fab (k : Nat) (f : SpotS → SpotS) : (s.modSpot k f).fab = s.fab := rfl
@[simp] theorem State.modSpot_clk (k : Nat) (f : SpotS → SpotS) : (s.modSpot k f).clk = s.clk := rfl
@[simp] theorem State.modSpot_pwr (k : Nat) (f : SpotS → SpotS) : (s.modSpot k f).pwr = s.pwr := rfl
@[simp] theorem State.modSpot_sec (k : Nat) (f : SpotS → SpotS) : (s.modSpot k f).sec = s.sec := rfl
@[simp] theorem State.modSpot_hst (k : Nat) (f : SpotS → SpotS) : (s.modSpot k f).hst = s.hst := rfl
@[simp] theorem State.modSpot_mgmt (k : Nat) (f : SpotS → SpotS) : (s.modSpot k f).mgmt = s.mgmt := rfl
@[simp] theorem State.modSpot_boot (k : Nat) (f : SpotS → SpotS) : (s.modSpot k f).boot = s.boot := rfl
@[simp] theorem State.modSpot_recov (k : Nat) (f : SpotS → SpotS) : (s.modSpot k f).recov = s.recov := rfl
@[simp] theorem State.modSpot_pins (k : Nat) (f : SpotS → SpotS) : (s.modSpot k f).pins = s.pins := rfl
@[simp] theorem State.modSpot_sent (k : Nat) (f : SpotS → SpotS) : (s.modSpot k f).sent = s.sent := rfl
@[simp] theorem State.modSpot_answer (k : Nat) (f : SpotS → SpotS) : (s.modSpot k f).answer = s.answer := rfl
@[simp] theorem State.modSpot_freeCount (k : Nat) (f : SpotS → SpotS) : (s.modSpot k f).freeCount = s.freeCount := rfl
@[simp] theorem State.modSpot_pending (k : Nat) (f : SpotS → SpotS) : (s.modSpot k f).pending = s.pending := rfl

/-! ### What they change -/

@[simp] theorem State.ok_answer : s.ok.answer = .done := rfl
@[simp] theorem State.turnAway_answer : s.turnAway.answer = .turnedAway := rfl
@[simp] theorem State.status_answer (x : Status) : (s.status x).answer = .status x := rfl
@[simp] theorem State.fstatus_answer (x : FStatus) : (s.fstatus x).answer = .fjoco x [] := rfl
@[simp] theorem State.send_sent (m : Msg) : (s.send m).sent = m :: s.sent := rfl
@[simp] theorem State.notBefore_now (t : Nat) : (s.notBefore t).now = max s.now t := rfl

theorem State.obj_setObj (i n v : Nat) : (s.setObj i n v).obj i n = v := tget_tset_same _ _ _ _

theorem State.session_setSession (n m : Nat) (x : Option Session) :
    (s.setSession n x).session m = if m = n then x else s.session m := tget_tset _ _ _ _ _

theorem State.site_modSite (h k : Nat) (f : Site → Site) :
    (s.modSite h f).site k = if k = h then f (s.site h) else s.site k := tget_tset _ _ _ _ _

/-- A counter saturates (R73). -/
theorem State.ctr_count (k : CtrSet) (r o n : Nat) :
    (s.count k r o n).ctr k r o = min (s.ctr k r o + n) 0xFFFFFFFF := tget_tset_same _ _ _ _

theorem State.ctx_modCtx (c k : CtxId) (f : CtxS → CtxS) :
    (s.modCtx c f).ctx k = if k = c then f (s.ctx c) else s.ctx k := by
  by_cases h : k = c
  · subst h; simp [State.modCtx, State.ctx, tmod]
  · have : k.val ≠ c.val := fun e => h (Fin.ext e)
    simp [State.modCtx, State.ctx, tmod, tget_tset, h, this]

theorem State.unit_modUnit (c k : Nat) (f : UnitS → UnitS) :
    (s.modUnit c f).unit k = if k = c then f (s.unit c) else s.unit k := tget_tset _ _ _ _ _

theorem State.queue_modQueue (c k : Nat) (f : QueueS → QueueS) :
    (s.modQueue c f).queue k = if k = c then f (s.queue c) else s.queue k := tget_tset _ _ _ _ _

theorem State.tile_modTile (c k : Nat) (f : TileS → TileS) :
    (s.modTile c f).tile k = if k = c then f (s.tile c) else s.tile k := tget_tset _ _ _ _ _

theorem State.commons_modCommons (c k : Nat) (f : CommonsS → CommonsS) :
    (s.modCommons c f).commons k = if k = c then f (s.commons c) else s.commons k := tget_tset _ _ _ _ _

theorem State.engine_modEngine (c k : Nat) (f : EngineS → EngineS) :
    (s.modEngine c f).engine k = if k = c then f (s.engine c) else s.engine k := tget_tset _ _ _ _ _

theorem State.ring_modRing (c k : Nat) (f : Ring → Ring) :
    (s.modRing c f).ring k = if k = c then f (s.ring c) else s.ring k := tget_tset _ _ _ _ _

theorem State.stack_modStack (c k : Nat) (f : StackS → StackS) :
    (s.modStack c f).stack k = if k = c then f (s.stack c) else s.stack k := tget_tset _ _ _ _ _

theorem State.vent_modVent (c k : Nat) (f : VentS → VentS) :
    (s.modVent c f).vent k = if k = c then f (s.vent c) else s.vent k := tget_tset _ _ _ _ _

theorem State.dieClk_modDieClk (c k : Nat) (f : DieClk → DieClk) :
    (s.modDieClk c f).dieClk k = if k = c then f (s.dieClk c) else s.dieClk k := tget_tset _ _ _ _ _

theorem State.island_modIsland (c k : Nat) (f : IslandS → IslandS) :
    (s.modIsland c f).island k = if k = c then f (s.island c) else s.island k := tget_tset _ _ _ _ _

theorem State.cell_modCell (c k : Nat) (f : Cell → Cell) :
    (s.modCell c f).cell k = if k = c then f (s.cell c) else s.cell k := tget_tset _ _ _ _ _

theorem State.spot_modSpot (c k : Nat) (f : SpotS → SpotS) :
    (s.modSpot c f).spot k = if k = c then f (s.spot c) else s.spot k := tget_tset _ _ _ _ _

/-! ### Tables that an update leaves alone -/

@[simp] theorem State.ctx_of_setObj (i n v : Nat) (z : CtxId) : (s.setObj i n v).ctx z = s.ctx z := rfl
@[simp] theorem State.unit_of_setObj (i n v : Nat) (z : Nat) : (s.setObj i n v).unit z = s.unit z := rfl
@[simp] theorem State.queue_of_setObj (i n v : Nat) (z : Nat) : (s.setObj i n v).queue z = s.queue z := rfl
@[simp] theorem State.tile_of_setObj (i n v : Nat) (z : Nat) : (s.setObj i n v).tile z = s.tile z := rfl
@[simp] theorem State.commons_of_setObj (i n v : Nat) (z : Nat) : (s.setObj i n v).commons z = s.commons z := rfl
@[simp] theorem State.engine_of_setObj (i n v : Nat) (z : Nat) : (s.setObj i n v).engine z = s.engine z := rfl
@[simp] theorem State.ring_of_setObj (i n v : Nat) (z : Nat) : (s.setObj i n v).ring z = s.ring z := rfl
@[simp] theorem State.stack_of_setObj (i n v : Nat) (z : Nat) : (s.setObj i n v).stack z = s.stack z := rfl
@[simp] theorem State.vent_of_setObj (i n v : Nat) (z : Nat) : (s.setObj i n v).vent z = s.vent z := rfl
@[simp] theorem State.dieClk_of_setObj (i n v : Nat) (z : Nat) : (s.setObj i n v).dieClk z = s.dieClk z := rfl
@[simp] theorem State.island_of_setObj (i n v : Nat) (z : Nat) : (s.setObj i n v).island z = s.island z := rfl
@[simp] theorem State.cell_of_setObj (i n v : Nat) (z : Nat) : (s.setObj i n v).cell z = s.cell z := rfl
@[simp] theorem State.spot_of_setObj (i n v : Nat) (z : Nat) : (s.setObj i n v).spot z = s.spot z := rfl
@[simp] theorem State.site_of_setObj (i n v : Nat) (z : Nat) : (s.setObj i n v).site z = s.site z := rfl
@[simp] theorem State.session_of_setObj (i n v : Nat) (z : Nat) : (s.setObj i n v).session z = s.session z := rfl
@[simp] theorem State.ctx_of_count (k : CtrSet) (r o n : Nat) (z : CtxId) : (s.count k r o n).ctx z = s.ctx z := rfl
@[simp] theorem State.unit_of_count (k : CtrSet) (r o n : Nat) (z : Nat) : (s.count k r o n).unit z = s.unit z := rfl
@[simp] theorem State.queue_of_count (k : CtrSet) (r o n : Nat) (z : Nat) : (s.count k r o n).queue z = s.queue z := rfl
@[simp] theorem State.tile_of_count (k : CtrSet) (r o n : Nat) (z : Nat) : (s.count k r o n).tile z = s.tile z := rfl
@[simp] theorem State.commons_of_count (k : CtrSet) (r o n : Nat) (z : Nat) : (s.count k r o n).commons z = s.commons z := rfl
@[simp] theorem State.engine_of_count (k : CtrSet) (r o n : Nat) (z : Nat) : (s.count k r o n).engine z = s.engine z := rfl
@[simp] theorem State.ring_of_count (k : CtrSet) (r o n : Nat) (z : Nat) : (s.count k r o n).ring z = s.ring z := rfl
@[simp] theorem State.stack_of_count (k : CtrSet) (r o n : Nat) (z : Nat) : (s.count k r o n).stack z = s.stack z := rfl
@[simp] theorem State.vent_of_count (k : CtrSet) (r o n : Nat) (z : Nat) : (s.count k r o n).vent z = s.vent z := rfl
@[simp] theorem State.dieClk_of_count (k : CtrSet) (r o n : Nat) (z : Nat) : (s.count k r o n).dieClk z = s.dieClk z := rfl
@[simp] theorem State.island_of_count (k : CtrSet) (r o n : Nat) (z : Nat) : (s.count k r o n).island z = s.island z := rfl
@[simp] theorem State.cell_of_count (k : CtrSet) (r o n : Nat) (z : Nat) : (s.count k r o n).cell z = s.cell z := rfl
@[simp] theorem State.spot_of_count (k : CtrSet) (r o n : Nat) (z : Nat) : (s.count k r o n).spot z = s.spot z := rfl
@[simp] theorem State.site_of_count (k : CtrSet) (r o n : Nat) (z : Nat) : (s.count k r o n).site z = s.site z := rfl
@[simp] theorem State.session_of_count (k : CtrSet) (r o n : Nat) (z : Nat) : (s.count k r o n).session z = s.session z := rfl
@[simp] theorem State.ctx_of_count64 (k : CtrSet) (r o n : Nat) (z : CtxId) : (s.count64 k r o n).ctx z = s.ctx z := rfl
@[simp] theorem State.unit_of_count64 (k : CtrSet) (r o n : Nat) (z : Nat) : (s.count64 k r o n).unit z = s.unit z := rfl
@[simp] theorem State.queue_of_count64 (k : CtrSet) (r o n : Nat) (z : Nat) : (s.count64 k r o n).queue z = s.queue z := rfl
@[simp] theorem State.tile_of_count64 (k : CtrSet) (r o n : Nat) (z : Nat) : (s.count64 k r o n).tile z = s.tile z := rfl
@[simp] theorem State.commons_of_count64 (k : CtrSet) (r o n : Nat) (z : Nat) : (s.count64 k r o n).commons z = s.commons z := rfl
@[simp] theorem State.engine_of_count64 (k : CtrSet) (r o n : Nat) (z : Nat) : (s.count64 k r o n).engine z = s.engine z := rfl
@[simp] theorem State.ring_of_count64 (k : CtrSet) (r o n : Nat) (z : Nat) : (s.count64 k r o n).ring z = s.ring z := rfl
@[simp] theorem State.stack_of_count64 (k : CtrSet) (r o n : Nat) (z : Nat) : (s.count64 k r o n).stack z = s.stack z := rfl
@[simp] theorem State.vent_of_count64 (k : CtrSet) (r o n : Nat) (z : Nat) : (s.count64 k r o n).vent z = s.vent z := rfl
@[simp] theorem State.dieClk_of_count64 (k : CtrSet) (r o n : Nat) (z : Nat) : (s.count64 k r o n).dieClk z = s.dieClk z := rfl
@[simp] theorem State.island_of_count64 (k : CtrSet) (r o n : Nat) (z : Nat) : (s.count64 k r o n).island z = s.island z := rfl
@[simp] theorem State.cell_of_count64 (k : CtrSet) (r o n : Nat) (z : Nat) : (s.count64 k r o n).cell z = s.cell z := rfl
@[simp] theorem State.spot_of_count64 (k : CtrSet) (r o n : Nat) (z : Nat) : (s.count64 k r o n).spot z = s.spot z := rfl
@[simp] theorem State.site_of_count64 (k : CtrSet) (r o n : Nat) (z : Nat) : (s.count64 k r o n).site z = s.site z := rfl
@[simp] theorem State.session_of_count64 (k : CtrSet) (r o n : Nat) (z : Nat) : (s.count64 k r o n).session z = s.session z := rfl
@[simp] theorem State.ctx_of_countMax (k : CtrSet) (r o n : Nat) (z : CtxId) : (s.countMax k r o n).ctx z = s.ctx z := rfl
@[simp] theorem State.unit_of_countMax (k : CtrSet) (r o n : Nat) (z : Nat) : (s.countMax k r o n).unit z = s.unit z := rfl
@[simp] theorem State.queue_of_countMax (k : CtrSet) (r o n : Nat) (z : Nat) : (s.countMax k r o n).queue z = s.queue z := rfl
@[simp] theorem State.tile_of_countMax (k : CtrSet) (r o n : Nat) (z : Nat) : (s.countMax k r o n).tile z = s.tile z := rfl
@[simp] theorem State.commons_of_countMax (k : CtrSet) (r o n : Nat) (z : Nat) : (s.countMax k r o n).commons z = s.commons z := rfl
@[simp] theorem State.engine_of_countMax (k : CtrSet) (r o n : Nat) (z : Nat) : (s.countMax k r o n).engine z = s.engine z := rfl
@[simp] theorem State.ring_of_countMax (k : CtrSet) (r o n : Nat) (z : Nat) : (s.countMax k r o n).ring z = s.ring z := rfl
@[simp] theorem State.stack_of_countMax (k : CtrSet) (r o n : Nat) (z : Nat) : (s.countMax k r o n).stack z = s.stack z := rfl
@[simp] theorem State.vent_of_countMax (k : CtrSet) (r o n : Nat) (z : Nat) : (s.countMax k r o n).vent z = s.vent z := rfl
@[simp] theorem State.dieClk_of_countMax (k : CtrSet) (r o n : Nat) (z : Nat) : (s.countMax k r o n).dieClk z = s.dieClk z := rfl
@[simp] theorem State.island_of_countMax (k : CtrSet) (r o n : Nat) (z : Nat) : (s.countMax k r o n).island z = s.island z := rfl
@[simp] theorem State.cell_of_countMax (k : CtrSet) (r o n : Nat) (z : Nat) : (s.countMax k r o n).cell z = s.cell z := rfl
@[simp] theorem State.spot_of_countMax (k : CtrSet) (r o n : Nat) (z : Nat) : (s.countMax k r o n).spot z = s.spot z := rfl
@[simp] theorem State.site_of_countMax (k : CtrSet) (r o n : Nat) (z : Nat) : (s.countMax k r o n).site z = s.site z := rfl
@[simp] theorem State.session_of_countMax (k : CtrSet) (r o n : Nat) (z : Nat) : (s.countMax k r o n).session z = s.session z := rfl
@[simp] theorem State.ctx_of_clearCounters (k : CtrSet) (z : CtxId) : (s.clearCounters k).ctx z = s.ctx z := rfl
@[simp] theorem State.unit_of_clearCounters (k : CtrSet) (z : Nat) : (s.clearCounters k).unit z = s.unit z := rfl
@[simp] theorem State.queue_of_clearCounters (k : CtrSet) (z : Nat) : (s.clearCounters k).queue z = s.queue z := rfl
@[simp] theorem State.tile_of_clearCounters (k : CtrSet) (z : Nat) : (s.clearCounters k).tile z = s.tile z := rfl
@[simp] theorem State.commons_of_clearCounters (k : CtrSet) (z : Nat) : (s.clearCounters k).commons z = s.commons z := rfl
@[simp] theorem State.engine_of_clearCounters (k : CtrSet) (z : Nat) : (s.clearCounters k).engine z = s.engine z := rfl
@[simp] theorem State.ring_of_clearCounters (k : CtrSet) (z : Nat) : (s.clearCounters k).ring z = s.ring z := rfl
@[simp] theorem State.stack_of_clearCounters (k : CtrSet) (z : Nat) : (s.clearCounters k).stack z = s.stack z := rfl
@[simp] theorem State.vent_of_clearCounters (k : CtrSet) (z : Nat) : (s.clearCounters k).vent z = s.vent z := rfl
@[simp] theorem State.dieClk_of_clearCounters (k : CtrSet) (z : Nat) : (s.clearCounters k).dieClk z = s.dieClk z := rfl
@[simp] theorem State.island_of_clearCounters (k : CtrSet) (z : Nat) : (s.clearCounters k).island z = s.island z := rfl
@[simp] theorem State.cell_of_clearCounters (k : CtrSet) (z : Nat) : (s.clearCounters k).cell z = s.cell z := rfl
@[simp] theorem State.spot_of_clearCounters (k : CtrSet) (z : Nat) : (s.clearCounters k).spot z = s.spot z := rfl
@[simp] theorem State.site_of_clearCounters (k : CtrSet) (z : Nat) : (s.clearCounters k).site z = s.site z := rfl
@[simp] theorem State.session_of_clearCounters (k : CtrSet) (z : Nat) : (s.clearCounters k).session z = s.session z := rfl
@[simp] theorem State.ctx_of_modSite (h : Nat) (f : Site → Site) (z : CtxId) : (s.modSite h f).ctx z = s.ctx z := rfl
@[simp] theorem State.unit_of_modSite (h : Nat) (f : Site → Site) (z : Nat) : (s.modSite h f).unit z = s.unit z := rfl
@[simp] theorem State.queue_of_modSite (h : Nat) (f : Site → Site) (z : Nat) : (s.modSite h f).queue z = s.queue z := rfl
@[simp] theorem State.tile_of_modSite (h : Nat) (f : Site → Site) (z : Nat) : (s.modSite h f).tile z = s.tile z := rfl
@[simp] theorem State.commons_of_modSite (h : Nat) (f : Site → Site) (z : Nat) : (s.modSite h f).commons z = s.commons z := rfl
@[simp] theorem State.engine_of_modSite (h : Nat) (f : Site → Site) (z : Nat) : (s.modSite h f).engine z = s.engine z := rfl
@[simp] theorem State.ring_of_modSite (h : Nat) (f : Site → Site) (z : Nat) : (s.modSite h f).ring z = s.ring z := rfl
@[simp] theorem State.stack_of_modSite (h : Nat) (f : Site → Site) (z : Nat) : (s.modSite h f).stack z = s.stack z := rfl
@[simp] theorem State.vent_of_modSite (h : Nat) (f : Site → Site) (z : Nat) : (s.modSite h f).vent z = s.vent z := rfl
@[simp] theorem State.dieClk_of_modSite (h : Nat) (f : Site → Site) (z : Nat) : (s.modSite h f).dieClk z = s.dieClk z := rfl
@[simp] theorem State.island_of_modSite (h : Nat) (f : Site → Site) (z : Nat) : (s.modSite h f).island z = s.island z := rfl
@[simp] theorem State.cell_of_modSite (h : Nat) (f : Site → Site) (z : Nat) : (s.modSite h f).cell z = s.cell z := rfl
@[simp] theorem State.spot_of_modSite (h : Nat) (f : Site → Site) (z : Nat) : (s.modSite h f).spot z = s.spot z := rfl
@[simp] theorem State.session_of_modSite (h : Nat) (f : Site → Site) (z : Nat) : (s.modSite h f).session z = s.session z := rfl
@[simp] theorem State.ctx_of_setSession (n : Nat) (x : Option Session) (z : CtxId) : (s.setSession n x).ctx z = s.ctx z := rfl
@[simp] theorem State.unit_of_setSession (n : Nat) (x : Option Session) (z : Nat) : (s.setSession n x).unit z = s.unit z := rfl
@[simp] theorem State.queue_of_setSession (n : Nat) (x : Option Session) (z : Nat) : (s.setSession n x).queue z = s.queue z := rfl
@[simp] theorem State.tile_of_setSession (n : Nat) (x : Option Session) (z : Nat) : (s.setSession n x).tile z = s.tile z := rfl
@[simp] theorem State.commons_of_setSession (n : Nat) (x : Option Session) (z : Nat) : (s.setSession n x).commons z = s.commons z := rfl
@[simp] theorem State.engine_of_setSession (n : Nat) (x : Option Session) (z : Nat) : (s.setSession n x).engine z = s.engine z := rfl
@[simp] theorem State.ring_of_setSession (n : Nat) (x : Option Session) (z : Nat) : (s.setSession n x).ring z = s.ring z := rfl
@[simp] theorem State.stack_of_setSession (n : Nat) (x : Option Session) (z : Nat) : (s.setSession n x).stack z = s.stack z := rfl
@[simp] theorem State.vent_of_setSession (n : Nat) (x : Option Session) (z : Nat) : (s.setSession n x).vent z = s.vent z := rfl
@[simp] theorem State.dieClk_of_setSession (n : Nat) (x : Option Session) (z : Nat) : (s.setSession n x).dieClk z = s.dieClk z := rfl
@[simp] theorem State.island_of_setSession (n : Nat) (x : Option Session) (z : Nat) : (s.setSession n x).island z = s.island z := rfl
@[simp] theorem State.cell_of_setSession (n : Nat) (x : Option Session) (z : Nat) : (s.setSession n x).cell z = s.cell z := rfl
@[simp] theorem State.spot_of_setSession (n : Nat) (x : Option Session) (z : Nat) : (s.setSession n x).spot z = s.spot z := rfl
@[simp] theorem State.site_of_setSession (n : Nat) (x : Option Session) (z : Nat) : (s.setSession n x).site z = s.site z := rfl
@[simp] theorem State.ctx_of_send (m : Msg) (z : CtxId) : (s.send m).ctx z = s.ctx z := rfl
@[simp] theorem State.unit_of_send (m : Msg) (z : Nat) : (s.send m).unit z = s.unit z := rfl
@[simp] theorem State.queue_of_send (m : Msg) (z : Nat) : (s.send m).queue z = s.queue z := rfl
@[simp] theorem State.tile_of_send (m : Msg) (z : Nat) : (s.send m).tile z = s.tile z := rfl
@[simp] theorem State.commons_of_send (m : Msg) (z : Nat) : (s.send m).commons z = s.commons z := rfl
@[simp] theorem State.engine_of_send (m : Msg) (z : Nat) : (s.send m).engine z = s.engine z := rfl
@[simp] theorem State.ring_of_send (m : Msg) (z : Nat) : (s.send m).ring z = s.ring z := rfl
@[simp] theorem State.stack_of_send (m : Msg) (z : Nat) : (s.send m).stack z = s.stack z := rfl
@[simp] theorem State.vent_of_send (m : Msg) (z : Nat) : (s.send m).vent z = s.vent z := rfl
@[simp] theorem State.dieClk_of_send (m : Msg) (z : Nat) : (s.send m).dieClk z = s.dieClk z := rfl
@[simp] theorem State.island_of_send (m : Msg) (z : Nat) : (s.send m).island z = s.island z := rfl
@[simp] theorem State.cell_of_send (m : Msg) (z : Nat) : (s.send m).cell z = s.cell z := rfl
@[simp] theorem State.spot_of_send (m : Msg) (z : Nat) : (s.send m).spot z = s.spot z := rfl
@[simp] theorem State.site_of_send (m : Msg) (z : Nat) : (s.send m).site z = s.site z := rfl
@[simp] theorem State.session_of_send (m : Msg) (z : Nat) : (s.send m).session z = s.session z := rfl
@[simp] theorem State.ctx_of_ok (z : CtxId) : (s.ok).ctx z = s.ctx z := rfl
@[simp] theorem State.unit_of_ok (z : Nat) : (s.ok).unit z = s.unit z := rfl
@[simp] theorem State.queue_of_ok (z : Nat) : (s.ok).queue z = s.queue z := rfl
@[simp] theorem State.tile_of_ok (z : Nat) : (s.ok).tile z = s.tile z := rfl
@[simp] theorem State.commons_of_ok (z : Nat) : (s.ok).commons z = s.commons z := rfl
@[simp] theorem State.engine_of_ok (z : Nat) : (s.ok).engine z = s.engine z := rfl
@[simp] theorem State.ring_of_ok (z : Nat) : (s.ok).ring z = s.ring z := rfl
@[simp] theorem State.stack_of_ok (z : Nat) : (s.ok).stack z = s.stack z := rfl
@[simp] theorem State.vent_of_ok (z : Nat) : (s.ok).vent z = s.vent z := rfl
@[simp] theorem State.dieClk_of_ok (z : Nat) : (s.ok).dieClk z = s.dieClk z := rfl
@[simp] theorem State.island_of_ok (z : Nat) : (s.ok).island z = s.island z := rfl
@[simp] theorem State.cell_of_ok (z : Nat) : (s.ok).cell z = s.cell z := rfl
@[simp] theorem State.spot_of_ok (z : Nat) : (s.ok).spot z = s.spot z := rfl
@[simp] theorem State.site_of_ok (z : Nat) : (s.ok).site z = s.site z := rfl
@[simp] theorem State.session_of_ok (z : Nat) : (s.ok).session z = s.session z := rfl
@[simp] theorem State.ctx_of_turnAway (z : CtxId) : (s.turnAway).ctx z = s.ctx z := rfl
@[simp] theorem State.unit_of_turnAway (z : Nat) : (s.turnAway).unit z = s.unit z := rfl
@[simp] theorem State.queue_of_turnAway (z : Nat) : (s.turnAway).queue z = s.queue z := rfl
@[simp] theorem State.tile_of_turnAway (z : Nat) : (s.turnAway).tile z = s.tile z := rfl
@[simp] theorem State.commons_of_turnAway (z : Nat) : (s.turnAway).commons z = s.commons z := rfl
@[simp] theorem State.engine_of_turnAway (z : Nat) : (s.turnAway).engine z = s.engine z := rfl
@[simp] theorem State.ring_of_turnAway (z : Nat) : (s.turnAway).ring z = s.ring z := rfl
@[simp] theorem State.stack_of_turnAway (z : Nat) : (s.turnAway).stack z = s.stack z := rfl
@[simp] theorem State.vent_of_turnAway (z : Nat) : (s.turnAway).vent z = s.vent z := rfl
@[simp] theorem State.dieClk_of_turnAway (z : Nat) : (s.turnAway).dieClk z = s.dieClk z := rfl
@[simp] theorem State.island_of_turnAway (z : Nat) : (s.turnAway).island z = s.island z := rfl
@[simp] theorem State.cell_of_turnAway (z : Nat) : (s.turnAway).cell z = s.cell z := rfl
@[simp] theorem State.spot_of_turnAway (z : Nat) : (s.turnAway).spot z = s.spot z := rfl
@[simp] theorem State.site_of_turnAway (z : Nat) : (s.turnAway).site z = s.site z := rfl
@[simp] theorem State.session_of_turnAway (z : Nat) : (s.turnAway).session z = s.session z := rfl
@[simp] theorem State.ctx_of_status (x : Status) (z : CtxId) : (s.status x).ctx z = s.ctx z := rfl
@[simp] theorem State.unit_of_status (x : Status) (z : Nat) : (s.status x).unit z = s.unit z := rfl
@[simp] theorem State.queue_of_status (x : Status) (z : Nat) : (s.status x).queue z = s.queue z := rfl
@[simp] theorem State.tile_of_status (x : Status) (z : Nat) : (s.status x).tile z = s.tile z := rfl
@[simp] theorem State.commons_of_status (x : Status) (z : Nat) : (s.status x).commons z = s.commons z := rfl
@[simp] theorem State.engine_of_status (x : Status) (z : Nat) : (s.status x).engine z = s.engine z := rfl
@[simp] theorem State.ring_of_status (x : Status) (z : Nat) : (s.status x).ring z = s.ring z := rfl
@[simp] theorem State.stack_of_status (x : Status) (z : Nat) : (s.status x).stack z = s.stack z := rfl
@[simp] theorem State.vent_of_status (x : Status) (z : Nat) : (s.status x).vent z = s.vent z := rfl
@[simp] theorem State.dieClk_of_status (x : Status) (z : Nat) : (s.status x).dieClk z = s.dieClk z := rfl
@[simp] theorem State.island_of_status (x : Status) (z : Nat) : (s.status x).island z = s.island z := rfl
@[simp] theorem State.cell_of_status (x : Status) (z : Nat) : (s.status x).cell z = s.cell z := rfl
@[simp] theorem State.spot_of_status (x : Status) (z : Nat) : (s.status x).spot z = s.spot z := rfl
@[simp] theorem State.site_of_status (x : Status) (z : Nat) : (s.status x).site z = s.site z := rfl
@[simp] theorem State.session_of_status (x : Status) (z : Nat) : (s.status x).session z = s.session z := rfl
@[simp] theorem State.ctx_of_fstatus (x : FStatus) (z : CtxId) : (s.fstatus x).ctx z = s.ctx z := rfl
@[simp] theorem State.unit_of_fstatus (x : FStatus) (z : Nat) : (s.fstatus x).unit z = s.unit z := rfl
@[simp] theorem State.queue_of_fstatus (x : FStatus) (z : Nat) : (s.fstatus x).queue z = s.queue z := rfl
@[simp] theorem State.tile_of_fstatus (x : FStatus) (z : Nat) : (s.fstatus x).tile z = s.tile z := rfl
@[simp] theorem State.commons_of_fstatus (x : FStatus) (z : Nat) : (s.fstatus x).commons z = s.commons z := rfl
@[simp] theorem State.engine_of_fstatus (x : FStatus) (z : Nat) : (s.fstatus x).engine z = s.engine z := rfl
@[simp] theorem State.ring_of_fstatus (x : FStatus) (z : Nat) : (s.fstatus x).ring z = s.ring z := rfl
@[simp] theorem State.stack_of_fstatus (x : FStatus) (z : Nat) : (s.fstatus x).stack z = s.stack z := rfl
@[simp] theorem State.vent_of_fstatus (x : FStatus) (z : Nat) : (s.fstatus x).vent z = s.vent z := rfl
@[simp] theorem State.dieClk_of_fstatus (x : FStatus) (z : Nat) : (s.fstatus x).dieClk z = s.dieClk z := rfl
@[simp] theorem State.island_of_fstatus (x : FStatus) (z : Nat) : (s.fstatus x).island z = s.island z := rfl
@[simp] theorem State.cell_of_fstatus (x : FStatus) (z : Nat) : (s.fstatus x).cell z = s.cell z := rfl
@[simp] theorem State.spot_of_fstatus (x : FStatus) (z : Nat) : (s.fstatus x).spot z = s.spot z := rfl
@[simp] theorem State.site_of_fstatus (x : FStatus) (z : Nat) : (s.fstatus x).site z = s.site z := rfl
@[simp] theorem State.session_of_fstatus (x : FStatus) (z : Nat) : (s.fstatus x).session z = s.session z := rfl
@[simp] theorem State.ctx_of_notBefore (t : Nat) (z : CtxId) : (s.notBefore t).ctx z = s.ctx z := rfl
@[simp] theorem State.unit_of_notBefore (t : Nat) (z : Nat) : (s.notBefore t).unit z = s.unit z := rfl
@[simp] theorem State.queue_of_notBefore (t : Nat) (z : Nat) : (s.notBefore t).queue z = s.queue z := rfl
@[simp] theorem State.tile_of_notBefore (t : Nat) (z : Nat) : (s.notBefore t).tile z = s.tile z := rfl
@[simp] theorem State.commons_of_notBefore (t : Nat) (z : Nat) : (s.notBefore t).commons z = s.commons z := rfl
@[simp] theorem State.engine_of_notBefore (t : Nat) (z : Nat) : (s.notBefore t).engine z = s.engine z := rfl
@[simp] theorem State.ring_of_notBefore (t : Nat) (z : Nat) : (s.notBefore t).ring z = s.ring z := rfl
@[simp] theorem State.stack_of_notBefore (t : Nat) (z : Nat) : (s.notBefore t).stack z = s.stack z := rfl
@[simp] theorem State.vent_of_notBefore (t : Nat) (z : Nat) : (s.notBefore t).vent z = s.vent z := rfl
@[simp] theorem State.dieClk_of_notBefore (t : Nat) (z : Nat) : (s.notBefore t).dieClk z = s.dieClk z := rfl
@[simp] theorem State.island_of_notBefore (t : Nat) (z : Nat) : (s.notBefore t).island z = s.island z := rfl
@[simp] theorem State.cell_of_notBefore (t : Nat) (z : Nat) : (s.notBefore t).cell z = s.cell z := rfl
@[simp] theorem State.spot_of_notBefore (t : Nat) (z : Nat) : (s.notBefore t).spot z = s.spot z := rfl
@[simp] theorem State.site_of_notBefore (t : Nat) (z : Nat) : (s.notBefore t).site z = s.site z := rfl
@[simp] theorem State.session_of_notBefore (t : Nat) (z : Nat) : (s.notBefore t).session z = s.session z := rfl
@[simp] theorem State.ctx_of_setDom (k : Nat) (b : Bool) (z : CtxId) : (s.setDom k b).ctx z = s.ctx z := rfl
@[simp] theorem State.unit_of_setDom (k : Nat) (b : Bool) (z : Nat) : (s.setDom k b).unit z = s.unit z := rfl
@[simp] theorem State.queue_of_setDom (k : Nat) (b : Bool) (z : Nat) : (s.setDom k b).queue z = s.queue z := rfl
@[simp] theorem State.tile_of_setDom (k : Nat) (b : Bool) (z : Nat) : (s.setDom k b).tile z = s.tile z := rfl
@[simp] theorem State.commons_of_setDom (k : Nat) (b : Bool) (z : Nat) : (s.setDom k b).commons z = s.commons z := rfl
@[simp] theorem State.engine_of_setDom (k : Nat) (b : Bool) (z : Nat) : (s.setDom k b).engine z = s.engine z := rfl
@[simp] theorem State.ring_of_setDom (k : Nat) (b : Bool) (z : Nat) : (s.setDom k b).ring z = s.ring z := rfl
@[simp] theorem State.stack_of_setDom (k : Nat) (b : Bool) (z : Nat) : (s.setDom k b).stack z = s.stack z := rfl
@[simp] theorem State.vent_of_setDom (k : Nat) (b : Bool) (z : Nat) : (s.setDom k b).vent z = s.vent z := rfl
@[simp] theorem State.dieClk_of_setDom (k : Nat) (b : Bool) (z : Nat) : (s.setDom k b).dieClk z = s.dieClk z := rfl
@[simp] theorem State.island_of_setDom (k : Nat) (b : Bool) (z : Nat) : (s.setDom k b).island z = s.island z := rfl
@[simp] theorem State.cell_of_setDom (k : Nat) (b : Bool) (z : Nat) : (s.setDom k b).cell z = s.cell z := rfl
@[simp] theorem State.spot_of_setDom (k : Nat) (b : Bool) (z : Nat) : (s.setDom k b).spot z = s.spot z := rfl
@[simp] theorem State.site_of_setDom (k : Nat) (b : Bool) (z : Nat) : (s.setDom k b).site z = s.site z := rfl
@[simp] theorem State.session_of_setDom (k : Nat) (b : Bool) (z : Nat) : (s.setDom k b).session z = s.session z := rfl
@[simp] theorem State.unit_of_modCtx (c : CtxId) (f : CtxS → CtxS) (z : Nat) : (s.modCtx c f).unit z = s.unit z := rfl
@[simp] theorem State.queue_of_modCtx (c : CtxId) (f : CtxS → CtxS) (z : Nat) : (s.modCtx c f).queue z = s.queue z := rfl
@[simp] theorem State.tile_of_modCtx (c : CtxId) (f : CtxS → CtxS) (z : Nat) : (s.modCtx c f).tile z = s.tile z := rfl
@[simp] theorem State.commons_of_modCtx (c : CtxId) (f : CtxS → CtxS) (z : Nat) : (s.modCtx c f).commons z = s.commons z := rfl
@[simp] theorem State.engine_of_modCtx (c : CtxId) (f : CtxS → CtxS) (z : Nat) : (s.modCtx c f).engine z = s.engine z := rfl
@[simp] theorem State.ring_of_modCtx (c : CtxId) (f : CtxS → CtxS) (z : Nat) : (s.modCtx c f).ring z = s.ring z := rfl
@[simp] theorem State.stack_of_modCtx (c : CtxId) (f : CtxS → CtxS) (z : Nat) : (s.modCtx c f).stack z = s.stack z := rfl
@[simp] theorem State.vent_of_modCtx (c : CtxId) (f : CtxS → CtxS) (z : Nat) : (s.modCtx c f).vent z = s.vent z := rfl
@[simp] theorem State.dieClk_of_modCtx (c : CtxId) (f : CtxS → CtxS) (z : Nat) : (s.modCtx c f).dieClk z = s.dieClk z := rfl
@[simp] theorem State.island_of_modCtx (c : CtxId) (f : CtxS → CtxS) (z : Nat) : (s.modCtx c f).island z = s.island z := rfl
@[simp] theorem State.cell_of_modCtx (c : CtxId) (f : CtxS → CtxS) (z : Nat) : (s.modCtx c f).cell z = s.cell z := rfl
@[simp] theorem State.spot_of_modCtx (c : CtxId) (f : CtxS → CtxS) (z : Nat) : (s.modCtx c f).spot z = s.spot z := rfl
@[simp] theorem State.site_of_modCtx (c : CtxId) (f : CtxS → CtxS) (z : Nat) : (s.modCtx c f).site z = s.site z := rfl
@[simp] theorem State.session_of_modCtx (c : CtxId) (f : CtxS → CtxS) (z : Nat) : (s.modCtx c f).session z = s.session z := rfl
@[simp] theorem State.ctx_of_modUnit (k : Nat) (f : UnitS → UnitS) (z : CtxId) : (s.modUnit k f).ctx z = s.ctx z := rfl
@[simp] theorem State.queue_of_modUnit (k : Nat) (f : UnitS → UnitS) (z : Nat) : (s.modUnit k f).queue z = s.queue z := rfl
@[simp] theorem State.tile_of_modUnit (k : Nat) (f : UnitS → UnitS) (z : Nat) : (s.modUnit k f).tile z = s.tile z := rfl
@[simp] theorem State.commons_of_modUnit (k : Nat) (f : UnitS → UnitS) (z : Nat) : (s.modUnit k f).commons z = s.commons z := rfl
@[simp] theorem State.engine_of_modUnit (k : Nat) (f : UnitS → UnitS) (z : Nat) : (s.modUnit k f).engine z = s.engine z := rfl
@[simp] theorem State.ring_of_modUnit (k : Nat) (f : UnitS → UnitS) (z : Nat) : (s.modUnit k f).ring z = s.ring z := rfl
@[simp] theorem State.stack_of_modUnit (k : Nat) (f : UnitS → UnitS) (z : Nat) : (s.modUnit k f).stack z = s.stack z := rfl
@[simp] theorem State.vent_of_modUnit (k : Nat) (f : UnitS → UnitS) (z : Nat) : (s.modUnit k f).vent z = s.vent z := rfl
@[simp] theorem State.dieClk_of_modUnit (k : Nat) (f : UnitS → UnitS) (z : Nat) : (s.modUnit k f).dieClk z = s.dieClk z := rfl
@[simp] theorem State.island_of_modUnit (k : Nat) (f : UnitS → UnitS) (z : Nat) : (s.modUnit k f).island z = s.island z := rfl
@[simp] theorem State.cell_of_modUnit (k : Nat) (f : UnitS → UnitS) (z : Nat) : (s.modUnit k f).cell z = s.cell z := rfl
@[simp] theorem State.spot_of_modUnit (k : Nat) (f : UnitS → UnitS) (z : Nat) : (s.modUnit k f).spot z = s.spot z := rfl
@[simp] theorem State.site_of_modUnit (k : Nat) (f : UnitS → UnitS) (z : Nat) : (s.modUnit k f).site z = s.site z := rfl
@[simp] theorem State.session_of_modUnit (k : Nat) (f : UnitS → UnitS) (z : Nat) : (s.modUnit k f).session z = s.session z := rfl
@[simp] theorem State.ctx_of_modQueue (k : Nat) (f : QueueS → QueueS) (z : CtxId) : (s.modQueue k f).ctx z = s.ctx z := rfl
@[simp] theorem State.unit_of_modQueue (k : Nat) (f : QueueS → QueueS) (z : Nat) : (s.modQueue k f).unit z = s.unit z := rfl
@[simp] theorem State.tile_of_modQueue (k : Nat) (f : QueueS → QueueS) (z : Nat) : (s.modQueue k f).tile z = s.tile z := rfl
@[simp] theorem State.commons_of_modQueue (k : Nat) (f : QueueS → QueueS) (z : Nat) : (s.modQueue k f).commons z = s.commons z := rfl
@[simp] theorem State.engine_of_modQueue (k : Nat) (f : QueueS → QueueS) (z : Nat) : (s.modQueue k f).engine z = s.engine z := rfl
@[simp] theorem State.ring_of_modQueue (k : Nat) (f : QueueS → QueueS) (z : Nat) : (s.modQueue k f).ring z = s.ring z := rfl
@[simp] theorem State.stack_of_modQueue (k : Nat) (f : QueueS → QueueS) (z : Nat) : (s.modQueue k f).stack z = s.stack z := rfl
@[simp] theorem State.vent_of_modQueue (k : Nat) (f : QueueS → QueueS) (z : Nat) : (s.modQueue k f).vent z = s.vent z := rfl
@[simp] theorem State.dieClk_of_modQueue (k : Nat) (f : QueueS → QueueS) (z : Nat) : (s.modQueue k f).dieClk z = s.dieClk z := rfl
@[simp] theorem State.island_of_modQueue (k : Nat) (f : QueueS → QueueS) (z : Nat) : (s.modQueue k f).island z = s.island z := rfl
@[simp] theorem State.cell_of_modQueue (k : Nat) (f : QueueS → QueueS) (z : Nat) : (s.modQueue k f).cell z = s.cell z := rfl
@[simp] theorem State.spot_of_modQueue (k : Nat) (f : QueueS → QueueS) (z : Nat) : (s.modQueue k f).spot z = s.spot z := rfl
@[simp] theorem State.site_of_modQueue (k : Nat) (f : QueueS → QueueS) (z : Nat) : (s.modQueue k f).site z = s.site z := rfl
@[simp] theorem State.session_of_modQueue (k : Nat) (f : QueueS → QueueS) (z : Nat) : (s.modQueue k f).session z = s.session z := rfl
@[simp] theorem State.ctx_of_modTile (k : Nat) (f : TileS → TileS) (z : CtxId) : (s.modTile k f).ctx z = s.ctx z := rfl
@[simp] theorem State.unit_of_modTile (k : Nat) (f : TileS → TileS) (z : Nat) : (s.modTile k f).unit z = s.unit z := rfl
@[simp] theorem State.queue_of_modTile (k : Nat) (f : TileS → TileS) (z : Nat) : (s.modTile k f).queue z = s.queue z := rfl
@[simp] theorem State.commons_of_modTile (k : Nat) (f : TileS → TileS) (z : Nat) : (s.modTile k f).commons z = s.commons z := rfl
@[simp] theorem State.engine_of_modTile (k : Nat) (f : TileS → TileS) (z : Nat) : (s.modTile k f).engine z = s.engine z := rfl
@[simp] theorem State.ring_of_modTile (k : Nat) (f : TileS → TileS) (z : Nat) : (s.modTile k f).ring z = s.ring z := rfl
@[simp] theorem State.stack_of_modTile (k : Nat) (f : TileS → TileS) (z : Nat) : (s.modTile k f).stack z = s.stack z := rfl
@[simp] theorem State.vent_of_modTile (k : Nat) (f : TileS → TileS) (z : Nat) : (s.modTile k f).vent z = s.vent z := rfl
@[simp] theorem State.dieClk_of_modTile (k : Nat) (f : TileS → TileS) (z : Nat) : (s.modTile k f).dieClk z = s.dieClk z := rfl
@[simp] theorem State.island_of_modTile (k : Nat) (f : TileS → TileS) (z : Nat) : (s.modTile k f).island z = s.island z := rfl
@[simp] theorem State.cell_of_modTile (k : Nat) (f : TileS → TileS) (z : Nat) : (s.modTile k f).cell z = s.cell z := rfl
@[simp] theorem State.spot_of_modTile (k : Nat) (f : TileS → TileS) (z : Nat) : (s.modTile k f).spot z = s.spot z := rfl
@[simp] theorem State.site_of_modTile (k : Nat) (f : TileS → TileS) (z : Nat) : (s.modTile k f).site z = s.site z := rfl
@[simp] theorem State.session_of_modTile (k : Nat) (f : TileS → TileS) (z : Nat) : (s.modTile k f).session z = s.session z := rfl
@[simp] theorem State.ctx_of_modCommons (k : Nat) (f : CommonsS → CommonsS) (z : CtxId) : (s.modCommons k f).ctx z = s.ctx z := rfl
@[simp] theorem State.unit_of_modCommons (k : Nat) (f : CommonsS → CommonsS) (z : Nat) : (s.modCommons k f).unit z = s.unit z := rfl
@[simp] theorem State.queue_of_modCommons (k : Nat) (f : CommonsS → CommonsS) (z : Nat) : (s.modCommons k f).queue z = s.queue z := rfl
@[simp] theorem State.tile_of_modCommons (k : Nat) (f : CommonsS → CommonsS) (z : Nat) : (s.modCommons k f).tile z = s.tile z := rfl
@[simp] theorem State.engine_of_modCommons (k : Nat) (f : CommonsS → CommonsS) (z : Nat) : (s.modCommons k f).engine z = s.engine z := rfl
@[simp] theorem State.ring_of_modCommons (k : Nat) (f : CommonsS → CommonsS) (z : Nat) : (s.modCommons k f).ring z = s.ring z := rfl
@[simp] theorem State.stack_of_modCommons (k : Nat) (f : CommonsS → CommonsS) (z : Nat) : (s.modCommons k f).stack z = s.stack z := rfl
@[simp] theorem State.vent_of_modCommons (k : Nat) (f : CommonsS → CommonsS) (z : Nat) : (s.modCommons k f).vent z = s.vent z := rfl
@[simp] theorem State.dieClk_of_modCommons (k : Nat) (f : CommonsS → CommonsS) (z : Nat) : (s.modCommons k f).dieClk z = s.dieClk z := rfl
@[simp] theorem State.island_of_modCommons (k : Nat) (f : CommonsS → CommonsS) (z : Nat) : (s.modCommons k f).island z = s.island z := rfl
@[simp] theorem State.cell_of_modCommons (k : Nat) (f : CommonsS → CommonsS) (z : Nat) : (s.modCommons k f).cell z = s.cell z := rfl
@[simp] theorem State.spot_of_modCommons (k : Nat) (f : CommonsS → CommonsS) (z : Nat) : (s.modCommons k f).spot z = s.spot z := rfl
@[simp] theorem State.site_of_modCommons (k : Nat) (f : CommonsS → CommonsS) (z : Nat) : (s.modCommons k f).site z = s.site z := rfl
@[simp] theorem State.session_of_modCommons (k : Nat) (f : CommonsS → CommonsS) (z : Nat) : (s.modCommons k f).session z = s.session z := rfl
@[simp] theorem State.ctx_of_modEngine (k : Nat) (f : EngineS → EngineS) (z : CtxId) : (s.modEngine k f).ctx z = s.ctx z := rfl
@[simp] theorem State.unit_of_modEngine (k : Nat) (f : EngineS → EngineS) (z : Nat) : (s.modEngine k f).unit z = s.unit z := rfl
@[simp] theorem State.queue_of_modEngine (k : Nat) (f : EngineS → EngineS) (z : Nat) : (s.modEngine k f).queue z = s.queue z := rfl
@[simp] theorem State.tile_of_modEngine (k : Nat) (f : EngineS → EngineS) (z : Nat) : (s.modEngine k f).tile z = s.tile z := rfl
@[simp] theorem State.commons_of_modEngine (k : Nat) (f : EngineS → EngineS) (z : Nat) : (s.modEngine k f).commons z = s.commons z := rfl
@[simp] theorem State.ring_of_modEngine (k : Nat) (f : EngineS → EngineS) (z : Nat) : (s.modEngine k f).ring z = s.ring z := rfl
@[simp] theorem State.stack_of_modEngine (k : Nat) (f : EngineS → EngineS) (z : Nat) : (s.modEngine k f).stack z = s.stack z := rfl
@[simp] theorem State.vent_of_modEngine (k : Nat) (f : EngineS → EngineS) (z : Nat) : (s.modEngine k f).vent z = s.vent z := rfl
@[simp] theorem State.dieClk_of_modEngine (k : Nat) (f : EngineS → EngineS) (z : Nat) : (s.modEngine k f).dieClk z = s.dieClk z := rfl
@[simp] theorem State.island_of_modEngine (k : Nat) (f : EngineS → EngineS) (z : Nat) : (s.modEngine k f).island z = s.island z := rfl
@[simp] theorem State.cell_of_modEngine (k : Nat) (f : EngineS → EngineS) (z : Nat) : (s.modEngine k f).cell z = s.cell z := rfl
@[simp] theorem State.spot_of_modEngine (k : Nat) (f : EngineS → EngineS) (z : Nat) : (s.modEngine k f).spot z = s.spot z := rfl
@[simp] theorem State.site_of_modEngine (k : Nat) (f : EngineS → EngineS) (z : Nat) : (s.modEngine k f).site z = s.site z := rfl
@[simp] theorem State.session_of_modEngine (k : Nat) (f : EngineS → EngineS) (z : Nat) : (s.modEngine k f).session z = s.session z := rfl
@[simp] theorem State.ctx_of_modRing (k : Nat) (f : Ring → Ring) (z : CtxId) : (s.modRing k f).ctx z = s.ctx z := rfl
@[simp] theorem State.unit_of_modRing (k : Nat) (f : Ring → Ring) (z : Nat) : (s.modRing k f).unit z = s.unit z := rfl
@[simp] theorem State.queue_of_modRing (k : Nat) (f : Ring → Ring) (z : Nat) : (s.modRing k f).queue z = s.queue z := rfl
@[simp] theorem State.tile_of_modRing (k : Nat) (f : Ring → Ring) (z : Nat) : (s.modRing k f).tile z = s.tile z := rfl
@[simp] theorem State.commons_of_modRing (k : Nat) (f : Ring → Ring) (z : Nat) : (s.modRing k f).commons z = s.commons z := rfl
@[simp] theorem State.engine_of_modRing (k : Nat) (f : Ring → Ring) (z : Nat) : (s.modRing k f).engine z = s.engine z := rfl
@[simp] theorem State.stack_of_modRing (k : Nat) (f : Ring → Ring) (z : Nat) : (s.modRing k f).stack z = s.stack z := rfl
@[simp] theorem State.vent_of_modRing (k : Nat) (f : Ring → Ring) (z : Nat) : (s.modRing k f).vent z = s.vent z := rfl
@[simp] theorem State.dieClk_of_modRing (k : Nat) (f : Ring → Ring) (z : Nat) : (s.modRing k f).dieClk z = s.dieClk z := rfl
@[simp] theorem State.island_of_modRing (k : Nat) (f : Ring → Ring) (z : Nat) : (s.modRing k f).island z = s.island z := rfl
@[simp] theorem State.cell_of_modRing (k : Nat) (f : Ring → Ring) (z : Nat) : (s.modRing k f).cell z = s.cell z := rfl
@[simp] theorem State.spot_of_modRing (k : Nat) (f : Ring → Ring) (z : Nat) : (s.modRing k f).spot z = s.spot z := rfl
@[simp] theorem State.site_of_modRing (k : Nat) (f : Ring → Ring) (z : Nat) : (s.modRing k f).site z = s.site z := rfl
@[simp] theorem State.session_of_modRing (k : Nat) (f : Ring → Ring) (z : Nat) : (s.modRing k f).session z = s.session z := rfl
@[simp] theorem State.ctx_of_modStack (k : Nat) (f : StackS → StackS) (z : CtxId) : (s.modStack k f).ctx z = s.ctx z := rfl
@[simp] theorem State.unit_of_modStack (k : Nat) (f : StackS → StackS) (z : Nat) : (s.modStack k f).unit z = s.unit z := rfl
@[simp] theorem State.queue_of_modStack (k : Nat) (f : StackS → StackS) (z : Nat) : (s.modStack k f).queue z = s.queue z := rfl
@[simp] theorem State.tile_of_modStack (k : Nat) (f : StackS → StackS) (z : Nat) : (s.modStack k f).tile z = s.tile z := rfl
@[simp] theorem State.commons_of_modStack (k : Nat) (f : StackS → StackS) (z : Nat) : (s.modStack k f).commons z = s.commons z := rfl
@[simp] theorem State.engine_of_modStack (k : Nat) (f : StackS → StackS) (z : Nat) : (s.modStack k f).engine z = s.engine z := rfl
@[simp] theorem State.ring_of_modStack (k : Nat) (f : StackS → StackS) (z : Nat) : (s.modStack k f).ring z = s.ring z := rfl
@[simp] theorem State.vent_of_modStack (k : Nat) (f : StackS → StackS) (z : Nat) : (s.modStack k f).vent z = s.vent z := rfl
@[simp] theorem State.dieClk_of_modStack (k : Nat) (f : StackS → StackS) (z : Nat) : (s.modStack k f).dieClk z = s.dieClk z := rfl
@[simp] theorem State.island_of_modStack (k : Nat) (f : StackS → StackS) (z : Nat) : (s.modStack k f).island z = s.island z := rfl
@[simp] theorem State.cell_of_modStack (k : Nat) (f : StackS → StackS) (z : Nat) : (s.modStack k f).cell z = s.cell z := rfl
@[simp] theorem State.spot_of_modStack (k : Nat) (f : StackS → StackS) (z : Nat) : (s.modStack k f).spot z = s.spot z := rfl
@[simp] theorem State.site_of_modStack (k : Nat) (f : StackS → StackS) (z : Nat) : (s.modStack k f).site z = s.site z := rfl
@[simp] theorem State.session_of_modStack (k : Nat) (f : StackS → StackS) (z : Nat) : (s.modStack k f).session z = s.session z := rfl
@[simp] theorem State.ctx_of_modVent (k : Nat) (f : VentS → VentS) (z : CtxId) : (s.modVent k f).ctx z = s.ctx z := rfl
@[simp] theorem State.unit_of_modVent (k : Nat) (f : VentS → VentS) (z : Nat) : (s.modVent k f).unit z = s.unit z := rfl
@[simp] theorem State.queue_of_modVent (k : Nat) (f : VentS → VentS) (z : Nat) : (s.modVent k f).queue z = s.queue z := rfl
@[simp] theorem State.tile_of_modVent (k : Nat) (f : VentS → VentS) (z : Nat) : (s.modVent k f).tile z = s.tile z := rfl
@[simp] theorem State.commons_of_modVent (k : Nat) (f : VentS → VentS) (z : Nat) : (s.modVent k f).commons z = s.commons z := rfl
@[simp] theorem State.engine_of_modVent (k : Nat) (f : VentS → VentS) (z : Nat) : (s.modVent k f).engine z = s.engine z := rfl
@[simp] theorem State.ring_of_modVent (k : Nat) (f : VentS → VentS) (z : Nat) : (s.modVent k f).ring z = s.ring z := rfl
@[simp] theorem State.stack_of_modVent (k : Nat) (f : VentS → VentS) (z : Nat) : (s.modVent k f).stack z = s.stack z := rfl
@[simp] theorem State.dieClk_of_modVent (k : Nat) (f : VentS → VentS) (z : Nat) : (s.modVent k f).dieClk z = s.dieClk z := rfl
@[simp] theorem State.island_of_modVent (k : Nat) (f : VentS → VentS) (z : Nat) : (s.modVent k f).island z = s.island z := rfl
@[simp] theorem State.cell_of_modVent (k : Nat) (f : VentS → VentS) (z : Nat) : (s.modVent k f).cell z = s.cell z := rfl
@[simp] theorem State.spot_of_modVent (k : Nat) (f : VentS → VentS) (z : Nat) : (s.modVent k f).spot z = s.spot z := rfl
@[simp] theorem State.site_of_modVent (k : Nat) (f : VentS → VentS) (z : Nat) : (s.modVent k f).site z = s.site z := rfl
@[simp] theorem State.session_of_modVent (k : Nat) (f : VentS → VentS) (z : Nat) : (s.modVent k f).session z = s.session z := rfl
@[simp] theorem State.ctx_of_modDieClk (k : Nat) (f : DieClk → DieClk) (z : CtxId) : (s.modDieClk k f).ctx z = s.ctx z := rfl
@[simp] theorem State.unit_of_modDieClk (k : Nat) (f : DieClk → DieClk) (z : Nat) : (s.modDieClk k f).unit z = s.unit z := rfl
@[simp] theorem State.queue_of_modDieClk (k : Nat) (f : DieClk → DieClk) (z : Nat) : (s.modDieClk k f).queue z = s.queue z := rfl
@[simp] theorem State.tile_of_modDieClk (k : Nat) (f : DieClk → DieClk) (z : Nat) : (s.modDieClk k f).tile z = s.tile z := rfl
@[simp] theorem State.commons_of_modDieClk (k : Nat) (f : DieClk → DieClk) (z : Nat) : (s.modDieClk k f).commons z = s.commons z := rfl
@[simp] theorem State.engine_of_modDieClk (k : Nat) (f : DieClk → DieClk) (z : Nat) : (s.modDieClk k f).engine z = s.engine z := rfl
@[simp] theorem State.ring_of_modDieClk (k : Nat) (f : DieClk → DieClk) (z : Nat) : (s.modDieClk k f).ring z = s.ring z := rfl
@[simp] theorem State.stack_of_modDieClk (k : Nat) (f : DieClk → DieClk) (z : Nat) : (s.modDieClk k f).stack z = s.stack z := rfl
@[simp] theorem State.vent_of_modDieClk (k : Nat) (f : DieClk → DieClk) (z : Nat) : (s.modDieClk k f).vent z = s.vent z := rfl
@[simp] theorem State.island_of_modDieClk (k : Nat) (f : DieClk → DieClk) (z : Nat) : (s.modDieClk k f).island z = s.island z := rfl
@[simp] theorem State.cell_of_modDieClk (k : Nat) (f : DieClk → DieClk) (z : Nat) : (s.modDieClk k f).cell z = s.cell z := rfl
@[simp] theorem State.spot_of_modDieClk (k : Nat) (f : DieClk → DieClk) (z : Nat) : (s.modDieClk k f).spot z = s.spot z := rfl
@[simp] theorem State.site_of_modDieClk (k : Nat) (f : DieClk → DieClk) (z : Nat) : (s.modDieClk k f).site z = s.site z := rfl
@[simp] theorem State.session_of_modDieClk (k : Nat) (f : DieClk → DieClk) (z : Nat) : (s.modDieClk k f).session z = s.session z := rfl
@[simp] theorem State.ctx_of_modIsland (k : Nat) (f : IslandS → IslandS) (z : CtxId) : (s.modIsland k f).ctx z = s.ctx z := rfl
@[simp] theorem State.unit_of_modIsland (k : Nat) (f : IslandS → IslandS) (z : Nat) : (s.modIsland k f).unit z = s.unit z := rfl
@[simp] theorem State.queue_of_modIsland (k : Nat) (f : IslandS → IslandS) (z : Nat) : (s.modIsland k f).queue z = s.queue z := rfl
@[simp] theorem State.tile_of_modIsland (k : Nat) (f : IslandS → IslandS) (z : Nat) : (s.modIsland k f).tile z = s.tile z := rfl
@[simp] theorem State.commons_of_modIsland (k : Nat) (f : IslandS → IslandS) (z : Nat) : (s.modIsland k f).commons z = s.commons z := rfl
@[simp] theorem State.engine_of_modIsland (k : Nat) (f : IslandS → IslandS) (z : Nat) : (s.modIsland k f).engine z = s.engine z := rfl
@[simp] theorem State.ring_of_modIsland (k : Nat) (f : IslandS → IslandS) (z : Nat) : (s.modIsland k f).ring z = s.ring z := rfl
@[simp] theorem State.stack_of_modIsland (k : Nat) (f : IslandS → IslandS) (z : Nat) : (s.modIsland k f).stack z = s.stack z := rfl
@[simp] theorem State.vent_of_modIsland (k : Nat) (f : IslandS → IslandS) (z : Nat) : (s.modIsland k f).vent z = s.vent z := rfl
@[simp] theorem State.dieClk_of_modIsland (k : Nat) (f : IslandS → IslandS) (z : Nat) : (s.modIsland k f).dieClk z = s.dieClk z := rfl
@[simp] theorem State.cell_of_modIsland (k : Nat) (f : IslandS → IslandS) (z : Nat) : (s.modIsland k f).cell z = s.cell z := rfl
@[simp] theorem State.spot_of_modIsland (k : Nat) (f : IslandS → IslandS) (z : Nat) : (s.modIsland k f).spot z = s.spot z := rfl
@[simp] theorem State.site_of_modIsland (k : Nat) (f : IslandS → IslandS) (z : Nat) : (s.modIsland k f).site z = s.site z := rfl
@[simp] theorem State.session_of_modIsland (k : Nat) (f : IslandS → IslandS) (z : Nat) : (s.modIsland k f).session z = s.session z := rfl
@[simp] theorem State.ctx_of_modCell (k : Nat) (f : Cell → Cell) (z : CtxId) : (s.modCell k f).ctx z = s.ctx z := rfl
@[simp] theorem State.unit_of_modCell (k : Nat) (f : Cell → Cell) (z : Nat) : (s.modCell k f).unit z = s.unit z := rfl
@[simp] theorem State.queue_of_modCell (k : Nat) (f : Cell → Cell) (z : Nat) : (s.modCell k f).queue z = s.queue z := rfl
@[simp] theorem State.tile_of_modCell (k : Nat) (f : Cell → Cell) (z : Nat) : (s.modCell k f).tile z = s.tile z := rfl
@[simp] theorem State.commons_of_modCell (k : Nat) (f : Cell → Cell) (z : Nat) : (s.modCell k f).commons z = s.commons z := rfl
@[simp] theorem State.engine_of_modCell (k : Nat) (f : Cell → Cell) (z : Nat) : (s.modCell k f).engine z = s.engine z := rfl
@[simp] theorem State.ring_of_modCell (k : Nat) (f : Cell → Cell) (z : Nat) : (s.modCell k f).ring z = s.ring z := rfl
@[simp] theorem State.stack_of_modCell (k : Nat) (f : Cell → Cell) (z : Nat) : (s.modCell k f).stack z = s.stack z := rfl
@[simp] theorem State.vent_of_modCell (k : Nat) (f : Cell → Cell) (z : Nat) : (s.modCell k f).vent z = s.vent z := rfl
@[simp] theorem State.dieClk_of_modCell (k : Nat) (f : Cell → Cell) (z : Nat) : (s.modCell k f).dieClk z = s.dieClk z := rfl
@[simp] theorem State.island_of_modCell (k : Nat) (f : Cell → Cell) (z : Nat) : (s.modCell k f).island z = s.island z := rfl
@[simp] theorem State.spot_of_modCell (k : Nat) (f : Cell → Cell) (z : Nat) : (s.modCell k f).spot z = s.spot z := rfl
@[simp] theorem State.site_of_modCell (k : Nat) (f : Cell → Cell) (z : Nat) : (s.modCell k f).site z = s.site z := rfl
@[simp] theorem State.session_of_modCell (k : Nat) (f : Cell → Cell) (z : Nat) : (s.modCell k f).session z = s.session z := rfl
@[simp] theorem State.ctx_of_modSpot (k : Nat) (f : SpotS → SpotS) (z : CtxId) : (s.modSpot k f).ctx z = s.ctx z := rfl
@[simp] theorem State.unit_of_modSpot (k : Nat) (f : SpotS → SpotS) (z : Nat) : (s.modSpot k f).unit z = s.unit z := rfl
@[simp] theorem State.queue_of_modSpot (k : Nat) (f : SpotS → SpotS) (z : Nat) : (s.modSpot k f).queue z = s.queue z := rfl
@[simp] theorem State.tile_of_modSpot (k : Nat) (f : SpotS → SpotS) (z : Nat) : (s.modSpot k f).tile z = s.tile z := rfl
@[simp] theorem State.commons_of_modSpot (k : Nat) (f : SpotS → SpotS) (z : Nat) : (s.modSpot k f).commons z = s.commons z := rfl
@[simp] theorem State.engine_of_modSpot (k : Nat) (f : SpotS → SpotS) (z : Nat) : (s.modSpot k f).engine z = s.engine z := rfl
@[simp] theorem State.ring_of_modSpot (k : Nat) (f : SpotS → SpotS) (z : Nat) : (s.modSpot k f).ring z = s.ring z := rfl
@[simp] theorem State.stack_of_modSpot (k : Nat) (f : SpotS → SpotS) (z : Nat) : (s.modSpot k f).stack z = s.stack z := rfl
@[simp] theorem State.vent_of_modSpot (k : Nat) (f : SpotS → SpotS) (z : Nat) : (s.modSpot k f).vent z = s.vent z := rfl
@[simp] theorem State.dieClk_of_modSpot (k : Nat) (f : SpotS → SpotS) (z : Nat) : (s.modSpot k f).dieClk z = s.dieClk z := rfl
@[simp] theorem State.island_of_modSpot (k : Nat) (f : SpotS → SpotS) (z : Nat) : (s.modSpot k f).island z = s.island z := rfl
@[simp] theorem State.cell_of_modSpot (k : Nat) (f : SpotS → SpotS) (z : Nat) : (s.modSpot k f).cell z = s.cell z := rfl
@[simp] theorem State.site_of_modSpot (k : Nat) (f : SpotS → SpotS) (z : Nat) : (s.modSpot k f).site z = s.site z := rfl
@[simp] theorem State.session_of_modSpot (k : Nat) (f : SpotS → SpotS) (z : Nat) : (s.modSpot k f).session z = s.session z := rfl

end Sys2Proof.Machine
end

