-- ==== Sys2Proof/Laws/Log.lean ====
section
/-! SUPPORT. What logging does: the entry goes into the rings, sessions and mailboxes are told, and nothing
else of the panel changes. -/

namespace Sys2Proof.Machine

/-- t differs from s only where telling the outside differs: the log, the counters, the sites' mailboxes and
doorbells, the sessions with their reports, the messages sent and the free words drawn. -/
structure Told (s t : State) : Prop where
  st : t.st = s.st
  since : t.since = s.since
  now : t.now = s.now
  anat : t.anat = s.anat
  dict : t.dict = s.dict
  stored : t.stored = s.stored
  ctrSince : t.ctrSince = s.ctrSince
  stackMem : t.stackMem = s.stackMem
  commonsMem : t.commonsMem = s.commonsMem
  spadMem : t.spadMem = s.spadMem
  tiles : t.tiles = s.tiles
  eng : t.eng = s.eng
  flow : t.flow = s.flow
  stk : t.stk = s.stk
  net : t.net = s.net
  fab : t.fab = s.fab
  clk : t.clk = s.clk
  pwr : t.pwr = s.pwr
  thm : t.thm = s.thm
  boot : t.boot = s.boot
  recov : t.recov = s.recov
  pins : t.pins = s.pins
  answer : t.answer = s.answer
  pending : t.pending = s.pending
  sec : { t.sec with reports := s.sec.reports } = s.sec

theorem Told.refl (s : State) : Told s s := by constructor <;> rfl

theorem Told.trans {s t u : State} (a : Told s t) (b : Told t u) : Told s u where
  st := b.st.trans a.st
  since := b.since.trans a.since
  now := b.now.trans a.now
  anat := b.anat.trans a.anat
  dict := b.dict.trans a.dict
  stored := b.stored.trans a.stored
  ctrSince := b.ctrSince.trans a.ctrSince
  stackMem := b.stackMem.trans a.stackMem
  commonsMem := b.commonsMem.trans a.commonsMem
  spadMem := b.spadMem.trans a.spadMem
  tiles := b.tiles.trans a.tiles
  eng := b.eng.trans a.eng
  flow := b.flow.trans a.flow
  stk := b.stk.trans a.stk
  net := b.net.trans a.net
  fab := b.fab.trans a.fab
  clk := b.clk.trans a.clk
  pwr := b.pwr.trans a.pwr
  thm := b.thm.trans a.thm
  boot := b.boot.trans a.boot
  recov := b.recov.trans a.recov
  pins := b.pins.trans a.pins
  answer := b.answer.trans a.answer
  pending := b.pending.trans a.pending
  sec := by rw [← a.sec, ← b.sec]

/-- Told survives a list of steps. -/
theorem Told.foldl {A : Type} (f : State → A → State) (h : ∀ s a, Told s (f s a)) (l : List A) (s : State) :
    Told s (l.foldl f s) := by
  induction l generalizing s with
  | nil => exact .refl s
  | cons a l ih => exact (h s a).trans (ih _)

theorem told_send (s : State) (m : Msg) : Told s (s.send m) := by constructor <;> rfl
theorem told_modSite (s : State) (h : Nat) (f : Site → Site) : Told s (s.modSite h f) := by constructor <;> rfl
theorem told_setSession (s : State) (n : Nat) (x : Option Session) : Told s (s.setSession n x) := by
  constructor <;> rfl
theorem told_count (s : State) (k : CtrSet) (r o n : Nat) : Told s (s.count k r o n) := by constructor <;> rfl
theorem told_endSession (s : State) (n : Nat) : Told s (s.endSession n) := by constructor <;> rfl
theorem told_freeBytes (s : State) (n : Nat) : Told s (s.freeBytes n).2 := by constructor <;> rfl
theorem told_log (s : State) (l : Log) : Told s { s with log := l } := by constructor <;> rfl

theorem told_doorbell (s : State) (h c : Nat) : Told s (s.doorbell h c) := by
  unfold State.doorbell
  dsimp only
  split
  · exact .refl s
  · split
    · exact (told_modSite _ _ _).trans (told_send _ _)
    · split
      · exact told_modSite _ _ _
      · exact (told_modSite _ _ _).trans (told_send _ _)

theorem told_mailPut (s : State) (h : Nat) (f : Bytes) : Told s (s.mailPut h f) :=
  ((told_modSite _ _ _).trans (told_count _ _ _ _ _)).trans (told_doorbell _ _ _)

theorem told_mailOut (s : State) (h : Nat) (f : Bytes) : Told s (s.mailOut h f) := by
  unfold State.mailOut
  split
  · exact told_modSite _ _ _
  · exact told_mailPut _ _ _

theorem told_channelOut (s : State) (c n k : Nat) (hd d tag : Bytes) : Told s (s.channelOut c n k hd d tag) := by
  unfold State.channelOut
  dsimp only
  split
  · exact (told_count _ _ _ _ _).trans (told_send _ _)
  · exact ((told_count _ _ _ _ _).trans (told_send _ _)).trans (told_mailOut _ _ _)

theorem told_frameOut (s : State) (n k i b st : Nat) (d : Bytes) : Told s (s.frameOut n k i b st d) := by
  unfold State.frameOut
  dsimp only
  split
  · exact .refl s
  · split
    · exact ((told_setSession _ _ _).trans (told_channelOut _ _ _ _ _ _ _)).trans (told_endSession _ _)
    · exact (told_setSession _ _ _).trans (told_channelOut _ _ _ _ _ _ _)

theorem told_eventFrame (s : State) (e : LogEntry) (n : Nat) : Told s (s.eventFrame e n) := by
  unfold State.eventFrame
  dsimp only
  split
  · exact .refl s
  · split
    · split
      · exact (told_setSession _ _ _).trans (told_frameOut _ _ _ _ _ _ _)
      · exact (told_setSession _ _ _).trans (told_count _ _ _ _ _)
    · exact .refl s

theorem told_notifyEvent (s : State) (e : LogEntry) : Told s (s.notifyEvent e) :=
  Told.foldl _ (fun s n => told_eventFrame s e n) _ s

theorem told_alertFor (s : State) (e : LogEntry) : Told s (s.alertFor e) := by
  unfold State.alertFor
  split
  · exact told_log _ _
  · exact .refl s

theorem told_logEntry (s : State) (e : LogEntry) : Told s (s.logEntry e) := by
  unfold State.logEntry
  split
  · exact (told_log _ _).trans (told_alertFor _ _)
  · exact ((told_log _ _).trans (told_notifyEvent _ _)).trans (told_alertFor _ _)

theorem told_raise (s : State) (b : Bool) (c : W16) (x : Option CtxId) (l : Loc) (d : Nat) :
    Told s (s.raise b c x l d) := told_logEntry _ _

theorem told_fault (s : State) (c : W16) (x : Option CtxId) (l : Loc) (d : Nat) : Told s (s.fault c x l d) :=
  told_raise _ _ _ _ _ _

theorem told_event (s : State) (c : W16) (x : Option CtxId) (l : Loc) (d : Nat) : Told s (s.event c x l d) :=
  told_raise _ _ _ _ _ _

/-! ### The log itself (R519, R520) -/

/-- The log of t is the log of s. -/
theorem log_doorbell (s : State) (h c : Nat) : (s.doorbell h c).log = s.log := by
  unfold State.doorbell
  dsimp only
  split
  · rfl
  · split
    · rfl
    · split <;> rfl

theorem log_channelOut (s : State) (c n k : Nat) (hd d tag : Bytes) :
    (s.channelOut c n k hd d tag).log = s.log := by
  unfold State.channelOut State.mailOut State.mailPut
  dsimp only
  split
  · rfl
  · split
    · rfl
    · exact log_doorbell _ _ _

theorem log_frameOut (s : State) (n k i b st : Nat) (d : Bytes) : (s.frameOut n k i b st d).log = s.log := by
  unfold State.frameOut
  dsimp only
  split
  · rfl
  · split
    · exact log_channelOut _ _ _ _ _ _ _
    · exact log_channelOut _ _ _ _ _ _ _

theorem log_eventFrame (s : State) (e : LogEntry) (n : Nat) : (s.eventFrame e n).log = s.log := by
  unfold State.eventFrame
  dsimp only
  split
  · rfl
  · split
    · split
      · exact log_frameOut _ _ _ _ _ _ _
      · rfl
    · rfl

theorem log_notifyEvent (s : State) (e : LogEntry) : (s.notifyEvent e).log = s.log := by
  have h : ∀ (l : List Nat) (s : State),
      (l.foldl (fun (s : State) n => s.eventFrame e n) s).log = s.log := by
    intro l
    induction l with
    | nil => intro s; rfl
    | cons n l ih => intro s; rw [List.foldl_cons, ih, log_eventFrame]
  exact h _ s

theorem main_alertFor (s : State) (e : LogEntry) : (s.alertFor e).log.main = s.log.main := by
  unfold State.alertFor
  split <;> rfl

/-- The main ring after an entry is logged: folded into the newest matching entry, or pushed in front. -/
theorem main_logEntry (s : State) (e : LogEntry) :
    (s.logEntry e).log.main = match foldLog e s.log.main with
      | some m => m
      | none => (e :: s.log.main).take 65536 := by
  unfold State.logEntry
  cases foldLog e s.log.main with
  | some m => exact main_alertFor _ e
  | none =>
    dsimp only
    rw [main_alertFor, log_notifyEvent]
    rfl

variable (s : State)


/-! ### doorbell -/

@[simp] theorem State.doorbell_st (h c : Nat) : (s.doorbell h c).st = s.st := (told_doorbell s h c).st
@[simp] theorem State.doorbell_since (h c : Nat) : (s.doorbell h c).since = s.since := (told_doorbell s h c).since
@[simp] theorem State.doorbell_now (h c : Nat) : (s.doorbell h c).now = s.now := (told_doorbell s h c).now
@[simp] theorem State.doorbell_anat (h c : Nat) : (s.doorbell h c).anat = s.anat := (told_doorbell s h c).anat
@[simp] theorem State.doorbell_dict (h c : Nat) : (s.doorbell h c).dict = s.dict := (told_doorbell s h c).dict
@[simp] theorem State.doorbell_stored (h c : Nat) : (s.doorbell h c).stored = s.stored := (told_doorbell s h c).stored
@[simp] theorem State.doorbell_ctrSince (h c : Nat) : (s.doorbell h c).ctrSince = s.ctrSince := (told_doorbell s h c).ctrSince
@[simp] theorem State.doorbell_stackMem (h c : Nat) : (s.doorbell h c).stackMem = s.stackMem := (told_doorbell s h c).stackMem
@[simp] theorem State.doorbell_commonsMem (h c : Nat) : (s.doorbell h c).commonsMem = s.commonsMem := (told_doorbell s h c).commonsMem
@[simp] theorem State.doorbell_spadMem (h c : Nat) : (s.doorbell h c).spadMem = s.spadMem := (told_doorbell s h c).spadMem
@[simp] theorem State.doorbell_tiles (h c : Nat) : (s.doorbell h c).tiles = s.tiles := (told_doorbell s h c).tiles
@[simp] theorem State.doorbell_eng (h c : Nat) : (s.doorbell h c).eng = s.eng := (told_doorbell s h c).eng
@[simp] theorem State.doorbell_flow (h c : Nat) : (s.doorbell h c).flow = s.flow := (told_doorbell s h c).flow
@[simp] theorem State.doorbell_stk (h c : Nat) : (s.doorbell h c).stk = s.stk := (told_doorbell s h c).stk
@[simp] theorem State.doorbell_net (h c : Nat) : (s.doorbell h c).net = s.net := (told_doorbell s h c).net
@[simp] theorem State.doorbell_fab (h c : Nat) : (s.doorbell h c).fab = s.fab := (told_doorbell s h c).fab
@[simp] theorem State.doorbell_clk (h c : Nat) : (s.doorbell h c).clk = s.clk := (told_doorbell s h c).clk
@[simp] theorem State.doorbell_pwr (h c : Nat) : (s.doorbell h c).pwr = s.pwr := (told_doorbell s h c).pwr
@[simp] theorem State.doorbell_thm (h c : Nat) : (s.doorbell h c).thm = s.thm := (told_doorbell s h c).thm
@[simp] theorem State.doorbell_boot (h c : Nat) : (s.doorbell h c).boot = s.boot := (told_doorbell s h c).boot
@[simp] theorem State.doorbell_recov (h c : Nat) : (s.doorbell h c).recov = s.recov := (told_doorbell s h c).recov
@[simp] theorem State.doorbell_pins (h c : Nat) : (s.doorbell h c).pins = s.pins := (told_doorbell s h c).pins
@[simp] theorem State.doorbell_answer (h c : Nat) : (s.doorbell h c).answer = s.answer := (told_doorbell s h c).answer
@[simp] theorem State.doorbell_pending (h c : Nat) : (s.doorbell h c).pending = s.pending := (told_doorbell s h c).pending

/-! ### mailOut -/

@[simp] theorem State.mailOut_st (h : Nat) (f : Bytes) : (s.mailOut h f).st = s.st := (told_mailOut s h f).st
@[simp] theorem State.mailOut_since (h : Nat) (f : Bytes) : (s.mailOut h f).since = s.since := (told_mailOut s h f).since
@[simp] theorem State.mailOut_now (h : Nat) (f : Bytes) : (s.mailOut h f).now = s.now := (told_mailOut s h f).now
@[simp] theorem State.mailOut_anat (h : Nat) (f : Bytes) : (s.mailOut h f).anat = s.anat := (told_mailOut s h f).anat
@[simp] theorem State.mailOut_dict (h : Nat) (f : Bytes) : (s.mailOut h f).dict = s.dict := (told_mailOut s h f).dict
@[simp] theorem State.mailOut_stored (h : Nat) (f : Bytes) : (s.mailOut h f).stored = s.stored := (told_mailOut s h f).stored
@[simp] theorem State.mailOut_ctrSince (h : Nat) (f : Bytes) : (s.mailOut h f).ctrSince = s.ctrSince := (told_mailOut s h f).ctrSince
@[simp] theorem State.mailOut_stackMem (h : Nat) (f : Bytes) : (s.mailOut h f).stackMem = s.stackMem := (told_mailOut s h f).stackMem
@[simp] theorem State.mailOut_commonsMem (h : Nat) (f : Bytes) : (s.mailOut h f).commonsMem = s.commonsMem := (told_mailOut s h f).commonsMem
@[simp] theorem State.mailOut_spadMem (h : Nat) (f : Bytes) : (s.mailOut h f).spadMem = s.spadMem := (told_mailOut s h f).spadMem
@[simp] theorem State.mailOut_tiles (h : Nat) (f : Bytes) : (s.mailOut h f).tiles = s.tiles := (told_mailOut s h f).tiles
@[simp] theorem State.mailOut_eng (h : Nat) (f : Bytes) : (s.mailOut h f).eng = s.eng := (told_mailOut s h f).eng
@[simp] theorem State.mailOut_flow (h : Nat) (f : Bytes) : (s.mailOut h f).flow = s.flow := (told_mailOut s h f).flow
@[simp] theorem State.mailOut_stk (h : Nat) (f : Bytes) : (s.mailOut h f).stk = s.stk := (told_mailOut s h f).stk
@[simp] theorem State.mailOut_net (h : Nat) (f : Bytes) : (s.mailOut h f).net = s.net := (told_mailOut s h f).net
@[simp] theorem State.mailOut_fab (h : Nat) (f : Bytes) : (s.mailOut h f).fab = s.fab := (told_mailOut s h f).fab
@[simp] theorem State.mailOut_clk (h : Nat) (f : Bytes) : (s.mailOut h f).clk = s.clk := (told_mailOut s h f).clk
@[simp] theorem State.mailOut_pwr (h : Nat) (f : Bytes) : (s.mailOut h f).pwr = s.pwr := (told_mailOut s h f).pwr
@[simp] theorem State.mailOut_thm (h : Nat) (f : Bytes) : (s.mailOut h f).thm = s.thm := (told_mailOut s h f).thm
@[simp] theorem State.mailOut_boot (h : Nat) (f : Bytes) : (s.mailOut h f).boot = s.boot := (told_mailOut s h f).boot
@[simp] theorem State.mailOut_recov (h : Nat) (f : Bytes) : (s.mailOut h f).recov = s.recov := (told_mailOut s h f).recov
@[simp] theorem State.mailOut_pins (h : Nat) (f : Bytes) : (s.mailOut h f).pins = s.pins := (told_mailOut s h f).pins
@[simp] theorem State.mailOut_answer (h : Nat) (f : Bytes) : (s.mailOut h f).answer = s.answer := (told_mailOut s h f).answer
@[simp] theorem State.mailOut_pending (h : Nat) (f : Bytes) : (s.mailOut h f).pending = s.pending := (told_mailOut s h f).pending

/-! ### channelOut -/

@[simp] theorem State.channelOut_st (c n k : Nat) (hd d tag : Bytes) : (s.channelOut c n k hd d tag).st = s.st := (told_channelOut s c n k hd d tag).st
@[simp] theorem State.channelOut_since (c n k : Nat) (hd d tag : Bytes) : (s.channelOut c n k hd d tag).since = s.since := (told_channelOut s c n k hd d tag).since
@[simp] theorem State.channelOut_now (c n k : Nat) (hd d tag : Bytes) : (s.channelOut c n k hd d tag).now = s.now := (told_channelOut s c n k hd d tag).now
@[simp] theorem State.channelOut_anat (c n k : Nat) (hd d tag : Bytes) : (s.channelOut c n k hd d tag).anat = s.anat := (told_channelOut s c n k hd d tag).anat
@[simp] theorem State.channelOut_dict (c n k : Nat) (hd d tag : Bytes) : (s.channelOut c n k hd d tag).dict = s.dict := (told_channelOut s c n k hd d tag).dict
@[simp] theorem State.channelOut_stored (c n k : Nat) (hd d tag : Bytes) : (s.channelOut c n k hd d tag).stored = s.stored := (told_channelOut s c n k hd d tag).stored
@[simp] theorem State.channelOut_ctrSince (c n k : Nat) (hd d tag : Bytes) : (s.channelOut c n k hd d tag).ctrSince = s.ctrSince := (told_channelOut s c n k hd d tag).ctrSince
@[simp] theorem State.channelOut_stackMem (c n k : Nat) (hd d tag : Bytes) : (s.channelOut c n k hd d tag).stackMem = s.stackMem := (told_channelOut s c n k hd d tag).stackMem
@[simp] theorem State.channelOut_commonsMem (c n k : Nat) (hd d tag : Bytes) : (s.channelOut c n k hd d tag).commonsMem = s.commonsMem := (told_channelOut s c n k hd d tag).commonsMem
@[simp] theorem State.channelOut_spadMem (c n k : Nat) (hd d tag : Bytes) : (s.channelOut c n k hd d tag).spadMem = s.spadMem := (told_channelOut s c n k hd d tag).spadMem
@[simp] theorem State.channelOut_tiles (c n k : Nat) (hd d tag : Bytes) : (s.channelOut c n k hd d tag).tiles = s.tiles := (told_channelOut s c n k hd d tag).tiles
@[simp] theorem State.channelOut_eng (c n k : Nat) (hd d tag : Bytes) : (s.channelOut c n k hd d tag).eng = s.eng := (told_channelOut s c n k hd d tag).eng
@[simp] theorem State.channelOut_flow (c n k : Nat) (hd d tag : Bytes) : (s.channelOut c n k hd d tag).flow = s.flow := (told_channelOut s c n k hd d tag).flow
@[simp] theorem State.channelOut_stk (c n k : Nat) (hd d tag : Bytes) : (s.channelOut c n k hd d tag).stk = s.stk := (told_channelOut s c n k hd d tag).stk
@[simp] theorem State.channelOut_net (c n k : Nat) (hd d tag : Bytes) : (s.channelOut c n k hd d tag).net = s.net := (told_channelOut s c n k hd d tag).net
@[simp] theorem State.channelOut_fab (c n k : Nat) (hd d tag : Bytes) : (s.channelOut c n k hd d tag).fab = s.fab := (told_channelOut s c n k hd d tag).fab
@[simp] theorem State.channelOut_clk (c n k : Nat) (hd d tag : Bytes) : (s.channelOut c n k hd d tag).clk = s.clk := (told_channelOut s c n k hd d tag).clk
@[simp] theorem State.channelOut_pwr (c n k : Nat) (hd d tag : Bytes) : (s.channelOut c n k hd d tag).pwr = s.pwr := (told_channelOut s c n k hd d tag).pwr
@[simp] theorem State.channelOut_thm (c n k : Nat) (hd d tag : Bytes) : (s.channelOut c n k hd d tag).thm = s.thm := (told_channelOut s c n k hd d tag).thm
@[simp] theorem State.channelOut_boot (c n k : Nat) (hd d tag : Bytes) : (s.channelOut c n k hd d tag).boot = s.boot := (told_channelOut s c n k hd d tag).boot
@[simp] theorem State.channelOut_recov (c n k : Nat) (hd d tag : Bytes) : (s.channelOut c n k hd d tag).recov = s.recov := (told_channelOut s c n k hd d tag).recov
@[simp] theorem State.channelOut_pins (c n k : Nat) (hd d tag : Bytes) : (s.channelOut c n k hd d tag).pins = s.pins := (told_channelOut s c n k hd d tag).pins
@[simp] theorem State.channelOut_answer (c n k : Nat) (hd d tag : Bytes) : (s.channelOut c n k hd d tag).answer = s.answer := (told_channelOut s c n k hd d tag).answer
@[simp] theorem State.channelOut_pending (c n k : Nat) (hd d tag : Bytes) : (s.channelOut c n k hd d tag).pending = s.pending := (told_channelOut s c n k hd d tag).pending

/-! ### frameOut -/

@[simp] theorem State.frameOut_st (n k i b st : Nat) (d : Bytes) : (s.frameOut n k i b st d).st = s.st := (told_frameOut s n k i b st d).st
@[simp] theorem State.frameOut_since (n k i b st : Nat) (d : Bytes) : (s.frameOut n k i b st d).since = s.since := (told_frameOut s n k i b st d).since
@[simp] theorem State.frameOut_now (n k i b st : Nat) (d : Bytes) : (s.frameOut n k i b st d).now = s.now := (told_frameOut s n k i b st d).now
@[simp] theorem State.frameOut_anat (n k i b st : Nat) (d : Bytes) : (s.frameOut n k i b st d).anat = s.anat := (told_frameOut s n k i b st d).anat
@[simp] theorem State.frameOut_dict (n k i b st : Nat) (d : Bytes) : (s.frameOut n k i b st d).dict = s.dict := (told_frameOut s n k i b st d).dict
@[simp] theorem State.frameOut_stored (n k i b st : Nat) (d : Bytes) : (s.frameOut n k i b st d).stored = s.stored := (told_frameOut s n k i b st d).stored
@[simp] theorem State.frameOut_ctrSince (n k i b st : Nat) (d : Bytes) : (s.frameOut n k i b st d).ctrSince = s.ctrSince := (told_frameOut s n k i b st d).ctrSince
@[simp] theorem State.frameOut_stackMem (n k i b st : Nat) (d : Bytes) : (s.frameOut n k i b st d).stackMem = s.stackMem := (told_frameOut s n k i b st d).stackMem
@[simp] theorem State.frameOut_commonsMem (n k i b st : Nat) (d : Bytes) : (s.frameOut n k i b st d).commonsMem = s.commonsMem := (told_frameOut s n k i b st d).commonsMem
@[simp] theorem State.frameOut_spadMem (n k i b st : Nat) (d : Bytes) : (s.frameOut n k i b st d).spadMem = s.spadMem := (told_frameOut s n k i b st d).spadMem
@[simp] theorem State.frameOut_tiles (n k i b st : Nat) (d : Bytes) : (s.frameOut n k i b st d).tiles = s.tiles := (told_frameOut s n k i b st d).tiles
@[simp] theorem State.frameOut_eng (n k i b st : Nat) (d : Bytes) : (s.frameOut n k i b st d).eng = s.eng := (told_frameOut s n k i b st d).eng
@[simp] theorem State.frameOut_flow (n k i b st : Nat) (d : Bytes) : (s.frameOut n k i b st d).flow = s.flow := (told_frameOut s n k i b st d).flow
@[simp] theorem State.frameOut_stk (n k i b st : Nat) (d : Bytes) : (s.frameOut n k i b st d).stk = s.stk := (told_frameOut s n k i b st d).stk
@[simp] theorem State.frameOut_net (n k i b st : Nat) (d : Bytes) : (s.frameOut n k i b st d).net = s.net := (told_frameOut s n k i b st d).net
@[simp] theorem State.frameOut_fab (n k i b st : Nat) (d : Bytes) : (s.frameOut n k i b st d).fab = s.fab := (told_frameOut s n k i b st d).fab
@[simp] theorem State.frameOut_clk (n k i b st : Nat) (d : Bytes) : (s.frameOut n k i b st d).clk = s.clk := (told_frameOut s n k i b st d).clk
@[simp] theorem State.frameOut_pwr (n k i b st : Nat) (d : Bytes) : (s.frameOut n k i b st d).pwr = s.pwr := (told_frameOut s n k i b st d).pwr
@[simp] theorem State.frameOut_thm (n k i b st : Nat) (d : Bytes) : (s.frameOut n k i b st d).thm = s.thm := (told_frameOut s n k i b st d).thm
@[simp] theorem State.frameOut_boot (n k i b st : Nat) (d : Bytes) : (s.frameOut n k i b st d).boot = s.boot := (told_frameOut s n k i b st d).boot
@[simp] theorem State.frameOut_recov (n k i b st : Nat) (d : Bytes) : (s.frameOut n k i b st d).recov = s.recov := (told_frameOut s n k i b st d).recov
@[simp] theorem State.frameOut_pins (n k i b st : Nat) (d : Bytes) : (s.frameOut n k i b st d).pins = s.pins := (told_frameOut s n k i b st d).pins
@[simp] theorem State.frameOut_answer (n k i b st : Nat) (d : Bytes) : (s.frameOut n k i b st d).answer = s.answer := (told_frameOut s n k i b st d).answer
@[simp] theorem State.frameOut_pending (n k i b st : Nat) (d : Bytes) : (s.frameOut n k i b st d).pending = s.pending := (told_frameOut s n k i b st d).pending

/-! ### eventFrame -/

@[simp] theorem State.eventFrame_st (e : LogEntry) (n : Nat) : (s.eventFrame e n).st = s.st := (told_eventFrame s e n).st
@[simp] theorem State.eventFrame_since (e : LogEntry) (n : Nat) : (s.eventFrame e n).since = s.since := (told_eventFrame s e n).since
@[simp] theorem State.eventFrame_now (e : LogEntry) (n : Nat) : (s.eventFrame e n).now = s.now := (told_eventFrame s e n).now
@[simp] theorem State.eventFrame_anat (e : LogEntry) (n : Nat) : (s.eventFrame e n).anat = s.anat := (told_eventFrame s e n).anat
@[simp] theorem State.eventFrame_dict (e : LogEntry) (n : Nat) : (s.eventFrame e n).dict = s.dict := (told_eventFrame s e n).dict
@[simp] theorem State.eventFrame_stored (e : LogEntry) (n : Nat) : (s.eventFrame e n).stored = s.stored := (told_eventFrame s e n).stored
@[simp] theorem State.eventFrame_ctrSince (e : LogEntry) (n : Nat) : (s.eventFrame e n).ctrSince = s.ctrSince := (told_eventFrame s e n).ctrSince
@[simp] theorem State.eventFrame_stackMem (e : LogEntry) (n : Nat) : (s.eventFrame e n).stackMem = s.stackMem := (told_eventFrame s e n).stackMem
@[simp] theorem State.eventFrame_commonsMem (e : LogEntry) (n : Nat) : (s.eventFrame e n).commonsMem = s.commonsMem := (told_eventFrame s e n).commonsMem
@[simp] theorem State.eventFrame_spadMem (e : LogEntry) (n : Nat) : (s.eventFrame e n).spadMem = s.spadMem := (told_eventFrame s e n).spadMem
@[simp] theorem State.eventFrame_tiles (e : LogEntry) (n : Nat) : (s.eventFrame e n).tiles = s.tiles := (told_eventFrame s e n).tiles
@[simp] theorem State.eventFrame_eng (e : LogEntry) (n : Nat) : (s.eventFrame e n).eng = s.eng := (told_eventFrame s e n).eng
@[simp] theorem State.eventFrame_flow (e : LogEntry) (n : Nat) : (s.eventFrame e n).flow = s.flow := (told_eventFrame s e n).flow
@[simp] theorem State.eventFrame_stk (e : LogEntry) (n : Nat) : (s.eventFrame e n).stk = s.stk := (told_eventFrame s e n).stk
@[simp] theorem State.eventFrame_net (e : LogEntry) (n : Nat) : (s.eventFrame e n).net = s.net := (told_eventFrame s e n).net
@[simp] theorem State.eventFrame_fab (e : LogEntry) (n : Nat) : (s.eventFrame e n).fab = s.fab := (told_eventFrame s e n).fab
@[simp] theorem State.eventFrame_clk (e : LogEntry) (n : Nat) : (s.eventFrame e n).clk = s.clk := (told_eventFrame s e n).clk
@[simp] theorem State.eventFrame_pwr (e : LogEntry) (n : Nat) : (s.eventFrame e n).pwr = s.pwr := (told_eventFrame s e n).pwr
@[simp] theorem State.eventFrame_thm (e : LogEntry) (n : Nat) : (s.eventFrame e n).thm = s.thm := (told_eventFrame s e n).thm
@[simp] theorem State.eventFrame_boot (e : LogEntry) (n : Nat) : (s.eventFrame e n).boot = s.boot := (told_eventFrame s e n).boot
@[simp] theorem State.eventFrame_recov (e : LogEntry) (n : Nat) : (s.eventFrame e n).recov = s.recov := (told_eventFrame s e n).recov
@[simp] theorem State.eventFrame_pins (e : LogEntry) (n : Nat) : (s.eventFrame e n).pins = s.pins := (told_eventFrame s e n).pins
@[simp] theorem State.eventFrame_answer (e : LogEntry) (n : Nat) : (s.eventFrame e n).answer = s.answer := (told_eventFrame s e n).answer
@[simp] theorem State.eventFrame_pending (e : LogEntry) (n : Nat) : (s.eventFrame e n).pending = s.pending := (told_eventFrame s e n).pending

/-! ### logEntry -/

@[simp] theorem State.logEntry_st (e : LogEntry) : (s.logEntry e).st = s.st := (told_logEntry s e).st
@[simp] theorem State.logEntry_since (e : LogEntry) : (s.logEntry e).since = s.since := (told_logEntry s e).since
@[simp] theorem State.logEntry_now (e : LogEntry) : (s.logEntry e).now = s.now := (told_logEntry s e).now
@[simp] theorem State.logEntry_anat (e : LogEntry) : (s.logEntry e).anat = s.anat := (told_logEntry s e).anat
@[simp] theorem State.logEntry_dict (e : LogEntry) : (s.logEntry e).dict = s.dict := (told_logEntry s e).dict
@[simp] theorem State.logEntry_stored (e : LogEntry) : (s.logEntry e).stored = s.stored := (told_logEntry s e).stored
@[simp] theorem State.logEntry_ctrSince (e : LogEntry) : (s.logEntry e).ctrSince = s.ctrSince := (told_logEntry s e).ctrSince
@[simp] theorem State.logEntry_stackMem (e : LogEntry) : (s.logEntry e).stackMem = s.stackMem := (told_logEntry s e).stackMem
@[simp] theorem State.logEntry_commonsMem (e : LogEntry) : (s.logEntry e).commonsMem = s.commonsMem := (told_logEntry s e).commonsMem
@[simp] theorem State.logEntry_spadMem (e : LogEntry) : (s.logEntry e).spadMem = s.spadMem := (told_logEntry s e).spadMem
@[simp] theorem State.logEntry_tiles (e : LogEntry) : (s.logEntry e).tiles = s.tiles := (told_logEntry s e).tiles
@[simp] theorem State.logEntry_eng (e : LogEntry) : (s.logEntry e).eng = s.eng := (told_logEntry s e).eng
@[simp] theorem State.logEntry_flow (e : LogEntry) : (s.logEntry e).flow = s.flow := (told_logEntry s e).flow
@[simp] theorem State.logEntry_stk (e : LogEntry) : (s.logEntry e).stk = s.stk := (told_logEntry s e).stk
@[simp] theorem State.logEntry_net (e : LogEntry) : (s.logEntry e).net = s.net := (told_logEntry s e).net
@[simp] theorem State.logEntry_fab (e : LogEntry) : (s.logEntry e).fab = s.fab := (told_logEntry s e).fab
@[simp] theorem State.logEntry_clk (e : LogEntry) : (s.logEntry e).clk = s.clk := (told_logEntry s e).clk
@[simp] theorem State.logEntry_pwr (e : LogEntry) : (s.logEntry e).pwr = s.pwr := (told_logEntry s e).pwr
@[simp] theorem State.logEntry_thm (e : LogEntry) : (s.logEntry e).thm = s.thm := (told_logEntry s e).thm
@[simp] theorem State.logEntry_boot (e : LogEntry) : (s.logEntry e).boot = s.boot := (told_logEntry s e).boot
@[simp] theorem State.logEntry_recov (e : LogEntry) : (s.logEntry e).recov = s.recov := (told_logEntry s e).recov
@[simp] theorem State.logEntry_pins (e : LogEntry) : (s.logEntry e).pins = s.pins := (told_logEntry s e).pins
@[simp] theorem State.logEntry_answer (e : LogEntry) : (s.logEntry e).answer = s.answer := (told_logEntry s e).answer
@[simp] theorem State.logEntry_pending (e : LogEntry) : (s.logEntry e).pending = s.pending := (told_logEntry s e).pending

/-! ### raise -/

@[simp] theorem State.raise_st (b : Bool) (c : W16) (x : Option CtxId) (l : Loc) (d : Nat) : (s.raise b c x l d).st = s.st := (told_raise s b c x l d).st
@[simp] theorem State.raise_since (b : Bool) (c : W16) (x : Option CtxId) (l : Loc) (d : Nat) : (s.raise b c x l d).since = s.since := (told_raise s b c x l d).since
@[simp] theorem State.raise_now (b : Bool) (c : W16) (x : Option CtxId) (l : Loc) (d : Nat) : (s.raise b c x l d).now = s.now := (told_raise s b c x l d).now
@[simp] theorem State.raise_anat (b : Bool) (c : W16) (x : Option CtxId) (l : Loc) (d : Nat) : (s.raise b c x l d).anat = s.anat := (told_raise s b c x l d).anat
@[simp] theorem State.raise_dict (b : Bool) (c : W16) (x : Option CtxId) (l : Loc) (d : Nat) : (s.raise b c x l d).dict = s.dict := (told_raise s b c x l d).dict
@[simp] theorem State.raise_stored (b : Bool) (c : W16) (x : Option CtxId) (l : Loc) (d : Nat) : (s.raise b c x l d).stored = s.stored := (told_raise s b c x l d).stored
@[simp] theorem State.raise_ctrSince (b : Bool) (c : W16) (x : Option CtxId) (l : Loc) (d : Nat) : (s.raise b c x l d).ctrSince = s.ctrSince := (told_raise s b c x l d).ctrSince
@[simp] theorem State.raise_stackMem (b : Bool) (c : W16) (x : Option CtxId) (l : Loc) (d : Nat) : (s.raise b c x l d).stackMem = s.stackMem := (told_raise s b c x l d).stackMem
@[simp] theorem State.raise_commonsMem (b : Bool) (c : W16) (x : Option CtxId) (l : Loc) (d : Nat) : (s.raise b c x l d).commonsMem = s.commonsMem := (told_raise s b c x l d).commonsMem
@[simp] theorem State.raise_spadMem (b : Bool) (c : W16) (x : Option CtxId) (l : Loc) (d : Nat) : (s.raise b c x l d).spadMem = s.spadMem := (told_raise s b c x l d).spadMem
@[simp] theorem State.raise_tiles (b : Bool) (c : W16) (x : Option CtxId) (l : Loc) (d : Nat) : (s.raise b c x l d).tiles = s.tiles := (told_raise s b c x l d).tiles
@[simp] theorem State.raise_eng (b : Bool) (c : W16) (x : Option CtxId) (l : Loc) (d : Nat) : (s.raise b c x l d).eng = s.eng := (told_raise s b c x l d).eng
@[simp] theorem State.raise_flow (b : Bool) (c : W16) (x : Option CtxId) (l : Loc) (d : Nat) : (s.raise b c x l d).flow = s.flow := (told_raise s b c x l d).flow
@[simp] theorem State.raise_stk (b : Bool) (c : W16) (x : Option CtxId) (l : Loc) (d : Nat) : (s.raise b c x l d).stk = s.stk := (told_raise s b c x l d).stk
@[simp] theorem State.raise_net (b : Bool) (c : W16) (x : Option CtxId) (l : Loc) (d : Nat) : (s.raise b c x l d).net = s.net := (told_raise s b c x l d).net
@[simp] theorem State.raise_fab (b : Bool) (c : W16) (x : Option CtxId) (l : Loc) (d : Nat) : (s.raise b c x l d).fab = s.fab := (told_raise s b c x l d).fab
@[simp] theorem State.raise_clk (b : Bool) (c : W16) (x : Option CtxId) (l : Loc) (d : Nat) : (s.raise b c x l d).clk = s.clk := (told_raise s b c x l d).clk
@[simp] theorem State.raise_pwr (b : Bool) (c : W16) (x : Option CtxId) (l : Loc) (d : Nat) : (s.raise b c x l d).pwr = s.pwr := (told_raise s b c x l d).pwr
@[simp] theorem State.raise_thm (b : Bool) (c : W16) (x : Option CtxId) (l : Loc) (d : Nat) : (s.raise b c x l d).thm = s.thm := (told_raise s b c x l d).thm
@[simp] theorem State.raise_boot (b : Bool) (c : W16) (x : Option CtxId) (l : Loc) (d : Nat) : (s.raise b c x l d).boot = s.boot := (told_raise s b c x l d).boot
@[simp] theorem State.raise_recov (b : Bool) (c : W16) (x : Option CtxId) (l : Loc) (d : Nat) : (s.raise b c x l d).recov = s.recov := (told_raise s b c x l d).recov
@[simp] theorem State.raise_pins (b : Bool) (c : W16) (x : Option CtxId) (l : Loc) (d : Nat) : (s.raise b c x l d).pins = s.pins := (told_raise s b c x l d).pins
@[simp] theorem State.raise_answer (b : Bool) (c : W16) (x : Option CtxId) (l : Loc) (d : Nat) : (s.raise b c x l d).answer = s.answer := (told_raise s b c x l d).answer
@[simp] theorem State.raise_pending (b : Bool) (c : W16) (x : Option CtxId) (l : Loc) (d : Nat) : (s.raise b c x l d).pending = s.pending := (told_raise s b c x l d).pending

/-! ### fault -/

@[simp] theorem State.fault_st (c : W16) (x : Option CtxId) (l : Loc) (d : Nat) : (s.fault c x l d).st = s.st := (told_fault s c x l d).st
@[simp] theorem State.fault_since (c : W16) (x : Option CtxId) (l : Loc) (d : Nat) : (s.fault c x l d).since = s.since := (told_fault s c x l d).since
@[simp] theorem State.fault_now (c : W16) (x : Option CtxId) (l : Loc) (d : Nat) : (s.fault c x l d).now = s.now := (told_fault s c x l d).now
@[simp] theorem State.fault_anat (c : W16) (x : Option CtxId) (l : Loc) (d : Nat) : (s.fault c x l d).anat = s.anat := (told_fault s c x l d).anat
@[simp] theorem State.fault_dict (c : W16) (x : Option CtxId) (l : Loc) (d : Nat) : (s.fault c x l d).dict = s.dict := (told_fault s c x l d).dict
@[simp] theorem State.fault_stored (c : W16) (x : Option CtxId) (l : Loc) (d : Nat) : (s.fault c x l d).stored = s.stored := (told_fault s c x l d).stored
@[simp] theorem State.fault_ctrSince (c : W16) (x : Option CtxId) (l : Loc) (d : Nat) : (s.fault c x l d).ctrSince = s.ctrSince := (told_fault s c x l d).ctrSince
@[simp] theorem State.fault_stackMem (c : W16) (x : Option CtxId) (l : Loc) (d : Nat) : (s.fault c x l d).stackMem = s.stackMem := (told_fault s c x l d).stackMem
@[simp] theorem State.fault_commonsMem (c : W16) (x : Option CtxId) (l : Loc) (d : Nat) : (s.fault c x l d).commonsMem = s.commonsMem := (told_fault s c x l d).commonsMem
@[simp] theorem State.fault_spadMem (c : W16) (x : Option CtxId) (l : Loc) (d : Nat) : (s.fault c x l d).spadMem = s.spadMem := (told_fault s c x l d).spadMem
@[simp] theorem State.fault_tiles (c : W16) (x : Option CtxId) (l : Loc) (d : Nat) : (s.fault c x l d).tiles = s.tiles := (told_fault s c x l d).tiles
@[simp] theorem State.fault_eng (c : W16) (x : Option CtxId) (l : Loc) (d : Nat) : (s.fault c x l d).eng = s.eng := (told_fault s c x l d).eng
@[simp] theorem State.fault_flow (c : W16) (x : Option CtxId) (l : Loc) (d : Nat) : (s.fault c x l d).flow = s.flow := (told_fault s c x l d).flow
@[simp] theorem State.fault_stk (c : W16) (x : Option CtxId) (l : Loc) (d : Nat) : (s.fault c x l d).stk = s.stk := (told_fault s c x l d).stk
@[simp] theorem State.fault_net (c : W16) (x : Option CtxId) (l : Loc) (d : Nat) : (s.fault c x l d).net = s.net := (told_fault s c x l d).net
@[simp] theorem State.fault_fab (c : W16) (x : Option CtxId) (l : Loc) (d : Nat) : (s.fault c x l d).fab = s.fab := (told_fault s c x l d).fab
@[simp] theorem State.fault_clk (c : W16) (x : Option CtxId) (l : Loc) (d : Nat) : (s.fault c x l d).clk = s.clk := (told_fault s c x l d).clk
@[simp] theorem State.fault_pwr (c : W16) (x : Option CtxId) (l : Loc) (d : Nat) : (s.fault c x l d).pwr = s.pwr := (told_fault s c x l d).pwr
@[simp] theorem State.fault_thm (c : W16) (x : Option CtxId) (l : Loc) (d : Nat) : (s.fault c x l d).thm = s.thm := (told_fault s c x l d).thm
@[simp] theorem State.fault_boot (c : W16) (x : Option CtxId) (l : Loc) (d : Nat) : (s.fault c x l d).boot = s.boot := (told_fault s c x l d).boot
@[simp] theorem State.fault_recov (c : W16) (x : Option CtxId) (l : Loc) (d : Nat) : (s.fault c x l d).recov = s.recov := (told_fault s c x l d).recov
@[simp] theorem State.fault_pins (c : W16) (x : Option CtxId) (l : Loc) (d : Nat) : (s.fault c x l d).pins = s.pins := (told_fault s c x l d).pins
@[simp] theorem State.fault_answer (c : W16) (x : Option CtxId) (l : Loc) (d : Nat) : (s.fault c x l d).answer = s.answer := (told_fault s c x l d).answer
@[simp] theorem State.fault_pending (c : W16) (x : Option CtxId) (l : Loc) (d : Nat) : (s.fault c x l d).pending = s.pending := (told_fault s c x l d).pending

/-! ### event -/

@[simp] theorem State.event_st (c : W16) (x : Option CtxId) (l : Loc) (d : Nat) : (s.event c x l d).st = s.st := (told_event s c x l d).st
@[simp] theorem State.event_since (c : W16) (x : Option CtxId) (l : Loc) (d : Nat) : (s.event c x l d).since = s.since := (told_event s c x l d).since
@[simp] theorem State.event_now (c : W16) (x : Option CtxId) (l : Loc) (d : Nat) : (s.event c x l d).now = s.now := (told_event s c x l d).now
@[simp] theorem State.event_anat (c : W16) (x : Option CtxId) (l : Loc) (d : Nat) : (s.event c x l d).anat = s.anat := (told_event s c x l d).anat
@[simp] theorem State.event_dict (c : W16) (x : Option CtxId) (l : Loc) (d : Nat) : (s.event c x l d).dict = s.dict := (told_event s c x l d).dict
@[simp] theorem State.event_stored (c : W16) (x : Option CtxId) (l : Loc) (d : Nat) : (s.event c x l d).stored = s.stored := (told_event s c x l d).stored
@[simp] theorem State.event_ctrSince (c : W16) (x : Option CtxId) (l : Loc) (d : Nat) : (s.event c x l d).ctrSince = s.ctrSince := (told_event s c x l d).ctrSince
@[simp] theorem State.event_stackMem (c : W16) (x : Option CtxId) (l : Loc) (d : Nat) : (s.event c x l d).stackMem = s.stackMem := (told_event s c x l d).stackMem
@[simp] theorem State.event_commonsMem (c : W16) (x : Option CtxId) (l : Loc) (d : Nat) : (s.event c x l d).commonsMem = s.commonsMem := (told_event s c x l d).commonsMem
@[simp] theorem State.event_spadMem (c : W16) (x : Option CtxId) (l : Loc) (d : Nat) : (s.event c x l d).spadMem = s.spadMem := (told_event s c x l d).spadMem
@[simp] theorem State.event_tiles (c : W16) (x : Option CtxId) (l : Loc) (d : Nat) : (s.event c x l d).tiles = s.tiles := (told_event s c x l d).tiles
@[simp] theorem State.event_eng (c : W16) (x : Option CtxId) (l : Loc) (d : Nat) : (s.event c x l d).eng = s.eng := (told_event s c x l d).eng
@[simp] theorem State.event_flow (c : W16) (x : Option CtxId) (l : Loc) (d : Nat) : (s.event c x l d).flow = s.flow := (told_event s c x l d).flow
@[simp] theorem State.event_stk (c : W16) (x : Option CtxId) (l : Loc) (d : Nat) : (s.event c x l d).stk = s.stk := (told_event s c x l d).stk
@[simp] theorem State.event_net (c : W16) (x : Option CtxId) (l : Loc) (d : Nat) : (s.event c x l d).net = s.net := (told_event s c x l d).net
@[simp] theorem State.event_fab (c : W16) (x : Option CtxId) (l : Loc) (d : Nat) : (s.event c x l d).fab = s.fab := (told_event s c x l d).fab
@[simp] theorem State.event_clk (c : W16) (x : Option CtxId) (l : Loc) (d : Nat) : (s.event c x l d).clk = s.clk := (told_event s c x l d).clk
@[simp] theorem State.event_pwr (c : W16) (x : Option CtxId) (l : Loc) (d : Nat) : (s.event c x l d).pwr = s.pwr := (told_event s c x l d).pwr
@[simp] theorem State.event_thm (c : W16) (x : Option CtxId) (l : Loc) (d : Nat) : (s.event c x l d).thm = s.thm := (told_event s c x l d).thm
@[simp] theorem State.event_boot (c : W16) (x : Option CtxId) (l : Loc) (d : Nat) : (s.event c x l d).boot = s.boot := (told_event s c x l d).boot
@[simp] theorem State.event_recov (c : W16) (x : Option CtxId) (l : Loc) (d : Nat) : (s.event c x l d).recov = s.recov := (told_event s c x l d).recov
@[simp] theorem State.event_pins (c : W16) (x : Option CtxId) (l : Loc) (d : Nat) : (s.event c x l d).pins = s.pins := (told_event s c x l d).pins
@[simp] theorem State.event_answer (c : W16) (x : Option CtxId) (l : Loc) (d : Nat) : (s.event c x l d).answer = s.answer := (told_event s c x l d).answer
@[simp] theorem State.event_pending (c : W16) (x : Option CtxId) (l : Loc) (d : Nat) : (s.event c x l d).pending = s.pending := (told_event s c x l d).pending

/-! ### endSession -/

@[simp] theorem State.endSession_st (n : Nat) : (s.endSession n).st = s.st := (told_endSession s n).st
@[simp] theorem State.endSession_since (n : Nat) : (s.endSession n).since = s.since := (told_endSession s n).since
@[simp] theorem State.endSession_now (n : Nat) : (s.endSession n).now = s.now := (told_endSession s n).now
@[simp] theorem State.endSession_anat (n : Nat) : (s.endSession n).anat = s.anat := (told_endSession s n).anat
@[simp] theorem State.endSession_dict (n : Nat) : (s.endSession n).dict = s.dict := (told_endSession s n).dict
@[simp] theorem State.endSession_stored (n : Nat) : (s.endSession n).stored = s.stored := (told_endSession s n).stored
@[simp] theorem State.endSession_ctrSince (n : Nat) : (s.endSession n).ctrSince = s.ctrSince := (told_endSession s n).ctrSince
@[simp] theorem State.endSession_stackMem (n : Nat) : (s.endSession n).stackMem = s.stackMem := (told_endSession s n).stackMem
@[simp] theorem State.endSession_commonsMem (n : Nat) : (s.endSession n).commonsMem = s.commonsMem := (told_endSession s n).commonsMem
@[simp] theorem State.endSession_spadMem (n : Nat) : (s.endSession n).spadMem = s.spadMem := (told_endSession s n).spadMem
@[simp] theorem State.endSession_tiles (n : Nat) : (s.endSession n).tiles = s.tiles := (told_endSession s n).tiles
@[simp] theorem State.endSession_eng (n : Nat) : (s.endSession n).eng = s.eng := (told_endSession s n).eng
@[simp] theorem State.endSession_flow (n : Nat) : (s.endSession n).flow = s.flow := (told_endSession s n).flow
@[simp] theorem State.endSession_stk (n : Nat) : (s.endSession n).stk = s.stk := (told_endSession s n).stk
@[simp] theorem State.endSession_net (n : Nat) : (s.endSession n).net = s.net := (told_endSession s n).net
@[simp] theorem State.endSession_fab (n : Nat) : (s.endSession n).fab = s.fab := (told_endSession s n).fab
@[simp] theorem State.endSession_clk (n : Nat) : (s.endSession n).clk = s.clk := (told_endSession s n).clk
@[simp] theorem State.endSession_pwr (n : Nat) : (s.endSession n).pwr = s.pwr := (told_endSession s n).pwr
@[simp] theorem State.endSession_thm (n : Nat) : (s.endSession n).thm = s.thm := (told_endSession s n).thm
@[simp] theorem State.endSession_boot (n : Nat) : (s.endSession n).boot = s.boot := (told_endSession s n).boot
@[simp] theorem State.endSession_recov (n : Nat) : (s.endSession n).recov = s.recov := (told_endSession s n).recov
@[simp] theorem State.endSession_pins (n : Nat) : (s.endSession n).pins = s.pins := (told_endSession s n).pins
@[simp] theorem State.endSession_answer (n : Nat) : (s.endSession n).answer = s.answer := (told_endSession s n).answer
@[simp] theorem State.endSession_pending (n : Nat) : (s.endSession n).pending = s.pending := (told_endSession s n).pending

/-! ### doorbell: what lies in tables -/

@[simp] theorem State.ctx_doorbell (h c : Nat) (i : CtxId) : (s.doorbell h c).ctx i = s.ctx i := by
  simp [State.ctx]
@[simp] theorem State.unit_doorbell (h c : Nat) (i : Nat) : (s.doorbell h c).unit i = s.unit i := by
  simp [State.unit]
@[simp] theorem State.queue_doorbell (h c : Nat) (i : Nat) : (s.doorbell h c).queue i = s.queue i := by
  simp [State.queue]
@[simp] theorem State.tile_doorbell (h c : Nat) (i : Nat) : (s.doorbell h c).tile i = s.tile i := by
  simp [State.tile]
@[simp] theorem State.commons_doorbell (h c : Nat) (i : Nat) : (s.doorbell h c).commons i = s.commons i := by
  simp [State.commons]
@[simp] theorem State.engine_doorbell (h c : Nat) (i : Nat) : (s.doorbell h c).engine i = s.engine i := by
  simp [State.engine]
@[simp] theorem State.ring_doorbell (h c : Nat) (i : Nat) : (s.doorbell h c).ring i = s.ring i := by
  simp [State.ring]
@[simp] theorem State.stack_doorbell (h c : Nat) (i : Nat) : (s.doorbell h c).stack i = s.stack i := by
  simp [State.stack]
@[simp] theorem State.vent_doorbell (h c : Nat) (i : Nat) : (s.doorbell h c).vent i = s.vent i := by
  simp [State.vent]
@[simp] theorem State.dieClk_doorbell (h c : Nat) (i : Nat) : (s.doorbell h c).dieClk i = s.dieClk i := by
  simp [State.dieClk]
@[simp] theorem State.island_doorbell (h c : Nat) (i : Nat) : (s.doorbell h c).island i = s.island i := by
  simp [State.island]
@[simp] theorem State.cell_doorbell (h c : Nat) (i : Nat) : (s.doorbell h c).cell i = s.cell i := by
  simp [State.cell]
@[simp] theorem State.spot_doorbell (h c : Nat) (i : Nat) : (s.doorbell h c).spot i = s.spot i := by
  simp [State.spot]

/-! ### raise: what lies in tables -/

@[simp] theorem State.ctx_raise (b : Bool) (c : W16) (x : Option CtxId) (l : Loc) (d : Nat) (i : CtxId) : (s.raise b c x l d).ctx i = s.ctx i := by
  simp [State.ctx]
@[simp] theorem State.unit_raise (b : Bool) (c : W16) (x : Option CtxId) (l : Loc) (d : Nat) (i : Nat) : (s.raise b c x l d).unit i = s.unit i := by
  simp [State.unit]
@[simp] theorem State.queue_raise (b : Bool) (c : W16) (x : Option CtxId) (l : Loc) (d : Nat) (i : Nat) : (s.raise b c x l d).queue i = s.queue i := by
  simp [State.queue]
@[simp] theorem State.tile_raise (b : Bool) (c : W16) (x : Option CtxId) (l : Loc) (d : Nat) (i : Nat) : (s.raise b c x l d).tile i = s.tile i := by
  simp [State.tile]
@[simp] theorem State.commons_raise (b : Bool) (c : W16) (x : Option CtxId) (l : Loc) (d : Nat) (i : Nat) : (s.raise b c x l d).commons i = s.commons i := by
  simp [State.commons]
@[simp] theorem State.engine_raise (b : Bool) (c : W16) (x : Option CtxId) (l : Loc) (d : Nat) (i : Nat) : (s.raise b c x l d).engine i = s.engine i := by
  simp [State.engine]
@[simp] theorem State.ring_raise (b : Bool) (c : W16) (x : Option CtxId) (l : Loc) (d : Nat) (i : Nat) : (s.raise b c x l d).ring i = s.ring i := by
  simp [State.ring]
@[simp] theorem State.stack_raise (b : Bool) (c : W16) (x : Option CtxId) (l : Loc) (d : Nat) (i : Nat) : (s.raise b c x l d).stack i = s.stack i := by
  simp [State.stack]
@[simp] theorem State.vent_raise (b : Bool) (c : W16) (x : Option CtxId) (l : Loc) (d : Nat) (i : Nat) : (s.raise b c x l d).vent i = s.vent i := by
  simp [State.vent]
@[simp] theorem State.dieClk_raise (b : Bool) (c : W16) (x : Option CtxId) (l : Loc) (d : Nat) (i : Nat) : (s.raise b c x l d).dieClk i = s.dieClk i := by
  simp [State.dieClk]
@[simp] theorem State.island_raise (b : Bool) (c : W16) (x : Option CtxId) (l : Loc) (d : Nat) (i : Nat) : (s.raise b c x l d).island i = s.island i := by
  simp [State.island]
@[simp] theorem State.cell_raise (b : Bool) (c : W16) (x : Option CtxId) (l : Loc) (d : Nat) (i : Nat) : (s.raise b c x l d).cell i = s.cell i := by
  simp [State.cell]
@[simp] theorem State.spot_raise (b : Bool) (c : W16) (x : Option CtxId) (l : Loc) (d : Nat) (i : Nat) : (s.raise b c x l d).spot i = s.spot i := by
  simp [State.spot]

/-! ### fault: what lies in tables -/

@[simp] theorem State.ctx_fault (c : W16) (x : Option CtxId) (l : Loc) (d : Nat) (i : CtxId) : (s.fault c x l d).ctx i = s.ctx i := by
  simp [State.ctx]
@[simp] theorem State.unit_fault (c : W16) (x : Option CtxId) (l : Loc) (d : Nat) (i : Nat) : (s.fault c x l d).unit i = s.unit i := by
  simp [State.unit]
@[simp] theorem State.queue_fault (c : W16) (x : Option CtxId) (l : Loc) (d : Nat) (i : Nat) : (s.fault c x l d).queue i = s.queue i := by
  simp [State.queue]
@[simp] theorem State.tile_fault (c : W16) (x : Option CtxId) (l : Loc) (d : Nat) (i : Nat) : (s.fault c x l d).tile i = s.tile i := by
  simp [State.tile]
@[simp] theorem State.commons_fault (c : W16) (x : Option CtxId) (l : Loc) (d : Nat) (i : Nat) : (s.fault c x l d).commons i = s.commons i := by
  simp [State.commons]
@[simp] theorem State.engine_fault (c : W16) (x : Option CtxId) (l : Loc) (d : Nat) (i : Nat) : (s.fault c x l d).engine i = s.engine i := by
  simp [State.engine]
@[simp] theorem State.ring_fault (c : W16) (x : Option CtxId) (l : Loc) (d : Nat) (i : Nat) : (s.fault c x l d).ring i = s.ring i := by
  simp [State.ring]
@[simp] theorem State.stack_fault (c : W16) (x : Option CtxId) (l : Loc) (d : Nat) (i : Nat) : (s.fault c x l d).stack i = s.stack i := by
  simp [State.stack]
@[simp] theorem State.vent_fault (c : W16) (x : Option CtxId) (l : Loc) (d : Nat) (i : Nat) : (s.fault c x l d).vent i = s.vent i := by
  simp [State.vent]
@[simp] theorem State.dieClk_fault (c : W16) (x : Option CtxId) (l : Loc) (d : Nat) (i : Nat) : (s.fault c x l d).dieClk i = s.dieClk i := by
  simp [State.dieClk]
@[simp] theorem State.island_fault (c : W16) (x : Option CtxId) (l : Loc) (d : Nat) (i : Nat) : (s.fault c x l d).island i = s.island i := by
  simp [State.island]
@[simp] theorem State.cell_fault (c : W16) (x : Option CtxId) (l : Loc) (d : Nat) (i : Nat) : (s.fault c x l d).cell i = s.cell i := by
  simp [State.cell]
@[simp] theorem State.spot_fault (c : W16) (x : Option CtxId) (l : Loc) (d : Nat) (i : Nat) : (s.fault c x l d).spot i = s.spot i := by
  simp [State.spot]

/-! ### event: what lies in tables -/

@[simp] theorem State.ctx_event (c : W16) (x : Option CtxId) (l : Loc) (d : Nat) (i : CtxId) : (s.event c x l d).ctx i = s.ctx i := by
  simp [State.ctx]
@[simp] theorem State.unit_event (c : W16) (x : Option CtxId) (l : Loc) (d : Nat) (i : Nat) : (s.event c x l d).unit i = s.unit i := by
  simp [State.unit]
@[simp] theorem State.queue_event (c : W16) (x : Option CtxId) (l : Loc) (d : Nat) (i : Nat) : (s.event c x l d).queue i = s.queue i := by
  simp [State.queue]
@[simp] theorem State.tile_event (c : W16) (x : Option CtxId) (l : Loc) (d : Nat) (i : Nat) : (s.event c x l d).tile i = s.tile i := by
  simp [State.tile]
@[simp] theorem State.commons_event (c : W16) (x : Option CtxId) (l : Loc) (d : Nat) (i : Nat) : (s.event c x l d).commons i = s.commons i := by
  simp [State.commons]
@[simp] theorem State.engine_event (c : W16) (x : Option CtxId) (l : Loc) (d : Nat) (i : Nat) : (s.event c x l d).engine i = s.engine i := by
  simp [State.engine]
@[simp] theorem State.ring_event (c : W16) (x : Option CtxId) (l : Loc) (d : Nat) (i : Nat) : (s.event c x l d).ring i = s.ring i := by
  simp [State.ring]
@[simp] theorem State.stack_event (c : W16) (x : Option CtxId) (l : Loc) (d : Nat) (i : Nat) : (s.event c x l d).stack i = s.stack i := by
  simp [State.stack]
@[simp] theorem State.vent_event (c : W16) (x : Option CtxId) (l : Loc) (d : Nat) (i : Nat) : (s.event c x l d).vent i = s.vent i := by
  simp [State.vent]
@[simp] theorem State.dieClk_event (c : W16) (x : Option CtxId) (l : Loc) (d : Nat) (i : Nat) : (s.event c x l d).dieClk i = s.dieClk i := by
  simp [State.dieClk]
@[simp] theorem State.island_event (c : W16) (x : Option CtxId) (l : Loc) (d : Nat) (i : Nat) : (s.event c x l d).island i = s.island i := by
  simp [State.island]
@[simp] theorem State.cell_event (c : W16) (x : Option CtxId) (l : Loc) (d : Nat) (i : Nat) : (s.event c x l d).cell i = s.cell i := by
  simp [State.cell]
@[simp] theorem State.spot_event (c : W16) (x : Option CtxId) (l : Loc) (d : Nat) (i : Nat) : (s.event c x l d).spot i = s.spot i := by
  simp [State.spot]

/-! ### Entering a panel state -/

@[simp] theorem State.enter_st (p : PState) : (s.enter p).st = p := by
  unfold State.enter
  dsimp only
  split <;> simp

@[simp] theorem State.enter_now (p : PState) : (s.enter p).now = s.now := by
  unfold State.enter
  dsimp only
  split <;> simp
@[simp] theorem State.enter_anat (p : PState) : (s.enter p).anat = s.anat := by
  unfold State.enter
  dsimp only
  split <;> simp
@[simp] theorem State.enter_dict (p : PState) : (s.enter p).dict = s.dict := by
  unfold State.enter
  dsimp only
  split <;> simp
@[simp] theorem State.enter_stored (p : PState) : (s.enter p).stored = s.stored := by
  unfold State.enter
  dsimp only
  split <;> simp
@[simp] theorem State.enter_ctrSince (p : PState) : (s.enter p).ctrSince = s.ctrSince := by
  unfold State.enter
  dsimp only
  split <;> simp
@[simp] theorem State.enter_stackMem (p : PState) : (s.enter p).stackMem = s.stackMem := by
  unfold State.enter
  dsimp only
  split <;> simp
@[simp] theorem State.enter_commonsMem (p : PState) : (s.enter p).commonsMem = s.commonsMem := by
  unfold State.enter
  dsimp only
  split <;> simp
@[simp] theorem State.enter_spadMem (p : PState) : (s.enter p).spadMem = s.spadMem := by
  unfold State.enter
  dsimp only
  split <;> simp
@[simp] theorem State.enter_tiles (p : PState) : (s.enter p).tiles = s.tiles := by
  unfold State.enter
  dsimp only
  split <;> simp
@[simp] theorem State.enter_eng (p : PState) : (s.enter p).eng = s.eng := by
  unfold State.enter
  dsimp only
  split <;> simp
@[simp] theorem State.enter_flow (p : PState) : (s.enter p).flow = s.flow := by
  unfold State.enter
  dsimp only
  split <;> simp
@[simp] theorem State.enter_stk (p : PState) : (s.enter p).stk = s.stk := by
  unfold State.enter
  dsimp only
  split <;> simp
@[simp] theorem State.enter_net (p : PState) : (s.enter p).net = s.net := by
  unfold State.enter
  dsimp only
  split <;> simp
@[simp] theorem State.enter_fab (p : PState) : (s.enter p).fab = s.fab := by
  unfold State.enter
  dsimp only
  split <;> simp
@[simp] theorem State.enter_clk (p : PState) : (s.enter p).clk = s.clk := by
  unfold State.enter
  dsimp only
  split <;> simp
@[simp] theorem State.enter_pwr (p : PState) : (s.enter p).pwr = s.pwr := by
  unfold State.enter
  dsimp only
  split <;> simp
@[simp] theorem State.enter_thm (p : PState) : (s.enter p).thm = s.thm := by
  unfold State.enter
  dsimp only
  split <;> simp
@[simp] theorem State.enter_boot (p : PState) : (s.enter p).boot = s.boot := by
  unfold State.enter
  dsimp only
  split <;> simp
@[simp] theorem State.enter_recov (p : PState) : (s.enter p).recov = s.recov := by
  unfold State.enter
  dsimp only
  split <;> simp
@[simp] theorem State.enter_pins (p : PState) : (s.enter p).pins = s.pins := by
  unfold State.enter
  dsimp only
  split <;> simp
@[simp] theorem State.enter_answer (p : PState) : (s.enter p).answer = s.answer := by
  unfold State.enter
  dsimp only
  split <;> simp
@[simp] theorem State.enter_pending (p : PState) : (s.enter p).pending = s.pending := by
  unfold State.enter
  dsimp only
  split <;> simp
@[simp] theorem State.ctx_enter (p : PState) (i : CtxId) : (s.enter p).ctx i = s.ctx i := by
  simp [State.ctx]
@[simp] theorem State.unit_enter (p : PState) (i : Nat) : (s.enter p).unit i = s.unit i := by
  simp [State.unit]
@[simp] theorem State.queue_enter (p : PState) (i : Nat) : (s.enter p).queue i = s.queue i := by
  simp [State.queue]
@[simp] theorem State.tile_enter (p : PState) (i : Nat) : (s.enter p).tile i = s.tile i := by
  simp [State.tile]
@[simp] theorem State.commons_enter (p : PState) (i : Nat) : (s.enter p).commons i = s.commons i := by
  simp [State.commons]
@[simp] theorem State.engine_enter (p : PState) (i : Nat) : (s.enter p).engine i = s.engine i := by
  simp [State.engine]
@[simp] theorem State.ring_enter (p : PState) (i : Nat) : (s.enter p).ring i = s.ring i := by
  simp [State.ring]
@[simp] theorem State.stack_enter (p : PState) (i : Nat) : (s.enter p).stack i = s.stack i := by
  simp [State.stack]
@[simp] theorem State.vent_enter (p : PState) (i : Nat) : (s.enter p).vent i = s.vent i := by
  simp [State.vent]
@[simp] theorem State.dieClk_enter (p : PState) (i : Nat) : (s.enter p).dieClk i = s.dieClk i := by
  simp [State.dieClk]
@[simp] theorem State.island_enter (p : PState) (i : Nat) : (s.enter p).island i = s.island i := by
  simp [State.island]
@[simp] theorem State.cell_enter (p : PState) (i : Nat) : (s.enter p).cell i = s.cell i := by
  simp [State.cell]
@[simp] theorem State.spot_enter (p : PState) (i : Nat) : (s.enter p).spot i = s.spot i := by
  simp [State.spot]

end Sys2Proof.Machine
end

