-- ==== Sys2Proof/WellFormed.lean ====
section
/-! DEFINITION. Well-formed commands: the operands lie in the ranges that the manual gives their fields. Operands
that the manual answers with a status or a fault of their own are well formed, whatever they are. -/

namespace Sys2Proof

/-- A defect record has one of the five kinds (R37). -/
def recordWf (w : W32) : Bool := decide (w.toNat / 2 ^ 29 < 5)

/-- A packet carries no payload, or as many bytes as its length field says, at most 4,096 (R280). -/
def Pkt.wf (p : Pkt) : Bool :=
  (p.payload.isEmpty || p.payload.length == p.length.toNat) && decide (p.length.toNat ≤ 4096)

/-- A request at a bank names one of the bank's requesters and is 1 to 128 bytes wide (R89, R112). -/
def MemReq.wf (ports : Nat) (r : MemReq) : Bool :=
  decide (r.port < ports) && decide (1 ≤ r.len) && decide (r.len ≤ 128)
    && (if r.write then r.data.length == r.len else r.data.isEmpty)

/-- A command is well formed. (DESIGN CHOICE, log 9) -/
def Instr.wf : Instr → Bool
  | .fwLoad _ off data _ => decide (off + data.length ≤ 2 ^ 26)
  | .selftestComplete found _ => found.records.all recordWf
  | .calibrateComplete values found => values.length == 10 && found.all recordWf
  | .arrayRound _ _ _ _ out => decide (out < 16384)
  | .stagingFill _ _ _ _ data _ => decide (data.length ≤ 64)
  | .scratchpadAccess _ _ _ reqs => reqs.all (MemReq.wf 13)
  | .commonsAccess _ _ reqs => reqs.all (MemReq.wf 20)
  | .dispatchSpan _ _ _ cols => decide (cols.length ≤ 64)
  | .read _ p => p.wf
  | .readData _ p => p.wf
  | .write _ p => p.wf
  | .writeDone _ p => p.wf
  | .token _ p => p.wf
  | .routerForward _ p => p.wf
  | .pathTest _ _ lanes => lanes.all recordWf
  | .marginRefresh _ lanes => decide (lanes.length ≤ 32)
  | .ringData p => p.wf
  | .shardData p => p.wf
  | .xtoken p => p.wf
  | .replicaWindow _ minimum => decide (minimum < 256)
  | .switchOnSlot groups _ => groups.length == 14
  | .hello _ _ body => body.publics.length == 1216
  | .powerTick p => p.groups.length == 14 && p.dies.length == 156
  | .currentLogRow _ groups => groups.length == 14
  | .simmerCheck temps _ => decide (temps.length ≤ 156)
  | .segWrite _ _ _ _ data => decide (data.length ≤ 4064)
  | .shadowCompare _ _ _ proj => proj.length == 64
  | .coldStart .. | .warmStart .. | .powerOnStart .. | .panelRstNRelease .. | .panelRstNHeld ..
  | .coolantQualified .. | .startComplete .. | .startStepTimeout .. | .selftest .. | .calibrate .. | .powerOff ..
  | .enterSafe .. | .update .. | .fwStage .. | .activate .. | .discard .. | .calTableWrite ..
  | .fieldDefectsClear .. | .countersClear .. | .registerWrite .. | .unitFiring .. | .shadowLoad ..
  | .halfFillStart .. | .halfTake .. | .halfRelease .. | .outputStageWrite .. | .laneInstruction .. | .clean ..
  | .invalidate .. | .cleanInvalidate .. | .spCreditReq .. | .spCreditReply .. | .denyFullRetry ..
  | .creditReturn .. | .creditExpiry .. | .bankClose .. | .bankCloseComplete .. | .bankReopen ..
  | .bankReopenComplete .. | .reopen .. | .tail .. | .ringResume .. | .ringAbort .. | .descriptorFetch ..
  | .descriptorRetire .. | .engineWatchdog .. | .copy .. | .transpose .. | .convert .. | .strataPack ..
  | .strataTrim .. | .mxPack .. | .exp .. | .log .. | .recip .. | .rsqrt .. | .sqrt .. | .gelu .. | .silu ..
  | .sigmoid .. | .tanh .. | .lnStats .. | .rmsStats .. | .normApply .. | .sort .. | .merge .. | .mergeSum ..
  | .topk .. | .gather .. | .scatter .. | .scatterAdd .. | .predict .. | .certifyTopk .. | .topkSelection ..
  | .combine .. | .sign1Enc .. | .sign1Dec .. | .ringStep .. | .gcmEnc .. | .gcmDec .. | .sha3256 .. | .sha3512 ..
  | .hashVerify .. | .switchDrain .. | .switchFlush .. | .rollback .. | .halt .. | .resume .. | .suspend ..
  | .reinstate .. | .cfg .. | .unitDrainSwitch .. | .unitFlush .. | .unitRollback .. | .switchComplete ..
  | .switchTimeout .. | .joinWatchdog .. | .liveWriteApply .. | .ctxBcast .. | .imageLoad .. | .checkpointDue ..
  | .checkpointComplete .. | .checkpointSkip .. | .settle .. | .hint .. | .groupEnd .. | .regulatorRelease ..
  | .ack .. | .resendTimeout .. | .qcredit .. | .syncRead .. | .syncWrite .. | .init .. | .arrive .. | .wait ..
  | .fetchAdd .. | .cas .. | .link .. | .readLink .. | .release .. | .shardManifest .. | .fill .. | .abandon ..
  | .fillAttempt .. | .fillWritten .. | .shardVerifyDone .. | .fillAttemptTimeout .. | .shardWaitLimit ..
  | .digestPatrol .. | .scrub .. | .stackBankZeroise .. | .linkEnable .. | .trainComplete .. | .keyx ..
  | .keyxComplete .. | .linkRetry .. | .frameRx .. | .credit .. | .linkstate .. | .laneGroupOut ..
  | .groupRetrain .. | .rekey .. | .ringGrant .. | .ringDone .. | .shardReq .. | .bucketRunStart ..
  | .ringStepTimeout .. | .referenceLoss .. | .referenceReturn .. | .islandDecouple .. | .relockTimeout ..
  | .stepChange .. | .stepChangeTimeout .. | .stretchRateWindow .. | .ceilingExpiry .. | .lockstepFallback ..
  | .replicaFailure .. | .heatSwitchOff .. | .heatSwitchOn .. | .quenchN .. | .quenchCmd .. | .readoutComplete ..
  | .quenchSramDump .. | .sramDumpComplete .. | .obsidianImage .. | .inputFault .. | .inputMarginal ..
  | .inputOvercurrent .. | .inputFoldback .. | .busbarImbalance .. | .converterFailure .. | .switchOnAbandon ..
  | .efuseOpen .. | .phaseFailure .. | .shunt .. | .boost .. | .minVoltageClear .. | .resistanceUpdate ..
  | .sensorDisagreement .. | .sensorExclusion .. | .thermalStageEnter .. | .thermalStageLower ..
  | .thermalStageExit .. | .thermalTrip .. | .hostThermtrip .. | .coolantSample .. | .coolantTimeout ..
  | .outletBelowInlet .. | .lowFlow .. | .thetaUpdate .. | .powerForecast .. | .forecastInterval ..
  | .forecastExpiry .. | .rootTakeover .. | .rootLost .. | .entropyFailure .. | .ownerClaim .. | .ownerRelease ..
  | .keyAdd .. | .keyRemove .. | .keyPrimary .. | .imageKey .. | .updateApprove .. | .operatorGeneration ..
  | .revocation .. | .attestRequest .. | .offer .. | .offerExpiry .. | .ctxAccept .. | .ctxKeyLoad .. | .close ..
  | .closeComplete .. | .debugToken .. | .hostLinkTrain .. | .hostLinkError .. | .hostLinkRetry .. | .hWrite ..
  | .hRead .. | .pCpl .. | .dpCtrl .. | .dpStatus .. | .dpStatusRead .. | .mbInLen .. | .mbAckConsumed ..
  | .mbAckClearOverrun .. | .dbStatusClear .. | .moverTail .. | .moverResume .. | .moverAbort .. | .moverPiece ..
  | .descriptorComplete .. | .finish .. | .handshakeTimeout .. | .fjocoRead .. | .fjocoWrite ..
  | .segRead .. | .segAbort .. | .segTimeout .. | .sessionClose .. | .sessionIdle .. | .pdoTx .. | .pdoRx ..
  | .tpdoRate .. | .tpdoMap .. | .rpdoMap .. | .eventMask .. | .fieldLinkLoss .. | .fieldLinkReturn ..
  | .neighborDiscovery .. | .tileHeartbeatMiss .. | .dieHeartbeatMiss .. | .dieProbeResult ..
  | .sinterHeartbeatMiss .. | .tileFailure .. | .dieFailure .. | .dormantDieFailure .. | .migrationStart ..
  | .migrationCopy .. | .migrationDestFail .. | .relocation .. | .stackLoss .. | .regionRestore ..
  | .regionResume .. | .caughtUp .. | .recoveryBudgetExpiry .. | .marginSummary .. | .alertAck ..
  | .faultLogClear .. | .standbyLoss .. | .graphStart .. | .droopStretch .. | .sensorsAgree ..
  | .thermalCeilingRaise .. | .firmwareWatchdog .. | .quenchNHigh .. | .standbyPowerReturn .. | .testPortAccess ..
  | .switchOnRetry .. => true

end Sys2Proof
end

