-- ==== Sys2Proof/Tests/Slice0.lean ====
section
/-! SUPPORT. Small states that meet the hypotheses of the statements, clause by clause, with the command that answers there;
the commands that Instr.wf refuses; and a few results worked out by hand or taken from the standards that the manual names. -/

open Sys2Proof Sys2Proof.Machine

namespace Sys2Proof.Tests

set_option Elab.async false
set_option maxRecDepth 4000

/-! ### Small states -/

/-- The outcome is a next state that answers this. -/
def gives (o : Host.Outcome State Fault Refusal) (a : Answer) : Bool :=
  match o with
  | .next t => decide (t.answer = a)
  | _ => false

/-- The panel runs: everything is powered and unfenced, every island runs, and the twelve first columns of row 0 serve. -/
def panel : State :=
  { st := .run
    anat := { dieMap := [(0, 0x000CBA9876543210)] }
    pwr := { busOn := true, allOn := true }
    clk := { refState := 0, pll0 := true, pll1 := true, islandBase := { st := 0, locked := true } } }

/-- A context in a switch state, with its keys. -/
def withCtx (sw : SwitchSt) : State :=
  { panel with flow := { ctx := [(0, { sw := sw, key := .opened })] } }

/-- A configuration record of unit u of die 0. -/
def record (u : Fin 112) (op : UnitOp) (inputs : List QueueDecl) : UnitCfg := ⟨0, u, op, inputs, [], none, none, 0, none⟩

/-- The panel with a running context 0 and a unit of it. -/
def withUnit (x : UnitCfg) (st : UnitS) : State :=
  { panel with flow :=
      { ctx := [(0, { sw := .steady, key := .opened })]
        unit := [(x.unit.val, { st with ctx := some 0, active := { version := 1, cfg := some x } })] } }

/-- The panel with tile 0 as it is given. -/
def placeTile (t : TileS) (s : State) : State := { s with tiles := { s.tiles with tile := [(0, t)] } }

/-- An image without resources, and its graph. -/
def emptyImage (v : W32) : Image :=
  ⟨[], [], [], [], [], [], [], [], [], [], [], [], [], [], [], [], [], [], ⟨v, []⟩, 0, [], [], [], []⟩

/-- The panel with a running context 0 whose image holds tile 0 of logical die 0, and a unit of it. -/
def withTile (x : UnitCfg) (st : UnitS) : State :=
  let s := withUnit x st
  { s with flow := { s.flow with
      ctx := [(0, { sw := .steady, key := .opened, image := some { emptyImage 1 with tiles := [(0, 0)] } })] } }

/-! ### Obligations.ArrayPairCommandsComplete -/

def denseArray : ArrayCfg := ⟨3, 0, 3, 1, 0, 0, 0, [], 0, none⟩
def arrayUnit : UnitCfg := record 0 (.array denseArray) []
def bitmapUnit : UnitCfg := { arrayUnit with sparse := some ⟨0, 3, 0, 0, 0, 0, 2, 0, false⟩ }
def stagedArr : Arr := { staging := [(255, { data := List.replicate 64 1 })], shadow := List.replicate 4096 1 }
def denseState (a : Arr) : State := placeTile { arr0 := a } (withUnit arrayUnit {})
def dispArr : Arr := { stagedArr with
  staging := (List.range 8).map (fun n => (248 + n, { data := List.replicate 64 1 }))
  active := List.replicate 4096 1, disp := [(0, [(3, 2)])] }

theorem witness_array_round :
    let s := denseState stagedArr
    let arr := (s.tile 0).arr 0
    s.tileKey 0 0 = some 0 ∧ s.live 0 0 = some (0, arrayUnit) ∧ 16320 + modeOuts denseArray.wFmt.toNat ≤ 16384 ∧
      arr.room (colEntries (arr.nextCols 255) (modeOuts denseArray.wFmt.toNat) 16320) = true ∧
      roundBitmap arrayUnit = false ∧ (∀ n < arr.roundSpan false 255, (arr.stage 255 n).data ≠ []) ∧
      arr.turns 255 = true ∧ arr.shadow ≠ [] ∧
      gives (exec (.arrayRound 0 0 0 255 16320) s) .done = true := by decide +kernel

theorem witness_bitmap_round :
    let s := placeTile { arr0 := dispArr } (withUnit bitmapUnit {})
    s.live 0 0 = some (0, bitmapUnit) ∧ roundBitmap bitmapUnit = true ∧
      ((s.tile 0).arr 0).room (colEntries [] (modeOuts denseArray.wFmt.toNat) 0) = true ∧
      (∀ n < 8, (((s.tile 0).arr 0).stage 248 n).data ≠ []) ∧
      (s.roundDispatched 0 0 0 0 denseArray 248 0).isSome = true := by decide +kernel

theorem witness_staging_fill :
    let s := denseState {}
    s.live 0 0 = some (0, arrayUnit) ∧ (List.replicate 64 (7 : Byte)).length = 8 * elemBits denseArray.aFmt.toNat ∧
      gives (exec (.stagingFill 0 0 0 255 (List.replicate 64 7) (1, 2)) s) .done = true := by decide +kernel

def inUse (uses : Nat) : Arr := { b := { st := .inUse, size := 4096, uses := uses } }

theorem witness_shadow_load :
    let s := denseState (inUse 0)
    let arr := (s.tile 0).arr 0
    arr.shadow = [] ∧ arr.inState .inUse = some true ∧ (arr.half true).uses < denseArray.reuse ∧
      ((arr.half true).load denseArray (passKind (s.ctx 0).specPosture denseArray none false) 0).isSome = true ∧
      gives (exec (.shadowLoad 0 0 0 0) s) .done = true := by decide +kernel

def streamRec : UnitCfg := record 64 .wstream []

theorem witness_half_fill :
    let s := withUnit streamRec {}
    let f : FillDecl := ⟨.stack 0, .first, true, none⟩
    s.live 0 (streamUnit 0 0) = some (0, streamRec) ∧ (((s.tile 0).arr 0).half ((s.tile 0).arr 0).fillB).st = .empty ∧
      (match s.declaredHalf 0 streamRec (s.tile 0) (s.unit 64) f 128 with
       | some h => (s.taggedHalf 0 0 0 streamRec none h).2 == some h
       | none => false) = true ∧
      gives (exec (.halfFillStart 0 0 0 f 128) s) .done = true := by decide +kernel

theorem witness_half_fill_resident :
    let s := placeTile { resident := [(4096, 8192)] } (withUnit streamRec {})
    s.live 0 (streamUnit 0 0) = some (0, streamRec) ∧ (((s.tile 0).arr 0).half ((s.tile 0).arr 0).fillB).st = .empty ∧
      (s.tile 0).inResident 8192 4096 = true ∧
      gives (exec (.halfFillStart 0 0 0 ⟨.resident 8192, .first, false, none⟩ 4096) s) .done = true ∧
      gives (exec (.halfFillStart 0 0 0 ⟨.resident 8192, .first, true, some 3⟩ 0) s) .done = true := by decide +kernel

theorem witness_half_take :
    let s := denseState { a := { st := .ready } }
    ((s.tile 0).arr 0).inState .inUse = none ∧ (((s.tile 0).arr 0).half ((s.tile 0).arr 0).takeB).st = .ready ∧
      gives (exec (.halfTake 0 0 0) s) .done = true := by decide +kernel

theorem witness_half_release :
    let s := denseState (inUse 1)
    ((s.tile 0).arr 0).inState .inUse = some true ∧ denseArray.reuse ≤ (((s.tile 0).arr 0).half true).uses ∧
      gives (exec (.halfRelease 0 0 0) s) .done = true := by decide +kernel

def partialDecl : QueueDecl := ⟨1, 16, 4, false, false, false, true, 0, 1, 0, 0, 0⟩
def partialToken : Token := ⟨false, false, 0, true, 0, 0, List.replicate 16 0, false, 0⟩
def stagedLayer : LayerDecl := ⟨1, 1, 0, .none, 0, none, 0x3F800000, 0, 0, false, 1, none, none, 1, 64, (64, 0), 64⟩

theorem witness_output_stage :
    let s := denseState {}
    let o : StageOut := ⟨62, 2, 256, none, .finish, false⟩
    let all := (List.range 256).flatMap (fun v => (List.range' 62 2).map (fun i => v * outsOf denseArray none + i))
    arrayUnit.layer = none ∧ outsOf denseArray none * 256 ≤ 16384 ∧
      s.canEmitN arrayUnit 0 (chunk (max (s.outWidth arrayUnit 0) 8) (all.flatMap (fun i =>
        toLe 4 (tget 0 ((s.tile 0).arr 0).acc i).toNat ++ toLe 4 (tget 0 ((s.tile 0).arr 0).env i).toNat))).length = true ∧
      s.canEmitN arrayUnit 0 (chunk (max (s.outWidth arrayUnit 0) 1) (stageBytes 0 0 (s.tile 0).sr
        (stageWords denseArray none (fun _ => 0) ((s.tile 0).arr 0) 256 (List.range' 62 2) [])).1).length = true ∧
      gives (exec (.outputStageWrite 0 0 0 { o with part := .send }) s) .done = true ∧
      gives (exec (.outputStageWrite 0 0 0 o) s) .done = true := by decide +kernel

theorem witness_output_combine :
    let g := record 0 (.array denseArray) [partialDecl]
    let s := withUnit g { frame := 0 }
    let t : State := { s with flow := { s.flow with queue := [(1, { slots := 4, tokens := [partialToken] })] } }
    t.live 0 0 = some (0, g) ∧
      ((t.heads 0 0 0 g).2.find? (fun p => p.1.port == 1)) = some (partialDecl, some partialToken) ∧
      8 * ((List.range 1).flatMap (fun v => (List.range' 0 2).map (fun i => v * 64 + i))).length ≤ partialToken.payload.length ∧
      gives (exec (.outputStageWrite 0 0 0 ⟨0, 2, 1, none, .combine 1, false⟩) t) .done = true := by decide +kernel

theorem witness_output_layer :
    let g := { arrayUnit with layer := some stagedLayer }
    let s := placeTile { arr0 := {} } (withUnit g {})
    let o : StageOut := ⟨0, 4, 1, none, .finish, false⟩
    s.live 0 0 = some (0, g) ∧
      (match s.biases ⟨0, false, .none, 0⟩ stagedLayer 0 4 with
       | (q, .ok b) => (q.stageLayer 0 0 0 0 0 g denseArray stagedLayer b o (List.range' 0 4)).2
       | _ => false) = true ∧
      gives (exec (.outputStageWrite 0 0 0 o) s) .done = true := by decide +kernel

/-! ### Obligations.LaneScratchpadAndCacheCommandsComplete -/

def laneUnit : UnitCfg := record 16 (.lane 0 0 true) []

theorem witness_lane_instruction :
    let s := withUnit laneUnit {}
    s.live 0 16 = some (0, laneUnit) ∧ fmtOk 13 = true ∧ convOk 6 = true ∧
      gives (exec (.laneInstruction 0 0 ⟨.add, 0, 31, 0, 0⟩) s) .done = true ∧
      gives (exec (.laneInstruction 0 0 ⟨.cmpLt, 0, 31, 0, 0⟩) s) .done = true ∧
      gives (exec (.laneInstruction 0 0 ⟨.convFrom 13, 0, 31, 0, 0⟩) s) .done = true ∧
      gives (exec (.laneInstruction 0 0 ⟨.convTo 13 6, 0, 31, 0, 0⟩) s) .done = true := by decide +kernel

theorem witness_lane_access :
    let s := withTile laneUnit {}
    let s1 := s.count64 .unit (unitKey 0 16) 0x08 1
    s.live 0 16 = some (0, laneUnit) ∧ s.tileKey 0 0 = some 0 ∧
      (s1.laneAccess 0 0 0 0 true 3968 none).2 = .ok (List.replicate 256 0) ∧
      (s1.laneAccess 0 0 0 0 true 3968 (some ((s.tile 0).regBytes 31))).2 = .ok [] ∧
      gives (exec (.laneInstruction 0 0 ⟨.load 3968, 0, 31, 0, 0⟩) s) .done = true ∧
      gives (exec (.laneInstruction 0 0 ⟨.store 3968, 0, 31, 0, 0⟩) s) .done = true := by decide +kernel

theorem witness_lane_stage :
    let s := withTile laneUnit {}
    let s := { s with flow := { s.flow with
      unit := (0, { ctx := some 0, active := { version := 1, cfg := some arrayUnit } }) :: s.flow.unit } }
    s.live 0 16 = some (0, laneUnit) ∧ s.live 0 0 = some (0, arrayUnit) ∧
      ((s.count64 .unit (unitKey 0 16) 0x08 1).stageLanes 0 0 0 0 1 16320).2.isSome = true ∧
      gives (exec (.laneInstruction 0 0 ⟨.stage 1 16320, 0, 31, 0, 0⟩) s) .done = true := by decide +kernel

/-- A request of firmware's port at the last 8 bytes of a slot. -/
def fwReq (port addr : Nat) (d : Bytes) (len : Nat) : MemReq := ⟨port, 0, .none, addr, d != [], d, len, false, true⟩
def eight : Bytes := [1, 2, 3, 4, 5, 6, 7, 8]

theorem witness_scratchpad_access :
    let s := panel
    let s0 (r : MemReq) := s.spadArrive 0 0 0 (atBank 13 32 (2 ^ 22) 31 [r])
    let rd := fwReq 12 (2 ^ 22 - 8) [] 8
    let wr := fwReq 12 (2 ^ 22 - 8) eight 8
    s.tileKey 0 0 = some 0 ∧
      roundRobin (tget 0 ((s0 rd).tile 0).bankPtr 31) 13 (tget [] ((s0 rd).tile 0).bankWait 31) = some rd ∧
      roundRobin (tget 0 ((s0 wr).tile 0).bankPtr 31) 13 (tget [] ((s0 wr).tile 0).bankWait 31) = some wr ∧
      ((s0 rd).spadRead ⟨0, true, .none, portUnit 0 12⟩ 0 0 (2 ^ 22 - 8) 8).2 = .ok (List.replicate 8 0) ∧
      ((s0 wr).spadWrite ⟨0, true, .none, portUnit 0 12⟩ 0 0 (2 ^ 22 - 8) eight false).2 = .ok [] ∧
      gives (exec (.scratchpadAccess 0 0 31 [fwReq 12 (2 ^ 22 - 8) [] 8]) s) (.data .ok (List.replicate 8 0)) = true ∧
      gives (exec (.scratchpadAccess 0 0 31 [fwReq 12 (2 ^ 22 - 8) eight 8]) s) (.status .ok) = true := by decide +kernel

theorem witness_cache_commands :
    let s := withTile laneUnit {}
    let w : Who := ⟨0, false, .none, 16⟩
    s.cacheWho 0 0 = some (w, 0) ∧ (s.cacheRange w (tileRec 0 0) 0 .clean (lineRange 128 256)).2 = true ∧
      (s.cacheRange w (tileRec 0 0) 0 .cleanInvalidate (lineRange 128 256)).2 = true ∧
      gives (exec (.clean 0 0 128 256) s) .done = true ∧
      gives (exec (.invalidate 0 0 128 256) s) .done = true ∧
      gives (exec (.cleanInvalidate 0 0 128 256) s) .done = true := by decide +kernel

/-! ### Obligations.CreditAndBankCommandsComplete -/

def creditReq : CreditReq := ⟨0, 0, 0, 0, 0, 1⟩
def withReplies : State := { panel with tiles := {
  replies := [(0, [(creditReq, .grant 63), (creditReq, .denyFull)])], denied := [(0, [(creditReq, 5)])] } }
def withCredit : State := placeTile { credits := [(63, some ⟨0, 0, 0, 1, 0, 0, 0, []⟩)] } (withCtx .steady)
def bankAt (st : BankSt) : State := placeTile { banks := [(31, st)] } panel

theorem witness_credit_commands :
    (panel.phys 0).isSome = true ∧ (panel.phys 11).isSome = true ∧
      gives (exec (.spCreditReq 0 0 0 0 0 1) panel) .done = true ∧
      gives (exec (.spCreditReply 0) withReplies) (.word .ok 63) = true ∧
      gives (exec (.denyFullRetry 0) withReplies) .done = true ∧
      tget none (withCredit.tile 0).credits 63 = some ⟨0, 0, 0, 1, 0, 0, 0, []⟩ ∧ (withCredit.tile 0).shutAt = none ∧
      gives (exec (.creditReturn 0 0 63) withCredit) .done = true ∧
      gives (exec (.creditExpiry 0 0 63) withCredit) .done = true := by decide +kernel

theorem witness_bank_commands :
    let b := BankRef.spad 0 0 31
    (bankAt .open).modeOk b .retain = true ∧ (bankAt .open).modeOk b .off = true ∧
      gives (exec (.bankClose b .off) (bankAt .open)) .done = true ∧
      gives (exec (.bankCloseComplete b) (bankAt (.closing .off))) .done = true ∧
      gives (exec (.bankReopen b) (bankAt (.closed .off))) .done = true ∧
      gives (exec (.bankReopenComplete b) (bankAt (.opening .off))) .done = true ∧
      (nodeKind 0x3FF ≠ 2 ∨ 2 ≤ nodeIndex 0x3FF) ∧ (nodeKind 0x402 ≠ 2 ∨ 2 ≤ nodeIndex 0x402) ∧
      gives (exec (.reopen 0x402 b) panel) .done = true := by decide +kernel

/-! ### Obligations.CommonsAndRingCommandsComplete -/

def ringState (r : Ring) : State :=
  { withCtx .steady with eng := { ring := [(ringKey 0 0 0, r)], commons := [(0, { seg := [(0, some (0, false))] })] } }
/-- An offset in the commons of logical die 0 of this panel. -/
def inCommons (off : Nat) : W64 := BitVec.ofNat 64 (0x3FFF * 2 ^ 50 + 2 ^ 46 + off)
/-- A settled descriptor of no units: its words, with sources and destinations in the commons. -/
def emptyDesc (op : Nat) : List W64 :=
  [BitVec.ofNat 64 (op * 2 ^ 56 + op / 16 * 2 ^ 53 + 2 ^ 43), inCommons 0x1000, inCommons 0x2000, inCommons 0x3000, 0,
    inCommons 0x4000, 0, 0]
def descOf (op : Nat) : Desc := { slot := 0, words := emptyDesc op, started := 0, fin := none }
def ended : Desc := { descOf 0 with fin := some (.ok, 0, 0) }

theorem witness_commons_access :
    let s := panel
    let rd := fwReq 19 (2 ^ 25 - 8) [] 8
    let wr := fwReq 19 (2 ^ 25 - 8) eight 8
    let s0 (r : MemReq) := s.commonsArrive 0 0 (atBank 20 64 (2 ^ 25) 63 [r])
    s.phys 0 = some 0 ∧
      roundRobin (tget 0 ((s0 rd).commons 0).ptr 63) 20 (tget [] ((s0 rd).commons 0).bankWait 63) = some rd ∧
      roundRobin (tget 0 ((s0 wr).commons 0).ptr 63) 20 (tget [] ((s0 wr).commons 0).bankWait 63) = some wr ∧
      ((s0 rd).commonsRead ⟨0, true, .none, commonsUnit 19⟩ 0 (2 ^ 25 - 8) 8).2 = .ok (List.replicate 8 0) ∧
      ((s0 wr).commonsWrite ⟨0, true, .none, commonsUnit 19⟩ 0 (2 ^ 25 - 8) eight false).2 = .ok [] ∧
      gives (exec (.commonsAccess 0 63 [fwReq 19 (2 ^ 25 - 8) [] 8]) s) (.data .ok (List.replicate 8 0)) = true ∧
      gives (exec (.commonsAccess 0 63 [fwReq 19 (2 ^ 25 - 8) eight 8]) s) (.status .ok) = true := by decide +kernel

theorem witness_ring_registers :
    let s := ringState { ctx := some 0, log2 := 4, done := 0xFFFFFFFF, head := 0xFFFFFFFF, tail := 0xFFFFFFFF }
    ((15 : W32) - (s.ring (ringKey 0 0 0)).done).toNat ≤ (s.ring (ringKey 0 0 0)).slots ∧
      gives (exec (.tail 0 0 0 0 15) s) (.status .ok) = true ∧ gives (exec (.ringResume 0 0 0 0) s) (.status .ok) = true ∧
      gives (exec (.ringAbort 0 0 0 0) s) (.status .ok) = true := by decide +kernel

theorem witness_descriptor_fetch :
    let s := ringState { ctx := some 0, log2 := 4, tail := 1 }
    s.engineLive 0 0 0 = true ∧ (s.ring (ringKey 0 0 0)).halted = false ∧
      (s.ring (ringKey 0 0 0)).head ≠ (s.ring (ringKey 0 0 0)).tail ∧ (s.engine (engKey 0 0)).placed = none ∧
      s.inProgress 0 0 < 4 ∧ s.startTurn 0 0 0 = true ∧ (s.commonsRead (whoEngine 0 0) 0 0 64).2 = .ok (List.replicate 64 0) ∧
      gives (exec (.descriptorFetch 0 0 0) s) .done = true := by decide +kernel

/-- The bytes of words in a memory, from an offset on. -/
def placeWords (off : Nat) (w : List W64) : List Host.Cell :=
  putBytes [] off (w.flatMap (fun x => toLe 8 x.toNat))

theorem witness_descriptor_taken :
    let w := (emptyDesc 1).set 4 (2 ^ 32 + 4)
    let s := { ringState { ctx := some 0, log2 := 4, tail := 1 } with commonsMem := placeWords 0 w }
    (match s.commonsRead (whoEngine 0 0) 0 0 64 with
     | (t, .ok b) => slotWords b == w && dEpoch w == t.engineEpoch 0 0 0 && dOp w / 16 == 0 && dEngine w == 0 &&
        dCtx w == 0 && !t.foreignStep 0 0 0 w && dCount w != 0 && (t.descFault 0 0 0 w []).isNone && extraLen w == 0
     | _ => false) = true ∧
      gives (exec (.descriptorFetch 0 0 0) s) .done = true := by decide +kernel

theorem witness_descriptor_of_another_epoch :
    let s := { ringState { ctx := some 0, log2 := 4, tail := 1 } with
      flow := { ctx := [(0, { sw := .steady, epoch := 14 })] } }
    dEpoch (slotWords (List.replicate 64 0)) = s.engineEpoch 0 0 0 + 2 ∧
      gives (exec (.descriptorFetch 0 0 0) s) .done = true := by decide +kernel

theorem witness_descriptor_retire :
    let s := ringState { ctx := some 0, log2 := 4, descs := [ended] }
    ended.unsettled = false ∧ (s.putRecord 0 0 0 0 ended (.ok, 0, 0)).2 = .ok [] ∧
      gives (exec (.descriptorRetire 0 0 0) s) .done = true := by decide +kernel

theorem witness_engine_watchdog :
    let s := ringState { ctx := some 0, log2 := 4, descs := [ended, descOf 0] }
    (s.ring (ringKey 0 0 0)).descs.find? (fun x => x.fin.isNone) = some (descOf 0) ∧ s.yields 0 = false ∧
      gives (exec (.engineWatchdog 0 0 0) s) .done = true := by decide +kernel

/-! ### Obligations.EngineOperationsComplete -/

def geyserUnit : UnitCfg := { record 101 (.engine 0x50 3 3 0 []) [] with
  layer := some ⟨8, 8, 0, .topk, 0, none, 0, 0, 1, false, 0, none, some ⟨0, 0, [], 0⟩, 0, 64, (64, 0), 64⟩ }

/-- The tag of AES-256-GCM for the zero key, the zero nonce and no data (test case 13 of the GCM specification). -/
def emptyTag : Bytes := [0x53, 0x0f, 0x8a, 0xfb, 0xc7, 0x45, 0x36, 0xb9, 0xa9, 0x63, 0xb4, 0xf1, 0xc4, 0xcb, 0x73, 0x8b]

/-- Context 0 runs; ring 0 of engine e holds the descriptor that stands in front of it. -/
def engineState (e : Nat) (x : Desc) : State :=
  { withUnit geyserUnit {} with
    eng := { ring := [(ringKey 0 e 0, { ctx := some 0, log2 := 4, descs := [x] })]
             commons := [(0, { seg := [(0, some (0, false))] })] }
    commonsMem := if dOp x.words = 0x71 then putBytes [] 0x1000 emptyTag
      else if dOp x.words = 0x74 then putBytes [] 0x2000 (sha3 32 []) else [] }

/-- The operation has its turn and runs the descriptor of no bytes to its end, and its command completes. -/
def runsEmpty (op : Nat) (f : EngOp) (i : Instr) : Bool :=
  let e := op / 16
  let x := descOf op
  let s := engineState e x
  s.engineLive 0 0 e && dOp x.words == op && s.ringTurn 0 e 0 && !s.tokenReady 0 (96 + e) &&
    (s.runChunk (engW 0 0 e) f x).2.2.2.isNone && f.lastChunk x && gives (exec i s) .done

theorem witness_copy_engine : runsEmpty 0x01 opCopy (.copy 0 0) = true ∧ runsEmpty 0x02 opTranspose (.transpose 0 0) = true ∧
    runsEmpty 0x03 opConvert (.convert 0 0) = true ∧ runsEmpty 0x04 opStrataPack (.strataPack 0 0) = true ∧
    runsEmpty 0x05 opStrataTrim (.strataTrim 0 0) = true ∧ runsEmpty 0x06 opMxPack (.mxPack 0 0) = true := by
  decide +kernel

theorem witness_curve_engine : runsEmpty 0x10 opCurve (.exp 0 0) = true ∧ runsEmpty 0x11 opCurve (.log 0 0) = true ∧
    runsEmpty 0x12 opCurve (.recip 0 0) = true ∧ runsEmpty 0x13 opCurve (.rsqrt 0 0) = true ∧
    runsEmpty 0x14 opCurve (.sqrt 0 0) = true ∧ runsEmpty 0x15 opCurve (.gelu 0 0) = true ∧
    runsEmpty 0x16 opCurve (.silu 0 0) = true ∧ runsEmpty 0x17 opCurve (.sigmoid 0 0) = true ∧
    runsEmpty 0x18 opCurve (.tanh 0 0) = true := by decide +kernel

theorem witness_norm_and_sort_engines : runsEmpty 0x20 (opStats false) (.lnStats 0 0) = true ∧
    runsEmpty 0x21 (opStats true) (.rmsStats 0 0) = true ∧ runsEmpty 0x22 opNormApply (.normApply 0 0) = true ∧
    runsEmpty 0x30 opSort (.sort 0 0) = true ∧ runsEmpty 0x31 (opMerge false) (.merge 0 0) = true ∧
    runsEmpty 0x32 (opMerge true) (.mergeSum 0 0) = true ∧ runsEmpty 0x33 opTopk (.topk 0 0) = true := by decide +kernel

theorem witness_gather_geyser_and_ring_engines : runsEmpty 0x40 opGather (.gather 0 0) = true ∧
    runsEmpty 0x41 opScatter (.scatter 0 0) = true ∧ runsEmpty 0x42 opScatterAdd (.scatterAdd 0 0) = true ∧
    runsEmpty 0x50 opPredict (.predict 0 0) = true ∧ runsEmpty 0x51 opCertify (.certifyTopk 0 0) = true ∧
    runsEmpty 0x60 opCombine (.combine 0 0) = true ∧ runsEmpty 0x61 opSign1Enc (.sign1Enc 0 0) = true ∧
    runsEmpty 0x62 opSign1Dec (.sign1Dec 0 0) = true := by decide +kernel

theorem witness_crypto_engine : runsEmpty 0x70 (opGcm false) (.gcmEnc 0 0) = true ∧ runsEmpty 0x71 (opGcm true) (.gcmDec 0 0) = true ∧
    runsEmpty 0x72 (opSha3 32) (.sha3256 0 0) = true ∧ runsEmpty 0x73 (opSha3 64) (.sha3512 0 0) = true ∧
    runsEmpty 0x74 opHashVerify (.hashVerify 0 0) = true := by decide +kernel

/-- HASH_VERIFY ends in a mismatch where the stored value is not the hash. -/
theorem witness_hash_mismatch :
    let s := { engineState 7 (descOf 0x74) with commonsMem := [] }
    (s.runChunk (engW 0 0 7) opHashVerify (descOf 0x74)).2.2.2 = some .mismatch ∧
      gives (exec (.hashVerify 0 0) s) .done = true := by decide +kernel

/-- A TOPK of 8,192 records takes 512 cycles, two chunks; its first completes. -/
theorem witness_first_chunk :
    let x : Desc := { descOf 0x33 with words := (emptyDesc 0x33).set 4 (8192 * 2 ^ 32) }
    let s := engineState 3 x
    opTopk.lastChunk x = false ∧ s.ringTurn 0 3 0 = true ∧ s.tokenReady 0 99 = false ∧
      (s.runChunk (engW 0 0 3) opTopk x).2.2.2 = none ∧ gives (exec (.topk 0 0) s) .done = true := by decide +kernel

/-- SHA3-256 of the empty message begins with this byte, as FIPS 202's own example has it. -/
theorem test_sha3_of_nothing : (sha3 32 []).head? = some 0xa7 := by decide +kernel

/-- A copy of one FP32 element from offset 0x1000 of the commons to 0x3000 moves its four bytes. -/
theorem test_copy_one_element :
    let x : Desc := { descOf 1 with words := ((emptyDesc 1).set 4 (2 ^ 32 + 4)).set 5 4 }
    let s := { engineState 0 x with commonsMem := [⟨0x1003, 0x3F⟩] }
    (match exec (.copy 0 0) s with
      | .next t => bytesAt t.commonsMem 0x3000 4
      | _ => []) = [0, 0, 0, 0x3F] := by decide +kernel

/-! ### Obligations.SelectionAndRingExchangeCommandsComplete -/

def selectLayer : LayerDecl := ⟨8, 8, 0, .topk, 0, none, 0, 2, 3, false, 1, none, none, 0, 64, (64, 0), 64⟩
def selectUnit : UnitCfg := { record 101 (.engine 0x51 3 3 0 []) [] with layer := some selectLayer }
def selectState : State :=
  { withUnit selectUnit {} with
    eng := { engine := [(engKey 0 geyser, { certs := [(7, ([1], [2, 3]))] })]
             commons := [(0, { seg := [(0, some (0, false))] })] } }

theorem witness_topk_selection :
    let s := selectState
    let settled : List (Nat × W32) := [(1, 0x40000000), (2, 0x3F800000), (3, 0x3F800000)]
    s.live 0 (96 + geyser) = some (0, selectUnit) ∧
      (s.engine (engKey 0 geyser)).certs.find? (fun p => p.1 == 7) = some (7, [1], [2, 3]) ∧
      (s.geyserLayer 0).map (·.2) = some selectLayer ∧ selectLayer.v ≤ (s.engine (engKey 0 geyser)).certs.length ∧
      (∀ i ∈ [1, 2, 3], (settled.find? (fun p => p.1 == i)).isSome = true) ∧ selectLayer.indices = false ∧
      gives (exec (.topkSelection 0 7 settled 0) s) .done = true := by decide +kernel

def ringSlot : GroupSlot := ⟨0, 0, 0, 0, 0, inCommons 0x8000⟩
def ringDecl : GroupDecl := ⟨0, 0, 0, 2, 0, 0, 0, 0, 0, false, false, 0, 64, [ringSlot], 0, 0, 64⟩
/-- A RING_STEP of run 0, which is complete already. -/
def stepDesc : Desc := { descOf 0x63 with words := (emptyDesc 0x63).set 5 0 }
def groupState (st : GroupSt) : State :=
  { engineState 6 stepDesc with fab := { group := [(0, some ⟨0, ringDecl, st, [], [], 0, 0, 1, [], 1, false, false, false, [], [], 0⟩)] } }

theorem witness_ring_step :
    let s := groupState .running
    s.engineLive 0 0 6 = true ∧ (s.ring (ringKey 0 6 0)).descs.find? (fun y => y.fin.isNone) = some stepDesc ∧
      dOp stepDesc.words = 0x63 ∧ s.ringTurn 0 6 0 = true ∧ s.tokenReady 0 102 = false ∧
      (match s.groupOfRing 0 0 (bits (dA stepDesc.words) 14 2) with
        | some (k, x) => k == 0 && x.ctx == 0 && x.st == .running &&
            (match s.stepRun k x stepDesc.words with | .ends _ none => true | _ => false)
        | none => false) = true ∧
      gives (exec (.ringStep 0 0) s) .done = true := by decide +kernel

theorem witness_ring_group :
    let s := groupState .running
    let t := groupState .idle
    (s.ctx 0).runs = true ∧ ringDecl.slots.length = 1 ∧ s.wireOf ⟨0, ringDecl, .running, [], [], 0, 0, 1, [], 1, false, false, false, [], [], 0⟩ = 0 ∧
      gives (exec (.bucketRunStart 0 0 0) s) .done = true ∧ gives (exec (.bucketRunStart 0 0 0) t) .done = true ∧
      gives (exec (.ringStepTimeout 0 0) s) .done = true ∧
      gives (exec (.ringGrant 0 0 0 0xFFFF 0xFFFFFFFF 0xFFFF 2 0xFFFFFFFFFFFFFFFF) t) .done = true ∧
      gives (exec (.ringDone 0 0 0 0 0 1 2 64) s) .done = true := by decide +kernel

/-! ### Obligations.ClockCommandsComplete -/

def clocked (x : DieClk) : State := { panel with clk := { panel.clk with die := [(155, x)] } }

theorem witness_reference :
    panel.clk.crystalOk = true ∧ panel.clk.pll0 = true ∧ panel.clk.pll1 = true ∧ panel.pwr.busOn = true ∧
      gives (exec (.referenceLoss none) panel) .done = true ∧ gives (exec (.referenceLoss (some 1)) panel) .done = true ∧
      gives (exec .referenceReturn { panel with clk := { panel.clk with refState := 2, pll1 := false } }) .done = true := by
  decide +kernel

theorem witness_islands :
    let s := { panel with clk := { panel.clk with island := [(islandKey (.vent 47 1), { st := 0, locked := false })] } }
    (∀ i ∈ [Island.die 155 36, .sinter 311, .hub 1 23, .vent 47 1], s.islandUp i = true ∧
      gives (exec (.replicaWindow i 255) s) .done = true ∧ gives (exec (.replicaFailure i) s) .done = true) ∧
      (s.island (islandKey (.die 155 36))).outOfLock s.now = false ∧
      gives (exec (.islandDecouple (.die 155 36)) s) .done = true ∧
      (s.island (islandKey (.vent 47 1))).locked = false ∧
      gives (exec (.relockTimeout (.vent 47 1)) s) .done = true := by decide +kernel

theorem witness_steps :
    let s := panel
    s.stepReady 155 = true ∧ (s.dieClk 155).step ≠ s.targetStep 155 ∧
      gives (exec (.stepChange 155 20000) s) .done = true ∧ gives (exec (.stepChangeTimeout 155 true) s) .done = true ∧
      s.obj 0x3100 0x03 * 1000000 < 1000 * 10000000 ∧
      gives (exec (.stretchRateWindow 155 10000000 1000000) s) .done = true ∧
      s.lockstep 155 = true ∧ gives (exec (.lockstepFallback 155 9 1000001) s) .done = true := by decide +kernel

theorem witness_ceilings_and_droops :
    (((clocked { margin := [(7, 20)] }).dieClk 155).margin = [(7, 20)]) ∧
      gives (exec (.ceilingExpiry 155 true) (clocked { margin := [(7, 20)] })) .done = true ∧
      gives (exec (.ceilingExpiry 155 false) (clocked { stretch := [(7, 20)] })) .done = true ∧
      panel.islandUp (.die 155 20) = true ∧ panel.cal 5 (3 * 155) < 1000 ∧
      gives (exec (.droopStretch 155 20 1000) panel) .done = true := by decide +kernel

/-! ### Obligations.HeatSwitchAndQuenchCommandsComplete -/

def heatOffState : State :=
  { panel with clk := { panel.clk with island := [(155 * 37 + 20, { st := 1 })] } }

theorem witness_heat_switch :
    let s := { panel with thm := { spot := [(dieSpot 155 20, { stage := 3 })] } }
    s.islandUp (.die 155 20) = true ∧ (s.spot (dieSpot 155 20)).stage = 3 ∧
      gives (exec (.heatSwitchOff 155 20) s) .done = true ∧
      heatOffState.domOn (islandDom 155 20) = true ∧ gives (exec (.heatSwitchOn 155 20) heatOffState) .done = true := by
  decide +kernel

def quenchedState (n : Nat) (s : State) : State := { s with st := .quenched, clk := { s.clk with quench := n } }

theorem witness_quench :
    panel.pins.quenchArmed = true ∧ panel.quenchable = true ∧ gives (exec (.quenchN 200) panel) .done = true ∧
      gives (exec (.quenchNHigh 200) panel) .done = true ∧ gives (exec (.quenchCmd true) panel) (.fjoco .ok []) = true ∧
      gives (exec (.quenchCmd false) panel) (.fjoco .ok []) = true ∧
      gives (exec (.readoutComplete false) (quenchedState 1 panel)) .done = true ∧
      gives (exec (.readoutComplete false) (quenchedState 1 { panel with clk := { panel.clk with dumpAsked := true } })) .done = true ∧
      gives (exec (.readoutComplete true) (quenchedState 1 panel)) .done = true ∧
      gives (exec (.quenchSramDump true) (quenchedState 3 panel)) (.fjoco .ok []) = true ∧
      gives (exec (.sramDumpComplete false) (quenchedState 4 panel)) .done = true := by decide +kernel

theorem witness_image_read :
    let s := { panel with sec := { imageKey := [1] }, clk := { panel.clk with slot0 := some [1, 2] } }
    panel.sec.imageKey.isEmpty = true ∧ gives (exec (.obsidianImage 1) panel) (.fjoco .state []) = true ∧
      s.sec.imageKey.isEmpty = false ∧ s.slotHeader 0 = some [1, 2] ∧ s.slotHeader 1 = none ∧
      gives (exec (.obsidianImage 1) s) (.fjoco .ok []) = true := by decide +kernel

/-! ### Obligations.IntactPacketsAreDelivered -/

/-- A packet of an opcode to an address, with its check values. -/
def packet (op : Byte) (dest : W64) (aux : W16) : Pkt :=
  let p : Pkt := ⟨dest, 0, 0, op, 1, 0, false, false, false, 0, true, false, false, 0, 0, 0, 0, 0, 0, aux, 0, 0, []⟩
  let q := { p with crc := pktCrc p }
  { q with headCheck := pktHead q }

/-- The packet is intact and in its place at the node, and its command completes. -/
def arrives (s : State) (node : BitVec 12) (p : Pkt) (i : Instr) : Bool :=
  pktHead p == p.headCheck && opcodeKnown p.opcode && s.namesNode node p && !s.net.void.contains (p.srcNode, p.vc, p.seq, p.dest) && pktCrc p == p.crc &&
    p.seq.toNat == tget 0 s.net.seqRx (s.rxKey node p) && (s.ok.accept node p).2.head? == some p &&
    (match exec i s with | .next _ => true | _ => false)

/-- Register 0 of the engine space of die 0. -/
def engineZero : W64 := BitVec.ofNat 64 (0x3FFF * 2 ^ 50 + 4 * 2 ^ 46)
def linked : State := { panel with fab := { linkq := [(0xFFF * 256, some (0, 0))] } }

theorem witness_packets :
    let s := panel
    let a := inCommons 0x1000
    arrives s 0 (packet 1 a 0) (.read 0 (packet 1 a 0)) = true ∧ arrives s 0 (packet 2 a 0) (.readData 0 (packet 2 a 0)) = true ∧
      arrives s 0 (packet 3 a 0) (.write 0 (packet 3 a 0)) = true ∧
      arrives s 0 (packet 4 a 0) (.writeDone 0 (packet 4 a 0)) = true ∧
      arrives s 0 (packet 5 a 0) (.token 0 (packet 5 a 0)) = true ∧
      arrives s 0 (packet 0x11 a 0) (.ringData (packet 0x11 a 0)) = true ∧
      arrives s 0 (packet 0x14 a 0) (.shardData (packet 0x14 a 0)) = true := by decide +kernel

theorem witness_link_tokens :
    linked.linkDeclared (packet 0x15 engineZero 0xFFF) = true ∧ panel.linkDeclared (packet 0x15 engineZero 0xFFF) = false ∧
      arrives linked 0 (packet 0x15 engineZero 0xFFF) (.xtoken (packet 0x15 engineZero 0xFFF)) = true ∧
      arrives panel 0 (packet 0x15 engineZero 0xFFF) (.xtoken (packet 0x15 engineZero 0xFFF)) = true ∧
      panel.pktNode (packet 0x15 engineZero 0xFFF) = 0 ∧ panel.pktNode (packet 0x11 (inCommons 0x1000) 0) = 0 ∧
      (0 : BitVec 12) ≠ nodeAway := by decide +kernel

/-! ### Obligations.NetworkCommandsComplete -/

def copyState (sends : Nat) : State := { panel with net := { copies := [⟨0, 1, 7, 0xFFFFFFFF, sends, 0, packet 1 0 0⟩] } }

theorem witness_forwarding :
    let p := packet 1 (inCommons 0) 0
    let bad := { p with headCheck := p.headCheck + 1 }
    pktHead p = p.headCheck ∧ p.mcast = false ∧ panel.exitOf 0 p = some (0, 10) ∧ pktHead bad ≠ bad.headCheck ∧
      gives (exec (.routerForward 0 p) panel) .done = true ∧ gives (exec (.routerForward 155 bad) panel) .done = true := by
  decide +kernel
theorem witness_regulators_and_copies :
    let s := { panel with net := { reg := [(155 * 24 + 7 * 3 + 2, { rate := 1000, burst := 4096, held := [packet 1 0 0] })] } }
    (tget {} s.net.reg (155 * 24 + 7 * 3 + 2)).held = [packet 1 0 0] ∧
      ((tget {} s.net.reg (155 * 24 + 7 * 3 + 2)).fillsAt (pktFlits (packet 1 0 0))).isSome = true ∧
      gives (exec (.regulatorRelease 155 7 3) s) .done = true ∧
      ((copyState 7).copyOf 0 1 7 0xFFFFFFFF).map (·.sends) = some 7 ∧
      gives (exec (.ack 0 1 7 0xFFFFFFFF) (copyState 8)) .done = true ∧
      gives (exec (.resendTimeout 0 1 7 0xFFFFFFFF) (copyState 7)) .done = true ∧
      gives (exec (.resendTimeout 0 1 7 0xFFFFFFFF) (copyState 8)) (.status .pathFault) = true := by decide +kernel

theorem witness_path_test_and_credits :
    let s := { panel with flow := { queue := [(queueKey 143 447, { decl := some ⟨0, 1, 1, false, false, false, false, 0, 0, 0, 0, 0⟩ })] } }
    recKind (mkRec 2 0 0) = 2 ∧ gives (exec (.pathTest 0 1 [mkRec 2 0 0]) panel) .done = true ∧
      (s.queue (queueKey 143 447)).decl.isSome = true ∧ gives (exec (.qcredit 143 447 5) s) .done = true := by decide +kernel

/-! ### Obligations.SyncOperationsComplete -/

/-- The address of a cell of hub 0, and a request of firmware or of context 0 for it. -/
def cellAt (k : Nat) : W64 := BitVec.ofNat 64 (0x3FFF * 2 ^ 50 + 3 * 2 ^ 46 + 0x1F0 * 2 ^ 37 + k * 8)
def syncReq (fw : Bool) (k : Nat) : SyncReq := ⟨0, 0, fw, 0, cellAt k, 0, 0⟩
def hubCell : Nat := hubCells 0 + 4095

theorem witness_sync_operations :
    let s := panel
    let r := syncReq true 4095
    r.addr.toNat % 8 = 0 ∧ s.decode r.addr = .here (.cell hubCell) ∧ ¬hubCell < hubFirst ∧ r.panel = s.srcPanel ∧
      s.syncReach r.node (s.cellNode hubCell) = true ∧ s.ownsCell r hubCell = true ∧ gives (exec (.syncRead r) s) (.word .ok 0) = true ∧
      gives (exec (.syncWrite r 5) s) (.word .ok 0) = true ∧ gives (exec (.init r 0xFFFF) s) (.word .ok 0) = true ∧
      bits 255 0 8 ≠ 0 ∧ gives (exec (.arrive r 255) s) (.word .ok 0) = true ∧
      cGen 0 ≠ bits 0xFFFF 0 16 ∧ gives (exec (.wait r 0xFFFF) s) (.word .ok 0) = true ∧
      cGen 0 = bits 0 0 16 ∧ s.waiters hubCell < waitLimit hubCell ∧ gives (exec (.wait r 0) s) .done = true ∧
      gives (exec (.fetchAdd r 0x7FFFFFFF) s) (.word .ok 0) = true ∧ gives (exec (.cas r 1) s) (.word .ok 0) = true ∧
      gives (exec (.link r 0) s) (.word .ok 0) = true ∧ s.decode (cellAt 0) = .here (.cell (hubCells 0)) ∧
      gives (exec (.link r (cellAt 0)) s) (.word .ok 0) = true ∧ gives (exec (.readLink r) s) (.word .ok 0) = true := by
  decide +kernel

theorem witness_release :
    nodeKind 0 = 0 ∧ (panel.logical (nodeIndex 0)).isSome = true ∧ nodeKind 0x401 = 2 ∧ nodeIndex 0x401 < 2 ∧
      gives (exec (.release 0 8) panel) .done = true ∧ gives (exec (.release 0x401 8) panel) .done = true := by decide +kernel

/-! ### Obligations.FabricLinkCommandsComplete -/

/-- A panel of a torus of 2 by 2 by 2, with vent die 0 as given. -/
def fabric (v : VentS) : State := { panel with dict := [(0x700002, 0x421)], fab := { vent := [(0, v)] } }
def peerUp : VentS := { st := .up, tx := 0xFF, rx := 0xFF, keyed := true }
/-- Frames on vent die 0: a credit message, a reply and a message for another panel. -/
def frameOfBody (b : FrameBody) (dest : BitVec 14) : LinkFrame := ⟨0, false, false, false, false, false, 512, dest, b, 64, true, true⟩

theorem witness_link_bring_up :
    (fabric {}).ventUsable 0 = true ∧ gives (exec (.linkEnable 0) (fabric {})) .done = true ∧
      gives (exec (.trainComplete 0 3 3) (fabric { st := .train })) .done = true ∧
      gives (exec (.trainComplete 0 1 0xFF) (fabric { st := .train })) .done = true ∧
      (let k : KeyxIn := ⟨true, 0, (fabric {}).neighbourWord 0, facing 0⟩
       k.ownerHash = (fabric {}).sec.ownerKeys.headD 0 ∧ gives (exec (.keyx 0 k) (fabric { st := .keyx })) .done = true) ∧
      gives (exec (.keyxComplete 0) (fabric { st := .keyx, keyed := true, tx := 3, rx := 3 })) .done = true ∧
      gives (exec (.keyxComplete 0) (fabric { peerUp with rekeying := true })) .done = true ∧
      gives (exec (.rekey 0) (fabric peerUp)) .done = true ∧
      gives (exec (.linkRetry 0) (fabric { st := .fault, retryAt := 9 })) .done = true := by decide +kernel

theorem witness_lane_groups :
    ((fabric peerUp).vent 0).st = .up ∧ (peerUp.groups true).toNat.testBit 7 = true ∧
      gives (exec (.laneGroupOut 0 true 7) (fabric peerUp)) .done = true ∧
      gives (exec (.groupRetrain 0 false 7 true) (fabric { peerUp with groupOut := [(false, 7, 0)] })) .done = true ∧
      gives (exec (.marginRefresh 0 []) (fabric peerUp)) .done = true ∧
      gives (exec (.credit 0 21 65536) (fabric peerUp)) .done = true ∧
      gives (exec (.linkstate 0x3FFF 5 true) panel) .done = true ∧
      panel.fab.down.length < 1024 ∧ gives (exec (.linkstate 0x3FFF 5 false) panel) .done = true := by decide +kernel

theorem witness_frames :
    let s := fabric peerUp
    let bad := { frameOfBody (.credit 0 1) 0 with fecOk := false }
    let stale := { frameOfBody (.credit 0 1) 0 with tagOk := false }
    let r : SyncReq := ⟨0, 0, false, 0, 0, 0, 0⟩
    gives (exec (.frameRx 0 bad) s) .done = true ∧ (s.vent 0).takeFrame s.now stale = none ∧
      gives (exec (.frameRx 0 stale) s) .done = true ∧
      ((s.vent 0).takeFrame s.now (frameOfBody (.credit 0 1) 0)).isSome = true ∧ isMessage (.credit 0 1) = true ∧
      gives (exec (.frameRx 0 (frameOfBody (.credit 0 1) 0)) s) .done = true ∧ s.badSource s.srcPanel = true ∧
      s.badSource 512 = false ∧ (frameOfBody (.syncResp r .ok 7) 0).destPanel = s.srcPanel ∧
      gives (exec (.frameRx 0 (frameOfBody (.syncResp r .ok 7) 0)) s) (.word .ok 7) = true ∧
      gives (exec (.frameRx 0 (frameOfBody (.syncResp r .ok 7) 1)) s) .done = true := by decide +kernel

/-! ### Obligations.GraphSwitchCommandsComplete -/

def switched (sw : SwitchSt) : State :=
  { panel with flow := { ctx := [(0, { sw := sw, key := .opened, active := 1, previous := 1, staged := 2, high := 1
                                       image := some (emptyImage 1) })] } }

theorem witness_switches :
    (switched .steady).armRefusal 0 = none ∧ (switched .halted).armRefusal 0 = none ∧
      gives (exec (.switchDrain 0) (switched .steady)) (.fjoco .ok []) = true ∧
      gives (exec (.switchFlush 0) (switched .halted)) (.fjoco .ok []) = true ∧
      gives (exec (.switchFlush 0) (switched .draining)) (.fjoco .ok []) = true ∧
      ((switched .steady).ctx 0).previous ≠ 0 ∧ gives (exec (.rollback 0) (switched .steady)) (.fjoco .ok []) = true ∧
      gives (exec (.halt 0) (switched .steady)) (.fjoco .ok []) = true ∧
      gives (exec (.resume 0) (switched .halted)) (.fjoco .ok []) = true ∧
      gives (exec (.suspend 0) (switched .halted)) (.fjoco .ok []) = true := by decide +kernel

/-- Context 0 that arms a switch of a kind. -/
def arming (k : SwKind) : State := (switched .arming).modCtx 0 (fun x => { x with kind := some k })

theorem witness_arming :
    (arming .drain).armRefusal 0 = none ∧ (((arming .drain).settleArm 0).ctx 0).sw = .draining ∧
      (((arming .flush).settleArm 0).ctx 0).sw = .flushing ∧ (((arming .rollback).settleArm 0).ctx 0).target = 1 := by
  decide +kernel

theorem witness_suspended_and_back :
    let s := switched .steady
    (let r := ((s.bcast 0).stopUnits 0).scanRegion 0 none; (r.1.scanCommit 0 r.2).2.torn) = false ∧
      (match exec (.suspend 0) s with
       | .next t => (match (t.ctx 0).suspendImg with
          | some g => (t.ctx 0).sw == .suspended && (t.scanChecks 0 g).2.isNone && gives (exec (.reinstate 0) t) (.fjoco .ok [])
          | none => false)
       | _ => false) = true := by decide +kernel

theorem witness_image_and_start :
    let s := withCtx .none
    s.imageRefusal 0 (emptyImage 1) = none ∧ gives (exec (.imageLoad 0 (emptyImage 1)) s) (.fjoco .ok []) = true ∧
      ((switched .none).ctx 0).image = some (emptyImage 1) ∧
      gives (exec (.graphStart 0) (switched .none)) (.fjoco .ok []) = true ∧
      gives (exec (.graphStart 0) { switched .none with st := .idle }) (.fjoco .ok []) = true := by decide +kernel

/-! ### Obligations.UnitAndCheckpointCommandsComplete and Obligations.UnitFiringCompletes -/

def turningState (sw : SwitchSt) (k : SwKind) : State :=
  let s := withUnit laneUnit {}
  { s with flow := { s.flow with ctx := [(0, { sw := sw, kind := some k, target := 2 })] } }

/-- A queue of 32-byte entries into an input port of a unit of die 0, and a token of epoch 0 for it. -/
def input (port : Fin 4) : QueueDecl := ⟨port, 32, 2, false, false, false, false, 0, 0, 0, 0, 0⟩
def token : Token := ⟨false, false, 0, true, 0, 0, List.replicate 32 1, false, 0⟩
def withInputs (x : UnitCfg) (st : UnitS) (full : List (Nat × List Token)) : State :=
  let s := withUnit x st
  { s with flow := { s.flow with queue := full.map (fun p => (p.1, { decl := some (input 0), slots := 2, tokens := p.2 })) } }

theorem witness_unit_switches :
    let s0 := turningState .draining .drain
    let s := s0.afterArm 0 16
    let h := (s.heads 0 0 16 laneUnit).1
    s.turning 0 16 .draining = some (0, laneUnit) ∧ h.turning 0 16 .draining = some (0, laneUnit) ∧
      drainReady (h.unit (unitKey 0 16)) laneUnit = true ∧ h.passOpen 0 16 = false ∧ h.canEnd 0 16 laneUnit = true ∧
      gives (exec (.unitDrainSwitch 0 16) s0) .done = true ∧
      ((turningState .flushing .flush).afterArm 0 16).turning 0 16 .flushing = some (0, laneUnit) ∧
      gives (exec (.unitFlush 0 16) (turningState .flushing .flush)) .done = true ∧
      gives (exec (.unitRollback 0 16) (turningState .flushing .rollback)) .done = true := by decide +kernel

def joinUnit : UnitCfg := record 16 (.lane 0 0 true) [input 0, input 3]

theorem witness_unit_commands :
    let s := withInputs joinUnit { joinSince := some 4 } [(16 * 4 + 3, [token])]
    s.live 0 16 = some (0, joinUnit) ∧ s.joinWaits 0 16 joinUnit = some (67, 64) ∧ s.yields 0 = false ∧
      gives (exec (.joinWatchdog 0 16) s) .done = true ∧
      gives (exec (.liveWriteApply 0 16) (withUnit laneUnit { joinPending := some 7 })) .done = true ∧
      gives (exec (.liveWriteApply 0 16) (withUnit laneUnit { prefetchPending := some 7 })) .done = true ∧
      gives (exec (.ctxBcast 0 16 .pause) (withUnit laneUnit {})) .done = true ∧
      gives (exec (.cfg 143 111 (.loadBuffer 1 laneUnit)) panel) .done = true ∧
      gives (exec (.cfg 143 111 (.register 255 7)) panel) .done = true := by decide +kernel

def noScan : Scan :=
  { generation := 0, flow := (.steady, 0, 0, 0), units := [], queues := [], tiles := [], spad := [], commons := []
    rings := [], cells := [], engines := [], groups := [] }

theorem witness_checkpoints :
    let s := { turningState .draining .drain with flow := { ctx := [(0, { sw := .draining })] } }
    let due := { panel with flow := { ctx := [(0, { sw := .steady, ckptDue := some 5 })] } }
    let runs := { panel with flow := { ctx := [(0, { sw := .steady, ckptRun := some (0, 0, noScan) })] } }
    s.allSwitched 0 = true ∧ gives (exec (.switchComplete 0) s) .done = true ∧
      gives (exec (.switchTimeout 0) s) .done = true ∧ ((withCtx .steady).ctx 0).restore = none ∧
      gives (exec (.checkpointDue 0) (withCtx .steady)) .done = true ∧
      gives (exec (.checkpointSkip 0) due) .done = true ∧ gives (exec (.checkpointComplete 0) runs) .done = true := by
  decide +kernel

theorem witness_firings :
    let w := record 64 .wstream []
    let src := record 32 (.source (inCommons 0) 64 0 false) []
    let port := record 64 (.ingress 4095) []
    let one := record 16 (.lane 0 0 true) [input 0]
    let fed := withInputs one {} [(64, [token])]
    let read := { withUnit src {} with eng := { commons := [(0, { seg := [(0, some (0, false))] })] } }
    let logged := { withUnit port {} with flow := { (withUnit port {}).flow with inlog := [(64, { size := 4096, records := [token] })] } }
    (withUnit w {}).behindChunk 0 64 = withUnit w {} ∧ (withUnit w {}).live 0 64 = some (0, w) ∧ gives (exec (.unitFiring 0 64) (withUnit w {})) .done = true ∧
      read.live 0 32 = some (0, src) ∧ read.canEmitAll src = true ∧ (read.sourceNext 0 0 32 src (inCommons 0) 64).2.isSome = true ∧
      gives (exec (.unitFiring 0 32) read) .done = true ∧
      logged.live 0 64 = some (0, port) ∧ (logged.logOf (unitKey 0 64)).waiting = [] ∧
      (logged.logNext 0 0 64).2 = some token ∧ logged.canEmitAll port = true ∧
      tokenFate 0 (unitRole 64 port) (logged.unit (unitKey 0 64)) { token with ctx := 0 } = .accept ∧
      gives (exec (.unitFiring 0 64) logged) .done = true ∧
      ((fed.heads 0 0 16 one).1.live 0 16).isSome = true ∧
      ((fed.heads 0 0 16 one).2.all (fun p => p.2.isSome)) = true ∧ (fed.heads 0 0 16 one).1.canEmitAll one = true ∧
      gives (exec (.unitFiring 0 16) fed) .done = true := by decide +kernel

/-- A mover, a SINK and an EGRESS port with a token each. -/
def moving (op : UnitOp) (u : Fin 112) (st : UnitS) : State :=
  let x := { record u op [input 0] with outputs := [⟨0, [(0, 4)], none⟩] }
  { withUnit x st with
    eng := { commons := [(0, { seg := [(0, some (0, false))] })] }
    flow := { (withUnit x st).flow with
      queue := [(4, { decl := some (input 0), slots := 2, credits := 2 }),
        (u.val * 4, { decl := some (input 0), slots := 2, tokens := [token] })] } }

theorem witness_mover_sink_and_egress :
    let m := moving (.mover false false) 40 {}
    let k := moving (.sink (inCommons 0x1000)) 40 {}
    let e := moving (.egress 7 engineZero 4) 64 { lqCredits := 4 }
    let g (u : Fin 112) (op : UnitOp) : UnitCfg := { record u op [input 0] with outputs := [⟨0, [(0, 4)], none⟩] }
    m.live 0 40 = some (0, g 40 (.mover false false)) ∧ m.canEmitAll (g 40 (.mover false false)) = true ∧
      gives (exec (.unitFiring 0 40) m) .done = true ∧
      (k.sinkWrite 0 0 40 (g 40 (.sink (inCommons 0x1000))) (inCommons 0x1000) token).2 = true ∧
      gives (exec (.unitFiring 0 40) k) .done = true ∧
      e.egressOpen (unitKey 0 64) = true ∧ gives (exec (.unitFiring 0 64) e) .done = true := by decide +kernel

/-! ### Obligations.ThermalCommandsComplete -/

def hotSpot (x : Spot) (y : SpotS) : State := { panel with thm := { spot := [(spotKey x, y)] } }
def sampled (l : List (Nat × W32)) : State := { panel with thm := { used := l, timeout := 0 } }

theorem witness_thermal_stages :
    (∀ x ∈ [Spot.tile 155 19, .commons 155, .stack 311, .hub 1, .vent 47],
      enters ((panel.readSpot x 10500 10500).spot (spotKey x)) (stageEnter x) ≠ [] ∧
        gives (exec (.thermalStageEnter x 10500 10500) panel) .done = true) ∧
      (let s := { hotSpot (.tile 155 19) { stage := 1, a := 9500, b := 9500 } with thm := {
          spot := [(spotKey (.tile 155 19), { stage := 1, a := 9500, b := 9500 })], lowered := [(155, 1)] } }
       (s.hotAt 155 1).any (fun k => (s.spot k).atLeast 95) = true ∧ tget 0 s.thm.lowered 155 ≠ 0 ∧
        gives (exec (.thermalStageLower 155) s) .done = true) ∧
      (∀ x ∈ [Spot.tile 155 19, .commons 155, .stack 311, .hub 1, .vent 47],
        let s := hotSpot x { stage := 1, a := 12000, b := 12000 }
        let t := s.readSpot x 2500 2500
        ((t.spot (spotKey x)).exA && (t.spot (spotKey x)).exB) = false ∧
          keeps (t.spot (spotKey x)) (stageLeave x) true < (t.spot (spotKey x)).stage ∧
          gives (exec (.thermalStageExit x 2500 2500 1000) s) .done = true) ∧
      gives (exec (.thermalStageExit (.vent 47) 2500 2500 100) (hotSpot (.vent 47) { stage := 1 })) .done = true ∧
      (let s := { panel with clk := { panel.clk with die := [(155, { thermalCeil := 29 })] } }
       s.hotAt 155 1 = [] ∧ gives (exec (.thermalCeilingRaise 155) s) .done = true) := by decide +kernel

theorem witness_sensors_and_trips :
    let x := Spot.hub 1
    gives (exec (.sensorDisagreement x 2501 2000 11) panel) .done = true ∧
      gives (exec (.sensorsAgree x 2500 2000 1000) (hotSpot x { hotter := true })) .done = true ∧
      gives (exec (.sensorExclusion x 0 (-2001)) panel) .done = true ∧
      gives (exec (.sensorExclusion x 1 15001) panel) .done = true ∧ tripLimit (.stack 311) = 10500 ∧
      gives (exec (.thermalTrip (.stack 311) 1 10500 10500 10500) panel) .done = true ∧
      gives (exec (.thermalTrip x 0 11500 11500 11500) panel) .done = true := by decide +kernel

theorem witness_coolant :
    (fle (coolantRange 0).1 0x42700001 && fle 0x42700001 (coolantRange 0).2) = false ∧
      gives (exec (.coolantSample 0 0x42700001) panel) (.fjoco .ok []) = true ∧
      (fle (coolantRange 2).1 0x43480000 && fle 0x43480000 (coolantRange 2).2) = true ∧
      gives (exec (.coolantSample 2 0x43480000) panel) (.fjoco .ok []) = true ∧
      (sampled []).thm.timeout.getLsbD 2 = false ∧ gives (exec (.coolantTimeout 2) (sampled [])) .done = true ∧
      ratF32 ((sampled [(0, 0x41F00000), (1, 0x41A00000)]).coolant 1) <
        ratF32 ((sampled [(0, 0x41F00000), (1, 0x41A00000)]).coolant 0) - 1 ∧
      gives (exec (.outletBelowInlet 10000) (sampled [(0, 0x41F00000), (1, 0x41A00000)])) .done = true ∧
      flt ((sampled [(2, 0x3F800000)]).coolant 2) 0x41A00000 = true ∧
      gives (exec (.lowFlow 1000) (sampled [(2, 0x3F800000)])) .done = true ∧
      gives (exec (.thetaUpdate 5000 10000) (sampled [])) .done = true := by decide +kernel

theorem witness_forecasts :
    let p := List.replicate 8 (66000 : W32)
    let s := { panel with thm := { forecast := p, forecastAt := 0 }, now := 1999999999 }
    gives (exec (.powerForecast p) panel) (.fjoco .ok []) = true ∧ s.now < s.thm.forecastAt + 7 * 250000000 + 250000000 ∧
      gives (exec (.forecastInterval 7 65999) s) .done = true ∧ gives (exec .forecastExpiry s) .done = true ∧
      (let t := { panel with st := .idle, dict := [(0x322002, 1)] }
       t.obj 0x3220 0x02 = 1 ∧ gives (exec (.simmerCheck [(0, 3000)] 60000) t) .done = true) := by decide +kernel

/-! ### Obligations.PowerCommandsComplete -/

def waits (w : Waiting) : State := { panel with pwr := { panel.pwr with waiting := [w] } }

theorem witness_input :
    gives (exec (.inputFault 43999 1000) panel) .done = true ∧ gives (exec (.inputFault 60001 100) panel) .done = true ∧
      gives (exec (.inputMarginal 44000) panel) .done = true ∧ gives (exec (.inputMarginal 60000) panel) .done = true ∧
      panel.currentLimit < 12301 ∧ gives (exec (.inputOvercurrent 12301 100) panel) .done = true ∧
      gives (exec (.inputFoldback 13501 10) panel) .done = true ∧
      gives (exec (.busbarImbalance 2000 0 0) panel) .done = true ∧
      gives (exec (.busbarImbalance 800 1201 1000) panel) .done = true := by decide +kernel

theorem witness_converters_and_domains :
    panel.pwr.convFailed.toNat.testBit 27 = false ∧ gives (exec (.converterFailure 13 1) panel) .done = true ∧
      panel.dieFenced 155 = false ∧ (panel.phases 155).toNat.testBit 13 = false ∧
      gives (exec (.phaseFailure 155 13) panel) .done = true ∧
      gives (exec (.powerTick ⟨54000, 100, 5000, List.replicate 14 10, List.replicate 156 100⟩) panel) .done = true ∧
      gives (exec (.switchOnSlot (List.replicate 14 0) 0) (waits ⟨.core 155, 0, false⟩)) .done = true ∧
      gives (exec (.switchOnAbandon (.core 155)) (waits ⟨.core 155, 0, false⟩)) .done = true ∧
      gives (exec (.switchOnRetry (.core 155)) (waits ⟨.core 155, 0, true⟩)) .done = true := by decide +kernel

theorem witness_fuses_and_droops :
    panel.domOn (fuseKey (.stack 311)) = true ∧ panel.domOn (fuseKey (.vent 47)) = true ∧ panel.domOn (312 + 155) = true ∧
      gives (exec (.efuseOpen (.stack 311) 21 1000) panel) .done = true ∧
      gives (exec (.efuseOpen (.stack 311) 41 200) panel) .done = true ∧
      gives (exec (.efuseOpen (.vent 47) 26 1000) panel) .done = true ∧
      gives (exec (.efuseOpen (.vent 47) 51 200) panel) .done = true ∧
      gives (exec (.shunt 155 25) panel) .done = true ∧ gives (exec (.boost 155 25) panel) .done = true ∧
      gives (exec (.boost 155 26) { panel with pwr := { panel.pwr with boostUntil := [(155, 1)] } }) .done = true ∧
      gives (exec (.resistanceUpdate 155 (List.replicate 16 500)) panel) .done = true ∧
      gives (exec (.currentLogRow 100 (List.replicate 14 10)) { panel with st := .safe }) .done = true ∧
      gives (exec (.currentLogRow 100 (List.replicate 14 10)) { panel with pwr := { panel.pwr with rowsUntil := 1 } }) .done = true ∧
      gives (exec (.minVoltageClear true) panel) (.fjoco .ok []) = true := by decide +kernel

/-! ### Obligations.HostCommandsComplete -/

def hosted (x : Site) : State := { panel with hst := { site := [(1, x)] } }

theorem witness_host_links :
    panel.siteOn 1 = true ∧ gives (exec (.hostLinkTrain 1 0) (hosted {})) .done = true ∧
      gives (exec (.hostLinkTrain 1 15) (hosted {})) .done = true ∧
      gives (exec (.hostLinkError 1 3) (hosted { link := 2, retrains := [0, 0] })) .done = true ∧
      gives (exec (.hostLinkRetry 1 15) (hosted { link := 3, downAt := 5 })) .done = true ∧
      gives (exec (.hostThermtrip 1) (hosted { link := 2 })) .done = true := by decide +kernel

theorem witness_host_accesses :
    let s := hosted { link := 2 }
    let q : HostReq := { write := true, tag := 0, addr := 0x10008, len := 4, data := [1, 0, 0, 0] }
    let r : HostReq := { write := false, tag := 9, addr := 0x10008, len := 4, data := [] }
    let add (q : HostReq) : State := s.ok.modSite 1 (fun x => { x with reqs := x.reqs ++ [q] })
    s.hostLive 1 = true ∧ (s.site 1).reqs = [] ∧ ((add q).hostServe 1 q).2.2 = some (.ok, 0) ∧
      ((add q).hostServe 1 q).2.1.write = true ∧ ((add r).hostServe 1 r).2.2 = some (.ok, 0) ∧
      ((add r).hostServe 1 r).2.1.write = false ∧
      gives (exec (.hWrite 1 1 4 0x10008 [1, 0, 0, 0]) s) (.status .ok) = true ∧
      gives (exec (.hRead 1 2 9 4 0x10008) s) (.data .ok [0x19, 0xFF, 0x0F, 0x00]) = true ∧
      gives (exec (.dpStatusRead 1 7) s) (.data .ok [0, 0, 0, 0]) = true := by decide +kernel

theorem witness_data_port :
    let s := hosted { link := 2 }
    ctrlOk 0x000FFF19 = true ∧ ctrlOk 0x00000000 = true ∧ gives (exec (.dpCtrl 1 0) s) (.status .ok) = true ∧
      gives (exec (.dpStatus 1 0x10) s) (.status .ok) = true ∧ gives (exec (.moverTail 1 7 256) s) (.status .ok) = true ∧
      gives (exec (.moverTail 1 7 257) s) (.status .ok) = true ∧ gives (exec (.moverResume 1 7) s) (.status .ok) = true ∧
      gives (exec (.moverAbort 1 7) s) (.status .ok) = true := by decide +kernel

theorem witness_mailbox :
    let s := hosted { link := 3, full := true, overrun := true, dbStatus := 0xF }
    s.sideband 1 = true ∧ s.inBusy 1 = false ∧ gives (exec (.mbInLen 1 32) s) .done = true ∧
      gives (exec (.mbInLen 1 4096) s) .done = true ∧ (s.site 1).queue = [] ∧
      gives (exec (.mbAckConsumed 1) s) .done = true ∧ gives (exec (.mbAckClearOverrun 1) s) .done = true ∧
      gives (exec (.dbStatusClear 1 0xF) s) .done = true := by decide +kernel

def moved (m : Mover) : State := hosted { link := 2, movers := [(7, m)] }
def moverDesc : MoverDesc := ⟨0, inCommons 0, 4096, 0, 0⟩

theorem witness_movers :
    let s := moved { tail := 1 }
    ((s.site 1).mover 7).ready = true ∧
      (s.site 1).moverWaits 7 = false ∧
      gives (exec (.moverPiece 1 7) s) .done = true ∧
      gives (exec (.pCpl 1 7 .ok (List.replicate 64 1)) (moved { cur := some moverDesc, inFlight := some 64 })) .done = true ∧
      gives (exec (.pCpl 1 7 .denied []) (moved { cur := some moverDesc, inFlight := some 64 })) .done = true ∧
      gives (exec (.descriptorComplete 1 7) (moved { cur := some moverDesc, moved := 4096 })) .done = true ∧
      gives (exec (.descriptorComplete 1 7) (moved { cur := some moverDesc, failed := some (.denied, 0) })) .done = true := by
  decide +kernel

/-! ### Obligations.ManagementCommandsComplete -/

def owner : Session := { channel := 3, level := .owner, rxSeq := 4 }
def managed (x : Session) : State :=
  { panel with mgmt := { session := [(1, some x)], shakes := [{ session := 2, channel := 3, nonce := 0, begun := 0 }], ports := 3 } }
def head (kind : Nat) : FHead := ⟨3, 1, kind, 1, 5, true, true⟩

theorem witness_handshake :
    let s := managed owner
    s.pwr.standby = true ∧ s.mgmt.shakes.length < 8 ∧ s.openSessions.length < 16 ∧
      gives (exec (.hello ⟨3, 1, 0, 0xFFFF, 0, true, true⟩ 0xFFFF ⟨7, List.replicate 1216 9⟩) s) .done = true ∧
      s.mgmt.shakes.any (fun k => k.session == 2 && k.channel == 3 && decide (s.now < k.begun + 2000000000)) = true ∧
      s.granted 0 .pub = some (.pub, 0, 0) ∧ gives (exec (.finish ⟨3, 1, 2, 2, 1, true, true⟩ 0 .pub) s) .done = true ∧
      gives (exec (.handshakeTimeout 2) s) .done = true := by decide +kernel

theorem witness_session_end :
    let s := managed owner
    s.session 1 = some owner ∧ s.sessionRevoked owner = false ∧ owner.rxSeq < 5 ∧
      gives (exec (.sessionClose (head 0xD)) s) .done = true ∧ gives (exec (.sessionIdle 1) s) .done = true := by decide +kernel

/-! ### Obligations.ObjectRequestsComplete -/

/-- Session 1 has a transfer of an object under way. -/
def transferring (y : Xfer) : State := managed { owner with xfer := some y }

theorem witness_object_reads :
    let s := managed owner
    let k : State := { s with sec := { imageKey := [1] } }
    let ok (s : State) (index : W16) (sub : Byte) : Bool := match exec (.fjocoRead (head 4) index sub) s with
      | .next t => (match t.answer with | .fjoco .ok _ => true | _ => false)
      | _ => false
    s.objRefusal ⟨1, .owner⟩ 0x1000 1 false [] = none ∧ objType 0x1000 1 ≠ 12 ∧ ok s 0x1000 1 = true ∧
      s.objRefusal ⟨1, .owner⟩ 0x8000 0 false [] = none ∧ objType 0x8000 0 = 12 ∧ ok s 0x8000 0 = true ∧
      s.objRefusal ⟨1, .owner⟩ 0x1200 1 false [] = none ∧ objType 0x1200 1 = 12 ∧ ok s 0x1200 1 = true ∧
      k.objRefusal ⟨1, .owner⟩ 0xA001 1 false [] = none ∧ (k.readSlot 0).2 = (.ok, []) ∧ ok k 0xA001 1 = true := by
  decide +kernel

theorem witness_object_writes :
    let s := managed owner
    s.objRefusal ⟨1, .owner⟩ 0x2242 1 true [1] = none ∧ typeBytes (objType 0x2242 1) = some 1 ∧
      s.valueOk 0x2242 1 1 = true ∧ gives (exec (.fjocoWrite (head 5) 0x2242 1 [1]) s) (.fjoco .ok []) = true ∧
      objType 0x1200 1 = 12 ∧ s.objRefusal ⟨1, .owner⟩ 0x1200 1 true (toLe 4 8) = none ∧ 8 ≤ domainMax 0x1200 ∧
      gives (exec (.fjocoWrite (head 5) 0x1200 1 (toLe 4 8)) s) (.fjoco .ok []) = true := by decide +kernel

theorem witness_segments :
    let r : Xfer := ⟨false, 0x1200, 1, List.replicate 12 5, 12, 0, false⟩
    let w : Xfer := ⟨true, 0x1200, 1, [], 8, 0, false⟩
    gives (exec (.segRead (head 6) 0x1200 1 8) (transferring r)) (.fjoco .ok (toLe 4 8 ++ [5, 5, 5, 5])) = true ∧
      gives (exec (.segWrite (head 7) 0x1200 1 0 [0, 0, 0, 0]) (transferring w)) (.fjoco .ok []) = true ∧
      gives (exec (.segAbort (head 8) 0x1200 1) (transferring w)) (.fjoco .ok []) = true ∧
      gives (exec (.segTimeout 1) (transferring w)) .done = true := by decide +kernel

/-! ### Obligations.ProcessDataCommandsComplete -/

theorem witness_rpdo :
    let p : Pdo := { owner := 1, map := [⟨0x3200, 1, 0⟩] }
    let s := { managed owner with mgmt := { (managed owner).mgmt with rpdo := [(3, p)] } }
    tget {} s.mgmt.rpdo 3 = p ∧ p.last = 0 ∧ mapBytes p.map = 4 ∧
      gives (exec (.pdoRx (head 0xB) 3 [0, 0, 0xA0, 0x41]) s) .done = true := by decide +kernel

/-- The map of one object: the panel's state. -/
def oneMap : List MapEntry := [⟨0x2000, 2, 0⟩]
theorem witness_process_data :
    let s := managed owner
    let rm : List MapEntry := [⟨0x3200, 1, 0⟩]
    gives (exec (.pdoTx 7) { s with mgmt := { s.mgmt with tpdo := [(7, { owner := 1, rate := 1, map := oneMap })] } }) .done = true ∧
      s.objRefusal ⟨1, .owner⟩ 0x1201 8 true (toLe 2 1000) = none ∧ gives (exec (.tpdoRate 1 7 0) s) (.fjoco .ok []) = true ∧
      gives (exec (.tpdoRate 1 7 1000) { s with mgmt := { s.mgmt with tpdo := [(7, { map := oneMap })] } }) (.fjoco .ok []) = true ∧
      s.objRefusal ⟨1, .owner⟩ 0x1200 8 true (mapBlob oneMap) = none ∧ mapFits .owner false oneMap = true ∧
      (mapBlob oneMap).length ≤ domainMax 0x1200 ∧ gives (exec (.tpdoMap 1 7 oneMap) s) (.fjoco .ok []) = true ∧
      s.objRefusal ⟨1, .owner⟩ 0x1210 4 true (mapBlob rm) = none ∧ mapFits .owner true rm = true ∧
      gives (exec (.rpdoMap 1 3 rm) s) (.fjoco .ok []) = true ∧ s.objRefusal ⟨1, .owner⟩ 0x1101 3 true (toLe 2 0xFFFF) = none ∧
      gives (exec (.eventMask 1 0xFFFF) s) (.fjoco .ok []) = true := by decide +kernel

/-! ### Obligations.PortAndRegisterCommandsComplete -/

theorem witness_ports_and_registers :
    let s := managed owner
    s.mgmt.ports.getLsbD 1 = true ∧ gives (exec (.fieldLinkLoss 1 true) s) .done = true ∧
      s.plcaUsed 1 = true ∧ gives (exec (.fieldLinkReturn 1 false) s) .done = true ∧
      gives (exec (.fieldLinkReturn 1 true) panel) .done = true ∧
      gives (exec (.fieldLinkLoss 1 false) { s with mgmt := { s.mgmt with ports := 15 } }) .done = true ∧
      gives (exec (.neighborDiscovery 1 true (eui64 0)) panel) .done = true ∧
      s.objRefusal ⟨0, .owner⟩ 0x2242 1 true [1] = none ∧
      gives (exec (.registerWrite (.object .owner 0x2242 1) [1]) s) (.fjoco .ok []) = true ∧
      (hosted { link := 3 }).sideband 1 = true ∧ gives (exec (.registerWrite (.mailbox 1 4) [0, 0, 0, 0]) (hosted { link := 3 })) .done = true ∧
      gives (exec (.registerWrite (.hub 1 0x10008) [0, 0, 0, 0]) panel) (.status .ok) = true ∧
      gives (exec (.registerWrite (.engine 0 0 0x0A) [3]) (ringState { ctx := some 0 })) (.status .ok) = true := by
  decide +kernel

/-! ### Obligations.SecurityCommandsComplete -/

def sig (k : BitVec 256) : SigBlock := ⟨k, true, true, true⟩
def owned (n : Nat) : State :=
  { panel with sec := { owned := true, ownerKeys := ([0x11, 0x22, 0x33, 0x44].take n), imageKey := [], vendor := [(1, 0x99), (2, 0x98)] } }
def ownerHead : OwnerHead := ⟨true, 1, 1, 0x11, sig 0x11⟩
/-- Context 31 with its key state. -/
def keyed (k : KeySt) : State :=
  let s := owned 1
  { s with flow := { ctx := [(31, { key := k, offerNonce := some 7, cms := some 1 })] } }

theorem witness_root_and_entropy :
    let s := { panel with sec := { entropy := [0], root := 1 } }
    gives (exec (.rootTakeover 10) panel) .done = true ∧ gives (exec .rootLost s) .done = true ∧
      gives (exec (.entropyFailure 1) panel) .done = true ∧ gives (exec (.entropyFailure 1) s) .done = true := by decide +kernel

theorem witness_owner_records :
    let s := owned 3
    (panel.sec.owned = false ∧ sigUnder (sig 0x11) 0x11 = true ∧ panel.serial64 = 1 ∧
      gives (exec (.ownerClaim ⟨true, 1, 0, 0x11, sig 0x11⟩) panel) (.fjoco .ok []) = true) ∧
      s.recordOk ownerHead false = true ∧ s.recordOk ownerHead true = true ∧
      s.recordOk { ownerHead with serial := 0 } true = true ∧ s.recordOk { ownerHead with serial := 0 } false = false ∧
      gives (exec (.ownerRelease ownerHead) s) (.fjoco .ok []) = true ∧
      gives (exec (.updateApprove ownerHead 1 5) s) (.fjoco .ok []) = true ∧
      gives (exec (.keyAdd ownerHead 0x44) s) (.fjoco .ok []) = true ∧ (s.ownerKey 0x22).isSome = true ∧
      gives (exec (.keyRemove ownerHead 0x22) s) (.fjoco .ok []) = true ∧
      gives (exec (.keyPrimary ownerHead 0x33) s) (.fjoco .ok []) = true ∧
      gives (exec (.imageKey ownerHead (List.replicate 1216 0)) s) (.fjoco .ok []) = true ∧
      gives (exec (.operatorGeneration ownerHead 0xFFFFFFFF) s) (.fjoco .ok []) = true := by decide +kernel

theorem witness_revocation_and_token :
    let s := owned 1
    let r : Revoke := ⟨true, 1, 2, 0, 0x98, sig 0x98⟩
    s.revocable r = true ∧ r.keyHash = tget 0 s.sec.vendor r.signer.toNat ∧ r.serial = 0 ∧
      gives (exec (.revocation r) s) (.fjoco .ok []) = true ∧
      s.byOwner 0x11 (sig 0x11) = true ∧ s.sec.challenge = 0 ∧
      gives (exec (.debugToken ⟨true, 7, 1, 0, 0x11, sig 0x11⟩) s) (.fjoco .ok []) = true ∧
      gives (exec (.attestRequest 1 .pub 0 0 0) s) (.fjoco .ok []) = true ∧
      gives (exec (.attestRequest 1 .operator 0 1 31) (keyed .opened)) (.fjoco .ok []) = true := by decide +kernel

theorem witness_context_keys :
    let a : Accept := ⟨true, 31, false, 1, 7, 0x11, [], [], sig 0x11⟩
    let k : KeyLoad := ⟨true, 31, 7, 1, true, 5⟩
    gives (exec (.offer 31) (keyed .closed)) (.fjoco .ok []) = true ∧
      gives (exec (.offer 31) (keyed .offered)) (.fjoco .ok []) = true ∧
      gives (exec (.offerExpiry 31) (keyed .offered)) .done = true ∧ (keyed .offered).acceptOk 31 a = true ∧
      gives (exec (.ctxAccept 31 a) (keyed .offered)) (.fjoco .ok []) = true ∧
      tget none ((keyed .opened).ctx 31).slots 7 = none ∧ gives (exec (.ctxKeyLoad 31 k) (keyed .opened)) (.fjoco .ok []) = true ∧
      gives (exec (.close 31) (keyed .offered)) (.fjoco .ok []) = true ∧
      gives (exec (.close 31) (keyed .opened)) (.fjoco .ok []) = true ∧
      gives (exec (.closeComplete 31) (keyed .closing)) .done = true := by decide +kernel

/-! ### Obligations.ShardCommandsComplete -/

def shardEntry : ShardEntry := ⟨0, 1, 128, 0xFFFC000000000000, 0, true⟩
def manifest : Manifest := ⟨1, 9, 1, 0x11, true, [shardEntry], sig 0x11⟩
def sharded (x : ShardS) : State :=
  let s := owned 1
  { s with flow := { ctx := [(0, { key := .opened, manifest := some manifest, shards := [(0, x)]
                                   held := [(0, 3, none)] })] }
           stk := { stack := [(0, { owner := [(0, 0)] }), (311, { zeroising := [63] })] } }

theorem witness_manifest :
    let s := { sharded {} with flow := { ctx := [(0, { key := .opened })] } }
    (s.ctx 0).runs = false ∧ s.ownerSig manifest.keyId manifest.sig = true ∧ s.manifestOk 0 manifest = true ∧
      gives (exec (.shardManifest 0 manifest) s) (.fjoco .ok []) = true ∧
      gives (exec (.fill 0) (sharded {})) (.fjoco .ok []) = true ∧ gives (exec (.abandon 0) (sharded {})) (.fjoco .ok []) = true := by
  decide +kernel

theorem witness_shards :
    let s := sharded { want := true }
    let f := sharded { st := .filling, got := 128 }
    (s.ctx 0).entry 0 = some shardEntry ∧ s.fillsRun = true ∧ s.shardPlace 0 shardEntry = (0, 0) ∧ s.fillsOn 0 0 = 0 ∧
      s.shardOpen 0 0 4096 = true ∧ gives (exec (.fillAttempt 0 0) s) .done = true ∧
      gives (exec (.fillWritten 0 0) f) .done = true ∧ gives (exec (.fillAttemptTimeout 0 0) f) .done = true ∧
      gives (exec (.shardVerifyDone 0 0) (sharded { st := .verifying })) .done = true ∧
      ((sharded { st := .valid }).ctx 0).sealed 0 = true ∧
      gives (exec (.digestPatrol 0 0) (sharded { st := .valid })) .done = true ∧
      gives (exec (.shardWaitLimit 0 0) s) .done = true ∧ gives (exec (.shardReq 0 9 0 0 4096 0 0) s) .done = true ∧
      s.stackBad 311 = false ∧ gives (exec (.scrub 311) s) .done = true ∧
      gives (exec (.stackBankZeroise 311 63) s) .done = true := by decide +kernel

/-! ### Obligations.StartAndUpdateCommandsComplete -/

def quiet : StartIn := ⟨[], [], [], [], [], [], false, [], []⟩
def starting (st : PState) (n : Nat) (k : StartKind) : State :=
  { panel with st := st, boot := { start := some ⟨k, n, quiet⟩, running := .start }, thm := { timeout := 0, used := [] } }
def updating : State := { panel with st := .updating, sec := { vendor := [(1, 0x99)] }, boot := { fw := [(2, { st := 1 })] } }

theorem witness_starts :
    let off := { panel with st := .off, pwr := { inputMv := 48000, inputDa := 0 }, dict := [(0x200006, 1)] }
    let held := { off with pins := { rstHeld := true } }
    off.coldOk = true ∧ off.boot.running = .none ∧ off.obj 0x2000 0x06 = 1 ∧
      held.coldOk = true ∧ (starting .boot 4 .cold).coolantOk = true ∧
      gives (exec (.warmStart quiet) panel) (.fjoco .ok []) = true ∧
      gives (exec (.startStepTimeout 4 quiet) (starting .boot 4 .cold)) .done = true ∧
      (starting .boot 6 .trial).boot.start = some ⟨.trial, 6, quiet⟩ ∧
      updating.boot.fw.any (fun p => p.2.st == 1) = true ∧
      (starting .boot 7 .cold).boot.start = some ⟨.cold, 7, quiet⟩ := by decide +kernel

theorem witness_reset_pin_and_firmware_load :
    let s := starting .boot 5 .cold
    gives (exec (.panelRstNHeld 1000000) panel) .done = true ∧ s.dieFenced 155 = false ∧
      gives (exec (.fwLoad 155 (2 ^ 26 - 2) [1, 2] true) s) .done = true := by decide +kernel

def calWrite : CalWrite := ⟨calLength, true, 1, 10, 1, calDirectory, List.replicate 10 []⟩

theorem witness_panel_commands :
    let s := { panel with st := .idle, thm := { timeout := 0, used := [(0, 0x41F00000), (2, 0x42C80000)] } }
    s.calReady = true ∧ gives (exec .selftest s) (.fjoco .ok []) = true ∧ gives (exec .calibrate s) (.fjoco .ok []) = true ∧
      gives (exec .update s) (.fjoco .ok []) = true ∧ gives (exec .powerOff s) (.fjoco .ok []) = true ∧
      gives (exec (.enterSafe none) s) (.fjoco .ok []) = true ∧ s.obj 0xA000 0x03 ≠ 1 ∧
      gives (exec (.enterSafe (some 0x2010)) s) .done = true ∧
      gives (exec (.selftestComplete ⟨[], []⟩ 0) { s with st := .selftest, boot := { running := .selftest } }) .done = true ∧
      gives (exec (.calibrateComplete (List.replicate 10 []) []) { s with st := .selftest, boot := { running := .calibrate } })
        .done = true ∧
      gives (exec (.fieldDefectsClear true) s) (.fjoco .ok []) = true ∧
      gives (exec (.countersClear .mgmt true) s) (.fjoco .ok []) = true := by decide +kernel

theorem witness_cal_write :
    (∀ c, (panel.ctx c).runs = false) ∧ calOk calWrite.values = true ∧
      gives (exec (.calTableWrite calWrite) panel) (.fjoco .ok []) = true := by decide +kernel

theorem witness_update :
    let img : FwImage := ⟨1, 1, 2, 64, 67108864, 0, true, 0x99, sig 0x99⟩
    updating.components.contains 1 = true ∧ updating.fwCheck img = none ∧
      gives (exec (.fwStage img) updating) (.fjoco .ok []) = true ∧ gives (exec .discard updating) (.fjoco .ok []) = true := by
  decide +kernel

/-! ### Obligations.RecoveryCommandsComplete -/

def restored (r : Restore) : State :=
  { panel with flow := { ctx := [(0, { sw := .steady, paused := true, restore := some r, area0 := some noScan })] } }
def newRestore : Restore := ⟨1, 0, 0, 155, 0, false, 0, 0, false, false, []⟩
def missed (r : Rec) : State := { panel with recov := r }

theorem witness_heartbeats :
    panel.tileTested 155 19 = true ∧ gives (exec (.tileHeartbeatMiss 155 19) panel) .done = true ∧ panel.watches = true ∧
      panel.dieBad 155 = false ∧ tget 0 (missed { dieMiss := [(155, 2)] }).recov.dieMiss 155 = 2 ∧
      gives (exec (.dieHeartbeatMiss 155) (missed { dieMiss := [(155, 2)] })) .done = true ∧
      gives (exec (.dieProbeResult 155 false) (missed { probing := [(155, 3, false)] })) .done = true ∧
      panel.stackBad 311 = false ∧ gives (exec (.sinterHeartbeatMiss 311) panel) .done = true := by decide +kernel

theorem witness_failures :
    panel.tileBad 155 19 = false ∧ panel.isDormant 155 = false ∧ panel.isDormant 12 = true ∧
      gives (exec (.tileFailure 155 19) panel) .done = true ∧ gives (exec (.dieFailure 155) panel) .done = true ∧
      gives (exec (.dormantDieFailure 12) panel) .done = true ∧ gives (exec (.stackLoss 311) panel) .done = true ∧
      gives (exec (.dieProbeResult 155 true) (missed { probing := [(155, 3, false)] })) .done = true := by decide +kernel

theorem witness_restores :
    let s := restored newRestore
    s.regionOff 0 = false ∧ (s.ctx 0).newest = some noScan ∧ (s.scanChecks 0 noScan).2 = none ∧ gives (exec (.regionRestore 0) s) .done = true ∧
      gives (exec (.regionResume 0 true) (restored { newRestore with scanned := true })) .done = true ∧
      gives (exec (.caughtUp 0) (restored { newRestore with scanned := true, resumed := true, goals := [(0, 0)] })) .done = true ∧
      gives (exec (.recoveryBudgetExpiry 0) s) .done = true := by decide +kernel

def migrating (banks : List Nat) : State := missed { migrations := [⟨12, 0, 311, 1, banks, 0, 0, false⟩] }

theorem witness_migrations :
    let s := { panel with anat := { panel.anat with orphans := [(12, 0)] } }
    s.anat.orphans.find? (fun p => p.1 == 12) = some (12, 0) ∧ s.phys 0 = some 0 ∧ s.restoring 0 = false ∧
      [0, 1].filterMap (s.newMigration 12 0 0) ≠ [] ∧ gives (exec (.migrationStart 12) s) .done = true ∧
      ((migrating [63]).stackBankSt 311 63).shut = false ∧ ((migrating [63]).stackBankSt 1 63).shut = false ∧
      gives (exec (.migrationCopy 311) (migrating [63])) .done = true ∧
      gives (exec (.migrationDestFail 311) (migrating [63])) .done = true ∧
      (∀ c : CtxId, ((migrating []).ctx c).kind = none) ∧ gives (exec (.relocation 311) (migrating [])) .done = true := by
  decide +kernel

theorem witness_margins_and_log :
    let s := { missed { shadowState := 1, sums := [(63, 9, 0, List.replicate 64 0)] } with dict := [(0x210006, 1)] }
    gives (exec .marginSummary panel) .done = true ∧ s.shadow = true ∧ s.recov.shadowState ≠ 0 ∧
      gives (exec (.shadowCompare 63 9 0 (List.replicate 64 0)) s) .done = true ∧
      gives (exec (.alertAck true) panel) (.fjoco .ok []) = true ∧
      gives (exec (.faultLogClear false) panel) (.fjoco .ok []) = true := by decide +kernel

/-! ### Obligations.PinCommandsComplete and Obligations.SparseStreamCommandsComplete -/

theorem witness_pins :
    panel.pwr.standby = true ∧ standbyPresent 40000 0 0 = true ∧ standbyPresent 39999 39999 39999 = false ∧
      gives (exec (.standbyLoss 40000 0 0) panel) .done = true ∧
      gives (exec (.standbyLoss 39999 39999 39999) panel) .done = true ∧
      gives (exec (.standbyPowerReturn 0 0 40000) { panel with pwr := { standby := false } }) .done = true ∧
      gives (exec (.testPortAccess .reset) panel) .done = true ∧
      gives (exec (.testPortAccess (.shiftDr [true])) { panel with pins := { tap := .bypass } }) .done = true ∧
      panel.tapOpen = false ∧ panel.pins.tap = .idcode := by decide +kernel

/-- A settle port of a layer of 64 outputs, with a list of a kind that names output 63. -/
def settleUnit : UnitCfg := { record 64 .wstream [input 0] with layer := some selectLayer }
def slToken (kind : Byte) : Token :=
  { token with payload := toLe 2 0 ++ [kind, 1] ++ toLe 4 0 ++ toLe 2 63 ++ List.replicate 54 0 }
def settleState (kind : Byte) : State := withInputs settleUnit {} [(256, [slToken kind])]

theorem witness_settle_ports :
    (∀ k ∈ [(0 : Byte), 1, 2], (match ((settleState k).streamHead 0 64).2 with
      | .token _ _ _ _ t => t == slToken k && slKind t.payload == k.toNat
      | _ => false) = true) ∧
      gives (exec (.settle 0 64) (settleState 0)) .done = true ∧ gives (exec (.hint 0 64) (settleState 1)) .done = true ∧
      gives (exec (.groupEnd 0 64) (settleState 2)) .done = true := by decide +kernel

theorem witness_dispatch :
    let s := withUnit bitmapUnit {}
    bitmapUnit.sparse.map (·.arr) = some 2 ∧ s.live 0 0 = some (0, bitmapUnit) ∧
      ([[(0, (5 : W16))]].map (roundEntries (nextSpan ((s.tile 0).arr 0).disp))).all (fun l => decide (l.length ≤ 1024)) = true ∧
      gives (exec (.dispatchSpan 0 0 0 [[(0, 5)]]) s) .done = true := by decide +kernel

/-! ### The queue, the invariant and the frames -/

theorem witness_queue :
    let s := { panel with pending := [.alertAck true, .selftest] }
    s.pending = .alertAck true :: [.selftest] ∧ panel.pending = [] ∧ panel.memWf = true ∧ State.reset.memWf = true ∧
      (match step s with | .next t => decide (t.pending = [.selftest]) | _ => false) = true ∧
      (match step panel with | .next t => decide (t.now = 1) | _ => false) = true := by decide +kernel

theorem witness_fault :
    let s := { panel with pins := { tap := .other }, sec := { debug := 1 } }
    s.pwr.standby = true ∧ s.tapOpen = true ∧
      (match exec (.testPortAccess (.shiftDr [])) s with | .fault f => decide (f = .testRegister) | _ => false) = true := by decide +kernel

/-- One command of each shape, which answers a next state. -/
theorem witness_shapes :
    (frameOf (.ringResume 0 0 0 0)).1 = .tileWork ∧ (frameOf (.halt 0)).1 = .contextWork ∧
      (frameOf (.keyAdd ownerHead 0)).1 = .trust ∧ (frameOf (.linkstate 0 0 true)).1 = .netWork ∧
      (frameOf (.coolantSample 0 0)).1 = .clockWork ∧ (frameOf (.shunt 0 0)).1 = .powerWork ∧
      (frameOf (.mbAckConsumed 0)).1 = .hostWork ∧ (frameOf (.alertAck true)).1 = .panelWork ∧
      (frameOf (.unitFiring 0 0)).1 = .traffic ∧ (frameOf .powerOff).1 = .panelReach := by decide +kernel

/-! ### The functional statements -/

/-- An arrival that reaches its target fires the cell of its own accord, and one with a parent sends to it (R298). -/
theorem witness_arrivals :
    let w := cWord 5 3 false 2
    let s : State := { panel with net := { cells := [(hubCell, { word := w, waiters := [(syncReq true 4095, 0)] })] } }
    let t := { panel with net := { cells := [(hubCell, { word := w, link := cellAt 0 })] } }
    cTarget w ≠ 0 ∧ cTarget w ≤ (cValue w + 1) ∧ cPending w = false ∧
      ((s.arriveCell hubCell 1).cell hubCell).word = cWord 6 3 false 0 ∧
      ((t.arriveCell hubCell 1).cell hubCell).word = cWord 5 3 true 0 ∧
      ((t.arriveCell hubCell 255).cell hubCell).word = cWord 5 3 true 254 := by decide +kernel

theorem witness_target_step :
    panel.st ≠ .safe ∧ panel.stepReady 155 = true ∧ (panel.dieClk 155).step ≠ panel.targetStep 155 ∧
      8 ≤ panel.targetStep 155 ∧ panel.targetStep 155 ≤ 30 := by decide +kernel

theorem witness_alert_and_log :
    let e : LogEntry := { fault := true, code := 0x2010, ctx := 0xFF, loc := 1, time := 0, logged := 5 }
    let s := { panel with log := { main := [{ e with logged := 4 }] } }
    panel.pwr.standby = true ∧ foldsInto e { e with logged := 4 } = true ∧
      foldsInto { e with logged := 1000000004 } { e with logged := 4 } = false ∧
      foldsInto { e with logged := 1000000003 } { e with logged := 4 } = true ∧
      (s.logEntry e).log.main = [{ e with logged := 4, repeats := 1 }] := by decide +kernel

theorem witness_held_boot :
    let s := { panel with boot := {} }
    s.pwr.standby = true ∧ s.boot.running = .none ∧ s.coldOk = true ∧ s.sec.uds0 = s.sec.uds1 ∧ s.trialSet = false ∧
      (s.loadComponent 2).2 = false ∧
      { s with st := .boot, boot := { start := some ⟨.cold, 2, quiet⟩ } }.alertN = true ∧
      { s with st := .boot, boot := { start := some ⟨.cold, 4, quiet⟩ } }.alertN = false := by decide +kernel

theorem witness_counters :
    ((panel.count .mgmt 3 0x0C 0xFFFFFFFF).count .mgmt 3 0x0C 5).ctr .mgmt 3 0x0C = 0xFFFFFFFF ∧
      ctrKey .mgmt 3 0x08 ≠ ctrKey .mgmt 3 0x0C := by decide +kernel

theorem witness_cal_table :
    let s := { panel with boot := { running := .selftest } }
    s.boot.running ≠ .none ∧ gives (exec (.calTableWrite calWrite) s) (.fjoco .busy []) = true ∧
      ((withCtx .steady).ctx 0).runs = true ∧ gives (exec (.calTableWrite calWrite) (withCtx .steady)) (.fjoco .busy []) = true ∧
      gives (exec (.calTableWrite { calWrite with version := 2 }) panel) (.fjoco .range []) = true := by decide +kernel

theorem witness_panel_command_states :
    let s := { panel with st := .off, boot := { running := .start } }
    gives (exec (.coldStart quiet) s) (.fjoco .busy []) = true ∧ State.reset.coldOk = false ∧
      gives (exec (.coldStart quiet) State.reset) (.fjoco .state []) = true ∧
      gives (exec .powerOff State.reset) (.fjoco .state []) = true ∧
      ((withCtx .none).ctx 0).key ≠ .closed ∧
      gives (exec .calibrate { withCtx .none with st := .idle }) (.fjoco .state []) = true ∧
      gives (exec .update panel) (.fjoco .state []) = true := by decide +kernel

theorem witness_banks :
    let w := fwReq 12 (2 ^ 22 - 8) eight 8
    let r := fwReq 3 (31 * 128) [] 8
    panel.tileKey 0 0 = some 0 ∧ roundRobin 0 13 (atBank 13 32 (2 ^ 22) 31 [w, r]) = some r ∧
      roundRobin 4 13 (atBank 13 32 (2 ^ 22) 31 [w, r]) = some w ∧ roundRobin 0 13 (atBank 13 32 (2 ^ 22) 30 [w, r]) = none ∧
      roundRobin 0 20 (atBank 20 64 (2 ^ 25) 63 [fwReq 19 (2 ^ 25 - 8) eight 8]) = some (fwReq 19 (2 ^ 25 - 8) eight 8) ∧
      (panel.tile 0).bad = [] ∧ (panel.tile 0).weak = [] ∧ (panel.commons 0).bad = [] ∧
      (let q := panel.spadArrive 0 0 0 (atBank 13 32 (2 ^ 22) 31 [w, r])
       roundRobin (tget 0 (q.tile 0).bankPtr 31) 13 (tget [] (q.tile 0).bankWait 31) = some r) ∧
      (tget BankSt.open ((bankAt (.closed .off)).tile 0).banks 31).shut = true ∧
      tget [] ((bankAt (.closed .off)).tile 0).bankWait 31 = [] ∧ atBank 13 32 (2 ^ 22) 31 [w, r] ≠ [] ∧
      gives (exec (.scratchpadAccess 0 0 31 [w, r]) (bankAt (.closed .off))) (.status .bankClosed) = true := by decide +kernel

theorem witness_replays_and_owners :
    let s := owned 3
    { ownerHead with sequence := 0 }.sequence ≤ s.sec.sequence ∧
      gives (exec (.keyAdd { ownerHead with sequence := 0 } 0x44) s) (.fjoco .range []) = true ∧
      panel.syncReach (syncReq false 0).node (panel.cellNode (hubCells 0)) = true ∧
      panel.ownsCell (syncReq false 0) (hubCells 0) = false ∧ (syncReq false 0).panel = panel.srcPanel ∧
      gives (exec (.syncRead (syncReq false 0)) panel) (.word .notOwned 0) = true ∧
      panel.siteOn 1 = true ∧ (panel.site 1).link ≠ 4 ∧ gives (exec (.hostThermtrip 1) panel) .done = true := by decide +kernel

theorem witness_quench_pin :
    gives (exec (.quenchN 199) panel) .turnedAway = true ∧ gives (exec (.quenchN 200) panel) .done = true ∧
      ¬(State.reset.pins.quenchArmed = true ∧ State.reset.quenchable = true) ∧
      gives (exec (.quenchNHigh 199) panel) .done = true := by decide +kernel

/-! ### Ill-formed commands -/

def okPkt : Pkt := packet 3 0 0

/-- Each check of Instr.wf refuses a command at the value after its bound, and takes the one at its bound. -/
theorem test_ill_formed_starts_and_tiles :
    Instr.wf (.fwLoad 0 (2 ^ 26) [1] true) = false ∧ Instr.wf (.fwLoad 0 (2 ^ 26 - 1) [1] true) = true ∧
      Instr.wf (.selftestComplete ⟨[0xA0000000], []⟩ 0) = false ∧ Instr.wf (.selftestComplete ⟨[0x9FFFFFFF], []⟩ 0) = true ∧
      Instr.wf (.calibrateComplete [[]] []) = false ∧ Instr.wf (.calibrateComplete (List.replicate 10 []) [0xA0000000]) = false ∧
      Instr.wf (.arrayRound 0 0 0 0 16384) = false ∧ Instr.wf (.arrayRound 0 0 0 0 16383) = true ∧
      Instr.wf (.stagingFill 0 0 0 0 (List.replicate 65 0) (0, 0)) = false ∧
      Instr.wf (.dispatchSpan 0 0 0 (List.replicate 65 [])) = false := by decide +kernel

theorem test_ill_formed_requests :
    Instr.wf (.scratchpadAccess 0 0 0 [fwReq 13 0 [] 8]) = false ∧ Instr.wf (.scratchpadAccess 0 0 0 [fwReq 12 0 [] 8]) = true ∧
      Instr.wf (.scratchpadAccess 0 0 0 [fwReq 0 0 [] 0]) = false ∧ Instr.wf (.scratchpadAccess 0 0 0 [fwReq 0 0 [] 129]) = false ∧
      Instr.wf (.scratchpadAccess 0 0 0 [fwReq 0 0 [1] 2]) = false ∧
      Instr.wf (.scratchpadAccess 0 0 0 [{ fwReq 0 0 [] 2 with data := [1] }]) = false ∧
      Instr.wf (.commonsAccess 0 0 [fwReq 20 0 [] 8]) = false ∧ Instr.wf (.commonsAccess 0 0 [fwReq 19 0 [] 8]) = true := by
  decide +kernel

theorem test_ill_formed_packets :
    let short := { okPkt with payload := [1], length := 2 }
    let long := { okPkt with length := 4097 }
    (∀ p ∈ [short, long], Instr.wf (.read 0 p) = false ∧ Instr.wf (.readData 0 p) = false ∧ Instr.wf (.write 0 p) = false ∧
      Instr.wf (.writeDone 0 p) = false ∧ Instr.wf (.token 0 p) = false ∧ Instr.wf (.routerForward 0 p) = false ∧
      Instr.wf (.ringData p) = false ∧ Instr.wf (.shardData p) = false ∧ Instr.wf (.xtoken p) = false) ∧
      Instr.wf (.write 0 { okPkt with payload := [1], length := 1 }) = true := by decide +kernel

theorem test_ill_formed_rest :
    Instr.wf (.pathTest 0 0 [0xA0000000]) = false ∧
      Instr.wf (.marginRefresh 0 (List.replicate 33 ⟨0, 0, 0, 0, 0, 0⟩)) = false ∧
      Instr.wf (.replicaWindow (.hub 0 0) 256) = false ∧ Instr.wf (.switchOnSlot [] 0) = false ∧
      Instr.wf (.powerTick ⟨0, 0, 0, [], []⟩) = false ∧
      Instr.wf (.hello ⟨3, 1, 0, 1, 0, true, true⟩ 1 ⟨0, []⟩) = false ∧
      Instr.wf (.powerTick ⟨0, 0, 0, List.replicate 14 0, List.replicate 155 0⟩) = false ∧
      Instr.wf (.currentLogRow 0 []) = false ∧ Instr.wf (.simmerCheck (List.replicate 157 (0, 0)) 0) = false ∧
      Instr.wf (.segWrite ⟨0, 0, 0, 0, 0, true, true⟩ 0 0 0 (List.replicate 4065 0)) = false ∧
      Instr.wf (.shadowCompare 0 0 0 []) = false := by decide +kernel

end Sys2Proof.Tests
end

/-! PROOF. The sync cells (R295–R298): the fields of a cell word, what sending a message leaves alone, and what a firing, an
arrival and a release do to every cell and to the messages sent. -/

namespace Sys2Proof.Machine

/-! ### The fields of a cell word (R295) -/

theorem b2n_le_one (b : Bool) : b2n b ≤ 1 := by
  cases b <;> simp [b2n]

theorem toNat_cWord (g t v : Nat) (p : Bool) :
    (cWord g t p v).toNat = g % 2 ^ 16 * 2 ^ 48 + t % 2 ^ 16 * 2 ^ 32 + b2n p * 2 ^ 31 + v % 2 ^ 31 := by
  have hp := b2n_le_one p
  rw [cWord, BitVec.toNat_ofNat, Nat.mod_eq_of_lt]
  omega

@[simp] theorem cGen_cWord (g t v : Nat) (p : Bool) : cGen (cWord g t p v) = g % 2 ^ 16 := by
  have hp := b2n_le_one p
  rw [cGen, bits, toNat_cWord]
  omega

@[simp] theorem cTarget_cWord (g t v : Nat) (p : Bool) : cTarget (cWord g t p v) = t % 2 ^ 16 := by
  have hp := b2n_le_one p
  rw [cTarget, bits, toNat_cWord]
  omega

@[simp] theorem cValue_cWord (g t v : Nat) (p : Bool) : cValue (cWord g t p v) = v % 2 ^ 31 := by
  rw [cValue, bits, toNat_cWord]
  omega

@[simp] theorem cPending_cWord (g t v : Nat) (p : Bool) : cPending (cWord g t p v) = p := by
  rw [cPending, Nat.testBit_eq_decide_div_mod_eq, toNat_cWord]
  cases p
  · simp only [b2n, decide_eq_false_iff_not, Bool.false_eq_true, if_false]
    omega
  · simp only [b2n, decide_eq_true_eq, if_true]
    omega

@[simp] theorem cWord_mod_gen (g t v : Nat) (p : Bool) : cWord (g % 2 ^ 16) t p v = cWord g t p v := by
  simp [cWord]

@[simp] theorem cWord_succ_mod_gen (g t v : Nat) (p : Bool) : cWord (g % 2 ^ 16 + 1) t p v = cWord (g + 1) t p v := by
  simp [cWord]

@[simp] theorem cWord_mod_target (g t v : Nat) (p : Bool) : cWord g (t % 2 ^ 16) p v = cWord g t p v := by
  simp [cWord]

@[simp] theorem cWord_mod_value (g t v : Nat) (p : Bool) : cWord g t p (v % 2 ^ 31) = cWord g t p v := by
  simp [cWord]

/-! ### What an operation on cells never changes -/

/-- The objects of t are those of s, and no message that s has sent is taken back. -/
structure KeepsSent (s t : State) : Prop where
  dict : t.dict = s.dict
  sent : s.sent ⊆ t.sent

theorem KeepsSent.refl (s : State) : KeepsSent s s := ⟨rfl, fun _ h => h⟩

theorem KeepsSent.trans {s t u : State} (a : KeepsSent s t) (b : KeepsSent t u) : KeepsSent s u :=
  ⟨b.dict.trans a.dict, fun _ h => b.sent (a.sent h)⟩

theorem KeepsSent.coord {s t : State} (h : KeepsSent s t) : t.coord = s.coord := by
  simp only [State.coord, State.obj, h.dict]

theorem KeepsSent.dims {s t : State} (h : KeepsSent s t) : t.dims = s.dims := by
  simp only [State.dims, State.obj, h.dict]

theorem KeepsSent.srcPanel {s t : State} (h : KeepsSent s t) : t.srcPanel = s.srcPanel := by
  rw [State.srcPanel, State.srcPanel, h.coord]

/-- An address means the same as long as the objects stay. -/
theorem KeepsSent.decode {s t : State} (h : KeepsSent s t) (a : W64) : t.decode a = s.decode a := by
  unfold State.decode State.isHere
  rw [h.coord, h.dims]

theorem keepsSent_send (s : State) (m : Msg) : KeepsSent s (s.send m) := ⟨rfl, List.subset_cons_self _ _⟩

theorem keepsSent_modCell (s : State) (k : Nat) (f : Cell → Cell) : KeepsSent s (s.modCell k f) := ⟨rfl, fun _ h => h⟩

/-- t differs from s only where sending differs: besides KeepsSent, the networks with their cells are those of s. -/
structure Sends (s t : State) : Prop extends KeepsSent s t where
  net : t.net = s.net

theorem Sends.refl (s : State) : Sends s s := ⟨.refl s, rfl⟩

theorem Sends.trans {s t u : State} (a : Sends s t) (b : Sends t u) : Sends s u :=
  ⟨a.toKeepsSent.trans b.toKeepsSent, b.net.trans a.net⟩

theorem Sends.cell {s t : State} (h : Sends s t) (k : Nat) : t.cell k = s.cell k := by
  simp only [State.cell, h.net]

theorem sends_send (s : State) (m : Msg) : Sends s (s.send m) := ⟨keepsSent_send s m, rfl⟩

theorem sends_count (s : State) (k : CtrSet) (r o n : Nat) : Sends s (s.count k r o n) := ⟨⟨rfl, fun _ h => h⟩, rfl⟩

theorem sends_modVent (s : State) (v : Nat) (f : VentS → VentS) : Sends s (s.modVent v f) := ⟨⟨rfl, fun _ h => h⟩, rfl⟩

theorem sends_countHigh (s : State) (k : CtrSet) (r o n : Nat) : Sends s (s.countHigh k r o n) := by
  unfold State.countHigh
  dsimp only
  split <;> exact ⟨⟨rfl, fun _ h => h⟩, rfl⟩

theorem sends_putFrame (s : State) (v : Nat) (dl : Bool) (src dest : BitVec 14) (b : FrameBody) :
    Sends s (s.putFrame v dl src dest b) :=
  (((sends_modVent _ _ _).trans (sends_count _ _ _ _ _)).trans (sends_countHigh _ _ _ _ _)).trans (sends_send _ _)

theorem sends_sendFrame (s : State) (v : Nat) (dl : Bool) (src dest : BitVec 14) (b : FrameBody) :
    Sends s (s.sendFrame v dl src dest b) := by
  unfold State.sendFrame
  dsimp only
  split
  · exact sends_putFrame _ _ _ _ _ _
  · split
    · exact (sends_modVent _ _ _).trans (sends_putFrame _ _ _ _ _ _)
    · exact (sends_modVent _ _ _).trans (sends_count _ _ _ _ _)

theorem sends_fabricOut (s : State) (die : Nat) (dest : W64) (b : FrameBody) : Sends s (s.fabricOut die dest b) := by
  unfold State.fabricOut
  dsimp only
  split
  · exact .refl s
  · split
    · exact sends_sendFrame _ _ _ _ _ _
    · exact .refl s

theorem sends_syncReply (s : State) (r : SyncReq) (st : Status) (w : W64) : Sends s (s.syncReply r st w) := by
  unfold State.syncReply
  split
  · exact sends_send _ _
  · exact sends_fabricOut _ _ _ _

theorem sends_countSync (s : State) (k off : Nat) : Sends s (s.countSync k off) := by
  unfold State.countSync
  split
  · exact sends_count _ _ _ _ _
  · exact .refl s

/-- A request of this panel is answered over its own networks. -/
theorem mem_sent_syncReply (s : State) (r : SyncReq) (st : Status) (w : W64) (h : r.panel = s.srcPanel) :
    .sync r.node r.seq st w ∈ (s.syncReply r st w).sent := by
  simp [State.syncReply, h]

/-! ### Firing (R298) -/

/-- The answers of a firing: OK and the new word to each waiter, in the order of their WAITs (R568). -/
def State.answerWaiters (s : State) (w : W64) (l : List (SyncReq × W64)) : State :=
  l.foldl (fun (s : State) q => s.syncReply q.1 .ok w) s

theorem sends_answerWaiters (s : State) (w : W64) (l : List (SyncReq × W64)) : Sends s (s.answerWaiters w l) := by
  induction l generalizing s with
  | nil => exact .refl s
  | cons q l ih => exact (sends_syncReply s q.1 .ok w).trans (ih _)

theorem mem_sent_answerWaiters (s : State) (w : W64) (l : List (SyncReq × W64)) (q : SyncReq × W64) (hq : q ∈ l)
    (hp : q.1.panel = s.srcPanel) : .sync q.1.node q.1.seq .ok w ∈ (s.answerWaiters w l).sent := by
  induction l generalizing s with
  | nil => simp at hq
  | cons a l ih =>
    have ha : Sends s (s.syncReply a.1 .ok w) := sends_syncReply s a.1 .ok w
    rcases List.mem_cons.mp hq with rfl | hq
    · exact (sends_answerWaiters _ w l).sent (mem_sent_syncReply s q.1 .ok w hp)
    · exact ih (s.syncReply a.1 .ok w) hq (hp.trans ha.srcPanel.symm)

/-- The word of a cell that fires. -/
def firedWord (w : W64) : W64 := cWord (cGen w + 1) (cTarget w) (cPending w) (cValue w)

@[simp] theorem firedWord_cWord (g t v : Nat) (p : Bool) : firedWord (cWord g t p v) = cWord (g + 1) t p v := by
  simp only [firedWord, cGen_cWord, cTarget_cWord, cPending_cWord, cValue_cWord, cWord_succ_mod_gen, cWord_mod_target,
    cWord_mod_value]

theorem fireCell_eq (s : State) (k : Nat) :
    s.fireCell k = ((s.answerWaiters (firedWord (s.cell k).word) (s.cell k).waiters).modCell k
      (fun x => { x with word := firedWord (s.cell k).word, waiters := [] })).send (.release (cellAddr k)) := rfl

theorem cell_fireCell (s : State) (k j : Nat) :
    (s.fireCell k).cell j =
      if j = k then { s.cell k with word := firedWord (s.cell k).word, waiters := [] } else s.cell j := by
  have h := (sends_answerWaiters s (firedWord (s.cell k).word) (s.cell k).waiters).cell
  rw [fireCell_eq, State.cell_of_send, State.cell_modCell, h, h]

theorem keepsSent_fireCell (s : State) (k : Nat) : KeepsSent s (s.fireCell k) :=
  ((sends_answerWaiters _ _ _).toKeepsSent.trans (keepsSent_modCell _ _ _)).trans (keepsSent_send _ _)

theorem release_mem_sent_fireCell (s : State) (k : Nat) : .release (cellAddr k) ∈ (s.fireCell k).sent := by
  simp [fireCell_eq]

theorem answer_mem_sent_fireCell (s : State) (k : Nat) (q : SyncReq × W64) (hq : q ∈ (s.cell k).waiters)
    (hp : q.1.panel = s.srcPanel) :
    .sync q.1.node q.1.seq .ok (firedWord (s.cell k).word) ∈ (s.fireCell k).sent := by
  rw [fireCell_eq]
  exact List.mem_cons_of_mem _ (mem_sent_answerWaiters s _ _ q hq hp)

/-- A cell takes a word and fires. -/
def State.fireWith (s : State) (k : Nat) (w : W64) : State := (s.modCell k (fun x => { x with word := w })).fireCell k

theorem cell_fireWith (s : State) (k j : Nat) (w : W64) :
    (s.fireWith k w).cell j = if j = k then { s.cell k with word := firedWord w, waiters := [] } else s.cell j := by
  by_cases h : j = k <;> simp [State.fireWith, cell_fireCell, State.cell_modCell, h]

theorem keepsSent_fireWith (s : State) (k : Nat) (w : W64) : KeepsSent s (s.fireWith k w) :=
  (keepsSent_modCell s k _).trans (keepsSent_fireCell _ k)

theorem answer_mem_sent_fireWith (s : State) (k : Nat) (w : W64) (q : SyncReq × W64) (hq : q ∈ (s.cell k).waiters)
    (hp : q.1.panel = s.srcPanel) : .sync q.1.node q.1.seq .ok (firedWord w) ∈ (s.fireWith k w).sent := by
  have h := answer_mem_sent_fireCell (s.modCell k (fun x => { x with word := w })) k q
  simp only [State.cell_modCell, if_true] at h
  exact h hq hp

/-! ### Arrivals (R298) -/

/-- The value of a cell with word w after n more arrivals. -/
def arrivedValue (w : W64) (n : Nat) : Nat := (cValue w + n) % 2 ^ 31

/-- n more arrivals bring a cell with word w to its target, and none is pending. -/
def Completes (w : W64) (n : Nat) : Prop := cTarget w ≠ 0 ∧ cTarget w ≤ arrivedValue w n ∧ cPending w = false

/-- The word of a cell that n arrivals have brought to its target, taken off. -/
def completedWord (w : W64) (n : Nat) (pending : Bool) : W64 :=
  cWord (cGen w) (cTarget w) pending (arrivedValue w n - cTarget w)

/-- The word of a cell that n arrivals have not brought to its target. -/
def countedWord (w : W64) (n : Nat) : W64 := cWord (cGen w) (cTarget w) (cPending w) (arrivedValue w n)

theorem arriveCell_root (s : State) (k n : Nat) (hc : Completes (s.cell k).word n) (hl : (s.cell k).link = 0) :
    s.arriveCell k n = s.fireWith k (completedWord (s.cell k).word n false) := by
  obtain ⟨ht, hv, hp⟩ := hc
  simp only [arrivedValue] at hv
  simp only [State.arriveCell, State.fireWith, completedWord, arrivedValue, ht, hv, hp, hl, cGen_cWord, cWord_mod_gen, ne_eq,
    not_false_eq_true, Bool.not_false, and_self, if_true]

theorem arriveCell_child (s : State) (k n : Nat) (hc : Completes (s.cell k).word n) (hl : (s.cell k).link ≠ 0) :
    s.arriveCell k n = (s.modCell k (fun x => { x with word := completedWord (s.cell k).word n true })).send
      (.arrive (s.cell k).link 1) := by
  obtain ⟨ht, hv, hp⟩ := hc
  simp only [arrivedValue] at hv
  simp only [State.arriveCell, completedWord, arrivedValue, ht, hv, hp, hl, cGen_cWord, cWord_mod_gen, ne_eq,
    not_false_eq_true, Bool.not_false, and_self, if_true, if_false]

theorem arriveCell_short (s : State) (k n : Nat) (hc : ¬Completes (s.cell k).word n) :
    s.arriveCell k n = s.modCell k (fun x => { x with word := countedWord (s.cell k).word n }) := by
  have hc' : ¬(cTarget (s.cell k).word ≠ 0 ∧ cTarget (s.cell k).word ≤ (cValue (s.cell k).word + n) % 2 ^ 31 ∧
      (!cPending (s.cell k).word) = true) := by simpa only [Completes, arrivedValue, Bool.not_eq_true'] using hc
  simp only [State.arriveCell, if_neg hc', countedWord, arrivedValue]

/-- An arrival at a cell leaves every other cell alone. -/
theorem cell_arriveCell_other (s : State) (k n j : Nat) (hj : j ≠ k) : (s.arriveCell k n).cell j = s.cell j := by
  by_cases hc : Completes (s.cell k).word n
  · by_cases hl : (s.cell k).link = 0
    · simp [arriveCell_root s k n hc hl, cell_fireWith, hj]
    · simp [arriveCell_child s k n hc hl, State.cell_modCell, hj]
  · simp [arriveCell_short s k n hc, State.cell_modCell, hj]

/-- What an arrival does to cells depends on its cell alone. -/
theorem cell_arriveCell_congr {s t : State} (k n j : Nat) (h : ∀ j, t.cell j = s.cell j) :
    (t.arriveCell k n).cell j = (s.arriveCell k n).cell j := by
  have hk := h k
  by_cases hc : Completes (s.cell k).word n
  · by_cases hl : (s.cell k).link = 0
    · rw [arriveCell_root s k n hc hl, arriveCell_root t k n (hk ▸ hc) (hk ▸ hl), cell_fireWith, cell_fireWith, hk, h j]
    · rw [arriveCell_child s k n hc hl, arriveCell_child t k n (hk ▸ hc) (hk ▸ hl), State.cell_of_send, State.cell_of_send,
        State.cell_modCell, State.cell_modCell, hk, h j]
  · rw [arriveCell_short s k n hc, arriveCell_short t k n (hk ▸ hc), State.cell_modCell, State.cell_modCell, hk, h j]

/-! ### ARRIVE as a command (R297) -/

/-- ARRIVE of this panel at a cell that it reaches and owns counts the operation and makes the arrival. -/
theorem syncServe_arrive (s : State) (r : SyncReq) (v : W64) (k : Nat) (ha : r.addr.toNat % 8 = 0)
    (hd : s.decode r.addr = .here (.cell k)) (hdie : k < hubFirst → (s.cellDie k).isSome) (hp : r.panel = s.srcPanel)
    (hr : s.syncReach r.node (s.cellNode k) = true) (ho : s.ownsCell r k = true) (hn : bits v.toNat 0 8 ≠ 0) :
    s.syncServe r 3 v = syncArrive v k (s.countSync k 0x30) := by
  have hserved : ¬(k < hubFirst ∧ s.cellDie k = none) := by
    rintro ⟨hk, hnone⟩
    simpa [hnone] using hdie hk
  have hlog : (s.countSync k 0x30).logSync r 3 k v = s.countSync k 0x30 := by
    have hp' : r.panel = (s.countSync k 0x30).srcPanel := hp.trans (sends_countSync s k 0x30).srcPanel.symm
    simp [State.logSync, hp']
  simp [State.syncServe, State.syncOp, State.syncOperandOk, ha, hd, hserved, hp, hr, ho, hn, hlog]

theorem arrive_serves (s : State) (r : SyncReq) (v : W64) (k : Nat) (ha : r.addr.toNat % 8 = 0)
    (hd : s.decode r.addr = .here (.cell k)) (hdie : k < hubFirst → (s.cellDie k).isSome) (hp : r.panel = s.srcPanel)
    (hr : s.syncReach r.node (s.cellNode k) = true) (ho : s.ownsCell r k = true) (hn : bits v.toNat 0 8 ≠ 0) :
    ∃ s', exec (.arrive r v) s = .next s' ∧ s'.answer = .word .ok (s.cell k).word ∧
      ∀ j, s'.cell j = (s.arriveCell k (bits v.toNat 0 8)).cell j := by
  have hcount := (sends_countSync s k 0x30).cell
  have hcmd : s.syncCmd r 3 v = syncAnswer r (syncArrive v k (s.countSync k 0x30)) := by
    simp only [State.syncCmd, hd, syncServe_arrive s r v k ha hd hdie hp hr ho hn]
  refine ⟨s.syncCmd r 3 v, rfl, ?_, fun j => ?_⟩
  · simp only [hcmd, syncAnswer, syncArrive, before, hcount]
  · rw [hcmd]
    exact ((sends_syncReply _ _ _ _).cell j).trans (cell_arriveCell_congr k _ j hcount)

/-! ### RELEASE (R298) -/

/-- A cell with parent p, in any form of its address, whose arrival is pending. -/
def State.pendingChild (s : State) (p : W64) (k : Nat) : Bool :=
  decide ((s.cell k).link ≠ 0 ∧ s.decode (s.cell k).link = s.decode p ∧ cPending (s.cell k).word = true)

/-- RELEASE(p) at one cell: a pending child of p is pending no more and fires. -/
def State.releaseCell (s : State) (p : W64) (k : Nat) : State :=
  if s.pendingChild p k then
    s.fireWith k (cWord (cGen (s.cell k).word) (cTarget (s.cell k).word) false (cValue (s.cell k).word))
  else s

/-- A cell that its parent's RELEASE has fired. -/
def Cell.released (x : Cell) : Cell :=
  { x with word := cWord (cGen x.word + 1) (cTarget x.word) false (cValue x.word), waiters := [] }

theorem modCell_congr (s : State) (k : Nat) (f g : Cell → Cell) (h : f (s.cell k) = g (s.cell k)) :
    s.modCell k f = s.modCell k g := by
  simp only [State.modCell, tmod]
  rw [show f (tget {} s.net.cells k) = g (tget {} s.net.cells k) from h]

/-- The model's RELEASE is RELEASE at one cell of the die or hub after another. -/
theorem releaseAt_eq (s : State) (first n : Nat) (p : W64) :
    s.releaseAt first n p = (List.range' first n).foldl (fun (s : State) k => s.releaseCell p k) s := by
  unfold State.releaseAt
  congr 1
  funext s k
  simp only [State.releaseCell, State.pendingChild, State.fireWith, decide_eq_true_eq]
  split
  · exact congrArg (State.fireCell · k) (modCell_congr s k _ _ rfl)
  · rfl

theorem cell_releaseCell (s : State) (p : W64) (k j : Nat) :
    (s.releaseCell p k).cell j = if j = k ∧ s.pendingChild p k = true then (s.cell k).released else s.cell j := by
  by_cases hc : s.pendingChild p k = true <;> simp [State.releaseCell, hc, cell_fireWith, Cell.released]

theorem keepsSent_releaseCell (s : State) (p : W64) (k : Nat) : KeepsSent s (s.releaseCell p k) := by
  unfold State.releaseCell
  split
  · exact keepsSent_fireWith s k _
  · exact .refl s

theorem release_mem_sent_releaseCell (s : State) (p : W64) (k : Nat) (hc : s.pendingChild p k = true) :
    .release (cellAddr k) ∈ (s.releaseCell p k).sent := by
  simp only [State.releaseCell, hc, if_true]
  exact release_mem_sent_fireCell _ k

theorem pendingChild_releaseCell_other (s : State) (p : W64) (k j : Nat) (hj : j ≠ k) :
    (s.releaseCell p k).pendingChild p j = s.pendingChild p j := by
  simp only [State.pendingChild, cell_releaseCell, hj, false_and, if_false, (keepsSent_releaseCell s p k).decode]

/-- RELEASE(p) at one cell of a list after another. -/
def State.releaseCells (s : State) (p : W64) (l : List Nat) : State := l.foldl (fun (s : State) k => s.releaseCell p k) s

theorem keepsSent_releaseCells (s : State) (p : W64) (l : List Nat) : KeepsSent s (s.releaseCells p l) := by
  induction l generalizing s with
  | nil => exact .refl s
  | cons k l ih => exact (keepsSent_releaseCell s p k).trans (ih _)

/-- Over distinct cells, what RELEASE(p) does to each is what it does to that cell alone. -/
theorem cell_releaseCells (s : State) (p : W64) (l : List Nat) (hl : l.Nodup) (j : Nat) :
    (s.releaseCells p l).cell j = if j ∈ l ∧ s.pendingChild p j = true then (s.cell j).released else s.cell j := by
  induction l generalizing s with
  | nil => simp [State.releaseCells]
  | cons k l ih =>
    obtain ⟨hk, hl⟩ := List.nodup_cons.mp hl
    have hstep : s.releaseCells p (k :: l) = (s.releaseCell p k).releaseCells p l := rfl
    rw [hstep, ih _ hl]
    by_cases hj : j = k
    · subst hj
      simp [hk, cell_releaseCell]
    · simp [hj, pendingChild_releaseCell_other, cell_releaseCell]

theorem release_mem_sent_releaseCells (s : State) (p : W64) (l : List Nat) (hl : l.Nodup) (j : Nat) (hj : j ∈ l)
    (hc : s.pendingChild p j = true) : .release (cellAddr j) ∈ (s.releaseCells p l).sent := by
  induction l generalizing s with
  | nil => simp at hj
  | cons k l ih =>
    obtain ⟨hk, hl⟩ := List.nodup_cons.mp hl
    rcases List.mem_cons.mp hj with rfl | hj
    · exact (keepsSent_releaseCells _ p l).sent (release_mem_sent_releaseCell s p j hc)
    · have hne : j ≠ k := fun e => hk (e ▸ hj)
      exact ih _ hl hj (by rw [pendingChild_releaseCell_other s p k j hne, hc])

/-- RELEASE at a node runs over the cells of its die or hub. -/
theorem exec_release (s : State) (node : BitVec 12) (p : W64) (first n : Nat)
    (h : (∃ l, nodeKind node = 0 ∧ s.logical (nodeIndex node) = some l ∧ first = dieCells l.val ∧ n = 512) ∨
      (nodeKind node = 2 ∧ nodeIndex node < 2 ∧ first = hubCells (nodeIndex node) ∧ n = 4096)) :
    exec (.release node p) s = .next (s.releaseCells p (List.range' first n)).ok := by
  have hexec : exec (.release node p) s = execRelease node p s := rfl
  rw [hexec, State.releaseCells, ← releaseAt_eq]
  rcases h with ⟨l, hk, hl, rfl, rfl⟩ | ⟨hk, hi, rfl, rfl⟩
  · simp only [execRelease, hk, hl]
  · simp only [execRelease, hk, hi, if_true]

/-! ### The procedure of R298 -/

/-- Settles O45: an arrival has three outcomes (arriveCell_root, arriveCell_child, arriveCell_short), ARRIVE is one such
arrival, and RELEASE runs over distinct cells, each of which fires or not by itself. -/
theorem arriveAndReleaseFollowTheProcedure : Obligations.ArriveAndReleaseFollowTheProcedure := by
  unfold Obligations.ArriveAndReleaseFollowTheProcedure
  refine fun s => ⟨fun k n => ⟨fun hc hl => ?root, fun hc hl => ?child, fun hc => ?short,
    fun j hj => cell_arriveCell_other s k n j hj⟩, arrive_serves s, fun node p first n hn => ?release⟩
  case root =>
    have hw : firedWord (completedWord (s.cell k).word n false) = _ := firedWord_cWord _ _ _ _
    rw [arriveCell_root s k n hc hl]
    refine ⟨by rw [cell_fireWith, if_pos rfl, hw]; rfl, release_mem_sent_fireCell _ k, fun q hq hp => ?_⟩
    have hsent := answer_mem_sent_fireWith s k (completedWord (s.cell k).word n false) q hq hp
    rwa [hw] at hsent
  case child =>
    rw [arriveCell_child s k n hc hl]
    exact ⟨by rw [State.cell_of_send, State.cell_modCell, if_pos rfl]; rfl, rfl⟩
  case short =>
    rw [arriveCell_short s k n hc]
    exact ⟨by rw [State.cell_modCell, if_pos rfl]; rfl, rfl⟩
  case release =>
    have hnd : (List.range' first n).Nodup := List.nodup_range'
    refine ⟨_, exec_release s node p first n hn, rfl, fun k => ?_⟩
    have hcell := cell_releaseCells s p _ hnd k
    dsimp only
    split
    next hk =>
      obtain ⟨hlo, hhi, hc⟩ := hk
      have hmem : k ∈ List.range' first n := List.mem_range'_1.mpr ⟨hlo, hhi⟩
      have hpc : s.pendingChild p k = true := decide_eq_true hc
      exact ⟨hcell.trans (if_pos ⟨hmem, hpc⟩), release_mem_sent_releaseCells s p _ hnd k hmem hpc⟩
    next hk =>
      refine hcell.trans (if_neg fun ⟨hmem, hpc⟩ => hk ?_)
      obtain ⟨hlo, hhi⟩ := List.mem_range'_1.mp hmem
      exact ⟨hlo, hhi, of_decide_eq_true hpc⟩

end Sys2Proof.Machine

/-! PROOF. The step of a die (R347, R348): its target is the least of its ceilings, bounded below; the bits of
step_ceiling_source; and what a sequence leaves of the clocks. -/

namespace Sys2Proof.Machine

/-! ### Words of bits -/

theorem bitWord_succ (n : Nat) (f : Nat → Bool) : bitWord (n + 1) f = bitWord n f + if f n then 2 ^ n else 0 :=
  List.sum_range_succ _ n

theorem bitWord_lt (n : Nat) (f : Nat → Bool) : bitWord n f < 2 ^ n := by
  induction n with
  | zero => simp [bitWord]
  | succ n ih =>
    rw [bitWord_succ, Nat.pow_succ]
    split <;> omega

theorem testBit_bitWord (n : Nat) (f : Nat → Bool) (i : Nat) (hi : i < n) : (bitWord n f).testBit i = f i := by
  induction n with
  | zero => omega
  | succ n ih =>
    have htop : (bitWord n f).testBit n = false := Nat.testBit_lt_two_pow (bitWord_lt n f)
    rw [bitWord_succ]
    rcases Nat.lt_succ_iff_lt_or_eq.mp hi with hi | rfl
    · split
      · rw [Nat.add_comm, Nat.testBit_two_pow_add_gt hi, ih hi]
      · exact ih hi
    · split
      next hf => rw [Nat.add_comm, Nat.testBit_two_pow_add_eq, htop, hf]; rfl
      next hf => rw [Nat.add_zero, htop, Bool.eq_false_of_not_eq_true hf]

/-! ### The lowest ceiling (R347) -/

/-- A fold of min from 30 is the least of 30 and the list. -/
theorem foldl_min_mem_and_le (l : List Nat) : l.foldl min 30 ∈ 30 :: l ∧ ∀ x ∈ 30 :: l, l.foldl min 30 ≤ x :=
  List.min?_eq_some_iff.mp List.min?_cons'

theorem lowest_le (l : List (Nat × Nat)) : lowest l ≤ 30 := by
  have h : lowest l = (l.map (·.2)).foldl min 30 := List.foldl_map.symm
  rw [h]
  exact (foldl_min_mem_and_le _).2 30 List.mem_cons_self

/-- The lowest of a die's ceilings. -/
def State.lowestCeiling (s : State) (d : Nat) : Nat := (s.ceilings d).foldl min 30

theorem lowestCeiling_le (s : State) (d x : Nat) (hx : x ∈ s.ceilings d) : s.lowestCeiling d ≤ x :=
  (foldl_min_mem_and_le _).2 x (List.mem_cons_of_mem _ hx)

/-- The start value 30 of the fold is no eighth ceiling: the stretch ceiling is at most 30 (lowest_le). -/
theorem lowestCeiling_mem (s : State) (d : Nat) : s.lowestCeiling d ∈ s.ceilings d := by
  have hstretch : lowest (s.dieClk d).stretch ∈ s.ceilings d := by simp [State.ceilings]
  rcases List.mem_cons.mp (foldl_min_mem_and_le (s.ceilings d)).1 with h30 | hmem
  · have heq : s.lowestCeiling d = lowest (s.dieClk d).stretch :=
      (lowestCeiling_le s d _ hstretch).antisymm (le_of_le_of_eq (lowest_le _) h30.symm)
    exact heq ▸ hstretch
  · exact hmem

theorem targetStep_of_safe (s : State) (d : Nat) (h : s.st = .safe) : s.targetStep d = 8 := if_pos h

theorem targetStep_of_not_safe (s : State) (d : Nat) (h : s.st ≠ .safe) : s.targetStep d = max 8 (s.lowestCeiling d) :=
  if_neg h

theorem eight_le_targetStep (s : State) (d : Nat) : 8 ≤ s.targetStep d := by
  by_cases h : s.st = .safe
  · exact (targetStep_of_safe s d h).ge
  · exact (le_max_left _ _).trans_eq (targetStep_of_not_safe s d h).symm

theorem targetStep_le (s : State) (d x : Nat) (h : s.st ≠ .safe) (hx : x ∈ s.ceilings d) : s.targetStep d ≤ max 8 x := by
  rw [targetStep_of_not_safe s d h]
  exact max_le_max_left 8 (lowestCeiling_le s d x hx)

theorem targetStep_floor_or_mem (s : State) (d : Nat) (h : s.st ≠ .safe) :
    (∃ x ∈ s.ceilings d, x ≤ 8) ∧ s.targetStep d = 8 ∨ s.targetStep d ∈ s.ceilings d := by
  have hmem := lowestCeiling_mem s d
  rw [targetStep_of_not_safe s d h]
  rcases le_total (s.lowestCeiling d) 8 with hle | hge
  · exact .inl ⟨⟨_, hmem, hle⟩, max_eq_left hle⟩
  · exact .inr (by rwa [max_eq_right hge])

/-! ### step_ceiling_source (R347) -/

theorem ceilingSource_eq_bitWord (s : State) (d : Nat) :
    s.ceilingSource d =
      bitWord 7 (fun i => decide (s.lowestCeiling d < 30 ∧ (s.ceilings d).getD i 30 ≤ s.lowestCeiling d)) := by
  simp [State.ceilingSource, bitWord, State.lowestCeiling]

theorem testBit_ceilingSource (s : State) (d i : Nat) (hi : i < 7) (h : ∃ x ∈ s.ceilings d, x < 30) :
    (s.ceilingSource d).testBit i = true ↔ ∀ x ∈ s.ceilings d, (s.ceilings d).getD i 30 ≤ x := by
  obtain ⟨x, hx, hx30⟩ := h
  have hlt : s.lowestCeiling d < 30 := (lowestCeiling_le s d x hx).trans_lt hx30
  rw [ceilingSource_eq_bitWord, testBit_bitWord _ _ i hi, decide_eq_true_eq]
  exact ⟨fun ⟨_, hle⟩ y hy => hle.trans (lowestCeiling_le s d y hy), fun hall => ⟨hlt, hall _ (lowestCeiling_mem s d)⟩⟩

/-! ### A sequence of R348 -/

/-- A graph pause counts cycles of units and changes nothing else. -/
theorem told_pauseDie (s : State) (d ns : Nat) : Told s (s.pauseDie d ns) := by
  unfold State.pauseDie
  split
  · exact .refl s
  · refine Told.foldl _ (fun t p => ?_) _ s
    split
    · exact told_count t _ _ _ _
    · exact .refl t

@[simp] theorem dieClk_pauseDie (s : State) (d ns e : Nat) : (s.pauseDie d ns).dieClk e = s.dieClk e := by
  rw [State.dieClk, (told_pauseDie s d ns).clk]
  rfl

/-- The state after a sequence: the die is 4 steps nearer to its target, and the sequence is counted. -/
def State.changeStep (s : State) (d ns : Nat) : State :=
  (((s.pauseDie d ns).modDieClk d (fun x => { x with step := stepToward4 (s.dieClk d).step (s.targetStep d) })).count
    .clock d 0x00 1).countMax .clock d 0x04 ns

theorem exec_stepChange (s : State) (d : Die) (ns : Nat) (hr : s.stepReady d.val = true)
    (ht : (s.dieClk d.val).step ≠ s.targetStep d.val) (hns : ns ≤ 20000) :
    exec (.stepChange d ns) s = .next (s.changeStep d.val ns).ok :=
  congrArg Host.Outcome.next (if_pos ⟨hr, ht, hns⟩)

theorem dieClk_changeStep (s : State) (d ns e : Nat) :
    (s.changeStep d ns).dieClk e =
      if e = d then { s.dieClk d with step := stepToward4 (s.dieClk d).step (s.targetStep d) } else s.dieClk e := by
  simp only [State.changeStep, State.dieClk_of_countMax, State.dieClk_of_count, State.dieClk_modDieClk, dieClk_pauseDie]

/-! ### The target step of a die -/

/-- Settles O46: the fold of the model is the least ceiling (lowestCeiling_mem, lowestCeiling_le), which the target step and
the source bits compare with; a sequence writes the step of its own die alone (dieClk_changeStep). -/
theorem targetStepIsTheLowestCeiling : Obligations.TargetStepIsTheLowestCeiling := by
  unfold Obligations.TargetStepIsTheLowestCeiling
  refine fun s d => ⟨targetStep_of_safe s d.val, rfl, eight_le_targetStep s d.val,
    fun hs => ⟨fun x => targetStep_le s d.val x hs, targetStep_floor_or_mem s d.val hs⟩,
    fun h i => testBit_ceilingSource s d.val i.val i.isLt h, rfl, rfl, fun ns hr ht hns => ?sequence⟩
  case sequence =>
    refine ⟨_, exec_stepChange s d ns hr ht hns, ?own, fun e he => ?other⟩
    case own => rw [State.dieClk_of_ok, dieClk_changeStep, if_pos rfl]
    case other => rw [State.dieClk_of_ok, dieClk_changeStep, if_neg he]

end Sys2Proof.Machine

/-! PROOF. Starts and the keys of contexts (R428, R498): the clearing at the head of a start empties every context and the
stacks' contents, and nothing that a start does after it touches the keys of a context or a byte of a stack. -/

namespace Sys2Proof.Machine

/-! ### Reading what is not listed -/

/-- An entry under a key that the table does not list reads as the default, whatever the order of the keys. -/
theorem tget_of_forall_ne {V : Type} (d : V) (t : Tbl V) {i : Nat} (h : ∀ e ∈ t, e.1 ≠ i) : tget d t i = d := by
  induction t with
  | nil => rfl
  | cons e t ih =>
    obtain ⟨he, ht⟩ := List.forall_mem_cons.1 h
    rw [tget, if_neg he.symm, ih ht, ite_self]

/-- Of a table whose every entry is mapped, a projection that the map keeps reads as before. -/
theorem tget_tmap_proj {V W : Type} (d : V) (f : Nat → V → V) (g : V → W) (h : ∀ k v, g (f k v) = g v) (t : Tbl V)
    (i : Nat) : g (tget d (tmap f t) i) = g (tget d t i) := by
  induction t with
  | nil => rfl
  | cons e t ih =>
    obtain ⟨k, v⟩ := e
    rw [tmap, tget, tget]
    split
    · rfl
    · split
      · exact h k v
      · exact ih

/-- A byte whose address a filter turns down reads zero of what the filter leaves. -/
theorem byteAt_filter_of_false (m : List Host.Cell) (p : Nat → Bool) {a : Nat} (h : p a = false) :
    byteAt (m.filter (fun e => p e.1)) a = 0 := by
  refine tget_of_forall_ne _ _ fun e he hea => ?_
  have hp : p e.1 = true := (List.mem_filter.1 he).2
  rw [hea, h] at hp
  exact Bool.false_ne_true hp

/-! ### What keeps the keys of contexts and the bytes of the stacks -/

/-- The key state of a context, its master secret, its payload keys and the stacks that hold its keys (R425, R427). -/
def CtxS.keyring (x : CtxS) : KeySt × Option (BitVec 256) × Tbl (Option (BitVec 256 × W32)) × List Nat :=
  (x.key, x.cms, x.slots, x.stackKeys)

/-- From s to t no context gains, loses or changes a key, and no byte of a stack changes. -/
structure KeepsKeys (s t : State) : Prop where
  stackMem : t.stackMem = s.stackMem
  keyring : ∀ c, (t.ctx c).keyring = (s.ctx c).keyring

theorem KeepsKeys.refl (s : State) : KeepsKeys s s := ⟨rfl, fun _ => rfl⟩

theorem KeepsKeys.trans {s t u : State} (a : KeepsKeys s t) (b : KeepsKeys t u) : KeepsKeys s u :=
  ⟨b.stackMem.trans a.stackMem, fun c => (b.keyring c).trans (a.keyring c)⟩

/-- What leaves the table of contexts and the stacks' bytes as they are keeps the keys. -/
theorem KeepsKeys.of_eq {s t : State} (hm : t.stackMem = s.stackMem) (hc : t.flow.ctx = s.flow.ctx) : KeepsKeys s t :=
  ⟨hm, fun c => by rw [State.ctx, State.ctx, hc]⟩

/-- A record update of other parts of the state keeps the keys. The two equations are asked for at reducible transparency:
they hold by the shape of the update, and t, which may be a long run of steps, is never evaluated. -/
theorem KeepsKeys.update {s t u : State} (h : KeepsKeys s t) (hm : u.stackMem = t.stackMem := by with_reducible rfl)
    (hc : u.flow.ctx = t.flow.ctx := by with_reducible rfl) : KeepsKeys s u := h.trans (.of_eq hm hc)

theorem Told.keepsKeys {s t : State} (h : Told s t) : KeepsKeys s t := .of_eq h.stackMem (by rw [h.flow])

theorem KeepsKeys.told {s t u : State} (h : KeepsKeys s t) (ht : Told t u) : KeepsKeys s u := h.trans ht.keepsKeys

theorem KeepsKeys.fault {s t : State} (h : KeepsKeys s t) (c : W16) (x : Option CtxId) (l : Loc) (d : Nat) :
    KeepsKeys s (t.fault c x l d) := h.told (told_fault t c x l d)

theorem KeepsKeys.event {s t : State} (h : KeepsKeys s t) (c : W16) (x : Option CtxId) (l : Loc) (d : Nat) :
    KeepsKeys s (t.event c x l d) := h.told (told_event t c x l d)

theorem KeepsKeys.enter {s t : State} (h : KeepsKeys s t) (p : PState) : KeepsKeys s (t.enter p) :=
  h.trans (.of_eq (t.enter_stackMem p) (congrArg Flow.ctx (t.enter_flow p)))

/-- Steps that each keep the keys keep them one after the other. -/
theorem KeepsKeys.foldl {A : Type} {f : State → A → State} (hf : ∀ t a, KeepsKeys t (f t a)) (l : List A) {s t : State}
    (h : KeepsKeys s t) : KeepsKeys s (l.foldl f t) := by
  induction l generalizing t with
  | nil => exact h
  | cons a l ih => exact ih (h.trans (hf t a))

/-- A change of a context that leaves its keyring as it is keeps the keys. -/
theorem keepsKeys_modCtx (s : State) (c : CtxId) (f : CtxS → CtxS) (h : ∀ x, (f x).keyring = x.keyring) :
    KeepsKeys s (s.modCtx c f) := by
  refine ⟨rfl, fun k => ?_⟩
  rw [State.ctx_modCtx]
  split
  case isTrue hk => rw [h, hk]
  case isFalse => rfl

/-! ### SAFE and QUENCH, in which a start can end (R535, R355) -/

theorem told_portError (s : State) (h : Nat) (st : Status) (code : W16) : Told s (s.portError h st code) :=
  (told_modSite s h _).trans (told_doorbell _ h 2)

theorem told_endHost (s : State) (h : Nat) (st : Status) (code : W16) : Told s (s.endHost h st code) := by
  refine (told_modSite s h _).trans (Told.foldl _ (fun t q => ?_) _ _)
  have hcount : Told t (t.count .host h 0x14 1) := told_count t .host h 0x14 1
  dsimp only
  split
  · exact hcount.trans (told_portError _ h st code)
  · exact (hcount.trans (told_count _ .host h 0x04 1)).trans (told_send _ _)

theorem keepsKeys_dropStart (s : State) : KeepsKeys s s.dropStart := .of_eq rfl rfl

theorem keepsKeys_dropScans (s : State) : KeepsKeys s s.dropScans :=
  ⟨rfl, fun c => tget_tmap_proj ({} : CtxS) (fun _ (x : CtxS) => { x with ckptRun := none, paused := false }) CtxS.keyring
    (fun _ _ => rfl) s.flow.ctx c.val⟩

theorem keepsKeys_stopRecoveries (s : State) : KeepsKeys s s.stopRecoveries := by
  have hstop : KeepsKeys s (s.stopMigrations (fun _ => true)) := .of_eq rfl rfl
  refine hstop.foldl (fun t c => ?_) allCtx
  have hctx : KeepsKeys t (t.modCtx c (fun x => { x with restore := none })) := keepsKeys_modCtx t c _ fun _ => rfl
  split
  · split
    · exact .refl t
    · exact hctx.trans (.of_eq rfl rfl)
  · exact .refl t

theorem KeepsKeys.takeQuench {s t : State} (h : KeepsKeys s t) (trigger : Nat) (code : W16) :
    KeepsKeys s (t.takeQuench trigger code) := by
  unfold State.takeQuench
  split
  · exact h
  · exact h
  · extract_lets +onlyGivenNames _ u
    have hu : KeepsKeys s u := h.update
    have hends := (hu.told (told_endHost u 0 .pathFault 0)).told (told_endHost _ 1 .pathFault 0)
    exact (((hends.trans (keepsKeys_dropStart _)).trans (keepsKeys_dropScans _)).enter .quenched).event _ _ _ _

theorem keepsKeys_stopUnits (s : State) (c : CtxId) : KeepsKeys s (s.stopUnits c) := .of_eq rfl rfl

theorem KeepsKeys.enterSafe {s t : State} (h : KeepsKeys s t) (cause : Option W16) : KeepsKeys s (t.enterSafe cause) := by
  have hends : KeepsKeys s t.dropStart.dropScans.stopRecoveries :=
    ((h.trans (keepsKeys_dropStart t)).trans (keepsKeys_dropScans _)).trans (keepsKeys_stopRecoveries _)
  have hstop : KeepsKeys s (allCtx.foldl (fun s c => s.stopUnits c) t.dropStart.dropScans.stopRecoveries) :=
    hends.foldl keepsKeys_stopUnits allCtx
  unfold State.enterSafe
  split
  case h_5 => exact h
  all_goals
    split
    · exact h.takeQuench 2 _
    · refine KeepsKeys.enter ?_ .safe
      exact hstop.update

theorem KeepsKeys.safeFault {s t : State} (h : KeepsKeys s t) (code : W16) (l : Loc) (d : Nat) :
    KeepsKeys s (t.safeFault code l d) := (h.fault code none l d).enterSafe (some code)

/-! ### The steps of a start (R496–R504, R509–R512) -/

theorem KeepsKeys.addField {s t : State} (h : KeepsKeys s t) (w : W32) : KeepsKeys s (t.addField w) := by
  unfold State.addField
  split
  · exact h
  · split
    · exact h.update
    · refine KeepsKeys.event ?_ _ _ _ _
      exact h.update

theorem KeepsKeys.failTrial {s t : State} (h : KeepsKeys s t) : KeepsKeys s t.failTrial := by
  unfold State.failTrial
  extract_lets +onlyGivenNames _ _ failed
  have hfailed : KeepsKeys s failed := h.trans (.of_eq rfl rfl)
  exact hfailed.event 0x7014 none (locHub 0) 0

theorem told_writeHoldup (s : State) : Told s s.writeHoldup :=
  (told_log s _).trans (Told.foldl _ (fun t _ => told_logEntry t _) s.log.holdup _)

theorem keepsKeys_loadComponent (s : State) (c : Nat) : KeepsKeys s (s.loadComponent c).1 := by
  have hmark (k : Nat) : KeepsKeys s (s.modFw c k (fun x => { x with st := 5 })) := .of_eq rfl rfl
  unfold State.loadComponent
  split
  · split
    · exact .refl s
    · dsimp only
      split
      · split
        · exact (hmark _).event 0x7014 none (locHub 0) c
        · exact hmark _
      · exact hmark _
  · split <;> exact .refl s

theorem keepsKeys_loadAll (s : State) (cs : List Nat) : KeepsKeys s (s.loadAll cs).1 := by
  suffices h : ∀ q : State × Bool, KeepsKeys q.1
      (cs.foldl (fun q c => ((q.1.loadComponent c).1, q.2 && (q.1.loadComponent c).2)) q).1 from h (s, true)
  induction cs with
  | nil => exact fun q => .refl q.1
  | cons c cs ih =>
    exact fun q => (keepsKeys_loadComponent q.1 c).trans (ih ((q.1.loadComponent c).1, q.2 && (q.1.loadComponent c).2))

/-- A start loads components outside a trial only; a trial runs the set that is installed (R511). -/
theorem KeepsKeys.loadUnlessTrial {s t : State} (h : KeepsKeys s t) (kind : StartKind) (cs : List Nat) :
    KeepsKeys s (if kind = .trial then (t, true) else t.loadAll cs).1 := by
  split
  · exact h
  · exact h.trans (keepsKeys_loadAll t cs)

theorem keepsKeys_readIdentities (s : State) : KeepsKeys s s.readIdentities := by
  refine (KeepsKeys.refl s).foldl (fun t p => ?_) s.anat.identity
  dsimp only
  split
  · exact .refl t
  · have hfault := (KeepsKeys.refl t).fault 0x7010 none (physLoc (p.1 / 4096 - 1) (p.1 % 4096) 0) 0
    split
    · refine KeepsKeys.addField ?_ _
      exact hfault.update
    · refine KeepsKeys.addField ?_ _
      exact hfault.update
    · exact hfault.update
    · exact hfault.update

theorem KeepsKeys.startSupplies {s t : State} (h : KeepsKeys s t) (kind : StartKind) (i : StartIn) :
    KeepsKeys s (t.startSupplies kind i) := by
  unfold State.startSupplies
  extract_lets +onlyGivenNames r t1
  have hloaded : KeepsKeys s t1 := h.loadUnlessTrial kind _
  split
  · exact hloaded.safeFault 0x1020 (locHub 0) 0
  · extract_lets +onlyGivenNames off _ _ _ _ _ up
    have hup : KeepsKeys s up := hloaded.update
    split
    · exact hup.safeFault 0x7015 (locHub 0) 0
    · extract_lets +onlyGivenNames dies bases vents trained
      have hdies : KeepsKeys s dies := by
        refine hup.foldl (fun t d => ?_) i.fwDies
        exact ((KeepsKeys.refl t).fault 0x6033 none (locDie d.val) 0).addField (mkRec 3 d.val 0)
      have hbases : KeepsKeys s bases := by
        refine hdies.foldl (fun t k => ?_) i.fwStacks
        exact ((KeepsKeys.refl t).fault 0x6033 none (locStackPhys k.val) 0).addField (mkRec 4 k.val 0)
      have hvents : KeepsKeys s vents := by
        refine hbases.foldl (fun t v => ?_) i.fwVents
        exact ((KeepsKeys.refl t).fault 0x6033 none (locVent v.val) 0).trans (.of_eq rfl rfl)
      have htrained : KeepsKeys s trained := by
        refine hvents.foldl (fun t v => ?_) (List.range 48)
        split
        · exact .of_eq rfl rfl
        · exact .refl t
      refine KeepsKeys.enter ?_ .selftest
      exact htrained.update

theorem KeepsKeys.startProceed {s t : State} (h : KeepsKeys s t) (kind : StartKind) (i : StartIn) :
    KeepsKeys s (t.startProceed kind i) := by
  unfold State.startProceed
  split
  · exact h.startSupplies kind i
  · exact h.update

/-- After its clearing a start touches no key and no byte of a stack, wherever it ends. -/
theorem keepsKeys_startBegin (s : State) (cold trial : Bool) (i : StartIn) :
    KeepsKeys (s.startClear cold) (s.startBegin cold trial i) := by
  unfold State.startBegin
  extract_lets +onlyGivenNames cleared _ begun held
  have hbegun : KeepsKeys cleared begun := (KeepsKeys.refl cleared).update
  have hheld : KeepsKeys cleared held := hbegun.told (told_writeHoldup begun)
  split
  · exact hheld.safeFault 0x7013 (locHub 0) 0
  · extract_lets +onlyGivenNames again cut bad tried kind r
    have hcut : KeepsKeys cleared cut := by
      unfold cut
      split
      · exact hheld.failTrial
      · exact hheld
    have htried : KeepsKeys cleared tried := by
      unfold tried
      split
      · exact hcut.failTrial
      · exact hcut
    have hloaded : KeepsKeys cleared r.1 := htried.loadUnlessTrial kind [1, 2]
    split
    · exact hloaded.update
    · have hread := hloaded.trans (keepsKeys_readIdentities r.1)
      exact (hread.foldl (fun t w => (KeepsKeys.refl t).addField w) i.mirror).startProceed kind i

/-! ### What every start leaves (R428, R498) -/

theorem keyring_startBegin (s : State) (cold trial : Bool) (i : StartIn) (c : CtxId) :
    ((s.startBegin cold trial i).ctx c).keyring = (.closed, none, [], []) :=
  (keepsKeys_startBegin s cold trial i).keyring c

theorem byteAt_startBegin_cold (s : State) (trial : Bool) (i : StartIn) (a : Nat) :
    byteAt (s.startBegin true trial i).stackMem a = 0 := by
  rw [(keepsKeys_startBegin s true trial i).stackMem]
  rfl

theorem byteAt_startBegin_warm (s : State) (trial : Bool) (i : StartIn) (a : Nat) (ha : a % 2 ^ 36 / 2 ^ 30 ≠ 63) :
    byteAt (s.startBegin false trial i).stackMem a = 0 := by
  rw [(keepsKeys_startBegin s false trial i).stackMem]
  exact byteAt_filter_of_false s.stackMem (fun n => n % 2 ^ 36 / 2 ^ 30 == 63) (beq_false_of_ne ha)

/-- Every context is CLOSED and holds no master secret, no payload key and no key in a stack (R428). -/
def State.Keyless (s : State) : Prop :=
  ∀ c, (s.ctx c).key = .closed ∧ (s.ctx c).cms = none ∧ (s.ctx c).slots = [] ∧ (s.ctx c).stackKeys = []

theorem keyless_startBegin (s : State) (cold trial : Bool) (i : StartIn) : (s.startBegin cold trial i).Keyless := by
  intro c
  simpa only [CtxS.keyring, Prod.mk.injEq] using keyring_startBegin s cold trial i c

theorem exec_coldStart (s : State) (i : StartIn) (hr : s.boot.running = .none) (hc : s.coldOk = true) :
    exec (.coldStart i) s = .next ((s.startBegin true false i).fstatus .ok) := by
  show Host.Outcome.next (s.coldStart i) = _
  rw [State.coldStart, if_neg (not_not_intro hr), if_pos hc]

theorem exec_warmStart (s : State) (i : StartIn) (hr : s.boot.running = .none)
    (hs : s.st = .idle ∨ s.st = .run ∨ s.st = .safe ∨ s.st = .quenched) :
    exec (.warmStart i) s = .next ((s.startBegin false false i).fstatus .ok) := by
  show Host.Outcome.next (s.warmStart i) = _
  rw [State.warmStart, if_neg (not_not_intro hr)]
  rcases hs with hs | hs | hs | hs <;> rw [hs]

/-- Settles O52: the clearing at the head of a start empties every context and, but for bank 63 in a warm start, the stacks;
no later step of the start writes either (keepsKeys_startBegin). -/
theorem startsCloseEveryContext : Obligations.StartsCloseEveryContext := by
  unfold Obligations.StartsCloseEveryContext
  refine fun s i hr => ⟨fun hc => ?cold, fun hs => ?warm⟩
  case cold =>
    exact ⟨_, exec_coldStart s i hr hc, keyless_startBegin s true false i, byteAt_startBegin_cold s false i⟩
  case warm =>
    exact ⟨_, exec_warmStart s i hr hs, keyless_startBegin s false false i, byteAt_startBegin_warm s false i⟩

end Sys2Proof.Machine

/-! PROOF. ALERT_N and the fault log (R512, R519, R521): what asserts the pin, what logging an occurrence does to its third
condition, and the start that R512 holds in BOOT. -/

namespace Sys2Proof.Machine

/-! ### The pin -/

theorem bootHeld_iff (s : State) :
    s.bootHeld = true ↔ s.st = .boot ∧ ∃ kind i, s.boot.start = some ⟨kind, 2, i⟩ := by
  rw [State.bootHeld, Bool.and_eq_true, beq_iff_eq]
  refine and_congr_right fun _ => ?_
  split
  case h_1 kind i h => exact iff_of_true rfl ⟨kind, i, h⟩
  case h_2 hne => exact iff_of_false Bool.false_ne_true fun ⟨kind, i, h⟩ => hne kind i h

theorem alertN_iff (s : State) (h : s.pwr.standby = true) :
    s.alertN = true ↔ s.st = .safe ∨ (s.st = .boot ∧ ∃ kind i, s.boot.start = some ⟨kind, 2, i⟩) ∨
      s.log.alert = true := by
  rw [State.alertN, h, Bool.true_and, Bool.or_eq_true, Bool.or_eq_true, beq_iff_eq, bootHeld_iff, or_assoc,
    or_comm (a := s.log.alert = true)]

theorem alertN_fstatus (s : State) (x : FStatus) : (s.fstatus x).alertN = s.alertN := rfl

/-! ### Its third condition -/

theorem alert_alertFor (s : State) (e : LogEntry) : (s.alertFor e).log.alert =
    (s.log.alert || (e.fault && (s.obj 0x9000 0x05).testBit (codeClass e.code))) := by
  unfold State.alertFor
  split
  case isTrue h => rw [h, Bool.or_true]
  case isFalse h => rw [Bool.eq_false_iff.2 h, Bool.or_false]

/-- Folded or new, an occurrence meets the same alert_mask and leaves the latch as alertFor does (R519, R521). -/
theorem alert_logEntry (s : State) (e : LogEntry) : (s.logEntry e).log.alert =
    (s.log.alert || (e.fault && (s.obj 0x9000 0x05).testBit (codeClass e.code))) := by
  unfold State.logEntry
  split
  case h_1 m _ => exact alert_alertFor _ e
  case h_2 =>
    rw [alert_alertFor, log_notifyEvent, State.obj, (told_notifyEvent _ e).dict]
    rfl

theorem exec_alertAck_true (s : State) :
    exec (.alertAck true) s = .next ({ s with log := { s.log with alert := false } }.fstatus .ok) := rfl

theorem exec_alertAck_false (s : State) : exec (.alertAck false) s = .next (s.fstatus .ok) := rfl

/-! ### What the load of a component reads and changes (R411, R512) -/

/-- From s to t, neither slot of component c changes, nor anything else that R411 and R512 read of them. -/
structure SameImages (c : Nat) (s t : State) : Prop where
  fw : ∀ k < 2, t.fw c k = s.fw c k
  revoked : t.sec.revoked = s.sec.revoked
  rollback : t.sec.rollback = s.sec.rollback
  owned : t.sec.owned = s.sec.owned
  approvals : t.sec.approvals = s.sec.approvals

theorem SameImages.trans {c : Nat} {s t u : State} (a : SameImages c s t) (b : SameImages c t u) : SameImages c s u where
  fw k hk := (b.fw k hk).trans (a.fw k hk)
  revoked := b.revoked.trans a.revoked
  rollback := b.rollback.trans a.rollback
  owned := b.owned.trans a.owned
  approvals := b.approvals.trans a.approvals

theorem Told.sameImages {s t : State} (h : Told s t) (c : Nat) : SameImages c s t where
  fw k _ := by rw [State.fw, State.fw, h.boot]
  revoked := (congrArg Sec.revoked h.sec :)
  rollback := (congrArg Sec.rollback h.sec :)
  owned := (congrArg Sec.owned h.sec :)
  approvals := (congrArg Sec.approvals h.sec :)

theorem fw_modFw_same (s : State) (c k : Nat) (f : FwSlot → FwSlot) : (s.modFw c k f).fw c k = f (s.fw c k) :=
  tget_tmod_same _ _ _ _

theorem fw_modFw_other (s : State) {c k c' k' : Nat} (f : FwSlot → FwSlot) (h : c' * 2 + k' ≠ c * 2 + k) :
    (s.modFw c k f).fw c' k' = s.fw c' k' := tget_tmod_other _ _ _ h

theorem sameImages_modFw (s : State) {c c' k : Nat} (f : FwSlot → FwSlot) (hk : k < 2) (hc : c' ≠ c) :
    SameImages c' s (s.modFw c k f) :=
  ⟨fun _ _ => fw_modFw_other s f (by omega), rfl, rfl, rfl, rfl⟩

/-- The same change of a slot on both sides leaves both sides alike. -/
theorem SameImages.modFw {c : Nat} {s t : State} (h : SameImages c s t) {k : Nat} (hk : k < 2) (f : FwSlot → FwSlot) :
    SameImages c (s.modFw c k f) (t.modFw c k f) where
  fw j hj := by
    by_cases hjk : j = k
    · rw [hjk, fw_modFw_same, fw_modFw_same, h.fw k hk]
    · rw [fw_modFw_other t f (by omega), fw_modFw_other s f (by omega), h.fw j hj]
  revoked := h.revoked
  rollback := h.rollback
  owned := h.owned
  approvals := h.approvals

theorem slotIn_lt {s : State} {c st k : Nat} (h : s.slotIn c st = some k) : k < 2 := by
  have hmem : k ∈ [0, 1] := List.mem_of_find?_eq_some h
  simp only [List.mem_cons, List.not_mem_nil, or_false] at hmem
  omega

theorem SameImages.slotIn {c : Nat} {s t : State} (h : SameImages c s t) (st : Nat) : t.slotIn c st = s.slotIn c st := by
  simp only [State.slotIn, List.find?, h.fw 0 (by omega), h.fw 1 (by omega)]

theorem SameImages.slotOk {c : Nat} {s t : State} (h : SameImages c s t) {k : Nat} (hk : k < 2) :
    t.slotOk c k = s.slotOk c k := by
  unfold State.slotOk State.rollback
  rw [h.fw k hk, h.revoked, h.rollback, h.owned, h.approvals]

/-- The component has a FALLBACK slot that still passes R411. -/
def State.fallbackOk (s : State) (c : Nat) : Bool := (s.slotIn c 4).any (s.slotOk c)

theorem SameImages.fallbackOk {c : Nat} {s t : State} (h : SameImages c s t) : t.fallbackOk c = s.fallbackOk c := by
  rw [State.fallbackOk, State.fallbackOk, h.slotIn]
  cases hj : s.slotIn c 4 with
  | none => rfl
  | some j => exact h.slotOk (slotIn_lt hj)

/-- Slot k of the component is marked FAILED (R509). -/
def State.markFailed (s : State) (c k : Nat) : State := s.modFw c k (fun x => { x with st := 5 })

theorem loadComponent_snd_of_active {s : State} {c k : Nat} (h : s.slotIn c 3 = some k) :
    (s.loadComponent c).2 = (s.slotOk c k || (s.markFailed c k).fallbackOk c) := by
  rw [State.fallbackOk, State.loadComponent, h]
  dsimp only
  rw [← State.markFailed]
  cases s.slotOk c k with
  | true => rfl
  | false =>
    cases (s.markFailed c k).slotIn c 4 with
    | none => rfl
    | some j => cases hf : (s.markFailed c k).slotOk c j <;> simp [hf]

theorem loadComponent_snd_of_no_active {s : State} {c : Nat} (h : s.slotIn c 3 = none) :
    (s.loadComponent c).2 = s.fallbackOk c := by
  rw [State.loadComponent, State.fallbackOk, h]
  cases s.slotIn c 4 with
  | none => rfl
  | some j => rfl

/-- Whether a component loads rests on its slots and the trust state alone. -/
theorem SameImages.loads {c : Nat} {s t : State} (h : SameImages c s t) : (t.loadComponent c).2 = (s.loadComponent c).2 := by
  cases hk : s.slotIn c 3 with
  | none =>
    rw [loadComponent_snd_of_no_active hk, loadComponent_snd_of_no_active ((h.slotIn 3).trans hk), h.fallbackOk]
  | some k =>
    have hlt := slotIn_lt hk
    have hmarked : SameImages c (s.markFailed c k) (t.markFailed c k) := h.modFw hlt _
    rw [loadComponent_snd_of_active hk, loadComponent_snd_of_active ((h.slotIn 3).trans hk), h.slotOk hlt,
      hmarked.fallbackOk]

/-- A load leaves the state as it is, or marks one slot of its component and, past a loadable FALLBACK slot, tells so. -/
theorem loadComponent_fst (s : State) (c : Nat) :
    (s.loadComponent c).1 = s ∨ ∃ k < 2, Told (s.markFailed c k) (s.loadComponent c).1 := by
  unfold State.loadComponent
  split
  case h_1 k hk =>
    split
    case isTrue => exact .inl rfl
    case isFalse =>
      refine .inr ⟨k, slotIn_lt hk, ?_⟩
      dsimp only
      split
      · split
        · exact told_event _ 0x7014 none (locHub 0) c
        · exact .refl _
      · exact .refl _
  case h_2 =>
    split <;> exact .inl rfl

theorem loadComponent_st (s : State) (c : Nat) : (s.loadComponent c).1.st = s.st := by
  obtain h | ⟨k, _, h⟩ := loadComponent_fst s c
  · rw [h]
  · exact h.st

theorem loadComponent_pwr (s : State) (c : Nat) : (s.loadComponent c).1.pwr = s.pwr := by
  obtain h | ⟨k, _, h⟩ := loadComponent_fst s c
  · rw [h]
  · exact h.pwr

/-- The load of one component leaves every other as it was. -/
theorem sameImages_loadComponent (s : State) {c c' : Nat} (hc : c' ≠ c) : SameImages c' s (s.loadComponent c).1 := by
  obtain h | ⟨k, hk, h⟩ := loadComponent_fst s c
  · rw [h]
    exact (Told.refl s).sameImages c'
  · exact (sameImages_modFw s _ hk hc).trans (h.sameImages c')

theorem loadAll_firmware_snd (s : State) :
    (s.loadAll [1, 2]).2 = ((s.loadComponent 1).2 && (s.loadComponent 2).2) := by
  have h : ((s.loadComponent 1).1.loadComponent 2).2 = (s.loadComponent 2).2 :=
    (sameImages_loadComponent s (by omega)).loads
  show ((true && (s.loadComponent 1).2) && ((s.loadComponent 1).1.loadComponent 2).2) = _
  rw [h, Bool.true_and]

theorem loadAll_firmware_st (s : State) : (s.loadAll [1, 2]).1.st = s.st :=
  (loadComponent_st _ 2).trans (loadComponent_st s 1)

theorem loadAll_firmware_pwr (s : State) : (s.loadAll [1, 2]).1.pwr = s.pwr :=
  (loadComponent_pwr _ 2).trans (loadComponent_pwr s 1)

/-! ### The start that R512 holds in BOOT -/

/-- A start's cleared state, with the command in panel_cmd_status (R486, R498). -/
def State.startBegun (s : State) (cold : Bool) : State :=
  { s.startClear cold with boot := { (s.startClear cold).boot with
      cmdStatus := BitVec.ofNat 32 (if cold then 0x101 else 0x102) } }

/-- The state in which a start reads its slots: cleared, and what the hold-up store kept logged (R498, R520). -/
def State.startCleared (s : State) (cold : Bool) : State := (s.startBegun cold).writeHoldup

theorem startCleared_st (s : State) (cold : Bool) : (s.startCleared cold).st = .boot := (told_writeHoldup _).st

theorem startCleared_standby (s : State) (cold : Bool) : (s.startCleared cold).pwr.standby = s.pwr.standby := by
  rw [State.startCleared, (told_writeHoldup _).pwr]
  rfl

/-- The clearing of a start keeps firmware and trust (R498). -/
theorem sameImages_startCleared (s : State) (cold : Bool) (c : Nat) : SameImages c s (s.startCleared cold) :=
  have hclear : SameImages c s (s.startClear cold) := ⟨fun _ _ => rfl, rfl, rfl, rfl, rfl⟩
  have hbegun : SameImages c (s.startClear cold) (s.startBegun cold) := ⟨fun _ _ => rfl, rfl, rfl, rfl, rfl⟩
  (hclear.trans hbegun).trans ((told_writeHoldup _).sameImages c)

theorem startCleared_loadAll_firmware_snd (s : State) (cold : Bool) :
    ((s.startCleared cold).loadAll [1, 2]).2 = ((s.loadComponent 1).2 && (s.loadComponent 2).2) := by
  rw [loadAll_firmware_snd, (sameImages_startCleared s cold 1).loads, (sameImages_startCleared s cold 2).loads]

theorem startCleared_trialSet (s : State) (cold : Bool) : (s.startCleared cold).trialSet = s.trialSet := by
  rw [State.startCleared, State.trialSet, (told_writeHoldup _).boot]
  rfl

theorem startCleared_uds0 (s : State) (cold : Bool) : (s.startCleared cold).sec.uds0 = s.sec.uds0 :=
  (congrArg Sec.uds0 (told_writeHoldup _).sec :)

theorem startCleared_uds1 (s : State) (cold : Bool) : (s.startCleared cold).sec.uds1 = s.sec.uds1 :=
  (congrArg Sec.uds1 (told_writeHoldup _).sec :)

/-- Outside a trial, a cold start that does not load components 1 and 2 ends at step 2. -/
theorem startBegin_cold_of_not_loaded (s : State) (i : StartIn) (huds : s.sec.uds0 = s.sec.uds1)
    (htrial : s.trialSet = false) (hload : ((s.startCleared true).loadAll [1, 2]).2 = false) :
    s.startBegin true false i =
      let r := ((s.startCleared true).loadAll [1, 2]).1
      { r with boot := { r.boot with start := some ⟨.cold, 2, i⟩ } } := by
  have hu : (s.startCleared true).sec.uds0 = (s.startCleared true).sec.uds1 :=
    (startCleared_uds0 s true).trans (huds.trans (startCleared_uds1 s true).symm)
  have ht : (s.startCleared true).trialSet = false := (startCleared_trialSet s true).trans htrial
  unfold State.startBegin
  extract_lets +onlyGivenNames cleared _ begun read
  have hread : s.startCleared true = read := rfl
  rw [hread] at hu ht hload ⊢
  rw [if_neg (not_not_intro hu)]
  extract_lets +onlyGivenNames again cut bad tried kind r
  have hagain : again = false := by rw [show again = (read.trialSet && _) from rfl, ht, Bool.false_and]
  have hcut : cut = read := if_neg (by rw [ht, Bool.false_and]; exact Bool.false_ne_true)
  have htried : tried = read := (if_neg (by rw [hagain, Bool.false_and]; exact Bool.false_ne_true)).trans hcut
  have hkind : kind = .cold := if_neg (by rw [hagain, Bool.or_false, Bool.false_and]; exact Bool.false_ne_true)
  have hr : r = read.loadAll [1, 2] :=
    (if_neg (by rw [hkind]; exact nofun)).trans (congrArg (State.loadAll · [1, 2]) htried)
  rw [hr, hload, hkind]
  rfl

theorem startBegin_held (s : State) (i : StartIn) (huds : s.sec.uds0 = s.sec.uds1) (htrial : s.trialSet = false)
    (hload : ((s.startCleared true).loadAll [1, 2]).2 = false) :
    (s.startBegin true false i).st = .boot ∧ (s.startBegin true false i).pwr.standby = s.pwr.standby ∧
      (s.startBegin true false i).boot.start = some ⟨.cold, 2, i⟩ := by
  rw [startBegin_cold_of_not_loaded s i huds htrial hload]
  dsimp only
  refine ⟨?_, ?_, rfl⟩
  · rw [loadAll_firmware_st, startCleared_st]
  · rw [loadAll_firmware_pwr, startCleared_standby]

/-- Settles O47: folded or new, an occurrence reaches alertFor (alert_logEntry), and a cold start whose component 1 or 2 does
not load stops where bootHeld looks (startBegin_held). -/
theorem alertFollowsItsThreeConditions : Obligations.AlertFollowsItsThreeConditions := by
  unfold Obligations.AlertFollowsItsThreeConditions
  refine fun s => ⟨alertN_iff s, ?held, alert_logEntry s, ⟨_, exec_alertAck_true s, rfl, rfl⟩,
    ⟨_, exec_alertAck_false s, rfl⟩⟩
  case held =>
    intro i hpwr hrun hcold huds htrial hc
    have hload : ((s.startCleared true).loadAll [1, 2]).2 = false := by
      rw [startCleared_loadAll_firmware_snd]
      obtain ⟨c, rfl | rfl, hfail⟩ := hc
      · rw [hfail, Bool.false_and]
      · rw [hfail, Bool.and_false]
    obtain ⟨hst, hstandby, hstart⟩ := startBegin_held s i huds htrial hload
    refine ⟨_, exec_coldStart s i hrun hcold, (State.fstatus_st _ _).trans hst, (alertN_fstatus _ _).trans ?_⟩
    exact (alertN_iff _ (hstandby.trans hpwr)).2 (.inr (.inl ⟨hst, .cold, i, hstart⟩))

end Sys2Proof.Machine

/-! PROOF. What an operation may change, as a preorder on states: Kept L s t says that t differs from s in the parts of L at most
and that its memories are in canonical form if those of s are. One rule for each operation of the model follows in the files
after this one; a rule asks that the operation's own parts are among L. -/

namespace Sys2Proof.Machine

open Sys2Proof

/-- From s to t nothing but the parts of L has changed, and memories in canonical form have stayed so. -/
structure Kept (L : List Part) (s t : State) : Prop where
  same : ∀ p ∉ L, s.same t p
  wf : s.memWf = true → t.memWf = true

theorem same_refl (s : State) (p : Part) : s.same s p := by
  cases p <;> simp [State.same]

theorem same_trans {s t u : State} {p : Part} (a : s.same t p) (b : t.same u p) : s.same u p := by
  cases p <;> simp_all [State.same]

theorem memWf_iff (s : State) : s.memWf = true ↔ Memory.wf s.stackMem = true ∧ Memory.wf s.commonsMem = true ∧
    Memory.wf s.spadMem = true ∧ Memory.wf s.boot.seqMem = true := by
  simp [State.memWf, and_assoc]

variable {L M : List Part} {s t u : State}

theorem Kept.refl : Kept L s s := ⟨fun p _ => same_refl s p, id⟩

theorem Kept.step (k : Kept L s t) (b : Kept M t u) (h : M ⊆ L) : Kept L s u :=
  ⟨fun p hp => same_trans (k.same p hp) (b.same p fun hm => hp (h hm)), fun w => b.wf (k.wf w)⟩

/-- What an operation does within its own parts. -/
theorem Kept.within (k : Kept L s t) (h : M ⊆ L) (b : Kept M t t → Kept M t u) : Kept L s u := k.step (b Kept.refl) h

theorem Kept.mono (k : Kept M s t) (h : M ⊆ L) : Kept L s t := Kept.refl.step k h

theorem Kept.trans (k : Kept L s t) (b : Kept L t u) : Kept L s u := k.step b (List.Subset.refl L)

theorem Kept.ite {c : Prop} [Decidable c] (a : Kept L s t) (b : Kept L s u) : Kept L s (if c then t else u) := by
  split <;> assumption

/-- The state of a pair that is known. -/
theorem Kept.fst {A : Type} {p : State × A} {a : A} (k : Kept L s p.1) (e : p = (t, a)) : Kept L s t := by
  rwa [e] at k

theorem Kept.snd {A : Type} {p : A × State} {a : A} (k : Kept L s p.2) (e : p = (a, t)) : Kept L s t := by
  rwa [e] at k

theorem Kept.ite_fst {A : Type} {c : Prop} [Decidable c] {p q : State × A} (a : Kept L s p.1) (b : Kept L s q.1) :
    Kept L s (if c then p else q).1 := by
  split <;> assumption

/-- Kept survives a list of steps. -/
theorem Kept.foldl {A : Type} {f : State → A → State} {l : List A} (k : Kept L s t)
    (hf : ∀ u a, Kept L s u → Kept L s (f u a)) : Kept L s (l.foldl f t) := by
  induction l generalizing t with
  | nil => exact k
  | cons a l ih => exact ih (hf t a k)

/-- Kept survives a list of steps that also carry a value. -/
theorem Kept.foldl_fst {A B : Type} {f : State × B → A → State × B} {l : List A} {p : State × B} (k : Kept L s p.1)
    (hf : ∀ q a, Kept L s q.1 → Kept L s (f q a).1) : Kept L s (l.foldl f p).1 := by
  induction l generalizing p with
  | nil => exact k
  | cons a l ih => exact ih (hf p a k)

/-- A command's outcome is a next state, which keeps what is not of L. -/
def KeptBy (L : List Part) (s : State) (o : Host.Outcome State Fault Refusal) : Prop := ∃ t, o = .next t ∧ Kept L s t

theorem Kept.next (k : Kept L s t) : KeptBy L s (.next t) := ⟨t, rfl, k⟩

theorem KeptBy.of_next {o : Host.Outcome State Fault Refusal} (b : KeptBy L s o) (e : o = .next t) : Kept L s t := by
  obtain ⟨u, hu, k⟩ := b
  cases hu.symm.trans e
  exact k

/-- Kept survives a list of steps on a value that carries the state. -/
theorem Kept.foldl_of {A B : Type} (g : B → State) {f : B → A → B} {l : List A} {b : B} (k : Kept L s (g b))
    (hf : ∀ b a, Kept L s (g b) → Kept L s (g (f b a))) : Kept L s (g (l.foldl f b)) := by
  induction l generalizing b with
  | nil => exact k
  | cons a l ih => exact ih (hf b a k)

theorem twf_filter {V : Type} [DecidableEq V] {d : V} (f : Nat × V → Bool) {lo : Nat} {t : Tbl V}
    (w : twf d lo t = true) : twf d lo (t.filter f) = true := by
  induction t generalizing lo with
  | nil => rfl
  | cons e t ih =>
    obtain ⟨i, v⟩ := e
    simp only [twf, Bool.and_eq_true, decide_eq_true_eq] at w
    rw [List.filter_cons]
    split
    · simp [twf, w.1.1, w.1.2, ih w.2]
    · exact ih (twf_mono d _ (by omega) w.2)

theorem wf_filter (f : Host.Cell → Bool) {m : List Host.Cell} (w : Memory.wf m = true) : Memory.wf (m.filter f) = true :=
  twf_filter f w

theorem wf_layCells {m : List Host.Cell} (base lo : Nat) (l : List (Nat × Byte)) (w : Memory.wf m = true) :
    Memory.wf (layCells m base lo l) = true := by
  induction l generalizing m with
  | nil => exact w
  | cons p l ih => exact ih (wf_putByte _ _ w)

theorem wf_foldl_zeroRange {A : Type} (lo hi : A → Nat) (l : List A) {m : List Host.Cell} (w : Memory.wf m = true) :
    Memory.wf (l.foldl (fun m r => zeroRange m (lo r) (hi r)) m) = true := by
  induction l generalizing m with
  | nil => exact w
  | cons r l ih => exact ih (wf_zeroRange _ _ w)

/-! ### Parts that operations of several areas may change -/

/-- What an access anywhere in the panel may change: the failure that it meets is reported and handled. -/
def accessReach : List Part :=
  reporting [.anatomy, .stackMem, .commonsMem, .spadMem, .tiles, .engines, .contexts, .stacks, .network, .fabric, .power,
    .recovery]

/-- What the panel loses when its volatile state goes. -/
def clearReach : List Part :=
  [.panelState, .time, .faultLog, .anatomy, .objects, .counters, .counterTimes, .stackMem, .commonsMem, .spadMem, .tiles,
    .engines, .contexts, .stacks, .network, .fabric, .clocks, .power, .thermal, .security, .hostSites, .sessions, .starts,
    .recovery, .pins]

/-- What a start may change. -/
def startReach : List Part := .messages :: clearReach

/-- What the units of an engine operation keep. -/
def EngOp.Keeps (f : EngOp) : Prop := ∀ w x i l (t : State), Kept accessReach t (f.unit w x i l t).1

/-- The state that a step of a ring exchange leaves. -/
def StepOut.state : StepOut → State
  | .waits t | .moved t | .ends t _ => t

/-! ### One part written -/

theorem Kept.withSt (k : Kept L s t) (h : [Part.panelState] ⊆ L) (x : PState) : Kept L s { t with st := x } :=
  k.step ⟨fun p hp => by cases p <;> simp_all [State.same], id⟩ h

theorem Kept.withSince (k : Kept L s t) (h : [Part.panelState] ⊆ L) (x : Nat) : Kept L s { t with since := x } :=
  k.step ⟨fun p hp => by cases p <;> simp_all [State.same], id⟩ h

theorem Kept.withNow (k : Kept L s t) (h : [Part.time] ⊆ L) (x : Nat) : Kept L s { t with now := x } :=
  k.step ⟨fun p hp => by cases p <;> simp_all [State.same], id⟩ h

theorem Kept.withLog (k : Kept L s t) (h : [Part.faultLog] ⊆ L) (x : Log) : Kept L s { t with log := x } :=
  k.step ⟨fun p hp => by cases p <;> simp_all [State.same], id⟩ h

theorem Kept.withAnat (k : Kept L s t) (h : [Part.anatomy] ⊆ L) (x : Anat) : Kept L s { t with anat := x } :=
  k.step ⟨fun p hp => by cases p <;> simp_all [State.same], id⟩ h

theorem Kept.withDict (k : Kept L s t) (h : [Part.objects] ⊆ L) (x : Tbl Nat) : Kept L s { t with dict := x } :=
  k.step ⟨fun p hp => by cases p <;> simp_all [State.same], id⟩ h

theorem Kept.withStored (k : Kept L s t) (h : [Part.storedObjects] ⊆ L) (x : Tbl Nat) : Kept L s { t with stored := x } :=
  k.step ⟨fun p hp => by cases p <;> simp_all [State.same], id⟩ h

theorem Kept.withCtrs (k : Kept L s t) (h : [Part.counters] ⊆ L) (x : Tbl Nat) : Kept L s { t with ctrs := x } :=
  k.step ⟨fun p hp => by cases p <;> simp_all [State.same], id⟩ h

theorem Kept.withCtrSince (k : Kept L s t) (h : [Part.counterTimes] ⊆ L) (x : Tbl Nat) : Kept L s { t with ctrSince := x } :=
  k.step ⟨fun p hp => by cases p <;> simp_all [State.same], id⟩ h

theorem Kept.withStackMem (k : Kept L s t) (h : [Part.stackMem] ⊆ L) (m : List Host.Cell)
    (w : Memory.wf t.stackMem = true → Memory.wf m = true) : Kept L s { t with stackMem := m } :=
  k.step ⟨fun p hp => by cases p <;> simp_all [State.same], fun a => by simp_all [memWf_iff]⟩ h

theorem Kept.withCommonsMem (k : Kept L s t) (h : [Part.commonsMem] ⊆ L) (m : List Host.Cell)
    (w : Memory.wf t.commonsMem = true → Memory.wf m = true) : Kept L s { t with commonsMem := m } :=
  k.step ⟨fun p hp => by cases p <;> simp_all [State.same], fun a => by simp_all [memWf_iff]⟩ h

theorem Kept.withSpadMem (k : Kept L s t) (h : [Part.spadMem] ⊆ L) (m : List Host.Cell)
    (w : Memory.wf t.spadMem = true → Memory.wf m = true) : Kept L s { t with spadMem := m } :=
  k.step ⟨fun p hp => by cases p <;> simp_all [State.same], fun a => by simp_all [memWf_iff]⟩ h

theorem Kept.withTiles (k : Kept L s t) (h : [Part.tiles] ⊆ L) (x : Tiles) : Kept L s { t with tiles := x } :=
  k.step ⟨fun p hp => by cases p <;> simp_all [State.same], id⟩ h

theorem Kept.withEng (k : Kept L s t) (h : [Part.engines] ⊆ L) (x : Eng) : Kept L s { t with eng := x } :=
  k.step ⟨fun p hp => by cases p <;> simp_all [State.same], id⟩ h

theorem Kept.withFlow (k : Kept L s t) (h : [Part.contexts] ⊆ L) (x : Flow) : Kept L s { t with flow := x } :=
  k.step ⟨fun p hp => by cases p <;> simp_all [State.same], id⟩ h

theorem Kept.withStk (k : Kept L s t) (h : [Part.stacks] ⊆ L) (x : Stacks) : Kept L s { t with stk := x } :=
  k.step ⟨fun p hp => by cases p <;> simp_all [State.same], id⟩ h

theorem Kept.withNet (k : Kept L s t) (h : [Part.network] ⊆ L) (x : Net) : Kept L s { t with net := x } :=
  k.step ⟨fun p hp => by cases p <;> simp_all [State.same], id⟩ h

theorem Kept.withFab (k : Kept L s t) (h : [Part.fabric] ⊆ L) (x : Fab) : Kept L s { t with fab := x } :=
  k.step ⟨fun p hp => by cases p <;> simp_all [State.same], id⟩ h

theorem Kept.withClk (k : Kept L s t) (h : [Part.clocks] ⊆ L) (x : Clk) : Kept L s { t with clk := x } :=
  k.step ⟨fun p hp => by cases p <;> simp_all [State.same], id⟩ h

theorem Kept.withPwr (k : Kept L s t) (h : [Part.power] ⊆ L) (x : Pwr) : Kept L s { t with pwr := x } :=
  k.step ⟨fun p hp => by cases p <;> simp_all [State.same], id⟩ h

theorem Kept.withThm (k : Kept L s t) (h : [Part.thermal] ⊆ L) (x : Thm) : Kept L s { t with thm := x } :=
  k.step ⟨fun p hp => by cases p <;> simp_all [State.same], id⟩ h

theorem Kept.withSec (k : Kept L s t) (h : [Part.security] ⊆ L) (x : Sec) : Kept L s { t with sec := x } :=
  k.step ⟨fun p hp => by cases p <;> simp_all [State.same], id⟩ h

theorem Kept.withHst (k : Kept L s t) (h : [Part.hostSites] ⊆ L) (x : Hst) : Kept L s { t with hst := x } :=
  k.step ⟨fun p hp => by cases p <;> simp_all [State.same], id⟩ h

theorem Kept.withMgmt (k : Kept L s t) (h : [Part.sessions] ⊆ L) (x : Mgmt) : Kept L s { t with mgmt := x } :=
  k.step ⟨fun p hp => by cases p <;> simp_all [State.same], id⟩ h

theorem Kept.withBoot (k : Kept L s t) (h : [Part.starts] ⊆ L) (b : Boot)
    (w : Memory.wf t.boot.seqMem = true → Memory.wf b.seqMem = true) : Kept L s { t with boot := b } :=
  k.step ⟨fun p hp => by cases p <;> simp_all [State.same], fun a => by simp_all [memWf_iff]⟩ h

theorem Kept.withRecov (k : Kept L s t) (h : [Part.recovery] ⊆ L) (x : Rec) : Kept L s { t with recov := x } :=
  k.step ⟨fun p hp => by cases p <;> simp_all [State.same], id⟩ h

theorem Kept.withPins (k : Kept L s t) (h : [Part.pins] ⊆ L) (x : Pins) : Kept L s { t with pins := x } :=
  k.step ⟨fun p hp => by cases p <;> simp_all [State.same], id⟩ h

theorem Kept.withSent (k : Kept L s t) (h : [Part.messages] ⊆ L) (x : List Msg) : Kept L s { t with sent := x } :=
  k.step ⟨fun p hp => by cases p <;> simp_all [State.same], id⟩ h

theorem Kept.withAnswer (k : Kept L s t) (x : Answer) : Kept L s { t with answer := x } :=
  k.step ⟨fun p _ => by cases p <;> simp [State.same], id⟩ (List.nil_subset L)

theorem Kept.withFreeCount (k : Kept L s t) (h : [Part.freeValues] ⊆ L) (x : Nat) : Kept L s { t with freeCount := x } :=
  k.step ⟨fun p hp => by cases p <;> simp_all [State.same], id⟩ h

theorem Kept.withPending (k : Kept L s t) (h : [Part.queue] ⊆ L) (x : List Instr) : Kept L s { t with pending := x } :=
  k.step ⟨fun p hp => by cases p <;> simp_all [State.same], id⟩ h

/-! ### One part written, and the answer with it -/

theorem Kept.withClkAnswer (k : Kept L s t) (h : [Part.clocks] ⊆ L) (x a) : Kept L s { t with clk := x, answer := a } :=
  (k.withClk h x).withAnswer a

theorem Kept.withPwrAnswer (k : Kept L s t) (h : [Part.power] ⊆ L) (x a) : Kept L s { t with pwr := x, answer := a } :=
  (k.withPwr h x).withAnswer a

theorem Kept.withThmAnswer (k : Kept L s t) (h : [Part.thermal] ⊆ L) (x a) : Kept L s { t with thm := x, answer := a } :=
  (k.withThm h x).withAnswer a

theorem Kept.withPinsAnswer (k : Kept L s t) (h : [Part.pins] ⊆ L) (x a) : Kept L s { t with pins := x, answer := a } :=
  (k.withPins h x).withAnswer a

end Sys2Proof.Machine

/-! PROOF. What each operation of the model may change: one rule for each, with the parts that it and what it calls write.
A proof runs through the operation as it is written and cites the rules of what it calls. -/

namespace Sys2Proof.Machine

open Sys2Proof

variable {L M : List Part} {s t u : State}

theorem Kept.setObj (k : Kept L s t) (h : [Part.objects] ⊆ L) (index sub v) : Kept L s (t.setObj index sub v) :=
  k.within h fun k => k.withDict (by decide) _

theorem Kept.count (k : Kept L s t) (h : [Part.counters] ⊆ L) (set record off n) :
    Kept L s (t.count set record off n) :=
  k.within h fun k => k.withCtrs (by decide) _

theorem Kept.uncount (k : Kept L s t) (h : [Part.counters] ⊆ L) (set record off n) :
    Kept L s (t.uncount set record off n) :=
  k.within h fun k => k.withCtrs (by decide) _

theorem Kept.count64 (k : Kept L s t) (h : [Part.counters] ⊆ L) (set record off n) :
    Kept L s (t.count64 set record off n) :=
  k.within h fun k => k.withCtrs (by decide) _

theorem Kept.countHigh (k : Kept L s t) (h : [Part.counters] ⊆ L) (set record off n) :
    Kept L s (t.countHigh set record off n) := by
  refine k.within h fun k => ?_
  unfold State.countHigh
  dsimp only
  split
  · exact k.withCtrs (by decide) _
  · exact (k.withCtrs (by decide) _).count (by decide) _ _ _ _

theorem Kept.countMax (k : Kept L s t) (h : [Part.counters] ⊆ L) (set record off n) :
    Kept L s (t.countMax set record off n) :=
  k.within h fun k => k.withCtrs (by decide) _

theorem Kept.clearCounters (k : Kept L s t) (h : [Part.counters, .counterTimes] ⊆ L) (set) :
    Kept L s (t.clearCounters set) := by
  refine k.step ⟨fun p hp => ?_, id⟩ h
  cases p <;> simp [State.same, State.clearCounters] at hp ⊢

theorem Kept.modSite (k : Kept L s t) (h : [Part.hostSites] ⊆ L) (h' f) : Kept L s (t.modSite h' f) :=
  k.within h fun k => k.withHst (by decide) _

theorem Kept.setSession (k : Kept L s t) (h : [Part.sessions] ⊆ L) (n x) : Kept L s (t.setSession n x) :=
  k.within h fun k => k.withMgmt (by decide) _

theorem Kept.send (k : Kept L s t) (h : [Part.messages] ⊆ L) (m) : Kept L s (t.send m) :=
  k.within h fun k => k.withSent (by decide) _

theorem Kept.free (k : Kept L s t) (h : [Part.freeValues] ⊆ L) : Kept L s (t.free).2 :=
  k.within h fun k => k.withFreeCount (by decide) _

theorem Kept.freeBytes (k : Kept L s t) (h : [Part.freeValues] ⊆ L) (n) : Kept L s (t.freeBytes n).2 :=
  k.within h fun k => k.withFreeCount (by decide) _

theorem Kept.doorbell (k : Kept L s t) (h : [Part.hostSites, .messages] ⊆ L) (h' cause) :
    Kept L s (t.doorbell h' cause) :=
  k.within h fun k => k.ite (((k.modSite (by decide) _ _).send (by decide) _).ite ((k.modSite (by decide) _ _).ite
      ((k.modSite (by decide) _ _).send (by decide) _)))

theorem Kept.portError (k : Kept L s t) (h : [Part.hostSites, .messages] ⊆ L) (h' st code) :
    Kept L s (t.portError h' st code) :=
  k.within h fun k => (k.modSite (by decide) _ _).doorbell (by decide) _ _

theorem Kept.endHost (k : Kept L s t) (h : [Part.counters, .hostSites, .messages] ⊆ L) (h' st code) :
    Kept L s (t.endHost h' st code) :=
  k.within h fun k => (k.modSite (by decide) _ _).foldl (fun u a ku => ((ku.count (by decide) _ _ _ _).portError
      (by decide) _ _ _).ite (((ku.count (by decide) _ _ _ _).count (by decide) _ _ _ _).send (by decide) _))

theorem Kept.mailPut (k : Kept L s t) (h : [Part.counters, .hostSites, .messages] ⊆ L) (h' f) :
    Kept L s (t.mailPut h' f) :=
  k.within h fun k => ((k.modSite (by decide) _ _).count (by decide) _ _ _ _).doorbell (by decide) _ _

theorem Kept.mailOut (k : Kept L s t) (h : [Part.counters, .hostSites, .messages] ⊆ L) (h' f) :
    Kept L s (t.mailOut h' f) :=
  k.within h fun k => (k.modSite (by decide) _ _).ite (k.mailPut (by decide) _ _)

theorem Kept.endSession (k : Kept L s t) (h : [Part.security, .sessions] ⊆ L) (n) : Kept L s (t.endSession n) := by
  refine k.step ⟨fun p hp => ?_, id⟩ h
  cases p <;> simp [State.same, State.endSession] at hp ⊢

theorem Kept.channelOut (k : Kept L s t) (h : [Part.counters, .hostSites, .messages] ⊆ L)
    (channel session kind head d tag) :
    Kept L s (t.channelOut channel session kind head d tag) :=
  k.within h fun k => ((k.count (by decide) _ _ _ _).send (by decide) _).ite (((k.count (by decide) _ _ _ _).send
      (by decide) _).mailOut (by decide) _ _)

theorem Kept.frameOut (k : Kept L s t) (h : [Part.counters, .security, .hostSites, .sessions, .messages] ⊆ L)
    (n kind index sub status d) :
    Kept L s (t.frameOut n kind index sub status d) := by
  refine k.within h fun k => ?_
  unfold State.frameOut
  dsimp only
  split
  · exact k
  · exact (((k.setSession (by decide) _ _).channelOut (by decide) _ _ _ _ _ _).endSession (by decide) _).ite
        ((k.setSession (by decide) _ _).channelOut (by decide) _ _ _ _ _ _)

theorem Kept.alertFor (k : Kept L s t) (h : [Part.faultLog] ⊆ L) (e) : Kept L s (t.alertFor e) := by
  refine k.within h fun k => ?_
  unfold State.alertFor
  dsimp only
  split
  · exact k.withLog (by decide) _
  · exact k

theorem Kept.eventFrame (k : Kept L s t) (h : [Part.counters, .security, .hostSites, .sessions, .messages] ⊆ L)
    (e n) :
    Kept L s (t.eventFrame e n) := by
  refine k.within h fun k => ?_
  unfold State.eventFrame
  dsimp only
  split
  · exact k
  · exact (((k.setSession (by decide) _ _).frameOut (by decide) _ _ _ _ _ _).ite ((k.setSession (by decide) _
        _).count (by decide) _ _ _ _)).ite k

theorem Kept.notifyEvent (k : Kept L s t) (h : [Part.counters, .security, .hostSites, .sessions, .messages] ⊆ L) (e) :
    Kept L s (t.notifyEvent e) :=
  k.within h fun k => k.foldl (fun u a ku => ku.eventFrame (by decide) _ _)

theorem Kept.logEntry (k : Kept L s t) (h : reporting [] ⊆ L) (e) : Kept L s (t.logEntry e) := by
  refine k.within h fun k => ?_
  unfold State.logEntry
  dsimp only
  split
  · exact (k.withLog (by decide) _).alertFor (by decide) _
  · exact ((k.withLog (by decide) _).notifyEvent (by decide) _).alertFor (by decide) _

theorem Kept.raise (k : Kept L s t) (h : reporting [] ⊆ L) (fault code ctx l detail) :
    Kept L s (t.raise fault code ctx l detail) :=
  k.within h fun k => k.logEntry (by decide) _

theorem Kept.fault (k : Kept L s t) (h : reporting [] ⊆ L) (code ctx l detail) :
    Kept L s (t.fault code ctx l detail) :=
  k.within h fun k => k.raise (by decide) _ _ _ _ _

theorem Kept.event (k : Kept L s t) (h : reporting [] ⊆ L) (code ctx l detail) :
    Kept L s (t.event code ctx l detail) :=
  k.within h fun k => k.raise (by decide) _ _ _ _ _

theorem Kept.ok (k : Kept L s t) : Kept L s (t.ok) := k.withAnswer _

theorem Kept.turnAway (k : Kept L s t) : Kept L s (t.turnAway) := k.withAnswer _

theorem Kept.status (k : Kept L s t) (st) : Kept L s (t.status st) := k.withAnswer _

theorem Kept.fstatus (k : Kept L s t) (st) : Kept L s (t.fstatus st) := k.withAnswer _

theorem Kept.draw (k : Kept L s t) (h : [Part.security] ⊆ L) : Kept L s (t.draw).2 :=
  k.within h fun k => k.withSec (by decide) _

theorem Kept.notBefore (k : Kept L s t) (h : [Part.time] ⊆ L) (t') : Kept L s (t.notBefore t') :=
  k.within h fun k => k.withNow (by decide) _

theorem Kept.setDom (k : Kept L s t) (h : [Part.power] ⊆ L) (k' on) : Kept L s (t.setDom k' on) :=
  k.within h fun k => k.withPwr (by decide) _

theorem Kept.enter (k : Kept L s t) (h : [Part.panelState, .hostSites, .messages] ⊆ L) (p) :
    Kept L s (t.enter p) := by
  refine k.within h fun k => ?_
  have hp : Kept [Part.panelState, .hostSites, .messages] t { t with st := p, since := t.now } := (k.withSt
      (by decide) p).withSince (by decide) t.now
  unfold State.enter
  split
  · exact hp
  · exact (hp.doorbell (by decide) _ _).doorbell (by decide) _ _

theorem Kept.modCtx (k : Kept L s t) (h : [Part.contexts] ⊆ L) (c f) : Kept L s (t.modCtx c f) :=
  k.within h fun k => k.withFlow (by decide) _

theorem Kept.modUnit (k : Kept L s t) (h : [Part.contexts] ⊆ L) (k' f) : Kept L s (t.modUnit k' f) :=
  k.within h fun k => k.withFlow (by decide) _

theorem Kept.modQueue (k : Kept L s t) (h : [Part.contexts] ⊆ L) (k' f) : Kept L s (t.modQueue k' f) :=
  k.within h fun k => k.withFlow (by decide) _

theorem Kept.modTile (k : Kept L s t) (h : [Part.tiles] ⊆ L) (k' f) : Kept L s (t.modTile k' f) :=
  k.within h fun k => k.withTiles (by decide) _

theorem Kept.modCommons (k : Kept L s t) (h : [Part.engines] ⊆ L) (d f) : Kept L s (t.modCommons d f) :=
  k.within h fun k => k.withEng (by decide) _

theorem Kept.modEngine (k : Kept L s t) (h : [Part.engines] ⊆ L) (k' f) : Kept L s (t.modEngine k' f) :=
  k.within h fun k => k.withEng (by decide) _

theorem Kept.modRing (k : Kept L s t) (h : [Part.engines] ⊆ L) (k' f) : Kept L s (t.modRing k' f) :=
  k.within h fun k => k.withEng (by decide) _

theorem Kept.modStack (k : Kept L s t) (h : [Part.stacks] ⊆ L) (k' f) : Kept L s (t.modStack k' f) :=
  k.within h fun k => k.withStk (by decide) _

theorem Kept.modVent (k : Kept L s t) (h : [Part.fabric] ⊆ L) (v f) : Kept L s (t.modVent v f) :=
  k.within h fun k => k.withFab (by decide) _

theorem Kept.modDieClk (k : Kept L s t) (h : [Part.clocks] ⊆ L) (d f) : Kept L s (t.modDieClk d f) :=
  k.within h fun k => k.withClk (by decide) _

theorem Kept.modIsland (k : Kept L s t) (h : [Part.clocks] ⊆ L) (k' f) : Kept L s (t.modIsland k' f) :=
  k.within h fun k => k.withClk (by decide) _

theorem Kept.modCell (k : Kept L s t) (h : [Part.network] ⊆ L) (k' f) : Kept L s (t.modCell k' f) :=
  k.within h fun k => k.withNet (by decide) _

theorem Kept.modSpot (k : Kept L s t) (h : [Part.thermal] ⊆ L) (k' f) : Kept L s (t.modSpot k' f) :=
  k.within h fun k => k.withThm (by decide) _

theorem Kept.settleRun (k : Kept L s t) (h : [Part.panelState, .hostSites, .messages] ⊆ L) :
    Kept L s (t.settleRun) := by
  refine k.within h fun k => ?_
  unfold State.settleRun
  split
  · exact (k.enter (by decide) _).ite k
  · exact k.ite (k.enter (by decide) _)
  · exact k

theorem Kept.countConv (k : Kept L s t) (h : [Part.counters] ⊆ L) (record k') : Kept L s (t.countConv record k') :=
  k.within h fun k => (((((k.count (by decide) _ _ _ _).count (by decide) _ _ _ _).count (by decide) _ _ _ _).count
      (by decide) _ _ _ _).count (by decide) _ _ _ _).count (by decide) _ _ _ _

theorem Kept.putCal (k : Kept L s t) (h : reporting [.starts] ⊆ L) (t' origin) : Kept L s (t.putCal t' origin) :=
  k.within h fun k => (k.withBoot (by decide) _ (by exact id)).event (by decide) _ _ _ _

theorem Kept.putFrame (k : Kept L s t) (h : [Part.counters, .fabric, .messages] ⊆ L) (v dl src dest b) :
    Kept L s (t.putFrame v dl src dest b) :=
  k.within h fun k => (((k.modVent (by decide) _ _).count (by decide) _ _ _ _).countHigh (by decide) _ _ _ _).send
      (by decide) _

theorem Kept.sendFrame (k : Kept L s t) (h : [Part.counters, .fabric, .messages] ⊆ L) (v dl src dest b) :
    Kept L s (t.sendFrame v dl src dest b) := by
  refine k.within h fun k => ?_
  unfold State.sendFrame
  dsimp only
  split
  · exact k.putFrame (by decide) _ _ _ _ _
  · exact ((k.modVent (by decide) _ _).putFrame (by decide) _ _ _ _ _).ite ((k.modVent (by decide) _ _).count
        (by decide) _ _ _ _)

theorem Kept.fabricOut (k : Kept L s t) (h : [Part.counters, .fabric, .messages] ⊆ L) (die dest b) :
    Kept L s (t.fabricOut die dest b) := by
  refine k.within h fun k => ?_
  unfold State.fabricOut
  dsimp only
  split
  · exact k
  · split
    · exact k.sendFrame (by decide) _ _ _ _ _
    · exact k

theorem Kept.flood (k : Kept L s t) (h : [Part.counters, .fabric, .messages] ⊆ L) (b) : Kept L s (t.flood b) :=
  k.within h fun k => k.foldl (fun u a ku => (ku.sendFrame (by decide) _ _ _ _ _).ite ku)

theorem Kept.setDown (k : Kept L s t) (h : reporting [.fabric] ⊆ L) (panel dir up l) :
    Kept L s (t.setDown panel dir up l) := by
  refine k.within h fun k => ?_
  unfold State.setDown
  dsimp only
  split
  · exact k
  · split
    · exact k.event (by decide) _ _ _ _
    · exact ((k.withFab (by decide) _).event (by decide) _ _ _ _).flood (by decide) _

theorem Kept.noteDirection (k : Kept L s t) (h : reporting [.fabric] ⊆ L) (v) : Kept L s (t.noteDirection v) :=
  k.within h fun k => k.setDown (by decide) _ _ _ _

theorem Kept.linkOff (k : Kept L s t) (h : reporting [.fabric] ⊆ L) (v) : Kept L s (t.linkOff v) :=
  k.within h fun k => ((((k.event (by decide) _ _ _ _).count (by decide) _ _ _ _).ite k).modVent (by decide) _
      _).noteDirection (by decide) _

theorem Kept.addField (k : Kept L s t) (h : reporting [.anatomy] ⊆ L) (w) : Kept L s (t.addField w) := by
  refine k.within h fun k => ?_
  unfold State.addField
  dsimp only
  split
  · exact k
  · split
    · exact k.withAnat (by decide) _
    · exact (k.withAnat (by decide) _).event (by decide) _ _ _ _

theorem Kept.buildTiles (k : Kept L s t) (h : [Part.anatomy] ⊆ L) (d) : Kept L s (t.buildTiles d) :=
  k.within h fun k => k.withAnat (by decide) _

theorem Kept.remapped (k : Kept L s t) (h : [Part.anatomy, .power] ⊆ L) : Kept L s (t.remapped) := by
  refine k.step ⟨fun p hp => ?_, id⟩ h
  cases p <;> simp [State.same, State.remapped] at hp ⊢

theorem Kept.rehome (k : Kept L s t) (h : reporting [.anatomy, .power] ⊆ L) (l) : Kept L s (t.rehome l) := by
  refine k.within h fun k => ?_
  unfold State.rehome
  dsimp only
  split
  · exact (k.withAnat (by decide) _).remapped (by decide)
  · exact ((k.withAnat (by decide) _).remapped (by decide)).fault (by decide) _ _ _ _

theorem Kept.darken (k : Kept L s t) (h : [Part.power] ⊆ L) (d) : Kept L s (t.darken d) :=
  k.within h fun k => (k.setDom (by decide) _ _).ite k

theorem Kept.dropDormant (k : Kept L s t) (h : reporting [.anatomy, .power] ⊆ L) (r) :
    Kept L s (t.dropDormant r) := by
  refine k.within h fun k => ?_
  unfold State.dropDormant
  dsimp only
  split
  · exact (((k.withAnat (by decide) _).remapped (by decide)).event (by decide) _ _ _ _).darken (by decide) _
  · exact k

theorem Kept.detach (k : Kept L s t) (h : reporting [.anatomy, .fabric] ⊆ L) (d) : Kept L s (t.detach d) := by
  refine k.within h fun k => ?_
  unfold State.detach
  dsimp only
  split
  · exact ((k.withAnat (by decide) _).event (by decide) _ _ _ _).foldl (fun u a ku => ku.linkOff (by decide) _)
  · exact k

theorem Kept.detachBad (k : Kept L s t) (h : reporting [.anatomy, .fabric] ⊆ L) : Kept L s (t.detachBad) :=
  k.within h fun k => k.foldl (fun u a ku => ku.detach (by decide) _)

theorem Kept.recordShort (k : Kept L s t) (h : reporting [.anatomy] ⊆ L) (d) : Kept L s (t.recordShort d) :=
  k.within h fun k => (k.addField (by decide) _).ite k

theorem Kept.reroute (k : Kept L s t) (h : reporting [.network] ⊆ L) : Kept L s (t.reroute) :=
  k.within h fun k => (k.withNet (by decide) _).event (by decide) _ _ _ _

theorem Kept.mapUnits (k : Kept L s t) (h : [Part.contexts] ⊆ L) (c f) : Kept L s (t.mapUnits c f) :=
  k.within h fun k => k.withFlow (by decide) _

theorem Kept.mapQueues (k : Kept L s t) (h : [Part.contexts] ⊆ L) (c f) : Kept L s (t.mapQueues c f) :=
  k.within h fun k => k.withFlow (by decide) _

theorem Kept.mapTiles (k : Kept L s t) (h : [Part.tiles] ⊆ L) (c f) : Kept L s (t.mapTiles c f) := by
  refine k.within h fun k => ?_
  unfold State.mapTiles
  refine Kept.foldl k (fun u a ku => ?_)
  split
  · exact ku.modTile (by decide) _ _
  · exact ku

theorem Kept.unpause (k : Kept L s t) (h : [Part.counters, .contexts] ⊆ L) (k') : Kept L s (t.unpause k') := by
  refine k.within h fun k => ?_
  unfold State.unpause
  split
  · exact k
  · exact (k.modUnit (by decide) _ _).count (by decide) _ _ _ _

theorem Kept.unpauseAll (k : Kept L s t) (h : [Part.counters, .contexts] ⊆ L) (c) : Kept L s (t.unpauseAll c) :=
  k.within h fun k => k.foldl (fun u a ku => ku.ite (ku.unpause (by decide) _))

theorem Kept.stopUnits (k : Kept L s t) (h : [Part.contexts] ⊆ L) (c) : Kept L s (t.stopUnits c) :=
  k.within h fun k => k.mapUnits (by decide) _ _

theorem Kept.resumeUnits (k : Kept L s t) (h : [Part.counters, .contexts] ⊆ L) (c) : Kept L s (t.resumeUnits c) :=
  k.within h fun k => (k.mapUnits (by decide) _ _).unpauseAll (by decide) _

theorem Kept.haltCtx (k : Kept L s t) (h : [Part.contexts] ⊆ L) (c) : Kept L s (t.haltCtx c) :=
  k.within h fun k => (k.stopUnits (by decide) _).modCtx (by decide) _ _

theorem Kept.dropHidden (k : Kept L s t) (h : [Part.counters, .contexts] ⊆ L) (key) : Kept L s (t.dropHidden key) :=
  k.within h fun k => k.ite ((k.modQueue (by decide) _ _).count (by decide) _ _ _ _)

theorem Kept.dropUnsettled (k : Kept L s t) (h : [Part.counters, .tiles, .engines, .contexts] ⊆ L) (c) :
    Kept L s (t.dropUnsettled c) := by
  refine k.within h fun k => ?_
  unfold State.dropUnsettled
  dsimp only
  refine Kept.withEng ?_ (by decide) _
  refine Kept.foldl ?_ (fun u a ku => ?_)
  · refine Kept.mapUnits ?_ (by decide) _ _
    refine Kept.foldl ?_ (fun u a ku => ?_)
    · refine Kept.foldl ?_ (fun u a ku => ?_)
      · refine Kept.foldl k (fun u a ku => ?_)
        split
        · exact ku.modTile (by decide) _ _
        · exact ku
      · split
        · split
          · exact ku.count (by decide) _ _ _ _
          · exact ku
        · exact ku
    · split
      · exact ku.count (by decide) _ _ _ _
      · exact ku
  · split
    · exact ku.dropHidden (by decide) _
    · exact ku

theorem Kept.revokeCredits (k : Kept L s t) (h : [Part.tiles] ⊆ L) (c) : Kept L s (t.revokeCredits c) :=
  k.within h fun k => k.mapTiles (by decide) _ _

theorem Kept.zeroTile (k : Kept L s t) (h : [Part.spadMem, .tiles] ⊆ L) (k') : Kept L s (t.zeroTile k') :=
  k.within h fun k => (k.modTile (by decide) _ _).withSpadMem (by decide) _ (wf_zeroRange _ _)

theorem Kept.passSegment (k : Kept L s t) (h : [Part.commonsMem, .engines] ⊆ L) (d seg owner) :
    Kept L s (t.passSegment d seg owner) :=
  k.within h fun k => (k.modCommons (by decide) _ _).withCommonsMem (by decide) _ (wf_zeroRange _ _)

theorem Kept.zeroBank (k : Kept L s t) (h : [Part.stackMem, .stacks] ⊆ L) (k' b) : Kept L s (t.zeroBank k' b) :=
  k.within h fun k => (k.modStack (by decide) _ _).withStackMem (by decide) _ (wf_zeroRange _ _)

theorem Kept.passBank (k : Kept L s t) (h : [Part.stacks] ⊆ L) (k' b o) : Kept L s (t.passBank k' b o) :=
  k.within h fun k => k.modStack (by decide) _ _

theorem Kept.passBlock (k : Kept L s t) (h : [Part.network] ⊆ L) (first blockKey o) :
    Kept L s (t.passBlock first blockKey o) :=
  k.within h fun k => k.withNet (by decide) _

theorem Kept.scanTile (k : Kept L s t) (h : [Part.spadMem, .tiles] ⊆ L) (p) : Kept L s (t.scanTile p) := by
  refine k.step ?_ h
  unfold State.scanTile
  split
  · exact Kept.withSpadMem (Kept.modTile Kept.refl (by decide) _ _) (by decide) _ (wf_foldl_zeroRange _ _ _)
  · exact Kept.refl

theorem Kept.scanSpad (k : Kept L s t) (h : [Part.spadMem] ⊆ L) (l) : Kept L s (t.scanSpad l) := by
  refine k.within h fun k => ?_
  unfold State.scanSpad
  refine Kept.foldl k (fun u a ku => ?_)
  split
  · exact ku.withSpadMem (by decide) _ (wf_putByte _ _)
  · exact ku

theorem Kept.scanCommons (k : Kept L s t) (h : [Part.commonsMem, .engines] ⊆ L) (c l) :
    Kept L s (t.scanCommons c l) := by
  refine k.within h fun k => ?_
  unfold State.scanCommons
  refine Kept.foldl ?_ (fun u a ku => ?_)
  · refine Kept.foldl k ?_
    dsimp only
    intro u a ku
    split
    · split
      · exact (ku.passSegment (by decide) _ _ _).modCommons (by decide) _ _
      · exact ku
    · exact ku
  · split
    · exact ku.withCommonsMem (by decide) _ (wf_putByte _ _)
    · exact ku

theorem Kept.scanIn (k : Kept L s t) (h : [Part.commonsMem, .spadMem, .tiles, .engines, .contexts, .network, .fabric]
    ⊆ L) (c g) :
    Kept L s (t.scanIn c g) := by
  refine k.step ?_ h
  have hmem : Kept [Part.commonsMem, .spadMem, .tiles, .engines, .contexts, .network, .fabric] t
      (((g.tiles.foldl State.scanTile t).scanSpad g.spad).scanCommons c g.commons) :=
    ((Kept.refl.foldl fun u a ku => ku.scanTile (by decide) a).scanSpad (by decide) _).scanCommons (by decide) _ _
  unfold State.scanIn
  extract_lets _ s2 units queues rings engines enabled cells groups logs _ _ _ _ s3
  have h2 : Kept [Part.commonsMem, .spadMem, .tiles, .engines, .contexts, .network, .fabric] t s2 := hmem
  have h3 : Kept [Part.commonsMem, .spadMem, .tiles, .engines, .contexts, .network, .fabric] t s3 :=
    (((h2.withFlow (by decide) { s2.flow with unit := units, queue := queues, inlog := logs }).withEng
      (by decide) { s2.eng with ring := rings, engine := enabled }).withNet
      (by decide) { s2.net with cells := cells }).withFab (by decide) { s2.fab with group := groups }
  exact h3.modCtx (by decide) _ _

theorem Kept.logRecovery (k : Kept L s t) (h : [Part.recovery] ⊆ L) (r) : Kept L s (t.logRecovery r) :=
  k.within h fun k => k.withRecov (by decide) _

theorem Kept.stopMigrations (k : Kept L s t) (h : [Part.recovery] ⊆ L) (p) : Kept L s (t.stopMigrations p) :=
  k.within h fun k => k.withRecov (by decide) _

theorem Kept.updateRecovery (k : Kept L s t) (h : [Part.recovery] ⊆ L) (r) : Kept L s (t.updateRecovery r) :=
  k.within h fun k => k.withRecov (by decide) _

theorem Kept.voidPackets (k : Kept L s t) (h : [Part.contexts, .network] ⊆ L) (c) : Kept L s (t.voidPackets c) := by
  refine k.step ⟨fun p hp => ?_, id⟩ h
  cases p <;> simp [State.same, State.voidPackets] at hp ⊢

theorem Kept.beginRestore (k : Kept L s t) (h : [Part.counters, .tiles, .engines, .contexts, .network, .recovery] ⊆ L)
    (c kind die tile since) :
    Kept L s (t.beginRestore c kind die tile since) :=
  k.within h fun k => k.ite (((((((k.stopUnits (by decide) _).dropUnsettled (by decide) _).revokeCredits (by decide)
      _).voidPackets (by decide) _).modCtx (by decide) _ _).count (by decide) _ _ _ _).logRecovery (by decide) _)

theorem Kept.needRestore (k : Kept L s t) (h : [Part.counters, .tiles, .engines, .contexts, .network, .recovery] ⊆ L)
    (c) :
    Kept L s (t.needRestore c) :=
  k.within h fun k => k.beginRestore (by decide) _ _ _ _ _

theorem Kept.restoreAll (k : Kept L s t) (h : [Part.counters, .tiles, .engines, .contexts, .network, .recovery] ⊆ L)
    (l kind die tile since) :
    Kept L s (t.restoreAll l kind die tile since) :=
  k.within h fun k => k.foldl (fun u a ku => ku.beginRestore (by decide) _ _ _ _ _)

theorem Kept.suspendEvent (k : Kept L s t) (h : reporting [.recovery] ⊆ L) (code c d) :
    Kept L s (t.suspendEvent code c d) := by
  refine k.within h fun k => ?_
  unfold State.suspendEvent
  dsimp only
  split
  · exact k
  · exact (k.withRecov (by decide) _).event (by decide) _ _ _ _

theorem Kept.unsuspend (k : Kept L s t) (h : reporting [.recovery] ⊆ L) (lo hi) : Kept L s (t.unsuspend lo hi) :=
  k.within h fun k => (k.withRecov (by decide) _).foldl (fun u a ku => ku.suspendEvent (by decide) _ _ _)

theorem Kept.freshDie (k : Kept L s t) (h : [Part.engines, .network] ⊆ L) (l) : Kept L s (t.freshDie l) := by
  refine k.step ⟨fun p hp => ?_, id⟩ h
  cases p <;> simp [State.same, State.freshDie] at hp ⊢

theorem Kept.dieFail (k : Kept L s t) (h : reporting [.anatomy, .commonsMem, .tiles, .engines, .contexts, .network,
    .fabric, .power, .recovery] ⊆ L) (d cause since) :
    Kept L s (t.dieFail d cause since) := by
  refine k.within h fun k => ?_
  unfold State.dieFail
  split
  · exact k
  extract_lets l dormant s1 s2 s3 had
  have h1 : Kept (reporting [.anatomy, .commonsMem, .tiles, .engines, .contexts, .network, .fabric, .power,
      .recovery]) t s1 := k.fault (by decide) _ _ _ _
  have h2 : Kept (reporting [.anatomy, .commonsMem, .tiles, .engines, .contexts, .network, .fabric, .power,
      .recovery]) t s2 :=
    (((h1.unsuspend (by decide) _ _).addField (by decide) _).detach (by decide) _).setDom (by decide) _ _
  have h3 : Kept (reporting [.anatomy, .commonsMem, .tiles, .engines, .contexts, .network, .fabric, .power,
      .recovery]) t s3 := h2.stopMigrations (by decide) _
  clear_value s3 had l dormant
  split
  next _ l' =>
    have h4 : Kept (reporting [.anatomy, .commonsMem, .tiles, .engines, .contexts, .network, .fabric, .power,
        .recovery]) t (s3.rehome l') := h3.rehome (by decide) l'
    extract_lets cs s4 s5 _ s6
    split
    · extract_lets s7
      have h5 : Kept (reporting [.anatomy, .commonsMem, .tiles, .engines, .contexts, .network, .fabric, .power,
          .recovery]) t s5 := (h4.reroute (by decide)).freshDie (by decide) _
      have h6 : Kept (reporting [.anatomy, .commonsMem, .tiles, .engines, .contexts, .network, .fabric, .power,
          .recovery]) t s6 := h5.withAnat (by decide) _
      have h7 : Kept (reporting [.anatomy, .commonsMem, .tiles, .engines, .contexts, .network, .fabric, .power,
          .recovery]) t s7 := h6.foldl fun u p ku => ku.passSegment (by decide) _ _ _
      exact (h7.count (by decide) _ _ _ _).restoreAll (by decide) _ _ _ _ _
    · exact h4.foldl fun u c ku => ku.haltCtx (by decide) c
  · exact (h3.dropDormant (by decide) _).ite h3

theorem Kept.tileGone (k : Kept L s t) (h : reporting [.anatomy, .commonsMem, .spadMem, .tiles, .engines, .contexts,
    .network, .fabric, .power, .recovery] ⊆ L) (d t') :
    Kept L s (t.tileGone d t') := by
  refine k.within h fun k => ?_
  unfold State.tileGone
  refine Kept.ite (k.dieFail (by decide) _ _ _) ?_
  refine Kept.ite (k.buildTiles (by decide) _) ?_
  dsimp only
  split
  · exact ((((k.buildTiles (by decide) _).remapped (by decide)).count (by decide) _ _ _ _).foldl (fun u a ku =>
        (ku.zeroTile (by decide) _).modTile (by decide) _ _)).restoreAll (by decide) _ _ _ _ _
  · exact (((k.buildTiles (by decide) _).remapped (by decide)).count (by decide) _ _ _ _).foldl (fun u a ku =>
        (ku.zeroTile (by decide) _).modTile (by decide) _ _)

theorem Kept.tileFail (k : Kept L s t) (h : reporting [.anatomy, .commonsMem, .spadMem, .tiles, .engines, .contexts,
    .network, .fabric, .power, .recovery] ⊆ L) (d t' cause) :
    Kept L s (t.tileFail d t' cause) :=
  k.within h fun k => k.ite ((((k.fault (by decide) _ _ _ _).unsuspend (by decide) _ _).addField (by decide)
      _).tileGone (by decide) _ _)

theorem Kept.addRow (k : Kept L s t) (h : reporting [.anatomy, .commonsMem, .spadMem, .tiles, .engines, .contexts,
    .network, .fabric, .power, .recovery] ⊆ L) (d t' bank row) :
    Kept L s (t.addRow d t' bank row) :=
  k.within h fun k => ((((k.addField (by decide) _).fault (by decide) _ _ _ _).unsuspend (by decide) _ _).tileGone
      (by decide) _ _).ite (k.addField (by decide) _)

theorem Kept.relocateCtx (k : Kept L s t) (h : [Part.contexts] ⊆ L) (pairs c) : Kept L s (t.relocateCtx pairs c) :=
  k.within h fun k => ((k.modCtx (by decide) _ _).mapQueues (by decide) _ _).mapUnits (by decide) _ _

theorem Kept.dropShards (k : Kept L s t) (h : reporting [.contexts] ⊆ L) (k' refill) :
    Kept L s (t.dropShards k' refill) :=
  k.within h fun k => k.foldl (fun u a ku => (ku.modCtx (by decide) _ _).foldl (fun u a ku => ku.fault (by decide) _
      _ _ _))

theorem Kept.replaceStack (k : Kept L s t) (h : reporting [.anatomy, .tiles, .engines, .contexts, .stacks, .network,
    .recovery] ⊆ L) (k' new holders) :
    Kept L s (t.replaceStack k' new holders) := by
  refine k.within h fun k => ?_
  unfold State.replaceStack
  refine Kept.restoreAll ?_ (by decide) _ _ _ _ _
  refine Kept.foldl (((((k.dropShards (by decide) _ _).modStack (by decide) _ _).stopMigrations (by decide) _).foldl
      (fun u a ku => ku.relocateCtx (by decide) _ _)).withAnat (by decide) _) (fun u a ku => ?_)
  split
  · exact ku
  · exact ku.event (by decide) _ _ _ _

theorem Kept.loseAreas (k : Kept L s t) (h : [Part.contexts] ⊆ L) (k') : Kept L s (t.loseAreas k') :=
  k.within h fun k => k.foldl (fun u a ku => ku.modCtx (by decide) _ _)

theorem Kept.loseStack (k : Kept L s t) (h : reporting [.anatomy, .commonsMem, .tiles, .engines, .contexts, .stacks,
    .network, .fabric, .power, .recovery] ⊆ L) (k') :
    Kept L s (t.loseStack k') := by
  refine k.within h fun k => ?_
  unfold State.loseStack
  refine Kept.ite k ?_
  refine Kept.ite (((((k.loseAreas (by decide) _).fault (by decide) _ _ _ _).addField (by decide) _).count
      (by decide) _ _ _ _).dropDormant (by decide) _) ?_
  refine Kept.ite ((((k.loseAreas (by decide) _).fault (by decide) _ _ _ _).addField (by decide) _).count (by decide)
      _ _ _ _) ?_
  split
  · exact ((((k.loseAreas (by decide) _).fault (by decide) _ _ _ _).addField (by decide) _).count (by decide) _ _ _
        _).replaceStack (by decide) _ _ _
  · exact (((((k.loseAreas (by decide) _).fault (by decide) _ _ _ _).addField (by decide) _).count (by decide) _ _ _
        _).dieFail (by decide) _ _ _).replaceStack (by decide) _ _ _
  · exact (((((k.loseAreas (by decide) _).fault (by decide) _ _ _ _).addField (by decide) _).count (by decide) _ _ _
        _).dropShards (by decide) _ _).foldl (fun u a ku => ku.haltCtx (by decide) _)

theorem Kept.dropScans (k : Kept L s t) (h : [Part.contexts] ⊆ L) : Kept L s (t.dropScans) :=
  k.within h fun k => k.withFlow (by decide) _

theorem Kept.dropStart (k : Kept L s t) (h : [Part.starts] ⊆ L) : Kept L s (t.dropStart) :=
  k.within h fun k => k.withBoot (by decide) _ (by exact id)

theorem Kept.stopRecoveries (k : Kept L s t) (h : [Part.contexts, .recovery] ⊆ L) : Kept L s (t.stopRecoveries) := by
  refine k.within h fun k => ?_
  unfold State.stopRecoveries
  refine Kept.foldl (k.stopMigrations (by decide) _) (fun u a ku => ?_)
  split
  · exact ku.ite ((ku.modCtx (by decide) _ _).updateRecovery (by decide) _)
  · exact ku

theorem Kept.takeQuench (k : Kept L s t) (h : reporting [.panelState, .contexts, .clocks, .starts] ⊆ L)
    (trigger code) :
    Kept L s (t.takeQuench trigger code) := by
  refine k.within h fun k => ?_
  unfold State.takeQuench
  dsimp only
  split
  · exact k
  · exact k
  · exact ((((((k.withClk (by decide) _).endHost (by decide) _ _ _).endHost (by decide) _ _ _).dropStart
        (by decide)).dropScans (by decide)).enter (by decide) _).event (by decide) _ _ _ _

theorem Kept.enterSafe (k : Kept L s t) (h : reporting [.panelState, .contexts, .clocks, .thermal, .starts,
    .recovery] ⊆ L) (cause) :
    Kept L s (t.enterSafe cause) := by
  refine k.step ?_ h
  have hstop : Kept (reporting [.panelState, .contexts, .clocks, .thermal, .starts, .recovery]) t (allCtx.foldl
      (fun s c => s.stopUnits c) t.dropStart.dropScans.stopRecoveries) :=
    (((Kept.refl.dropStart (by decide)).dropScans (by decide)).stopRecoveries (by decide)).foldl
      fun u c ku => ku.stopUnits (by decide) c
  unfold State.enterSafe
  generalize allCtx.foldl (fun s c => s.stopUnits c) t.dropStart.dropScans.stopRecoveries = u at hstop ⊢
  split
  iterate 4
    split
    · exact Kept.refl.takeQuench (by decide) _ _
    · refine (hstop.trans ?_).enter (by decide) _
      refine ⟨fun p hp => ?_, id⟩
      cases p <;> simp [State.same, reporting, reports] at hp ⊢
  exact Kept.refl

theorem Kept.safeFault (k : Kept L s t) (h : reporting [.panelState, .contexts, .clocks, .thermal, .starts,
    .recovery] ⊆ L) (code l detail) :
    Kept L s (t.safeFault code l detail) :=
  k.within h fun k => (k.fault (by decide) _ _ _ _).enterSafe (by decide) _

theorem Kept.openRaw (k : Kept L s t) (h : [Part.stackMem, .stacks] ⊆ L) (k' lines) :
    Kept L s (t.openRaw k' lines) := by
  refine k.step ?_ h
  unfold State.openRaw
  refine Kept.refl.foldl fun u a ku => ?_
  split
  · exact ku
  · exact Kept.modStack (Kept.withStackMem ku (by decide) _ (wf_putBytes _ _)) (by decide) _ _

theorem Kept.modShard (k : Kept L s t) (h : [Part.contexts] ⊆ L) (c i f) : Kept L s (t.modShard c i f) :=
  k.within h fun k => k.modCtx (by decide) _ _

theorem Kept.countBytes (k : Kept L s t) (h : [Part.counters] ⊆ L) (k' off n) : Kept L s (t.countBytes k' off n) := by
  refine k.within h fun k => ?_
  unfold State.countBytes
  dsimp only
  split
  · exact (k.withCtrs (by decide) _).count (by decide) _ _ _ _
  · exact k.withCtrs (by decide) _

theorem Kept.noteBadLines (k : Kept L s t) (h : reporting [.anatomy, .commonsMem, .tiles, .engines, .contexts,
    .stacks, .network, .fabric, .power, .recovery] ⊆ L) (k' lines) :
    Kept L s (t.noteBadLines k' lines) :=
  k.within h fun k => ((k.ite (k.modStack (by decide) _ _)).loseStack (by decide) _).ite (k.ite (k.modStack
      (by decide) _ _))

theorem Kept.quarantine (k : Kept L s t) (h : reporting [.contexts] ⊆ L) (c i k' off) :
    Kept L s (t.quarantine c i k' off) :=
  k.within h fun k => ((k.modShard (by decide) _ _ _).count (by decide) _ _ _ _).event (by decide) _ _ _ _

theorem Kept.finishZero (k : Kept L s t) (h : [Part.stackMem, .stacks] ⊆ L) (k' b) : Kept L s (t.finishZero k' b) :=
  k.within h fun k => (k.zeroBank (by decide) _ _).ite k

theorem Kept.lineFail (k : Kept L s t) (h : reporting [.anatomy, .commonsMem, .tiles, .engines, .contexts, .stacks,
    .network, .fabric, .power, .recovery] ⊆ L) (w k' off lines st) :
    Kept L s (t.lineFail w k' off lines st).1 := by
  refine k.within h fun k => ?_
  unfold State.lineFail
  dsimp only
  split
  · split
    · split
      · exact ((k.count (by decide) _ _ _ _).quarantine (by decide) _ _ _ _).noteBadLines (by decide) _ _
      · exact (k.count (by decide) _ _ _ _).noteBadLines (by decide) _ _
    · split
      · exact ((k.count (by decide) _ _ _ _).quarantine (by decide) _ _ _ _).noteBadLines (by decide) _ _
      · exact (k.count (by decide) _ _ _ _).noteBadLines (by decide) _ _
  · exact (k.count (by decide) _ _ _ _).noteBadLines (by decide) _ _

theorem Kept.stackTurns {p : State × Acc} (k : Kept L s t) (h : [Part.counters] ⊆ L) {w : Who} {k' off len : Nat}
    {write : Bool}
    (e : t.stackTurns w k' off len write = some p) : Kept L s p.1 := by
  refine k.within h fun k => ?_
  unfold State.stackTurns at e
  dsimp only at e
  split at e
  · cases e
    exact k.count (by decide) _ _ _ _
  split at e
  · cases e
    exact k.count (by decide) _ _ _ _
  · obtain ⟨a, -, rfl⟩ := Option.map_eq_some_iff.mp e
    exact k

theorem Kept.stackRead (k : Kept L s t) (h : reporting [.anatomy, .stackMem, .commonsMem, .tiles, .engines,
    .contexts, .stacks, .network, .fabric, .power, .recovery] ⊆ L) (w k' off len) :
    Kept L s (t.stackRead w k' off len).1 := by
  refine k.within h fun k => ?_
  unfold State.stackRead
  extract_lets i lines s1 fixed s2 s3
  have h1 : Kept (reporting [.anatomy, .stackMem, .commonsMem, .tiles, .engines, .contexts, .stacks, .network,
      .fabric, .power, .recovery]) t s1 := k.foldl fun u b ku => ku.finishZero (by decide) _ _
  have h2 : Kept (reporting [.anatomy, .stackMem, .commonsMem, .tiles, .engines, .contexts, .stacks, .network,
      .fabric, .power, .recovery]) t s2 := h1.ite (h1.count (by decide) _ _ _ _)
  split
  · exact k
  split
  next heq => exact k.stackTurns (by decide) heq
  split
  · exact h2.lineFail (by decide) _ _ _ _ _
  · exact (h2.openRaw (by decide) _ _).countBytes (by decide) _ _ _

theorem Kept.mirror (k : Kept L s t) (h : [Part.stackMem, .stacks] ⊆ L) (k' off d lines) :
    Kept L s (t.mirror k' off d lines) := by
  refine k.within h fun k => ?_
  unfold State.mirror
  dsimp only
  split
  · exact k
  · split
    · exact k
    · exact (k.modStack (by decide) _ _).withStackMem (by decide) _ (wf_putBytes _ _)

theorem Kept.stackLand (k : Kept L s t) (h : [Part.stackMem, .stacks] ⊆ L) (k' off d) :
    Kept L s (t.stackLand k' off d) :=
  k.within h fun k => ((k.modStack (by decide) _ _).withStackMem (by decide) _ (wf_putBytes _ _)).mirror (by decide)
      _ _ _ _

theorem Kept.forgetScratch (k : Kept L s t) (h : [Part.stackMem, .stacks, .freeValues] ⊆ L) (c) :
    Kept L s (t.forgetScratch c) := by
  refine k.within h fun k => ?_
  unfold State.forgetScratch
  dsimp only
  split
  · exact k
  · exact k.foldl (fun u a ku => (ku.freeBytes (by decide) _).stackLand (by decide) _ _ _)

theorem Kept.stackWrite (k : Kept L s t) (h : reporting [.anatomy, .stackMem, .commonsMem, .tiles, .engines,
    .contexts, .stacks, .network, .fabric, .power, .recovery] ⊆ L) (w k' off d) :
    Kept L s (t.stackWrite w k' off d).1 := by
  refine k.within h fun k => ?_
  unfold State.stackWrite
  extract_lets i lines part s1
  have h1 : Kept (reporting [.anatomy, .stackMem, .commonsMem, .tiles, .engines, .contexts, .stacks, .network,
      .fabric, .power, .recovery]) t s1 := k.foldl fun u b ku => ku.finishZero (by decide) _ _
  split
  · exact k
  split
  next heq => exact k.stackTurns (by decide) heq
  split
  · exact h1.lineFail (by decide) _ _ _ _ _
  · exact ((h1.openRaw (by decide) _ _).countBytes (by decide) _ _ _).stackLand (by decide) _ _ _

theorem Kept.commonsPoison (k : Kept L s t) (h : reporting [.anatomy, .commonsMem, .tiles, .engines, .contexts,
    .network, .fabric, .power, .recovery] ⊆ L) (d words) :
    Kept L s (t.commonsPoison d words) :=
  k.within h fun k => ((k.modCommons (by decide) _ _).dieFail (by decide) _ _ _).ite (k.modCommons (by decide) _ _)

theorem Kept.commonsRead (k : Kept L s t) (h : reporting [.anatomy, .commonsMem, .tiles, .engines, .contexts,
    .network, .fabric, .power, .recovery] ⊆ L) (w l off len) :
    Kept L s (t.commonsRead w l off len).1 := by
  refine k.within h fun k => ?_
  unfold State.commonsRead
  dsimp only
  split
  · exact k
  · split
    · exact k
    · split
      · exact k
      · split
        · exact k
        · split
          · refine Kept.commonsPoison ?_ (by decide) _ _
            refine Kept.count ?_ (by decide) _ _ _ _
            split
            · exact k
            · exact k.count (by decide) _ _ _ _
          · dsimp only
            split
            · exact k
            · exact k.count (by decide) _ _ _ _

theorem Kept.commonsPut (k : Kept L s t) (h : [Part.commonsMem, .engines] ⊆ L) (p off d unsettled) :
    Kept L s (t.commonsPut p off d unsettled) := by
  refine k.within h fun k => ?_
  unfold State.commonsPut
  dsimp only
  refine Kept.withCommonsMem (k.modCommons (by decide) _ _) (by decide) _ ?_
  split
  · exact wf_putBytes _ _
  · exact wf_putBytes _ _

theorem Kept.commonsWrite (k : Kept L s t) (h : [Part.commonsMem, .engines] ⊆ L) (w l off d unsettled) :
    Kept L s (t.commonsWrite w l off d unsettled).1 := by
  refine k.within h fun k => ?_
  unfold State.commonsWrite
  dsimp only
  split
  · exact k
  · split
    · exact k
    · split
      · exact k
      · split
        · exact k
        · split
          · exact k.foldl (fun u a ku => ku.commonsPut (by decide) _ _ _ _)
          · exact k.commonsPut (by decide) _ _ _ _

theorem Kept.loseTurn (k : Kept L s t) (h : [Part.counters] ⊆ L) (l t' r) : Kept L s (t.loseTurn l t' r) :=
  k.within h fun k => ((k.count (by decide) _ _ _ _).count (by decide) _ _ _ _).ite (k.count (by decide) _ _ _ _)

theorem Kept.bankTurn (k : Kept L s t) (h : [Part.counters, .tiles] ⊆ L) (l t' k' port off len) :
    Kept L s (t.bankTurn l t' k' port off len) := by
  refine k.within h fun k => ?_
  unfold State.bankTurn
  refine Kept.foldl k ?_
  dsimp only
  split
  · exact fun u a ku => (ku.foldl (fun u a ku => ku.loseTurn (by decide) _ _ _)).modTile (by decide) _ _
  · exact fun u a ku => (ku.foldl (fun u a ku => ku.loseTurn (by decide) _ _ _)).modTile (by decide) _ _

theorem Kept.spadPoison (k : Kept L s t) (h : reporting [.anatomy, .commonsMem, .spadMem, .tiles, .engines,
    .contexts, .network, .fabric, .power, .recovery] ⊆ L) (l t' k' words) :
    Kept L s (t.spadPoison l t' k' words) :=
  k.within h fun k => (k.count (by decide) _ _ _ _).foldl (fun u a ku => ku.addRow (by decide) _ _ _ _)

theorem Kept.spadCorrect (k : Kept L s t) (h : reporting [.anatomy, .commonsMem, .spadMem, .tiles, .engines,
    .contexts, .network, .fabric, .power, .recovery] ⊆ L) (l t' k' words) :
    Kept L s (t.spadCorrect l t' k' words) :=
  k.within h fun k => k.foldl (fun u a ku => (((ku.count (by decide) _ _ _ _).modTile (by decide) _ _).addRow
      (by decide) _ _ _ _).ite ((ku.count (by decide) _ _ _ _).modTile (by decide) _ _))

theorem Kept.spadRead (k : Kept L s t) (h : reporting [.anatomy, .commonsMem, .spadMem, .tiles, .engines, .contexts,
    .network, .fabric, .power, .recovery] ⊆ L) (w l t' off len) :
    Kept L s (t.spadRead w l t' off len).1 := by
  refine k.within h fun k => ?_
  unfold State.spadRead
  dsimp only
  split
  · exact k
  · split
    · exact k
    · split
      · exact k.count (by decide) _ _ _ _
      · split
        · exact k
        · split
          · exact (k.bankTurn (by decide) _ _ _ _ _ _).spadPoison (by decide) _ _ _ _
          · exact (k.bankTurn (by decide) _ _ _ _ _ _).spadCorrect (by decide) _ _ _ _

theorem Kept.spadPut (k : Kept L s t) (h : [Part.spadMem, .tiles] ⊆ L) (k' off d unsettled) :
    Kept L s (t.spadPut k' off d unsettled) := by
  refine k.within h fun k => ?_
  unfold State.spadPut
  dsimp only
  refine Kept.withSpadMem (k.modTile (by decide) _ _) (by decide) _ ?_
  split
  · exact wf_putBytes _ _
  · exact wf_putBytes _ _

theorem Kept.spadWrite (k : Kept L s t) (h : reporting [.anatomy, .commonsMem, .spadMem, .tiles, .engines, .contexts,
    .network, .fabric, .power, .recovery] ⊆ L) (w l t' off d unsettled) :
    Kept L s (t.spadWrite w l t' off d unsettled).1 := by
  refine k.within h fun k => ?_
  unfold State.spadWrite
  dsimp only
  split
  · exact k
  · split
    · exact k
    · split
      · exact k.count (by decide) _ _ _ _
      · split
        · exact k
        · split
          · exact ((k.bankTurn (by decide) _ _ _ _ _ _).foldl (fun u a ku => ku.spadPut (by decide) _ _ _
                _)).spadPoison (by decide) _ _ _ _
          · exact (k.bankTurn (by decide) _ _ _ _ _ _).spadPut (by decide) _ _ _ _

theorem Kept.readAt (k : Kept L s t) (h : accessReach ⊆ L) (w t' len) : Kept L s (t.readAt w t' len).1 := by
  refine k.within h fun k => ?_
  unfold State.readAt
  split
  · split
    · exact k.stackRead (by decide) _ _ _ _
    · exact k
  · split
    · exact k.commonsRead (by decide) _ _ _ _
    · exact k
  · split
    · exact k.spadRead (by decide) _ _ _ _ _
    · exact k
  · exact k

theorem Kept.writeAt (k : Kept L s t) (h : accessReach ⊆ L) (w t' d unsettled) :
    Kept L s (t.writeAt w t' d unsettled).1 := by
  refine k.within h fun k => ?_
  unfold State.writeAt
  split
  · split
    · exact k
    · split
      · exact k
      · exact k.stackWrite (by decide) _ _ _ _
  · split
    · exact k.commonsWrite (by decide) _ _ _ _ _
    · exact k
  · split
    · exact k.spadWrite (by decide) _ _ _ _ _ _
    · exact k
  · exact k

theorem Kept.readFA (k : Kept L s t) (h : accessReach ⊆ L) (w a len) : Kept L s (t.readFA w a len).1 := by
  refine k.within h fun k => ?_
  unfold State.readFA
  split
  · exact k.readAt (by decide) _ _ _
  · exact k

theorem Kept.writeFA (k : Kept L s t) (h : accessReach ⊆ L) (w a d unsettled) :
    Kept L s (t.writeFA w a d unsettled).1 := by
  refine k.within h fun k => ?_
  unfold State.writeFA
  split
  · exact k.writeAt (by decide) _ _ _ _
  · exact k

theorem Kept.noteBank (k : Kept L s t) (h : [Part.tiles, .engines, .stacks] ⊆ L) (n x) :
    Kept L s (t.noteBank n x) := by
  refine k.within h fun k => ?_
  unfold State.noteBank
  split
  · exact k.modTile (by decide) _ _
  · exact k.modCommons (by decide) _ _
  · exact k.modStack (by decide) _ _

theorem Kept.noteClosed (k : Kept L s t) (h : [Part.tiles, .engines, .stacks] ⊆ L) (w a len n) :
    Kept L s (t.noteClosed w a len n) :=
  k.within h fun k => k.foldl (fun u a ku => ku.noteBank (by decide) _ _)

theorem Kept.unitFail (k : Kept L s t) (h : reporting [.tiles, .engines, .contexts, .network, .recovery] ⊆ L)
    (w a r n detail) :
    Kept L s (t.unitFail w a r n detail) := by
  refine k.within h fun k => ?_
  unfold State.unitFail
  dsimp only
  split
  · exact k
  · exact k.modCtx (by decide) _ _
  · refine Kept.ite ?_ (k.ite (((k.fault (by decide) _ _ _ _).needRestore (by decide) _).ite ((k.fault (by decide) _
        _ _ _).haltCtx (by decide) _)))
    refine Kept.ite ((k.fault (by decide) _ _ _ _).haltCtx (by decide) _) ?_
    split
    · exact k.count (by decide) _ _ _ _
    · exact k

theorem Kept.launch (k : Kept L s t) (h : [Part.counters, .network, .fabric, .messages] ⊆ L) (src dst p) :
    Kept L s (t.launch src dst p) := by
  refine k.within h fun k => ?_
  unfold State.launch
  dsimp only
  split
  · exact ((((k.count (by decide) _ _ _ _).countHigh (by decide) _ _ _ _).withNet (by decide) _).send (by decide)
        _).fabricOut (by decide) _ _ _
  · exact (((k.count (by decide) _ _ _ _).countHigh (by decide) _ _ _ _).withNet (by decide) _).send (by decide) _

theorem Kept.launchGroup (k : Kept L s t) (h : [Part.counters, .network, .messages] ⊆ L) (src m p) :
    Kept L s (t.launchGroup src m p) :=
  k.within h fun k => (((k.count (by decide) _ _ _ _).countHigh (by decide) _ _ _ _).withNet (by decide) _).send
      (by decide) _

theorem Kept.leave (k : Kept L s t) (h : [Part.counters, .network, .fabric, .messages] ⊆ L) (src dst p) :
    Kept L s (t.leave src dst p) := by
  refine k.within h fun k => ?_
  unfold State.leave
  split
  · exact k.launchGroup (by decide) _ _ _
  · exact k
  · exact k.launch (by decide) _ _ _

theorem Kept.regulate (k : Kept L s t) (h : [Part.counters, .network, .fabric, .messages] ⊆ L) (src dst p) :
    Kept L s (t.regulate src dst p) := by
  refine k.within h fun k => ?_
  unfold State.regulate
  dsimp only
  split
  · exact k.leave (by decide) _ _ _
  · split
    · exact (k.withNet (by decide) _).leave (by decide) _ _ _
    · exact (k.withNet (by decide) _).count (by decide) _ _ _ _

theorem Kept.inject (k : Kept L s t) (h : reporting [.network, .fabric] ⊆ L) (src dst p) :
    Kept L s (t.inject src dst p).1 := by
  refine k.within h fun k => ?_
  unfold State.inject
  dsimp only
  split
  · exact k.fault (by decide) _ _ _ _
  · split
    · exact k.fault (by decide) _ _ _ _
    · exact (k.withNet (by decide) _).regulate (by decide) _ _ _

theorem Kept.injectAway (k : Kept L s t) (h : reporting [.network, .fabric] ⊆ L) (src p) :
    Kept L s (t.injectAway src p).1 := by
  refine k.within h fun k => ?_
  unfold State.injectAway
  dsimp only
  split
  · dsimp only
    exact k.fault (by decide) _ _ _ _
  · exact (k.withNet (by decide) _).regulate (by decide) _ _ _

theorem Kept.injectGroup (k : Kept L s t) (h : [Part.counters, .network, .fabric, .messages] ⊆ L) (src g p) :
    Kept L s (t.injectGroup src g p) := by
  refine k.within h fun k => ?_
  unfold State.injectGroup
  dsimp only
  split
  · exact k
  · exact (k.withNet (by decide) _).regulate (by decide) _ _ _

theorem Kept.ctrl (k : Kept L s t) (h : [Part.counters, .messages] ⊆ L) (node op c field) :
    Kept L s (t.ctrl node op c field) :=
  k.within h fun k => (k.count (by decide) _ _ _ _).send (by decide) _

theorem Kept.countSync (k : Kept L s t) (h : [Part.counters] ⊆ L) (k' off) : Kept L s (t.countSync k' off) := by
  refine k.within h fun k => ?_
  unfold State.countSync
  split
  · exact k.count (by decide) _ _ _ _
  · exact k

theorem Kept.syncReply (k : Kept L s t) (h : [Part.counters, .fabric, .messages] ⊆ L) (r st w) :
    Kept L s (t.syncReply r st w) :=
  k.within h fun k => (k.send (by decide) _).ite (k.fabricOut (by decide) _ _ _)

theorem Kept.logSync (k : Kept L s t) (h : [Part.contexts] ⊆ L) (r op k' v) : Kept L s (t.logSync r op k' v) := by
  refine k.within h fun k => ?_
  unfold State.logSync
  dsimp only
  split
  · exact (k.modCtx (by decide) _ _).ite k
  · exact k

theorem Kept.syncBad (k : Kept L s t) (h : reporting [] ⊆ L) (r k') : Kept L s (t.syncBad r k').1 := by
  refine k.within h fun k => ?_
  unfold State.syncBad
  refine Kept.fault ?_ (by decide) _ _ _ _
  split
  · exact k.countSync (by decide) _ _
  · exact k.count (by decide) _ _ _ _

theorem Kept.syncDenied (k : Kept L s t) (h : reporting [] ⊆ L) (r k') : Kept L s (t.syncDenied r k').1 :=
  k.within h fun k => (k.countSync (by decide) _ _).fault (by decide) _ _ _ _

theorem Kept.fireCell (k : Kept L s t) (h : [Part.counters, .network, .fabric, .messages] ⊆ L) (k') :
    Kept L s (t.fireCell k') :=
  k.within h fun k => ((k.foldl (fun u a ku => ku.syncReply (by decide) _ _ _)).modCell (by decide) _ _).send
      (by decide) _

theorem Kept.arriveCell (k : Kept L s t) (h : [Part.counters, .network, .fabric, .messages] ⊆ L) (k' n) :
    Kept L s (t.arriveCell k' n) :=
  k.within h fun k => (((k.modCell (by decide) _ _).fireCell (by decide) _).ite ((k.modCell (by decide) _ _).send
      (by decide) _)).ite (k.modCell (by decide) _ _)

theorem Kept.releaseAt (k : Kept L s t) (h : [Part.counters, .network, .fabric, .messages] ⊆ L) (first n p) :
    Kept L s (t.releaseAt first n p) :=
  k.within h fun k => k.foldl (fun u a ku => ((ku.modCell (by decide) _ _).fireCell (by decide) _).ite ku)

theorem Kept.syncLost (k : Kept L s t) (h : reporting [] ⊆ L) (r dst) : Kept L s (t.syncLost r dst).1 :=
  k.within h fun k => k.fault (by decide) _ _ _ _

theorem Kept.syncOp (k : Kept L s t) (h : reporting [] ⊆ L) (r op operandOk) {f : Nat → State → State × SyncOut}
    (hf : ∀ n u, Kept L s u → Kept L s (f n u).1) : Kept L s (t.syncOp r op operandOk f).1 := by
  have hc : [Part.counters] ⊆ L := List.Subset.trans (by decide) h
  unfold State.syncOp
  split
  · exact k.syncBad h _ _
  split
  next c _ =>
    split
    · exact k.syncLost h _ _
    split
    · exact k.syncLost h _ _
    split
    · exact k.syncBad h _ _
    split
    · exact k.syncDenied h _ _
    split
    · exact k.syncDenied h _ _
    · exact hf _ _ (k.countSync hc _ _)
  · exact k.syncBad h _ _

theorem Kept.syncRead (k : Kept L s t) (k') : Kept L s (syncRead k' t).1 := k

theorem Kept.syncWrite (k : Kept L s t) (h : reporting [.network] ⊆ L) (r v k') :
    Kept L s (syncWrite r v k' t).1 := by
  refine k.within h fun k => ?_
  unfold Machine.syncWrite
  split
  · exact k.modCell (by decide) _ _
  · exact k.syncDenied (by decide) _ _

theorem Kept.syncInit (k : Kept L s t) (h : [Part.network] ⊆ L) (v k') : Kept L s (syncInit v k' t).1 :=
  k.within h fun k => k.modCell (by decide) _ _

theorem Kept.syncArrive (k : Kept L s t) (h : [Part.counters, .network, .fabric, .messages] ⊆ L) (v k') :
    Kept L s (syncArrive v k' t).1 :=
  k.within h fun k => k.arriveCell (by decide) _ _

theorem Kept.syncWait (k : Kept L s t) (h : [Part.counters, .network] ⊆ L) (r v k') :
    Kept L s (syncWait r v k' t).1 := by
  refine k.within h fun k => ?_
  unfold Machine.syncWait
  split
  · exact k
  · split
    · exact k.countSync (by decide) _ _
    · exact k.modCell (by decide) _ _

theorem Kept.syncFetchAdd (k : Kept L s t) (h : [Part.network] ⊆ L) (v k') : Kept L s (syncFetchAdd v k' t).1 :=
  k.within h fun k => k.modCell (by decide) _ _

theorem Kept.syncCas (k : Kept L s t) (h : [Part.network] ⊆ L) (v k') : Kept L s (syncCas v k' t).1 := by
  refine k.within h fun k => ?_
  unfold Machine.syncCas
  dsimp only
  split
  · exact k.modCell (by decide) _ _
  · exact k

theorem Kept.syncLink (k : Kept L s t) (h : reporting [.network] ⊆ L) (r v k') : Kept L s (syncLink r v k' t).1 := by
  refine k.within h fun k => ?_
  unfold Machine.syncLink
  split
  · split
    · exact k.modCell (by decide) _ _
    · exact k.syncDenied (by decide) _ _
  · exact k.modCell (by decide) _ _

theorem Kept.syncReadLink (k : Kept L s t) (k') : Kept L s (syncReadLink k' t).1 := k

theorem Kept.syncAnswer {x : State × SyncOut} (k : Kept L s x.1) (h : [Part.counters, .fabric, .messages] ⊆ L) (r) :
    Kept L s (syncAnswer r x) := by
  unfold Machine.syncAnswer
  split
  · exact (k.syncReply h _ _ _).withAnswer _
  · exact k.ok

theorem Kept.askCredit (k : Kept L s t) (h : [Part.counters, .tiles] ⊆ L) (r) : Kept L s (t.askCredit r) := by
  refine k.within h fun k => ?_
  unfold State.askCredit
  dsimp only
  split
  · exact (k.modTile (by decide) _ _).count (by decide) _ _ _ _
  · exact k.count (by decide) _ _ _ _
  · exact k

theorem Kept.creditedWrite (k : Kept L s t) (h : reporting [.anatomy, .commonsMem, .spadMem, .tiles, .engines,
    .contexts, .stacks, .network, .fabric, .power, .recovery] ⊆ L) (c node seq l t' off id d) :
    Kept L s (t.creditedWrite c node seq l t' off id d).1 := by
  refine k.within h fun k => ?_
  unfold State.creditedWrite
  dsimp only
  split
  · exact k
  · split
    · split
      · split
        next heq =>
          exact ((k.spadWrite (by decide) _ _ _ _ _ _).fst heq).modTile (by decide) _ _
        next heq =>
          exact ((k.spadWrite (by decide) _ _ _ _ _ _).fst heq).noteClosed (by decide) _ _ _ _
        · exact k.spadWrite (by decide) _ _ _ _ _ _
      · dsimp only
        exact (k.count (by decide) _ _ _ _).fault (by decide) _ _ _ _
    · split
      · exact k.count (by decide) _ _ _ _
      · dsimp only
        exact (k.count (by decide) _ _ _ _).fault (by decide) _ _ _ _

theorem Kept.takeCredits (k : Kept L s t) (h : [Part.counters, .tiles] ⊆ L) (l l2) :
    Kept L s (t.takeCredits l l2).1 := by
  suffices H : ∀ u, Kept [Part.counters, .tiles] t u → Kept [Part.counters, .tiles] t (u.takeCredits l l2).1 from
      k.step (H t Kept.refl) h
  induction l generalizing l2 with
  | nil =>
    intro u ku
    unfold State.takeCredits
    exact ku
  | cons a l ih =>
    intro u ku
    unfold State.takeCredits
    split
    · exact ih _ _ (ku.askCredit (by decide) _)
    · exact ku.askCredit (by decide) _

theorem Kept.giveBack (k : Kept L s t) (h : [Part.tiles] ⊆ L) (k' ids) : Kept L s (t.giveBack k' ids) :=
  k.within h fun k => k.modTile (by decide) _ _

theorem Kept.writeOut (k : Kept L s t) (h : accessReach ⊆ L) (w x a d unsettled) :
    Kept L s (t.writeOut w x a d unsettled).1 := by
  refine k.within h fun k => ?_
  unfold State.writeOut
  dsimp only
  split
  · split
    · exact k.writeFA (by decide) _ _ _ _
    · split
      · exact ((k.takeCredits (by decide) _ _).creditedWrite (by decide) _ _ _ _ _ _ _ _).giveBack (by decide) _ _
      · exact (k.takeCredits (by decide) _ _).giveBack (by decide) _ _
      · exact (k.takeCredits (by decide) _ _).giveBack (by decide) _ _
  · exact k.writeFA (by decide) _ _ _ _

theorem Kept.firewall (k : Kept L s t) (h : reporting [] ⊆ L) (h') : Kept L s (t.firewall h') :=
  k.within h fun k => (k.count (by decide) _ _ _ _).ite (((k.count (by decide) _ _ _ _).modSite (by decide) _
      _).fault (by decide) _ _ _ _)

theorem Kept.waitShard (k : Kept L s t) (h : [Part.contexts] ⊆ L) (c i) : Kept L s (t.waitShard c i) :=
  k.within h fun k => k.modCtx (by decide) _ _

theorem Kept.partResult (k : Kept L s t) (h : reporting [.tiles, .engines, .contexts, .stacks] ⊆ L) (h' c a n r) :
    Kept L s (t.partResult h' c a n r).1 := by
  refine k.within h fun k => ?_
  unfold State.partResult
  split
  · exact k
  · exact k.waitShard (by decide) _ _
  · split
    · exact k.noteClosed (by decide) _ _ _ _
    · split
      · exact k
      · dsimp only
        exact k.fault (by decide) _ _ _ _

theorem Kept.burstParts (k : Kept L s t) (h : accessReach ⊆ L) (h' c w got l) :
    Kept L s (t.burstParts h' c w got l).1 := by
  suffices H : ∀ u, Kept accessReach t u → Kept accessReach t (u.burstParts h' c w got l).1 from k.step (H t
      Kept.refl) h
  induction l generalizing h' c w got with
  | nil =>
    intro u ku
    unfold State.burstParts
    exact ku
  | cons a l ih =>
    intro u ku
    unfold State.burstParts
    dsimp only
    split
    · refine ih _ _ _ _ _ ?_
      refine Kept.partResult ?_ (by decide) _ _ _ _ _
      split
      · exact ku.writeOut (by decide) _ _ _ _ _
      · exact ku.readFA (by decide) _ _ _
    · refine Kept.partResult ?_ (by decide) _ _ _ _ _
      split
      · exact ku.writeOut (by decide) _ _ _ _ _
      · exact ku.readFA (by decide) _ _ _

theorem Kept.burst (k : Kept L s t) (h : accessReach ⊆ L) (h' a n w) : Kept L s (t.burst h' a n w).1 := by
  refine k.within h fun k => ?_
  unfold State.burst
  dsimp only
  split
  · exact k.firewall (by decide) _
  · split
    · dsimp only
      exact (k.count (by decide) _ _ _ _).fault (by decide) _ _ _ _
    · exact k.waitShard (by decide) _ _
    · exact k.burstParts (by decide) _ _ _ _ _

theorem Kept.modMover (k : Kept L s t) (h : [Part.hostSites] ⊆ L) (h' m f) : Kept L s (t.modMover h' m f) :=
  k.within h fun k => k.modSite (by decide) _ _

theorem Kept.moverTail (k : Kept L s t) (h : [Part.hostSites] ⊆ L) (h' m v) : Kept L s (t.moverTail h' m v) :=
  k.within h fun k => k.modMover (by decide) _ _ _

theorem Kept.moverResume (k : Kept L s t) (h : [Part.hostSites] ⊆ L) (h' m) : Kept L s (t.moverResume h' m) :=
  k.within h fun k => k.modMover (by decide) _ _ _

theorem Kept.putResult (k : Kept L s t) (h : [Part.hostSites] ⊆ L) (h' m slot st n code) :
    Kept L s (t.putResult h' m slot st n code) :=
  k.within h fun k => k.modMover (by decide) _ _ _

theorem Kept.moverAbort (k : Kept L s t) (h : [Part.counters, .hostSites, .messages] ⊆ L) (h' m) :
    Kept L s (t.moverAbort h' m) :=
  k.within h fun k => (k.foldl (fun u a ku => ((((ku.putResult (by decide) _ _ _ _ _ _).count (by decide) _ _ _
      _).count (by decide) _ _ _ _).doorbell (by decide) _ _).ite (((ku.putResult (by decide) _ _ _ _ _ _).count
      (by decide) _ _ _ _).count (by decide) _ _ _ _))).modMover (by decide) _ _ _

theorem Kept.setPort (k : Kept L s t) (h : [Part.hostSites] ⊆ L) (h' off v) : Kept L s (t.setPort h' off v).1 := by
  refine k.within h fun k => ?_
  unfold State.setPort
  split
  · exact k.modSite (by decide) _ _
  · exact k.modSite (by decide) _ _
  · split
    · exact k.modSite (by decide) _ _
    · exact k
  · dsimp only
    split
    · exact k.modSite (by decide) _ _
    · exact k
  · exact k

theorem Kept.setMover (k : Kept L s t) (h : [Part.counters, .hostSites, .messages] ⊆ L) (h' m off v) :
    Kept L s (t.setMover h' m off v) := by
  refine k.within h fun k => ?_
  unfold State.setMover
  dsimp only
  split
  · exact k.moverTail (by decide) _ _ _
  · exact (((k.moverResume (by decide) _ _).ite k).moverAbort (by decide) _ _).ite ((k.moverResume (by decide) _
        _).ite k)
  · exact k.modMover (by decide) _ _ _
  · exact k

theorem Kept.setHubWord (k : Kept L s t) (h : [Part.counters, .hostSites, .messages] ⊆ L) (h' off v) :
    Kept L s (t.setHubWord h' off v).1 := by
  refine k.within h fun k => ?_
  unfold State.setHubWord
  split
  · exact k.setPort (by decide) _ _ _
  · exact k.setMover (by decide) _ _ _ _

theorem Kept.hubWrite (k : Kept L s t) (h : [Part.counters, .hostSites, .messages] ⊆ L) (h' off d) :
    Kept L s (t.hubWrite h' off d).1 := by
  refine k.within h fun k => ?_
  unfold State.hubWrite
  dsimp only
  split
  · exact k.foldl (fun u a ku => ku.modMover (by decide) _ _ _)
  · exact k.foldl_fst (fun u a ku => ku.setHubWord (by decide) _ _ _)

theorem Kept.access (k : Kept L s t) (h : accessReach ⊆ L) (h' n x) : Kept L s (t.access h' n x).1 := by
  suffices H : ∀ u, Kept accessReach t u → Kept accessReach t (u.access h' n x).1 from k.step (H t Kept.refl) h
  induction n generalizing h' x with
  | zero =>
    intro u ku
    unfold State.access
    exact ku
  | succ n ih =>
    intro u ku
    unfold State.access
    dsimp only
    split
    · exact ku
    · split
      next heq =>
        refine ih _ _ _ ?_
        split
        · exact (((ku.burst (by decide) _ _ _ _).fst heq).countHigh (by decide) _ _ _ _).modSite (by decide) _ _
        · exact ((ku.burst (by decide) _ _ _ _).fst heq).countHigh (by decide) _ _ _ _
      next heq =>
        exact (ku.burst (by decide) _ _ _ _).fst heq
      next heq =>
        exact (ku.burst (by decide) _ _ _ _).fst heq

theorem Kept.badHost (k : Kept L s t) (h : reporting [] ⊆ L) (h' detail) : Kept L s (t.badHost h' detail) :=
  k.within h fun k => k.fault (by decide) _ _ _ _

theorem Kept.hostServe (k : Kept L s t) (h : accessReach ⊆ L) (h' q) : Kept L s (t.hostServe h' q).1 := by
  refine k.within h fun k => ?_
  unfold State.hostServe
  dsimp only
  split
  · exact k.firewall (by decide) _
  · split
    · split
      · exact k.hubWrite (by decide) _ _ _
      · exact (k.hubWrite (by decide) _ _ _).badHost (by decide) _ _
    · exact k
  · split
    · exact k.badHost (by decide) _ _
    · exact k.access (by decide) _ _ _
  · exact k.badHost (by decide) _ _

theorem Kept.hostDone (k : Kept L s t) (h : [Part.counters, .hostSites, .messages] ⊆ L) (h' q st code) :
    Kept L s (t.hostDone h' q st code) := by
  refine k.within h fun k => ?_
  unfold State.hostDone
  dsimp only
  split
  · split
    · exact (k.count (by decide) _ _ _ _).status _
    · exact (((k.count (by decide) _ _ _ _).count (by decide) _ _ _ _).portError (by decide) _ _ _).withAnswer _
  · refine Kept.withAnswer ?_ _
    refine Kept.send ?_ (by decide) _
    refine Kept.count ?_ (by decide) _ _ _ _
    split
    · exact k
    · exact k.count (by decide) _ _ _ _

theorem Kept.drainSite (k : Kept L s t) (h : accessReach ⊆ L) (h' n) : Kept L s (t.drainSite h' n) := by
  suffices H : ∀ u, Kept accessReach t u → Kept accessReach t (u.drainSite h' n) from k.step (H t Kept.refl) h
  induction n generalizing h' with
  | zero =>
    intro u ku
    unfold State.drainSite
    exact ku
  | succ n ih =>
    intro u ku
    unfold State.drainSite
    split
    · exact ku
    · split
      next heq =>
        exact ((ku.hostServe (by decide) _ _).fst heq).modSite (by decide) _ _
      next heq =>
        exact ih _ _ ((((ku.hostServe (by decide) _ _).fst heq).modSite (by decide) _ _).hostDone (by decide) _ _ _ _)

theorem Kept.drainSites (k : Kept L s t) (h : accessReach ⊆ L) : Kept L s (t.drainSites) :=
  k.within h fun k => k.foldl (fun u a ku => (ku.modSite (by decide) _ _).drainSite (by decide) _ _)

theorem Kept.hostPush (k : Kept L s t) (h : accessReach ⊆ L) (h' q) : Kept L s (t.hostPush h' q) :=
  k.within h fun k => (k.ok.modSite (by decide) _ _).drainSite (by decide) _ _

theorem Kept.fetchMover (k : Kept L s t) (h : reporting [] ⊆ L) (h' m) : Kept L s (t.fetchMover h' m) :=
  k.within h fun k => (k.modMover (by decide) _ _ _).ite ((k.modMover (by decide) _ _ _).fault (by decide) _ _ _ _)

theorem Kept.moverBurst (k : Kept L s t) (h : accessReach ⊆ L) (h' m d n w) :
    Kept L s (t.moverBurst h' m d n w).1 := by
  refine k.within h fun k => ?_
  unfold State.moverBurst
  dsimp only
  split
  next heq =>
    dsimp only
    split
    · exact (((k.burst (by decide) _ _ _ _).fst heq).modMover (by decide) _ _ _).countHigh (by decide) _ _ _ _
    · exact ((((k.burst (by decide) _ _ _ _).fst heq).modMover (by decide) _ _ _).countHigh (by decide) _ _ _ _).send
          (by decide) _
  next heq =>
    exact ((k.burst (by decide) _ _ _ _).fst heq).modMover (by decide) _ _ _
  next heq =>
    exact ((k.burst (by decide) _ _ _ _).fst heq).modMover (by decide) _ _ _

theorem Kept.failSites (k : Kept L s t) (h : accessReach ⊆ L) (c i) : Kept L s (t.failSites c i) := by
  refine k.within h fun k => ?_
  unfold State.failSites
  refine Kept.foldl k ?_
  dsimp only
  intro u a ku
  split
  · exact ((((ku.modSite (by decide) _ _).modSite (by decide) _ _).hostDone (by decide) _ _ _ _).drainSite
        (by decide) _ _).ite (ku.modSite (by decide) _ _)
  · exact ku.modSite (by decide) _ _

theorem Kept.windowPut (k : Kept L s t) (h : [Part.counters, .spadMem, .tiles] ⊆ L) (key g i d) :
    Kept L s (t.windowPut key g i d) := by
  refine k.within h fun k => ?_
  unfold State.windowPut
  dsimp only
  split
  · exact k
  · exact k.ite ((k.bankTurn (by decide) _ _ _ _ _ _).spadPut (by decide) _ _ _ _)

theorem Kept.windowGet (k : Kept L s t) (h : reporting [.anatomy, .commonsMem, .spadMem, .tiles, .engines, .contexts,
    .network, .fabric, .power, .recovery] ⊆ L) (key g i t') :
    Kept L s (t.windowGet key g i t').1 := by
  refine k.within h fun k => ?_
  unfold State.windowGet
  dsimp only
  split
  · exact k
  · split
    · exact k
    · split
      · exact k.bankTurn (by decide) _ _ _ _ _ _
      · exact (k.bankTurn (by decide) _ _ _ _ _ _).spadCorrect (by decide) _ _ _ _

theorem Kept.refill (k : Kept L s t) (h : reporting [.anatomy, .commonsMem, .spadMem, .tiles, .engines, .contexts,
    .network, .fabric, .power, .recovery] ⊆ L) (key n) :
    Kept L s (t.refill key n) := by
  suffices H : ∀ u, Kept (reporting [.anatomy, .commonsMem, .spadMem, .tiles, .engines, .contexts, .network, .fabric,
      .power, .recovery]) t u → Kept (reporting [.anatomy, .commonsMem, .spadMem, .tiles, .engines, .contexts,
      .network, .fabric, .power, .recovery]) t (u.refill key n) from k.step (H t Kept.refl) h
  induction n generalizing key with
  | zero =>
    intro u ku
    unfold State.refill
    exact ku
  | succ n ih =>
    intro u ku
    unfold State.refill
    dsimp only
    split
    · exact (ih _ _ ((ku.windowGet (by decide) _ _ _ _).modQueue (by decide) _ _)).ite ku
    · exact ku

theorem Kept.pushQueue (k : Kept L s t) (h : [Part.counters, .spadMem, .tiles, .contexts] ⊆ L) (key t') :
    Kept L s (t.pushQueue key t') := by
  refine k.within h fun k => ?_
  unfold State.pushQueue
  dsimp only
  split
  · exact k
  · exact (((k.windowPut (by decide) _ _ _ _).modQueue (by decide) _ _).ite (k.modQueue (by decide) _ _)).ite
        ((((((k.windowPut (by decide) _ _ _ _).modQueue (by decide) _ _).ite (k.modQueue (by decide) _ _)).countMax
        (by decide) _ _ _ _).count (by decide) _ _ _ _).ite ((((k.windowPut (by decide) _ _ _ _).modQueue (by decide)
        _ _).ite (k.modQueue (by decide) _ _)).countMax (by decide) _ _ _ _))

theorem Kept.returnCredit (k : Kept L s t) (h : [Part.counters, .contexts, .messages] ⊆ L) (key n) :
    Kept L s (t.returnCredit key n) := by
  refine k.within h fun k => ?_
  unfold State.returnCredit
  split
  · exact k
  · exact (k.modQueue (by decide) _ _).ite (k.foldl (fun u a ku => ku.ctrl (by decide) _ _ _ _))

theorem Kept.popQueue (k : Kept L s t) (h : reporting [.anatomy, .commonsMem, .spadMem, .tiles, .engines, .contexts,
    .network, .fabric, .power, .recovery] ⊆ L) (key) :
    Kept L s (t.popQueue key) :=
  k.within h fun k => ((k.modQueue (by decide) _ _).refill (by decide) _ _).returnCredit (by decide) _ _

theorem Kept.dropTokens (k : Kept L s t) (h : reporting [.anatomy, .commonsMem, .spadMem, .tiles, .engines,
    .contexts, .network, .fabric, .power, .recovery] ⊆ L) (key p) :
    Kept L s (t.dropTokens key p).1 := by
  refine k.within h fun k => ?_
  unfold State.dropTokens
  dsimp only
  split
  · exact k
  · exact ((k.modQueue (by decide) _ _).refill (by decide) _ _).returnCredit (by decide) _ _

theorem Kept.clearHead (k : Kept L s t) (h : reporting [.anatomy, .commonsMem, .spadMem, .tiles, .engines, .contexts,
    .network, .fabric, .power, .recovery] ⊆ L) (c d u' role port n) :
    Kept L s (t.clearHead c d u' role port n) := by
  suffices H : ∀ u, Kept (reporting [.anatomy, .commonsMem, .spadMem, .tiles, .engines, .contexts, .network, .fabric,
      .power, .recovery]) t u → Kept (reporting [.anatomy, .commonsMem, .spadMem, .tiles, .engines, .contexts,
      .network, .fabric, .power, .recovery]) t (u.clearHead c d u' role port n) from k.step (H t Kept.refl) h
  induction n generalizing c d u' role port with
  | zero =>
    intro u ku
    unfold State.clearHead
    exact ku
  | succ n ih =>
    intro u ku
    unfold State.clearHead
    dsimp only
    split
    · exact ku
    · split
      · exact ku
      · exact (ih _ _ _ _ _ _ ((ku.popQueue (by decide) _).modUnit (by decide) _ _)).ite ku
      · exact ((ku.popQueue (by decide) _).fault (by decide) _ _ _ _).haltCtx (by decide) _
      · exact ((ku.popQueue (by decide) _).fault (by decide) _ _ _ _).haltCtx (by decide) _
      · exact ih _ _ _ _ _ _ ((ku.popQueue (by decide) _).ite (((ku.popQueue (by decide) _).count (by decide) _ _ _
            _).count (by decide) _ _ _ _))
      · exact ih _ _ _ _ _ _ (((ku.popQueue (by decide) _).ite ((ku.popQueue (by decide) _).count (by decide) _ _ _
            _)).ite ((((ku.popQueue (by decide) _).ite ((ku.popQueue (by decide) _).count (by decide) _ _ _ _)).event
            (by decide) _ _ _ _).modUnit (by decide) _ _))

theorem Kept.heads (k : Kept L s t) (h : reporting [.anatomy, .commonsMem, .spadMem, .tiles, .engines, .contexts,
    .network, .fabric, .power, .recovery] ⊆ L) (c d u' g) :
    Kept L s (t.heads c d u' g).1 :=
  k.within h fun k => k.foldl (fun u a ku => ku.clearHead (by decide) _ _ _ _ _ _)

theorem Kept.consume (k : Kept L s t) (h : reporting [.anatomy, .commonsMem, .spadMem, .tiles, .engines, .contexts,
    .network, .fabric, .power, .recovery] ⊆ L) (c d u' i t') :
    Kept L s (t.consume c d u' i t') := by
  refine k.within h fun k => ?_
  unfold State.consume
  refine Kept.ite ?_ ?_
  · refine Kept.needRestore ?_ (by decide) _
    refine Kept.fault ?_ (by decide) _ _ _ _
    refine Kept.count ?_ (by decide) _ _ _ _
    refine Kept.popQueue ?_ (by decide) _
    refine Kept.ite k ?_
    split
    · exact k.count (by decide) _ _ _ _
    · exact k.count (by decide) _ _ _ _
  · refine Kept.count ?_ (by decide) _ _ _ _
    refine Kept.popQueue ?_ (by decide) _
    refine Kept.ite k ?_
    split
    · exact k.count (by decide) _ _ _ _
    · exact k.count (by decide) _ _ _ _

theorem Kept.outWait (k : Kept L s t) (h : [Part.counters] ⊆ L) (d u' g) : Kept L s (t.outWait d u' g) :=
  k.within h fun k => (k.count (by decide) _ _ _ _).foldl (fun u a ku => (ku.count (by decide) _ _ _ _).ite ku)

theorem Kept.emitTo (k : Kept L s t) (h : reporting [.spadMem, .tiles, .contexts, .network, .fabric] ⊆ L)
    (c d u' q t' alone) :
    Kept L s (t.emitTo c d u' q t' alone) := by
  refine k.within h fun k => ?_
  unfold State.emitTo
  dsimp only
  split
  · exact k
  · exact ((k.count (by decide) _ _ _ _).fault (by decide) _ _ _ _).ite (((k.modQueue (by decide) _ _).pushQueue
        (by decide) _ _).ite (((k.modQueue (by decide) _ _).inject (by decide) _ _ _).ite (k.modQueue (by decide) _
        _)))

theorem Kept.emit (k : Kept L s t) (h : reporting [.spadMem, .tiles, .contexts, .network, .fabric] ⊆ L)
    (c d u' g port t') :
    Kept L s (t.emit c d u' g port t') := by
  refine k.within h fun k => ?_
  unfold State.emit
  dsimp only
  split
  · exact k.foldl (fun u a ku => ku.emitTo (by decide) _ _ _ _ _ _)
  · exact ((k.foldl (fun u a ku => ku.emitTo (by decide) _ _ _ _ _ _)).injectGroup (by decide) _ _ _).ite (k.foldl
        (fun u a ku => ku.emitTo (by decide) _ _ _ _ _ _))

theorem Kept.countPage (k : Kept L s t) (h : [Part.counters] ⊆ L) (rec_ tag ovf fall) :
    Kept L s (t.countPage rec_ tag ovf fall) :=
  k.within h fun k => (((((k.count (by decide) _ _ _ _).ite k).count (by decide) _ _ _ _).ite ((k.count (by decide) _
      _ _ _).ite k)).ite (((((k.count (by decide) _ _ _ _).ite k).count (by decide) _ _ _ _).ite ((k.count
      (by decide) _ _ _ _).ite k)).count (by decide) _ _ _ _)).ite ((((((k.count (by decide) _ _ _ _).ite k).count
      (by decide) _ _ _ _).ite ((k.count (by decide) _ _ _ _).ite k)).ite (((((k.count (by decide) _ _ _ _).ite
      k).count (by decide) _ _ _ _).ite ((k.count (by decide) _ _ _ _).ite k)).count (by decide) _ _ _ _)).count
      (by decide) _ _ _ _)

theorem Kept.writeTagged (k : Kept L s t) (h : accessReach ⊆ L) (w y x p tag d) :
    Kept L s (t.writeTagged w y x p tag d).1 := by
  refine k.within h fun k => ?_
  unfold State.writeTagged
  dsimp only
  split
  · split
    next heq =>
      split
      next heq2 =>
        dsimp only
        refine Kept.fst ?_ heq2
        refine Kept.writeOut ?_ (by decide) _ _ _ _ _
        refine Kept.fst ?_ heq
        refine Kept.readFA ?_ (by decide) _ _ _
        split
        · exact k
        · exact k.writeOut (by decide) _ _ _ _ _
      next heq2 =>
        refine Kept.unitFail ?_ (by decide) _ _ _ _ _
        refine Kept.fst ?_ heq2
        refine Kept.writeOut ?_ (by decide) _ _ _ _ _
        refine Kept.fst ?_ heq
        refine Kept.readFA ?_ (by decide) _ _ _
        split
        · exact k
        · exact k.writeOut (by decide) _ _ _ _ _
    next heq =>
      refine Kept.unitFail ?_ (by decide) _ _ _ _ _
      refine Kept.fst ?_ heq
      refine Kept.readFA ?_ (by decide) _ _ _
      split
      · exact k
      · exact k.writeOut (by decide) _ _ _ _ _
  · refine Kept.unitFail ?_ (by decide) _ _ _ _ _
    split
    · exact k
    · exact k.writeOut (by decide) _ _ _ _ _

theorem Kept.writePage (k : Kept L s t) (h : accessReach ⊆ L) (w y x rec_ p d) :
    Kept L s (t.writePage w y x rec_ p d).1 := by
  refine k.within h fun k => ?_
  unfold State.writePage
  dsimp only
  split
  next heq =>
    exact ((k.writeTagged (by decide) _ _ _ _ _ _).fst heq).countPage (by decide) _ _ _ _
  · exact k.writeTagged (by decide) _ _ _ _ _ _

theorem Kept.writePages (k : Kept L s t) (h : accessReach ⊆ L) (w y x rec_ n l) :
    Kept L s (t.writePages w y x rec_ n l).1 := by
  refine k.step ?_ h
  suffices H : ∀ u, Kept accessReach t u → Kept accessReach t (u.writePages w y x rec_ n l).1 from H t Kept.refl
  induction l generalizing n with
  | nil => exact fun u ku => ku
  | cons d l ih =>
    intro u ku
    have hp := ku.writePage (by decide) w y x rec_ n d
    unfold State.writePages
    split
    next heq => exact ih _ _ (hp.fst heq)
    next => exact hp

theorem Kept.sparseFault (k : Kept L s t) (h : reporting [.contexts] ⊆ L) (c d u' rec_ page bad) :
    Kept L s (t.sparseFault c d u' rec_ page bad) := by
  refine k.within h fun k => ?_
  unfold State.sparseFault
  dsimp only
  split
  · exact k
  · exact (((((k.count (by decide) _ _ _ _).count (by decide) _ _ _ _).count (by decide) _ _ _ _).foldl (fun u a ku
        => ku.ite ((ku.fault (by decide) _ _ _ _).modUnit (by decide) _ _))).haltCtx (by decide) _).ite ((((k.count
        (by decide) _ _ _ _).count (by decide) _ _ _ _).count (by decide) _ _ _ _).foldl (fun u a ku => ku.ite
        ((ku.fault (by decide) _ _ _ _).modUnit (by decide) _ _)))

theorem Kept.readPage (k : Kept L s t) (h : accessReach ⊆ L) (w x rec_ p) : Kept L s (t.readPage w x rec_ p).1 := by
  refine k.within h fun k => ?_
  unfold State.readPage
  dsimp only
  split
  next heq =>
    split
    · exact ((k.readFA (by decide) _ _ _).fst heq).count (by decide) _ _ _ _
    · split
      next heq2 =>
        exact ((((k.readFA (by decide) _ _ _).fst heq).count (by decide) _ _ _ _).readFA (by decide) _ _ _).fst heq2
      next heq2 =>
        exact ((((k.readFA (by decide) _ _ _).fst heq).count (by decide) _ _ _ _).readFA (by decide) _ _ _).fst heq2
  next heq =>
    exact (k.readFA (by decide) _ _ _).fst heq

theorem Kept.writeBack (k : Kept L s t) (h : accessReach ⊆ L) (who rec_ l) : Kept L s (t.writeBack who rec_ l).1 := by
  refine k.within h fun k => ?_
  unfold State.writeBack
  split
  · exact (k.count (by decide) _ _ _ _).writeFA (by decide) _ _ _ _
  · exact k

theorem Kept.cacheMiss (k : Kept L s t) (h : accessReach ⊆ L) (who rec_ k' a whole) :
    Kept L s (t.cacheMiss who rec_ k' a whole).1 := by
  refine k.within h fun k => ?_
  unfold State.cacheMiss
  dsimp only
  split
  next heq =>
    split
    · exact ((k.count (by decide) _ _ _ _).writeBack (by decide) _ _ _).fst heq
    · split
      next heq2 =>
        exact ((((k.count (by decide) _ _ _ _).writeBack (by decide) _ _ _).fst heq).readFA (by decide) _ _ _).fst
            heq2
      next heq2 =>
        exact ((((k.count (by decide) _ _ _ _).writeBack (by decide) _ _ _).fst heq).readFA (by decide) _ _ _).fst
            heq2
  next heq =>
    exact ((k.count (by decide) _ _ _ _).writeBack (by decide) _ _ _).fst heq

theorem Kept.cacheAccess (k : Kept L s t) (h : accessReach ⊆ L) (who rec_ k' a put len) :
    Kept L s (t.cacheAccess who rec_ k' a put len).1 := by
  refine k.within h fun k => ?_
  unfold State.cacheAccess
  dsimp only
  split
  · exact (k.count (by decide) _ _ _ _).modTile (by decide) _ _
  · split
    next heq =>
      exact ((k.cacheMiss (by decide) _ _ _ _ _).fst heq).modTile (by decide) _ _
    next heq =>
      exact (k.cacheMiss (by decide) _ _ _ _ _).fst heq

theorem Kept.cached (k : Kept L s t) (h : accessReach ⊆ L) (who rec_ k' a put len n) :
    Kept L s (t.cached who rec_ k' a put len n).1 := by
  suffices H : ∀ u, Kept accessReach t u → Kept accessReach t (u.cached who rec_ k' a put len n).1 from k.step (H t
      Kept.refl) h
  induction n generalizing who rec_ k' a put len with
  | zero =>
    intro u ku
    unfold State.cached
    exact ku
  | succ n ih =>
    intro u ku
    unfold State.cached
    dsimp only
    split
    · exact ku
    · split
      · split
        · split
          · exact ku.writeFA (by decide) _ _ _ _
          · exact ku.readFA (by decide) _ _ _
        · split
          next heq =>
            split
            next heq2 =>
              exact (ih _ _ _ _ _ _ _ ((ku.cacheAccess (by decide) _ _ _ _ _ _).fst heq)).fst heq2
            · exact ih _ _ _ _ _ _ _ ((ku.cacheAccess (by decide) _ _ _ _ _ _).fst heq)
          · exact ku.cacheAccess (by decide) _ _ _ _ _ _
      · split
        · split
          · exact ku.writeFA (by decide) _ _ _ _
          · exact ku.readFA (by decide) _ _ _
        · split
          next heq =>
            split
            next heq2 =>
              exact (ih _ _ _ _ _ _ _ ((ku.cacheAccess (by decide) _ _ _ _ _ _).fst heq)).fst heq2
            · exact ih _ _ _ _ _ _ _ ((ku.cacheAccess (by decide) _ _ _ _ _ _).fst heq)
          · exact ku.cacheAccess (by decide) _ _ _ _ _ _

theorem Kept.cacheLineOp (k : Kept L s t) (h : accessReach ⊆ L) (who rec_ k' op p) :
    Kept L s (t.cacheLineOp who rec_ k' op p).1 := by
  refine k.within h fun k => ?_
  unfold State.cacheLineOp
  dsimp only
  split
  · refine Kept.modTile ?_ (by decide) _ _
    split
    · exact k
    · exact k.writeBack (by decide) _ _ _
  · refine Kept.unitFail ?_ (by decide) _ _ _ _ _
    split
    · exact k
    · exact k.writeBack (by decide) _ _ _

theorem Kept.cacheRange (k : Kept L s t) (h : accessReach ⊆ L) (who rec_ k' op p) :
    Kept L s (t.cacheRange who rec_ k' op p).1 :=
  k.within h fun k => k.foldl_fst (fun u a ku => ku.cacheLineOp (by decide) _ _ _ _ _)

theorem Kept.resizeCache (k : Kept L s t) (h : accessReach ⊆ L) (who rec_ k' steps) :
    Kept L s (t.resizeCache who rec_ k' steps) := by
  refine k.within h fun k => ?_
  unfold State.resizeCache
  dsimp only
  split
  · exact k
  · exact ((k.cacheRange (by decide) _ _ _ _ _).modTile (by decide) _ _).withSpadMem (by decide) _ (wf_zeroRange _ _)

theorem Kept.creditRequest (k : Kept L s t) (h : [Part.counters, .tiles, .messages] ⊆ L) (r) :
    Kept L s (t.creditRequest r) :=
  k.within h fun k => ((k.askCredit (by decide) _).withTiles (by decide) _).ctrl (by decide) _ _ _ _

theorem Kept.noteHeld (k : Kept L s t) (h : reporting [.tiles, .engines, .contexts, .network, .recovery] ⊆ L)
    (w a r) :
    Kept L s (t.noteHeld w a r) := by
  refine k.within h fun k => ?_
  unfold State.noteHeld
  split
  · exact k.unitFail (by decide) _ _ _ _ _
  · exact k

theorem Kept.epeek (k : Kept L s t) (h : accessReach ⊆ L) (w a n) : Kept L s (t.epeek w a n).1 := by
  refine k.within h fun k => ?_
  unfold State.epeek
  split
  · exact k
  · split
    next heq =>
      exact (k.readFA (by decide) _ _ _).fst heq
    next heq =>
      exact ((k.readFA (by decide) _ _ _).fst heq).noteHeld (by decide) _ _ _

theorem Kept.eread (k : Kept L s t) (h : accessReach ⊆ L) (w a n) : Kept L s (t.eread w a n).1 := by
  refine k.within h fun k => ?_
  unfold State.eread
  split
  next heq =>
    exact ((k.epeek (by decide) _ _ _).fst heq).countHigh (by decide) _ _ _ _
  · exact k.epeek (by decide) _ _ _

theorem Kept.ewrite (k : Kept L s t) (h : accessReach ⊆ L) (w a d unsettled) :
    Kept L s (t.ewrite w a d unsettled).1 := by
  refine k.within h fun k => ?_
  unfold State.ewrite
  dsimp only
  split
  · exact k
  · split
    · split
      · refine Kept.giveBack ?_ (by decide) _ _
        split
        next heq =>
          exact (((k.takeCredits (by decide) _ _).writeFA (by decide) _ _ _ _).fst heq).countHigh (by decide) _ _ _ _
        next heq =>
          exact (((k.takeCredits (by decide) _ _).writeFA (by decide) _ _ _ _).fst heq).noteHeld (by decide) _ _ _
      · exact (k.takeCredits (by decide) _ _).giveBack (by decide) _ _
      · exact (k.takeCredits (by decide) _ _).giveBack (by decide) _ _
    · split
      next heq =>
        exact ((k.writeFA (by decide) _ _ _ _).fst heq).countHigh (by decide) _ _ _ _
      next heq =>
        exact ((k.writeFA (by decide) _ _ _ _).fst heq).noteHeld (by decide) _ _ _

theorem Kept.meets (k : Kept L s t) (h : accessReach ⊆ L) (w a n d) : Kept L s (t.meets w a n d) := by
  refine k.within h fun k => ?_
  unfold State.meets
  split
  · exact k.eread (by decide) _ _ _
  · exact k.ewrite (by decide) _ _ _ _

theorem Kept.runUnits (k : Kept L s t) (h : accessReach ⊆ L) {f : Nat → List Nat → State → State × List Nat × Option
    Stop}
    (hf : ∀ i l u, Kept L s u → Kept L s (f i l u).1) (w n i l) : Kept L s (runUnits f w n i l t).1 := by
  induction n generalizing i l t with
  | zero => exact k
  | succ n ih =>
    have hu := hf i l t k
    unfold Machine.runUnits
    split
    next heq => exact ih (hu.fst heq) _ _
    next => exact k.meets h _ _ _ _
    next heq => exact hu.fst heq

theorem Kept.unitMap (k : Kept L s t) (h : accessReach ⊆ L) (w src n dst f) :
    Kept L s (t.unitMap w src n dst f).1 := by
  refine k.within h fun k => ?_
  unfold State.unitMap
  split
  next heq =>
    exact ((k.eread (by decide) _ _ _).fst heq).ewrite (by decide) _ _ _ _
  next heq =>
    exact (k.eread (by decide) _ _ _).fst heq

theorem Kept.setEngSr (k : Kept L s t) (h : [Part.engines] ⊆ L) (k' c g) : Kept L s (t.setEngSr k' c g) :=
  k.within h fun k => k.modEngine (by decide) _ _

theorem Kept.engConv (k : Kept L s t) (h : [Part.counters, .engines] ⊆ L) (w fmt conv vs) :
    Kept L s (t.engConv w fmt conv vs).1 :=
  k.within h fun k => (k.setEngSr (by decide) _ _ _).countConv (by decide) _ _

theorem Kept.readVals (k : Kept L s t) (h : accessReach ⊆ L) (w f a sc i m) :
    Kept L s (t.readVals w f a sc i m).1 := by
  refine k.within h fun k => ?_
  unfold State.readVals
  dsimp only
  split
  next heq =>
    exact (k.eread (by decide) _ _ _).fst heq
  next heq =>
    split
    · exact (k.eread (by decide) _ _ _).fst heq
    · split
      next heq2 =>
        exact (((k.eread (by decide) _ _ _).fst heq).eread (by decide) _ _ _).fst heq2
      next heq2 =>
        exact ((((k.eread (by decide) _ _ _).fst heq).eread (by decide) _ _ _).fst heq2).countConv (by decide) _ _

theorem Kept.putVals (k : Kept L s t) (h : accessReach ⊆ L) (w g conv a sc i vs) :
    Kept L s (t.putVals w g conv a sc i vs).1 := by
  refine k.within h fun k => ?_
  unfold State.putVals
  dsimp only
  split
  next heq =>
    split
    · exact (((k.engConv (by decide) _ _ _ _).ewrite (by decide) _ _ _ _).fst heq).ewrite (by decide) _ _ _ _
    · exact ((k.engConv (by decide) _ _ _ _).ewrite (by decide) _ _ _ _).fst heq
  · exact (k.engConv (by decide) _ _ _ _).ewrite (by decide) _ _ _ _

theorem Kept.readF32 (k : Kept L s t) (h : accessReach ⊆ L) (w a i dflt) : Kept L s (t.readF32 w a i dflt).1 := by
  refine k.within h fun k => ?_
  unfold State.readF32
  split
  · exact k
  · split
    next heq =>
      exact (k.eread (by decide) _ _ _).fst heq
    next heq =>
      exact (k.eread (by decide) _ _ _).fst heq

theorem Kept.normVals (k : Kept L s t) (h : accessReach ⊆ L) (w x j vs) : Kept L s (State.normVals w x j vs t).1 := by
  induction vs generalizing j t with
  | nil => exact k
  | cons v vs ih =>
    unfold State.normVals
    extract_lets a at'
    have h1 : Kept L s (if j % a = 0 then t.eread w at' 8 else t.epeek w.who at' 8).1 :=
      (k.eread h _ _ _).ite_fst (k.epeek (List.Subset.trans (by decide) h) _ _ _)
    split
    next heq => exact h1.fst heq
    next heq =>
    have h2 := (h1.fst heq).readF32 h w (x.getD 5 0) (j % a) 0x3F800000
    split
    next heq => exact h2.fst heq
    next heq =>
    have h3 := (h2.fst heq).readF32 h w (x.getD 6 0) (j % a) 0
    split
    next heq => exact h3.fst heq
    next heq =>
    have h4 := ih (h3.fst heq) (j + 1)
    extract_lets y
    split
    next heq => exact h4.fst heq
    next => exact h4

theorem Kept.peekRec (k : Kept L s t) (h : accessReach ⊆ L) (w a i) : Kept L s (t.peekRec w a i).1 := by
  refine k.within h fun k => ?_
  unfold State.peekRec
  split
  next heq =>
    exact (k.epeek (by decide) _ _ _).fst heq
  next heq =>
    exact (k.epeek (by decide) _ _ _).fst heq

theorem Kept.mergeHead (k : Kept L s t) (h : accessReach ⊆ L) (w a ty desc rs i base b) :
    Kept L s (State.mergeHead w a ty desc rs i base b t).1 := by
  induction rs generalizing i base b t with
  | nil => exact k
  | cons r rs ih =>
    obtain ⟨len, n⟩ := r
    unfold State.mergeHead
    split
    · have h1 := k.peekRec h w a (base + n)
      split
      next heq => exact h1.fst heq
      next heq => exact ih (h1.fst heq) _ _ _
    · exact ih k _ _ _

theorem Kept.mergeUnit (k : Kept L s t) (h : accessReach ⊆ L) (sum w x i k') :
    Kept L s (mergeUnit sum w x i k' t).1 := by
  refine k.within h fun k => ?_
  unfold Machine.mergeUnit
  dsimp only
  split
  next heq =>
    dsimp only
    refine Kept.fst ?_ heq
    split
    · exact k.eread (by decide) _ _ _
    · exact k
  next heq =>
    split
    · split
      · split
        next heq2 =>
          dsimp only
          refine Kept.fst ?_ heq2
          refine Kept.ewrite ?_ (by decide) _ _ _ _
          refine Kept.fst ?_ heq
          split
          · exact k.eread (by decide) _ _ _
          · exact k
        next heq2 =>
          dsimp only
          refine Kept.fst ?_ heq2
          refine Kept.ewrite ?_ (by decide) _ _ _ _
          refine Kept.fst ?_ heq
          split
          · exact k.eread (by decide) _ _ _
          · exact k
      · dsimp only
        refine Kept.fst ?_ heq
        split
        · exact k.eread (by decide) _ _ _
        · exact k
    · split
      next heq2 =>
        dsimp only
        refine Kept.fst ?_ heq2
        refine Kept.mergeHead ?_ (by decide) _ _ _ _ _ _ _ _
        refine Kept.fst ?_ heq
        split
        · exact k.eread (by decide) _ _ _
        · exact k
      next heq2 =>
        dsimp only
        refine Kept.fst ?_ heq2
        refine Kept.mergeHead ?_ (by decide) _ _ _ _ _ _ _ _
        refine Kept.fst ?_ heq
        split
        · exact k.eread (by decide) _ _ _
        · exact k
      next heq2 =>
        split
        next heq3 =>
          dsimp only
          refine Kept.fst ?_ heq3
          split
          · dsimp only
            split
            · dsimp only
              refine Kept.fst ?_ heq2
              refine Kept.mergeHead ?_ (by decide) _ _ _ _ _ _ _ _
              refine Kept.fst ?_ heq
              split
              · exact k.eread (by decide) _ _ _
              · exact k.eread (by decide) _ _ _
            · refine Kept.peekRec ?_ (by decide) _ _ _
              refine Kept.fst ?_ heq2
              refine Kept.mergeHead ?_ (by decide) _ _ _ _ _ _ _ _
              refine Kept.fst ?_ heq
              split
              · exact k.eread (by decide) _ _ _
              · exact k.eread (by decide) _ _ _
          · split
            · dsimp only
              refine Kept.fst ?_ heq2
              refine Kept.mergeHead ?_ (by decide) _ _ _ _ _ _ _ _
              refine Kept.fst ?_ heq
              split
              · exact k.eread (by decide) _ _ _
              · exact k
            · refine Kept.peekRec ?_ (by decide) _ _ _
              refine Kept.fst ?_ heq2
              refine Kept.mergeHead ?_ (by decide) _ _ _ _ _ _ _ _
              refine Kept.fst ?_ heq
              split
              · exact k.eread (by decide) _ _ _
              · exact k
        next heq3 =>
          split
          · dsimp only
            refine Kept.fst ?_ heq3
            split
            · dsimp only
              split
              · dsimp only
                refine Kept.fst ?_ heq2
                refine Kept.mergeHead ?_ (by decide) _ _ _ _ _ _ _ _
                refine Kept.fst ?_ heq
                split
                · exact k.eread (by decide) _ _ _
                · exact k.eread (by decide) _ _ _
              · refine Kept.peekRec ?_ (by decide) _ _ _
                refine Kept.fst ?_ heq2
                refine Kept.mergeHead ?_ (by decide) _ _ _ _ _ _ _ _
                refine Kept.fst ?_ heq
                split
                · exact k.eread (by decide) _ _ _
                · exact k.eread (by decide) _ _ _
            · split
              · dsimp only
                refine Kept.fst ?_ heq2
                refine Kept.mergeHead ?_ (by decide) _ _ _ _ _ _ _ _
                refine Kept.fst ?_ heq
                split
                · exact k.eread (by decide) _ _ _
                · exact k
              · refine Kept.peekRec ?_ (by decide) _ _ _
                refine Kept.fst ?_ heq2
                refine Kept.mergeHead ?_ (by decide) _ _ _ _ _ _ _ _
                refine Kept.fst ?_ heq
                split
                · exact k.eread (by decide) _ _ _
                · exact k
          · split
            · split
              next heq4 =>
                dsimp only
                refine Kept.fst ?_ heq4
                refine Kept.ewrite ?_ (by decide) _ _ _ _
                refine Kept.countHigh ?_ (by decide) _ _ _ _
                refine Kept.fst ?_ heq3
                split
                · dsimp only
                  split
                  · dsimp only
                    refine Kept.fst ?_ heq2
                    refine Kept.mergeHead ?_ (by decide) _ _ _ _ _ _ _ _
                    refine Kept.fst ?_ heq
                    split
                    · exact k.eread (by decide) _ _ _
                    · exact k.eread (by decide) _ _ _
                  · refine Kept.peekRec ?_ (by decide) _ _ _
                    refine Kept.fst ?_ heq2
                    refine Kept.mergeHead ?_ (by decide) _ _ _ _ _ _ _ _
                    refine Kept.fst ?_ heq
                    split
                    · exact k.eread (by decide) _ _ _
                    · exact k.eread (by decide) _ _ _
                · split
                  · dsimp only
                    refine Kept.fst ?_ heq2
                    refine Kept.mergeHead ?_ (by decide) _ _ _ _ _ _ _ _
                    refine Kept.fst ?_ heq
                    split
                    · exact k.eread (by decide) _ _ _
                    · exact k
                  · refine Kept.peekRec ?_ (by decide) _ _ _
                    refine Kept.fst ?_ heq2
                    refine Kept.mergeHead ?_ (by decide) _ _ _ _ _ _ _ _
                    refine Kept.fst ?_ heq
                    split
                    · exact k.eread (by decide) _ _ _
                    · exact k
              next heq4 =>
                dsimp only
                refine Kept.fst ?_ heq4
                refine Kept.ewrite ?_ (by decide) _ _ _ _
                refine Kept.countHigh ?_ (by decide) _ _ _ _
                refine Kept.fst ?_ heq3
                split
                · dsimp only
                  split
                  · dsimp only
                    refine Kept.fst ?_ heq2
                    refine Kept.mergeHead ?_ (by decide) _ _ _ _ _ _ _ _
                    refine Kept.fst ?_ heq
                    split
                    · exact k.eread (by decide) _ _ _
                    · exact k.eread (by decide) _ _ _
                  · refine Kept.peekRec ?_ (by decide) _ _ _
                    refine Kept.fst ?_ heq2
                    refine Kept.mergeHead ?_ (by decide) _ _ _ _ _ _ _ _
                    refine Kept.fst ?_ heq
                    split
                    · exact k.eread (by decide) _ _ _
                    · exact k.eread (by decide) _ _ _
                · split
                  · dsimp only
                    refine Kept.fst ?_ heq2
                    refine Kept.mergeHead ?_ (by decide) _ _ _ _ _ _ _ _
                    refine Kept.fst ?_ heq
                    split
                    · exact k.eread (by decide) _ _ _
                    · exact k
                  · refine Kept.peekRec ?_ (by decide) _ _ _
                    refine Kept.fst ?_ heq2
                    refine Kept.mergeHead ?_ (by decide) _ _ _ _ _ _ _ _
                    refine Kept.fst ?_ heq
                    split
                    · exact k.eread (by decide) _ _ _
                    · exact k
            · split
              · refine Kept.countHigh ?_ (by decide) _ _ _ _
                refine Kept.fst ?_ heq3
                split
                · dsimp only
                  split
                  · dsimp only
                    refine Kept.fst ?_ heq2
                    refine Kept.mergeHead ?_ (by decide) _ _ _ _ _ _ _ _
                    refine Kept.fst ?_ heq
                    split
                    · exact k.eread (by decide) _ _ _
                    · exact k.eread (by decide) _ _ _
                  · refine Kept.peekRec ?_ (by decide) _ _ _
                    refine Kept.fst ?_ heq2
                    refine Kept.mergeHead ?_ (by decide) _ _ _ _ _ _ _ _
                    refine Kept.fst ?_ heq
                    split
                    · exact k.eread (by decide) _ _ _
                    · exact k.eread (by decide) _ _ _
                · split
                  · dsimp only
                    refine Kept.fst ?_ heq2
                    refine Kept.mergeHead ?_ (by decide) _ _ _ _ _ _ _ _
                    refine Kept.fst ?_ heq
                    split
                    · exact k.eread (by decide) _ _ _
                    · exact k
                  · refine Kept.peekRec ?_ (by decide) _ _ _
                    refine Kept.fst ?_ heq2
                    refine Kept.mergeHead ?_ (by decide) _ _ _ _ _ _ _ _
                    refine Kept.fst ?_ heq
                    split
                    · exact k.eread (by decide) _ _ _
                    · exact k
              · split
                · refine Kept.countConv ?_ (by decide) _ _
                  refine Kept.countHigh ?_ (by decide) _ _ _ _
                  refine Kept.fst ?_ heq3
                  split
                  · dsimp only
                    split
                    · dsimp only
                      refine Kept.fst ?_ heq2
                      refine Kept.mergeHead ?_ (by decide) _ _ _ _ _ _ _ _
                      refine Kept.fst ?_ heq
                      split
                      · exact k.eread (by decide) _ _ _
                      · exact k.eread (by decide) _ _ _
                    · refine Kept.peekRec ?_ (by decide) _ _ _
                      refine Kept.fst ?_ heq2
                      refine Kept.mergeHead ?_ (by decide) _ _ _ _ _ _ _ _
                      refine Kept.fst ?_ heq
                      split
                      · exact k.eread (by decide) _ _ _
                      · exact k.eread (by decide) _ _ _
                  · split
                    · dsimp only
                      refine Kept.fst ?_ heq2
                      refine Kept.mergeHead ?_ (by decide) _ _ _ _ _ _ _ _
                      refine Kept.fst ?_ heq
                      split
                      · exact k.eread (by decide) _ _ _
                      · exact k
                    · refine Kept.peekRec ?_ (by decide) _ _ _
                      refine Kept.fst ?_ heq2
                      refine Kept.mergeHead ?_ (by decide) _ _ _ _ _ _ _ _
                      refine Kept.fst ?_ heq
                      split
                      · exact k.eread (by decide) _ _ _
                      · exact k
                · split
                  next heq4 =>
                    dsimp only
                    refine Kept.fst ?_ heq4
                    refine Kept.ewrite ?_ (by decide) _ _ _ _
                    refine Kept.countHigh ?_ (by decide) _ _ _ _
                    refine Kept.fst ?_ heq3
                    split
                    · dsimp only
                      split
                      · dsimp only
                        refine Kept.fst ?_ heq2
                        refine Kept.mergeHead ?_ (by decide) _ _ _ _ _ _ _ _
                        refine Kept.fst ?_ heq
                        split
                        · exact k.eread (by decide) _ _ _
                        · exact k.eread (by decide) _ _ _
                      · refine Kept.peekRec ?_ (by decide) _ _ _
                        refine Kept.fst ?_ heq2
                        refine Kept.mergeHead ?_ (by decide) _ _ _ _ _ _ _ _
                        refine Kept.fst ?_ heq
                        split
                        · exact k.eread (by decide) _ _ _
                        · exact k.eread (by decide) _ _ _
                    · split
                      · dsimp only
                        refine Kept.fst ?_ heq2
                        refine Kept.mergeHead ?_ (by decide) _ _ _ _ _ _ _ _
                        refine Kept.fst ?_ heq
                        split
                        · exact k.eread (by decide) _ _ _
                        · exact k
                      · refine Kept.peekRec ?_ (by decide) _ _ _
                        refine Kept.fst ?_ heq2
                        refine Kept.mergeHead ?_ (by decide) _ _ _ _ _ _ _ _
                        refine Kept.fst ?_ heq
                        split
                        · exact k.eread (by decide) _ _ _
                        · exact k
                  next heq4 =>
                    dsimp only
                    refine Kept.fst ?_ heq4
                    refine Kept.ewrite ?_ (by decide) _ _ _ _
                    refine Kept.countHigh ?_ (by decide) _ _ _ _
                    refine Kept.fst ?_ heq3
                    split
                    · dsimp only
                      split
                      · dsimp only
                        refine Kept.fst ?_ heq2
                        refine Kept.mergeHead ?_ (by decide) _ _ _ _ _ _ _ _
                        refine Kept.fst ?_ heq
                        split
                        · exact k.eread (by decide) _ _ _
                        · exact k.eread (by decide) _ _ _
                      · refine Kept.peekRec ?_ (by decide) _ _ _
                        refine Kept.fst ?_ heq2
                        refine Kept.mergeHead ?_ (by decide) _ _ _ _ _ _ _ _
                        refine Kept.fst ?_ heq
                        split
                        · exact k.eread (by decide) _ _ _
                        · exact k.eread (by decide) _ _ _
                    · split
                      · dsimp only
                        refine Kept.fst ?_ heq2
                        refine Kept.mergeHead ?_ (by decide) _ _ _ _ _ _ _ _
                        refine Kept.fst ?_ heq
                        split
                        · exact k.eread (by decide) _ _ _
                        · exact k
                      · refine Kept.peekRec ?_ (by decide) _ _ _
                        refine Kept.fst ?_ heq2
                        refine Kept.mergeHead ?_ (by decide) _ _ _ _ _ _ _ _
                        refine Kept.fst ?_ heq
                        split
                        · exact k.eread (by decide) _ _ _
                        · exact k

theorem Kept.rowIndex (k : Kept L s t) (h : accessReach ⊆ L) (w x i) : Kept L s (t.rowIndex w x i).1 := by
  refine k.within h fun k => ?_
  unfold State.rowIndex
  dsimp only
  split
  next heq =>
    exact (k.eread (by decide) _ _ _).fst heq
  next heq =>
    split
    · exact (k.eread (by decide) _ _ _).fst heq
    · split
      · exact ((k.eread (by decide) _ _ _).fst heq).count (by decide) _ _ _ _
      · exact (k.eread (by decide) _ _ _).fst heq

theorem Kept.readEach (k : Kept L s t) (h : accessReach ⊆ L) (w f n i m l) :
    Kept L s (State.readEach w f n i m l t).1 := by
  suffices H : ∀ u, Kept accessReach t u → Kept accessReach t (State.readEach w f n i m l u).1 from k.step (H t
      Kept.refl) h
  induction l generalizing w f n i m with
  | nil =>
    intro u ku
    unfold State.readEach
    exact ku
  | cons a l ih =>
    intro u ku
    unfold State.readEach
    split
    next heq =>
      exact (ku.readVals (by decide) _ _ _ _ _ _).fst heq
    next heq =>
      split
      next heq2 =>
        exact (ih _ _ _ _ _ _ ((ku.readVals (by decide) _ _ _ _ _ _).fst heq)).fst heq2
      · exact ih _ _ _ _ _ _ ((ku.readVals (by decide) _ _ _ _ _ _).fst heq)

theorem Kept.gcmStart (k : Kept L s t) (h : accessReach ⊆ L) (w x h' k') : Kept L s (t.gcmStart w x h' k').1 := by
  refine k.within h fun k => ?_
  unfold State.gcmStart
  split
  · exact k
  · split
    next heq =>
      exact (k.eread (by decide) _ _ _).fst heq
    next heq =>
      exact (k.eread (by decide) _ _ _).fst heq

theorem Kept.gcmUnit (k : Kept L s t) (h : accessReach ⊆ L) (dec w x i k') : Kept L s (gcmUnit dec w x i k' t).1 := by
  refine k.within h fun k => ?_
  unfold Machine.gcmUnit
  extract_lets n ks hk
  have h1 : Kept accessReach t (t.gcmStart w x hk k').1 := k.gcmStart (by decide) _ _ _ _
  split
  next heq => exact h1.fst heq
  next s1 y heq =>
    replace h1 : Kept accessReach t s1 := h1.fst heq
    split
    · have h2 := h1.eread (by decide) w (plus (x.getD 1 0) (16 * i)) (min 16 (n - 16 * i))
      split
      next heq2 => exact h2.fst heq2
      next s2 b heq2 =>
        extract_lets out c
        have h3 := (h2.fst heq2).ewrite (by decide) w (plus (x.getD 3 0) (16 * i)) (bytesOf out) false
        split
        next heq3 => exact h3.fst heq3
        next heq3 => exact h3.fst heq3
    · extract_lets tag
      split
      · have h2 := h1.ewrite (by decide) w (plus (x.getD 3 0) n) tag false
        split
        next heq2 => exact h2.fst heq2
      · have h2 := h1.eread (by decide) w (plus (x.getD 1 0) n) 16
        split
        next heq2 => exact h2.fst heq2
        next s2 b heq2 =>
          replace h2 : Kept accessReach t s2 := h2.fst heq2
          split
          · exact h2
          · have h3 := h2.ewrite (by decide) w (x.getD 3 0) (List.replicate n 0) false
            split
            next heq3 => exact h3.fst heq3
            next heq3 => exact h3.fst heq3

theorem Kept.hashUnit (k : Kept L s t) (h : accessReach ⊆ L)
    (n) {last : EngW → List W64 → Bytes → State → State × Option Stop}
    (hf : ∀ w x b u, Kept L s u → Kept L s (last w x b u).1) (w x i l) : Kept L s (hashUnit n last w x i l t).1 := by
  unfold Machine.hashUnit
  extract_lets rate a m
  have h1 := k.eread h w (plus (x.getD 1 0) (i * rate)) m
  split
  next heq => exact h1.fst heq
  next heq =>
    have h2 := h1.fst heq
    extract_lets a'
    split
    · have h3 := hf w x ((a'.flatMap (fun v => toLe 8 v.toNat)).take n) _ h2
      split
      next heq => exact h3.fst heq
    · exact h2

theorem Kept.freeWork (k : Kept L s t) (h : (.freeValues :: accessReach) ⊆ L) (w x) : Kept L s (t.freeWork w x) := by
  refine k.within h fun k => ?_
  unfold State.freeWork
  dsimp only
  split
  · exact ((k.freeBytes (by decide) _).ewrite (by decide) _ _ _ _).withCtrs (by decide) _
  · exact k

theorem Kept.endDesc (k : Kept L s t) (h : (.freeValues :: accessReach) ⊆ L) (d e q w x done stop) :
    Kept L s (t.endDesc d e q w x done stop) := by
  refine k.within h fun k => ?_
  unfold State.endDesc
  dsimp only
  split
  · exact (k.freeWork (by decide) _ _).modRing (by decide) _ _
  · exact (k.freeWork (by decide) _ _).modRing (by decide) _ _
  · exact k
  · exact k
  · exact ((k.freeWork (by decide) _ _).modRing (by decide) _ _).ite (((k.fault (by decide) _ _ _ _).freeWork
        (by decide) _ _).modRing (by decide) _ _)
  · exact ((k.freeWork (by decide) _ _).modRing (by decide) _ _).ite (((k.freeWork (by decide) _ _).modRing
        (by decide) _ _).unitFail (by decide) _ _ _ _ _)

theorem Kept.predictRun (k : Kept L s t) (h : accessReach ⊆ L) (w l l2) : Kept L s (State.predictRun w l l2 t).1 := by
  suffices H : ∀ u, Kept accessReach t u → Kept accessReach t (State.predictRun w l l2 u).1 from k.step (H t
      Kept.refl) h
  induction l generalizing w l2 with
  | nil =>
    intro u ku
    unfold State.predictRun
    exact ku
  | cons a l ih =>
    intro u ku
    unfold State.predictRun
    split
    next heq =>
      exact (ku.epeek (by decide) _ _ _).fst heq
    next heq =>
      split
      next heq2 =>
        exact (((ku.epeek (by decide) _ _ _).fst heq).epeek (by decide) _ _ _).fst heq2
      next heq2 =>
        exact ih _ _ _ ((((ku.epeek (by decide) _ _ _).fst heq).epeek (by decide) _ _ _).fst heq2)

theorem Kept.sendSettle (k : Kept L s t) (h : reporting [.spadMem, .tiles, .contexts, .network, .fabric] ⊆ L)
    (c d u' g settled payload) :
    Kept L s (t.sendSettle c d u' g settled payload) :=
  k.within h fun k => k.foldl (fun u a ku => ku.emitTo (by decide) _ _ _ _ _ _)

theorem Kept.sendList (k : Kept L s t) (h : reporting [.spadMem, .tiles, .contexts, .network, .fabric] ⊆ L)
    (c d u' g settled l n) :
    Kept L s (State.sendList c d u' g settled l n t).1 := by
  induction l generalizing n t with
  | nil => exact k
  | cons p ps ih =>
    unfold State.sendList
    split
    · exact ih (k.sendSettle h _ _ _ _ _ _) _
    · exact k

theorem Kept.predictUnit (k : Kept L s t) (h : accessReach ⊆ L) (w x i k') : Kept L s (predictUnit w x i k' t).1 := by
  refine k.within h fun k => ?_
  unfold Machine.predictUnit
  dsimp only
  split
  · exact k
  · split
    · exact k
    · split
      · exact k
      · split
        next heq =>
          dsimp only
          refine Kept.fst ?_ heq
          split
          · exact k
          · split
            next heq2 =>
              exact (k.eread (by decide) _ _ _).fst heq2
            next heq2 =>
              split
              next heq3 =>
                exact (((k.eread (by decide) _ _ _).fst heq2).epeek (by decide) _ _ _).fst heq3
              next heq3 =>
                split
                next heq4 =>
                  exact (((((k.eread (by decide) _ _ _).fst heq2).epeek (by decide) _ _ _).fst heq3).predictRun
                      (by decide) _ _ _).fst heq4
                next heq4 =>
                  exact (((((k.eread (by decide) _ _ _).fst heq2).epeek (by decide) _ _ _).fst heq3).predictRun
                      (by decide) _ _ _).fst heq4
        next heq =>
          split
          · dsimp only
            refine Kept.fst ?_ heq
            split
            · exact k
            · split
              next heq2 =>
                exact (k.eread (by decide) _ _ _).fst heq2
              next heq2 =>
                split
                next heq3 =>
                  exact (((k.eread (by decide) _ _ _).fst heq2).epeek (by decide) _ _ _).fst heq3
                next heq3 =>
                  split
                  next heq4 =>
                    exact (((((k.eread (by decide) _ _ _).fst heq2).epeek (by decide) _ _ _).fst heq3).predictRun
                        (by decide) _ _ _).fst heq4
                  next heq4 =>
                    exact (((((k.eread (by decide) _ _ _).fst heq2).epeek (by decide) _ _ _).fst heq3).predictRun
                        (by decide) _ _ _).fst heq4
          · refine Kept.sendList ?_ (by decide) _ _ _ _ _ _ _
            refine Kept.fst ?_ heq
            split
            · exact k
            · split
              next heq2 =>
                exact (k.eread (by decide) _ _ _).fst heq2
              next heq2 =>
                split
                next heq3 =>
                  exact (((k.eread (by decide) _ _ _).fst heq2).epeek (by decide) _ _ _).fst heq3
                next heq3 =>
                  split
                  next heq4 =>
                    exact (((((k.eread (by decide) _ _ _).fst heq2).epeek (by decide) _ _ _).fst heq3).predictRun
                        (by decide) _ _ _).fst heq4
                  next heq4 =>
                    exact (((((k.eread (by decide) _ _ _).fst heq2).epeek (by decide) _ _ _).fst heq3).predictRun
                        (by decide) _ _ _).fst heq4

theorem Kept.certifyVector (k : Kept L s t) (h : [Part.counters, .engines] ⊆ L) (w x l b) :
    Kept L s (t.certifyVector w x l b) :=
  k.within h fun k => (k.ite (((k.count (by decide) _ _ _ _).count (by decide) _ _ _ _).count (by decide) _ _ _
      _)).modEngine (by decide) _ _

theorem Kept.certifyUnit (k : Kept L s t) (h : accessReach ⊆ L) (w x _i k') :
    Kept L s (certifyUnit w x _i k' t).1 := by
  refine k.within h fun k => ?_
  unfold Machine.certifyUnit
  dsimp only
  split
  · exact k
  · split
    next heq =>
      dsimp only
      refine Kept.fst ?_ heq
      split
      · exact k
      · split
        next heq2 =>
          exact (k.eread (by decide) _ _ _).fst heq2
        next heq2 =>
          split
          · exact ((k.eread (by decide) _ _ _).fst heq2).certifyVector (by decide) _ _ _ _
          · exact ((((k.eread (by decide) _ _ _).fst heq2).certifyVector (by decide) _ _ _ _).count (by decide) _ _ _
                _).count (by decide) _ _ _ _
    next heq =>
      split
      · dsimp only
        refine Kept.fst ?_ heq
        split
        · exact k
        · split
          next heq2 =>
            exact (k.eread (by decide) _ _ _).fst heq2
          next heq2 =>
            split
            · exact ((k.eread (by decide) _ _ _).fst heq2).certifyVector (by decide) _ _ _ _
            · exact ((((k.eread (by decide) _ _ _).fst heq2).certifyVector (by decide) _ _ _ _).count (by decide) _ _
                  _ _).count (by decide) _ _ _ _
      · split
        · refine Kept.modUnit ?_ (by decide) _ _
          refine Kept.sendList ?_ (by decide) _ _ _ _ _ _ _
          refine Kept.fst ?_ heq
          split
          · exact k
          · split
            next heq2 =>
              exact (k.eread (by decide) _ _ _).fst heq2
            next heq2 =>
              split
              · exact ((k.eread (by decide) _ _ _).fst heq2).certifyVector (by decide) _ _ _ _
              · exact ((((k.eread (by decide) _ _ _).fst heq2).certifyVector (by decide) _ _ _ _).count (by decide) _
                    _ _ _).count (by decide) _ _ _ _
        · refine Kept.sendList ?_ (by decide) _ _ _ _ _ _ _
          refine Kept.fst ?_ heq
          split
          · exact k
          · split
            next heq2 =>
              exact (k.eread (by decide) _ _ _).fst heq2
            next heq2 =>
              split
              · exact ((k.eread (by decide) _ _ _).fst heq2).certifyVector (by decide) _ _ _ _
              · exact ((((k.eread (by decide) _ _ _).fst heq2).certifyVector (by decide) _ _ _ _).count (by decide) _
                    _ _ _).count (by decide) _ _ _ _

theorem Kept.runChunk (k : Kept L s t) (h : accessReach ⊆ L) (w) {f : EngOp} (hf : f.Keeps) (x) :
    Kept L s (t.runChunk w f x).1 :=
  k.runUnits h (fun i l u ku => ku.step (hf w x.words i l u) h) _ _ _ _

theorem Kept.modDesc (k : Kept L s t) (h : [Part.engines] ⊆ L) (d e q f) : Kept L s (t.modDesc d e q f) :=
  k.within h fun k => k.modRing (by decide) _ _

theorem Kept.engBusy (k : Kept L s t) (h : [Part.counters, .engines] ⊆ L) (d e cycles) :
    Kept L s (t.engBusy d e cycles) :=
  k.within h fun k => (k.count64 (by decide) _ _ _ _).modEngine (by decide) _ _

theorem Kept.engineChunk (k : Kept L s t) (h : (.freeValues :: accessReach) ⊆ L) (d e q c f x) (hf : f.Keeps) :
    Kept L s (t.engineChunk d e q c f x) := by
  refine k.within h fun k => ?_
  unfold State.engineChunk
  dsimp only
  split
  · exact ((k.runChunk (by decide) _ hf _).modDesc (by decide) _ _ _ _).turnAway
  · exact ((k.runChunk (by decide) _ hf _).modDesc (by decide) _ _ _ _).turnAway
  · split
    · exact (((((k.runChunk (by decide) _ hf _).engBusy (by decide) _ _ _).modEngine (by decide) _ _).endDesc
          (by decide) _ _ _ _ _ _ _).ok).ite (((((k.runChunk (by decide) _ hf _).engBusy (by decide) _ _ _).modEngine
          (by decide) _ _).modDesc (by decide) _ _ _ _).ok)
    · exact ((((k.runChunk (by decide) _ hf _).engBusy (by decide) _ _ _).modEngine (by decide) _ _).endDesc
          (by decide) _ _ _ _ _ _ _).ok
    · exact ((((k.runChunk (by decide) _ hf _).engBusy (by decide) _ _ _).modEngine (by decide) _ _).endDesc
          (by decide) _ _ _ _ _ _ _).ok

theorem Kept.engineRun (k : Kept L s t) (h : (.freeValues :: accessReach) ⊆ L) (d e q op f) (hf : f.Keeps) :
    Kept L s (t.engineRun d e q op f) := by
  refine k.within h fun k => ?_
  unfold State.engineRun
  dsimp only
  split
  · exact k.turnAway.ite (((k.modDesc (by decide) _ _ _ _).turnAway).ite (k.engineChunk (by decide) _ _ _ _ _ _ hf))
  · exact k.turnAway

theorem Kept.modGroup (k : Kept L s t) (h : [Part.fabric] ⊆ L) (k' f) : Kept L s (t.modGroup k' f) :=
  k.within h fun k => k.withFab (by decide) _

theorem Kept.ringFault (k : Kept L s t) (h : reporting [.fabric] ⊆ L) (k' code) : Kept L s (t.ringFault k' code) := by
  refine k.within h fun k => ?_
  unfold State.ringFault
  split
  · exact k
  · exact ((k.count (by decide) _ _ _ _).fault (by decide) _ _ _ _).modGroup (by decide) _ _

theorem Kept.writeRec (k : Kept L s t) (h : accessReach ⊆ L) (c x r) : Kept L s (t.writeRec c x r) :=
  k.within h fun k => k.writeFA (by decide) _ _ _ _

theorem Kept.modRec (k : Kept L s t) (h : accessReach ⊆ L) (c x f) : Kept L s (t.modRec c x f) := by
  refine k.within h fun k => ?_
  unfold State.modRec
  split
  · exact k.writeRec (by decide) _ _ _
  · exact k

theorem Kept.ringSend (k : Kept L s t) (h : reporting [.network, .fabric] ⊆ L) (x op dest aux d) :
    Kept L s (t.ringSend x op dest aux d).1 := by
  refine k.within h fun k => ?_
  unfold State.ringSend
  dsimp only
  split
  · exact k.injectAway (by decide) _ _
  · exact k.inject (by decide) _ _ _
  · split
    · exact k.inject (by decide) _ _ _
    · exact k
  · exact k

theorem Kept.sendGrant (k : Kept L s t) (h : reporting [.network, .fabric] ⊆ L) (k' step) :
    Kept L s (t.sendGrant k' step) := by
  refine k.within h fun k => ?_
  unfold State.sendGrant
  dsimp only
  split
  · exact k
  · exact k.ite (k.ringSend (by decide) _ _ _ _ _)

theorem Kept.sendWire (k : Kept L s t) (h : reporting [.network, .fabric] ⊆ L) (k' half step b) :
    Kept L s (t.sendWire k' half step b) := by
  refine k.within h fun k => ?_
  unfold State.sendWire
  dsimp only
  split
  · exact k
  · exact (k.countHigh (by decide) _ _ _ _).foldl (fun u a ku => (ku.ringSend (by decide) _ _ _ _ _).ite
        ((ku.ringSend (by decide) _ _ _ _ _).modGroup (by decide) _ _))

theorem Kept.signalDone (k : Kept L s t) (h : reporting [.network, .fabric] ⊆ L) (x y) :
    Kept L s (t.signalDone x y) :=
  k.within h fun k => k.syncOp (by decide) _ _ _ (fun u a ku => ku.syncArrive (by decide) _ _)

theorem Kept.writeSteps (k : Kept L s t) (h : [Part.commonsMem, .engines, .fabric] ⊆ L) (k' n) :
    Kept L s (t.writeSteps k' n) := by
  suffices H : ∀ u, Kept [Part.commonsMem, .engines, .fabric] t u → Kept [Part.commonsMem, .engines, .fabric] t
      (u.writeSteps k' n) from k.step (H t Kept.refl) h
  induction n generalizing k' with
  | zero =>
    intro u ku
    unfold State.writeSteps
    exact ku
  | succ n ih =>
    intro u ku
    unfold State.writeSteps
    dsimp only
    split
    · exact ku
    · split
      · exact ku
      · refine Kept.ite ku ?_
        split
        next heq =>
          exact ih _ _ ((((ku.commonsWrite (by decide) _ _ _ _ _).fst heq).modRing (by decide) _ _).modGroup
              (by decide) _ _)
        · exact ku

theorem Kept.topUp (k : Kept L s t) (h : [Part.commonsMem, .engines, .fabric] ⊆ L) (k') : Kept L s (t.topUp k') := by
  refine k.within h fun k => ?_
  unfold State.topUp
  split
  · exact k
  · exact k.writeSteps (by decide) _ _

theorem Kept.nextRun (k : Kept L s t) (h : accessReach ⊆ L) (k' n) : Kept L s (t.nextRun k' n) := by
  suffices H : ∀ u, Kept accessReach t u → Kept accessReach t (u.nextRun k' n) from k.step (H t Kept.refl) h
  induction n generalizing k' with
  | zero =>
    intro u ku
    unfold State.nextRun
    exact ku
  | succ n ih =>
    intro u ku
    unfold State.nextRun
    dsimp only
    split
    · exact ku
    · split
      · split
        · exact ih _ _ (ku.modGroup (by decide) _ _)
        · split
          · exact ku
          · exact (ih _ _ (((ku.modGroup (by decide) _ _).signalDone (by decide) _ _).count (by decide) _ _ _ _)).ite
                ((((ku.modGroup (by decide) _ _).count (by decide) _ _ _ _).ite ((((((ku.modGroup (by decide) _
                _).writeRec (by decide) _ _ _).count (by decide) _ _ _ _).sendGrant (by decide) _ _).sendGrant
                (by decide) _ _).ite ((((ku.modGroup (by decide) _ _).writeRec (by decide) _ _ _).count (by decide) _
                _ _ _).sendGrant (by decide) _ _))).topUp (by decide) _)
      · exact ku

theorem Kept.runStart (k : Kept L s t) (h : accessReach ⊆ L) (k' slot) : Kept L s (t.runStart k' slot) :=
  k.within h fun k => (k.modGroup (by decide) _ _).nextRun (by decide) _ _

theorem Kept.takeGrant (k : Kept L s t) (h : reporting [.fabric] ⊆ L) (k' gByte wire slot run step p half) :
    Kept L s (t.takeGrant k' gByte wire slot run step p half) := by
  refine k.within h fun k => ?_
  unfold State.takeGrant
  split
  · exact k
  · exact k.ite ((k.ringFault (by decide) _ _).ite (k.modGroup (by decide) _ _))

theorem Kept.takeDone (k : Kept L s t) (h : accessReach ⊆ L) (k' slot run step bytes) :
    Kept L s (t.takeDone k' slot run step bytes) := by
  refine k.within h fun k => ?_
  unfold State.takeDone
  dsimp only
  split
  · exact k
  · refine Kept.ite k ?_
    refine Kept.ite (k.ringFault (by decide) _ _) ?_
    refine Kept.modGroup ?_ (by decide) _ _
    split
    · exact k.modRec (by decide) _ _ _
    · exact k

theorem Kept.stepSum (k : Kept L s t) (h : accessReach ⊆ L) (x wire w) : Kept L s (t.stepSum x wire w).1 := by
  refine k.within h fun k => ?_
  unfold State.stepSum
  dsimp only
  split
  next heq =>
    exact (k.eread (by decide) _ _ _).fst heq
  next heq =>
    split
    · exact (k.eread (by decide) _ _ _).fst heq
    · split
      next heq2 =>
        exact (((k.eread (by decide) _ _ _).fst heq).eread (by decide) _ _ _).fst heq2
      next heq2 =>
        exact ((((k.eread (by decide) _ _ _).fst heq).eread (by decide) _ _ _).fst heq2).countConv (by decide) _ _

theorem Kept.stepSend (k : Kept L s t) (h : accessReach ⊆ L) (k' x step w half) :
    Kept L s (t.stepSend k' x step w half).1 := by
  refine k.within h fun k => ?_
  unfold State.stepSend
  dsimp only
  split
  next heq =>
    exact (k.stepSum (by decide) _ _ _).fst heq
  next heq =>
    split
    next heq2 =>
      dsimp only
      refine Kept.fst ?_ heq2
      split
      · exact ((k.stepSum (by decide) _ _ _).fst heq).eread (by decide) _ _ _
      · exact (k.stepSum (by decide) _ _ _).fst heq
    next heq2 =>
      split
      next heq3 =>
        dsimp only
        refine Kept.fst ?_ heq3
        split
        · refine Kept.ewrite ?_ (by decide) _ _ _ _
          refine Kept.fst ?_ heq2
          split
          · exact ((k.stepSum (by decide) _ _ _).fst heq).eread (by decide) _ _ _
          · exact ((k.stepSum (by decide) _ _ _).fst heq).eread (by decide) _ _ _
        · dsimp only
          refine Kept.fst ?_ heq2
          split
          · exact ((k.stepSum (by decide) _ _ _).fst heq).eread (by decide) _ _ _
          · exact (k.stepSum (by decide) _ _ _).fst heq
      next heq3 =>
        refine Kept.sendWire ?_ (by decide) _ _ _ _
        split
        · split
          · refine Kept.count ?_ (by decide) _ _ _ _
            refine Kept.fst ?_ heq3
            split
            · refine Kept.ewrite ?_ (by decide) _ _ _ _
              refine Kept.fst ?_ heq2
              split
              · exact ((k.stepSum (by decide) _ _ _).fst heq).eread (by decide) _ _ _
              · exact ((k.stepSum (by decide) _ _ _).fst heq).eread (by decide) _ _ _
            · refine Kept.ewrite ?_ (by decide) _ _ _ _
              refine Kept.fst ?_ heq2
              split
              · exact ((k.stepSum (by decide) _ _ _).fst heq).eread (by decide) _ _ _
              · exact ((k.stepSum (by decide) _ _ _).fst heq).eread (by decide) _ _ _
          · refine Kept.fst ?_ heq3
            split
            · refine Kept.ewrite ?_ (by decide) _ _ _ _
              refine Kept.fst ?_ heq2
              split
              · exact ((k.stepSum (by decide) _ _ _).fst heq).eread (by decide) _ _ _
              · exact ((k.stepSum (by decide) _ _ _).fst heq).eread (by decide) _ _ _
            · dsimp only
              refine Kept.fst ?_ heq2
              split
              · exact ((k.stepSum (by decide) _ _ _).fst heq).eread (by decide) _ _ _
              · exact (k.stepSum (by decide) _ _ _).fst heq
        · refine Kept.countConv ?_ (by decide) _ _
          split
          · refine Kept.count ?_ (by decide) _ _ _ _
            refine Kept.fst ?_ heq3
            split
            · refine Kept.ewrite ?_ (by decide) _ _ _ _
              refine Kept.fst ?_ heq2
              split
              · exact ((k.stepSum (by decide) _ _ _).fst heq).eread (by decide) _ _ _
              · exact ((k.stepSum (by decide) _ _ _).fst heq).eread (by decide) _ _ _
            · refine Kept.ewrite ?_ (by decide) _ _ _ _
              refine Kept.fst ?_ heq2
              split
              · exact ((k.stepSum (by decide) _ _ _).fst heq).eread (by decide) _ _ _
              · exact ((k.stepSum (by decide) _ _ _).fst heq).eread (by decide) _ _ _
          · refine Kept.fst ?_ heq3
            split
            · refine Kept.ewrite ?_ (by decide) _ _ _ _
              refine Kept.fst ?_ heq2
              split
              · exact ((k.stepSum (by decide) _ _ _).fst heq).eread (by decide) _ _ _
              · exact ((k.stepSum (by decide) _ _ _).fst heq).eread (by decide) _ _ _
            · dsimp only
              refine Kept.fst ?_ heq2
              split
              · exact ((k.stepSum (by decide) _ _ _).fst heq).eread (by decide) _ _ _
              · exact (k.stepSum (by decide) _ _ _).fst heq

theorem Kept.stepFinal (k : Kept L s t) (h : accessReach ⊆ L) (x w) : Kept L s (t.stepFinal x w).1 := by
  refine k.within h fun k => ?_
  unfold State.stepFinal
  dsimp only
  split
  next heq =>
    exact (k.stepSum (by decide) _ _ _).fst heq
  next heq =>
    exact ((k.stepSum (by decide) _ _ _).fst heq).putVals (by decide) _ _ _ _ _ _ _

theorem Kept.stepRun (k : Kept L s t) (h : accessReach ⊆ L) (i x w) : Kept L s (t.stepRun i x w).state := by
  refine k.step ?_ h
  unfold State.stepRun
  extract_lets slot run final step have_
  split
  · exact Kept.refl
  split
  · exact Kept.refl
  split
  · exact Kept.refl
  split
  · exact Kept.refl
  split
  · have hf := Kept.stepFinal (L := accessReach) (s := t) Kept.refl (List.Subset.refl _) x w
    split
    next heq => exact (hf.fst heq).writeRec (List.Subset.refl _) _ _ _
    next heq => exact hf.fst heq
  split
  · split
    · exact Kept.refl
    · exact Kept.modGroup (Kept.writeRec (Kept.count (Kept.ringSend Kept.refl (by decide) _ _ _ _ _) (by decide) _ _
        _ _)
        (by decide) _ _ _) (by decide) _ _
  split
  · dsimp only [StepOut.state]
    split
    · exact Kept.refl
    exact (Kept.refl.count (by decide) _ _ _ _).modGroup (by decide) _ _
  · next g hg =>
    have hs := Kept.stepSend (L := accessReach) (s := t) Kept.refl (List.Subset.refl _) i x step w g.word
    split
    next heq => exact (hs.fst heq).modGroup (by decide) _ _
    next heq => exact hs.fst heq

theorem Kept.ringStepRun (k : Kept L s t) (h : (.freeValues :: accessReach) ⊆ L) (d q) :
    Kept L s (t.ringStepRun d q) := by
  refine k.step ?_ h
  unfold State.ringStepRun
  extract_lets rk r wait
  have hw : ∀ u, Kept (.freeValues :: accessReach) t u → Kept (.freeValues :: accessReach) t (wait u) :=
    fun u ku => ku.modDesc (by decide) _ _ _ _
  split
  next x _ _ =>
    split
    · exact Kept.refl.turnAway
    next i g hg =>
    split
    · exact Kept.refl.turnAway
    split
    · exact (hw t Kept.refl).turnAway
    have hs := Kept.stepRun (L := .freeValues :: accessReach) (s := t) Kept.refl (by decide) i g x.words
    split
    next heq =>
      rw [heq] at hs
      exact (hw _ hs).turnAway
    next heq =>
      rw [heq] at hs
      exact (hw _ hs).ok
    next heq =>
      rw [heq] at hs
      exact (((Kept.engBusy hs (by decide) _ _ _).modEngine (by decide) _ _).endDesc (by decide) _ _ _ _ _ _ _).ok
  · exact Kept.refl.turnAway

theorem Kept.tookStep (k : Kept L s t) (h : [Part.fabric] ⊆ L) (d q slot w) : Kept L s (t.tookStep d q slot w) := by
  refine k.within h fun k => ?_
  unfold State.tookStep
  refine Kept.ite k ?_
  refine Kept.foldl k (fun u a ku => ?_)
  split
  · exact ku.modGroup (by decide) _ _
  · exact ku

theorem Kept.ringRetired (k : Kept L s t) (h : accessReach ⊆ L) (d q w) : Kept L s (t.ringRetired d q w) := by
  refine k.within h fun k => ?_
  unfold State.ringRetired
  dsimp only
  split
  · exact k
  · refine Kept.ite k ?_
    refine Kept.ite ?_ (((k.sendGrant (by decide) _ _).ite k).topUp (by decide) _)
    refine Kept.nextRun ?_ (by decide) _ _
    refine Kept.modGroup ?_ (by decide) _ _
    refine Kept.count ?_ (by decide) _ _ _ _
    split
    · exact k.ite (k.signalDone (by decide) _ _)
    · exact k

theorem Kept.tileWait (k : Kept L s t) (h : [Part.counters] ⊆ L) (d t' u' off) : Kept L s (t.tileWait d t' u' off) :=
  k.within h fun k => ((k.count (by decide) _ _ _ _).count (by decide) _ _ _ _).turnAway

theorem Kept.roundOn (k : Kept L s t) (h : [Part.counters, .tiles, .freeValues] ⊆ L) (c d t' a k' g x entry out) :
    Kept L s (t.roundOn c d t' a k' g x entry out) :=
  k.within h fun k => ((k.free (by decide)).modTile (by decide) _ _).ite ((((((k.free (by decide)).modTile
      (by decide) _ _).count (by decide) _ _ _ _).ite (((k.free (by decide)).modTile (by decide) _ _).count64
      (by decide) _ _ _ _)).count64 (by decide) _ _ _ _).countConv (by decide) _ _)

theorem Kept.roundDispatched {v : State} (k : Kept L s t) (h : [Part.counters, .tiles, .freeValues] ⊆ L)
    {d : LDie} {x : LTile} {a : Fin 2} {i : Nat} {y : ArrayCfg} {entry out : Nat}
    (e : t.roundDispatched d x a i y entry out = some v) : Kept L s v := by
  refine k.step ?_ h
  unfold State.roundDispatched at e
  extract_lets arr n issued again waiting arr' base nz needed choice s1 acc s2 s3 cycles at e
  split at e
  · cases e
  split at e
  · cases e
  cases e
  have h1 : Kept [Part.counters, .tiles, .freeValues] t s1 := Kept.refl.free (by decide)
  exact (((((h1.modTile (by decide) _ _).count (by decide) _ _ _ _).count (by decide) _ _ _ _).count64 (by decide) _
      _ _ _).count64
    (by decide) _ _ _ _).countConv (by decide) _ _

theorem Kept.readTags (k : Kept L s t) (h : accessReach ⊆ L) (w x l) : Kept L s (t.readTags w x l).1 := by
  suffices H : ∀ u, Kept accessReach t u → Kept accessReach t (u.readTags w x l).1 from k.step (H t Kept.refl) h
  induction l generalizing w x with
  | nil =>
    intro u ku
    unfold State.readTags
    exact ku
  | cons a l ih =>
    intro u ku
    unfold State.readTags
    dsimp only
    split
    next heq =>
      split
      next heq2 =>
        exact (ih _ _ _ ((ku.readFA (by decide) _ _ _).fst heq)).fst heq2
      · exact ih _ _ _ ((ku.readFA (by decide) _ _ _).fst heq)
    next heq =>
      exact ((ku.readFA (by decide) _ _ _).fst heq).unitFail (by decide) _ _ _ _ _

theorem Kept.pageLengths (k : Kept L s t) (h : accessReach ⊆ L) (w x l) : Kept L s (t.pageLengths w x l).1 := by
  suffices H : ∀ u, Kept accessReach t u → Kept accessReach t (u.pageLengths w x l).1 from k.step (H t Kept.refl) h
  induction l generalizing w x with
  | nil =>
    intro u ku
    unfold State.pageLengths
    exact ku
  | cons a l ih =>
    intro u ku
    unfold State.pageLengths
    dsimp only
    split
    next heq =>
      split
      next heq2 =>
        dsimp only
        refine Kept.fst ?_ heq2
        refine ih _ _ _ ?_
        refine Kept.fst ?_ heq
        split
        · split
          next heq3 =>
            exact (ku.readFA (by decide) _ _ _).fst heq3
          next heq3 =>
            exact ((ku.readFA (by decide) _ _ _).fst heq3).unitFail (by decide) _ _ _ _ _
        · exact ku
      · refine ih _ _ _ ?_
        refine Kept.fst ?_ heq
        split
        · split
          next heq2 =>
            exact (ku.readFA (by decide) _ _ _).fst heq2
          next heq2 =>
            exact ((ku.readFA (by decide) _ _ _).fst heq2).unitFail (by decide) _ _ _ _ _
        · exact ku
    next heq =>
      dsimp only
      refine Kept.fst ?_ heq
      split
      · split
        next heq2 =>
          exact (ku.readFA (by decide) _ _ _).fst heq2
        next heq2 =>
          exact ((ku.readFA (by decide) _ _ _).fst heq2).unitFail (by decide) _ _ _ _ _
      · exact ku

theorem Kept.taggedHalf (k : Kept L s t) (h : accessReach ⊆ L) (c d t' g x h') :
    Kept L s (t.taggedHalf c d t' g x h').1 := by
  refine k.within h fun k => ?_
  unfold State.taggedHalf
  dsimp only
  split
  · split
    next heq =>
      split
      next heq2 =>
        split
        · exact (((k.readTags (by decide) _ _ _).fst heq).pageLengths (by decide) _ _ _).fst heq2
        · exact (((k.readTags (by decide) _ _ _).fst heq).pageLengths (by decide) _ _ _).fst heq2
      next heq2 =>
        exact (((k.readTags (by decide) _ _ _).fst heq).pageLengths (by decide) _ _ _).fst heq2
    next heq =>
      exact (k.readTags (by decide) _ _ _).fst heq
  · split
    next heq =>
      exact (k.readTags (by decide) _ _ _).fst heq
    next heq =>
      exact (k.readTags (by decide) _ _ _).fst heq
  · exact k
  · exact k

theorem Kept.countTags (k : Kept L s t) (h : [Part.counters] ⊆ L) (d t' tags) : Kept L s (t.countTags d t' tags) :=
  k.within h fun k => k.foldl (fun u a ku => ku.ite (ku.count (by decide) _ _ _ _))

theorem Kept.issueFetch (k : Kept L s t) (h : reporting [.tiles, .engines, .contexts, .network, .fabric, .recovery] ⊆
    L) (c d u' f q) :
    Kept L s (t.issueFetch c d u' f q) := by
  refine k.within h fun k => ?_
  unfold State.issueFetch
  dsimp only
  split
  · exact k.inject (by decide) _ _ _
  · exact k.unitFail (by decide) _ _ _ _ _

theorem Kept.fetchHalf (k : Kept L s t) (h : reporting [.tiles, .engines, .contexts, .network, .fabric, .recovery] ⊆
    L) (c d t' u' f h') :
    Kept L s (t.fetchHalf c d t' u' f h') := by
  refine k.within h fun k => ?_
  unfold State.fetchHalf
  dsimp only
  split
  · split
    · exact (((k.foldl (fun u a ku => ku.issueFetch (by decide) _ _ _ _ _)).countTags (by decide) _ _ _).count
          (by decide) _ _ _ _).modUnit (by decide) _ _
    · exact (((k.foldl (fun u a ku => ku.issueFetch (by decide) _ _ _ _ _)).countTags (by decide) _ _ _).count
          (by decide) _ _ _ _).modUnit (by decide) _ _
    · exact (k.foldl (fun u a ku => ku.issueFetch (by decide) _ _ _ _ _)).countTags (by decide) _ _ _
  · exact (k.foldl (fun u a ku => ku.issueFetch (by decide) _ _ _ _ _)).countTags (by decide) _ _ _

theorem Kept.badEntries (k : Kept L s t) (h : reporting [.contexts] ⊆ L) (c d t' u' page unsettled bad) :
    Kept L s (t.badEntries c d t' u' page unsettled bad) := by
  refine k.within h fun k => ?_
  unfold State.badEntries
  split
  · exact k
  · exact (k.modUnit (by decide) _ _).ite (k.sparseFault (by decide) _ _ _ _ _ _)

theorem Kept.checkHalf (k : Kept L s t) (h : reporting [.tiles, .contexts] ⊆ L) (c d t' a k' b x) :
    Kept L s (t.checkHalf c d t' a k' b x) := by
  refine k.within h fun k => ?_
  unfold State.checkHalf
  dsimp only
  split
  · exact k.foldl (fun u a ku => ku.ite ((ku.modTile (by decide) _ _).badEntries (by decide) _ _ _ _ _ _ _))
  · exact k.ite (k.foldl (fun u a ku => ku.foldl (fun u a ku => ku.ite ((ku.modTile (by decide) _ _).badEntries
        (by decide) _ _ _ _ _ _ _))))
  · exact k

theorem Kept.skipZeros (k : Kept L s t) (h : [Part.counters] ⊆ L) (d t' g h') : Kept L s (t.skipZeros d t' g h') := by
  refine k.within h fun k => ?_
  unfold State.skipZeros
  dsimp only
  split
  · exact k.ite (k.count (by decide) _ _ _ _)
  · exact k

theorem Kept.biases (k : Kept L s t) (h : accessReach ⊆ L) (w l first count) :
    Kept L s (t.biases w l first count).1 := by
  refine k.within h fun k => ?_
  unfold State.biases
  dsimp only
  split
  · exact k
  · split
    next heq =>
      exact (k.readFA (by decide) _ _ _).fst heq
    next heq =>
      exact (k.readFA (by decide) _ _ _).fst heq

theorem Kept.spillZ (k : Kept L s t) (h : [Part.spadMem, .tiles] ⊆ L) (k' arr g is) :
    Kept L s (t.spillZ k' arr g is) := by
  refine k.within h fun k => ?_
  unfold State.spillZ
  split
  · exact k.foldl (fun u a ku => ku.spadPut (by decide) _ _ _ _)
  · exact k

theorem Kept.afterFirst (k : Kept L s t) (h : [Part.spadMem, .tiles] ⊆ L) (a k' g settles is) :
    Kept L s (t.afterFirst a k' g settles is) :=
  k.within h fun k => ((k.spillZ (by decide) _ _ _ _).ite k).modTile (by decide) _ _

theorem Kept.decideOutput (k : Kept L s t) (h : [Part.counters, .spadMem, .tiles] ⊆ L)
    (d t' a k' x g bias vectors o) :
    Kept L s (t.decideOutput d t' a k' x g bias vectors o) :=
  k.within h fun k => (((((((k.count (by decide) _ _ _ _).count (by decide) _ _ _ _).ite (k.count (by decide) _ _ _
      _)).count (by decide) _ _ _ _).ite ((((k.count (by decide) _ _ _ _).count (by decide) _ _ _ _).ite (k.count
      (by decide) _ _ _ _)).count (by decide) _ _ _ _)).modTile (by decide) _ _).ite (((((k.count (by decide) _ _ _
      _).count (by decide) _ _ _ _).ite (k.count (by decide) _ _ _ _)).count (by decide) _ _ _ _).ite ((((k.count
      (by decide) _ _ _ _).count (by decide) _ _ _ _).ite (k.count (by decide) _ _ _ _)).count (by decide) _ _ _
      _))).afterFirst (by decide) _ _ _ _ _

theorem Kept.flushPage (k : Kept L s t) (h : accessReach ⊆ L) (w y x key off) :
    Kept L s (t.flushPage w y x key off).1 := by
  refine k.within h fun k => ?_
  unfold State.flushPage
  dsimp only
  split
  · exact k
  · split
    next heq =>
      exact ((k.writeTagged (by decide) _ _ _ _ _ _).fst heq).modUnit (by decide) _ _
    · exact k.writeTagged (by decide) _ _ _ _ _ _

theorem Kept.endPage (k : Kept L s t) (h : accessReach ⊆ L) (w y x rec_ key) :
    Kept L s (t.endPage w y x rec_ key).1 := by
  refine k.within h fun k => ?_
  unfold State.endPage
  dsimp only
  split
  · exact k
  · dsimp only
    split
    · split
      · exact (k.writePage (by decide) _ _ _ _ _ _).modUnit (by decide) _ _
      · exact k.writePage (by decide) _ _ _ _ _ _
    · split
      · exact (k.writeTagged (by decide) _ _ _ _ _ _).modUnit (by decide) _ _
      · exact k.writeTagged (by decide) _ _ _ _ _ _

theorem Kept.stagePages (k : Kept L s t) (h : accessReach ⊆ L) (w y x rec_ key off eof bytes) :
    Kept L s (t.stagePages w y x rec_ key off eof bytes).1 := by
  refine k.within h fun k => ?_
  unfold State.stagePages
  dsimp only
  split
  next heq =>
    split
    next heq2 =>
      split
      · exact (((((k.flushPage (by decide) _ _ _ _ _).fst heq).writePages (by decide) _ _ _ _ _ _).fst heq2).modUnit
            (by decide) _ _).endPage (by decide) _ _ _ _ _
      · exact ((((k.flushPage (by decide) _ _ _ _ _).fst heq).writePages (by decide) _ _ _ _ _ _).fst heq2).modUnit
            (by decide) _ _
    · exact ((k.flushPage (by decide) _ _ _ _ _).fst heq).writePages (by decide) _ _ _ _ _ _
  · exact k.flushPage (by decide) _ _ _ _ _

theorem Kept.stageTokens (k : Kept L s t) (h : reporting [.spadMem, .tiles, .contexts, .network, .fabric] ⊆ L)
    (c d u' g o l settled) :
    Kept L s (t.stageTokens c d u' g o l settled) :=
  k.within h fun k => k.foldl (fun u a ku => ku.emit (by decide) _ _ _ _ _ _)

theorem Kept.stageStore (k : Kept L s t) (h : accessReach ⊆ L) (c d t' g x o unsettled bytes) :
    Kept L s (t.stageStore c d t' g x o unsettled bytes).1 := by
  refine k.within h fun k => ?_
  unfold State.stageStore
  dsimp only
  split
  · split
    · exact k.stagePages (by decide) _ _ _ _ _ _ _ _
    · split
      next heq =>
        exact (k.spadWrite (by decide) _ _ _ _ _ _).fst heq
      next heq =>
        exact ((k.spadWrite (by decide) _ _ _ _ _ _).fst heq).unitFail (by decide) _ _ _ _ _
  · split
    · exact k.outWait (by decide) _ _ _
    · exact k.stageTokens (by decide) _ _ _ _ _ _ _

theorem Kept.stageConvert (k : Kept L s t) (h : accessReach ⊆ L) (c d t' k' g x o unsettled ws) :
    Kept L s (t.stageConvert c d t' k' g x o unsettled ws).1 := by
  refine k.within h fun k => ?_
  unfold State.stageConvert
  dsimp only
  split
  next heq =>
    exact (((k.stageStore (by decide) _ _ _ _ _ _ _ _).fst heq).modTile (by decide) _ _).countConv (by decide) _ _
  · exact k.stageStore (by decide) _ _ _ _ _ _ _ _

theorem Kept.stageWrite (k : Kept L s t) (h : accessReach ⊆ L) (c d t' a k' g x bias o outs zeroed) :
    Kept L s (t.stageWrite c d t' a k' g x bias o outs zeroed).1 := by
  refine k.within h fun k => ?_
  unfold State.stageWrite
  dsimp only
  split
  next heq =>
    exact ((k.stageConvert (by decide) _ _ _ _ _ _ _ _ _).fst heq).modTile (by decide) _ _
  · exact k.stageConvert (by decide) _ _ _ _ _ _ _ _ _

theorem Kept.okOr {r : State × Bool} (k : Kept L s r.1) : Kept L s (State.okOr r) := by
  unfold State.okOr
  split
  · exact k.ok
  · exact k.turnAway

theorem Kept.stageBounds (k : Kept L s t) (h : reporting [.commonsMem, .spadMem, .tiles, .engines, .contexts,
    .network, .recovery] ⊆ L) (c d t' a k' x l bias o outs) :
    Kept L s (t.stageBounds c d t' a k' x l bias o outs).1 := by
  refine k.within h fun k => ?_
  unfold State.stageBounds
  dsimp only
  split
  next heq =>
    exact ((k.commonsWrite (by decide) _ _ _ _ _).fst heq).afterFirst (by decide) _ _ _ _ _
  next heq =>
    exact ((k.commonsWrite (by decide) _ _ _ _ _).fst heq).unitFail (by decide) _ _ _ _ _

theorem Kept.stageDecide (k : Kept L s t) (h : accessReach ⊆ L) (c d t' a k' g x l bias o fresh) :
    Kept L s (t.stageDecide c d t' a k' g x l bias o fresh).1 := by
  refine k.within h fun k => ?_
  unfold State.stageDecide
  dsimp only
  split
  · exact k.outWait (by decide) _ _ _
  · split
    next heq =>
      dsimp only
      refine Kept.fst ?_ heq
      split
      · exact k
      · exact k.stageConvert (by decide) _ _ _ _ _ _ _ _ _
    next heq =>
      dsimp only
      split
      · refine Kept.modUnit ?_ (by decide) _ _
        refine Kept.sendSettle ?_ (by decide) _ _ _ _ _ _
        refine Kept.foldl ?_ (fun u a ku => ku.sendSettle (by decide) _ _ _ _ _ _)
        refine Kept.modUnit ?_ (by decide) _ _
        refine Kept.foldl ?_ (fun u a ku => ku.decideOutput (by decide) _ _ _ _ _ _ _ _ _)
        refine Kept.fst ?_ heq
        split
        · exact k
        · exact k.stageConvert (by decide) _ _ _ _ _ _ _ _ _
      · refine Kept.foldl ?_ (fun u a ku => ku.sendSettle (by decide) _ _ _ _ _ _)
        refine Kept.modUnit ?_ (by decide) _ _
        refine Kept.foldl ?_ (fun u a ku => ku.decideOutput (by decide) _ _ _ _ _ _ _ _ _)
        refine Kept.fst ?_ heq
        split
        · exact k
        · exact k.stageConvert (by decide) _ _ _ _ _ _ _ _ _

theorem Kept.stageSend (k : Kept L s t) (h : reporting [.spadMem, .tiles, .contexts, .network, .fabric] ⊆ L)
    (c d t' a k' g x o outs) :
    Kept L s (t.stageSend c d t' a k' g x o outs).1 := by
  refine k.within h fun k => ?_
  unfold State.stageSend
  dsimp only
  split
  · exact k.outWait (by decide) _ _ _
  · exact (k.stageTokens (by decide) _ _ _ _ _ _ _).modTile (by decide) _ _

theorem Kept.stageCombine (k : Kept L s t) (h : reporting [.anatomy, .commonsMem, .spadMem, .tiles, .engines,
    .contexts, .network, .fabric, .power, .recovery] ⊆ L) (c d t' a k' g x port o outs) :
    Kept L s (t.stageCombine c d t' a k' g x port o outs).1 := by
  refine k.within h fun k => ?_
  unfold State.stageCombine
  dsimp only
  split
  · split
    · exact k.heads (by decide) _ _ _ _
    · exact (((k.heads (by decide) _ _ _ _).consume (by decide) _ _ _ _ _).modTile (by decide) _ _).countConv
          (by decide) _ _
  · exact (k.heads (by decide) _ _ _ _).count (by decide) _ _ _ _

theorem Kept.stageLayer (k : Kept L s t) (h : accessReach ⊆ L) (c d t' a k' g x l bias o outs) :
    Kept L s (t.stageLayer c d t' a k' g x l bias o outs).1 := by
  refine k.within h fun k => ?_
  unfold State.stageLayer
  dsimp only
  split
  · exact k.stageWrite (by decide) _ _ _ _ _ _ _ _ _ _ _
  · split
    · split
      · exact k.stageWrite (by decide) _ _ _ _ _ _ _ _ _ _ _
      · exact k.stageBounds (by decide) _ _ _ _ _ _ _ _ _ _
    · split
      next heq =>
        dsimp only
        refine Kept.fst ?_ heq
        split
        · exact k
        · exact k.stageWrite (by decide) _ _ _ _ _ _ _ _ _ _ _
      next heq =>
        split
        · refine Kept.modUnit ?_ (by decide) _ _
          refine Kept.fst ?_ heq
          split
          · exact k
          · exact k.stageWrite (by decide) _ _ _ _ _ _ _ _ _ _ _
        · refine Kept.stageDecide ?_ (by decide) _ _ _ _ _ _ _ _ _ _ _
          refine Kept.modUnit ?_ (by decide) _ _
          refine Kept.fst ?_ heq
          split
          · exact k
          · exact k.stageWrite (by decide) _ _ _ _ _ _ _ _ _ _ _

theorem Kept.laneAccess (k : Kept L s t) (h : accessReach ⊆ L) (c d t' k' cacheable off put) :
    Kept L s (t.laneAccess c d t' k' cacheable off put).1 := by
  refine k.within h fun k => ?_
  unfold State.laneAccess
  dsimp only
  split
  · split
    · exact k.spadWrite (by decide) _ _ _ _ _ _
    · exact k.spadRead (by decide) _ _ _ _ _
  · split
    · exact k.cached (by decide) _ _ _ _ _ _ _
    · split
      · exact k.writeOut (by decide) _ _ _ _ _
      · exact k.readFA (by decide) _ _ _

theorem Kept.laneEnd (k : Kept L s t) (h : reporting [.tiles, .engines, .contexts, .network, .recovery] ⊆ L) (w a r) :
    Kept L s (t.laneEnd w a r) :=
  k.within h fun k => (k.unitFail (by decide) _ _ _ _ _).turnAway

theorem Kept.stageLanes (k : Kept L s t) (h : accessReach ⊆ L) (c d t' k' a first) :
    Kept L s (t.stageLanes c d t' k' a first).1 := by
  refine k.within h fun k => ?_
  unfold State.stageLanes
  dsimp only
  split
  · split
    · exact k
    · split
      · exact k
      · split
        · refine Kept.unitFail ?_ (by decide) _ _ _ _ _
          split
          · exact k.biases (by decide) _ _ _ _
          · exact k
        · refine Kept.modTile ?_ (by decide) _ _
          split
          · exact k.biases (by decide) _ _ _ _
          · exact k
  · exact k

theorem Kept.bankShut (k : Kept L s t) (h : reporting [.tiles, .contexts] ⊆ L) (d t' k' r) :
    Kept L s (t.bankShut d t' k' r) :=
  k.within h fun k => (((k.count (by decide) _ _ _ _).fault (by decide) _ _ _ _).haltCtx (by decide) _).ite
      (((k.count (by decide) _ _ _ _).loseTurn (by decide) _ _ _).modTile (by decide) _ _)

theorem Kept.spadGrant (k : Kept L s t) (h : reporting [.anatomy, .commonsMem, .spadMem, .tiles, .engines, .contexts,
    .network, .fabric, .power, .recovery] ⊆ L) (d t' k' r) :
    Kept L s (t.spadGrant d t' k' r) := by
  refine k.within h fun k => ?_
  unfold State.spadGrant
  dsimp only
  split
  · split
    next heq =>
      exact ((k.spadWrite (by decide) _ _ _ _ _ _).fst heq).status _
    next heq =>
      exact (((k.spadWrite (by decide) _ _ _ _ _ _).fst heq).unitFail (by decide) _ _ _ _ _).status _
    next heq =>
      exact ((k.spadWrite (by decide) _ _ _ _ _ _).fst heq).unitFail (by decide) _ _ _ _ _
  · split
    next heq =>
      refine Kept.withAnswer ?_ _
      split
      · exact ((k.spadRead (by decide) _ _ _ _ _).fst heq).modTile (by decide) _ _
      · exact (k.spadRead (by decide) _ _ _ _ _).fst heq
    next heq =>
      exact (((k.spadRead (by decide) _ _ _ _ _).fst heq).unitFail (by decide) _ _ _ _ _).status _
    next heq =>
      exact ((k.spadRead (by decide) _ _ _ _ _).fst heq).unitFail (by decide) _ _ _ _ _

theorem Kept.spadArrive (k : Kept L s t) (h : reporting [.tiles, .contexts] ⊆ L) (d t' k' reqs) :
    Kept L s (t.spadArrive d t' k' reqs) :=
  k.within h fun k => k.foldl (fun u a ku => (ku.bankShut (by decide) _ _ _ _).ite (ku.modTile (by decide) _ _))

theorem Kept.commonsShut (k : Kept L s t) (h : reporting [.engines, .contexts] ⊆ L) (d p r) :
    Kept L s (t.commonsShut d p r) :=
  k.within h fun k => ((k.fault (by decide) _ _ _ _).haltCtx (by decide) _).ite (k.modCommons (by decide) _ _)

theorem Kept.commonsGrant (k : Kept L s t) (h : reporting [.anatomy, .commonsMem, .tiles, .engines, .contexts,
    .network, .fabric, .power, .recovery] ⊆ L) (d r) :
    Kept L s (t.commonsGrant d r) := by
  refine k.within h fun k => ?_
  unfold State.commonsGrant
  dsimp only
  split
  · split
    next heq =>
      exact ((k.commonsWrite (by decide) _ _ _ _ _).fst heq).status _
    next heq =>
      exact (((k.commonsWrite (by decide) _ _ _ _ _).fst heq).unitFail (by decide) _ _ _ _ _).status _
    next heq =>
      exact ((k.commonsWrite (by decide) _ _ _ _ _).fst heq).unitFail (by decide) _ _ _ _ _
  · split
    next heq =>
      exact ((k.commonsRead (by decide) _ _ _ _).fst heq).withAnswer _
    next heq =>
      exact (((k.commonsRead (by decide) _ _ _ _).fst heq).unitFail (by decide) _ _ _ _ _).status _
    next heq =>
      exact ((k.commonsRead (by decide) _ _ _ _).fst heq).unitFail (by decide) _ _ _ _ _

theorem Kept.commonsArrive (k : Kept L s t) (h : reporting [.engines, .contexts] ⊆ L) (d p reqs) :
    Kept L s (t.commonsArrive d p reqs) :=
  k.within h fun k => k.foldl (fun u a ku => (ku.commonsShut (by decide) _ _ _).ite (ku.modCommons (by decide) _ _))

theorem Kept.cacheCmd (k : Kept L s t) (h : accessReach ⊆ L) (d t' op base bytes) :
    Kept L s (t.cacheCmd d t' op base bytes) := by
  refine k.within h fun k => ?_
  unfold State.cacheCmd
  split
  · exact (k.cacheRange (by decide) _ _ _ _ _).okOr
  · exact k.turnAway

theorem Kept.setBank (k : Kept L s t) (h : [Part.tiles, .engines, .stacks] ⊆ L) (r x) : Kept L s (t.setBank r x) := by
  refine k.within h fun k => ?_
  unfold State.setBank
  dsimp only
  split
  · exact k.modTile (by decide) _ _
  · exact k.modCommons (by decide) _ _
  · exact k.modStack (by decide) _ _

theorem Kept.drainBank (k : Kept L s t) (h : reporting [.anatomy, .commonsMem, .spadMem, .tiles, .engines, .contexts,
    .network, .fabric, .power, .recovery] ⊆ L) (x) :
    Kept L s (t.drainBank x) := by
  refine k.within h fun k => ?_
  unfold State.drainBank
  dsimp only
  split
  · split
    · exact (k.modTile (by decide) _ _).foldl (fun u a ku => ku.spadGrant (by decide) _ _ _ _)
    · exact k
  · split
    · exact (k.modCommons (by decide) _ _).foldl (fun u a ku => ku.commonsGrant (by decide) _ _)
    · exact k
  · exact k

theorem Kept.presentHeld (k : Kept L s t) (h : [Part.tiles, .engines] ⊆ L) (x) : Kept L s (t.presentHeld x) := by
  refine k.within h fun k => ?_
  unfold State.presentHeld
  split
  · exact k.modTile (by decide) _ _
  · exact k.modCommons (by decide) _ _
  · exact k

theorem Kept.zeroBankOf (k : Kept L s t) (h : [Part.stackMem, .commonsMem, .spadMem, .tiles, .engines, .stacks] ⊆ L)
    (b) :
    Kept L s (t.zeroBankOf b) := by
  refine k.step ?_ h
  unfold State.zeroBankOf
  split
  · exact (Kept.refl.modTile (by decide) _ _).withSpadMem (by decide) _ (wf_filter _)
  · exact (Kept.refl.modCommons (by decide) _ _).withCommonsMem (by decide) _ (wf_filter _)
  · exact Kept.refl.zeroBank (by decide) _ _

theorem Kept.takeNotify (k : Kept L s t) (h : [Part.tiles, .engines, .stacks] ⊆ L) (x) :
    Kept L s (t.takeNotify x).2 := by
  refine k.within h fun k => ?_
  unfold State.takeNotify
  dsimp only
  split
  · exact k.modTile (by decide) _ _
  · exact k.modCommons (by decide) _ _
  · exact k.modStack (by decide) _ _

theorem Kept.ringForeign (k : Kept L s t) (h : reporting [] ⊆ L) (c d q) : Kept L s (t.ringForeign c d q).1 := by
  dsimp only [State.ringForeign]
  exact k.fault h _ _ _ _

theorem Kept.ringBound (k : Kept L s t) (h : reporting [] ⊆ L) (c d e q) {f : State → State} (hf : Kept L s (f t)) :
    Kept L s (t.ringBound c d e q f).1 := by
  unfold State.ringBound
  split
  · exact k.ringForeign h _ _ _
  · exact hf

theorem Kept.ringTail (k : Kept L s t) (h : reporting [.engines] ⊆ L) (c d e q v) : Kept L s (t.ringTail c d e q v) :=
  k.within h fun k => ((k.modRing (by decide) _ _).fault (by decide) _ _ _ _).ite (k.modRing (by decide) _ _)

theorem Kept.scramble (k : Kept L s t) (h : (.freeValues :: accessReach) ⊆ L) (w x all) :
    Kept L s (t.scramble w x all) := by
  refine k.within h fun k => ?_
  unfold State.scramble
  dsimp only
  split
  · exact k
  · exact k.foldl (fun u a ku => ((ku.freeBytes (by decide) _).ewrite (by decide) _ _ _ _).withCtrs (by decide) _)

theorem Kept.countRetire (k : Kept L s t) (h : [Part.counters] ⊆ L) (d e st) : Kept L s (t.countRetire d e st) :=
  k.within h fun k => k.count (by decide) _ _ _ _

theorem Kept.putRecord (k : Kept L s t) (h : [Part.commonsMem, .engines] ⊆ L) (d e q c x f) :
    Kept L s (t.putRecord d e q c x f).1 :=
  k.within h fun k => k.commonsWrite (by decide) _ _ _ _ _

theorem Kept.reportHeld (k : Kept L s t) (h : reporting [] ⊆ L) (c h' detail) : Kept L s (t.reportHeld c h' detail) :=
  k.within h fun k => k.logEntry (by decide) _

theorem Kept.retired (k : Kept L s t) (h : reporting [.tiles, .engines, .contexts, .network, .fabric, .recovery] ⊆ L)
    (c d e q x f) :
    Kept L s (t.retired c d e q x f) := by
  refine k.within h fun k => ?_
  unfold State.retired
  dsimp only
  split
  · refine Kept.syncOp ?_ (by decide) _ _ _ (fun u a ku => ku.syncArrive (by decide) _ _)
    split
    · exact ((k.countRetire (by decide) _ _ _).count (by decide) _ _ _ _).ite ((((k.countRetire (by decide) _ _
          _).reportHeld (by decide) _ _ _).needRestore (by decide) _).ite ((k.countRetire (by decide) _ _
          _).reportHeld (by decide) _ _ _))
    · exact k.countRetire (by decide) _ _ _
  · split
    · exact ((k.countRetire (by decide) _ _ _).count (by decide) _ _ _ _).ite ((((k.countRetire (by decide) _ _
          _).reportHeld (by decide) _ _ _).needRestore (by decide) _).ite ((k.countRetire (by decide) _ _
          _).reportHeld (by decide) _ _ _))
    · exact k.countRetire (by decide) _ _ _

theorem Kept.ringGo (k : Kept L s t) (h : [Part.engines] ⊆ L) (d e q) : Kept L s (t.ringGo d e q) :=
  k.within h fun k => k.modRing (by decide) _ _

theorem Kept.ringStop (k : Kept L s t) (h : (.freeValues :: accessReach) ⊆ L) (c d e q) :
    Kept L s (t.ringStop c d e q) :=
  k.within h fun k => (k.foldl (fun u a ku => ((ku.scramble (by decide) _ _ _).putRecord (by decide) _ _ _ _ _
      _).retired (by decide) _ _ _ _ _ _)).modRing (by decide) _ _

theorem Kept.ringWrite (k : Kept L s t) (h : (.freeValues :: accessReach) ⊆ L) (fw c d off b) :
    Kept L s (t.ringWrite fw c d off b).1 := by
  refine k.within h fun k => ?_
  unfold State.ringWrite
  dsimp only
  split
  · exact k
  · split
    · dsimp only
      split
      · exact k.modRing (by decide) _ _
      · exact k.modRing (by decide) _ _
      · exact k.modRing (by decide) _ _
      · exact k.ringTail (by decide) _ _ _ _ _
      · split
        · refine Kept.ringStop ?_ (by decide) _ _ _ _
          split
          · exact k.ringGo (by decide) _ _ _
          · exact k
        · split
          · exact k.ringGo (by decide) _ _ _
          · exact k
      · exact k
    · refine Kept.ringBound k (by decide) _ _ _ _ ?_
      split
      · exact k
      · exact k
      · exact k.modRing (by decide) _ _
      · exact k.ringTail (by decide) _ _ _ _ _
      · split
        · refine Kept.ringStop ?_ (by decide) _ _ _ _
          split
          · exact k.ringGo (by decide) _ _ _
          · exact k
        · split
          · exact k.ringGo (by decide) _ _ _
          · exact k
      · exact k

theorem Kept.refuseDesc (k : Kept L s t) (h : reporting [.engines] ⊆ L) (d e q c x code) :
    Kept L s (t.refuseDesc d e q c x code) :=
  k.within h fun k => (k.ite (k.fault (by decide) _ _ _ _)).modRing (by decide) _ _

theorem Kept.takeDesc (k : Kept L s t) (h : accessReach ⊆ L) (d e q c slot w) :
    Kept L s (t.takeDesc d e q c slot w) := by
  refine k.within h fun k => ?_
  unfold State.takeDesc
  refine Kept.ite ((k.modRing (by decide) _ _).ok) ?_
  refine Kept.ite ((k.modRing (by decide) _ _).ok) ?_
  refine Kept.ite ((k.modRing (by decide) _ _).ok) ?_
  refine Kept.ite ((k.refuseDesc (by decide) _ _ _ _ _ _).ok) ?_
  refine Kept.ite ((k.refuseDesc (by decide) _ _ _ _ _ _).ok) ?_
  refine Kept.ite ((k.refuseDesc (by decide) _ _ _ _ _ _).ok) ?_
  dsimp only
  split
  · exact (k.epeek (by decide) _ _ _).turnAway
  · exact (((k.epeek (by decide) _ _ _).unitFail (by decide) _ _ _ _ _).ok).ite ((k.refuseDesc (by decide) _ _ _ _ _
        _).ok)
  · exact (k.refuseDesc (by decide) _ _ _ _ _ _).ok
  · exact k.turnAway
  · split
    · exact ((k.epeek (by decide) _ _ _).refuseDesc (by decide) _ _ _ _ _ _).ok
    · exact (((k.epeek (by decide) _ _ _).modRing (by decide) _ _).ok).ite ((((k.epeek (by decide) _ _ _).modRing
          (by decide) _ _).tookStep (by decide) _ _ _ _).ok)

theorem Kept.unbindRings (k : Kept L s t) (h : [Part.counters, .engines] ⊆ L) (c) : Kept L s (t.unbindRings c) := by
  refine k.within h fun k => ?_
  unfold State.unbindRings
  dsimp only
  refine Kept.withEng ?_ (by decide) _
  refine Kept.foldl k (fun u a ku => ?_)
  split
  · exact ku.count (by decide) _ _ _ _
  · exact ku

theorem Kept.unbindTiles (k : Kept L s t) (h : accessReach ⊆ L) (c ending next) :
    Kept L s (t.unbindTiles c ending next) := by
  refine k.within h fun k => ?_
  unfold State.unbindTiles
  refine Kept.foldl k ?_
  dsimp only
  split
  · intro u a ku
    split
    · exact ku.zeroTile (by decide) _
    · exact ku
  · intro u a ku
    split
    · exact (ku.cacheRange (by decide) _ _ _ _ _).zeroTile (by decide) _
    · exact ku

theorem Kept.unbind (k : Kept L s t) (h : accessReach ⊆ L) (c ending next) : Kept L s (t.unbind c ending next) := by
  refine k.step ?_ h
  unfold State.unbind
  split
  · exact Kept.refl
  extract_lets s1 s2 s3 s4 s5 mine _ _ _ s6
  have h1 : Kept accessReach t s1 := by
    refine Kept.unbindRings (Kept.unbindTiles (Kept.ite ?_ ?_) (by decide) _ _ _) (by decide) _
    · exact Kept.refl.revokeCredits (by decide) _
    · exact Kept.refl
  have h2 : Kept accessReach t s2 := h1.foldl fun u g ku => by
    split
    · exact ku.passSegment (by decide) _ _ _
    · exact ku
  have h3 : Kept accessReach t s3 := h2.foldl fun u b ku => ku.passBlock (by decide) _ _ _
  have h4 : Kept accessReach t s4 := h3.foldl fun u b ku => ku.passBlock (by decide) _ _ _
  have h5 : Kept accessReach t s5 := h4.foldl fun u p ku => ku.foldl fun u o ku => by
    split
    · exact ku.passBank (by decide) _ _ _
    · exact ku
  clear_value s5
  refine (h5.trans ?_).modCtx (by decide) _ _
  refine ⟨fun p hp => ?_, id⟩
  cases p <;> simp [State.same, accessReach, reporting, reports, s6] at hp ⊢

theorem Kept.bind (k : Kept L s t) (h : [Part.commonsMem, .spadMem, .tiles, .engines, .contexts, .stacks, .network,
    .fabric] ⊆ L) (c last i) :
    Kept L s (t.bind c last i) := by
  refine k.step ?_ h
  unfold State.bind
  extract_lets s1 s2 s3 s4 s5 s6
  have h1 : Kept [Part.commonsMem, .spadMem, .tiles, .engines, .contexts, .stacks, .network, .fabric] t s1 :=
      Kept.refl.foldl fun u p ku => by
    split
    · exact (Kept.ite ku (ku.zeroTile (by decide) _)).modTile (by decide) _ _
    · exact ku
  have h2 : Kept [Part.commonsMem, .spadMem, .tiles, .engines, .contexts, .stacks, .network, .fabric] t s2 :=
      h1.foldl fun u g ku => by
    split
    · split
      · exact ku.modCommons (by decide) _ _
      · exact ku.passSegment (by decide) _ _ _
    · exact ku
  have h3 : Kept [Part.commonsMem, .spadMem, .tiles, .engines, .contexts, .stacks, .network, .fabric] t s3 :=
      h2.foldl fun u b ku => ku.passBlock (by decide) _ _ _
  have h4 : Kept [Part.commonsMem, .spadMem, .tiles, .engines, .contexts, .stacks, .network, .fabric] t s4 :=
      h3.foldl fun u b ku => ku.passBlock (by decide) _ _ _
  have h5 : Kept [Part.commonsMem, .spadMem, .tiles, .engines, .contexts, .stacks, .network, .fabric] t s5 :=
      h4.foldl fun u p ku =>
    (Kept.ite ku (ku.passBank (by decide) _ _ _)).modCtx (by decide) _ _
  have h6 : Kept [Part.commonsMem, .spadMem, .tiles, .engines, .contexts, .stacks, .network, .fabric] t s6 :=
      h5.foldl fun u r ku => ku.modRing (by decide) _ _
  clear_value s6
  refine (h6.trans ?_).modCtx (by decide) _ _
  refine ⟨fun p hp => ?_, id⟩
  cases p <;> simp [State.same] at hp ⊢

theorem Kept.zeroGroup (k : Kept L s t) (h : [Part.counters, .stackMem] ⊆ L) (g) : Kept L s (t.zeroGroup g) :=
  k.within h fun k => (k.count (by decide) _ _ _ _).foldl (fun u a ku => ku.withStackMem (by decide) _ (wf_zeroRange
      _ _))

theorem Kept.resetResidues (k : Kept L s t) (h : [Part.counters, .stackMem] ⊆ L) (old i) :
    Kept L s (t.resetResidues old i) := by
  refine k.within h fun k => ?_
  unfold State.resetResidues
  refine Kept.foldl k (fun u a ku => ?_)
  split
  · exact ku
  · exact ku.ite (ku.zeroGroup (by decide) _)

theorem Kept.declareQueues (k : Kept L s t) (h : [Part.contexts] ⊆ L) (posture d u' g) :
    Kept L s (t.declareQueues posture d u' g) :=
  k.within h fun k => k.foldl (fun u a ku => ku.ite (ku.modQueue (by decide) _ _))

theorem Kept.activate (k : Kept L s t) (h : accessReach ⊆ L) (c d u' g) : Kept L s (t.activate c d u' g) := by
  refine k.within h fun k => ?_
  unfold State.activate
  dsimp only
  split
  · exact (((k.declareQueues (by decide) _ _ _ _).modEngine (by decide) _ _).ite (k.declareQueues (by decide) _ _ _
        _)).resizeCache (by decide) _ _ _ _
  · exact ((k.declareQueues (by decide) _ _ _ _).modEngine (by decide) _ _).ite (k.declareQueues (by decide) _ _ _ _)

theorem Kept.placedFire (k : Kept L s t) (h : [Part.counters, .engines] ⊆ L) (c d e x free ins) :
    Kept L s (t.placedFire c d e x free ins).1 := by
  refine k.within h fun k => ?_
  unfold State.placedFire
  dsimp only
  split
  · exact ((k.engBusy (by decide) _ _ _).setEngSr (by decide) _ _ _).countConv (by decide) _ _
  · exact k.engBusy (by decide) _ _ _

theorem Kept.fired (k : Kept L s t) (h : [Part.counters, .contexts] ⊆ L) (_c d u' g eof) :
    Kept L s (t.fired _c d u' g eof) :=
  k.within h fun k => (((((k.count (by decide) _ _ _ _).count64 (by decide) _ _ _ _).count (by decide) _ _ _
      _).modUnit (by decide) _ _).ite ((k.count (by decide) _ _ _ _).count64 (by decide) _ _ _ _)).modUnit
      (by decide) _ _

theorem Kept.modLog (k : Kept L s t) (h : [Part.contexts] ⊆ L) (k' f) : Kept L s (t.modLog k' f) :=
  k.within h fun k => k.withFlow (by decide) _

theorem Kept.logPut (k : Kept L s t) (h : accessReach ⊆ L) (c d u' t') : Kept L s (t.logPut c d u' t').1 := by
  unfold State.logPut
  extract_lets l b w put
  have hput : ∀ (v : State) (ring : W64), Kept L s v → Kept L s (put v ring).1 := fun v ring kv =>
    Kept.foldl_of (fun r : (State × Bool) × Nat => r.1.1) kv fun r q kr => kr.writeFA h _ _ _ _
  split
  · exact k
  · exact Kept.foldl_fst k fun r ring kr => hput _ _ kr

theorem Kept.logGet (k : Kept L s t) (h : accessReach ⊆ L) (c d u' i) : Kept L s (t.logGet c d u' i).1 := by
  refine k.within h fun k => ?_
  unfold State.logGet
  dsimp only
  split
  · exact k
  · refine Kept.foldl_fst k (fun u a ku => ?_)
    split
    · exact ku
    · exact Kept.foldl_fst (p := (u.1, true)) ku fun u a ku => ku.readFA (by decide) _ _ _

theorem Kept.logFull (k : Kept L s t) (h : reporting [.contexts] ⊆ L) (c d u') : Kept L s (t.logFull c d u') :=
  k.within h fun k => ((k.event (by decide) _ _ _ _).modLog (by decide) _ _).ite k

theorem Kept.returnLink (k : Kept L s t) (h : [Part.counters, .fabric, .messages] ⊆ L) (c d panel lq n) :
    Kept L s (t.returnLink c d panel lq n) :=
  k.within h fun k => (k.count (by decide) _ _ _ _).fabricOut (by decide) _ _ _

theorem Kept.logArrivals (k : Kept L s t) (h : accessReach ⊆ L) (c d u' lq n) :
    Kept L s (t.logArrivals c d u' lq n) := by
  suffices H : ∀ u, Kept accessReach t u → Kept accessReach t (u.logArrivals c d u' lq n) from k.step (H t Kept.refl)
      h
  induction n generalizing c d u' lq with
  | zero =>
    intro u ku
    unfold State.logArrivals
    exact ku
  | succ n ih =>
    intro u ku
    unfold State.logArrivals
    dsimp only
    split
    · exact ku
    · refine Kept.ite ?_ (ku.logFull (by decide) _ _ _)
      split
      next heq =>
        exact (ku.logPut (by decide) _ _ _ _).fst heq
      next heq =>
        exact ih _ _ _ _ _ ((((ku.logPut (by decide) _ _ _ _).fst heq).modLog (by decide) _ _).returnLink (by decide)
            _ _ _ _ _)

theorem Kept.logNext (k : Kept L s t) (h : accessReach ⊆ L) (c d u') : Kept L s (t.logNext c d u').1 := by
  refine k.within h fun k => ?_
  unfold State.logNext
  dsimp only
  split
  · exact k
  · split
    · exact k.logGet (by decide) _ _ _ _
    · dsimp only
      exact (k.logGet (by decide) _ _ _ _).unitFail (by decide) _ _ _ _ _

theorem Kept.logDelivered (k : Kept L s t) (h : [Part.counters, .contexts] ⊆ L) (k' replay) :
    Kept L s (t.logDelivered k' replay) :=
  k.within h fun k => ((k.modLog (by decide) _ _).count (by decide) _ _ _ _).ite (k.modLog (by decide) _ _)

theorem Kept.loadPage (k : Kept L s t) (h : accessReach ⊆ L) (c d u' g x) : Kept L s (t.loadPage c d u' g x).1 := by
  refine k.within h fun k => ?_
  unfold State.loadPage
  dsimp only
  split
  next heq =>
    exact ((k.readPage (by decide) _ _ _ _).fst heq).unitFail (by decide) _ _ _ _ _
  next heq =>
    exact (((k.readPage (by decide) _ _ _ _).fst heq).sparseFault (by decide) _ _ _ _ _ _).modUnit (by decide) _ _

theorem Kept.writeIntoPage (k : Kept L s t) (h : accessReach ⊆ L) (c d u' g x t') :
    Kept L s (t.writeIntoPage c d u' g x t').1 := by
  refine k.within h fun k => ?_
  unfold State.writeIntoPage
  dsimp only
  split
  · split
    · dsimp only
      split
      · exact (k.writeTagged (by decide) _ _ _ _ _ _).modUnit (by decide) _ _
      · exact k.writeTagged (by decide) _ _ _ _ _ _
    · split
      · dsimp only
        split
        · exact (k.writeTagged (by decide) _ _ _ _ _ _).modUnit (by decide) _ _
        · exact k.writeTagged (by decide) _ _ _ _ _ _
      · exact k.modUnit (by decide) _ _
  · split
    · dsimp only
      split
      · exact (k.writePage (by decide) _ _ _ _ _ _).modUnit (by decide) _ _
      · exact k.writePage (by decide) _ _ _ _ _ _
    · split
      · dsimp only
        split
        · exact (k.writePage (by decide) _ _ _ _ _ _).modUnit (by decide) _ _
        · exact k.writePage (by decide) _ _ _ _ _ _
      · split
        · dsimp only
          split
          · exact (k.writeTagged (by decide) _ _ _ _ _ _).modUnit (by decide) _ _
          · exact k.writeTagged (by decide) _ _ _ _ _ _
        · exact k.modUnit (by decide) _ _

theorem Kept.checksum (k : Kept L s t) (h : accessReach ⊆ L) (c d u' g t') : Kept L s (t.checksum c d u' g t') := by
  refine k.within h fun k => ?_
  unfold State.checksum
  split
  · exact k
  dsimp only
  split
  · exact Kept.modUnit (((k.writeOut (by decide) _ _ _ _ _).unitFail (by decide) _ _ _ _ _).ite
      (Kept.withRecov ((k.writeOut (by decide) _ _ _ _ _).unitFail (by decide) _ _ _ _ _) (by decide) _)) (by decide)
          _ _
  · exact k.modUnit (by decide) _ _

theorem Kept.sourceNext (k : Kept L s t) (h : accessReach ⊆ L) (c d u' g addr bytes) :
    Kept L s (t.sourceNext c d u' g addr bytes).1 := by
  refine k.within h fun k => ?_
  unfold State.sourceNext
  dsimp only
  split
  · split
    · exact k
    · split
      next heq =>
        exact ((k.readFA (by decide) _ _ _).fst heq).modUnit (by decide) _ _
      next heq =>
        exact ((k.readFA (by decide) _ _ _).fst heq).unitFail (by decide) _ _ _ _ _
  · split
    · exact k
    · split
      · split
        · exact k.loadPage (by decide) _ _ _ _ _
        · exact (k.loadPage (by decide) _ _ _ _ _).modUnit (by decide) _ _
      · dsimp only
        split
        · exact k
        · exact k.modUnit (by decide) _ _

theorem Kept.sourceEmit (k : Kept L s t) (h : reporting [.spadMem, .tiles, .contexts, .network, .fabric] ⊆ L)
    (c d u' g eof fmt b) :
    Kept L s (t.sourceEmit c d u' g eof fmt b) :=
  k.within h fun k => ((k.emit (by decide) c _ _ _ _ _).modUnit (by decide) _ _).fired (by decide) c _ _ _ _

theorem Kept.fireSource (k : Kept L s t) (h : accessReach ⊆ L) (c d u' g addr bytes frame logged) :
    Kept L s (t.fireSource c d u' g addr bytes frame logged) := by
  refine k.within h fun k => ?_
  unfold State.fireSource
  refine Kept.ite ((k.outWait (by decide) _ _ _).turnAway) ?_
  dsimp only
  split
  · split
    next heq =>
      exact ((((k.logNext (by decide) _ _ _).fst heq).sourceEmit (by decide) _ _ _ _ _ _ _).logDelivered (by decide)
          _ _).ok
    next heq =>
      exact ((k.logNext (by decide) _ _ _).fst heq).turnAway
  · split
    next heq =>
      exact ((k.sourceNext (by decide) _ _ _ _ _ _).fst heq).turnAway
    next heq =>
      refine Kept.ite ?_ ((((k.sourceNext (by decide) _ _ _ _ _ _).fst heq).sourceEmit (by decide) _ _ _ _ _ _ _).ok)
      refine Kept.ite ?_ ((k.logFull (by decide) _ _ _).turnAway)
      split
      next heq2 =>
        exact (((((((k.sourceNext (by decide) _ _ _ _ _ _).fst heq).logPut (by decide) _ _ _ _).fst heq2).modLog
            (by decide) _ _).sourceEmit (by decide) _ _ _ _ _ _ _).logDelivered (by decide) _ _).ok
      · exact k.turnAway

theorem Kept.fireIngress (k : Kept L s t) (h : accessReach ⊆ L) (c d u' g) : Kept L s (t.fireIngress c d u' g) := by
  refine k.within h fun k => ?_
  unfold State.fireIngress
  dsimp only
  split
  next heq =>
    refine Kept.turnAway ?_
    refine Kept.count ?_ (by decide) _ _ _ _
    refine Kept.fst ?_ heq
    refine Kept.logNext ?_ (by decide) _ _ _
    split
    · exact k.logArrivals (by decide) _ _ _ _ _
    · exact k
  next heq =>
    split
    · refine Kept.turnAway ?_
      refine Kept.fst ?_ heq
      refine Kept.logNext ?_ (by decide) _ _ _
      split
      · exact k.logArrivals (by decide) _ _ _ _ _
      · exact k
    · refine Kept.ok ?_
      refine Kept.logDelivered ?_ (by decide) _ _
      refine Kept.ite ?_ ?_
      · refine Kept.fst ?_ heq
        refine Kept.logNext ?_ (by decide) _ _ _
        split
        · exact k.logArrivals (by decide) _ _ _ _ _
        · exact k
      · refine Kept.count ?_ (by decide) _ _ _ _
        refine Kept.fst ?_ heq
        refine Kept.logNext ?_ (by decide) _ _ _
        split
        · exact k.logArrivals (by decide) _ _ _ _ _
        · exact k
    · refine Kept.ite ?_ ?_
      · refine Kept.ok ?_
        refine Kept.logDelivered ?_ (by decide) _ _
        refine Kept.modUnit ?_ (by decide) _ _
        refine Kept.fst ?_ heq
        refine Kept.logNext ?_ (by decide) _ _ _
        split
        · exact k.logArrivals (by decide) _ _ _ _ _
        · exact k
      · refine Kept.ite ?_ ?_
        · refine Kept.turnAway ?_
          refine Kept.outWait ?_ (by decide) _ _ _
          refine Kept.fst ?_ heq
          refine Kept.logNext ?_ (by decide) _ _ _
          split
          · exact k.logArrivals (by decide) _ _ _ _ _
          · exact k
        · refine Kept.ok ?_
          refine Kept.logDelivered ?_ (by decide) _ _
          refine Kept.fired ?_ (by decide) _ _ _ _ _
          refine Kept.emit ?_ (by decide) _ _ _ _ _ _
          refine Kept.fst ?_ heq
          refine Kept.logNext ?_ (by decide) _ _ _
          split
          · exact k.logArrivals (by decide) _ _ _ _ _
          · exact k
    · refine Kept.ok ?_
      refine Kept.ite ?_ ?_
      · refine Kept.logDelivered ?_ (by decide) _ _
        refine Kept.ite ?_ ?_
        · refine Kept.fst ?_ heq
          refine Kept.logNext ?_ (by decide) _ _ _
          split
          · exact k.logArrivals (by decide) _ _ _ _ _
          · exact k
        · refine Kept.count ?_ (by decide) _ _ _ _
          refine Kept.fst ?_ heq
          refine Kept.logNext ?_ (by decide) _ _ _
          split
          · exact k.logArrivals (by decide) _ _ _ _ _
          · exact k
      · refine Kept.modUnit ?_ (by decide) _ _
        refine Kept.event ?_ (by decide) _ _ _ _
        refine Kept.logDelivered ?_ (by decide) _ _
        refine Kept.ite ?_ ?_
        · refine Kept.fst ?_ heq
          refine Kept.logNext ?_ (by decide) _ _ _
          split
          · exact k.logArrivals (by decide) _ _ _ _ _
          · exact k
        · refine Kept.count ?_ (by decide) _ _ _ _
          refine Kept.fst ?_ heq
          refine Kept.logNext ?_ (by decide) _ _ _
          split
          · exact k.logArrivals (by decide) _ _ _ _ _
          · exact k

theorem Kept.takeXtoken (k : Kept L s t) (h : accessReach ⊆ L) (d lq panel t') :
    Kept L s (t.takeXtoken d lq panel t') := by
  refine k.within h fun k => ?_
  unfold State.takeXtoken
  split
  · exact k
  · split
    · exact k
    · exact (k.modLog (by decide) _ _).logArrivals (by decide) _ _ _ _ _

theorem Kept.laneFire (k : Kept L s t) (h : [Part.counters, .tiles] ⊆ L) (d u' fmt conv port ts n) :
    Kept L s (t.laneFire d u' fmt conv port ts n).1 :=
  k.within h fun k => (k.modTile (by decide) _ _).countConv (by decide) _ _

theorem Kept.unitWrites (k : Kept L s t) (h : reporting [.spadMem, .tiles, .engines, .contexts, .network, .fabric] ⊆
    L) (c d u' g ts eof) :
    Kept L s (t.unitWrites c d u' g ts eof) := by
  refine k.step ?_ h
  have hfire : ∀ x y z, Kept (reporting [.spadMem, .tiles, .engines, .contexts, .network, .fabric]) t (t.placedFire c
      d (u' - 96) x y z).1 := fun _ _ _ =>
    Kept.refl.placedFire (by decide) _ _ _ _ _ _
  unfold State.unitWrites
  obtain ⟨fire, hf⟩ : ∃ f, f = t.placedFire c d (u' - 96) := ⟨_, rfl⟩
  rw [← hf] at hfire ⊢
  extract_lets settled ins r
  have hr : Kept (reporting [.spadMem, .tiles, .engines, .contexts, .network, .fabric]) t r.1 := by
    unfold r
    split
    · exact hfire _ _ _
    · exact Kept.refl
  clear_value r
  refine hr.foldl fun u o ku => ?_
  extract_lets n p
  have hp : Kept (reporting [.spadMem, .tiles, .engines, .contexts, .network, .fabric]) t p.1 := by
    unfold p
    split
    · exact ku
    · exact ku.laneFire (by decide) _ _ _ _ _ _ _
    · split <;> exact ku
  exact hp.emit (by decide) _ _ _ _ _ _

theorem Kept.egress (k : Kept L s t) (h : reporting [.contexts, .network, .fabric] ⊆ L) (c d u' lq dest t') :
    Kept L s (t.egress c d u' lq dest t') :=
  k.within h fun k => ((k.modUnit (by decide) _ _).count (by decide) _ _ _ _).ite ((k.count (by decide) _ _ _ _).ite
      ((k.modUnit (by decide) _ _).injectAway (by decide) _ _))

theorem Kept.sinkWrite (k : Kept L s t) (h : accessReach ⊆ L) (c d u' g addr t') :
    Kept L s (t.sinkWrite c d u' g addr t').1 := by
  refine k.within h fun k => ?_
  unfold State.sinkWrite
  dsimp only
  split
  · exact k.writeIntoPage (by decide) _ _ _ _ _ _
  · split
    next heq =>
      exact ((k.writeOut (by decide) _ _ _ _ _).fst heq).modUnit (by decide) _ _
    next heq =>
      exact ((k.writeOut (by decide) _ _ _ _ _).fst heq).unitFail (by decide) _ _ _ _ _

theorem Kept.fireOn (k : Kept L s t) (h : accessReach ⊆ L) (c d u' g hs) : Kept L s (t.fireOn c d u' g hs) := by
  refine k.within h fun k => ?_
  unfold State.fireOn
  refine Kept.ite ((((k.foldl (fun u a ku => ku.popQueue (by decide) _)).fault (by decide) _ _ _ _).haltCtx
      (by decide) _).ok) ?_
  refine Kept.ite ((k.foldl (fun u a ku => ku.consume (by decide) _ _ _ _ _)).ok) ?_
  dsimp only
  split
  · exact (((((k.sinkWrite (by decide) _ _ _ _ _ _).foldl (fun u a ku => ku.consume (by decide) _ _ _ _ _)).checksum
        (by decide) _ _ _ _ _).fired (by decide) _ _ _ _ _).ok).ite ((k.sinkWrite (by decide) _ _ _ _ _ _).turnAway)
  · exact ((k.count (by decide) _ _ _ _).turnAway).ite (((((k.foldl (fun u a ku => ku.consume (by decide) _ _ _ _
        _)).egress (by decide) _ _ _ _ _ _).checksum (by decide) _ _ _ _ _).fired (by decide) _ _ _ _ _).ok)
  · split
    · exact ((((k.writeIntoPage (by decide) _ _ _ _ _ _).foldl (fun u a ku => ku.consume (by decide) _ _ _ _
          _)).fired (by decide) _ _ _ _ _).ok).ite ((k.writeIntoPage (by decide) _ _ _ _ _ _).turnAway)
    · exact ((k.outWait (by decide) _ _ _).turnAway).ite ((((k.foldl (fun u a ku => ku.consume (by decide) _ _ _ _
          _)).unitWrites (by decide) _ _ _ _ _ _).fired (by decide) _ _ _ _ _).ok)
  · exact ((k.outWait (by decide) _ _ _).turnAway).ite ((((k.foldl (fun u a ku => ku.consume (by decide) _ _ _ _
        _)).unitWrites (by decide) _ _ _ _ _ _).fired (by decide) _ _ _ _ _).ok)

theorem Kept.fireInputs (k : Kept L s t) (h : accessReach ⊆ L) (c d u' g) : Kept L s (t.fireInputs c d u' g) :=
  k.within h fun k => ((k.heads (by decide) _ _ _ _).ok).ite (((((k.heads (by decide) _ _ _ _).count (by decide) _ _
      _ _).modUnit (by decide) _ _).turnAway).ite (((k.heads (by decide) _ _ _ _).modUnit (by decide) _ _).fireOn
      (by decide) _ _ _ _ _))

theorem Kept.behindChunk (k : Kept L s t) (h : [Part.time, .counters] ⊆ L) (d u') : Kept L s (t.behindChunk d u') :=
  k.within h fun k => (((k.count (by decide) _ _ _ _).count (by decide) _ _ _ _).notBefore (by decide) _).ite k

theorem Kept.scanWrite (k : Kept L s t) (h : accessReach ⊆ L) (c area off b) :
    Kept L s (t.scanWrite c area off b).1 := by
  refine k.within h fun k => ?_
  unfold State.scanWrite
  split
  · exact k
  · split
    next heq =>
      exact (k.writeFA (by decide) _ _ _ _).fst heq
    next heq =>
      exact (k.writeFA (by decide) _ _ _ _).fst heq

theorem Kept.record {r : ScanPut × Scan} (k : Kept L s r.1.st) (h : accessReach ⊆ L)
    (c area d type id flags payload) :
    Kept L s (ScanPut.record c area d r type id flags payload).1.st :=
  k.scanWrite h _ _ _ _

theorem Kept.scanDie (k : Kept L s t) (h : (.freeValues :: accessReach) ⊆ L) (c i g d) :
    Kept L s (t.scanDie c i g d).1 := by
  have ha : accessReach ⊆ L := List.Subset.trans (by decide) h
  unfold State.scanDie
  split
  · exact k
  · extract_lets r z
    have hr : Kept L s r.1.st := by
      refine Kept.foldl_of (fun r : ScanPut × Scan => r.1.st) k fun r p kr => ?_
      refine Kept.record ?_ ha _ _ _ _ _ _ _
      exact kr.withFreeCount (List.Subset.trans (by decide) h) _
    have hz : Kept L s z.1 := Kept.foldl_fst hr fun z q kz => kz.scanWrite ha _ _ _ _
    exact hz

theorem Kept.scanWriteAll (k : Kept L s t) (h : (.freeValues :: accessReach) ⊆ L) (c g) :
    Kept L s (t.scanWriteAll c g).1 := by
  refine k.within h fun k => ?_
  unfold State.scanWriteAll
  split
  · exact k
  · exact k.foldl_fst (fun u a ku => ku.scanDie (by decide) _ _ _ _)

theorem Kept.scanCommit (k : Kept L s t) (h : accessReach ⊆ L) (c g) : Kept L s (t.scanCommit c g).1 := by
  unfold State.scanCommit
  split
  · exact k
  · refine Kept.foldl_fst k fun r d kr => ?_
    split
    · exact kr
    · exact Kept.record kr h _ _ _ _ _ _ _

theorem Kept.checkRecords (k : Kept L s t) (h : accessReach ⊆ L) (c g d a off hs k' n) :
    Kept L s (t.checkRecords c g d a off hs k' n).1 := by
  suffices H : ∀ u, Kept accessReach t u → Kept accessReach t (u.checkRecords c g d a off hs k' n).1 from k.step (H t
      Kept.refl) h
  induction n generalizing c g d a off hs k' with
  | zero =>
    intro u ku
    unfold State.checkRecords
    exact ku
  | succ n ih =>
    intro u ku
    unfold State.checkRecords
    dsimp only
    split
    next heq =>
      split
      next heq2 =>
        split
        · exact (((ku.readFA (by decide) _ _ _).fst heq).readFA (by decide) _ _ _).fst heq2
        · exact ih _ _ _ _ _ _ _ _ ((((ku.readFA (by decide) _ _ _).fst heq).readFA (by decide) _ _ _).fst heq2)
      next heq2 =>
        exact (((ku.readFA (by decide) _ _ _).fst heq).readFA (by decide) _ _ _).fst heq2
    next heq =>
      exact (ku.readFA (by decide) _ _ _).fst heq

theorem Kept.scanChecks (k : Kept L s t) (h : accessReach ⊆ L) (c g) : Kept L s (t.scanChecks c g).1 := by
  refine k.within h fun k => ?_
  unfold State.scanChecks
  dsimp only
  split
  · exact k
  · refine Kept.foldl_fst k (fun u a ku => ?_)
    split
    · exact ku
    · exact ku.checkRecords (by decide) _ _ _ _ _ _ _ _

theorem Kept.settleTokens (k : Kept L s t) (h : [Part.counters, .spadMem, .tiles, .contexts, .network] ⊆ L) (c) :
    Kept L s (t.settleTokens c) := by
  refine k.within h fun k => ?_
  unfold State.settleTokens
  refine Kept.foldl k ?_
  dsimp only
  intro u a ku
  split
  · exact (ku.withNet (by decide) _).pushQueue (by decide) _ _
  · exact ku.withNet (by decide) _

theorem Kept.bcast (k : Kept L s t) (h : [Part.counters, .messages] ⊆ L) (c) : Kept L s (t.bcast c) :=
  k.within h fun k => k.foldl (fun u a ku => ku.ctrl (by decide) _ _ _ _)

theorem Kept.zeroResidues (k : Kept L s t) (h : [Part.counters, .stackMem] ⊆ L) (c) :
    Kept L s (t.zeroResidues c) := by
  refine k.within h fun k => ?_
  unfold State.zeroResidues
  split
  · exact k
  · exact k.foldl (fun u a ku => ku.zeroGroup (by decide) _)

theorem Kept.latchPostures (k : Kept L s t) (h : [Part.counters, .stackMem, .contexts] ⊆ L) (c) :
    Kept L s (t.latchPostures c) :=
  k.within h fun k => ((k.zeroResidues (by decide) _).ite k).modCtx (by decide) _ _

theorem Kept.seedContext (k : Kept L s t) (h : [Part.tiles, .engines, .security] ⊆ L) (c) :
    Kept L s (t.seedContext c) := by
  refine k.within h fun k => ?_
  unfold State.seedContext
  refine Kept.foldl ?_ ?_
  · refine Kept.foldl ?_ ?_
    · split
      · exact k.draw (by decide)
      · exact k
    · split
      · intro u a ku
        split
        · exact ku.modTile (by decide) _ _
        · exact ku
      · dsimp only
        intro u a ku
        split
        · exact ku.modTile (by decide) _ _
        · exact ku
  · split
    · exact fun u a ku => ku.foldl (fun u a ku => ku.setEngSr (by decide) _ _ _)
    · exact fun u a ku => ku.foldl (fun u a ku => ku.setEngSr (by decide) _ _ _)

theorem Kept.allDirty (k : Kept L s t) (h : [Part.tiles, .engines] ⊆ L) (c) : Kept L s (t.allDirty c) := by
  refine k.within h fun k => ?_
  unfold State.allDirty
  refine Kept.foldl (k.mapTiles (by decide) _ _) (fun u a ku => ?_)
  split
  · exact ku.modCommons (by decide) _ _
  · exact ku

theorem Kept.setRegulators (k : Kept L s t) (h : [Part.network] ⊆ L) : Kept L s (t.setRegulators) := by
  refine k.within h fun k => ?_
  unfold State.setRegulators
  refine Kept.foldl k ?_
  dsimp only
  intro u a ku
  refine Kept.foldl ku (fun u a ku => ?_)
  split
  · exact ku
  · exact ku.withNet (by decide) _

theorem Kept.openLogs (k : Kept L s t) (h : [Part.contexts] ⊆ L) (i us) : Kept L s (t.openLogs i us) :=
  k.within h fun k => k.foldl (fun u a ku => (ku.modLog (by decide) _ _).ite ku)

theorem Kept.startGraph (k : Kept L s t) (h : reporting [.panelState, .anatomy, .stackMem, .commonsMem, .spadMem,
    .tiles, .engines, .contexts, .stacks, .network, .fabric, .power, .recovery] ⊆ L) (c i) :
    Kept L s (t.startGraph c i) := by
  refine k.within h fun k => ?_
  unfold State.startGraph
  extract_lets s1 v live s2 s3 s4 _ s5
  have h2 : Kept (reporting [.panelState, .anatomy, .stackMem, .commonsMem, .spadMem, .tiles, .engines, .contexts,
      .stacks,
    .network, .fabric, .power, .recovery]) t s2 := (k.latchPostures (by decide) c).foldl fun u g ku =>
    (ku.modUnit (by decide) _ _).activate (by decide) c g.die g.unit.val (some g)
  have h3 := ((h2.openLogs (by decide) i i.graph.units).seedContext (by decide) c).allDirty (by decide) c
  have h4 : Kept (reporting [.panelState, .anatomy, .stackMem, .commonsMem, .spadMem, .tiles, .engines, .contexts,
      .stacks,
    .network, .fabric, .power, .recovery]) t s5 := (h3.modCtx (by decide) _ _).withFab (by decide) _
  exact (h4.setRegulators (by decide)).settleRun (by decide)

theorem Kept.arm (k : Kept L s t) (h : [Part.contexts] ⊆ L) (c kind) : Kept L s (t.arm c kind) :=
  k.within h fun k => k.modCtx (by decide) _ _

theorem Kept.openSwitch (k : Kept L s t) (h : [Part.contexts] ⊆ L) (c sw target) :
    Kept L s (t.openSwitch c sw target) :=
  k.within h fun k => (k.mapUnits (by decide) _ _).modCtx (by decide) _ _

theorem Kept.settleArm (k : Kept L s t) (h : reporting [.contexts] ⊆ L) (c) : Kept L s (t.settleArm c) := by
  refine k.within h fun k => ?_
  unfold State.settleArm
  dsimp only
  split
  · exact (k.openSwitch (by decide) _ _ _).bcast (by decide) _
  · split
    · exact (k.modCtx (by decide) _ _).fault (by decide) _ _ _ _
    · exact ((k.foldl (fun u a ku => ku.modUnit (by decide) _ _)).openSwitch (by decide) _ _ _).ite (((k.foldl (fun u
          a ku => ku.modUnit (by decide) _ _)).openSwitch (by decide) _ _ _).bcast (by decide) _)
  · exact k.modCtx (by decide) _ _
  · exact k

theorem Kept.turnUnit (k : Kept L s t) (h : accessReach ⊆ L) (c d u' back flush) :
    Kept L s (t.turnUnit c d u' back flush) :=
  k.within h fun k => ((k.modUnit (by decide) _ _).count (by decide) _ _ _ _).activate (by decide) _ _ _ _

theorem Kept.flushQueues (k : Kept L s t) (h : reporting [.anatomy, .commonsMem, .spadMem, .tiles, .engines,
    .contexts, .network, .fabric, .power, .recovery] ⊆ L) (d u' e) :
    Kept L s (t.flushQueues d u' e) :=
  k.within h fun k => k.foldl (fun u a ku => (ku.dropTokens (by decide) _ _).ite (((ku.dropTokens (by decide) _
      _).count (by decide) _ _ _ _).count (by decide) _ _ _ _))

theorem Kept.flushRings (k : Kept L s t) (h : (.freeValues :: accessReach) ⊆ L) (c d e ep) :
    Kept L s (t.flushRings c d e ep) :=
  k.within h fun k => k.foldl (fun u a ku => ku.ite ((ku.foldl (fun u a ku => ku.scramble (by decide) _ _ _)).modRing
      (by decide) _ _))

theorem Kept.flushInside (k : Kept L s t) (h : (.freeValues :: accessReach) ⊆ L) (c d u' e) :
    Kept L s (t.flushInside c d u' e) := by
  refine k.within h fun k => ?_
  unfold State.flushInside
  refine Kept.ite ?_ ?_
  · refine Kept.flushRings ?_ (by decide) _ _ _ _
    refine Kept.modUnit ?_ (by decide) _ _
    refine Kept.ite ?_ ?_
    · dsimp only
      split
      · exact k
      · split
        · exact k
        · exact (k.modTile (by decide) _ _).ite (((k.count (by decide) _ _ _ _).modTile (by decide) _ _).ite k)
    · refine Kept.count ?_ (by decide) _ _ _ _
      dsimp only
      split
      · exact k
      · split
        · exact k
        · exact (k.modTile (by decide) _ _).ite (((k.count (by decide) _ _ _ _).modTile (by decide) _ _).ite k)
  · refine Kept.modUnit ?_ (by decide) _ _
    refine Kept.ite ?_ ?_
    · dsimp only
      split
      · exact k
      · split
        · exact k
        · exact (k.modTile (by decide) _ _).ite (((k.count (by decide) _ _ _ _).modTile (by decide) _ _).ite k)
    · refine Kept.count ?_ (by decide) _ _ _ _
      dsimp only
      split
      · exact k
      · split
        · exact k
        · exact (k.modTile (by decide) _ _).ite (((k.count (by decide) _ _ _ _).modTile (by decide) _ _).ite k)

theorem Kept.dropLeft (k : Kept L s t) (h : [Part.counters, .tiles, .contexts] ⊆ L) (d u') :
    Kept L s (t.dropLeft d u') := by
  refine k.within h fun k => ?_
  unfold State.dropLeft
  refine Kept.ite k ?_
  refine Kept.modUnit ?_ (by decide) _ _
  dsimp only
  split
  · exact k.count (by decide) _ _ _ _
  · exact ((k.count (by decide) _ _ _ _).count (by decide) _ _ _ _).modTile (by decide) _ _

theorem Kept.flushUnit (k : Kept L s t) (h : (.freeValues :: accessReach) ⊆ L) (c d u' back) :
    Kept L s (t.flushUnit c d u' back) :=
  k.within h fun k => ((k.flushQueues (by decide) _ _ _).flushInside (by decide) _ _ _ _).turnUnit (by decide) _ _ _
      _ _

theorem Kept.completeSwitch (k : Kept L s t) (h : (.freeValues :: accessReach) ⊆ L) (c) :
    Kept L s (t.completeSwitch c) := by
  refine k.within h fun k => ?_
  unfold State.completeSwitch
  refine Kept.resumeUnits ?_ (by decide) _
  refine Kept.latchPostures ?_ (by decide) _
  refine Kept.modCtx ?_ (by decide) _ _
  split
  · exact k
  · exact k
  · exact k.foldl (fun u a ku => ku.foldl (fun u a ku => ku.ite (ku.flushRings (by decide) _ _ _ _)))

theorem Kept.cleanRegion (k : Kept L s t) (h : accessReach ⊆ L) (c) : Kept L s (t.cleanRegion c) := by
  refine k.within h fun k => ?_
  unfold State.cleanRegion
  refine Kept.foldl k (fun u a ku => ?_)
  split
  · exact ku.cacheRange (by decide) _ _ _ _ _
  · exact ku

theorem Kept.countRows (k : Kept L s t) (h : [Part.counters] ⊆ L) (c g) : Kept L s (t.countRows c g) :=
  k.within h fun k => k.foldl (fun u a ku => ku.ite (ku.count (by decide) _ _ _ _))

theorem Kept.clearDirty (k : Kept L s t) (h : [Part.tiles, .engines] ⊆ L) (c area g) :
    Kept L s (t.clearDirty c area g) := by
  refine k.within h fun k => ?_
  unfold State.clearDirty
  refine Kept.foldl ?_ ?_
  · refine Kept.foldl k ?_
    dsimp only
    split
    · intro u a ku
      split
      · exact ku.modTile (by decide) _ _
      · exact ku
    · intro u a ku
      split
      · exact ku.modTile (by decide) _ _
      · exact ku
  · dsimp only
    split
    · intro u a ku
      split
      · exact ku.modCommons (by decide) _ _
      · exact ku
    · intro u a ku
      split
      · exact ku.modCommons (by decide) _ _
      · exact ku

theorem Kept.scanRegion (k : Kept L s t) (h : (.freeValues :: accessReach) ⊆ L) (c area) :
    Kept L s (t.scanRegion c area).1 := by
  refine k.within h fun k => ?_
  unfold State.scanRegion
  extract_lets s1 g s2
  have h1 : Kept (.freeValues :: accessReach) t s1 :=
    ((k.settleTokens (by decide) _).dropUnsettled (by decide) _).cleanRegion (by decide) _
  have h2 : Kept (.freeValues :: accessReach) t s2 := (h1.countRows (by decide) _ _).modCtx (by decide) _ _
  exact h2.scanWriteAll (by decide) _ _

theorem Kept.beginCheckpoint (k : Kept L s t) (h : (.freeValues :: accessReach) ⊆ L) (c) :
    Kept L s (t.beginCheckpoint c) :=
  k.within h fun k => ((((k.bcast (by decide) _).modCtx (by decide) _ _).mapUnits (by decide) _ _).scanRegion
      (by decide) _ _).modCtx (by decide) _ _

theorem Kept.trimLogs (k : Kept L s t) (h : [Part.contexts] ⊆ L) (c area both) : Kept L s (t.trimLogs c area both) :=
  k.within h fun k => k.withFlow (by decide) _

theorem Kept.endCheckpoint (k : Kept L s t) (h : accessReach ⊆ L) (c area g) : Kept L s (t.endCheckpoint c area g) :=
  k.within h fun k => ((((((k.scanCommit (by decide) _ _).modCtx (by decide) _ _).unpauseAll (by decide) _).bcast
      (by decide) _).count (by decide) _ _ _ _).fault (by decide) _ _ _ _).ite ((((((((k.scanCommit (by decide) _
      _).clearDirty (by decide) _ _ _).trimLogs (by decide) _ _ _).modCtx (by decide) _ _).modCtx (by decide) _
      _).unpauseAll (by decide) _).bcast (by decide) _).count (by decide) _ _ _ _)

theorem Kept.clearRegion (k : Kept L s t) (h : [Part.commonsMem, .spadMem, .tiles, .engines, .contexts] ⊆ L) (c) :
    Kept L s (t.clearRegion c) := by
  refine k.within h fun k => ?_
  unfold State.clearRegion
  dsimp only
  refine Kept.withEng ?_ (by decide) _
  refine Kept.mapQueues ?_ (by decide) _ _
  refine Kept.foldl ?_ (fun u a ku => ?_)
  · refine Kept.foldl k (fun u a ku => ?_)
    split
    · exact (ku.zeroTile (by decide) _).modTile (by decide) _ _
    · exact ku
  · split
    · exact ku.passSegment (by decide) _ _ _
    · exact ku

theorem Kept.suspendCtx (k : Kept L s t) (h : (.freeValues :: accessReach) ⊆ L) (c) : Kept L s (t.suspendCtx c) := by
  refine k.within h fun k => ?_
  unfold State.suspendCtx
  extract_lets r z
  have h1 : Kept (.freeValues :: accessReach) t r.1 :=
    ((k.bcast (by decide) _).stopUnits (by decide) _).scanRegion (by decide) _ _
  have h2 : Kept (.freeValues :: accessReach) t z.1 := h1.scanCommit (by decide) _ _
  split
  · exact (h2.fault (by decide) _ _ _ _).haltCtx (by decide) _
  · exact ((h2.revokeCredits (by decide) _).clearRegion (by decide) _).modCtx (by decide) _ _

theorem Kept.graphCmd (k : Kept L s t) (may) {f : State → State} (hf : Kept L s (f t)) :
    Kept L s (t.graphCmd may f) := by
  unfold State.graphCmd
  split
  · exact k.fstatus _
  · exact hf.fstatus _

theorem Kept.switchDrain (k : Kept L s t) (h : [Part.contexts] ⊆ L) (c) : Kept L s (t.switchDrain c) :=
  k.within h fun k => k.graphCmd _ (k.arm (by decide) _ _)

theorem Kept.drainToFlush (k : Kept L s t) (h : [Part.contexts] ⊆ L) (c) : Kept L s (t.drainToFlush c) :=
  k.within h fun k => k.modCtx (by decide) _ _

theorem Kept.switchFlush (k : Kept L s t) (h : [Part.contexts] ⊆ L) (c) : Kept L s (t.switchFlush c) := by
  unfold State.switchFlush
  split
  · exact k.graphCmd _ (k.drainToFlush h _)
  · exact k.graphCmd _ (k.arm h _ _)
  · exact k.graphCmd _ (k.arm h _ _)
  · exact k.graphCmd _ k

theorem Kept.rollbackCmd (k : Kept L s t) (h : [Part.tiles, .contexts] ⊆ L) (c) : Kept L s (t.rollbackCmd c) :=
  k.within h fun k => k.graphCmd _ ((k.revokeCredits (by decide) _).arm (by decide) _ _)

theorem Kept.haltCmd (k : Kept L s t) (h : [Part.counters, .contexts, .messages] ⊆ L) (c) : Kept L s (t.haltCmd c) :=
  k.within h fun k => k.graphCmd _ ((k.bcast (by decide) _).haltCtx (by decide) _)

theorem Kept.resumeCmd (k : Kept L s t) (h : [Part.counters, .contexts, .messages] ⊆ L) (c) :
    Kept L s (t.resumeCmd c) :=
  k.within h fun k => k.graphCmd _ (((k.bcast (by decide) _).resumeUnits (by decide) _).modCtx (by decide) _ _)

theorem Kept.suspendCmd (k : Kept L s t) (h : (.freeValues :: accessReach) ⊆ L) (c) : Kept L s (t.suspendCmd c) :=
  k.within h fun k => k.graphCmd _ (k.suspendCtx (by decide) _)

theorem Kept.reinstate (k : Kept L s t) (h : (.freeValues :: accessReach) ⊆ L) (c) : Kept L s (t.reinstate c) := by
  refine k.within h fun k => ?_
  unfold State.reinstate
  refine Kept.graphCmd k _ ?_
  split
  · split
    next heq =>
      exact (((((k.scanChecks (by decide) _ _).fst heq).scanIn (by decide) _ _).allDirty (by decide) _).forgetScratch
          (by decide) _).modCtx (by decide) _ _
    next heq =>
      exact (((k.scanChecks (by decide) _ _).fst heq).fault (by decide) _ _ _ _).modCtx (by decide) _ _
  · exact (k.fault (by decide) _ _ _ _).modCtx (by decide) _ _

theorem Kept.dropBackEdges (k : Kept L s t) (h : reporting [.anatomy, .commonsMem, .spadMem, .tiles, .engines,
    .contexts, .network, .fabric, .power, .recovery] ⊆ L) (c d u' g) :
    Kept L s (t.dropBackEdges c d u' g) :=
  k.within h fun k => k.foldl (fun u a ku => (ku.dropTokens (by decide) _ _).ite (((ku.dropTokens (by decide) _
      _).count (by decide) _ _ _ _).event (by decide) _ _ _ _))

theorem Kept.sendEnds (k : Kept L s t) (h : reporting [.spadMem, .tiles, .contexts, .network, .fabric] ⊆ L)
    (c d u' g) :
    Kept L s (t.sendEnds c d u' g) := by
  refine k.within h fun k => ?_
  unfold State.sendEnds
  dsimp only
  split
  · exact k.egress (by decide) _ _ _ _ _ _
  · exact k.foldl (fun u a ku => ku.emit (by decide) _ _ _ _ _ _)

theorem Kept.afterArm (k : Kept L s t) (h : reporting [.contexts] ⊆ L) (d u') : Kept L s (t.afterArm d u') := by
  refine k.within h fun k => ?_
  unfold State.afterArm
  split
  · exact k.settleArm (by decide) _
  · exact k

theorem Kept.takeDeferred (k : Kept L s t) (h : (.freeValues :: accessReach) ⊆ L) (c) : Kept L s (t.takeDeferred c) :=
  k.within h fun k => (k.beginCheckpoint (by decide) _).ite k

theorem Kept.streamHead (k : Kept L s t) (h : reporting [.anatomy, .commonsMem, .spadMem, .tiles, .engines,
    .contexts, .network, .fabric, .power, .recovery] ⊆ L) (d u') :
    Kept L s (t.streamHead d u').1 := by
  refine k.within h fun k => ?_
  unfold State.streamHead
  dsimp only
  split
  · exact k
  · split
    · exact k
    · split
      · exact k.heads (by decide) _ _ _ _
      · exact k.heads (by decide) _ _ _ _

theorem Kept.dropMalformed (k : Kept L s t) (h : reporting [.anatomy, .commonsMem, .spadMem, .tiles, .engines,
    .contexts, .network, .fabric, .power, .recovery] ⊆ L) (c d u' l i) :
    Kept L s (t.dropMalformed c d u' l i) :=
  k.within h fun k => ((k.popQueue (by decide) _).fault (by decide) _ _ _ _).haltCtx (by decide) _

theorem Kept.streamToken (k : Kept L s t) (h : reporting [.anatomy, .commonsMem, .spadMem, .tiles, .engines,
    .contexts, .network, .fabric, .power, .recovery] ⊆ L) (d u' kind)
    {f : CtxId → UnitCfg → LayerDecl → List W16 → State → State} (hf : ∀ c g l is u, Kept L s u → Kept L s (f c g l
        is u)) :
    Kept L s (t.streamToken d u' kind f) := by
  have hs := k.streamHead (List.Subset.trans (by decide) h) d u'
  unfold State.streamToken
  split
  next heq => exact (hs.fst heq).turnAway
  next heq => exact ((hs.fst heq).dropMalformed (List.Subset.trans (by decide) h) _ _ _ _ _).ok
  next heq =>
    split
    · exact (hs.fst heq).turnAway
    extract_lets frame s1
    have h1 : Kept L s s1 :=
      ((hs.fst heq).consume (List.Subset.trans (by decide) h) _ _ _ _ _).modUnit (List.Subset.trans (by decide) h) _ _
    split
    · exact h1.ok
    · exact (hf _ _ _ _ _ h1).ok

theorem Kept.hintOutput (k : Kept L s t) (h : [Part.counters, .contexts] ⊆ L) (c d u' g l i) :
    Kept L s (t.hintOutput c d u' g l i) :=
  k.within h fun k => k.ite ((k.count (by decide) _ _ _ _).ite ((k.count (by decide) _ _ _ _).ite ((k.modUnit
      (by decide) _ _).count (by decide) _ _ _ _)))

theorem Kept.confirmGeyser (k : Kept L s t) (h : [Part.engines] ⊆ L) (c d) : Kept L s (t.confirmGeyser c d) := by
  refine k.within h fun k => ?_
  unfold State.confirmGeyser
  refine Kept.foldl k ?_
  dsimp only
  intro u a ku
  refine Kept.ite ku ?_
  split
  · exact (ku.modRing (by decide) _ _).modCommons (by decide) _ _
  · exact ku.modRing (by decide) _ _

theorem Kept.discardGeyser (k : Kept L s t) (h : [Part.engines] ⊆ L) (c d) : Kept L s (t.discardGeyser c d) :=
  k.within h fun k => k.foldl (fun u a ku => ku.ite (ku.modRing (by decide) _ _))

theorem Kept.resolveGroup (k : Kept L s t) (h : reporting [.tiles, .contexts] ⊆ L) (c d u' l) :
    Kept L s (t.resolveGroup c d u' l) := by
  refine k.within h fun k => ?_
  unfold State.resolveGroup
  refine Kept.modUnit ?_ (by decide) _ _
  dsimp only
  split
  · exact ((k.count (by decide) _ _ _ _).count (by decide) _ _ _ _).ite (((k.count (by decide) _ _ _ _).count
        (by decide) _ _ _ _).ite ((k.foldl (fun u a ku => (ku.reportHeld (by decide) _ _ _).count (by decide) _ _ _
        _)).count (by decide) _ _ _ _))
  · exact (((((k.count (by decide) _ _ _ _).count (by decide) _ _ _ _).ite (((k.count (by decide) _ _ _ _).count
        (by decide) _ _ _ _).ite ((k.foldl (fun u a ku => (ku.reportHeld (by decide) _ _ _).count (by decide) _ _ _
        _)).count (by decide) _ _ _ _))).uncount (by decide) _ _ _ _).count64 (by decide) _ _ _ _).modTile
        (by decide) _ _

theorem Kept.complete (k : Kept L s t) (h : reporting [.network, .fabric] ⊆ L) (at_ p op st d) :
    Kept L s (t.complete at_ p op st d) := by
  refine k.step ?_ h
  unfold State.complete
  extract_lets _ r mine old _ s1
  have h1 : Kept (reporting [.network, .fabric]) t s1 := Kept.refl.withNet (by decide) _
  split
  · exact h1.injectAway (by decide) _ _
  · exact h1.inject (by decide) _ _ _

theorem Kept.ackOut (k : Kept L s t) (h : [Part.counters, .fabric, .messages] ⊆ L) (at_ p) :
    Kept L s (t.ackOut at_ p) :=
  k.within h fun k => ((k.ctrl (by decide) _ _ _ _).fabricOut (by decide) _ _ _).ite (k.ctrl (by decide) _ _ _ _)

theorem Kept.again (k : Kept L s t) (h : reporting [.network, .fabric] ⊆ L) (at_ p) : Kept L s (t.again at_ p) := by
  refine k.within h fun k => ?_
  unfold State.again
  dsimp only
  split
  · exact (((k.count (by decide) _ _ _ _).ackOut (by decide) _ _).injectAway (by decide) _ _).ite (((k.count
        (by decide) _ _ _ _).ackOut (by decide) _ _).inject (by decide) _ _ _)
  · exact (k.count (by decide) _ _ _ _).ackOut (by decide) _ _

theorem Kept.drainEarly (k : Kept L s t) (h : [Part.network] ⊆ L) (at_ key n) :
    Kept L s (t.drainEarly at_ key n).1 := by
  suffices H : ∀ u, Kept [Part.network] t u → Kept [Part.network] t (u.drainEarly at_ key n).1 from k.step (H t
      Kept.refl) h
  induction n generalizing at_ key with
  | zero =>
    intro u ku
    unfold State.drainEarly
    exact ku
  | succ n ih =>
    intro u ku
    unfold State.drainEarly
    dsimp only
    split
    · exact ku
    · exact ih _ _ _ (ku.withNet (by decide) _)

theorem Kept.dropVoid {r : State × List Pkt} (k : Kept L s r.1) (h : [Part.network] ⊆ L) :
    Kept L s (State.dropVoid r).1 :=
  k.withNet h _

theorem Kept.accept (k : Kept L s t) (h : reporting [.network, .fabric] ⊆ L) (at_ p) :
    Kept L s (t.accept at_ p).1 := by
  refine k.within h fun k => ?_
  unfold State.accept
  extract_lets d key want ahead held _ s1 r
  have h1 : Kept (reporting [.network, .fabric]) t s1 := k.withNet (by decide) _
  have hr : Kept (reporting [.network, .fabric]) t r.1 := (h1.ackOut (by decide) _ _).drainEarly (by decide) _ _ _
  split
  · exact k.count (by decide) _ _ _ _
  split
  · exact k.count (by decide) _ _ _ _
  split
  · exact k.count (by decide) _ _ _ _
  split
  · exact Kept.dropVoid hr (by decide)
  split
  · exact k.again (by decide) _ _
  split
  · exact k
  · exact Kept.ackOut (k.withNet (by decide) _) (by decide) _ _

theorem Kept.mergeRead (k : Kept L s t) (h : [Part.counters, .stacks] ⊆ L) (w k' off) :
    Kept L s (t.mergeRead w k' off) := by
  refine k.within h fun k => ?_
  unfold State.mergeRead
  dsimp only
  split
  · exact (k.modStack (by decide) _ _).count (by decide) _ _ _ _
  · exact ((k.modStack (by decide) _ _).count (by decide) _ _ _ _).ite (k.modStack (by decide) _ _)

theorem Kept.answerReq (k : Kept L s t) (h : reporting [.tiles, .engines, .contexts, .stacks, .network, .fabric] ⊆ L)
    (at_ p w op r) :
    Kept L s (t.answerReq at_ p w op r) := by
  refine k.within h fun k => ?_
  unfold State.answerReq
  dsimp only
  split
  · exact (k.injectGroup (by decide) _ _ _).ite (k.complete (by decide) _ _ _ _ _)
  · exact k.modCtx (by decide) _ _
  · exact ((((k.fault (by decide) _ _ _ _).ite k).noteClosed (by decide) _ _ _ _).ite ((k.fault (by decide) _ _ _
        _).ite k)).complete (by decide) _ _ _ _ _

theorem Kept.readFor (k : Kept L s t) (h : accessReach ⊆ L) (w p) : Kept L s (t.readFor w p).1 := by
  refine k.within h fun k => ?_
  unfold State.readFor
  dsimp only
  split
  · refine Kept.readFA ?_ (by decide) _ _ _
    split
    · exact k.mergeRead (by decide) _ _ _
    · exact k
  · split
    · exact k
    · exact k
  · exact k
  · exact k.readFA (by decide) _ _ _
  · exact k.readFA (by decide) _ _ _

theorem Kept.writeFor (k : Kept L s t) (h : (.freeValues :: accessReach) ⊆ L) (w p) :
    Kept L s (t.writeFor w p).1 := by
  refine k.within h fun k => ?_
  unfold State.writeFor
  dsimp only
  split
  · split
    · exact k.writeFA (by decide) _ _ _ _
    · exact k.creditedWrite (by decide) _ _ _ _ _ _ _ _
  · exact k.ringWrite (by decide) _ _ _ _ _
  · exact k
  · exact k.writeFA (by decide) _ _ _ _

theorem Kept.serveRead (k : Kept L s t) (h : accessReach ⊆ L) (at_ w p) : Kept L s (t.serveRead at_ w p) :=
  k.within h fun k => (k.readFor (by decide) _ _).answerReq (by decide) _ _ _ _ _

theorem Kept.serveWrite (k : Kept L s t) (h : (.freeValues :: accessReach) ⊆ L) (at_ w p) :
    Kept L s (t.serveWrite at_ w p) :=
  k.within h fun k => (k.writeFor (by decide) _ _).answerReq (by decide) _ _ _ _ _

theorem Kept.takeRequest (k : Kept L s t) (h : [Part.network] ⊆ L) (at_ p ops) :
    Kept L s (t.takeRequest at_ p ops).1 := by
  refine k.within h fun k => ?_
  unfold State.takeRequest
  dsimp only
  split
  · exact k.withNet (by decide) _
  · split
    · exact k.withNet (by decide) _
    · exact k

theorem Kept.holdFault (k : Kept L s t) (h : [Part.contexts] ⊆ L) (d u' code loc) :
    Kept L s (t.holdFault d u' code loc) :=
  k.within h fun k => k.modUnit (by decide) _ _

theorem Kept.failedReq (k : Kept L s t) (h : reporting [.tiles, .engines, .contexts, .network, .recovery] ⊆ L)
    (at_ p req st) :
    Kept L s (t.failedReq at_ p req st) := by
  refine k.within h fun k => ?_
  unfold State.failedReq
  dsimp only
  split
  · exact k
  split
  · exact (k.count (by decide) _ _ _ _).ite (k.holdFault (by decide) _ _ _ _)
  split
  · split
    · exact k.withNet (by decide) _
    · exact k
  · exact k.ite ((k.haltCtx (by decide) _).ite (k.unitFail (by decide) _ _ _ _ _))

theorem Kept.fillHalf (k : Kept L s t) (h : [Part.tiles] ⊆ L) (d t' a b) : Kept L s (t.fillHalf d t' a b) := by
  refine k.within h fun k => ?_
  unfold State.fillHalf
  split
  · exact k
  · split
    · exact k
    · exact k.modTile (by decide) _ _

theorem Kept.landFetch (k : Kept L s t) (h : [Part.tiles] ⊆ L) (c d a b) : Kept L s (t.landFetch c d a b) := by
  refine k.within h fun k => ?_
  unfold State.landFetch
  refine Kept.foldl k (fun u a ku => ?_)
  split
  · exact (ku.modTile (by decide) _ _).ite ku
  · exact ku

theorem Kept.serveData (k : Kept L s t) (h : reporting [.tiles, .engines, .contexts, .network, .recovery] ⊆ L)
    (at_ p) :
    Kept L s (t.serveData at_ p) := by
  refine k.within h fun k => ?_
  unfold State.serveData
  dsimp only
  split
  · exact k.takeRequest (by decide) _ _ _
  · split
    · split
      · split
        · exact (k.takeRequest (by decide) _ _ _).landFetch (by decide) _ _ _ _
        · exact (k.takeRequest (by decide) _ _ _).foldl (fun u a ku => ku.fillHalf (by decide) _ _ _ _)
      · exact (k.takeRequest (by decide) _ _ _).withAnswer _
    · exact (k.takeRequest (by decide) _ _ _).withAnswer _
  · exact ((k.takeRequest (by decide) _ _ _).failedReq (by decide) _ _ _ _).withAnswer _

theorem Kept.serveDone (k : Kept L s t) (h : reporting [.tiles, .engines, .contexts, .network, .recovery] ⊆ L)
    (at_ p) :
    Kept L s (t.serveDone at_ p) := by
  refine k.within h fun k => ?_
  unfold State.serveDone
  dsimp only
  split
  · exact k.takeRequest (by decide) _ _ _
  · exact (k.takeRequest (by decide) _ _ _).withAnswer _
  · exact ((k.takeRequest (by decide) _ _ _).failedReq (by decide) _ _ _ _).withAnswer _

theorem Kept.serveToken (k : Kept L s t) (h : [Part.counters, .spadMem, .tiles, .contexts] ⊆ L) (at_ p) :
    Kept L s (t.serveToken at_ p) := by
  refine k.within h fun k => ?_
  unfold State.serveToken
  dsimp only
  split
  · exact k
  · exact k.foldl (fun u a ku => (ku.pushQueue (by decide) _ _).ite ku)

theorem Kept.drainPort (k : Kept L s t) (h : [Part.network, .messages] ⊆ L) (d port) :
    Kept L s (t.drainPort d port) :=
  k.within h fun k => (k.withNet (by decide) _).foldl (fun u a ku => ku.send (by decide) _)

theorem Kept.toPort (k : Kept L s t) (h : [Part.network, .messages] ⊆ L) (d port p) :
    Kept L s (t.toPort d port p) := by
  refine k.within h fun k => ?_
  unfold State.toPort
  dsimp only
  split
  · exact ((k.drainPort (by decide) _ _).withNet (by decide) _).send (by decide) _
  · exact (k.drainPort (by decide) _ _).withNet (by decide) _

theorem Kept.forward (k : Kept L s t) (h : [Part.counters, .network, .messages] ⊆ L) (d p) :
    Kept L s (t.forward d p) := by
  refine k.within h fun k => ?_
  unfold State.forward
  refine Kept.ite (k.count (by decide) _ _ _ _) ?_
  dsimp only
  split
  · exact (((((k.foldl (fun u a ku => ku.drainPort (by decide) _ _)).count (by decide) _ _ _ _).ite (k.foldl (fun u a
        ku => ku.drainPort (by decide) _ _))).foldl (fun u a ku => ((ku.count (by decide) _ _ _ _).ite ku).toPort
        (by decide) _ _ _)).toPort (by decide) _ _ _).ite ((((k.foldl (fun u a ku => ku.drainPort (by decide) _
        _)).count (by decide) _ _ _ _).ite (k.foldl (fun u a ku => ku.drainPort (by decide) _ _))).foldl (fun u a ku
        => ((ku.count (by decide) _ _ _ _).ite ku).toPort (by decide) _ _ _))
  · split
    · exact k.foldl (fun u a ku => ku.drainPort (by decide) _ _)
    · refine Kept.ite ((k.foldl (fun u a ku => ku.drainPort (by decide) _ _)).toPort (by decide) _ _ _) ?_
      split
      · exact (((k.foldl (fun u a ku => ku.drainPort (by decide) _ _)).count (by decide) _ _ _ _).ite (k.foldl (fun u
            a ku => ku.drainPort (by decide) _ _))).toPort (by decide) _ _ _
      · exact k.foldl (fun u a ku => ku.drainPort (by decide) _ _)

theorem Kept.acked (k : Kept L s t) (h : [Part.contexts, .network] ⊆ L) (x) : Kept L s (t.acked x) := by
  refine k.within h fun k => ?_
  unfold State.acked
  dsimp only
  split
  · exact k.withNet (by decide) _
  · exact k.withNet (by decide) _
  · exact k.withNet (by decide) _
  · exact k.withNet (by decide) _
  · split
    · exact (k.withNet (by decide) _).modUnit (by decide) _ _
    · exact k.withNet (by decide) _
  · exact k.withNet (by decide) _

theorem Kept.pathFault (k : Kept L s t) (h : reporting [.tiles, .engines, .contexts, .network, .fabric, .recovery] ⊆
    L) (x) :
    Kept L s (t.pathFault x) := by
  refine k.within h fun k => ?_
  unfold State.pathFault
  dsimp only
  split
  · split
    · exact (((k.withNet (by decide) _).count (by decide) _ _ _ _).fault (by decide) _ _ _ _).injectAway (by decide)
          _ _
    · exact (((k.withNet (by decide) _).count (by decide) _ _ _ _).fault (by decide) _ _ _ _).inject (by decide) _ _ _
  · exact (((k.withNet (by decide) _).count (by decide) _ _ _ _).fault (by decide) _ _ _ _).needRestore (by decide) _

theorem Kept.resend (k : Kept L s t) (h : [Part.counters, .network, .fabric, .messages] ⊆ L) (x) :
    Kept L s (t.resend x) := by
  refine k.within h fun k => ?_
  unfold State.resend
  dsimp only
  split
  · exact (((k.withNet (by decide) _).count (by decide) _ _ _ _).send (by decide) _).fabricOut (by decide) _ _ _
  · exact ((k.withNet (by decide) _).count (by decide) _ _ _ _).send (by decide) _

theorem Kept.addLanes (k : Kept L s t) (h : reporting [.anatomy, .commonsMem, .tiles, .engines, .contexts, .stacks,
    .network, .fabric, .power, .recovery] ⊆ L) (lanes) :
    Kept L s (t.addLanes lanes) :=
  k.within h fun k => k.foldl (fun u a ku => ((ku.loseStack (by decide) _).addField (by decide) _).ite (ku.addField
      (by decide) _))

theorem Kept.freeTag (k : Kept L s t) (h : [Part.contexts, .fabric] ⊆ L) (c i) : Kept L s (t.freeTag c i) := by
  refine k.within h fun k => ?_
  unfold State.freeTag
  dsimp only
  split
  · exact k
  · exact (k.withFab (by decide) _).modShard (by decide) _ _ _

theorem Kept.loadManifest (k : Kept L s t) (h : reporting [.contexts, .stacks, .fabric] ⊆ L) (c m) :
    Kept L s (t.loadManifest c m) := by
  refine k.within h fun k => ?_
  unfold State.loadManifest
  extract_lets s1
  have h1 : Kept (reporting [.contexts, .stacks, .fabric]) t s1 := k.foldl fun u i ku => ku.freeTag (by decide) _ _
  split
  · exact k.fstatus _
  split
  · exact ((k.count (by decide) _ _ _ _).fault (by decide) _ _ _ _).fstatus _
  split
  · exact (k.fault (by decide) _ _ _ _).fstatus _
  · exact (Kept.modCtx (h1.withStk (by decide) _) (by decide) _ _).fstatus _

theorem Kept.startFills (k : Kept L s t) (h : [Part.contexts] ⊆ L) (c) : Kept L s (t.startFills c) := by
  refine k.within h fun k => ?_
  unfold State.startFills
  refine Kept.foldl k (fun u a ku => ?_)
  split
  · exact ku.modShard (by decide) _ _ _
  · exact ku.modShard (by decide) _ _ _
  · exact ku

theorem Kept.dropFills (k : Kept L s t) (h : [Part.contexts, .fabric] ⊆ L) (c) : Kept L s (t.dropFills c) := by
  refine k.within h fun k => ?_
  unfold State.dropFills
  refine Kept.foldl k (fun u a ku => ?_)
  split
  · exact (ku.freeTag (by decide) _ _).modShard (by decide) _ _ _
  · exact (ku.freeTag (by decide) _ _).modShard (by decide) _ _ _
  · exact (ku.freeTag (by decide) _ _).modShard (by decide) _ _ _
  · exact (ku.freeTag (by decide) _ _).modShard (by decide) _ _ _
  · exact ku

theorem Kept.fillCmd (k : Kept L s t) (h : [Part.contexts, .fabric] ⊆ L) (c start) : Kept L s (t.fillCmd c start) :=
  k.within h fun k => (k.fstatus _).ite (((k.startFills (by decide) _).ite (k.dropFills (by decide) _)).fstatus _)

theorem Kept.attemptFails (k : Kept L s t) (h : reporting [.contexts, .fabric] ⊆ L) (c i st) :
    Kept L s (t.attemptFails c i st) :=
  k.within h fun k => ((k.freeTag (by decide) _ _).modShard (by decide) _ _ _).ite (((k.freeTag (by decide) _
      _).modShard (by decide) _ _ _).fault (by decide) _ _ _ _)

theorem Kept.laid (k : Kept L s t) (h : reporting [.anatomy, .stackMem, .commonsMem, .tiles, .engines, .contexts,
    .stacks, .network, .fabric, .power, .recovery] ⊆ L) (c i e d) :
    Kept L s (t.laid c i e d).1 := by
  refine k.within h fun k => ?_
  unfold State.laid
  dsimp only
  split
  next heq =>
    exact ((k.stackWrite (by decide) _ _ _ _).fst heq).modShard (by decide) _ _ _
  next heq =>
    exact (k.stackWrite (by decide) _ _ _ _).fst heq

theorem Kept.fillLocal (k : Kept L s t) (h : reporting [.anatomy, .stackMem, .commonsMem, .tiles, .engines,
    .contexts, .stacks, .network, .fabric, .power, .recovery] ⊆ L) (c i e) :
    Kept L s (t.fillLocal c i e).1 := by
  refine k.within h fun k => ?_
  unfold State.fillLocal
  dsimp only
  split
  · exact k
  · split
    · exact k
    · split
      next heq =>
        exact ((k.stackRead (by decide) _ _ _ _).fst heq).laid (by decide) _ _ _ _
      next heq =>
        exact (k.stackRead (by decide) _ _ _ _).fst heq

theorem Kept.fillSeed (k : Kept L s t) (h : accessReach ⊆ L) (c i w e) : Kept L s (t.fillSeed c i w e).1 := by
  refine k.within h fun k => ?_
  unfold State.fillSeed
  dsimp only
  split
  · split
    · exact k
    · split
      next heq =>
        split
        · exact ((k.readFA (by decide) _ _ _).fst heq).laid (by decide) _ _ _ _
        · dsimp only
          exact ((k.readFA (by decide) _ _ _).fst heq).fault (by decide) _ _ _ _
      next heq =>
        exact (k.readFA (by decide) _ _ _).fst heq
  · exact k

theorem Kept.fillPeer (k : Kept L s t) (h : reporting [.contexts, .network, .fabric] ⊆ L) (c i w e) :
    Kept L s (t.fillPeer c i w e).1 := by
  refine k.step ?_ h
  have hp : ∀ p, Kept (reporting [.contexts, .network, .fabric]) t (t.injectAway (nodeHub t.rootHub) p).1 := fun p =>
      Kept.refl.injectAway (by decide) _ _
  unfold State.fillPeer
  obtain ⟨f, hf⟩ : ∃ f, f = t.injectAway (nodeHub t.rootHub) := ⟨_, rfl⟩
  rw [← hf] at hp ⊢
  split
  · exact Kept.refl
  dsimp only
  split
  · exact Kept.refl
  split
  next heq => exact (((hp _).fst heq).withFab (by decide) _).modShard (by decide) _ _ _
  next heq => exact (hp _).fst heq

theorem Kept.serveReq (k : Kept L s t) (h : (.freeValues :: accessReach) ⊆ L) (at_ w p) :
    Kept L s (t.serveReq at_ w p) := by
  refine k.within h fun k => ?_
  unfold State.serveReq
  split
  · exact k.serveRead (by decide) _ _ _
  · exact k.serveWrite (by decide) _ _ _
  · exact k.serveWrite (by decide) _ _ _
  · exact k

theorem Kept.countHeld (k : Kept L s t) (h : [Part.counters] ⊆ L) (since p) : Kept L s (t.countHeld since p) := by
  refine k.within h fun k => ?_
  unfold State.countHeld
  refine Kept.ite k ?_
  split
  · exact k.count (by decide) _ _ _ _
  · exact k

theorem Kept.proceed (k : Kept L s t) (h : (.freeValues :: accessReach) ⊆ L) (c i) : Kept L s (t.proceed c i) := by
  refine k.within h fun k => ?_
  unfold State.proceed
  refine Kept.drainSites ?_ (by decide)
  refine Kept.foldl (k.modCtx (by decide) _ _) (fun u a ku => ?_)
  split
  · exact (ku.countHeld (by decide) _ _).serveReq (by decide) _ _ _
  · exact ku

theorem Kept.servePeer (k : Kept L s t) (h : reporting [.anatomy, .stackMem, .commonsMem, .tiles, .engines,
    .contexts, .stacks, .network, .fabric, .power, .recovery] ⊆ L) (panel digest length tag placement) :
    Kept L s (t.servePeer panel digest length tag placement) := by
  refine k.step ?_ h
  have hi : ∀ u a p, Kept (reporting [.anatomy, .stackMem, .commonsMem, .tiles, .engines, .contexts, .stacks,
      .network, .fabric, .power, .recovery]) t u → Kept (reporting [.anatomy, .stackMem, .commonsMem, .tiles,
      .engines, .contexts, .stacks, .network, .fabric, .power, .recovery]) t (u.injectAway a p).1 := fun u a p ku =>
      ku.injectAway (by decide) a p
  unfold State.servePeer
  obtain ⟨inject, hf⟩ : ∃ f, f = State.injectAway := ⟨_, rfl⟩
  rw [← hf] at hi ⊢
  dsimp only
  split
  · exact hi _ _ _ Kept.refl
  split
  · exact hi _ _ _ Kept.refl
  split
  next heq => exact (Kept.fst (Kept.refl.stackRead (by decide) _ _ _ _) heq).foldl fun u q ku => hi _ _ _ ku
  next heq => exact hi _ _ _ (Kept.fst (Kept.refl.stackRead (by decide) _ _ _ _) heq)

theorem Kept.serveShard (k : Kept L s t) (h : reporting [.anatomy, .stackMem, .commonsMem, .tiles, .engines,
    .contexts, .stacks, .network, .fabric, .power, .recovery] ⊆ L) (at_ p) :
    Kept L s (t.serveShard at_ p) := by
  refine k.within h fun k => ?_
  unfold State.serveShard
  split
  · split
    next heq =>
      exact (((k.stackWrite (by decide) _ _ _ _).fst heq).modShard (by decide) _ _ _).complete (by decide) _ _ _ _ _
    next heq =>
      exact ((k.stackWrite (by decide) _ _ _ _).fst heq).complete (by decide) _ _ _ _ _
    next heq =>
      exact (k.stackWrite (by decide) _ _ _ _).fst heq
  · exact (k.fault (by decide) _ _ _ _).complete (by decide) _ _ _ _ _
  · exact k.complete (by decide) _ _ _ _ _

theorem Kept.peerDenied (k : Kept L s t) (h : reporting [.contexts, .fabric] ⊆ L) (tag) :
    Kept L s (t.peerDenied tag) := by
  refine k.within h fun k => ?_
  unfold State.peerDenied
  split
  · exact (k.attemptFails (by decide) _ _ _).ite k
  · exact k

theorem Kept.scrubPass (k : Kept L s t) (h : reporting [.anatomy, .commonsMem, .tiles, .engines, .contexts, .stacks,
    .network, .fabric, .power, .recovery] ⊆ L) (k') :
    Kept L s (t.scrubPass k') := by
  refine k.within h fun k => ?_
  unfold State.scrubPass
  refine Kept.noteBadLines ?_ (by decide) _ _
  refine Kept.count ?_ (by decide) _ _ _ _
  refine Kept.foldl ((k.ite (k.count (by decide) _ _ _ _)).modStack (by decide) _ _) ?_
  dsimp only
  intro u a ku
  split
  · exact (ku.count (by decide) _ _ _ _).event (by decide) _ _ _ _
  · split
    · exact (((ku.count (by decide) _ _ _ _).event (by decide) _ _ _ _).quarantine (by decide) _ _ _ _).ite
          ((ku.count (by decide) _ _ _ _).event (by decide) _ _ _ _)
    · exact (ku.count (by decide) _ _ _ _).event (by decide) _ _ _ _

theorem Kept.serveAway (k : Kept L s t) (h : (.freeValues :: accessReach) ⊆ L) (at_ p) :
    Kept L s (t.serveAway at_ p) := by
  refine k.within h fun k => ?_
  unfold State.serveAway
  dsimp only
  split
  · split
    · exact k.serveReq (by decide) _ _ _
    · exact ((k.count (by decide) _ _ _ _).fault (by decide) _ _ _ _).complete (by decide) _ _ _ _ _
  · exact (k.fault (by decide) _ _ _ _).complete (by decide) _ _ _ _ _

theorem Kept.noteLost (k : Kept L s t) (h : [Part.fabric] ⊆ L) (p) : Kept L s (t.noteLost p) := by
  refine k.within h fun k => ?_
  unfold State.noteLost
  dsimp only
  split
  · exact k
  · exact k
  · exact k
  · split
    · exact k.modGroup (by decide) _ _
    · exact k

theorem Kept.deliver (k : Kept L s t) (h : (.freeValues :: accessReach) ⊆ L) (at_ p) :
    Kept L s (t.deliver at_ p) := by
  refine k.within h fun k => ?_
  unfold State.deliver
  dsimp only
  split
  · exact (k.serveAway (by decide) _ _).ite (k.foldl (fun u a ku => ku.serveReq (by decide) _ _ _))
  · exact (k.serveAway (by decide) _ _).ite (k.foldl (fun u a ku => ku.serveReq (by decide) _ _ _))
  · exact (k.serveAway (by decide) _ _).ite (k.foldl (fun u a ku => ku.serveReq (by decide) _ _ _))
  · exact k.serveData (by decide) _ _
  · exact (k.peerDenied (by decide) _).ite ((k.noteLost (by decide) _).serveDone (by decide) _ _)
  · exact k.serveToken (by decide) _ _
  · exact k.takeGrant (by decide) _ _ _ _ _ _ _ _
  · exact k.takeDone (by decide) _ _ _ _ _
  · exact k.servePeer (by decide) _ _ _ _ _
  · exact k.serveShard (by decide) _ _
  · exact k.takeXtoken (by decide) _ _ _ _
  · exact k

theorem Kept.arrived (k : Kept L s t) (h : (.freeValues :: accessReach) ⊆ L) (at_ p) : Kept L s (t.arrived at_ p) :=
  k.within h fun k => (k.accept (by decide) _ _).foldl (fun u a ku => ku.deliver (by decide) _ _)

theorem Kept.packetCmd (k : Kept L s t) (h : (.freeValues :: accessReach) ⊆ L) (op at_ p) :
    Kept L s (t.packetCmd op at_ p) :=
  k.within h fun k => k.turnAway.ite (k.ok.arrived (by decide) _ _)

theorem Kept.packetTo (k : Kept L s t) (h : (.freeValues :: accessReach) ⊆ L) (op p) : Kept L s (t.packetTo op p) :=
  k.within h fun k => k.turnAway.ite (k.ok.arrived (by decide) _ _)

theorem Kept.syncServe (k : Kept L s t) (h : reporting [.contexts, .network, .fabric] ⊆ L) (r op v) :
    Kept L s (t.syncServe r op v).1 := by
  refine k.within h fun k => ?_
  unfold State.syncServe
  dsimp only
  split
  · exact k.syncBad (by decide) _ _
  · refine Kept.syncOp k (by decide) _ _ _ ?_
    split
    · exact fun u a ku => (ku.logSync (by decide) _ _ _ _).syncRead _
    · exact fun u a ku => (ku.logSync (by decide) _ _ _ _).syncWrite (by decide) _ _ _
    · exact fun u a ku => (ku.logSync (by decide) _ _ _ _).syncInit (by decide) _ _
    · exact fun u a ku => (ku.logSync (by decide) _ _ _ _).syncArrive (by decide) _ _
    · exact fun u a ku => (ku.logSync (by decide) _ _ _ _).syncWait (by decide) _ _ _
    · exact fun u a ku => (ku.logSync (by decide) _ _ _ _).syncFetchAdd (by decide) _ _
    · exact fun u a ku => (ku.logSync (by decide) _ _ _ _).syncCas (by decide) _ _
    · exact fun u a ku => (ku.logSync (by decide) _ _ _ _).syncLink (by decide) _ _ _
    · exact fun u a ku => (ku.logSync (by decide) _ _ _ _).syncReadLink _

theorem Kept.syncCmd (k : Kept L s t) (h : reporting [.contexts, .network, .fabric] ⊆ L) (r op v) :
    Kept L s (t.syncCmd r op v) := by
  refine k.within h fun k => ?_
  unfold State.syncCmd
  dsimp only
  split
  · split
    · exact (k.fabricOut (by decide) _ _ _).ok
    · exact (k.fault (by decide) _ _ _ _).withAnswer _
  · exact (k.syncServe (by decide) _ _ _).syncAnswer (by decide) _

theorem Kept.beginTrain (k : Kept L s t) (h : [Part.fabric] ⊆ L) (v) : Kept L s (t.beginTrain v) :=
  k.within h fun k => k.modVent (by decide) _ _

theorem Kept.linkDown (k : Kept L s t) (h : reporting [.fabric] ⊆ L) (v) : Kept L s (t.linkDown v) :=
  k.within h fun k => (((k.event (by decide) _ _ _ _).count (by decide) _ _ _ _).beginTrain (by decide)
      _).noteDirection (by decide) _

theorem Kept.linkFault (k : Kept L s t) (h : [Part.fabric] ⊆ L) (v sec) : Kept L s (t.linkFault v sec) :=
  k.within h fun k => k.modVent (by decide) _ _

theorem Kept.admitPeer (k : Kept L s t) (h : reporting [.fabric] ⊆ L) (v k') : Kept L s (t.admitPeer v k') :=
  k.within h fun k => ((k.fault (by decide) _ _ _ _).linkFault (by decide) _ _).ite (((k.fault (by decide) _ _ _
      _).linkFault (by decide) _ _).ite (k.modVent (by decide) _ _))

theorem Kept.setGroup (k : Kept L s t) (h : reporting [.fabric] ⊆ L) (v tx f on) : Kept L s (t.setGroup v tx f on) :=
  k.within h fun k => ((k.modVent (by decide) _ _).count (by decide) _ _ _ _).event (by decide) _ _ _ _

theorem Kept.drainWaiting (k : Kept L s t) (h : [Part.counters, .fabric, .messages] ⊆ L) (v n) :
    Kept L s (t.drainWaiting v n) := by
  suffices H : ∀ u, Kept [Part.counters, .fabric, .messages] t u → Kept [Part.counters, .fabric, .messages] t
      (u.drainWaiting v n) from k.step (H t Kept.refl) h
  induction n generalizing v with
  | zero =>
    intro u ku
    unfold State.drainWaiting
    exact ku
  | succ n ih =>
    intro u ku
    unfold State.drainWaiting
    dsimp only
    split
    · exact ku
    · exact (ih _ _ ((ku.modVent (by decide) _ _).putFrame (by decide) _ _ _ _ _)).ite ku

theorem Kept.takeCredit (k : Kept L s t) (h : [Part.counters, .fabric, .messages] ⊆ L) (v cls units) :
    Kept L s (t.takeCredit v cls units) :=
  k.within h fun k => (k.modVent (by decide) _ _).drainWaiting (by decide) _ _

theorem Kept.gcmFailed (k : Kept L s t) (h : reporting [.fabric] ⊆ L) (v) : Kept L s (t.gcmFailed v) :=
  k.within h fun k => ((((k.count (by decide) _ _ _ _).modVent (by decide) _ _).fault (by decide) _ _ _ _).linkDown
      (by decide) _).ite ((k.count (by decide) _ _ _ _).modVent (by decide) _ _)

theorem Kept.transit (k : Kept L s t) (h : [Part.counters, .fabric, .messages] ⊆ L) (v f) :
    Kept L s (t.transit v f) := by
  refine k.within h fun k => ?_
  unfold State.transit
  refine Kept.ite ?_ ?_
  · dsimp only
    split
    · exact k.count (by decide) _ _ _ _
    · exact (k.count (by decide) _ _ _ _).sendFrame (by decide) _ _ _ _ _
  · refine Kept.ite ?_ ?_
    · dsimp only
      split
      · exact k.count (by decide) _ _ _ _
      · exact (k.count (by decide) _ _ _ _).sendFrame (by decide) _ _ _ _ _
    · dsimp only
      split
      · exact k.count (by decide) _ _ _ _
      · exact (k.count (by decide) _ _ _ _).sendFrame (by decide) _ _ _ _ _

theorem Kept.linkCredit (k : Kept L s t) (h : [Part.contexts] ⊆ L) (lq n) : Kept L s (t.linkCredit lq n) := by
  refine k.within h fun k => ?_
  unfold State.linkCredit
  split
  · exact k.modUnit (by decide) _ _
  · exact k

theorem Kept.ingressFault (k : Kept L s t) (h : reporting [] ⊆ L) (v panel) : Kept L s (t.ingressFault v panel) :=
  k.within h fun k => k.fault (by decide) _ _ _ _

theorem Kept.ingress (k : Kept L s t) (h : (.freeValues :: accessReach) ⊆ L) (v p) : Kept L s (t.ingress v p) := by
  refine k.within h fun k => ?_
  unfold State.ingress
  dsimp only
  split
  · exact ((k.ingressFault (by decide) _ _).ite k).count (by decide) _ _ _ _
  · split
    · exact ((k.ingressFault (by decide) _ _).complete (by decide) _ _ _ _ _).ite (k.arrived (by decide) _ _)
    · exact ((k.ingressFault (by decide) _ _).complete (by decide) _ _ _ _ _).ite (k.count (by decide) _ _ _ _)

theorem Kept.ingressSync (k : Kept L s t) (h : reporting [.contexts, .network, .fabric] ⊆ L) (v op r w) :
    Kept L s (t.ingressSync v op r w) := by
  refine k.within h fun k => ?_
  unfold State.ingressSync
  split
  · exact ((k.syncServe (by decide) _ _ _).syncAnswer (by decide) _).ite ((k.ingressFault (by decide) _ _).syncAnswer
        (by decide) _)
  · exact (k.ingressFault (by decide) _ _).syncAnswer (by decide) _

theorem Kept.takeBody (k : Kept L s t) (h : (.freeValues :: accessReach) ⊆ L) (v f) : Kept L s (t.takeBody v f) := by
  refine k.within h fun k => ?_
  unfold State.takeBody
  dsimp only
  split
  · exact k.ingress (by decide) _ _
  · split
    · split
      · exact k.acked (by decide) _
      · exact k
    · exact k.linkCredit (by decide) _ _
    · exact k
  · exact k.ingressSync (by decide) _ _ _ _
  · exact (k.send (by decide) _).withAnswer _
  · exact k.takeCredit (by decide) _ _ _
  · exact k
  · exact k.setDown (by decide) _ _ _ _

theorem Kept.modFw (k : Kept L s t) (h : [Part.starts] ⊆ L) (c k' f) : Kept L s (t.modFw c k' f) :=
  k.within h fun k => k.withBoot (by decide) _ (by exact id)

theorem Kept.fwAll (k : Kept L s t) (h : [Part.starts] ⊆ L) (a b) : Kept L s (t.fwAll a b) :=
  k.within h fun k => k.withBoot (by decide) _ (by exact id)

theorem Kept.failTrial (k : Kept L s t) (h : reporting [.starts] ⊆ L) : Kept L s (t.failTrial) :=
  k.within h fun k => ((k.fwAll (by decide) _ _).withBoot (by decide) _ (by exact id)).event (by decide) _ _ _ _

theorem Kept.commitTrial (k : Kept L s t) (h : reporting [.starts] ⊆ L) : Kept L s (t.commitTrial) := by
  refine k.within h fun k => ?_
  unfold State.commitTrial
  refine Kept.event ?_ (by decide) _ _ _ _
  refine Kept.withBoot ?_ (by decide) _ (by exact id)
  refine Kept.foldl k ?_
  dsimp only
  intro u a ku
  split
  · exact ((ku.withSec (by decide) _).modFw (by decide) _ _ _).modFw (by decide) _ _ _
  · exact ku

theorem Kept.loadComponent (k : Kept L s t) (h : reporting [.starts] ⊆ L) (c) : Kept L s (t.loadComponent c).1 := by
  refine k.within h fun k => ?_
  unfold State.loadComponent
  dsimp only
  split
  · split
    · exact k
    · split
      · split
        · dsimp only
          exact (k.modFw (by decide) _ _ _).event (by decide) _ _ _ _
        · exact k.modFw (by decide) _ _ _
      · exact k.modFw (by decide) _ _ _
  · split
    · exact k
    · exact k

theorem Kept.startClear (k : Kept L s t) (h : clearReach ⊆ L) (cold) : Kept L s (t.startClear cold) := by
  refine k.step ⟨fun p hp => ?_, fun w => ?_⟩ h
  · cases p <;> simp [State.same, State.startClear, clearReach] at hp ⊢
  · have hm : Memory.wf (t.startClear cold).stackMem = true := by
      simp only [State.startClear]
      split
      · rfl
      · exact wf_filter _ ((memWf_iff t).mp w).1
    exact (memWf_iff _).mpr ⟨hm, rfl, rfl, rfl⟩

theorem Kept.writeHoldup (k : Kept L s t) (h : reporting [] ⊆ L) : Kept L s (t.writeHoldup) :=
  k.within h fun k => (k.withLog (by decide) _).foldl (fun u a ku => ku.logEntry (by decide) _)

theorem Kept.readIdentities (k : Kept L s t) (h : reporting [.anatomy] ⊆ L) : Kept L s (t.readIdentities) := by
  refine k.within h fun k => ?_
  unfold State.readIdentities
  refine Kept.foldl k ?_
  dsimp only
  intro u a ku
  split
  · exact ku
  · split
    · exact ((ku.fault (by decide) _ _ _ _).withAnat (by decide) _).addField (by decide) _
    · exact ((ku.fault (by decide) _ _ _ _).withAnat (by decide) _).addField (by decide) _
    · exact (ku.fault (by decide) _ _ _ _).withAnat (by decide) _
    · exact (ku.fault (by decide) _ _ _ _).withAnat (by decide) _

theorem Kept.buildRows (k : Kept L s t) (h : reporting [.panelState, .anatomy, .contexts, .clocks, .thermal, .starts,
    .recovery] ⊆ L) (l) :
    Kept L s (t.buildRows l) := by
  induction l generalizing t with
  | nil => exact k
  | cons r rs ih =>
    unfold State.buildRows
    extract_lets good
    split
    · exact k.safeFault (List.Subset.trans (by decide) h) _ _ _
    · exact ih (k.withAnat (List.Subset.trans (by decide) h) _)

theorem Kept.buildDies (k : Kept L s t) (h : reporting [.anatomy] ⊆ L) : Kept L s (t.buildDies) :=
  k.within h fun k => k.foldl (fun u a ku => (ku.recordShort (by decide) _).ite (ku.buildTiles (by decide) _))

theorem Kept.spareRows (k : Kept L s t) (h : [Part.tiles] ⊆ L) : Kept L s (t.spareRows) :=
  k.within h fun k => k.foldl (fun u a ku => ku.modTile (by decide) _ _)

theorem Kept.loadAll (k : Kept L s t) (h : reporting [.starts] ⊆ L) (cs) : Kept L s (t.loadAll cs).1 :=
  k.within h fun k => k.foldl_fst (fun u a ku => ku.loadComponent (by decide) _)

theorem Kept.startSupplies (k : Kept L s t) (h : reporting [.panelState, .anatomy, .contexts, .network, .fabric,
    .clocks, .power, .thermal, .starts, .recovery, .pins] ⊆ L) (kind i) :
    Kept L s (t.startSupplies kind i) := by
  refine k.step ?_ h
  unfold State.startSupplies
  extract_lets r s1 off _ _ _ _ _ s2 s3 s4 s5 s6
  have h1 : Kept (reporting [.panelState, .anatomy, .contexts, .network, .fabric, .clocks, .power, .thermal, .starts,
      .recovery, .pins]) t s1 := by
    unfold s1 r
    split
    · exact Kept.refl
    · exact Kept.refl.loadAll (by decide) _
  split
  · exact h1.safeFault (by decide) _ _ _
  have h2 : Kept (reporting [.panelState, .anatomy, .contexts, .network, .fabric, .clocks, .power, .thermal, .starts,
      .recovery, .pins]) t s2 := by
    clear_value s1
    refine h1.trans ⟨fun p hp => ?_, id⟩
    cases p <;> simp [State.same, reporting, reports, s2] at hp ⊢
  clear_value s2
  split
  · exact h2.safeFault (by decide) _ _ _
  have h3 : Kept (reporting [.panelState, .anatomy, .contexts, .network, .fabric, .clocks, .power, .thermal, .starts,
      .recovery, .pins]) t s3 := h2.foldl fun u d ku => (ku.fault (by decide) _ _ _ _).addField (by decide) _
  have h4 : Kept (reporting [.panelState, .anatomy, .contexts, .network, .fabric, .clocks, .power, .thermal, .starts,
      .recovery, .pins]) t s4 := h3.foldl fun u d ku => (ku.fault (by decide) _ _ _ _).addField (by decide) _
  have h5 : Kept (reporting [.panelState, .anatomy, .contexts, .network, .fabric, .clocks, .power, .thermal, .starts,
      .recovery, .pins]) t s5 := h4.foldl fun u d ku => (ku.fault (by decide) _ _ _ _).modVent (by decide) _ _
  have h6 : Kept (reporting [.panelState, .anatomy, .contexts, .network, .fabric, .clocks, .power, .thermal, .starts,
      .recovery, .pins]) t s6 := h5.foldl fun u d ku => by
    split
    · exact ku.modVent (by decide) _ _
    · exact ku
  exact Kept.enter (h6.withBoot (by decide) _ (by exact id)) (by decide) _

theorem Kept.startProceed (k : Kept L s t) (h : reporting [.panelState, .anatomy, .contexts, .network, .fabric,
    .clocks, .power, .thermal, .starts, .recovery, .pins] ⊆ L) (kind i) :
    Kept L s (t.startProceed kind i) := by
  refine k.step ?_ h
  unfold State.startProceed
  split
  · exact Kept.refl.startSupplies (by decide) _ _
  · exact Kept.refl.withBoot (by decide) _ (by exact id)

theorem Kept.startBegin (k : Kept L s t) (h : startReach ⊆ L) (cold trial i) :
    Kept L s (t.startBegin cold trial i) := by
  refine k.step ?_ h
  have h0 : Kept startReach t (t.startClear cold) := Kept.refl.startClear (by decide) _
  unfold State.startBegin
  generalize t.startClear cold = u at h0 ⊢
  extract_lets s1 _ s1' s2 again s3 bad s4 kind r
  have h2 : Kept startReach t s2 := (h0.withBoot (by decide) _ (by exact id)).writeHoldup (by decide)
  split
  · exact h2.safeFault (by decide) _ _ _
  have h3 : Kept startReach t s3 := (h2.failTrial (by decide)).ite h2
  have h4 : Kept startReach t s4 := (h3.failTrial (by decide)).ite h3
  have hr : Kept startReach t r.1 := by
    unfold r
    split
    · exact h4
    · exact h4.loadAll (by decide) _
  clear_value r
  split
  · exact hr.withBoot (by decide) _ (by exact id)
  · refine Kept.startProceed (Kept.foldl (hr.readIdentities (by decide)) fun u w ku => ku.addField (by decide) _)
      (by decide) _ _

theorem Kept.coldStart (k : Kept L s t) (h : startReach ⊆ L) (i) : Kept L s (t.coldStart i) :=
  k.within h fun k => (k.fstatus _).ite (((k.startBegin (by decide) _ _ _).fstatus _).ite (k.fstatus _))

theorem Kept.warmStart (k : Kept L s t) (h : startReach ⊆ L) (i) : Kept L s (t.warmStart i) := by
  refine k.within h fun k => ?_
  unfold State.warmStart
  refine Kept.ite (k.fstatus _) ?_
  split
  · exact (k.startBegin (by decide) _ _ _).fstatus _
  · exact (k.startBegin (by decide) _ _ _).fstatus _
  · exact (k.startBegin (by decide) _ _ _).fstatus _
  · exact (k.startBegin (by decide) _ _ _).fstatus _
  · exact k.fstatus _

theorem Kept.storeFound (k : Kept L s t) (h : reporting [.anatomy] ⊆ L) (found) : Kept L s (t.storeFound found) :=
  k.within h fun k => k.foldl (fun u a ku => ((ku.addField (by decide) _).event (by decide) _ _ _ _).ite (ku.addField
      (by decide) _))

theorem Kept.recordFound (k : Kept L s t) (h : reporting [.anatomy] ⊆ L) (found) : Kept L s (t.recordFound found) :=
  k.within h fun k => (k.storeFound (by decide) _).foldl (fun u a ku => ku.recordShort (by decide) _)

theorem Kept.dramFound (k : Kept L s t) (h : reporting [.anatomy, .stacks] ⊆ L) (lines) :
    Kept L s (t.dramFound lines) :=
  k.within h fun k => (k.foldl (fun u a ku => ku.modStack (by decide) _ _)).foldl (fun u a ku => ((ku.fault
      (by decide) _ _ _ _).addField (by decide) _).ite ku)

theorem Kept.putSelftest (k : Kept L s t) (h : [Part.starts] ⊆ L) (old kind skipped) :
    Kept L s (t.putSelftest old kind skipped) :=
  k.within h fun k => k.withBoot (by decide) _ (by exact id)

theorem Kept.startIdle (k : Kept L s t) (h : reporting [.panelState, .starts] ⊆ L) (kind ms) :
    Kept L s (t.startIdle kind ms) := by
  refine k.within h fun k => ?_
  unfold State.startIdle
  dsimp only
  split
  · exact ((k.withBoot (by decide) _ (by exact id)).enter (by decide) _).commitTrial (by decide)
  · exact (k.withBoot (by decide) _ (by exact id)).enter (by decide) _

theorem Kept.disablePhases (k : Kept L s t) (h : [Part.power] ⊆ L) (l) : Kept L s (t.disablePhases l) :=
  k.within h fun k => k.withPwr (by decide) _

theorem Kept.selftest (k : Kept L s t) (h : [Part.panelState, .hostSites, .starts, .messages] ⊆ L) :
    Kept L s (t.selftest) := by
  refine k.within h fun k => ?_
  unfold State.selftest
  dsimp only
  split
  · exact k.fstatus _
  · split
    · exact ((k.withBoot (by decide) _ (by exact id)).enter (by decide) _).fstatus _
    · exact k.fstatus _

theorem Kept.calibrate (k : Kept L s t) (h : reporting [.panelState, .starts] ⊆ L) : Kept L s (t.calibrate) := by
  refine k.step ?_ h
  unfold State.calibrate
  split
  · exact Kept.refl.fstatus _
  split
  · exact Kept.refl.fstatus _
  split
  · exact (Kept.enter (Kept.refl.withBoot (by decide) _ (by exact id)) (by decide) _).fstatus _
  · have hf : Kept (reporting [.panelState, .starts]) t (t.fault 0x3010 none (locHub 0)) := Kept.refl.fault
      (by decide) _ _ _ _
    exact (hf.withBoot (by decide) { t.boot with cmdStatus := 0x30100306 } fun w => by
      rwa [State.fault_boot] at w).fstatus _

theorem Kept.goOff (k : Kept L s t) (h : clearReach ⊆ L) : Kept L s (t.goOff) := by
  have hu := Kept.startClear (L := clearReach) (s := t) Kept.refl (List.Subset.refl _) true
  refine k.step ?_ h
  unfold State.goOff
  generalize t.startClear true = u at hu
  refine ⟨fun p hp => same_trans (hu.same p hp) ?_, fun w => ?_⟩
  · cases p <;> simp [State.same, clearReach] at hp ⊢
  · obtain ⟨h1, h2, h3, -⟩ := (memWf_iff u).mp (hu.wf w)
    exact (memWf_iff _).mpr ⟨h1, h2, h3, ((memWf_iff t).mp w).2.2.2⟩

theorem Kept.powerOff (k : Kept L s t) (h : clearReach ⊆ L) : Kept L s (t.powerOff) := by
  refine k.within h fun k => ?_
  unfold State.powerOff
  dsimp only
  split
  · exact k.fstatus _
  · split
    · exact ((k.goOff (by decide)).withBoot (by decide) _ (by exact id)).fstatus _
    · exact ((k.goOff (by decide)).withBoot (by decide) _ (by exact id)).fstatus _
    · exact ((k.goOff (by decide)).withBoot (by decide) _ (by exact id)).fstatus _
    · exact ((k.goOff (by decide)).withBoot (by decide) _ (by exact id)).fstatus _
    · exact k.fstatus _

theorem Kept.safeCmd (k : Kept L s t) (h : reporting [.panelState, .contexts, .clocks, .thermal, .starts, .recovery]
    ⊆ L) :
    Kept L s (t.safeCmd) := by
  refine k.within h fun k => ?_
  unfold State.safeCmd
  dsimp only
  split
  · exact k.fstatus _
  · split
    · exact ((k.enterSafe (by decide) _).withBoot (by decide) _ (by exact id)).fstatus _
    · exact ((k.enterSafe (by decide) _).withBoot (by decide) _ (by exact id)).fstatus _
    · exact k.fstatus _

theorem Kept.update (k : Kept L s t) (h : [Part.panelState, .hostSites, .starts, .messages] ⊆ L) :
    Kept L s (t.update) := by
  refine k.within h fun k => ?_
  unfold State.update
  dsimp only
  split
  · exact k.fstatus _
  · split
    · exact ((k.withBoot (by decide) _ (by exact id)).enter (by decide) _).fstatus _
    · exact k.fstatus _

theorem Kept.stageFw (k : Kept L s t) (h : reporting [.starts] ⊆ L) (img) : Kept L s (t.stageFw img) := by
  refine k.within h fun k => ?_
  unfold State.stageFw
  refine Kept.ite (k.fstatus _) ?_
  refine Kept.ite (k.fstatus _) ?_
  dsimp only
  split
  · exact (((k.count (by decide) _ _ _ _).ite k).fault (by decide) _ _ _ _).fstatus _
  · exact (k.modFw (by decide) _ _ _).fstatus _

theorem Kept.activateFw (k : Kept L s t) (h : startReach ⊆ L) (i) : Kept L s (t.activateFw i) :=
  k.within h fun k => (k.fstatus _).ite (((k.fwAll (by decide) _ _).startBegin (by decide) _ _ _).fstatus _)

theorem Kept.discard (k : Kept L s t) (h : [Part.panelState, .hostSites, .starts, .messages] ⊆ L) :
    Kept L s (t.discard) :=
  k.within h fun k => (k.fstatus _).ite (((k.fwAll (by decide) _ _).enter (by decide) _).fstatus _)

theorem Kept.writeCal (k : Kept L s t) (h : reporting [.starts] ⊆ L) (w) : Kept L s (t.writeCal w) :=
  k.within h fun k => (k.fstatus _).ite (((k.putCal (by decide) _ _).fstatus _).ite (k.fstatus _))

theorem Kept.clearField (k : Kept L s t) (h : [Part.anatomy] ⊆ L) (v) : Kept L s (t.clearField v) :=
  k.within h fun k => (k.withAnat (by decide) _).fstatus _

theorem Kept.clearSet (k : Kept L s t) (h : [Part.counters, .counterTimes] ⊆ L) (set v) :
    Kept L s (t.clearSet set v) :=
  k.within h fun k => ((k.clearCounters (by decide) _).ite k).fstatus _

theorem Kept.countClock (k : Kept L s t) (h : [Part.counters] ⊆ L) (i off) : Kept L s (t.countClock i off) := by
  refine k.within h fun k => ?_
  unfold State.countClock
  split
  · exact k.count (by decide) _ _ _ _
  · exact k

theorem Kept.portFail (k : Kept L s t) (h : reporting [.anatomy, .commonsMem, .tiles, .engines, .contexts, .stacks,
    .network, .fabric, .power, .recovery] ⊆ L) (d p) :
    Kept L s (t.portFail d p) := by
  refine k.within h fun k => ?_
  unfold State.portFail
  dsimp only
  split
  · exact k
  · split
    · exact (k.withNet (by decide) _).loseStack (by decide) _
    · exact (k.withNet (by decide) _).reroute (by decide)

theorem Kept.ringFail (k : Kept L s t) (h : reporting [.anatomy, .commonsMem, .tiles, .engines, .contexts, .stacks,
    .network, .fabric, .power, .recovery] ⊆ L) (d) :
    Kept L s (t.ringFail d) := by
  refine k.within h fun k => ?_
  unfold State.ringFail
  dsimp only
  split
  · exact k
  · exact (((k.withNet (by decide) _).reroute (by decide)).loseStack (by decide) _).loseStack (by decide) _

theorem Kept.islandFail (k : Kept L s t) (h : reporting [.panelState, .anatomy, .commonsMem, .spadMem, .tiles,
    .engines, .contexts, .stacks, .network, .fabric, .clocks, .power, .thermal, .starts, .recovery] ⊆ L) (code i) :
    Kept L s (t.islandFail code i) := by
  refine k.within h fun k => ?_
  unfold State.islandFail
  dsimp only
  split
  · exact (((k.fault (by decide) _ _ _ _).modIsland (by decide) _ _).tileFail (by decide) _ _ _).ite ((((k.fault
        (by decide) _ _ _ _).modIsland (by decide) _ _).ringFail (by decide) _).ite ((((k.fault (by decide) _ _ _
        _).modIsland (by decide) _ _).portFail (by decide) _ _).ite ((((k.fault (by decide) _ _ _ _).modIsland
        (by decide) _ _).portFail (by decide) _ _).ite ((((k.fault (by decide) _ _ _ _).modIsland (by decide) _
        _).portFail (by decide) _ _).ite (((k.fault (by decide) _ _ _ _).modIsland (by decide) _ _).dieFail
        (by decide) _ _ _)))))
  · exact ((k.fault (by decide) _ _ _ _).modIsland (by decide) _ _).loseStack (by decide) _
  · exact ((k.fault (by decide) _ _ _ _).modIsland (by decide) _ _).linkOff (by decide) _
  · exact ((k.fault (by decide) _ _ _ _).modIsland (by decide) _ _).enterSafe (by decide) _

theorem Kept.pauseDie (k : Kept L s t) (h : [Part.counters] ⊆ L) (d ns) : Kept L s (t.pauseDie d ns) := by
  refine k.within h fun k => ?_
  unfold State.pauseDie
  dsimp only
  split
  · exact k
  · exact k.foldl (fun u a ku => (ku.count (by decide) _ _ _ _).ite ku)

theorem Kept.addStretch (k : Kept L s t) (h : [Part.counters] ⊆ L) (d quarters) :
    Kept L s (t.addStretch d quarters) := by
  refine k.within h fun k => ?_
  unfold State.addStretch
  dsimp only
  split
  · exact k.withCtrs (by decide) _
  · exact (k.withCtrs (by decide) _).count (by decide) _ _ _ _

theorem Kept.noteVoltage (k : Kept L s t) (h : [Part.power, .recovery] ⊆ L) (d mv) :
    Kept L s (t.noteVoltage d mv) := by
  refine k.within h fun k => ?_
  unfold State.noteVoltage
  extract_lets x a least _ s1
  have h1 : Kept [Part.power, .recovery] t s1 := (k.withRecov (by decide) _).ite k
  exact (h1.withPwr (by decide) _).ite h1

theorem Kept.stretchBy (k : Kept L s t) (h : [Part.counters, .clocks] ⊆ L) (d quarters) :
    Kept L s (t.stretchBy d quarters) := by
  refine k.within h fun k => ?_
  unfold State.stretchBy
  extract_lets was s1 less s2
  have h1 : Kept [Part.counters, .clocks] t s1 := k.modDieClk (by decide) _ _
  have h2 : Kept [Part.counters, .clocks] t s2 := h1.ite (h1.withCtrs (by decide) _)
  exact ((k.count (by decide) _ _ _ _).addStretch (by decide) _ _).ite
    (k.ite ((h2.count (by decide) _ _ _ _).addStretch (by decide) _ _))

theorem Kept.lowerMargin (k : Kept L s t) (h : reporting [.clocks] ⊆ L) (i) : Kept L s (t.lowerMargin i) := by
  refine k.within h fun k => ?_
  unfold State.lowerMargin
  split
  · exact ((k.modDieClk (by decide) _ _).count (by decide) _ _ _ _).event (by decide) _ _ _ _
  · exact k

theorem Kept.warnMargin (k : Kept L s t) (h : reporting [.clocks] ⊆ L) (i) : Kept L s (t.warnMargin i) :=
  k.within h fun k => k.ite (((k.modIsland (by decide) _ _).countClock (by decide) _ _).event (by decide) _ _ _ _)

theorem Kept.suspend (k : Kept L s t) (h : reporting [.recovery] ⊆ L) (d i) : Kept L s (t.suspend d i) :=
  k.within h fun k => k.foldl (fun u a ku => ((ku.suspendEvent (by decide) _ _ _).count (by decide) _ _ _
      _).withRecov (by decide) _)

theorem Kept.quenchCmd (k : Kept L s t) (h : reporting [.panelState, .contexts, .clocks, .starts] ⊆ L) (v) :
    Kept L s (t.quenchCmd v) :=
  k.within h fun k => ((k.takeQuench (by decide) _ _).ite k).fstatus _

theorem Kept.payload (k : Kept L s t) (h : [Part.freeValues] ⊆ L) : Kept L s (t.payload).2 :=
  k.within h fun k => k.withFreeCount (by decide) _

theorem Kept.imageDie (k : Kept L s t) (h : [Part.freeValues] ⊆ L) (c g d) : Kept L s (t.imageDie c g d).2 :=
  Kept.foldl_of (fun r : List Bytes × List Bytes × State => r.2.2) k fun _ _ kr => kr.payload h

theorem Kept.imagePart (k : Kept L s t) (h : [Part.freeValues] ⊆ L) (type index) :
    Kept L s (t.imagePart type index).2 :=
  k.within h fun k => k.payload (by decide)

theorem Kept.imageParts (k : Kept L s t) (h : [Part.freeValues] ⊆ L) (l) : Kept L s (t.imageParts l).2 :=
  Kept.foldl_of (fun r : List Bytes × State => r.2) k fun _ p kr => kr.imagePart h p.1 p.2

theorem Kept.imageRecords (k : Kept L s t) (h : [Part.freeValues] ⊆ L) : Kept L s (t.imageRecords).2 := by
  unfold State.imageRecords
  extract_lets a parts z
  have ha : Kept L s a.2 := Kept.foldl_of (fun r : List Bytes × State => r.2) k fun r c kr =>
    Kept.foldl_of (fun r : List Bytes × State => r.2) kr fun _ d kz => kz.imageDie h c (r.2.scanOut c none 0) d
  have hz : Kept L s z.2 := ha.imageParts h _
  exact hz

theorem Kept.dumpRecords (k : Kept L s t) (h : [Part.freeValues] ⊆ L) : Kept L s (t.dumpRecords).2 :=
  k.within h fun k => k.imageParts (by decide) _

theorem Kept.putSlot (k : Kept L s t) (h : [Part.clocks] ⊆ L) (slot h') : Kept L s (t.putSlot slot h') := by
  refine k.within h fun k => ?_
  unfold State.putSlot
  dsimp only
  split
  · exact k.withClk (by decide) _
  · exact k.withClk (by decide) _

theorem Kept.putRecords (k : Kept L s t) (h : [Part.clocks] ⊆ L) (slot l) : Kept L s (t.putRecords slot l) := by
  refine k.within h fun k => ?_
  unfold State.putRecords
  dsimp only
  split
  · exact k.withClk (by decide) _
  · exact k.withClk (by decide) _

theorem Kept.sramDump (k : Kept L s t) (h : [Part.objects, .clocks] ⊆ L) (v) : Kept L s (t.sramDump v) := by
  refine k.within h fun k => ?_
  unfold State.sramDump
  refine Kept.fstatus ?_ _
  dsimp only
  split
  · exact (k.setObj (by decide) _ _ _).withClk (by decide) _
  · exact k.setObj (by decide) _ _ _

theorem Kept.readSlot (k : Kept L s t) (h : [Part.security, .freeValues] ⊆ L) (slot) :
    Kept L s (t.readSlot slot).1 := by
  refine k.within h fun k => ?_
  unfold State.readSlot
  dsimp only
  split
  · exact k
  · split
    · exact k
    · exact ((((k.draw (by decide)).draw (by decide)).freeBytes (by decide) _).freeBytes (by decide) _).freeBytes
          (by decide) _

theorem Kept.eventPerMinute (k : Kept L s t) (h : reporting [.power] ⊆ L) (code detail) :
    Kept L s (t.eventPerMinute code detail) := by
  refine k.within h fun k => ?_
  unfold State.eventPerMinute
  dsimp only
  split
  · exact k
  · exact (k.withPwr (by decide) _).event (by decide) _ _ _ _

theorem Kept.updateCap (k : Kept L s t) (h : [Part.power] ⊆ L) : Kept L s (t.updateCap) :=
  k.within h fun k => k.withPwr (by decide) _

theorem Kept.setPowerCeilings (k : Kept L s t) (h : [Part.clocks] ⊆ L) (n) : Kept L s (t.setPowerCeilings n) :=
  k.within h fun k => k.foldl (fun u a ku => ku.modDieClk (by decide) _ _)

theorem Kept.requestOn (k : Kept L s t) (h : [Part.power] ⊆ L) (dom) : Kept L s (t.requestOn dom) := by
  refine k.within h fun k => ?_
  unfold State.requestOn
  dsimp only
  split
  · exact k
  · exact k.withPwr (by decide) _

theorem Kept.grantSlots (k : Kept L s t) (h : [Part.counters, .power] ⊆ L) (groups inputOk l used) :
    Kept L s (t.grantSlots groups inputOk l used) := by
  induction l generalizing t used with
  | nil => exact k
  | cons w l ih =>
    unfold State.grantSlots
    extract_lets g _ s1 s2
    split
    · exact ih k _
    split
    · exact ih (Kept.setDom (k.withPwr (List.Subset.trans (by decide) h) _) (List.Subset.trans (by decide) h) _ _) _
    · refine ih ?_ _
      unfold s2
      split
      · exact k.count (List.Subset.trans (by decide) h) _ _ _ _
      · exact k

theorem Kept.logRows (k : Kept L s t) (h : [Part.power] ⊆ L) : Kept L s (t.logRows) :=
  k.within h fun k => k.withPwr (by decide) _

theorem Kept.openFuse (k : Kept L s t) (h : reporting [.anatomy, .commonsMem, .tiles, .engines, .contexts, .stacks,
    .network, .fabric, .power, .recovery] ⊆ L) (f) :
    Kept L s (t.openFuse f) := by
  refine k.within h fun k => ?_
  unfold State.openFuse
  dsimp only
  split
  · exact ((((k.withPwr (by decide) _).logRows (by decide)).fault (by decide) _ _ _ _).setDom (by decide) _
        _).loseStack (by decide) _
  · exact ((((k.withPwr (by decide) _).logRows (by decide)).fault (by decide) _ _ _ _).setDom (by decide) _
        _).linkOff (by decide) _

theorem Kept.updateFlow (k : Kept L s t) (h : [Part.thermal] ⊆ L) : Kept L s (t.updateFlow) :=
  k.within h fun k => k.withThm (by decide) _

theorem Kept.lowerWhile (k : Kept L s t) (h : [Part.counters, .clocks] ⊆ L) (scope n x l) :
    Kept L s (t.lowerWhile scope n x l).1 := by
  suffices H : ∀ u, Kept [Part.counters, .clocks] t u → Kept [Part.counters, .clocks] t (u.lowerWhile scope n x l).1
      from k.step (H t Kept.refl) h
  induction n generalizing scope x l with
  | zero =>
    intro u ku
    unfold State.lowerWhile
    exact ku
  | succ n ih =>
    intro u ku
    unfold State.lowerWhile
    dsimp only
    split
    · exact ku
    · split
      · exact ku
      · exact ih _ _ _ _ ((ku.modDieClk (by decide) _ _).count (by decide) _ _ _ _)

theorem Kept.raiseOne (k : Kept L s t) (h : [Part.counters, .clocks] ⊆ L) (d) : Kept L s (t.raiseOne d) :=
  k.within h fun k => (k.modDieClk (by decide) _ _).count (by decide) _ _ _ _

theorem Kept.raiseTick (k : Kept L s t) (h : [Part.counters, .clocks, .thermal] ⊆ L) (p) :
    Kept L s (t.raiseTick p) := by
  refine k.within h fun k => ?_
  unfold State.raiseTick
  dsimp only
  split
  · split
    · split
      · exact k.foldl (fun u a ku => ku.raiseOne (by decide) _)
      · exact k
    · exact k.withThm (by decide) _
  · split
    · split
      · split
        · exact k.raiseOne (by decide) _
        · exact k
      · exact k
    · exact k

theorem Kept.stopWarming (k : Kept L s t) (h : [Part.clocks] ⊆ L) : Kept L s (t.stopWarming) :=
  k.within h fun k => k.withClk (by decide) _

theorem Kept.countHeatOff (k : Kept L s t) (h : [Part.counters] ⊆ L) : Kept L s (t.countHeatOff) :=
  k.within h fun k => k.foldl (fun u a ku => ku.count (by decide) _ _ _ _)

theorem Kept.clearMinMv (k : Kept L s t) (h : [Part.power] ⊆ L) (v) : Kept L s (t.clearMinMv v) := by
  refine k.within h fun k => ?_
  unfold State.clearMinMv
  refine Kept.fstatus ?_ _
  dsimp only
  split
  · exact k.withPwr (by decide) _
  · exact k

theorem Kept.countSpot (k : Kept L s t) (h : [Part.counters] ⊆ L) (x off) : Kept L s (t.countSpot x off) := by
  refine k.within h fun k => ?_
  unfold State.countSpot
  split
  · exact k.count (by decide) _ _ _ _
  · exact k

theorem Kept.readSpot (k : Kept L s t) (h : [Part.thermal] ⊆ L) (x a b) : Kept L s (t.readSpot x a b) :=
  k.within h fun k => k.modSpot (by decide) _ _

theorem Kept.event2001 (k : Kept L s t) (h : reporting [.thermal] ⊆ L) (d detail) :
    Kept L s (t.event2001 d detail) := by
  refine k.within h fun k => ?_
  unfold State.event2001
  dsimp only
  split
  · exact k
  · exact (k.withThm (by decide) _).event (by decide) _ _ _ _

theorem Kept.stageOne (k : Kept L s t) (h : reporting [.clocks, .thermal] ⊆ L) (d detail) :
    Kept L s (t.stageOne d detail) :=
  k.within h fun k => (((k.modDieClk (by decide) _ _).withThm (by decide) _).event2001 (by decide) _ _).count
      (by decide) _ _ _ _

theorem Kept.enterStage (k : Kept L s t) (h : reporting [.panelState, .anatomy, .commonsMem, .tiles, .engines,
    .contexts, .stacks, .network, .fabric, .clocks, .power, .thermal, .starts, .recovery] ⊆ L) (x n) :
    Kept L s (t.enterStage x n) := by
  refine k.within h fun k => ?_
  unfold State.enterStage
  dsimp only
  split
  · exact (k.modSpot (by decide) _ _).stageOne (by decide) _ _
  · exact (k.modSpot (by decide) _ _).stageOne (by decide) _ _
  · exact (((k.modSpot (by decide) _ _).modDieClk (by decide) _ _).event (by decide) _ _ _ _).count (by decide) _ _ _
        _
  · exact (((k.modSpot (by decide) _ _).modDieClk (by decide) _ _).event (by decide) _ _ _ _).count (by decide) _ _ _
        _
  · exact ((k.modSpot (by decide) _ _).event (by decide) _ _ _ _).count (by decide) _ _ _ _
  · exact ((k.modSpot (by decide) _ _).event (by decide) _ _ _ _).count (by decide) _ _ _ _
  · exact (k.modSpot (by decide) _ _).stageOne (by decide) _ _
  · exact (k.modSpot (by decide) _ _).event (by decide) _ _ _ _
  · exact (k.modSpot (by decide) _ _).event (by decide) _ _ _ _
  · exact (k.modSpot (by decide) _ _).enterSafe (by decide) _
  · exact (k.modSpot (by decide) _ _).event (by decide) _ _ _ _
  · exact (k.modSpot (by decide) _ _).openFuse (by decide) _
  · exact k.modSpot (by decide) _ _

theorem Kept.leaveDie (k : Kept L s t) (h : [Part.clocks, .power, .thermal] ⊆ L) (d i old new) :
    Kept L s (t.leaveDie d i old new) := by
  refine k.within h fun k => ?_
  unfold State.leaveDie
  dsimp only
  split
  · split
    · refine Kept.requestOn ?_ (by decide) _
      refine Kept.withThm ?_ (by decide) _
      split
      · exact k.modDieClk (by decide) _ _
      · exact k
    · refine Kept.withThm ?_ (by decide) _
      split
      · exact k.modDieClk (by decide) _ _
      · exact k
  · refine Kept.withThm ?_ (by decide) _
    split
    · exact k.modDieClk (by decide) _ _
    · exact k

theorem Kept.spotBlind (k : Kept L s t) (h : reporting [.panelState, .anatomy, .commonsMem, .spadMem, .tiles,
    .engines, .contexts, .stacks, .network, .fabric, .clocks, .power, .thermal, .starts, .recovery] ⊆ L) (x) :
    Kept L s (t.spotBlind x) := by
  refine k.within h fun k => ?_
  unfold State.spotBlind
  dsimp only
  split
  · exact (k.fault (by decide) _ _ _ _).tileFail (by decide) _ _ _
  · exact (k.fault (by decide) _ _ _ _).dieFail (by decide) _ _ _
  · exact (k.fault (by decide) _ _ _ _).foldl (fun u a ku => ku.enterStage (by decide) _ _)
  · exact (k.fault (by decide) _ _ _ _).foldl (fun u a ku => ku.enterStage (by decide) _ _)
  · exact (k.fault (by decide) _ _ _ _).foldl (fun u a ku => ku.enterStage (by decide) _ _)

theorem Kept.noteTrip (k : Kept L s t) (h : reporting [.panelState, .contexts, .clocks, .thermal, .starts, .recovery]
    ⊆ L) (l) :
    Kept L s (t.noteTrip l) := by
  refine k.within h fun k => ?_
  unfold State.noteTrip
  dsimp only
  split
  · split
    · exact (k.withThm (by decide) _).safeFault (by decide) _ _ _
    · exact k.withThm (by decide) _
  · split
    · exact (k.withThm (by decide) _).safeFault (by decide) _ _ _
    · exact k.withThm (by decide) _

theorem Kept.tripFault (k : Kept L s t) (h : reporting [.pins] ⊆ L) (l detail) : Kept L s (t.tripFault l detail) :=
  k.within h fun k => (k.withPins (by decide) _).fault (by decide) _ _ _ _

theorem Kept.flowChanged (k : Kept L s t) (h : [Part.thermal] ⊆ L) : Kept L s (t.flowChanged) := by
  refine k.within h fun k => ?_
  unfold State.flowChanged
  dsimp only
  split
  · exact k
  · exact k.withThm (by decide) _

theorem Kept.coolantSample (k : Kept L s t) (h : reporting [.objects, .power, .thermal] ⊆ L) (k' v) :
    Kept L s (t.coolantSample k' v) := by
  refine k.within h fun k => ?_
  unfold State.coolantSample
  extract_lets r _ l s1 _ s2 s3
  have h2 : Kept (reporting [.objects, .power, .thermal]) t s2 := Kept.withThm (k.setObj (by decide) _ _ _)
      (by decide) _
  have h3 : Kept (reporting [.objects, .power, .thermal]) t s3 := (h2.event (by decide) _ _ _ _).ite h2
  split
  · exact Kept.fstatus (k.withThm (by decide) _) _
  · exact (((h3.flowChanged (by decide)).ite h3).updateCap (by decide)).fstatus _

theorem Kept.takeForecast (k : Kept L s t) (h : [Part.thermal] ⊆ L) (p) : Kept L s (t.takeForecast p) := by
  refine k.within h fun k => ?_
  unfold State.takeForecast
  dsimp only
  split
  · exact ((k.withThm (by decide) _).updateFlow (by decide)).fstatus _
  · exact k.fstatus _

theorem Kept.warmDie (k : Kept L s t) (h : [Part.counters, .clocks] ⊆ L) (d temp ms) :
    Kept L s (t.warmDie d temp ms) :=
  k.within h fun k => ((k.modDieClk (by decide) _ _).count (by decide) _ _ _ _).ite (k.modDieClk (by decide) _ _)

theorem Kept.setLink (k : Kept L s t) (h : [Part.hostSites, .messages] ⊆ L) (h' st modules) :
    Kept L s (t.setLink h' st modules) :=
  k.within h fun k => (k.modSite (by decide) _ _).doorbell (by decide) _ _

theorem Kept.missingModules (k : Kept L s t) (h : reporting [] ⊆ L) (h' modules) :
    Kept L s (t.missingModules h' modules) :=
  k.within h fun k => k.foldl (fun u a ku => ku.event (by decide) _ _ _ _)

theorem Kept.trainSite (k : Kept L s t) (h : reporting [] ⊆ L) (h' modules back) :
    Kept L s (t.trainSite h' modules back) :=
  k.within h fun k => (((k.modSite (by decide) _ _).setLink (by decide) _ _ _).fault (by decide) _ _ _ _).ite
      (((((k.modSite (by decide) _ _).setLink (by decide) _ _ _).missingModules (by decide) _ _).event (by decide) _
      _ _ _).ite (((k.modSite (by decide) _ _).setLink (by decide) _ _ _).missingModules (by decide) _ _))

theorem Kept.unserved (k : Kept L s t) (h : [Part.counters, .hostSites, .messages] ⊆ L) (h' q) :
    Kept L s (t.unserved h' q) :=
  k.within h fun k => (k.hostDone (by decide) _ _ _ _).ite (k.status _)

theorem Kept.hubRegister (k : Kept L s t) (h : accessReach ⊆ L) (h' off v) : Kept L s (t.hubRegister h' off v) :=
  k.within h fun k => k.turnAway.ite (k.hostPush (by decide) _ _)

theorem Kept.mailLen (k : Kept L s t) (h : [Part.counters, .hostSites] ⊆ L) (h' len) : Kept L s (t.mailLen h' len) :=
  k.within h fun k => ((k.modSite (by decide) _ _).count (by decide) _ _ _ _).ite ((k.modSite (by decide) _ _).count
      (by decide) _ _ _ _)

theorem Kept.frameTaken (k : Kept L s t) (h : [Part.hostSites] ⊆ L) (h') : Kept L s (t.frameTaken h') :=
  k.within h fun k => k.modSite (by decide) _ _

theorem Kept.mailConsumed (k : Kept L s t) (h : [Part.counters, .hostSites, .messages] ⊆ L) (h') :
    Kept L s (t.mailConsumed h') := by
  refine k.within h fun k => ?_
  unfold State.mailConsumed
  refine Kept.ite k ?_
  split
  · exact k.modSite (by decide) _ _
  · exact (k.modSite (by decide) _ _).mailPut (by decide) _ _

theorem Kept.clearOverrun (k : Kept L s t) (h : [Part.hostSites] ⊆ L) (h') : Kept L s (t.clearOverrun h') :=
  k.within h fun k => k.modSite (by decide) _ _

theorem Kept.clearCauses (k : Kept L s t) (h : [Part.hostSites] ⊆ L) (h' v) : Kept L s (t.clearCauses h' v) :=
  k.within h fun k => k.modSite (by decide) _ _

theorem Kept.mailboxWrite (k : Kept L s t) (h : [Part.counters, .hostSites, .messages] ⊆ L) (h' off v) :
    Kept L s (t.mailboxWrite h' off v) := by
  refine k.within h fun k => ?_
  unfold State.mailboxWrite
  refine Kept.ite (k.modSite (by decide) _ _) ?_
  dsimp only
  split
  · exact k.mailLen (by decide) _ _
  · exact (((k.mailConsumed (by decide) _).ite k).clearOverrun (by decide) _).ite ((k.mailConsumed (by decide) _).ite
        k)
  · exact k.modSite (by decide) _ _
  · exact k.clearCauses (by decide) _ _
  · exact k

theorem Kept.sidebandCmd (k : Kept L s t) (n) {f : State → State} (hf : Kept L s (f t)) :
    Kept L s (t.sidebandCmd n f) := by
  unfold State.sidebandCmd
  split
  · exact hf.ok
  · exact k.turnAway

theorem Kept.dropOffers (k : Kept L s t) (h : [Part.contexts] ⊆ L) : Kept L s (t.dropOffers) :=
  k.within h fun k => k.withFlow (by decide) _

theorem Kept.refuseRecord (k : Kept L s t) (h : reporting [] ⊆ L) (code c sigBad detail) :
    Kept L s (t.refuseRecord code c sigBad detail) :=
  k.within h fun k => (((((((k.count (by decide) _ _ _ _).ite k).count (by decide) _ _ _ _).ite ((k.count (by decide)
      _ _ _ _).ite k)).count (by decide) _ _ _ _).ite ((((k.count (by decide) _ _ _ _).ite k).count (by decide) _ _ _
      _).ite ((k.count (by decide) _ _ _ _).ite k))).fault (by decide) _ _ _ _).fstatus _

theorem Kept.refuseIn (k : Kept L s t) (h : reporting [] ⊆ L) (admitted code c sigBad detail) :
    Kept L s (t.refuseIn admitted code c sigBad detail) :=
  k.within h fun k => (k.refuseRecord (by decide) _ _ _ _).ite ((k.refuseRecord (by decide) _ _ _ _).fstatus _)

theorem Kept.closeCtx (k : Kept L s t) (h : reporting [.panelState, .anatomy, .stackMem, .commonsMem, .spadMem,
    .tiles, .engines, .contexts, .stacks, .network, .fabric, .power, .recovery] ⊆ L) (c) :
    Kept L s (t.closeCtx c) :=
  k.within h fun k => (((((((k.unbind (by decide) _ _ _).foldl (fun u a ku => ku.zeroBank (by decide) _ _)).foldl
      (fun u a ku => ku.freeTag (by decide) _ _)).modCtx (by decide) _ _).count (by decide) _ _ _ _).event
      (by decide) _ _ _ _).settleRun (by decide)).drainSites (by decide)

theorem Kept.closeOne (k : Kept L s t) (h : reporting [.panelState, .anatomy, .stackMem, .commonsMem, .spadMem,
    .tiles, .engines, .contexts, .stacks, .network, .fabric, .power, .recovery] ⊆ L) (c) :
    Kept L s (t.closeOne c) :=
  k.within h fun k => k.ite (k.closeCtx (by decide) _)

theorem Kept.closeAll (k : Kept L s t) (h : reporting [.panelState, .anatomy, .stackMem, .commonsMem, .spadMem,
    .tiles, .engines, .contexts, .stacks, .network, .fabric, .power, .recovery] ⊆ L) :
    Kept L s (t.closeAll) :=
  k.within h fun k => k.foldl (fun u a ku => ku.closeOne (by decide) _)

theorem Kept.endLevel (k : Kept L s t) (h : [Part.security, .sessions] ⊆ L) (p) : Kept L s (t.endLevel p) := by
  refine k.within h fun k => ?_
  unfold State.endLevel
  refine Kept.foldl k (fun u a ku => ?_)
  split
  · exact (ku.endSession (by decide) _).ite ku
  · exact ku

theorem Kept.claimOwner (k : Kept L s t) (h : reporting [] ⊆ L) (c) : Kept L s (t.claimOwner c) := by
  refine k.within h fun k => ?_
  unfold State.claimOwner
  dsimp only
  split
  · exact k.fstatus _
  · split
    · exact (((k.draw (by decide)).withSec (by decide) _).event (by decide) _ _ _ _).fstatus _
    · exact ((k.draw (by decide)).withSec (by decide) _).refuseRecord (by decide) _ _ _ _

theorem Kept.ownerRecord (k : Kept L s t) (h : reporting [] ⊆ L) (r zeroOk ok) {f : State → State}
    (hf : ∀ u, Kept L s u → Kept L s (f u)) : Kept L s (t.ownerRecord r zeroOk ok f) := by
  unfold State.ownerRecord
  split
  · exact (hf _ (k.withSec (List.Subset.trans (by decide) h) _)).fstatus _
  · exact k.refuseRecord h _ _ _ _

theorem Kept.release (k : Kept L s t) (h : reporting [.panelState, .anatomy, .stackMem, .commonsMem, .spadMem,
    .tiles, .engines, .contexts, .stacks, .network, .fabric, .clocks, .power, .recovery] ⊆ L) :
    Kept L s (t.release) := by
  refine k.step ?_ h
  have h0 : Kept (reporting [.panelState, .anatomy, .stackMem, .commonsMem, .spadMem, .tiles, .engines, .contexts,
      .stacks, .network, .fabric, .clocks, .power, .recovery]) t t.closeAll := Kept.refl.closeAll (by decide)
  unfold State.release
  generalize t.closeAll = u at h0 ⊢
  refine Kept.endLevel (Kept.event (h0.trans ?_) (by decide) _ _ _ _) (by decide) _
  refine ⟨fun p hp => ?_, id⟩
  cases p <;> simp [State.same, reporting, reports] at hp ⊢

theorem Kept.recRelease (k : Kept L s t) (h : reporting [.panelState, .anatomy, .stackMem, .commonsMem, .spadMem,
    .tiles, .engines, .contexts, .stacks, .network, .fabric, .clocks, .power, .recovery] ⊆ L) (h') :
    Kept L s (t.recRelease h') :=
  k.within h fun k => (k.fstatus _).ite (k.ownerRecord (by decide) _ _ _ (fun u ku => ku.release (by decide)))

theorem Kept.recKeyAdd (k : Kept L s t) (h : reporting [] ⊆ L) (h' k') : Kept L s (t.recKeyAdd h' k') :=
  k.within h fun k => k.ownerRecord (by decide) _ _ _ (fun u ku => ku.withSec (by decide) _)

theorem Kept.recKeyRemove (k : Kept L s t) (h : reporting [] ⊆ L) (h' id) : Kept L s (t.recKeyRemove h' id) :=
  k.within h fun k => k.ownerRecord (by decide) _ _ _ (fun u ku => ku.withSec (by decide) _)

theorem Kept.recKeyPrimary (k : Kept L s t) (h : reporting [] ⊆ L) (h' id) : Kept L s (t.recKeyPrimary h' id) :=
  k.within h fun k => k.ownerRecord (by decide) _ _ _ (fun u ku => ku.withSec (by decide) _)

theorem Kept.recImageKey (k : Kept L s t) (h : reporting [] ⊆ L) (h' key) : Kept L s (t.recImageKey h' key) :=
  k.within h fun k => k.ownerRecord (by decide) _ _ _ (fun u ku => ku.withSec (by decide) _)

theorem Kept.recUpdateApprove (k : Kept L s t) (h : reporting [] ⊆ L) (h' component digest) :
    Kept L s (t.recUpdateApprove h' component digest) :=
  k.within h fun k => k.ownerRecord (by decide) _ _ _ (fun u ku => ku.withSec (by decide) _)

theorem Kept.recOperatorGeneration (k : Kept L s t) (h : reporting [] ⊆ L) (h' g) :
    Kept L s (t.recOperatorGeneration h' g) :=
  k.within h fun k => k.ownerRecord (by decide) _ _ _ (fun u ku => ku.withSec (by decide) _)

theorem Kept.revokeSlot (k : Kept L s t) (h : reporting [] ⊆ L) (r) : Kept L s (t.revokeSlot r) := by
  refine k.within h fun k => ?_
  unfold State.revokeSlot
  dsimp only
  split
  · exact k.refuseRecord (by decide) _ _ _ _
  · split
    · exact k.refuseRecord (by decide) _ _ _ _
    · exact (k.withSec (by decide) _).fstatus _

theorem Kept.aliasCert (k : Kept L s t) (h : [Part.freeValues] ⊆ L) : Kept L s (t.aliasCert).2 :=
  k.within h fun k => (k.freeBytes (by decide) _).freeBytes (by decide) _

theorem Kept.attestReport (k : Kept L s t) (h : [Part.freeValues] ⊆ L) (nonce kind c) :
    Kept L s (t.attestReport nonce kind c).2 :=
  k.within h fun k => (k.aliasCert (by decide)).freeBytes (by decide) _

theorem Kept.attest (k : Kept L s t) (h : [Part.counters, .security, .freeValues] ⊆ L) (session level nonce kind c) :
    Kept L s (t.attest session level nonce kind c) := by
  refine k.within h fun k => ?_
  unfold State.attest
  dsimp only
  split
  · exact k.fstatus _
  · split
    · exact k.fstatus _
    · exact (((k.attestReport (by decide) _ _ _).withSec (by decide) _).count (by decide) _ _ _ _).fstatus _

theorem Kept.offer (k : Kept L s t) (h : [Part.contexts, .security, .freeValues] ⊆ L) (c) : Kept L s (t.offer c) := by
  refine k.within h fun k => ?_
  unfold State.offer
  dsimp only
  split
  · exact (((k.draw (by decide)).withFreeCount (by decide) _).modCtx (by decide) _ _).fstatus _
  · exact (((k.draw (by decide)).withFreeCount (by decide) _).modCtx (by decide) _ _).fstatus _
  · exact k.fstatus _

theorem Kept.acceptCtx (k : Kept L s t) (h : reporting [.contexts] ⊆ L) (c a) : Kept L s (t.acceptCtx c a) :=
  k.within h fun k => (((((k.draw (by decide)).draw (by decide)).modCtx (by decide) _ _).count (by decide) _ _ _
      _).fstatus _).ite (k.refuseIn (by decide) _ _ _ _ _)

theorem Kept.keyLoad (k : Kept L s t) (h : reporting [.contexts] ⊆ L) (c k') : Kept L s (t.keyLoad c k') :=
  k.within h fun k => ((k.modCtx (by decide) _ _).fstatus _).ite (k.refuseIn (by decide) _ _ _ _ _)

theorem Kept.beginClose (k : Kept L s t) (h : reporting [.contexts, .fabric] ⊆ L) (c) :
    Kept L s (t.beginClose c) := by
  refine k.within h fun k => ?_
  unfold State.beginClose
  refine Kept.ite (k.fstatus _) ?_
  split
  · exact (((k.modCtx (by decide) _ _).count (by decide) _ _ _ _).event (by decide) _ _ _ _).fstatus _
  · exact (((k.haltCtx (by decide) _).dropFills (by decide) _).modCtx (by decide) _ _).fstatus _
  · exact k.fstatus _

theorem Kept.debugTok (k : Kept L s t) (h : reporting [.panelState, .anatomy, .stackMem, .commonsMem, .spadMem,
    .tiles, .engines, .contexts, .stacks, .network, .fabric, .power, .recovery] ⊆ L) (t') :
    Kept L s (t.debugTok t') := by
  refine k.within h fun k => ?_
  have hd : Kept (reporting [.panelState, .anatomy, .stackMem, .commonsMem, .spadMem, .tiles, .engines, .contexts,
      .stacks, .network, .fabric, .power, .recovery]) t t.draw.2 := k.draw (by decide)
  unfold State.debugTok
  generalize t.draw = r at hd ⊢
  obtain ⟨n, u⟩ := r
  dsimp only
  split
  · exact k.fstatus _
  split
  · refine (Kept.event (Kept.withSec ?_ (by decide) _) (by decide) _ _ _ _).fstatus _
    exact Kept.closeAll (Kept.withSec hd (by decide) _) (by decide)
  · exact Kept.refuseRecord (Kept.withSec hd (by decide) _) (by decide) _ _ _ _

theorem Kept.writeOwnerRecord (k : Kept L s t) (h : reporting [.panelState, .anatomy, .stackMem, .commonsMem,
    .spadMem, .tiles, .engines, .contexts, .stacks, .network, .fabric, .clocks, .power, .recovery] ⊆ L) (d) :
    Kept L s (t.writeOwnerRecord d) := by
  refine k.within h fun k => ?_
  unfold State.writeOwnerRecord
  dsimp only
  split
  · exact k.refuseRecord (by decide) _ _ _ _
  · split
    · exact k.recRelease (by decide) _
    · exact k.recKeyAdd (by decide) _ _
    · exact k.recKeyRemove (by decide) _ _
    · exact k.recKeyPrimary (by decide) _ _
    · exact k.recImageKey (by decide) _ _
    · exact k.recUpdateApprove (by decide) _ _ _
    · exact k.recOperatorGeneration (by decide) _ _

theorem Kept.modTpdo (k : Kept L s t) (h : [Part.sessions] ⊆ L) (n f) : Kept L s (t.modTpdo n f) :=
  k.within h fun k => k.withMgmt (by decide) _

theorem Kept.modRpdo (k : Kept L s t) (h : [Part.sessions] ⊆ L) (n f) : Kept L s (t.modRpdo n f) :=
  k.within h fun k => k.withMgmt (by decide) _

theorem Kept.setRate (k : Kept L s t) (h : [Part.sessions] ⊆ L) (c n rate) : Kept L s (t.setRate c n rate) :=
  k.within h fun k => ((k.modTpdo (by decide) _ _).fstatus _).ite ((k.fstatus _).ite ((k.modTpdo (by decide) _
      _).fstatus _))

theorem Kept.setTmap (k : Kept L s t) (h : [Part.sessions] ⊆ L) (c n m) : Kept L s (t.setTmap c n m) :=
  k.within h fun k => (k.fstatus _).ite ((k.fstatus _).ite ((k.modTpdo (by decide) _ _).fstatus _))

theorem Kept.setRmap (k : Kept L s t) (h : [Part.sessions] ⊆ L) (c n m) : Kept L s (t.setRmap c n m) :=
  k.within h fun k => ((k.modRpdo (by decide) _ _).fstatus _).ite ((k.fstatus _).ite ((k.fstatus _).ite ((k.modRpdo
      (by decide) _ _).fstatus _)))

theorem Kept.setMask (k : Kept L s t) (h : [Part.sessions] ⊆ L) (n v) : Kept L s (t.setMask n v) := by
  refine k.within h fun k => ?_
  unfold State.setMask
  split
  · exact (k.setSession (by decide) _ _).fstatus _
  · exact k.fstatus _

theorem Kept.ackAlert (k : Kept L s t) (h : [Part.faultLog] ⊆ L) (v) : Kept L s (t.ackAlert v) := by
  refine k.within h fun k => ?_
  unfold State.ackAlert
  refine Kept.fstatus ?_ _
  dsimp only
  split
  · exact k.withLog (by decide) _
  · exact k

theorem Kept.clearLog (k : Kept L s t) (h : [Part.faultLog] ⊆ L) (v) : Kept L s (t.clearLog v) := by
  refine k.within h fun k => ?_
  unfold State.clearLog
  refine Kept.fstatus ?_ _
  dsimp only
  split
  · exact k.withLog (by decide) _
  · exact k

theorem Kept.withStart (k : Kept L s t) (h : [Part.freeValues] ⊆ L) {f : State → StartIn → State}
    (hf : ∀ u i, Kept L s u → Kept L s (f u i)) : Kept L s (t.withStart f) :=
  hf _ _ (k.withFreeCount h _)

theorem Kept.panelCmd (k : Kept L s t) (h : reporting [.panelState, .time, .anatomy, .objects, .counterTimes,
    .stackMem, .commonsMem, .spadMem, .tiles, .engines, .contexts, .stacks, .network, .fabric, .clocks, .power,
    .thermal, .starts, .recovery, .pins, .freeValues] ⊆ L) (v) :
    Kept L s (t.panelCmd v) := by
  refine k.within h fun k => ?_
  unfold State.panelCmd
  split
  · exact k.withStart (by decide) (fun u a ku => ku.coldStart (by decide) _)
  · exact k.withStart (by decide) (fun u a ku => ku.warmStart (by decide) _)
  · exact k.powerOff (by decide)
  · exact k.safeCmd (by decide)
  · exact k.selftest (by decide)
  · exact k.calibrate (by decide)
  · exact k.update (by decide)

theorem Kept.graphWrite (k : Kept L s t) (h : (.freeValues :: accessReach) ⊆ L) (c v) :
    Kept L s (t.graphWrite c v) := by
  refine k.within h fun k => ?_
  unfold State.graphWrite
  split
  · exact k.switchDrain (by decide) _
  · exact k.switchFlush (by decide) _
  · exact k.rollbackCmd (by decide) _
  · exact k.haltCmd (by decide) _
  · exact k.resumeCmd (by decide) _
  · exact k.suspendCmd (by decide) _
  · exact k.reinstate (by decide) _

theorem Kept.keep (k : Kept L s t) (h : [Part.objects] ⊆ L) (index sub v) : Kept L s (t.keep index sub v) :=
  k.within h fun k => (k.setObj (by decide) _ _ _).fstatus _

theorem Kept.store (k : Kept L s t) (h : [Part.storedObjects] ⊆ L) (index sub v) : Kept L s (t.store index sub v) :=
  k.within h fun k => (k.withStored (by decide) _).fstatus _

theorem Kept.putValue (k : Kept L s t) (h : reporting [.panelState, .time, .anatomy, .objects, .storedObjects,
    .counterTimes, .stackMem, .commonsMem, .spadMem, .tiles, .engines, .contexts, .stacks, .network, .fabric,
    .clocks, .power, .thermal, .starts, .recovery, .pins, .freeValues] ⊆ L) (c index sub v) :
    Kept L s (t.putValue c index sub v) := by
  refine k.within h fun k => ?_
  unfold State.putValue
  dsimp only
  split
  · exact k.store (by decide) _ _ _
  · exact k.store (by decide) _ _ _
  · exact k.store (by decide) _ _ _
  · exact k.store (by decide) _ _ _
  · exact k.store (by decide) _ _ _
  · exact k.setMask (by decide) _ _
  · exact k.setRate (by decide) _ _ _
  · exact k.panelCmd (by decide) _
  · exact ((k.setObj (by decide) _ _ _).withRecov (by decide) _).fstatus _
  · exact (k.modCtx (by decide) _ _).fstatus _
  · exact k.graphWrite (by decide) _ _
  · exact ((k.setObj (by decide) _ _ _).mapUnits (by decide) _ _).fstatus _
  · exact ((k.setObj (by decide) _ _ _).mapUnits (by decide) _ _).fstatus _
  · exact k.fillCmd (by decide) _ _
  · exact k.coolantSample (by decide) _ _
  · exact k.clearMinMv (by decide) _
  · exact k.clearField (by decide) _
  · split
    · exact k.withStart (by decide) (fun u a ku => ku.activateFw (by decide) _)
    · exact k.discard (by decide)
  · split
    · exact k.offer (by decide) _
    · exact k.beginClose (by decide) _
  · exact k.clearLog (by decide) _
  · exact k.ackAlert (by decide) _
  · exact k.quenchCmd (by decide) _
  · exact k.sramDump (by decide) _
  · split
    · exact k.clearSet (by decide) _ _
    · exact k.keep (by decide) _ _ _

theorem Kept.putDomain (k : Kept L s t) (h : reporting [.panelState, .anatomy, .stackMem, .commonsMem, .spadMem,
    .tiles, .engines, .contexts, .stacks, .network, .fabric, .clocks, .power, .thermal, .starts, .recovery,
    .freeValues] ⊆ L) (c index sub d) :
    Kept L s (t.putDomain c index sub d) := by
  refine k.within h fun k => ?_
  unfold State.putDomain
  dsimp only
  split
  · exact (k.fstatus _).ite (k.setTmap (by decide) _ _ _)
  · exact (k.fstatus _).ite (k.setRmap (by decide) _ _ _)
  · exact k.loadManifest (by decide) _ _
  · exact (k.fstatus _).ite ((k.modCtx (by decide) _ _).fstatus _)
  · exact (k.takeForecast (by decide) _).ite (k.fstatus _)
  · exact k.writeCal (by decide) _
  · exact k.claimOwner (by decide) _
  · exact k.writeOwnerRecord (by decide) _
  · exact k.revokeSlot (by decide) _
  · exact (k.fstatus _).ite (k.stageFw (by decide) _)
  · exact (k.attest (by decide) _ _ _ _ _).ite (k.fstatus _)
  · exact k.acceptCtx (by decide) _ _
  · exact k.keyLoad (by decide) _ _
  · exact k.debugTok (by decide) _

theorem Kept.writeObj (k : Kept L s t) (h : reporting [.panelState, .time, .anatomy, .objects, .storedObjects,
    .counterTimes, .stackMem, .commonsMem, .spadMem, .tiles, .engines, .contexts, .stacks, .network, .fabric,
    .clocks, .power, .thermal, .starts, .recovery, .pins, .freeValues] ⊆ L) (c index sub v) :
    Kept L s (t.writeObj c index sub v) := by
  refine k.within h fun k => ?_
  unfold State.writeObj
  split
  · exact k.fstatus _
  · split
    · exact (k.fstatus _).ite (k.putDomain (by decide) _ _ _ _)
    · exact (k.fstatus _).ite ((k.fstatus _).ite (k.putValue (by decide) _ _ _ _))

theorem Kept.malformed (k : Kept L s t) (h : [Part.counters] ⊆ L) (channel) : Kept L s (t.malformed channel) :=
  k.within h fun k => (k.count (by decide) _ _ _ _).turnAway

theorem Kept.tagFailed (k : Kept L s t) (h : reporting [] ⊆ L) (channel) : Kept L s (t.tagFailed channel) := by
  refine k.within h fun k => ?_
  unfold State.tagFailed
  refine Kept.turnAway ?_
  dsimp only
  split
  · exact ((k.count (by decide) _ _ _ _).withMgmt (by decide) _).event (by decide) _ _ _ _
  · exact (k.count (by decide) _ _ _ _).withMgmt (by decide) _

theorem Kept.frameHere (k : Kept L s t) (h : [Part.hostSites] ⊆ L) (channel) : Kept L s (t.frameHere channel) :=
  k.within h fun k => k.ite (k.frameTaken (by decide) _)

theorem Kept.frameIn (k : Kept L s t) (h : reporting [] ⊆ L) (h' kind) : Kept L s (t.frameIn h' kind).1 := by
  refine k.within h fun k => ?_
  unfold State.frameIn
  dsimp only
  split
  · exact (k.frameHere (by decide) _).turnAway
  · split
    · exact (k.frameHere (by decide) _).malformed (by decide) _
    · split
      · exact (k.frameHere (by decide) _).malformed (by decide) _
      · split
        · exact (k.frameHere (by decide) _).malformed (by decide) _
        · split
          · exact (k.frameHere (by decide) _).tagFailed (by decide) _
          · split
            · exact ((k.frameHere (by decide) _).endSession (by decide) _).malformed (by decide) _
            · split
              · split
                · exact ((k.frameHere (by decide) _).setSession (by decide) _ _).count (by decide) _ _ _ _
                · exact ((k.frameHere (by decide) _).count (by decide) _ _ _ _).turnAway
              · exact ((k.frameHere (by decide) _).setSession (by decide) _ _).count (by decide) _ _ _ _

theorem Kept.lastFrameEnds (k : Kept L s t) (h : [Part.security, .sessions] ⊆ L) (h') :
    Kept L s (t.lastFrameEnds h') := by
  refine k.within h fun k => ?_
  unfold State.lastFrameEnds
  dsimp only
  split
  · exact (k.endSession (by decide) _).withAnswer _
  · exact k

theorem Kept.respond (k : Kept L s t) (h : [Part.counters, .security, .hostSites, .sessions, .messages] ⊆ L)
    (n req index sub st d) :
    Kept L s (t.respond n req index sub st d) := by
  refine k.within h fun k => ?_
  unfold State.respond
  dsimp only
  split
  · exact k
  · exact (((k.setSession (by decide) _ _).channelOut (by decide) _ _ _ _ _ _).endSession (by decide) _).ite
        ((k.setSession (by decide) _ _).channelOut (by decide) _ _ _ _ _ _)

theorem Kept.request (k : Kept L s t) (h : reporting [] ⊆ L) (x kind index sub)
    {f : State → Session → State × FStatus × Bytes} (hf : ∀ u y, Kept L s u → Kept L s (f u y).1) :
    Kept L s (t.request x kind index sub f) := by
  have hs := k.frameIn h x kind
  unfold State.request
  extract_lets n
  split
  next heq => exact hs.fst heq
  next heq =>
    exact (Kept.channelOut ((hs.fst heq).count (List.Subset.trans (by decide) h) _ _ _ _) (List.Subset.trans
        (by decide) h)
      _ _ _ _ _ _).ok
  next u y heq =>
    have hu := hs.fst heq
    extract_lets r v
    have hv : Kept L s v := by
      unfold v
      split
      · exact (hf u y hu).respond (List.Subset.trans (by decide) h) _ _ _ _ _ _
      · exact hf _ _ (hu.respond (List.Subset.trans (by decide) h) _ _ _ _ _ _)
    exact (hv.withAnswer _).lastFrameEnds (List.Subset.trans (by decide) h) _

theorem Kept.fragments (k : Kept L s t) (h : [Part.counters, .hostSites, .messages] ⊆ L) (channel session m) :
    Kept L s (t.fragments channel session m) :=
  k.within h fun k => k.foldl (fun u a ku => ku.channelOut (by decide) _ _ _ _ _ _)

theorem Kept.sessionKeys (k : Kept L s t) (h : [Part.freeValues] ⊆ L) (hello reply) :
    Kept L s (t.sessionKeys hello reply).2 :=
  k.within h fun k => k.freeBytes (by decide) _

theorem Kept.helloReply (k : Kept L s t) (h : [Part.security, .freeValues] ⊆ L) (n) : Kept L s (t.helloReply n).2 :=
  k.within h fun k => (((k.draw (by decide)).freeBytes (by decide) _).aliasCert (by decide)).freeBytes (by decide) _

theorem Kept.setXfer (k : Kept L s t) (h : [Part.sessions] ⊆ L) (n y) : Kept L s (t.setXfer n y) := by
  refine k.within h fun k => ?_
  unfold State.setXfer
  split
  · exact k.setSession (by decide) _ _
  · exact k

theorem Kept.readReq (k : Kept L s t) (h : [Part.security, .sessions, .freeValues] ⊆ L) (n x index sub) :
    Kept L s (t.readReq n x index sub).1 := by
  refine k.within h fun k => ?_
  unfold State.readReq
  dsimp only
  split
  · exact k
  · split
    · exact k
    · split
      · split
        · exact k.readSlot (by decide) _
        · split
          · split
            · exact k
            · exact (k.readSlot (by decide) _).setXfer (by decide) _ _
          · split
            · exact k
            · exact (k.readSlot (by decide) _).setXfer (by decide) _ _
      · split
        · dsimp only
          split
          · exact k
          · split
            · exact k
            · exact k.setXfer (by decide) _ _
        · dsimp only
          split
          · exact k
          · split
            · exact k
            · exact k.setXfer (by decide) _ _

theorem Kept.expire (k : Kept L s t) (h : [Part.counters, .sessions] ⊆ L) (n x y) : Kept L s (t.expire n x y) :=
  k.within h fun k => (k.setXfer (by decide) _ _).count (by decide) _ _ _ _

theorem Kept.segment (k : Kept L s t) (h : [Part.counters, .sessions] ⊆ L) (n x index sub write) :
    Kept L s (t.segment n x index sub write).1 := by
  refine k.within h fun k => ?_
  unfold State.segment
  split
  · exact k
  · split
    · exact k
    · split
      · exact k
      · split
        · exact k.setXfer (by decide) _ _
        · split
          · exact (k.expire (by decide) _ _ _).setXfer (by decide) _ _
          · exact k

theorem Kept.segReadReq (k : Kept L s t) (h : [Part.counters, .sessions] ⊆ L) (n x index sub off) :
    Kept L s (t.segReadReq n x index sub off).1 := by
  refine k.within h fun k => ?_
  unfold State.segReadReq
  dsimp only
  split
  next heq =>
    exact (k.segment (by decide) _ _ _ _ _).fst heq
  next heq =>
    split
    · exact ((k.segment (by decide) _ _ _ _ _).fst heq).setXfer (by decide) _ _
    · split
      · exact ((k.segment (by decide) _ _ _ _ _).fst heq).setXfer (by decide) _ _
      · exact ((k.segment (by decide) _ _ _ _ _).fst heq).setXfer (by decide) _ _

theorem Kept.commit (k : Kept L s t) (h : reporting [.panelState, .time, .anatomy, .objects, .storedObjects,
    .counterTimes, .stackMem, .commonsMem, .spadMem, .tiles, .engines, .contexts, .stacks, .network, .fabric,
    .clocks, .power, .thermal, .starts, .recovery, .pins, .freeValues] ⊆ L) (n x index sub v) :
    Kept L s (t.commit n x index sub v).1 := by
  refine k.within h fun k => ?_
  unfold State.commit
  dsimp only
  split
  · exact k.writeObj (by decide) _ _ _ _
  · exact k.writeObj (by decide) _ _ _ _

theorem Kept.writeReq (k : Kept L s t) (h : reporting [.panelState, .time, .anatomy, .objects, .storedObjects,
    .counterTimes, .stackMem, .commonsMem, .spadMem, .tiles, .engines, .contexts, .stacks, .network, .fabric,
    .clocks, .power, .thermal, .starts, .recovery, .pins, .freeValues] ⊆ L) (n x index sub v) :
    Kept L s (t.writeReq n x index sub v).1 := by
  refine k.within h fun k => ?_
  unfold State.writeReq
  dsimp only
  split
  · exact k.commit (by decide) _ _ _ _ _
  · split
    · exact k
    · split
      · exact k
      · split
        · exact k
        · split
          · dsimp only
            split
            · exact (k.commit (by decide) _ _ _ _ _).setXfer (by decide) _ _
            · exact k.commit (by decide) _ _ _ _ _
          · exact k.setXfer (by decide) _ _

theorem Kept.segWriteReq (k : Kept L s t) (h : reporting [.panelState, .time, .anatomy, .objects, .storedObjects,
    .counterTimes, .stackMem, .commonsMem, .spadMem, .tiles, .engines, .contexts, .stacks, .network, .fabric,
    .clocks, .power, .thermal, .starts, .recovery, .pins, .freeValues] ⊆ L) (n x index sub off d) :
    Kept L s (t.segWriteReq n x index sub off d).1 := by
  refine k.within h fun k => ?_
  unfold State.segWriteReq
  dsimp only
  split
  next heq =>
    exact (k.segment (by decide) _ _ _ _ _).fst heq
  next heq =>
    split
    · exact ((k.segment (by decide) _ _ _ _ _).fst heq).setXfer (by decide) _ _
    · split
      · exact (((k.segment (by decide) _ _ _ _ _).fst heq).setXfer (by decide) _ _).commit (by decide) _ _ _ _ _
      · exact ((k.segment (by decide) _ _ _ _ _).fst heq).setXfer (by decide) _ _

theorem Kept.segAbortReq (k : Kept L s t) (h : [Part.sessions] ⊆ L) (n x index sub) :
    Kept L s (t.segAbortReq n x index sub).1 := by
  refine k.within h fun k => ?_
  unfold State.segAbortReq
  split
  · exact k
  · split
    · exact k
    · split
      · exact k
      · split
        · split
          · exact k
          · exact k.setXfer (by decide) _ _
        · split
          · exact k
          · exact k.setXfer (by decide) _ _

theorem Kept.applyPdo (k : Kept L s t) (h : reporting [.panelState, .time, .anatomy, .objects, .storedObjects,
    .counterTimes, .stackMem, .commonsMem, .spadMem, .tiles, .engines, .contexts, .stacks, .network, .fabric,
    .clocks, .power, .thermal, .starts, .recovery, .pins, .freeValues] ⊆ L) (c channel d l) :
    Kept L s (t.applyPdo c channel d l) := by
  suffices H : ∀ u, Kept (reporting [.panelState, .time, .anatomy, .objects, .storedObjects, .counterTimes,
      .stackMem, .commonsMem, .spadMem, .tiles, .engines, .contexts, .stacks, .network, .fabric, .clocks, .power,
      .thermal, .starts, .recovery, .pins, .freeValues]) t u → Kept (reporting [.panelState, .time, .anatomy,
      .objects, .storedObjects, .counterTimes, .stackMem, .commonsMem, .spadMem, .tiles, .engines, .contexts,
      .stacks, .network, .fabric, .clocks, .power, .thermal, .starts, .recovery, .pins, .freeValues]) t (u.applyPdo c
      channel d l) from k.step (H t Kept.refl) h
  induction l generalizing c channel d with
  | nil =>
    intro u ku
    unfold State.applyPdo
    exact ku
  | cons a l ih =>
    intro u ku
    unfold State.applyPdo
    exact ih _ _ _ _ ((ku.writeObj (by decide) _ _ _ _).ite ((ku.writeObj (by decide) _ _ _ _).count (by decide) _ _
        _ _))

theorem Kept.sessionWrite (k : Kept L s t) (h : reporting [.panelState, .time, .anatomy, .objects, .storedObjects,
    .counterTimes, .stackMem, .commonsMem, .spadMem, .tiles, .engines, .contexts, .stacks, .network, .fabric,
    .clocks, .power, .thermal, .starts, .recovery, .pins, .freeValues] ⊆ L) (session index sub v) :
    Kept L s (t.sessionWrite session index sub v) := by
  refine k.within h fun k => ?_
  unfold State.sessionWrite
  split
  · exact k.writeObj (by decide) _ _ _ _
  · exact k.turnAway

theorem Kept.setPorts (k : Kept L s t) (h : [Part.sessions] ⊆ L) (v) : Kept L s (t.setPorts v) :=
  k.within h fun k => k.withMgmt (by decide) _

theorem Kept.loseStandby (k : Kept L s t) (h : clearReach ⊆ L) (aux p0 p1) : Kept L s (t.loseStandby aux p0 p1) := by
  refine k.step ?_ h
  unfold State.loseStandby
  extract_lets e u _ v
  have hv : Kept clearReach t v := by
    unfold v
    split
    · exact Kept.refl
    · exact (Kept.refl.goOff (by decide)).withLog (by decide) _
  clear_value v
  refine hv.trans ⟨fun p hp => ?_, id⟩
  cases p <;> simp [State.same, clearReach] at hp ⊢

theorem Kept.applyProbed (k : Kept L s t) (h : reporting [.anatomy, .commonsMem, .tiles, .engines, .contexts,
    .network, .fabric, .power, .recovery] ⊆ L) (n) :
    Kept L s (t.applyProbed n) := by
  induction n generalizing t with
  | zero => exact k
  | succ n ih =>
    unfold State.applyProbed
    split
    · exact k
    · exact ih (Kept.dieFail (k.withRecov (List.Subset.trans (by decide) h) _) (List.Subset.trans (by decide) h) _ _
        _)

theorem Kept.mapRecovery (k : Kept L s t) (h : [Part.recovery] ⊆ L) (c p f) : Kept L s (t.mapRecovery c p f) :=
  k.within h fun k => k.withRecov (by decide) _

theorem Kept.failRestore (k : Kept L s t) (h : reporting [.contexts, .recovery] ⊆ L) (c die code detail) :
    Kept L s (t.failRestore c die code detail) :=
  k.within h fun k => (((k.fault (by decide) _ _ _ _).haltCtx (by decide) _).modCtx (by decide) _ _).mapRecovery
      (by decide) _ _ _

theorem Kept.replaySync (k : Kept L s t) (h : [Part.counters, .network, .fabric, .messages] ⊆ L) (c) :
    Kept L s (t.replaySync c) := by
  refine k.within h fun k => ?_
  unfold State.replaySync
  refine Kept.foldl k (fun u a ku => ?_)
  split
  · exact (ku.syncArrive (by decide) _ _).ite ((ku.syncFetchAdd (by decide) _ _).ite (ku.syncCas (by decide) _ _))
  · exact ku

theorem Kept.copyBank (k : Kept L s t) (h : reporting [.anatomy, .stackMem, .commonsMem, .tiles, .engines, .contexts,
    .stacks, .network, .fabric, .power, .recovery] ⊆ L) (m b) :
    Kept L s (t.copyBank m b) := by
  refine k.step ?_ h
  unfold State.copyBank
  extract_lets o x lines torn untagged s1 cells s2 s3 s4 _ s5 s6 s7
  have h1 : Kept (reporting [.anatomy, .stackMem, .commonsMem, .tiles, .engines, .contexts, .stacks, .network,
      .fabric, .power, .recovery]) t s1 := Kept.refl.openRaw (by decide) _ _
  have h2 : Kept (reporting [.anatomy, .stackMem, .commonsMem, .tiles, .engines, .contexts, .stacks, .network,
      .fabric, .power, .recovery]) t s2 := (h1.zeroBank (by decide) _ _).modStack (by decide) _ _
  have h3 : Kept (reporting [.anatomy, .stackMem, .commonsMem, .tiles, .engines, .contexts, .stacks, .network,
      .fabric, .power, .recovery]) t s3 := h2.withStackMem (by decide) _ (wf_layCells _ _ _)
  have h4 : Kept (reporting [.anatomy, .stackMem, .commonsMem, .tiles, .engines, .contexts, .stacks, .network,
      .fabric, .power, .recovery]) t s4 := by
    unfold s4
    split
    · exact h3.modCtx (by decide) _ _
    · exact h3
  have h5 : Kept (reporting [.anatomy, .stackMem, .commonsMem, .tiles, .engines, .contexts, .stacks, .network,
      .fabric, .power, .recovery]) t s5 := h4.withRecov (by decide) _
  have h6 : Kept (reporting [.anatomy, .stackMem, .commonsMem, .tiles, .engines, .contexts, .stacks, .network,
      .fabric, .power, .recovery]) t s6 := h5.ite (h5.count (by decide) _ _ _ _)
  have h7 : Kept (reporting [.anatomy, .stackMem, .commonsMem, .tiles, .engines, .contexts, .stacks, .network,
      .fabric, .power, .recovery]) t s7 := h6.ite (h6.count (by decide) _ _ _ _)
  exact h7.noteBadLines (by decide) _ _

theorem Kept.dropBanks (k : Kept L s t) (h : [Part.stacks] ⊆ L) (k') : Kept L s (t.dropBanks k') :=
  k.within h fun k => k.foldl (fun u a ku => ku.passBank (by decide) _ _ _)

theorem Kept.relocate (k : Kept L s t) (h : reporting [.anatomy, .tiles, .engines, .contexts, .stacks, .recovery] ⊆ L)
    (ms die l) :
    Kept L s (t.relocate ms die l) := by
  refine k.step ?_ h
  unfold State.relocate
  extract_lets pairs holders since late s1 s2 s3 done _ _ s4
  have h1 : Kept (reporting [.anatomy, .tiles, .engines, .contexts, .stacks, .recovery]) t s1 := Kept.refl.foldl
      fun u c ku =>
    ((ku.mapUnits (by decide) _ _).dropUnsettled (by decide) _).relocateCtx (by decide) _ _
  have h2 : Kept (reporting [.anatomy, .tiles, .engines, .contexts, .stacks, .recovery]) t s2 := h1.foldl fun u m ku
      => ku.dropBanks (by decide) _
  have h3 : Kept (reporting [.anatomy, .tiles, .engines, .contexts, .stacks, .recovery]) t s3 := h2.foldl fun u c ku
      => ku.mapRecovery (by decide) _ _ _
  clear_value s3
  have h4 : Kept (reporting [.anatomy, .tiles, .engines, .contexts, .stacks, .recovery]) t s4 := by
    refine h3.trans ⟨fun p hp => ?_, id⟩
    cases p <;> simp [State.same, reporting, reports, s4] at hp ⊢
  exact (h4.count (by decide) _ _ _ _).event (by decide) _ _ _ _

theorem Kept.orFree (k : Kept L s t) (h : [Part.freeValues] ⊆ L) (n b) : Kept L s (t.orFree n b).2 := by
  refine k.within h fun k => ?_
  unfold State.orFree
  split
  · exact k
  · exact k.freeBytes (by decide) _

theorem Kept.marginBytes (k : Kept L s t) (h : [Part.freeValues] ⊆ L) : Kept L s (t.marginBytes).2 :=
  k.within h fun k => (((k.orFree (by decide) _ _).orFree (by decide) _ _).orFree (by decide) _ _).orFree (by decide)
      _ _

theorem Kept.frameFails (k : Kept L s t) (h : reporting [.recovery] ⊆ L) (point e) :
    Kept L s (t.frameFails point e) :=
  k.within h fun k => ((k.withRecov (by decide) _).event (by decide) _ _ _ _).count (by decide) _ _ _ _

theorem Kept.framePasses (k : Kept L s t) (h : reporting [.recovery] ⊆ L) : Kept L s (t.framePasses) := by
  refine k.step ?_ h
  unfold State.framePasses
  extract_lets _ s1
  have h1 : Kept (reporting [.recovery]) t s1 := Kept.count (Kept.refl.withRecov (by decide) _) (by decide) _ _ _ _
  split
  · exact Kept.event (h1.withRecov (by decide) _) (by decide) _ _ _ _
  · exact h1

theorem Kept.comparePoint (k : Kept L s t) (h : reporting [.recovery] ⊆ L) (point frame e) :
    Kept L s (t.comparePoint point frame e) := by
  refine k.within h fun k => ?_
  unfold State.comparePoint
  extract_lets ok seen failedBefore now complete _ s1
  have h1 : Kept (reporting [.recovery]) t s1 := k.withRecov (by decide) _
  exact (h1.ite (h1.frameFails (by decide) _ _)).ite ((h1.framePasses (by decide)).ite h1)

end Sys2Proof.Machine

/-! PROOF. What each command changes: no part but those that `frameOf` lists for it. First the engine operations, whose units
change what an access anywhere may change. -/

namespace Sys2Proof.Machine

open Sys2Proof

variable {L M : List Part} {s t u : State}

theorem rowOp_keeps {c : List W64 → Nat} {f : EngW → List W64 → Nat → State → State × Option Stop}
    (hf : ∀ w x i t, Kept accessReach t (f w x i t).1) : (rowOp c f).Keeps := fun w x i _ t => hf w x i t

theorem elemOp_keeps {r : Nat} {f : EngW → List W64 → Nat → Nat → State → State × Option Stop}
    (hf : ∀ w x i m t, Kept accessReach t (f w x i m t).1) : (elemOp r f).Keeps := fun w x _ _ t => hf w x _ _ t

theorem wholeOp_keeps {c : List W64 → Nat} {f : EngW → List W64 → State → State × Nat × Option Stop}
    (hf : ∀ w x t, Kept accessReach t (f w x t).1) : (wholeOp c f).Keeps := fun w x _ _ t => hf w x t

theorem sign1Op_keeps {f : EngW → List W64 → Nat → Nat → State → State × Option Stop}
    (hf : ∀ w x i m t, Kept accessReach t (f w x i m t).1) : (sign1Op f).Keeps := fun w x _ _ t => hf w x _ _ t

theorem hashOp_keeps {n : Nat} {f : EngW → List W64 → Bytes → State → State × Option Stop}
    (hf : ∀ w x b t, Kept accessReach t (f w x b t).1) : (hashOp n f).Keeps := fun w x i l _ =>
  Kept.hashUnit Kept.refl (List.Subset.refl _) n (fun w x b u ku => ku.step (hf w x b u) (List.Subset.refl _)) w x i l

theorem opCopy_keeps : opCopy.Keeps := by
  refine rowOp_keeps fun w x i t => ?_
  exact Kept.refl.unitMap (by decide) _ _ _ _ _

theorem opTranspose_keeps : opTranspose.Keeps := fun w x i _ _ => by
  dsimp only [opTranspose, plainUnit]
  exact Kept.refl.unitMap (by decide) _ _ _ _ _

theorem opConvert_keeps : opConvert.Keeps := by
  refine elemOp_keeps fun w x i m t => ?_
  dsimp only
  split
  next heq =>
    exact (Kept.refl.readVals (by decide) _ _ _ _ _ _).fst heq
  next heq =>
    exact ((Kept.refl.readVals (by decide) _ _ _ _ _ _).fst heq).putVals (by decide) _ _ _ _ _ _ _

theorem opStrataPack_keeps : opStrataPack.Keeps := by
  refine rowOp_keeps fun w x i t => ?_
  extract_lets f n pat
  have h1 : Kept accessReach t (t.eread w (plus (x.getD 1 0) (i * dw x 5)) (1024 * al f)).1 :=
    Kept.refl.eread (by decide) _ _ _
  split
  next heq => exact h1.fst heq
  next s1 b heq =>
    extract_lets vs r s2
    have h2 : Kept accessReach t s2 := ((h1.fst heq).setEngSr (by decide) _ _ _).countConv (by decide) _ _
    clear_value s2 r
    split
    next tag body ovf _ =>
    extract_lets line
    have hl : ∀ u, Kept accessReach t u → Kept accessReach t (line u).1 := fun u k => k.ewrite (by decide) _ _ _ _
    split
    · exact hl _ h2
    have h3 := h2.epeek (by decide) w.who (plus (x.getD 6 0) (i / 4)) 1
    split
    next heq => exact h3.fst heq
    next s3 o heq =>
      have h4 := (h3.fst heq).ewrite (by decide) w (plus (x.getD 6 0) (i / 4)) [setTag (o.headD 0) i tag] false
      split
      next s4 heq =>
        have h5 := hl _ (h4.fst heq)
        split
        next heq =>
          dsimp only
          exact (h5.fst heq).countPage (by decide) _ _ _ _
        next heq => exact (h5.fst heq).ewrite (by decide) _ _ _ _
      · exact h4

theorem opStrataTrim_keeps : opStrataTrim.Keeps := by
  refine rowOp_keeps fun w x i t => ?_
  exact Kept.refl.unitMap (by decide) _ _ _ _ _

theorem opMxPack_keeps : opMxPack.Keeps := by
  refine elemOp_keeps fun w x i m t => ?_
  split
  next heq =>
    exact (Kept.refl.readVals (by decide) _ _ _ _ _ _).fst heq
  next heq =>
    exact ((Kept.refl.readVals (by decide) _ _ _ _ _ _).fst heq).putVals (by decide) _ _ _ _ _ _ _

theorem opCurve_keeps : opCurve.Keeps := by
  refine elemOp_keeps fun w x i m t => ?_
  dsimp only
  split
  next heq =>
    exact (Kept.refl.readVals (by decide) _ _ _ _ _ _).fst heq
  next heq =>
    exact (((Kept.refl.readVals (by decide) _ _ _ _ _ _).fst heq).countConv (by decide) _ _).putVals (by decide) _ _
        _ _ _ _ _

theorem opStats_keeps (rms : Bool) : (opStats rms).Keeps := by
  refine rowOp_keeps fun w x i t => ?_
  dsimp only
  split
  next heq =>
    exact (Kept.refl.readVals (by decide) _ _ _ _ _ _).fst heq
  next heq =>
    exact (((Kept.refl.readVals (by decide) _ _ _ _ _ _).fst heq).countConv (by decide) _ _).ewrite (by decide) _ _ _
        _

theorem opNormApply_keeps : opNormApply.Keeps := by
  refine elemOp_keeps fun w x i m t => ?_
  dsimp only
  split
  next heq =>
    exact (Kept.refl.readVals (by decide) _ _ _ _ _ _).fst heq
  next heq =>
    split
    next heq2 =>
      exact (((Kept.refl.readVals (by decide) _ _ _ _ _ _).fst heq).normVals (by decide) _ _ _ _).fst heq2
    next heq2 =>
      exact (((((Kept.refl.readVals (by decide) _ _ _ _ _ _).fst heq).normVals (by decide) _ _ _ _).fst
          heq2).countConv (by decide) _ _).putVals (by decide) _ _ _ _ _ _ _

theorem opSort_keeps : opSort.Keeps := by
  refine wholeOp_keeps fun w x t => ?_
  dsimp only
  split
  next heq =>
    exact (Kept.refl.eread (by decide) _ _ _).fst heq
  next heq =>
    exact ((Kept.refl.eread (by decide) _ _ _).fst heq).ewrite (by decide) _ _ _ _

theorem opMerge_keeps (sum : Bool) : (opMerge sum).Keeps := by
  intro w x i l t
  dsimp only [opMerge, plainUnit]
  exact Kept.refl.mergeUnit (by decide) _ _ _ _ _

theorem opTopk_keeps : opTopk.Keeps := by
  refine wholeOp_keeps fun w x t => ?_
  dsimp only
  split
  next heq =>
    exact (Kept.refl.eread (by decide) _ _ _).fst heq
  next heq =>
    exact ((Kept.refl.eread (by decide) _ _ _).fst heq).ewrite (by decide) _ _ _ _

theorem opGather_keeps : opGather.Keeps := by
  refine rowOp_keeps fun w x i t => ?_
  dsimp only
  split
  next heq =>
    exact (Kept.refl.rowIndex (by decide) _ _ _).fst heq
  next heq =>
    exact ((Kept.refl.rowIndex (by decide) _ _ _).fst heq).ewrite (by decide) _ _ _ _
  next heq =>
    exact ((Kept.refl.rowIndex (by decide) _ _ _).fst heq).unitMap (by decide) _ _ _ _ _

theorem opScatter_keeps : opScatter.Keeps := by
  refine rowOp_keeps fun w x i t => ?_
  dsimp only
  split
  next heq =>
    exact (Kept.refl.rowIndex (by decide) _ _ _).fst heq
  next heq =>
    exact (Kept.refl.rowIndex (by decide) _ _ _).fst heq
  next heq =>
    exact ((Kept.refl.rowIndex (by decide) _ _ _).fst heq).unitMap (by decide) _ _ _ _ _

theorem opScatterAdd_keeps : opScatterAdd.Keeps := by
  refine rowOp_keeps fun w x i t => ?_
  dsimp only
  split
  next heq =>
    exact (Kept.refl.rowIndex (by decide) _ _ _).fst heq
  next heq =>
    exact (Kept.refl.rowIndex (by decide) _ _ _).fst heq
  next heq =>
    split
    next heq2 =>
      exact (((Kept.refl.rowIndex (by decide) _ _ _).fst heq).readVals (by decide) _ _ _ _ _ _).fst heq2
    next heq2 =>
      split
      next heq3 =>
        exact (((((Kept.refl.rowIndex (by decide) _ _ _).fst heq).readVals (by decide) _ _ _ _ _ _).fst heq2).epeek
            (by decide) _ _ _).fst heq3
      next heq3 =>
        exact (((((((Kept.refl.rowIndex (by decide) _ _ _).fst heq).readVals (by decide) _ _ _ _ _ _).fst heq2).epeek
            (by decide) _ _ _).fst heq3).countConv (by decide) _ _).putVals (by decide) _ _ _ _ _ _ _

theorem opCombine_keeps : opCombine.Keeps := by
  refine elemOp_keeps fun w x i m t => ?_
  dsimp only
  split
  next heq =>
    dsimp only
    refine Kept.fst ?_ heq
    split
    · exact Kept.refl.eread (by decide) _ _ _
    · exact Kept.refl.epeek (by decide) _ _ _
  next heq =>
    split
    next heq2 =>
      dsimp only
      refine Kept.fst ?_ heq2
      refine Kept.readEach ?_ (by decide) _ _ _ _ _ _
      refine Kept.fst ?_ heq
      split
      · exact Kept.refl.eread (by decide) _ _ _
      · exact Kept.refl.epeek (by decide) _ _ _
    next heq2 =>
      refine Kept.putVals ?_ (by decide) _ _ _ _ _ _ _
      refine Kept.countConv ?_ (by decide) _ _
      refine Kept.fst ?_ heq2
      refine Kept.readEach ?_ (by decide) _ _ _ _ _ _
      refine Kept.fst ?_ heq
      split
      · exact Kept.refl.eread (by decide) _ _ _
      · exact Kept.refl.epeek (by decide) _ _ _

theorem opSign1Enc_keeps : opSign1Enc.Keeps := by
  refine sign1Op_keeps fun w x i m t => ?_
  dsimp only
  split
  next heq =>
    exact (Kept.refl.readVals (by decide) _ _ _ _ _ _).fst heq
  next heq =>
    split
    next heq2 =>
      exact (((Kept.refl.readVals (by decide) _ _ _ _ _ _).fst heq).eread (by decide) _ _ _).fst heq2
    next heq2 =>
      split
      next heq3 =>
        exact (((((((Kept.refl.readVals (by decide) _ _ _ _ _ _).fst heq).eread (by decide) _ _ _).fst
            heq2).countConv (by decide) _ _).ewrite (by decide) _ _ _ _).fst heq3).ewrite (by decide) _ _ _ _
      · exact (((((Kept.refl.readVals (by decide) _ _ _ _ _ _).fst heq).eread (by decide) _ _ _).fst heq2).countConv
            (by decide) _ _).ewrite (by decide) _ _ _ _

theorem opSign1Dec_keeps : opSign1Dec.Keeps := by
  refine sign1Op_keeps fun w x i m t => ?_
  dsimp only
  split
  next heq =>
    exact (Kept.refl.eread (by decide) _ _ _).fst heq
  next heq =>
    split
    next heq2 =>
      dsimp only
      refine Kept.fst ?_ heq2
      split
      · exact ((Kept.refl.eread (by decide) _ _ _).fst heq).readVals (by decide) _ _ _ _ _ _
      · exact (Kept.refl.eread (by decide) _ _ _).fst heq
    next heq2 =>
      refine Kept.putVals ?_ (by decide) _ _ _ _ _ _ _
      refine Kept.countConv ?_ (by decide) _ _
      refine Kept.fst ?_ heq2
      split
      · exact ((Kept.refl.eread (by decide) _ _ _).fst heq).readVals (by decide) _ _ _ _ _ _
      · exact (Kept.refl.eread (by decide) _ _ _).fst heq

theorem opGcm_keeps (dec : Bool) : (opGcm dec).Keeps := by
  intro w x i l t
  dsimp only [opGcm, plainUnit]
  exact Kept.refl.gcmUnit (by decide) _ _ _ _ _

theorem opSha3_keeps (n : Nat) : (opSha3 n).Keeps := by
  refine hashOp_keeps fun w x b t => ?_
  exact Kept.refl.ewrite (by decide) _ _ _ _

theorem opHashVerify_keeps : opHashVerify.Keeps := by
  refine hashOp_keeps fun w x b t => ?_
  split
  next heq =>
    exact (Kept.refl.eread (by decide) _ _ _).fst heq
  next heq =>
    exact (Kept.refl.eread (by decide) _ _ _).fst heq

theorem opPredict_keeps : opPredict.Keeps := by
  intro w x i l t
  dsimp only [opPredict, plainUnit]
  exact Kept.refl.predictUnit (by decide) _ _ _ _

theorem opCertify_keeps : opCertify.Keeps := by
  intro w x i l t
  dsimp only [opCertify, plainUnit]
  exact Kept.refl.certifyUnit (by decide) _ _ _ _

/-- A command's outcome, from what the state keeps of itself. -/
theorem KeptBy.start {A : List Part} {o : Host.Outcome State Fault Refusal} (b : Kept A s s → KeptBy A s o) :
    KeptBy A s o :=
  b Kept.refl

theorem KeptBy.ite {A : List Part} {c : Prop} [Decidable c] {o p : Host.Outcome State Fault Refusal} (a :
    KeptBy A s o)
    (b : KeptBy A s p) : KeptBy A s (if c then o else p) := by
  split <;> assumption

theorem KeptBy.execColdStart (i) : KeptBy (reporting [.panelState, .time, .anatomy, .objects, .counterTimes,
    .stackMem, .commonsMem, .spadMem, .tiles, .engines, .contexts, .stacks, .network, .fabric, .clocks, .power,
    .thermal, .starts, .recovery, .pins]) s (execColdStart i s) :=
  KeptBy.start fun k => (k.coldStart (by decide) _).next

theorem KeptBy.execWarmStart (i) : KeptBy (reporting [.panelState, .time, .anatomy, .objects, .counterTimes,
    .stackMem, .commonsMem, .spadMem, .tiles, .engines, .contexts, .stacks, .network, .fabric, .clocks, .power,
    .thermal, .starts, .recovery, .pins]) s (execWarmStart i s) :=
  KeptBy.start fun k => (k.warmStart (by decide) _).next

theorem KeptBy.execPowerOnStart (mv i) : KeptBy (reporting [.panelState, .time, .anatomy, .objects, .counterTimes,
    .stackMem, .commonsMem, .spadMem, .tiles, .engines, .contexts, .stacks, .network, .fabric, .clocks, .power,
    .thermal, .starts, .recovery, .pins]) s (execPowerOnStart mv i s) := by
  unfold Machine.execPowerOnStart
  extract_lets _ v
  have hv : Kept (reporting [.panelState, .time, .anatomy, .objects, .counterTimes, .stackMem, .commonsMem, .spadMem,
      .tiles, .engines, .contexts, .stacks, .network, .fabric, .clocks, .power, .thermal, .starts, .recovery, .pins])
      s v := Kept.refl.withPwr (by decide) _
  split
  · exact (hv.startBegin (by decide) _ _ _).ok.next
  · exact hv.turnAway.next

theorem KeptBy.execPanelRstNRelease (i) : KeptBy (reporting [.panelState, .time, .anatomy, .objects, .counterTimes,
    .stackMem, .commonsMem, .spadMem, .tiles, .engines, .contexts, .stacks, .network, .fabric, .clocks, .power,
    .thermal, .starts, .recovery, .pins]) s (execPanelRstNRelease i s) := by
  refine KeptBy.start fun k => ?_
  unfold Machine.execPanelRstNRelease
  dsimp only
  split
  · exact (((k.withPins (by decide) _).startBegin (by decide) _ _ _).ok).next
  · exact ((k.withPins (by decide) _).turnAway).next

theorem KeptBy.execPanelRstNHeld (ns) : KeptBy [Part.pins] s (execPanelRstNHeld ns s) := by
  unfold Machine.execPanelRstNHeld
  split
  · refine Kept.next ⟨fun p hp => ?_, id⟩
    cases p <;> simp [State.same] at hp ⊢
  · exact Kept.refl.turnAway.next

theorem KeptBy.execCoolantQualified (i) : KeptBy (reporting [.panelState, .anatomy, .contexts, .network, .fabric,
    .clocks, .power, .thermal, .starts, .recovery, .pins]) s (execCoolantQualified i s) := by
  refine KeptBy.start fun k => ?_
  unfold Machine.execCoolantQualified
  split
  · split
    · exact ((k.startSupplies (by decide) _ _).ok).next
    · exact k.turnAway.next
  · exact k.turnAway.next

theorem KeptBy.execFwLoad (d off data last) : KeptBy [Part.starts, .messages] s (execFwLoad d off data last s) := by
  refine KeptBy.start fun k => ?_
  unfold Machine.execFwLoad
  dsimp only
  split
  · exact k.turnAway.next
  · refine Kept.next ?_
    split
    · exact ((k.withBoot (by decide) _ (wf_putBytes _ _)).send (by decide) _).ok
    · exact (k.withBoot (by decide) _ (wf_putBytes _ _)).ok

theorem KeptBy.execStartComplete (ms) : KeptBy (reporting [.panelState, .anatomy, .tiles, .contexts, .stacks,
    .fabric, .clocks, .power, .thermal, .starts, .recovery]) s (execStartComplete ms s) := by
  refine KeptBy.start fun k => ?_
  unfold Machine.execStartComplete
  split
  next kind i _ =>
    extract_lets s1 s2 s3 s4 s5
    have h1 : Kept (reporting [.panelState, .anatomy, .tiles, .contexts, .stacks, .fabric, .clocks, .power, .thermal,
        .starts, .recovery]) s s1 := (k.disablePhases (by decide) _).ite k
    have h2 : Kept (reporting [.panelState, .anatomy, .tiles, .contexts, .stacks, .fabric, .clocks, .power, .thermal,
        .starts, .recovery]) s s2 := (h1.storeFound (by decide) _).dramFound (by decide) _
    have h3 : Kept (reporting [.panelState, .anatomy, .tiles, .contexts, .stacks, .fabric, .clocks, .power, .thermal,
        .starts, .recovery]) s s3 := ((h2.buildDies (by decide)).buildRows (by decide) _).spareRows (by decide)
    clear_value s3
    have h4 : Kept (reporting [.panelState, .anatomy, .tiles, .contexts, .stacks, .fabric, .clocks, .power, .thermal,
        .starts, .recovery]) s s4 := by
      refine Kept.detachBad (Kept.foldl h3 fun u d ku => ?_) (by decide)
      exact ku.darken (by decide) d
    have h5 : Kept (reporting [.panelState, .anatomy, .tiles, .contexts, .stacks, .fabric, .clocks, .power, .thermal,
        .starts, .recovery]) s s5 := h4.putSelftest (by decide) _ _ _
    clear_value s5
    split
    · exact (h5.withBoot (by decide) _ (by exact id)).ok.next
    · exact (h5.startIdle (by decide) _ _).ok.next
  · exact k.turnAway.next

theorem KeptBy.execStartStepTimeout (step i) : KeptBy (reporting [.panelState, .time, .anatomy, .objects,
    .counterTimes, .stackMem, .commonsMem, .spadMem, .tiles, .engines, .contexts, .stacks, .network, .fabric,
    .clocks, .power, .thermal, .starts, .recovery, .pins]) s (execStartStepTimeout step i s) := by
  have hf : Kept (reporting [.panelState, .time, .anatomy, .objects, .counterTimes, .stackMem, .commonsMem, .spadMem,
      .tiles, .engines, .contexts, .stacks, .network, .fabric, .clocks, .power, .thermal, .starts, .recovery, .pins])
      s (s.safeFault 0x6035 (locHub 0) step) := Kept.refl.safeFault (by decide) _ _ _
  unfold Machine.execStartStepTimeout
  split
  · exact Kept.next (Kept.ok (Kept.startBegin (Kept.refl.failTrial (by decide)) (by decide) _ _ _))
  · generalize s.safeFault 0x6035 (locHub 0) step = u at hf ⊢
    refine Kept.next (hf.trans ⟨fun p hp => ?_, id⟩)
    cases p <;> simp [State.same, reporting, reports] at hp ⊢
  · exact Kept.refl.turnAway.next

theorem KeptBy.execSelftest : KeptBy [Part.panelState, .hostSites, .starts, .messages] s (execSelftest s) :=
  KeptBy.start fun k => (k.selftest (by decide)).next

theorem KeptBy.execSelftestComplete (found skipped) :
    KeptBy (reporting [.panelState, .anatomy, .stacks, .starts]) s (execSelftestComplete found skipped s) := by
  refine KeptBy.start fun k => ?_
  unfold Machine.execSelftestComplete
  dsimp only
  split
  · exact ((((((k.recordFound (by decide) _).dramFound (by decide) _).putSelftest (by decide) _ _ _).withBoot
        (by decide) _ (by exact id)).enter (by decide) _).ok).next
  · exact k.turnAway.next

theorem KeptBy.execCalibrate : KeptBy (reporting [.panelState, .starts]) s (execCalibrate s) :=
  KeptBy.start fun k => (k.calibrate (by decide)).next

theorem KeptBy.execCalibrateComplete (values found) :
    KeptBy (reporting [.panelState, .anatomy, .starts]) s (execCalibrateComplete values found s) := by
  refine KeptBy.start fun k => ?_
  unfold Machine.execCalibrateComplete
  dsimp only
  split
  · refine Kept.next ?_
    refine Kept.ok ?_
    refine Kept.enter ?_ (by decide) _
    refine Kept.withBoot ?_ (by decide) _ ?_
    · split
      · exact ((k.recordFound (by decide) _).putSelftest (by decide) _ _ _).putCal (by decide) _ _
      · exact ((k.recordFound (by decide) _).putSelftest (by decide) _ _ _).fault (by decide) _ _ _ _
    · dsimp only
      split
      · exact by exact id
      · exact by exact id
  · exact k.turnAway.next

theorem KeptBy.execPowerOff : KeptBy [Part.panelState, .time, .faultLog, .anatomy, .objects, .counters,
    .counterTimes, .stackMem, .commonsMem, .spadMem, .tiles, .engines, .contexts, .stacks, .network, .fabric,
    .clocks, .power, .thermal, .security, .hostSites, .sessions, .starts, .recovery, .pins] s (execPowerOff s) :=
  KeptBy.start fun k => (k.powerOff (by decide)).next

theorem KeptBy.execEnterSafe (cause) :
    KeptBy (reporting [.panelState, .contexts, .clocks, .thermal, .starts, .recovery]) s (execEnterSafe cause s) := by
  refine KeptBy.start fun k => ?_
  unfold Machine.execEnterSafe
  split
  · exact (k.safeCmd (by decide)).next
  · split
    · exact ((k.enterSafe (by decide) _).ok).next
    · exact ((k.enterSafe (by decide) _).ok).next
    · exact ((k.enterSafe (by decide) _).ok).next
    · exact ((k.enterSafe (by decide) _).ok).next
    · exact k.turnAway.next

theorem KeptBy.execUpdate : KeptBy [Part.panelState, .hostSites, .starts, .messages] s (execUpdate s) :=
  KeptBy.start fun k => (k.update (by decide)).next

theorem KeptBy.execFwStage (img) : KeptBy (reporting [.starts]) s (execFwStage img s) :=
  KeptBy.start fun k => (k.stageFw (by decide) _).next

theorem KeptBy.execActivate (i) : KeptBy (reporting [.panelState, .time, .anatomy, .objects, .counterTimes,
    .stackMem, .commonsMem, .spadMem, .tiles, .engines, .contexts, .stacks, .network, .fabric, .clocks, .power,
    .thermal, .starts, .recovery, .pins]) s (execActivate i s) :=
  KeptBy.start fun k => (k.activateFw (by decide) _).next

theorem KeptBy.execDiscard : KeptBy [Part.panelState, .hostSites, .starts, .messages] s (execDiscard s) :=
  KeptBy.start fun k => (k.discard (by decide)).next

theorem KeptBy.execCalTableWrite (w) : KeptBy (reporting [.starts]) s (execCalTableWrite w s) :=
  KeptBy.start fun k => (k.writeCal (by decide) _).next

theorem KeptBy.execFieldDefectsClear (v) : KeptBy [Part.anatomy] s (execFieldDefectsClear v s) :=
  KeptBy.start fun k => (k.clearField (by decide) _).next

theorem KeptBy.execCountersClear (set v) : KeptBy [Part.counters, .counterTimes] s (execCountersClear set v s) :=
  KeptBy.start fun k => (k.clearSet (by decide) _ _).next

theorem KeptBy.execRegisterWrite (r value) : KeptBy (reporting [.panelState, .time, .anatomy, .objects,
    .storedObjects, .counterTimes, .stackMem, .commonsMem, .spadMem, .tiles, .engines, .contexts, .stacks, .network,
    .fabric, .clocks, .power, .thermal, .starts, .recovery, .pins, .freeValues]) s (execRegisterWrite r value s) := by
  refine KeptBy.start fun k => ?_
  unfold Machine.execRegisterWrite
  refine Kept.next ?_
  dsimp only
  split
  · exact k.writeObj (by decide) _ _ _ _
  · split
    · exact k.sidebandCmd _ (k.mailboxWrite (by decide) _ _ _)
    · exact k.turnAway
  · split
    · exact k.hubRegister (by decide) _ _ _
    · exact k.turnAway
  · split
    · exact k.turnAway
    · exact (k.ringWrite (by decide) _ _ _ _ _).status _

theorem KeptBy.execUnitFiring (d u') : KeptBy (reporting [.time, .anatomy, .stackMem, .commonsMem, .spadMem, .tiles,
    .engines, .contexts, .stacks, .network, .fabric, .power, .recovery]) s (execUnitFiring d u' s) := by
  unfold Machine.execUnitFiring
  have h0 : Kept (reporting [.time, .anatomy, .stackMem, .commonsMem, .spadMem, .tiles, .engines, .contexts, .stacks,
      .network, .fabric, .power, .recovery]) s (s.behindChunk d u'.val) := Kept.refl.behindChunk (by decide) _ _
  generalize s.behindChunk d u'.val = v at h0 ⊢
  dsimp only
  cases v.live d u'.val with
  | none => exact h0.turnAway.next
  | some p =>
    obtain ⟨c, g⟩ := p
    refine Kept.next ?_
    cases g.op with
    | source => exact h0.fireSource (by decide) _ _ _ _ _ _ _ _
    | ingress => exact h0.fireIngress (by decide) _ _ _ _
    | wstream => exact Kept.ite (h0.fired (by decide) _ _ _ _ _).ok h0.turnAway
    | mover =>
      dsimp only
      split
      · exact h0.fireSource (by decide) _ _ _ _ _ _ _ _
      · exact h0.fireInputs (by decide) _ _ _ _
    | _ => exact h0.fireInputs (by decide) _ _ _ _

theorem KeptBy.execArrayRound (d t' a entry out) :
    KeptBy [Part.counters, .tiles, .freeValues] s (execArrayRound d t' a entry out s) := by
  refine KeptBy.start fun k => ?_
  unfold Machine.execArrayRound
  dsimp only
  split
  · split
    · exact k.turnAway.next
    · split
      · exact k.turnAway.next
      · split
        · split
          · exact ((k.count (by decide) _ _ _ _).turnAway).next
          · split
            · exact (k.tileWait (by decide) _ _ _ _).next
            · split
              next heq =>
                exact (k.roundDispatched (by decide) heq).ok.next
              · exact (k.tileWait (by decide) _ _ _ _).next
        · split
          · exact ((k.count (by decide) _ _ _ _).turnAway).next
          · split
            · exact (k.tileWait (by decide) _ _ _ _).next
            · split
              · split
                · exact (k.tileWait (by decide) _ _ _ _).next
                · exact (((k.modTile (by decide) _ _).roundOn (by decide) _ _ _ _ _ _ _ _ _).ok).next
              · exact ((k.roundOn (by decide) _ _ _ _ _ _ _ _ _).ok).next
  · exact k.turnAway.next

theorem KeptBy.execStagingFill (d t' a entry data scales) :
    KeptBy [Part.tiles] s (execStagingFill d t' a entry data scales s) := by
  refine KeptBy.start fun k => ?_
  unfold Machine.execStagingFill
  dsimp only
  split
  · split
    · exact k.turnAway.next
    · split
      · exact k.turnAway.next
      · exact ((k.modTile (by decide) _ _).ok).next
  · exact k.turnAway.next

theorem KeptBy.execShadowLoad (d t' a off) : KeptBy [Part.counters, .tiles] s (execShadowLoad d t' a off s) := by
  refine KeptBy.start fun k => ?_
  unfold Machine.execShadowLoad
  dsimp only
  split
  · split
    · exact k.turnAway.next
    · split
      · exact k.turnAway.next
      · split
        · exact (k.tileWait (by decide) _ _ _ _).next
        · split
          · exact k.turnAway.next
          · split
            · exact k.turnAway.next
            · refine Kept.next ?_
              refine Kept.ok ?_
              split
              · exact (k.modTile (by decide) _ _).count (by decide) _ _ _ _
              · exact k.modTile (by decide) _ _
  · exact k.turnAway.next

theorem KeptBy.execHalfFillStart (d t' a f bytes) : KeptBy (reporting [.anatomy, .stackMem, .commonsMem, .spadMem,
    .tiles, .engines, .contexts, .stacks, .network, .fabric, .power, .recovery]) s (execHalfFillStart d t' a f bytes
    s) := by
  refine KeptBy.start fun k => ?_
  unfold Machine.execHalfFillStart
  dsimp only
  split
  · split
    · exact k.turnAway.next
    · split
      · exact (((k.count (by decide) _ _ _ _).count (by decide) _ _ _ _).turnAway).next
      · split
        · exact k.turnAway.next
        · split
          next heq =>
            exact (((k.taggedHalf (by decide) _ _ _ _ _ _).fst heq).turnAway).next
          next heq =>
            exact (((((k.taggedHalf (by decide) _ _ _ _ _ _).fst heq).modTile (by decide) _ _).fetchHalf (by decide)
                _ _ _ _ _ _).ok).next
  · exact k.turnAway.next

theorem KeptBy.execHalfTake (d t' a) : KeptBy (reporting [.tiles, .contexts]) s (execHalfTake d t' a s) := by
  refine KeptBy.start fun k => ?_
  unfold Machine.execHalfTake
  dsimp only
  split
  · split
    · exact k.turnAway.next
    · split
      · exact (k.tileWait (by decide) _ _ _ _).next
      · split
        · exact ((((k.modTile (by decide) _ _).skipZeros (by decide) _ _ _ _).checkHalf (by decide) _ _ _ _ _ _
              _).ok).next
        · exact (((k.modTile (by decide) _ _).skipZeros (by decide) _ _ _ _).ok).next
  · exact k.turnAway.next

theorem KeptBy.execHalfRelease (d t' a) : KeptBy [Part.tiles] s (execHalfRelease d t' a s) := by
  refine KeptBy.start fun k => ?_
  unfold Machine.execHalfRelease
  split
  · split
    · split
      · exact ((k.modTile (by decide) _ _).ok).next
      · exact k.turnAway.next
    · exact k.turnAway.next
  · exact k.turnAway.next

theorem KeptBy.execOutputStageWrite (d t' a o) : KeptBy (reporting [.anatomy, .stackMem, .commonsMem, .spadMem,
    .tiles, .engines, .contexts, .stacks, .network, .fabric, .power, .recovery]) s (execOutputStageWrite d t' a o s)
    := by
  refine KeptBy.start fun k => ?_
  unfold Machine.execOutputStageWrite
  dsimp only
  split
  · split
    · exact k.turnAway.next
    · split
      · exact k.turnAway.next
      · split
        · exact ((k.stageSend (by decide) _ _ _ _ _ _ _ _ _).okOr).next
        · exact ((k.stageCombine (by decide) _ _ _ _ _ _ _ _ _ _).okOr).next
        · split
          · exact ((k.stageWrite (by decide) _ _ _ _ _ _ _ _ _ _ _).okOr).next
          · split
            next heq =>
              exact ((((k.biases (by decide) _ _ _ _).fst heq).unitFail (by decide) _ _ _ _ _).turnAway).next
            next heq =>
              exact ((((k.biases (by decide) _ _ _ _).fst heq).stageLayer (by decide) _ _ _ _ _ _ _ _ _ _
                  _).okOr).next
  · exact k.turnAway.next

theorem KeptBy.execLaneInstruction (d t' i) : KeptBy (reporting [.anatomy, .stackMem, .commonsMem, .spadMem, .tiles,
    .engines, .contexts, .stacks, .network, .fabric, .power, .recovery, .freeValues]) s (execLaneInstruction d t' i
    s) := by
  refine KeptBy.start fun k => ?_
  unfold Machine.execLaneInstruction
  dsimp only
  split
  · split
    · exact (((k.count64 (by decide) _ _ _ _).modTile (by decide) _ _).ok).next
    · exact (((k.count64 (by decide) _ _ _ _).modTile (by decide) _ _).ok).next
    · exact (((k.count64 (by decide) _ _ _ _).modTile (by decide) _ _).ok).next
    · split
      · exact (((k.count64 (by decide) _ _ _ _).modTile (by decide) _ _).ok).next
      · exact (((k.count64 (by decide) _ _ _ _).fault (by decide) _ _ _ _).turnAway).next
    · split
      · exact (((k.count64 (by decide) _ _ _ _).fault (by decide) _ _ _ _).turnAway).next
      · split
        · exact (((k.count64 (by decide) _ _ _ _).fault (by decide) _ _ _ _).turnAway).next
        · exact ((((k.count64 (by decide) _ _ _ _).modTile (by decide) _ _).countConv (by decide) _ _).ok).next
    · split
      next heq =>
        exact (((((k.count64 (by decide) _ _ _ _).laneAccess (by decide) _ _ _ _ _ _ _).fst heq).modTile (by decide)
            _ _).ok).next
      next heq =>
        exact ((((k.count64 (by decide) _ _ _ _).laneAccess (by decide) _ _ _ _ _ _ _).fst heq).laneEnd (by decide) _
            _ _).next
    · split
      next heq =>
        exact ((((k.count64 (by decide) _ _ _ _).laneAccess (by decide) _ _ _ _ _ _ _).fst heq).ok).next
      next heq =>
        exact ((((k.count64 (by decide) _ _ _ _).laneAccess (by decide) _ _ _ _ _ _ _).fst heq).laneEnd (by decide) _
            _ _).next
    · split
      next heq =>
        exact (((((k.count64 (by decide) _ _ _ _).stageLanes (by decide) _ _ _ _ _ _).fst heq).modTile (by decide) _
            _).ok).next
      next heq =>
        exact ((((k.count64 (by decide) _ _ _ _).stageLanes (by decide) _ _ _ _ _ _).fst heq).turnAway).next
    · exact (((((k.count64 (by decide) _ _ _ _).free (by decide)).modTile (by decide) _ _).countConv (by decide) _
          _).ok).next
  · exact k.turnAway.next

theorem KeptBy.execScratchpadAccess (d t' bank reqs) : KeptBy (reporting [.anatomy, .commonsMem, .spadMem, .tiles,
    .engines, .contexts, .network, .fabric, .power, .recovery]) s (execScratchpadAccess d t' bank reqs s) := by
  refine KeptBy.start fun k => ?_
  unfold Machine.execScratchpadAccess
  dsimp only
  split
  · exact k.turnAway.next
  · split
    · refine Kept.next ?_
      split
      · exact (k.spadArrive (by decide) _ _ _ _).turnAway
      · exact (k.spadArrive (by decide) _ _ _ _).status _
    · exact (((k.spadArrive (by decide) _ _ _ _).modTile (by decide) _ _).spadGrant (by decide) _ _ _ _).next

theorem KeptBy.execClean (d t' base bytes) : KeptBy (reporting [.anatomy, .stackMem, .commonsMem, .spadMem, .tiles,
    .engines, .contexts, .stacks, .network, .fabric, .power, .recovery]) s (execClean d t' base bytes s) :=
  KeptBy.start fun k => (k.cacheCmd (by decide) _ _ _ _ _).next

theorem KeptBy.execInvalidate (d t' base bytes) : KeptBy (reporting [.anatomy, .stackMem, .commonsMem, .spadMem,
    .tiles, .engines, .contexts, .stacks, .network, .fabric, .power, .recovery]) s (execInvalidate d t' base bytes s)
    :=
  KeptBy.start fun k => (k.cacheCmd (by decide) _ _ _ _ _).next

theorem KeptBy.execCleanInvalidate (d t' base bytes) : KeptBy (reporting [.anatomy, .stackMem, .commonsMem, .spadMem,
    .tiles, .engines, .contexts, .stacks, .network, .fabric, .power, .recovery]) s (execCleanInvalidate d t' base
    bytes s) :=
  KeptBy.start fun k => (k.cacheCmd (by decide) _ _ _ _ _).next

theorem KeptBy.execSpCreditReq (node c d t' window n) :
    KeptBy [Part.counters, .tiles, .messages] s (execSpCreditReq node c d t' window n s) := by
  refine KeptBy.start fun k => ?_
  unfold Machine.execSpCreditReq
  split
  · exact k.turnAway.next
  · exact ((k.creditRequest (by decide) _).ok).next

theorem KeptBy.execSpCreditReply (src) : KeptBy (reporting [.tiles]) s (execSpCreditReply src s) := by
  unfold Machine.execSpCreditReply
  split
  · exact Kept.refl.turnAway.next
  extract_lets _ v
  have hv : Kept (reporting [.tiles]) s v := Kept.refl.withTiles (by decide) _
  split
  · exact Kept.next (hv.withAnswer _)
  · exact ((Kept.withTiles hv (by decide) _).status _).next
  · exact ((hv.fault (by decide) _ _ _ _).status _).next

theorem KeptBy.execDenyFullRetry (src) :
    KeptBy [Part.time, .counters, .tiles, .messages] s (execDenyFullRetry src s) := by
  refine KeptBy.start fun k => ?_
  unfold Machine.execDenyFullRetry
  dsimp only
  split
  · exact k.turnAway.next
  · exact ((((k.notBefore (by decide) _).withTiles (by decide) _).creditRequest (by decide) _).ok).next

theorem KeptBy.execCreditReturn (d t' id) : KeptBy [Part.tiles] s (execCreditReturn d t' id s) := by
  refine KeptBy.start fun k => ?_
  unfold Machine.execCreditReturn
  split
  · exact k.turnAway.next
  · split
    · exact ((k.modTile (by decide) _ _).ok).next
    · exact k.turnAway.next

theorem KeptBy.execCreditExpiry (d t' id) : KeptBy (reporting [.time, .tiles]) s (execCreditExpiry d t' id s) := by
  refine KeptBy.start fun k => ?_
  unfold Machine.execCreditExpiry
  dsimp only
  split
  · exact k.turnAway.next
  · split
    · exact k.turnAway.next
    · split
      · split
        · exact (((((k.notBefore (by decide) _).modTile (by decide) _ _).count (by decide) _ _ _ _).event (by decide)
              _ _ _ _).ok).next
        · exact (((k.notBefore (by decide) _).modTile (by decide) _ _).ok).next
      · exact k.turnAway.next

theorem KeptBy.execBankClose (b m) : KeptBy (reporting [.anatomy, .commonsMem, .spadMem, .tiles, .engines, .contexts,
    .stacks, .network, .fabric, .power, .recovery]) s (execBankClose b m s) := by
  refine KeptBy.start fun k => ?_
  unfold Machine.execBankClose
  split
  · exact (((k.drainBank (by decide) _).setBank (by decide) _ _).ok).next
  · exact k.turnAway.next

theorem KeptBy.execBankCloseComplete (b) : KeptBy [Part.tiles, .engines, .stacks] s (execBankCloseComplete b s) := by
  refine KeptBy.start fun k => ?_
  unfold Machine.execBankCloseComplete
  split
  · exact ((k.setBank (by decide) _ _).ok).next
  · exact k.turnAway.next

theorem KeptBy.execBankReopen (b) : KeptBy [Part.tiles, .engines, .stacks] s (execBankReopen b s) := by
  refine KeptBy.start fun k => ?_
  unfold Machine.execBankReopen
  split
  · exact ((k.setBank (by decide) _ _).ok).next
  · exact k.turnAway.next

theorem KeptBy.execBankReopenComplete (b) : KeptBy [Part.counters, .stackMem, .commonsMem, .spadMem, .tiles,
    .engines, .stacks, .messages] s (execBankReopenComplete b s) := by
  refine KeptBy.start fun k => ?_
  unfold Machine.execBankReopenComplete
  dsimp only
  split
  · refine Kept.next ?_
    refine Kept.ok ?_
    refine Kept.foldl ?_ (fun u a ku => ku.ctrl (by decide) _ _ _ _)
    refine Kept.takeNotify ?_ (by decide) _
    refine Kept.presentHeld ?_ (by decide) _
    refine Kept.setBank ?_ (by decide) _ _
    split
    · exact k.zeroBankOf (by decide) _
    · exact k
  · exact k.turnAway.next

theorem KeptBy.execReopen (node b) : KeptBy (reporting [.anatomy, .stackMem, .commonsMem, .spadMem, .tiles, .engines,
    .contexts, .stacks, .network, .fabric, .power, .recovery]) s (execReopen node b s) := by
  refine KeptBy.start fun k => ?_
  unfold Machine.execReopen
  refine Kept.next ?_
  dsimp only
  split
  · exact (((k.withNet (by decide) _).ok).foldl (fun u a ku => ku.inject (by decide) _ _ _)).drainSites (by decide)
  · exact ((k.withNet (by decide) _).ok).foldl (fun u a ku => ku.inject (by decide) _ _ _)

theorem KeptBy.execCommonsAccess (d bank reqs) : KeptBy (reporting [.anatomy, .commonsMem, .tiles, .engines,
    .contexts, .network, .fabric, .power, .recovery]) s (execCommonsAccess d bank reqs s) := by
  refine KeptBy.start fun k => ?_
  unfold Machine.execCommonsAccess
  dsimp only
  split
  · exact k.turnAway.next
  · split
    · refine Kept.next ?_
      split
      · exact (k.commonsArrive (by decide) _ _ _).turnAway
      · exact (k.commonsArrive (by decide) _ _ _).status _
    · exact (((k.commonsArrive (by decide) _ _ _).modCommons (by decide) _ _).commonsGrant (by decide) _ _).next

theorem KeptBy.execTail (c d e q v) : KeptBy (reporting [.engines]) s (execTail c d e q v s) := by
  refine KeptBy.start fun k => ?_
  unfold Machine.execTail
  dsimp only
  split
  · exact k.turnAway.next
  · exact ((k.ringBound (by decide) _ _ _ _ (k.ringTail (by decide) _ _ _ _ _)).status _).next

theorem KeptBy.execRingResume (c d e q) : KeptBy (reporting [.engines]) s (execRingResume c d e q s) := by
  refine KeptBy.start fun k => ?_
  unfold Machine.execRingResume
  dsimp only
  split
  · exact k.turnAway.next
  · exact ((k.ringBound (by decide) _ _ _ _ (k.ringGo (by decide) _ _ _)).status _).next

theorem KeptBy.execRingAbort (c d e q) : KeptBy (reporting [.anatomy, .stackMem, .commonsMem, .spadMem, .tiles,
    .engines, .contexts, .stacks, .network, .fabric, .power, .recovery, .freeValues]) s (execRingAbort c d e q s) :=
    by
  refine KeptBy.start fun k => ?_
  unfold Machine.execRingAbort
  dsimp only
  split
  · exact k.turnAway.next
  · exact ((k.ringBound (by decide) _ _ _ _ (k.ringStop (by decide) _ _ _ _)).status _).next

theorem KeptBy.execDescriptorFetch (d e q) : KeptBy (reporting [.anatomy, .stackMem, .commonsMem, .spadMem, .tiles,
    .engines, .contexts, .stacks, .network, .fabric, .power, .recovery]) s (execDescriptorFetch d e q s) := by
  refine KeptBy.start fun k => ?_
  unfold Machine.execDescriptorFetch
  dsimp only
  split
  · exact k.turnAway.next
  · split
    · exact k.turnAway.next
    · split
      next heq =>
        exact (((k.commonsRead (by decide) _ _ _ _).fst heq).takeDesc (by decide) _ _ _ _ _ _).next
      next heq =>
        exact ((((k.commonsRead (by decide) _ _ _ _).fst heq).unitFail (by decide) _ _ _ _ _).status _).next
      next heq =>
        exact ((((k.commonsRead (by decide) _ _ _ _).fst heq).unitFail (by decide) _ _ _ _ _).ok).next

theorem KeptBy.execDescriptorRetire (d e q) : KeptBy (reporting [.anatomy, .stackMem, .commonsMem, .spadMem, .tiles,
    .engines, .contexts, .stacks, .network, .fabric, .power, .recovery]) s (execDescriptorRetire d e q s) := by
  refine KeptBy.start fun k => ?_
  unfold Machine.execDescriptorRetire
  dsimp only
  split
  · split
    · exact k.turnAway.next
    · split
      · exact k.turnAway.next
      · split
        next heq =>
          refine Kept.next ?_
          refine Kept.ok ?_
          split
          · exact ((((k.putRecord (by decide) _ _ _ _ _ _).fst heq).modRing (by decide) _ _).retired (by decide) _ _
                _ _ _ _).ringRetired (by decide) _ _ _
          · exact (((k.putRecord (by decide) _ _ _ _ _ _).fst heq).modRing (by decide) _ _).retired (by decide) _ _ _
                _ _ _
        next heq =>
          exact (((k.putRecord (by decide) _ _ _ _ _ _).fst heq).turnAway).next
  · exact k.turnAway.next

theorem KeptBy.execEngineWatchdog (d e q) : KeptBy (reporting [.time, .anatomy, .stackMem, .commonsMem, .spadMem,
    .tiles, .engines, .contexts, .stacks, .network, .fabric, .power, .recovery, .freeValues]) s (execEngineWatchdog d
    e q s) := by
  refine KeptBy.start fun k => ?_
  unfold Machine.execEngineWatchdog
  dsimp only
  split
  · split
    · exact k.turnAway.next
    · refine Kept.next ?_
      refine Kept.ok ?_
      refine Kept.modRing ?_ (by decide) _ _
      split
      · exact (k.notBefore (by decide) _).freeWork (by decide) _ _
      · exact ((k.notBefore (by decide) _).freeWork (by decide) _ _).fault (by decide) _ _ _ _
  · exact k.turnAway.next

theorem KeptBy.execCopy (d q) : KeptBy (reporting [.anatomy, .stackMem, .commonsMem, .spadMem, .tiles, .engines,
    .contexts, .stacks, .network, .fabric, .power, .recovery, .freeValues]) s (execCopy d q s) :=
  KeptBy.start fun k => (k.engineRun (by decide) _ _ _ _ _ opCopy_keeps).next

theorem KeptBy.execTranspose (d q) : KeptBy (reporting [.anatomy, .stackMem, .commonsMem, .spadMem, .tiles, .engines,
    .contexts, .stacks, .network, .fabric, .power, .recovery, .freeValues]) s (execTranspose d q s) :=
  KeptBy.start fun k => (k.engineRun (by decide) _ _ _ _ _ opTranspose_keeps).next

theorem KeptBy.execConvert (d q) : KeptBy (reporting [.anatomy, .stackMem, .commonsMem, .spadMem, .tiles, .engines,
    .contexts, .stacks, .network, .fabric, .power, .recovery, .freeValues]) s (execConvert d q s) :=
  KeptBy.start fun k => (k.engineRun (by decide) _ _ _ _ _ opConvert_keeps).next

theorem KeptBy.execStrataPack (d q) : KeptBy (reporting [.anatomy, .stackMem, .commonsMem, .spadMem, .tiles,
    .engines, .contexts, .stacks, .network, .fabric, .power, .recovery, .freeValues]) s (execStrataPack d q s) :=
  KeptBy.start fun k => (k.engineRun (by decide) _ _ _ _ _ opStrataPack_keeps).next

theorem KeptBy.execStrataTrim (d q) : KeptBy (reporting [.anatomy, .stackMem, .commonsMem, .spadMem, .tiles,
    .engines, .contexts, .stacks, .network, .fabric, .power, .recovery, .freeValues]) s (execStrataTrim d q s) :=
  KeptBy.start fun k => (k.engineRun (by decide) _ _ _ _ _ opStrataTrim_keeps).next

theorem KeptBy.execMxPack (d q) : KeptBy (reporting [.anatomy, .stackMem, .commonsMem, .spadMem, .tiles, .engines,
    .contexts, .stacks, .network, .fabric, .power, .recovery, .freeValues]) s (execMxPack d q s) :=
  KeptBy.start fun k => (k.engineRun (by decide) _ _ _ _ _ opMxPack_keeps).next

theorem KeptBy.execExp (d q) : KeptBy (reporting [.anatomy, .stackMem, .commonsMem, .spadMem, .tiles, .engines,
    .contexts, .stacks, .network, .fabric, .power, .recovery, .freeValues]) s (execExp d q s) :=
  KeptBy.start fun k => (k.engineRun (by decide) _ _ _ _ _ opCurve_keeps).next

theorem KeptBy.execLog (d q) : KeptBy (reporting [.anatomy, .stackMem, .commonsMem, .spadMem, .tiles, .engines,
    .contexts, .stacks, .network, .fabric, .power, .recovery, .freeValues]) s (execLog d q s) :=
  KeptBy.start fun k => (k.engineRun (by decide) _ _ _ _ _ opCurve_keeps).next

theorem KeptBy.execRecip (d q) : KeptBy (reporting [.anatomy, .stackMem, .commonsMem, .spadMem, .tiles, .engines,
    .contexts, .stacks, .network, .fabric, .power, .recovery, .freeValues]) s (execRecip d q s) :=
  KeptBy.start fun k => (k.engineRun (by decide) _ _ _ _ _ opCurve_keeps).next

theorem KeptBy.execRsqrt (d q) : KeptBy (reporting [.anatomy, .stackMem, .commonsMem, .spadMem, .tiles, .engines,
    .contexts, .stacks, .network, .fabric, .power, .recovery, .freeValues]) s (execRsqrt d q s) :=
  KeptBy.start fun k => (k.engineRun (by decide) _ _ _ _ _ opCurve_keeps).next

theorem KeptBy.execSqrt (d q) : KeptBy (reporting [.anatomy, .stackMem, .commonsMem, .spadMem, .tiles, .engines,
    .contexts, .stacks, .network, .fabric, .power, .recovery, .freeValues]) s (execSqrt d q s) :=
  KeptBy.start fun k => (k.engineRun (by decide) _ _ _ _ _ opCurve_keeps).next

theorem KeptBy.execGelu (d q) : KeptBy (reporting [.anatomy, .stackMem, .commonsMem, .spadMem, .tiles, .engines,
    .contexts, .stacks, .network, .fabric, .power, .recovery, .freeValues]) s (execGelu d q s) :=
  KeptBy.start fun k => (k.engineRun (by decide) _ _ _ _ _ opCurve_keeps).next

theorem KeptBy.execSilu (d q) : KeptBy (reporting [.anatomy, .stackMem, .commonsMem, .spadMem, .tiles, .engines,
    .contexts, .stacks, .network, .fabric, .power, .recovery, .freeValues]) s (execSilu d q s) :=
  KeptBy.start fun k => (k.engineRun (by decide) _ _ _ _ _ opCurve_keeps).next

theorem KeptBy.execSigmoid (d q) : KeptBy (reporting [.anatomy, .stackMem, .commonsMem, .spadMem, .tiles, .engines,
    .contexts, .stacks, .network, .fabric, .power, .recovery, .freeValues]) s (execSigmoid d q s) :=
  KeptBy.start fun k => (k.engineRun (by decide) _ _ _ _ _ opCurve_keeps).next

theorem KeptBy.execTanh (d q) : KeptBy (reporting [.anatomy, .stackMem, .commonsMem, .spadMem, .tiles, .engines,
    .contexts, .stacks, .network, .fabric, .power, .recovery, .freeValues]) s (execTanh d q s) :=
  KeptBy.start fun k => (k.engineRun (by decide) _ _ _ _ _ opCurve_keeps).next

theorem KeptBy.execLnStats (d q) : KeptBy (reporting [.anatomy, .stackMem, .commonsMem, .spadMem, .tiles, .engines,
    .contexts, .stacks, .network, .fabric, .power, .recovery, .freeValues]) s (execLnStats d q s) :=
  KeptBy.start fun k => (k.engineRun (by decide) _ _ _ _ _ (opStats_keeps _)).next

theorem KeptBy.execRmsStats (d q) : KeptBy (reporting [.anatomy, .stackMem, .commonsMem, .spadMem, .tiles, .engines,
    .contexts, .stacks, .network, .fabric, .power, .recovery, .freeValues]) s (execRmsStats d q s) :=
  KeptBy.start fun k => (k.engineRun (by decide) _ _ _ _ _ (opStats_keeps _)).next

theorem KeptBy.execNormApply (d q) : KeptBy (reporting [.anatomy, .stackMem, .commonsMem, .spadMem, .tiles, .engines,
    .contexts, .stacks, .network, .fabric, .power, .recovery, .freeValues]) s (execNormApply d q s) :=
  KeptBy.start fun k => (k.engineRun (by decide) _ _ _ _ _ opNormApply_keeps).next

theorem KeptBy.execSort (d q) : KeptBy (reporting [.anatomy, .stackMem, .commonsMem, .spadMem, .tiles, .engines,
    .contexts, .stacks, .network, .fabric, .power, .recovery, .freeValues]) s (execSort d q s) :=
  KeptBy.start fun k => (k.engineRun (by decide) _ _ _ _ _ opSort_keeps).next

theorem KeptBy.execMerge (d q) : KeptBy (reporting [.anatomy, .stackMem, .commonsMem, .spadMem, .tiles, .engines,
    .contexts, .stacks, .network, .fabric, .power, .recovery, .freeValues]) s (execMerge d q s) :=
  KeptBy.start fun k => (k.engineRun (by decide) _ _ _ _ _ (opMerge_keeps _)).next

theorem KeptBy.execMergeSum (d q) : KeptBy (reporting [.anatomy, .stackMem, .commonsMem, .spadMem, .tiles, .engines,
    .contexts, .stacks, .network, .fabric, .power, .recovery, .freeValues]) s (execMergeSum d q s) :=
  KeptBy.start fun k => (k.engineRun (by decide) _ _ _ _ _ (opMerge_keeps _)).next

theorem KeptBy.execTopk (d q) : KeptBy (reporting [.anatomy, .stackMem, .commonsMem, .spadMem, .tiles, .engines,
    .contexts, .stacks, .network, .fabric, .power, .recovery, .freeValues]) s (execTopk d q s) :=
  KeptBy.start fun k => (k.engineRun (by decide) _ _ _ _ _ opTopk_keeps).next

theorem KeptBy.execGather (d q) : KeptBy (reporting [.anatomy, .stackMem, .commonsMem, .spadMem, .tiles, .engines,
    .contexts, .stacks, .network, .fabric, .power, .recovery, .freeValues]) s (execGather d q s) :=
  KeptBy.start fun k => (k.engineRun (by decide) _ _ _ _ _ opGather_keeps).next

theorem KeptBy.execScatter (d q) : KeptBy (reporting [.anatomy, .stackMem, .commonsMem, .spadMem, .tiles, .engines,
    .contexts, .stacks, .network, .fabric, .power, .recovery, .freeValues]) s (execScatter d q s) :=
  KeptBy.start fun k => (k.engineRun (by decide) _ _ _ _ _ opScatter_keeps).next

theorem KeptBy.execScatterAdd (d q) : KeptBy (reporting [.anatomy, .stackMem, .commonsMem, .spadMem, .tiles,
    .engines, .contexts, .stacks, .network, .fabric, .power, .recovery, .freeValues]) s (execScatterAdd d q s) :=
  KeptBy.start fun k => (k.engineRun (by decide) _ _ _ _ _ opScatterAdd_keeps).next

theorem KeptBy.execPredict (d q) : KeptBy (reporting [.anatomy, .stackMem, .commonsMem, .spadMem, .tiles, .engines,
    .contexts, .stacks, .network, .fabric, .power, .recovery, .freeValues]) s (execPredict d q s) :=
  KeptBy.start fun k => (k.engineRun (by decide) _ _ _ _ _ opPredict_keeps).next

theorem KeptBy.execCertifyTopk (d q) : KeptBy (reporting [.anatomy, .stackMem, .commonsMem, .spadMem, .tiles,
    .engines, .contexts, .stacks, .network, .fabric, .power, .recovery, .freeValues]) s (execCertifyTopk d q s) :=
  KeptBy.start fun k => (k.engineRun (by decide) _ _ _ _ _ opCertify_keeps).next

theorem KeptBy.execTopkSelection (d vec settled dst) : KeptBy (reporting [.commonsMem, .tiles, .engines, .contexts,
    .network, .recovery]) s (execTopkSelection d vec settled dst s) := by
  refine KeptBy.start fun k => ?_
  unfold Machine.execTopkSelection
  dsimp only
  split
  · split
    · exact k.turnAway.next
    · refine Kept.next ?_
      refine Kept.ok ?_
      refine Kept.unitFail ?_ (by decide) _ _ _ _ _
      split
      · split
        · exact ((k.commonsWrite (by decide) _ _ _ _ _).modEngine (by decide) _ _).modEngine (by decide) _ _
        · exact (k.commonsWrite (by decide) _ _ _ _ _).modEngine (by decide) _ _
      · split
        · exact ((k.commonsWrite (by decide) _ _ _ _ _).modEngine (by decide) _ _).modEngine (by decide) _ _
        · exact (k.commonsWrite (by decide) _ _ _ _ _).modEngine (by decide) _ _
  · exact k.turnAway.next

theorem KeptBy.execCombine (d q) : KeptBy (reporting [.anatomy, .stackMem, .commonsMem, .spadMem, .tiles, .engines,
    .contexts, .stacks, .network, .fabric, .power, .recovery, .freeValues]) s (execCombine d q s) :=
  KeptBy.start fun k => (k.engineRun (by decide) _ _ _ _ _ opCombine_keeps).next

theorem KeptBy.execSign1Enc (d q) : KeptBy (reporting [.anatomy, .stackMem, .commonsMem, .spadMem, .tiles, .engines,
    .contexts, .stacks, .network, .fabric, .power, .recovery, .freeValues]) s (execSign1Enc d q s) :=
  KeptBy.start fun k => (k.engineRun (by decide) _ _ _ _ _ opSign1Enc_keeps).next

theorem KeptBy.execSign1Dec (d q) : KeptBy (reporting [.anatomy, .stackMem, .commonsMem, .spadMem, .tiles, .engines,
    .contexts, .stacks, .network, .fabric, .power, .recovery, .freeValues]) s (execSign1Dec d q s) :=
  KeptBy.start fun k => (k.engineRun (by decide) _ _ _ _ _ opSign1Dec_keeps).next

theorem KeptBy.execRingStep (d q) : KeptBy (reporting [.anatomy, .stackMem, .commonsMem, .spadMem, .tiles, .engines,
    .contexts, .stacks, .network, .fabric, .power, .recovery, .freeValues]) s (execRingStep d q s) :=
  KeptBy.start fun k => (k.ringStepRun (by decide) _ _).next

theorem KeptBy.execGcmEnc (d q) : KeptBy (reporting [.anatomy, .stackMem, .commonsMem, .spadMem, .tiles, .engines,
    .contexts, .stacks, .network, .fabric, .power, .recovery, .freeValues]) s (execGcmEnc d q s) :=
  KeptBy.start fun k => (k.engineRun (by decide) _ _ _ _ _ (opGcm_keeps _)).next

theorem KeptBy.execGcmDec (d q) : KeptBy (reporting [.anatomy, .stackMem, .commonsMem, .spadMem, .tiles, .engines,
    .contexts, .stacks, .network, .fabric, .power, .recovery, .freeValues]) s (execGcmDec d q s) :=
  KeptBy.start fun k => (k.engineRun (by decide) _ _ _ _ _ (opGcm_keeps _)).next

theorem KeptBy.execSha3256 (d q) : KeptBy (reporting [.anatomy, .stackMem, .commonsMem, .spadMem, .tiles, .engines,
    .contexts, .stacks, .network, .fabric, .power, .recovery, .freeValues]) s (execSha3256 d q s) :=
  KeptBy.start fun k => (k.engineRun (by decide) _ _ _ _ _ (opSha3_keeps _)).next

theorem KeptBy.execSha3512 (d q) : KeptBy (reporting [.anatomy, .stackMem, .commonsMem, .spadMem, .tiles, .engines,
    .contexts, .stacks, .network, .fabric, .power, .recovery, .freeValues]) s (execSha3512 d q s) :=
  KeptBy.start fun k => (k.engineRun (by decide) _ _ _ _ _ (opSha3_keeps _)).next

theorem KeptBy.execHashVerify (d q) : KeptBy (reporting [.anatomy, .stackMem, .commonsMem, .spadMem, .tiles,
    .engines, .contexts, .stacks, .network, .fabric, .power, .recovery, .freeValues]) s (execHashVerify d q s) :=
  KeptBy.start fun k => (k.engineRun (by decide) _ _ _ _ _ opHashVerify_keeps).next

theorem KeptBy.execSwitchDrain (c) : KeptBy [Part.contexts] s (execSwitchDrain c s) :=
  KeptBy.start fun k => (k.switchDrain (by decide) _).next

theorem KeptBy.execSwitchFlush (c) : KeptBy [Part.contexts] s (execSwitchFlush c s) :=
  KeptBy.start fun k => (k.switchFlush (by decide) _).next

theorem KeptBy.execRollback (c) : KeptBy [Part.tiles, .contexts] s (execRollback c s) :=
  KeptBy.start fun k => (k.rollbackCmd (by decide) _).next

theorem KeptBy.execHalt (c) : KeptBy [Part.counters, .contexts, .messages] s (execHalt c s) :=
  KeptBy.start fun k => (k.haltCmd (by decide) _).next

theorem KeptBy.execResume (c) : KeptBy [Part.counters, .contexts, .messages] s (execResume c s) :=
  KeptBy.start fun k => (k.resumeCmd (by decide) _).next

theorem KeptBy.execSuspend (c) : KeptBy (reporting [.anatomy, .stackMem, .commonsMem, .spadMem, .tiles, .engines,
    .contexts, .stacks, .network, .fabric, .power, .recovery, .freeValues]) s (execSuspend c s) :=
  KeptBy.start fun k => (k.suspendCmd (by decide) _).next

theorem KeptBy.execReinstate (c) : KeptBy (reporting [.anatomy, .stackMem, .commonsMem, .spadMem, .tiles, .engines,
    .contexts, .stacks, .network, .fabric, .power, .recovery, .freeValues]) s (execReinstate c s) :=
  KeptBy.start fun k => (k.reinstate (by decide) _).next

theorem KeptBy.execCfg (d u' t') : KeptBy [Part.counters, .contexts, .messages] s (execCfg d u' t' s) := by
  refine KeptBy.start fun k => ?_
  unfold Machine.execCfg
  refine Kept.next ?_
  split
  · exact ((k.ctrl (by decide) _ _ _ _).modUnit (by decide) _ _).ok
  · exact ((k.ctrl (by decide) _ _ _ _).modUnit (by decide) _ _).ok

theorem KeptBy.execUnitDrainSwitch (d u') : KeptBy (reporting [.anatomy, .stackMem, .commonsMem, .spadMem, .tiles,
    .engines, .contexts, .stacks, .network, .fabric, .power, .recovery]) s (execUnitDrainSwitch d u' s) := by
  refine KeptBy.start fun k => ?_
  unfold Machine.execUnitDrainSwitch
  refine Kept.next ?_
  dsimp only
  split
  · exact (k.afterArm (by decide) _ _).turnAway
  · split
    · exact ((k.afterArm (by decide) _ _).heads (by decide) _ _ _ _).ok
    · split
      · exact ((k.afterArm (by decide) _ _).heads (by decide) _ _ _ _).turnAway
      · split
        · exact (((k.afterArm (by decide) _ _).heads (by decide) _ _ _ _).outWait (by decide) _ _ _).turnAway
        · exact ((((((k.afterArm (by decide) _ _).heads (by decide) _ _ _ _).dropBackEdges (by decide) _ _ _
              _).sendEnds (by decide) _ _ _ _).dropLeft (by decide) _ _).turnUnit (by decide) _ _ _ _ _).ok

theorem KeptBy.execUnitFlush (d u') : KeptBy (reporting [.anatomy, .stackMem, .commonsMem, .spadMem, .tiles,
    .engines, .contexts, .stacks, .network, .fabric, .power, .recovery, .freeValues]) s (execUnitFlush d u' s) := by
  refine KeptBy.start fun k => ?_
  unfold Machine.execUnitFlush
  refine Kept.next ?_
  split
  · exact (k.afterArm (by decide) _ _).turnAway
  · split
    · exact ((k.afterArm (by decide) _ _).flushUnit (by decide) _ _ _ _).ok
    · exact (k.afterArm (by decide) _ _).turnAway

theorem KeptBy.execUnitRollback (d u') : KeptBy (reporting [.anatomy, .stackMem, .commonsMem, .spadMem, .tiles,
    .engines, .contexts, .stacks, .network, .fabric, .power, .recovery, .freeValues]) s (execUnitRollback d u' s) :=
    by
  refine KeptBy.start fun k => ?_
  unfold Machine.execUnitRollback
  refine Kept.next ?_
  split
  · exact (k.afterArm (by decide) _ _).turnAway
  · split
    · exact ((k.afterArm (by decide) _ _).flushUnit (by decide) _ _ _ _).ok
    · exact (k.afterArm (by decide) _ _).turnAway

theorem KeptBy.execSwitchComplete (c) : KeptBy (reporting [.anatomy, .stackMem, .commonsMem, .spadMem, .tiles,
    .engines, .contexts, .stacks, .network, .fabric, .power, .recovery, .freeValues]) s (execSwitchComplete c s) := by
  refine KeptBy.start fun k => ?_
  unfold Machine.execSwitchComplete
  refine Kept.next ?_
  split
  · exact (((k.settleArm (by decide) _).completeSwitch (by decide) _).takeDeferred (by decide) _).ok
  · exact (k.settleArm (by decide) _).turnAway

theorem KeptBy.execSwitchTimeout (c) : KeptBy (reporting [.time, .contexts]) s (execSwitchTimeout c s) := by
  refine KeptBy.start fun k => ?_
  unfold Machine.execSwitchTimeout
  refine Kept.next ?_
  split
  · exact ((((k.settleArm (by decide) _).notBefore (by decide) _).fault (by decide) _ _ _ _).drainToFlush (by decide)
        _).ok
  · exact (k.settleArm (by decide) _).turnAway

theorem KeptBy.execJoinWatchdog (d u') : KeptBy (reporting [.time, .contexts]) s (execJoinWatchdog d u' s) := by
  refine KeptBy.start fun k => ?_
  unfold Machine.execJoinWatchdog
  refine Kept.next ?_
  dsimp only
  split
  · exact (k.afterArm (by decide) _ _).turnAway
  · split
    · exact ((k.afterArm (by decide) _ _).modUnit (by decide) _ _).turnAway
    · split
      · exact ((k.afterArm (by decide) _ _).modUnit (by decide) _ _).ok
      · split
        · exact ((k.afterArm (by decide) _ _).modUnit (by decide) _ _).turnAway
        · refine Kept.ok ?_
          split
          · exact (((k.afterArm (by decide) _ _).notBefore (by decide) _).fault (by decide) _ _ _ _).drainToFlush
                (by decide) _
          · exact (((k.afterArm (by decide) _ _).notBefore (by decide) _).fault (by decide) _ _ _ _).haltCtx
                (by decide) _

theorem KeptBy.execLiveWriteApply (d u') : KeptBy [Part.counters, .contexts] s (execLiveWriteApply d u' s) := by
  refine KeptBy.start fun k => ?_
  unfold Machine.execLiveWriteApply
  refine Kept.next ?_
  dsimp only
  split
  · split
    · exact k.turnAway
    · exact ((k.modUnit (by decide) _ _).count (by decide) _ _ _ _).ok
  · split
    · exact k.turnAway
    · exact ((k.modUnit (by decide) _ _).count (by decide) _ _ _ _).ok

theorem KeptBy.execCtxBcast (d u' b) : KeptBy [Part.counters, .contexts, .messages] s (execCtxBcast d u' b s) := by
  refine KeptBy.start fun k => ?_
  unfold Machine.execCtxBcast
  refine Kept.next ?_
  dsimp only
  split
  · exact k.turnAway
  · split
    · split
      · split
        · exact ((k.ctrl (by decide) _ _ _ _).modUnit (by decide) _ _).ok
        · exact (((k.ctrl (by decide) _ _ _ _).modUnit (by decide) _ _).unpause (by decide) _).ok
      · exact ((k.ctrl (by decide) _ _ _ _).modUnit (by decide) _ _).ok
    · exact ((k.ctrl (by decide) _ _ _ _).modUnit (by decide) _ _).ok
    · exact ((k.ctrl (by decide) _ _ _ _).modUnit (by decide) _ _).ok
    · exact ((k.ctrl (by decide) _ _ _ _).modUnit (by decide) _ _).ok
    · exact ((k.ctrl (by decide) _ _ _ _).modUnit (by decide) _ _).ok

theorem KeptBy.execImageLoad (c img) : KeptBy (reporting [.anatomy, .stackMem, .commonsMem, .spadMem, .tiles,
    .engines, .contexts, .stacks, .network, .fabric, .power, .recovery]) s (execImageLoad c img s) := by
  refine KeptBy.start fun k => ?_
  unfold Machine.execImageLoad
  refine Kept.next ?_
  dsimp only
  split
  · exact k.fstatus _
  · split
    · exact k.fstatus _
    · split
      · exact (k.fault (by decide) _ _ _ _).fstatus _
      · exact (((k.unbind (by decide) _ _ _).bind (by decide) _ _ _).resetResidues (by decide) _ _).fstatus _

theorem KeptBy.execCheckpointDue (c) : KeptBy (reporting [.time, .anatomy, .stackMem, .commonsMem, .spadMem, .tiles,
    .engines, .contexts, .stacks, .network, .fabric, .power, .recovery, .freeValues]) s (execCheckpointDue c s) := by
  refine KeptBy.start fun k => ?_
  unfold Machine.execCheckpointDue
  refine Kept.next ?_
  dsimp only
  split
  · exact k.turnAway
  · split
    · exact ((k.notBefore (by decide) _).beginCheckpoint (by decide) _).ok
    · exact ((k.notBefore (by decide) _).modCtx (by decide) _ _).ok

theorem KeptBy.execCheckpointComplete (c) : KeptBy (reporting [.anatomy, .stackMem, .commonsMem, .spadMem, .tiles,
    .engines, .contexts, .stacks, .network, .fabric, .power, .recovery]) s (execCheckpointComplete c s) := by
  refine KeptBy.start fun k => ?_
  unfold Machine.execCheckpointComplete
  refine Kept.next ?_
  split
  · split
    · exact (k.endCheckpoint (by decide) _ _ _).ok
    · exact k.turnAway
  · exact k.turnAway

theorem KeptBy.execCheckpointSkip (c) : KeptBy [Part.time, .counters, .contexts] s (execCheckpointSkip c s) := by
  refine KeptBy.start fun k => ?_
  unfold Machine.execCheckpointSkip
  refine Kept.next ?_
  dsimp only
  split
  · exact k.turnAway
  · exact (((k.notBefore (by decide) _).modCtx (by decide) _ _).count (by decide) _ _ _ _).ok

theorem KeptBy.execSettle (d u') : KeptBy (reporting [.anatomy, .commonsMem, .spadMem, .tiles, .engines, .contexts,
    .network, .fabric, .power, .recovery]) s (execSettle d u' s) :=
  KeptBy.start fun k => (k.streamToken (by decide) _ _ _ (fun u a ku => fun u a ku => ku.modUnit (by decide) _
      _)).next

theorem KeptBy.execHint (d u') : KeptBy (reporting [.anatomy, .commonsMem, .spadMem, .tiles, .engines, .contexts,
    .network, .fabric, .power, .recovery]) s (execHint d u' s) := by
  refine KeptBy.start fun k => ?_
  unfold Machine.execHint
  refine Kept.next ?_
  refine Kept.streamToken k (by decide) _ _ _ ?_
  dsimp only
  intro _ _ _ u _ ku
  refine Kept.confirmGeyser ?_ (by decide) _ _
  split
  · exact ku.foldl (fun u a ku => ku.hintOutput (by decide) _ _ _ _ _ _)
  · exact ku

theorem KeptBy.execGroupEnd (d u') : KeptBy (reporting [.anatomy, .commonsMem, .spadMem, .tiles, .engines, .contexts,
    .network, .fabric, .power, .recovery]) s (execGroupEnd d u' s) :=
  KeptBy.start fun k => (k.streamToken (by decide) _ _ _ (fun u a ku => fun u a ku => (ku.resolveGroup (by decide) _
      _ _ _).discardGeyser (by decide) _ _)).next

theorem KeptBy.execDispatchSpan (d t' a cols) :
    KeptBy (reporting [.tiles, .contexts]) s (execDispatchSpan d t' a cols s) := by
  refine KeptBy.start fun k => ?_
  unfold Machine.execDispatchSpan
  dsimp only
  split
  · split
    · split
      · exact k.turnAway.next
      · split
        · exact (((k.sparseFault (by decide) _ _ _ _ _ _).count (by decide) _ _ _ _).ok).next
        · split
          · exact (((k.sparseFault (by decide) _ _ _ _ _ _).modTile (by decide) _ _).ok).next
          · exact (((k.count (by decide) _ _ _ _).count (by decide) _ _ _ _).turnAway).next
    · exact k.turnAway.next
  · exact k.turnAway.next

theorem KeptBy.execRead (at_ p) : KeptBy (reporting [.anatomy, .stackMem, .commonsMem, .spadMem, .tiles, .engines,
    .contexts, .stacks, .network, .fabric, .power, .recovery, .freeValues]) s (execRead at_ p s) :=
  KeptBy.start fun k => (k.packetCmd (by decide) _ _ _).next

theorem KeptBy.execReadData (at_ p) : KeptBy (reporting [.anatomy, .stackMem, .commonsMem, .spadMem, .tiles,
    .engines, .contexts, .stacks, .network, .fabric, .power, .recovery, .freeValues]) s (execReadData at_ p s) :=
  KeptBy.start fun k => (k.packetCmd (by decide) _ _ _).next

theorem KeptBy.execWrite (at_ p) : KeptBy (reporting [.anatomy, .stackMem, .commonsMem, .spadMem, .tiles, .engines,
    .contexts, .stacks, .network, .fabric, .power, .recovery, .freeValues]) s (execWrite at_ p s) :=
  KeptBy.start fun k => (k.packetCmd (by decide) _ _ _).next

theorem KeptBy.execWriteDone (at_ p) : KeptBy (reporting [.anatomy, .stackMem, .commonsMem, .spadMem, .tiles,
    .engines, .contexts, .stacks, .network, .fabric, .power, .recovery, .freeValues]) s (execWriteDone at_ p s) :=
  KeptBy.start fun k => (k.packetCmd (by decide) _ _ _).next

theorem KeptBy.execToken (at_ p) : KeptBy (reporting [.anatomy, .stackMem, .commonsMem, .spadMem, .tiles, .engines,
    .contexts, .stacks, .network, .fabric, .power, .recovery, .freeValues]) s (execToken at_ p s) :=
  KeptBy.start fun k => (k.packetCmd (by decide) _ _ _).next

theorem KeptBy.execRouterForward (d p) : KeptBy [Part.counters, .network, .messages] s (execRouterForward d p s) :=
  KeptBy.start fun k => ((k.forward (by decide) _ _).ok).next

theorem KeptBy.execRegulatorRelease (d vc prio) :
    KeptBy [Part.time, .counters, .network, .fabric, .messages] s (execRegulatorRelease d vc prio s) := by
  refine KeptBy.start fun k => ?_
  unfold Machine.execRegulatorRelease
  refine Kept.next ?_
  dsimp only
  split
  · exact k.turnAway
  · split
    · exact k.turnAway
    · split
      · exact k.turnAway
      · exact (((k.notBefore (by decide) _).withNet (by decide) _).leave (by decide) _ _ _).ok

theorem KeptBy.execAck (src dst vc seq) : KeptBy [Part.contexts, .network] s (execAck src dst vc seq s) := by
  refine KeptBy.start fun k => ?_
  unfold Machine.execAck
  refine Kept.next ?_
  split
  · exact (k.acked (by decide) _).ok
  · exact k.turnAway

theorem KeptBy.execResendTimeout (src dst vc seq) : KeptBy (reporting [.time, .tiles, .engines, .contexts, .network,
    .fabric, .recovery]) s (execResendTimeout src dst vc seq s) := by
  refine KeptBy.start fun k => ?_
  unfold Machine.execResendTimeout
  refine Kept.next ?_
  dsimp only
  split
  · exact k.turnAway
  · split
    · exact ((k.notBefore (by decide) _).resend (by decide) _).ok
    · exact ((k.notBefore (by decide) _).pathFault (by decide) _).status _

theorem KeptBy.execPathTest (src dst lanes) : KeptBy (reporting [.anatomy, .commonsMem, .tiles, .engines, .contexts,
    .stacks, .network, .fabric, .power, .recovery]) s (execPathTest src dst lanes s) := by
  refine KeptBy.start fun k => ?_
  unfold Machine.execPathTest
  refine Kept.next ?_
  dsimp only
  split
  · exact k.turnAway
  · refine Kept.ok ?_
    split
    · exact (k.addLanes (by decide) _).event (by decide) _ _ _ _
    · exact ((k.addLanes (by decide) _).event (by decide) _ _ _ _).reroute (by decide)

theorem KeptBy.execQcredit (d q n) : KeptBy [Part.contexts] s (execQcredit d q n s) := by
  refine KeptBy.start fun k => ?_
  unfold Machine.execQcredit
  refine Kept.next ?_
  split
  · exact (k.modQueue (by decide) _ _).ok
  · exact k.turnAway

theorem KeptBy.execSyncRead (r) : KeptBy (reporting [.contexts, .network, .fabric]) s (execSyncRead r s) :=
  KeptBy.start fun k => (k.syncCmd (by decide) _ _ _).next

theorem KeptBy.execSyncWrite (r v) : KeptBy (reporting [.contexts, .network, .fabric]) s (execSyncWrite r v s) :=
  KeptBy.start fun k => (k.syncCmd (by decide) _ _ _).next

theorem KeptBy.execInit (r v) : KeptBy (reporting [.contexts, .network, .fabric]) s (execInit r v s) :=
  KeptBy.start fun k => (k.syncCmd (by decide) _ _ _).next

theorem KeptBy.execArrive (r v) : KeptBy (reporting [.contexts, .network, .fabric]) s (execArrive r v s) :=
  KeptBy.start fun k => (k.syncCmd (by decide) _ _ _).next

theorem KeptBy.execWait (r v) : KeptBy (reporting [.contexts, .network, .fabric]) s (execWait r v s) :=
  KeptBy.start fun k => (k.syncCmd (by decide) _ _ _).next

theorem KeptBy.execFetchAdd (r v) : KeptBy (reporting [.contexts, .network, .fabric]) s (execFetchAdd r v s) :=
  KeptBy.start fun k => (k.syncCmd (by decide) _ _ _).next

theorem KeptBy.execCas (r v) : KeptBy (reporting [.contexts, .network, .fabric]) s (execCas r v s) :=
  KeptBy.start fun k => (k.syncCmd (by decide) _ _ _).next

theorem KeptBy.execLink (r v) : KeptBy (reporting [.contexts, .network, .fabric]) s (execLink r v s) :=
  KeptBy.start fun k => (k.syncCmd (by decide) _ _ _).next

theorem KeptBy.execReadLink (r) : KeptBy (reporting [.contexts, .network, .fabric]) s (execReadLink r s) :=
  KeptBy.start fun k => (k.syncCmd (by decide) _ _ _).next

theorem KeptBy.execRelease (at_ parent) :
    KeptBy [Part.counters, .network, .fabric, .messages] s (execRelease at_ parent s) := by
  refine KeptBy.start fun k => ?_
  unfold Machine.execRelease
  refine Kept.next ?_
  split
  · split
    · exact (k.releaseAt (by decide) _ _ _).ok
    · exact k.turnAway
  · split
    · exact (k.releaseAt (by decide) _ _ _).ok
    · exact k.turnAway
  · exact k.turnAway

theorem KeptBy.execShardManifest (c m) :
    KeptBy (reporting [.contexts, .stacks, .fabric]) s (execShardManifest c m s) :=
  KeptBy.start fun k => (k.loadManifest (by decide) _ _).next

theorem KeptBy.execFill (c) : KeptBy [Part.contexts, .fabric] s (execFill c s) :=
  KeptBy.start fun k => (k.fillCmd (by decide) _ _).next

theorem KeptBy.execAbandon (c) : KeptBy [Part.contexts, .fabric] s (execAbandon c s) :=
  KeptBy.start fun k => (k.fillCmd (by decide) _ _).next

theorem KeptBy.execFillAttempt (c i) : KeptBy (reporting [.anatomy, .stackMem, .commonsMem, .spadMem, .tiles,
    .engines, .contexts, .stacks, .network, .fabric, .power, .recovery]) s (execFillAttempt c i s) := by
  refine KeptBy.start fun k => ?_
  unfold Machine.execFillAttempt
  refine Kept.next ?_
  dsimp only
  split
  · exact k.turnAway
  · split
    · exact k.turnAway
    · split
      · split
        · exact (k.fillPeer (by decide) _ _ _ _).ok
        · exact ((k.fillPeer (by decide) _ _ _ _).attemptFails (by decide) _ _ _).ok
      · split
        · exact (k.fillLocal (by decide) _ _ _).ok
        · exact ((k.fillLocal (by decide) _ _ _).attemptFails (by decide) _ _ _).ok
      · split
        · exact (k.fillSeed (by decide) _ _ _ _).ok
        · exact ((k.fillSeed (by decide) _ _ _ _).attemptFails (by decide) _ _ _).ok
      · dsimp only
        split
        · exact k.ok
        · exact (k.attemptFails (by decide) _ _ _).ok

theorem KeptBy.execFillWritten (c i) : KeptBy [Part.contexts, .fabric] s (execFillWritten c i s) := by
  refine KeptBy.start fun k => ?_
  unfold Machine.execFillWritten
  refine Kept.next ?_
  split
  · exact k.turnAway
  · split
    · exact ((k.freeTag (by decide) _ _).modShard (by decide) _ _ _).ok
    · exact k.turnAway

theorem KeptBy.execShardVerifyDone (c i) : KeptBy (reporting [.anatomy, .stackMem, .commonsMem, .spadMem, .tiles,
    .engines, .contexts, .stacks, .network, .fabric, .power, .recovery, .freeValues]) s (execShardVerifyDone c i s)
    := by
  refine KeptBy.start fun k => ?_
  unfold Machine.execShardVerifyDone
  refine Kept.next ?_
  dsimp only
  split
  · exact k.turnAway
  · split
    · exact k.turnAway
    · split
      · exact (((k.modShard (by decide) _ _ _).count (by decide) _ _ _ _).proceed (by decide) _ _).ok
      · exact (((k.count (by decide) _ _ _ _).event (by decide) _ _ _ _).attemptFails (by decide) _ _ _).ok

theorem KeptBy.execFillAttemptTimeout (c i) :
    KeptBy (reporting [.time, .contexts, .fabric]) s (execFillAttemptTimeout c i s) := by
  refine KeptBy.start fun k => ?_
  unfold Machine.execFillAttemptTimeout
  refine Kept.next ?_
  split
  · exact ((k.notBefore (by decide) _).attemptFails (by decide) _ _ _).ok
  · exact k.turnAway

theorem KeptBy.execShardWaitLimit (c i) : KeptBy (reporting [.time, .anatomy, .stackMem, .commonsMem, .spadMem,
    .tiles, .engines, .contexts, .stacks, .network, .fabric, .power, .recovery]) s (execShardWaitLimit c i s) := by
  refine KeptBy.start fun k => ?_
  unfold Machine.execShardWaitLimit
  refine Kept.next ?_
  dsimp only
  split
  · exact (((((k.notBefore (by decide) _).modCtx (by decide) _ _).fault (by decide) _ _ _ _).haltCtx (by decide)
        _).failSites (by decide) _ _).ok
  · exact k.turnAway

theorem KeptBy.execDigestPatrol (c i) : KeptBy (reporting [.time, .contexts]) s (execDigestPatrol c i s) := by
  refine KeptBy.start fun k => ?_
  unfold Machine.execDigestPatrol
  refine Kept.next ?_
  dsimp only
  split
  · exact k.turnAway
  · split
    · exact k.turnAway
    · split
      · exact (((k.notBefore (by decide) _).modShard (by decide) _ _ _).count (by decide) _ _ _ _).ok
      · exact ((k.notBefore (by decide) _).quarantine (by decide) _ _ _ _).ok

theorem KeptBy.execScrub (k') : KeptBy (reporting [.anatomy, .commonsMem, .tiles, .engines, .contexts, .stacks,
    .network, .fabric, .power, .recovery]) s (execScrub k' s) := by
  refine KeptBy.start fun k => ?_
  unfold Machine.execScrub
  refine Kept.next ?_
  split
  · exact k.turnAway
  · exact (k.scrubPass (by decide) _).ok

theorem KeptBy.execStackBankZeroise (k' b) : KeptBy [Part.stackMem, .stacks] s (execStackBankZeroise k' b s) := by
  refine KeptBy.start fun k => ?_
  unfold Machine.execStackBankZeroise
  refine Kept.next ?_
  split
  · exact (k.zeroBank (by decide) _ _).ok
  · exact k.turnAway

theorem KeptBy.execLinkEnable (v) : KeptBy [Part.fabric] s (execLinkEnable v s) := by
  refine KeptBy.start fun k => ?_
  unfold Machine.execLinkEnable
  refine Kept.next ?_
  split
  · exact (k.beginTrain (by decide) _).ok
  · exact k.turnAway

theorem KeptBy.execTrainComplete (v tx rx) : KeptBy [Part.fabric] s (execTrainComplete v tx rx s) := by
  refine KeptBy.start fun k => ?_
  unfold Machine.execTrainComplete
  refine Kept.next ?_
  dsimp only
  split
  · exact k.turnAway
  · split
    · exact ((k.modVent (by decide) _ _).modVent (by decide) _ _).ok
    · exact ((k.modVent (by decide) _ _).linkFault (by decide) _ _).ok

theorem KeptBy.execKeyx (v k') : KeptBy (reporting [.fabric]) s (execKeyx v k' s) := by
  refine KeptBy.start fun k => ?_
  unfold Machine.execKeyx
  refine Kept.next ?_
  dsimp only
  split
  · exact (k.admitPeer (by decide) _ _).ok
  · refine Kept.ok ?_
    split
    · exact (k.modVent (by decide) _ _).admitPeer (by decide) _ _
    · exact ((k.modVent (by decide) _ _).admitPeer (by decide) _ _).noteDirection (by decide) _
  · exact k.turnAway

theorem KeptBy.execKeyxComplete (v) : KeptBy (reporting [.fabric]) s (execKeyxComplete v s) := by
  refine KeptBy.start fun k => ?_
  unfold Machine.execKeyxComplete
  refine Kept.next ?_
  split
  · exact ((k.modVent (by decide) _ _).noteDirection (by decide) _).ok
  · split
    · exact ((k.modVent (by decide) _ _).count (by decide) _ _ _ _).ok
    · exact k.turnAway

theorem KeptBy.execLinkRetry (v) : KeptBy [Part.time, .fabric] s (execLinkRetry v s) := by
  refine KeptBy.start fun k => ?_
  unfold Machine.execLinkRetry
  refine Kept.next ?_
  split
  · exact (((k.notBefore (by decide) _).beginTrain (by decide) _).modVent (by decide) _ _).ok
  · exact k.turnAway

theorem KeptBy.execFrameRx (v f) : KeptBy (reporting [.anatomy, .stackMem, .commonsMem, .spadMem, .tiles, .engines,
    .contexts, .stacks, .network, .fabric, .power, .recovery, .freeValues]) s (execFrameRx v f s) := by
  refine KeptBy.start fun k => ?_
  unfold Machine.execFrameRx
  refine Kept.next ?_
  dsimp only
  split
  · exact k.turnAway
  · split
    · exact (k.count (by decide) _ _ _ _).ok
    · split
      · exact (k.gcmFailed (by decide) _).ok
      · split
        · refine Kept.takeBody ?_ (by decide) _ _
          refine Kept.ok ?_
          split
          · exact (((k.modVent (by decide) _ _).count (by decide) _ _ _ _).countHigh (by decide) _ _ _ _).sendFrame
                (by decide) _ _ _ _ _
          · exact ((k.modVent (by decide) _ _).count (by decide) _ _ _ _).countHigh (by decide) _ _ _ _
        · split
          · split
            · exact (((((k.modVent (by decide) _ _).count (by decide) _ _ _ _).countHigh (by decide) _ _ _
                  _).sendFrame (by decide) _ _ _ _ _).ok).count (by decide) _ _ _ _
            · split
              · exact (((((k.modVent (by decide) _ _).count (by decide) _ _ _ _).countHigh (by decide) _ _ _
                    _).sendFrame (by decide) _ _ _ _ _).ok).takeBody (by decide) _ _
              · exact (((((k.modVent (by decide) _ _).count (by decide) _ _ _ _).countHigh (by decide) _ _ _
                    _).sendFrame (by decide) _ _ _ _ _).ok).transit (by decide) _ _
          · split
            · exact ((((k.modVent (by decide) _ _).count (by decide) _ _ _ _).countHigh (by decide) _ _ _
                  _).ok).count (by decide) _ _ _ _
            · split
              · exact ((((k.modVent (by decide) _ _).count (by decide) _ _ _ _).countHigh (by decide) _ _ _
                    _).ok).takeBody (by decide) _ _
              · exact ((((k.modVent (by decide) _ _).count (by decide) _ _ _ _).countHigh (by decide) _ _ _
                    _).ok).transit (by decide) _ _

theorem KeptBy.execCredit (v cls units) :
    KeptBy [Part.counters, .fabric, .messages] s (execCredit v cls units s) := by
  refine KeptBy.start fun k => ?_
  unfold Machine.execCredit
  refine Kept.next ?_
  split
  · exact (k.takeCredit (by decide) _ _ _).ok
  · exact k.turnAway

theorem KeptBy.execLinkstate (panel dir up) : KeptBy (reporting [.fabric]) s (execLinkstate panel dir up s) :=
  KeptBy.start fun k => ((k.setDown (by decide) _ _ _ _).ok).next

theorem KeptBy.execLaneGroupOut (v tx f) : KeptBy (reporting [.fabric]) s (execLaneGroupOut v tx f s) := by
  refine KeptBy.start fun k => ?_
  unfold Machine.execLaneGroupOut
  refine Kept.next ?_
  dsimp only
  split
  · exact k.turnAway
  · split
    · exact (k.setGroup (by decide) _ _ _ _).ok
    · split
      · exact ((k.setGroup (by decide) _ _ _ _).linkDown (by decide) _).ok
      · exact ((k.setGroup (by decide) _ _ _ _).beginTrain (by decide) _).ok

theorem KeptBy.execGroupRetrain (v tx f good) :
    KeptBy (reporting [.time, .fabric]) s (execGroupRetrain v tx f good s) := by
  refine KeptBy.start fun k => ?_
  unfold Machine.execGroupRetrain
  refine Kept.next ?_
  dsimp only
  split
  · exact k.turnAway
  · split
    · exact k.turnAway
    · split
      · exact ((k.notBefore (by decide) _).setGroup (by decide) _ _ _ _).ok
      · exact ((k.notBefore (by decide) _).modVent (by decide) _ _).ok

theorem KeptBy.execRekey (v) : KeptBy [Part.time, .counters, .fabric, .messages] s (execRekey v s) := by
  refine KeptBy.start fun k => ?_
  unfold Machine.execRekey
  refine Kept.next ?_
  dsimp only
  split
  · refine Kept.ok ?_
    refine Kept.sendFrame ?_ (by decide) _ _ _ _ _
    refine Kept.modVent ?_ (by decide) _ _
    split
    · exact k
    · exact k.notBefore (by decide) _
  · exact k.turnAway

theorem KeptBy.execMarginRefresh (v lanes) : KeptBy (reporting [.fabric]) s (execMarginRefresh v lanes s) := by
  refine KeptBy.start fun k => ?_
  unfold Machine.execMarginRefresh
  refine Kept.next ?_
  dsimp only
  split
  · exact k.turnAway
  · refine Kept.ok ?_
    refine Kept.foldl k (fun u a ku => ?_)
    split
    · split
      · exact ((ku.modVent (by decide) _ _).event (by decide) _ _ _ _).modVent (by decide) _ _
      · exact ku.modVent (by decide) _ _
    · split
      · exact ((ku.modVent (by decide) _ _).event (by decide) _ _ _ _).modVent (by decide) _ _
      · exact ku.modVent (by decide) _ _

theorem KeptBy.execRingGrant (d g wire slot run step p half) :
    KeptBy (reporting [.fabric]) s (execRingGrant d g wire slot run step p half s) := by
  refine KeptBy.start fun k => ?_
  unfold Machine.execRingGrant
  refine Kept.next ?_
  split
  · exact (k.takeGrant (by decide) _ _ _ _ _ _ _ _).ok
  · exact k.turnAway

theorem KeptBy.execRingData (p) : KeptBy (reporting [.anatomy, .stackMem, .commonsMem, .spadMem, .tiles, .engines,
    .contexts, .stacks, .network, .fabric, .power, .recovery, .freeValues]) s (execRingData p s) :=
  KeptBy.start fun k => (k.packetTo (by decide) _ _).next

theorem KeptBy.execRingDone (d g _wire slot run step _p bytes) : KeptBy (reporting [.anatomy, .stackMem, .commonsMem,
    .spadMem, .tiles, .engines, .contexts, .stacks, .network, .fabric, .power, .recovery]) s (execRingDone d g _wire
    slot run step _p bytes s) := by
  refine KeptBy.start fun k => ?_
  unfold Machine.execRingDone
  refine Kept.next ?_
  split
  · exact (k.takeDone (by decide) _ _ _ _ _).ok
  · exact k.turnAway

theorem KeptBy.execShardReq (panel _id _shard digest length tag placement) : KeptBy (reporting [.anatomy, .stackMem,
    .commonsMem, .tiles, .engines, .contexts, .stacks, .network, .fabric, .power, .recovery]) s (execShardReq panel
    _id _shard digest length tag placement s) :=
  KeptBy.start fun k => ((k.servePeer (by decide) _ _ _ _ _).ok).next

theorem KeptBy.execShardData (p) : KeptBy (reporting [.anatomy, .stackMem, .commonsMem, .spadMem, .tiles, .engines,
    .contexts, .stacks, .network, .fabric, .power, .recovery, .freeValues]) s (execShardData p s) :=
  KeptBy.start fun k => (k.packetTo (by decide) _ _).next

theorem KeptBy.execXtoken (p) : KeptBy (reporting [.anatomy, .stackMem, .commonsMem, .spadMem, .tiles, .engines,
    .contexts, .stacks, .network, .fabric, .power, .recovery, .freeValues]) s (execXtoken p s) := by
  refine KeptBy.start fun k => ?_
  unfold Machine.execXtoken
  refine Kept.next ?_
  split
  · exact k.turnAway
  · split
    · exact (k.count (by decide) _ _ _ _).ok
    · exact k.ok.arrived (by decide) _ _

theorem KeptBy.execBucketRunStart (d g slot) : KeptBy (reporting [.anatomy, .stackMem, .commonsMem, .spadMem, .tiles,
    .engines, .contexts, .stacks, .network, .fabric, .power, .recovery]) s (execBucketRunStart d g slot s) := by
  refine KeptBy.start fun k => ?_
  unfold Machine.execBucketRunStart
  refine Kept.next ?_
  split
  · split
    · exact (k.runStart (by decide) _ _).ok
    · exact k.turnAway
  · exact k.turnAway

theorem KeptBy.execRingStepTimeout (d g) :
    KeptBy (reporting [.time, .contexts, .fabric]) s (execRingStepTimeout d g s) := by
  refine KeptBy.start fun k => ?_
  unfold Machine.execRingStepTimeout
  refine Kept.next ?_
  split
  · split
    · exact (((k.notBefore (by decide) _).ringFault (by decide) _ _).haltCtx (by decide) _).ok
    · exact k.turnAway
  · exact k.turnAway

theorem KeptBy.execReferenceLoss (hub) : KeptBy (reporting [.clocks]) s (execReferenceLoss hub s) := by
  refine KeptBy.start fun k => ?_
  unfold Machine.execReferenceLoss
  refine Kept.next ?_
  split
  · exact k.turnAway
  · exact ((k.withClk (by decide) _).event (by decide) _ _ _ _).ok

theorem KeptBy.execReferenceReturn : KeptBy [Part.clocks] s (execReferenceReturn s) := by
  refine KeptBy.start fun k => ?_
  unfold Machine.execReferenceReturn
  refine Kept.next ?_
  split
  · split
    · exact k.turnAway
    · exact (k.withClk (by decide) _).ok
  · split
    · exact k.turnAway
    · exact (k.withClk (by decide) _).ok

theorem KeptBy.execIslandDecouple (i) : KeptBy [Part.counters, .clocks] s (execIslandDecouple i s) := by
  refine KeptBy.start fun k => ?_
  unfold Machine.execIslandDecouple
  refine Kept.next ?_
  split
  · exact ((k.modIsland (by decide) _ _).countClock (by decide) _ _).ok
  · exact k.turnAway

theorem KeptBy.execRelockTimeout (i) : KeptBy (reporting [.panelState, .time, .anatomy, .commonsMem, .spadMem,
    .tiles, .engines, .contexts, .stacks, .network, .fabric, .clocks, .power, .thermal, .starts, .recovery]) s
    (execRelockTimeout i s) := by
  refine KeptBy.start fun k => ?_
  unfold Machine.execRelockTimeout
  refine Kept.next ?_
  split
  · exact ((k.notBefore (by decide) _).islandFail (by decide) _ _).ok
  · exact k.turnAway

theorem KeptBy.execStepChange (d ns) : KeptBy [Part.counters, .clocks] s (execStepChange d ns s) := by
  refine KeptBy.start fun k => ?_
  unfold Machine.execStepChange
  refine Kept.next ?_
  split
  · exact ((((k.pauseDie (by decide) _ _).modDieClk (by decide) _ _).count (by decide) _ _ _ _).countMax (by decide)
        _ _ _ _).ok
  · exact k.turnAway

theorem KeptBy.execStepChangeTimeout (d returned) : KeptBy (reporting [.anatomy, .commonsMem, .tiles, .engines,
    .contexts, .network, .fabric, .power, .recovery]) s (execStepChangeTimeout d returned s) := by
  refine KeptBy.start fun k => ?_
  unfold Machine.execStepChangeTimeout
  refine Kept.next ?_
  split
  · refine Kept.ok ?_
    split
    · exact k.fault (by decide) _ _ _ _
    · exact (k.fault (by decide) _ _ _ _).dieFail (by decide) _ _ _
  · exact k.turnAway

theorem KeptBy.execStretchRateWindow (d stretches cycles) :
    KeptBy (reporting [.clocks]) s (execStretchRateWindow d stretches cycles s) := by
  refine KeptBy.start fun k => ?_
  unfold Machine.execStretchRateWindow
  refine Kept.next ?_
  split
  · exact (((k.modDieClk (by decide) _ _).count (by decide) _ _ _ _).event (by decide) _ _ _ _).ok
  · exact k.turnAway

theorem KeptBy.execCeilingExpiry (d margin) : KeptBy [Part.time, .clocks] s (execCeilingExpiry d margin s) := by
  refine KeptBy.start fun k => ?_
  unfold Machine.execCeilingExpiry
  split
  · exact (((k.notBefore (by decide) _).modDieClk (by decide) _ _).ok).next
  · exact k.turnAway.next

theorem KeptBy.execLockstepFallback (d skewPs ns) :
    KeptBy (reporting [.clocks]) s (execLockstepFallback d skewPs ns s) := by
  refine KeptBy.start fun k => ?_
  unfold Machine.execLockstepFallback
  refine Kept.next ?_
  split
  · exact (((k.modDieClk (by decide) _ _).count (by decide) _ _ _ _).event (by decide) _ _ _ _).ok
  · exact k.turnAway

theorem KeptBy.execReplicaWindow (i minimum) : KeptBy (reporting [.clocks]) s (execReplicaWindow i minimum s) := by
  refine KeptBy.start fun k => ?_
  unfold Machine.execReplicaWindow
  refine Kept.next ?_
  split
  · exact k.turnAway
  · refine Kept.ok ?_
    split
    · refine Kept.lowerMargin ?_ (by decide) _
      split
      · exact (k.modIsland (by decide) _ _).warnMargin (by decide) _
      · exact k.modIsland (by decide) _ _
    · split
      · exact (k.modIsland (by decide) _ _).warnMargin (by decide) _
      · exact k.modIsland (by decide) _ _

theorem KeptBy.execReplicaFailure (i) : KeptBy (reporting [.panelState, .anatomy, .commonsMem, .spadMem, .tiles,
    .engines, .contexts, .stacks, .network, .fabric, .clocks, .power, .thermal, .starts, .recovery]) s
    (execReplicaFailure i s) := by
  refine KeptBy.start fun k => ?_
  unfold Machine.execReplicaFailure
  refine Kept.next ?_
  split
  · exact k.turnAway
  · split
    · split
      · exact (((k.modIsland (by decide) _ _).countClock (by decide) _ _).islandFail (by decide) _ _).ok
      · exact (((k.modIsland (by decide) _ _).countClock (by decide) _ _).lowerMargin (by decide) _).ok
    · split
      · exact (((k.modIsland (by decide) _ _).countClock (by decide) _ _).islandFail (by decide) _ _).ok
      · exact (((k.modIsland (by decide) _ _).countClock (by decide) _ _).lowerMargin (by decide) _).ok

theorem KeptBy.execHeatSwitchOff (d i) : KeptBy (reporting [.anatomy, .commonsMem, .spadMem, .tiles, .engines,
    .contexts, .stacks, .network, .fabric, .clocks, .power, .recovery]) s (execHeatSwitchOff d i s) := by
  refine KeptBy.start fun k => ?_
  unfold Machine.execHeatSwitchOff
  dsimp only
  split
  · refine Kept.next ?_
    refine Kept.ok ?_
    refine Kept.suspend ?_ (by decide) _ _
    refine Kept.count ?_ (by decide) _ _ _ _
    refine Kept.setDom ?_ (by decide) _ _
    refine Kept.modIsland ?_ (by decide) _ _
    refine Kept.foldl k (fun u a ku => ?_)
    split
    · exact (ku.drainBank (by decide) _).setBank (by decide) _ _
    · exact ku
  · exact k.turnAway.next

theorem KeptBy.execHeatSwitchOn (d i) :
    KeptBy (reporting [.tiles, .engines, .stacks, .clocks, .recovery]) s (execHeatSwitchOn d i s) := by
  refine KeptBy.start fun k => ?_
  unfold Machine.execHeatSwitchOn
  dsimp only
  split
  · refine Kept.next ?_
    refine Kept.ok ?_
    refine Kept.foldl ((k.modIsland (by decide) _ _).unsuspend (by decide) _ _) (fun u a ku => ?_)
    split
    · exact (((ku.setBank (by decide) _ _).presentHeld (by decide) _).takeNotify (by decide) _).foldl (fun u a ku =>
          ku.ctrl (by decide) _ _ _ _)
    · exact ku
  · exact k.turnAway.next

theorem KeptBy.execQuenchN (ns) :
    KeptBy (reporting [.panelState, .contexts, .clocks, .starts, .pins]) s (execQuenchN ns s) := by
  refine KeptBy.start fun k => ?_
  unfold Machine.execQuenchN
  refine Kept.next ?_
  dsimp only
  split
  · exact k.turnAway
  · split
    · exact (((k.withPins (by decide) _).takeQuench (by decide) _ _).withPins (by decide) _).ok
    · exact (k.withPins (by decide) _).turnAway

theorem KeptBy.execQuenchCmd (v) :
    KeptBy (reporting [.panelState, .contexts, .clocks, .starts]) s (execQuenchCmd v s) :=
  KeptBy.start fun k => (k.quenchCmd (by decide) _).next

theorem KeptBy.execReadoutComplete (failed) :
    KeptBy (reporting [.clocks, .freeValues]) s (execReadoutComplete failed s) := by
  unfold Machine.execReadoutComplete
  split
  · have hi : Kept (reporting [.clocks, .freeValues]) s s.imageRecords.2 := Kept.refl.imageRecords (by decide)
    generalize s.imageRecords = r at hi ⊢
    obtain ⟨l, t⟩ := r
    dsimp only
    split
    · refine Kept.next (Kept.ok (Kept.fault (Kept.withClk ?_ (by decide) _) (by decide) _ _ _ _))
      exact Kept.putRecords (Kept.putSlot hi (by decide) _ _) (by decide) _ _
    · refine Kept.next (Kept.withClkAnswer ?_ (by decide) _ _)
      exact Kept.putRecords (Kept.putSlot hi (by decide) _ _) (by decide) _ _
  · exact Kept.refl.turnAway.next

theorem KeptBy.execQuenchSramDump (v) : KeptBy [Part.objects, .clocks] s (execQuenchSramDump v s) :=
  KeptBy.start fun k => (k.sramDump (by decide) _).next

theorem KeptBy.execSramDumpComplete (failed) :
    KeptBy (reporting [.clocks, .freeValues]) s (execSramDumpComplete failed s) := by
  unfold Machine.execSramDumpComplete
  split
  · dsimp only
    split
    · refine Kept.next (Kept.ok (Kept.fault (Kept.withClk ?_ (by decide) _) (by decide) _ _ _ _))
      exact Kept.putSlot Kept.refl (by decide) _ _
    · have hd : Kept (reporting [.clocks, .freeValues]) s s.dumpRecords.2 := Kept.refl.dumpRecords (by decide)
      generalize s.dumpRecords = r at hd ⊢
      obtain ⟨l, t⟩ := r
      refine Kept.next (Kept.withClkAnswer ?_ (by decide) _ _)
      exact Kept.putRecords (Kept.putSlot hd (by decide) _ _) (by decide) _ _
  · exact Kept.refl.turnAway.next

theorem KeptBy.execObsidianImage (slot) : KeptBy [Part.security, .freeValues] s (execObsidianImage slot s) :=
  KeptBy.start fun k => ((k.readSlot (by decide) _).withAnswer _).next

theorem KeptBy.execInputFault (mv us) : KeptBy [Part.panelState, .time, .faultLog, .anatomy, .objects, .counters,
    .counterTimes, .stackMem, .commonsMem, .spadMem, .tiles, .engines, .contexts, .stacks, .network, .fabric,
    .clocks, .power, .thermal, .security, .hostSites, .sessions, .starts, .recovery, .pins] s (execInputFault mv us
    s) := by
  have hg : Kept [Part.panelState, .time, .faultLog, .anatomy, .objects, .counters, .counterTimes, .stackMem,
      .commonsMem, .spadMem, .tiles, .engines, .contexts, .stacks, .network, .fabric, .clocks, .power, .thermal,
      .security, .hostSites, .sessions, .starts, .recovery, .pins] s s.goOff := Kept.refl.goOff (by decide)
  unfold Machine.execInputFault
  generalize s.goOff = u at hg ⊢
  dsimp only
  split
  · refine Kept.next (hg.trans ⟨fun p hp => ?_, id⟩)
    cases p <;> simp [State.same] at hp ⊢
  · exact Kept.refl.turnAway.next

theorem KeptBy.execInputMarginal (mv) : KeptBy (reporting [.power]) s (execInputMarginal mv s) := by
  refine KeptBy.start fun k => ?_
  unfold Machine.execInputMarginal
  refine Kept.next ?_
  dsimp only
  split
  · exact ((k.withPwr (by decide) _).eventPerMinute (by decide) _ _).ok
  · exact k.turnAway

theorem KeptBy.execInputOvercurrent (da us) : KeptBy (reporting [.clocks]) s (execInputOvercurrent da us s) := by
  refine KeptBy.start fun k => ?_
  unfold Machine.execInputOvercurrent
  refine Kept.next ?_
  split
  · exact ((k.setPowerCeilings (by decide) _).event (by decide) _ _ _ _).ok
  · exact k.turnAway

theorem KeptBy.execInputFoldback (da us) : KeptBy (reporting [.panelState, .contexts, .clocks, .power, .thermal,
    .starts, .recovery]) s (execInputFoldback da us s) := by
  refine KeptBy.start fun k => ?_
  unfold Machine.execInputFoldback
  refine Kept.next ?_
  dsimp only
  split
  · exact ((k.withPwr (by decide) _).safeFault (by decide) _ _ _).ok
  · exact k.turnAway

theorem KeptBy.execBusbarImbalance (p0 p1 ms) : KeptBy (reporting [.power]) s (execBusbarImbalance p0 p1 ms s) := by
  refine KeptBy.start fun k => ?_
  unfold Machine.execBusbarImbalance
  refine Kept.next ?_
  dsimp only
  split
  · exact (k.withPwr (by decide) _).turnAway
  · split
    · split
      · exact (((k.withPwr (by decide) _).updateCap (by decide)).event (by decide) _ _ _ _).ok
      · exact ((k.withPwr (by decide) _).updateCap (by decide)).turnAway
    · split
      · split
        · exact (((k.withPwr (by decide) _).updateCap (by decide)).event (by decide) _ _ _ _).ok
        · exact ((k.withPwr (by decide) _).updateCap (by decide)).turnAway
      · split
        · exact (((k.withPwr (by decide) _).updateCap (by decide)).event (by decide) _ _ _ _).ok
        · exact ((k.withPwr (by decide) _).updateCap (by decide)).turnAway

theorem KeptBy.execConverterFailure (g m) : KeptBy (reporting [.panelState, .contexts, .clocks, .power, .thermal,
    .starts, .recovery, .pins]) s (execConverterFailure g m s) := by
  refine KeptBy.start fun k => ?_
  unfold Machine.execConverterFailure
  dsimp only
  split
  · exact k.turnAway.next
  · split
    · exact (((((k.withPwr (by decide) _).foldl (fun u a ku => ku.setDom (by decide) _ _)).withPins (by decide)
          _).safeFault (by decide) _ _ _).ok).next
    · exact (((k.withPwr (by decide) _).event (by decide) _ _ _ _).ok).next

theorem KeptBy.execSwitchOnSlot (groups inputW) :
    KeptBy [Part.counters, .power] s (execSwitchOnSlot groups inputW s) := by
  refine KeptBy.start fun k => ?_
  unfold Machine.execSwitchOnSlot
  refine Kept.next ?_
  split
  · exact (k.grantSlots (by decide) _ _ _ _).ok
  · exact k.turnAway

theorem KeptBy.execSwitchOnAbandon (dom) : KeptBy (reporting [.panelState, .time, .contexts, .clocks, .power,
    .thermal, .starts, .recovery]) s (execSwitchOnAbandon dom s) := by
  refine KeptBy.start fun k => ?_
  unfold Machine.execSwitchOnAbandon
  dsimp only
  split
  · refine Kept.next ?_
    refine Kept.ok ?_
    split
    · split
      · exact (((k.notBefore (by decide) _).withPwr (by decide) _).fault (by decide) _ _ _ _).enterSafe (by decide) _
      · exact ((k.notBefore (by decide) _).withPwr (by decide) _).fault (by decide) _ _ _ _
    · split
      · exact (((k.notBefore (by decide) _).withPwr (by decide) _).fault (by decide) _ _ _ _).enterSafe (by decide) _
      · exact ((k.notBefore (by decide) _).withPwr (by decide) _).fault (by decide) _ _ _ _
  · exact k.turnAway.next

theorem KeptBy.execEfuseOpen (f amps ns) : KeptBy (reporting [.anatomy, .commonsMem, .tiles, .engines, .contexts,
    .stacks, .network, .fabric, .power, .recovery]) s (execEfuseOpen f amps ns s) := by
  refine KeptBy.start fun k => ?_
  unfold Machine.execEfuseOpen
  refine Kept.next ?_
  split
  · split
    · exact (k.openFuse (by decide) _).ok
    · exact k.turnAway
  · split
    · exact (k.openFuse (by decide) _).ok
    · exact k.turnAway

theorem KeptBy.execPhaseFailure (d p) : KeptBy (reporting [.anatomy, .commonsMem, .tiles, .engines, .contexts,
    .stacks, .network, .fabric, .clocks, .power, .recovery]) s (execPhaseFailure d p s) := by
  refine KeptBy.start fun k => ?_
  unfold Machine.execPhaseFailure
  dsimp only
  split
  · exact k.turnAway.next
  · refine Kept.next ?_
    refine Kept.ok ?_
    split
    · split
      · exact (((k.withPwr (by decide) _).count (by decide) _ _ _ _).logRows (by decide)).ringFail (by decide) _
      · exact (((k.withPwr (by decide) _).count (by decide) _ _ _ _).logRows (by decide)).event (by decide) _ _ _ _
    · split
      · exact (((k.withPwr (by decide) _).count (by decide) _ _ _ _).logRows (by decide)).event (by decide) _ _ _ _
      · split
        · exact ((((k.withPwr (by decide) _).count (by decide) _ _ _ _).logRows (by decide)).event (by decide) _ _ _
              _).modDieClk (by decide) _ _
        · exact ((((k.withPwr (by decide) _).count (by decide) _ _ _ _).logRows (by decide)).fault (by decide) _ _ _
              _).dieFail (by decide) _ _ _

theorem KeptBy.execShunt (d mv) : KeptBy [Part.counters] s (execShunt d mv s) := by
  refine KeptBy.start fun k => ?_
  unfold Machine.execShunt
  refine Kept.next ?_
  split
  · exact (k.count (by decide) _ _ _ _).ok
  · exact k.turnAway

theorem KeptBy.execBoost (d mv) : KeptBy [Part.counters, .power] s (execBoost d mv s) := by
  refine KeptBy.start fun k => ?_
  unfold Machine.execBoost
  refine Kept.next ?_
  dsimp only
  split
  · exact k.turnAway
  · split
    · exact ((k.withPwr (by decide) _).count (by decide) _ _ _ _).ok
    · split
      · exact (k.count (by decide) _ _ _ _).ok
      · exact k.turnAway

theorem KeptBy.execPowerTick (p) : KeptBy [Part.counters, .clocks, .power, .thermal] s (execPowerTick p s) := by
  unfold Machine.execPowerTick
  split
  · exact Kept.refl.turnAway.next
  extract_lets _ s1 s2 cs s3 r low s4 _ s5
  have h1 : Kept [Part.counters, .clocks, .power, .thermal] s s1 := Kept.refl.withPwr (by decide) _
  have h2 : Kept [Part.counters, .clocks, .power, .thermal] s s2 := (h1.countHeatOff (by decide)).updateCap
      (by decide)
  have h3 : Kept [Part.counters, .clocks, .power, .thermal] s s3 := (h2.stopWarming (by decide)).ite h2
  have h4 : Kept [Part.counters, .clocks, .power, .thermal] s r.1 := Kept.foldl_fst h3 fun q c kq => kq.lowerWhile
      (by decide) _ _ _ _
  have h5 : Kept [Part.counters, .clocks, .power, .thermal] s s5 := h4.withPwr (by decide) _
  exact ((h5.raiseTick (by decide) _).updateFlow (by decide)).ok.next

theorem KeptBy.execCurrentLogRow (inputDa groups) : KeptBy [Part.power] s (execCurrentLogRow inputDa groups s) := by
  unfold Machine.execCurrentLogRow
  extract_lets writes row
  exact Kept.next ((Kept.refl.withPwrAnswer (by decide) _ _).ite Kept.refl.turnAway)

theorem KeptBy.execMinVoltageClear (v) : KeptBy [Part.power] s (execMinVoltageClear v s) :=
  KeptBy.start fun k => (k.clearMinMv (by decide) _).next

theorem KeptBy.execResistanceUpdate (d samples) : KeptBy (reporting [.anatomy, .commonsMem, .tiles, .engines,
    .contexts, .network, .fabric, .power, .recovery]) s (execResistanceUpdate d samples s) := by
  refine KeptBy.start fun k => ?_
  unfold Machine.execResistanceUpdate
  dsimp only
  split
  · exact k.turnAway.next
  · refine Kept.next ?_
    refine Kept.ok ?_
    split
    · split
      · refine Kept.dieFail ?_ (by decide) _ _ _
        refine Kept.fault ?_ (by decide) _ _ _ _
        split
        · split
          · exact (((k.withPwr (by decide) _).count (by decide) _ _ _ _).withPwr (by decide) _).event (by decide) _ _
                _ _
          · exact (k.withPwr (by decide) _).count (by decide) _ _ _ _
        · split
          · exact (((k.withPwr (by decide) _).count (by decide) _ _ _ _).withPwr (by decide) _).event (by decide) _ _
                _ _
          · exact (k.withPwr (by decide) _).count (by decide) _ _ _ _
      · split
        · split
          · exact (((k.withPwr (by decide) _).count (by decide) _ _ _ _).withPwr (by decide) _).event (by decide) _ _
                _ _
          · exact (k.withPwr (by decide) _).count (by decide) _ _ _ _
        · split
          · exact (((k.withPwr (by decide) _).count (by decide) _ _ _ _).withPwr (by decide) _).event (by decide) _ _
                _ _
          · exact (k.withPwr (by decide) _).count (by decide) _ _ _ _
    · split
      · refine Kept.dieFail ?_ (by decide) _ _ _
        refine Kept.fault ?_ (by decide) _ _ _ _
        split
        · split
          · exact (((k.withPwr (by decide) _).count (by decide) _ _ _ _).withPwr (by decide) _).event (by decide) _ _
                _ _
          · exact (k.withPwr (by decide) _).count (by decide) _ _ _ _
        · split
          · exact (((k.withPwr (by decide) _).count (by decide) _ _ _ _).withPwr (by decide) _).event (by decide) _ _
                _ _
          · exact (k.withPwr (by decide) _).count (by decide) _ _ _ _
      · split
        · split
          · exact (((k.withPwr (by decide) _).count (by decide) _ _ _ _).withPwr (by decide) _).event (by decide) _ _
                _ _
          · exact (k.withPwr (by decide) _).count (by decide) _ _ _ _
        · split
          · exact (((k.withPwr (by decide) _).count (by decide) _ _ _ _).withPwr (by decide) _).event (by decide) _ _
                _ _
          · exact (k.withPwr (by decide) _).count (by decide) _ _ _ _

theorem KeptBy.execSensorDisagreement (x a b ms) :
    KeptBy (reporting [.thermal]) s (execSensorDisagreement x a b ms s) := by
  refine KeptBy.start fun k => ?_
  unfold Machine.execSensorDisagreement
  refine Kept.next ?_
  split
  · exact ((((k.readSpot (by decide) _ _ _).modSpot (by decide) _ _).event (by decide) _ _ _ _).countSpot (by decide)
        _ _).ok
  · exact k.turnAway

theorem KeptBy.execSensorExclusion (x which reading) : KeptBy (reporting [.panelState, .anatomy, .commonsMem,
    .spadMem, .tiles, .engines, .contexts, .stacks, .network, .fabric, .clocks, .power, .thermal, .starts,
    .recovery]) s (execSensorExclusion x which reading s) := by
  refine KeptBy.start fun k => ?_
  unfold Machine.execSensorExclusion
  dsimp only
  split
  · split
    · exact k.turnAway.next
    · refine Kept.next ?_
      refine Kept.ok ?_
      split
      · exact (((k.modSpot (by decide) _ _).event (by decide) _ _ _ _).countSpot (by decide) _ _).spotBlind
            (by decide) _
      · exact ((k.modSpot (by decide) _ _).event (by decide) _ _ _ _).countSpot (by decide) _ _
  · split
    · exact k.turnAway.next
    · refine Kept.next ?_
      refine Kept.ok ?_
      split
      · exact (((k.modSpot (by decide) _ _).event (by decide) _ _ _ _).countSpot (by decide) _ _).spotBlind
            (by decide) _
      · exact ((k.modSpot (by decide) _ _).event (by decide) _ _ _ _).countSpot (by decide) _ _

theorem KeptBy.execThermalStageEnter (x a b) : KeptBy (reporting [.panelState, .anatomy, .commonsMem, .tiles,
    .engines, .contexts, .stacks, .network, .fabric, .clocks, .power, .thermal, .starts, .recovery]) s
    (execThermalStageEnter x a b s) := by
  refine KeptBy.start fun k => ?_
  unfold Machine.execThermalStageEnter
  refine Kept.next ?_
  split
  · exact (k.readSpot (by decide) _ _ _).turnAway
  · exact (((k.readSpot (by decide) _ _ _).foldl (fun u a ku => ku.enterStage (by decide) _ _)).updateFlow
        (by decide)).ok

theorem KeptBy.execThermalStageLower (d) : KeptBy [Part.time, .clocks, .thermal] s (execThermalStageLower d s) := by
  unfold Machine.execThermalStageLower
  extract_lets hot last v
  have hv : Kept [Part.time, .clocks, .thermal] s v := Kept.refl.notBefore (by decide) _
  exact Kept.next (Kept.ite (Kept.withThmAnswer (hv.modDieClk (by decide) _ _) (by decide) _ _) Kept.refl.turnAway)

theorem KeptBy.execThermalStageExit (x a b ms) :
    KeptBy [Part.clocks, .power, .thermal] s (execThermalStageExit x a b ms s) := by
  refine KeptBy.start fun k => ?_
  unfold Machine.execThermalStageExit
  dsimp only
  split
  · split
    · exact ((k.readSpot (by decide) _ _ _).turnAway).next
    · refine Kept.next ?_
      refine Kept.ok ?_
      refine Kept.updateFlow ?_ (by decide)
      split
      · exact ((k.readSpot (by decide) _ _ _).modSpot (by decide) _ _).leaveDie (by decide) _ _ _ _
      · exact ((k.readSpot (by decide) _ _ _).modSpot (by decide) _ _).leaveDie (by decide) _ _ _ _
      · exact ((k.readSpot (by decide) _ _ _).modSpot (by decide) _ _).withThm (by decide) _
      · exact (k.readSpot (by decide) _ _ _).modSpot (by decide) _ _
  · split
    · dsimp only
      split
      · exact ((k.readSpot (by decide) _ _ _).turnAway).next
      · exact (((((k.readSpot (by decide) _ _ _).modSpot (by decide) _ _).withThm (by decide) _).updateFlow
            (by decide)).ok).next
    · split
      · exact ((k.readSpot (by decide) _ _ _).turnAway).next
      · refine Kept.next ?_
        refine Kept.ok ?_
        refine Kept.updateFlow ?_ (by decide)
        split
        · exact ((k.readSpot (by decide) _ _ _).modSpot (by decide) _ _).leaveDie (by decide) _ _ _ _
        · exact ((k.readSpot (by decide) _ _ _).modSpot (by decide) _ _).leaveDie (by decide) _ _ _ _
        · exact ((k.readSpot (by decide) _ _ _).modSpot (by decide) _ _).withThm (by decide) _
        · exact (k.readSpot (by decide) _ _ _).modSpot (by decide) _ _

theorem KeptBy.execThermalTrip (x which r1 r2 r3) : KeptBy (reporting [.panelState, .anatomy, .commonsMem, .tiles,
    .engines, .contexts, .stacks, .network, .fabric, .clocks, .power, .thermal, .starts, .recovery, .pins]) s
    (execThermalTrip x which r1 r2 r3 s) := by
  refine KeptBy.start fun k => ?_
  unfold Machine.execThermalTrip
  dsimp only
  split
  · split
    · exact k.turnAway.next
    · refine Kept.next ?_
      refine Kept.ok ?_
      refine Kept.noteTrip ?_ (by decide) _
      split
      · exact ((k.modSpot (by decide) _ _).tripFault (by decide) _ _).dieFail (by decide) _ _ _
      · exact ((k.modSpot (by decide) _ _).tripFault (by decide) _ _).dieFail (by decide) _ _ _
      · exact ((k.modSpot (by decide) _ _).fault (by decide) _ _ _ _).openFuse (by decide) _
      · exact ((k.modSpot (by decide) _ _).tripFault (by decide) _ _).enterSafe (by decide) _
      · exact (((k.modSpot (by decide) _ _).tripFault (by decide) _ _).setDom (by decide) _ _).linkOff (by decide) _
  · split
    · exact k.turnAway.next
    · refine Kept.next ?_
      refine Kept.ok ?_
      refine Kept.noteTrip ?_ (by decide) _
      split
      · exact ((k.modSpot (by decide) _ _).tripFault (by decide) _ _).dieFail (by decide) _ _ _
      · exact ((k.modSpot (by decide) _ _).tripFault (by decide) _ _).dieFail (by decide) _ _ _
      · exact ((k.modSpot (by decide) _ _).fault (by decide) _ _ _ _).openFuse (by decide) _
      · exact ((k.modSpot (by decide) _ _).tripFault (by decide) _ _).enterSafe (by decide) _
      · exact (((k.modSpot (by decide) _ _).tripFault (by decide) _ _).setDom (by decide) _ _).linkOff (by decide) _

theorem KeptBy.execHostThermtrip (h') : KeptBy (reporting [.panelState, .contexts, .clocks, .power, .thermal,
    .starts, .recovery, .pins]) s (execHostThermtrip h' s) := by
  refine KeptBy.start fun k => ?_
  unfold Machine.execHostThermtrip
  refine Kept.next ?_
  dsimp only
  split
  · exact (((((k.setDom (by decide) _ _).setLink (by decide) _ _ _).endHost (by decide) _ _ _).tripFault (by decide)
        _ _).noteTrip (by decide) _).ok
  · exact k.turnAway

theorem KeptBy.execCoolantSample (which v) :
    KeptBy (reporting [.objects, .power, .thermal]) s (execCoolantSample which v s) :=
  KeptBy.start fun k => (k.coolantSample (by decide) _ _).next

theorem KeptBy.execCoolantTimeout (which) :
    KeptBy (reporting [.time, .power, .thermal]) s (execCoolantTimeout which s) := by
  refine KeptBy.start fun k => ?_
  unfold Machine.execCoolantTimeout
  dsimp only
  split
  · exact k.turnAway.next
  · refine Kept.next ?_
    refine Kept.ok ?_
    refine Kept.updateCap ?_ (by decide)
    split
    · exact (((k.notBefore (by decide) _).withThm (by decide) _).event (by decide) _ _ _ _).flowChanged (by decide)
    · exact ((k.notBefore (by decide) _).withThm (by decide) _).event (by decide) _ _ _ _

theorem KeptBy.execOutletBelowInlet (ms) : KeptBy (reporting []) s (execOutletBelowInlet ms s) := by
  refine KeptBy.start fun k => ?_
  unfold Machine.execOutletBelowInlet
  refine Kept.next ?_
  split
  · exact (k.event (by decide) _ _ _ _).ok
  · exact k.turnAway

theorem KeptBy.execLowFlow (ms) :
    KeptBy (reporting [.panelState, .contexts, .clocks, .thermal, .starts, .recovery]) s (execLowFlow ms s) := by
  refine KeptBy.start fun k => ?_
  unfold Machine.execLowFlow
  refine Kept.next ?_
  split
  · exact (k.safeFault (by decide) _ _ _).ok
  · exact k.turnAway

theorem KeptBy.execThetaUpdate (hottest inputW) :
    KeptBy [Part.power, .thermal] s (execThetaUpdate hottest inputW s) := by
  refine KeptBy.start fun k => ?_
  unfold Machine.execThetaUpdate
  refine Kept.next ?_
  dsimp only
  split
  · exact ((k.withThm (by decide) _).updateCap (by decide)).ok
  · exact k.turnAway

theorem KeptBy.execPowerForecast (p) : KeptBy [Part.thermal] s (execPowerForecast p s) :=
  KeptBy.start fun k => (k.takeForecast (by decide) _).next

theorem KeptBy.execForecastInterval (i inputW) :
    KeptBy [Part.time, .thermal] s (execForecastInterval i inputW s) := by
  refine KeptBy.start fun k => ?_
  unfold Machine.execForecastInterval
  refine Kept.next ?_
  dsimp only
  split
  · exact (((k.notBefore (by decide) _).withThm (by decide) _).updateFlow (by decide)).ok
  · exact k.turnAway

theorem KeptBy.execForecastExpiry : KeptBy [Part.time, .thermal] s (execForecastExpiry s) := by
  refine KeptBy.start fun k => ?_
  unfold Machine.execForecastExpiry
  refine Kept.next ?_
  dsimp only
  split
  · exact (((k.notBefore (by decide) _).withThm (by decide) _).updateFlow (by decide)).ok
  · exact k.turnAway

theorem KeptBy.execSimmerCheck (temps ms) :
    KeptBy [Part.counters, .clocks, .thermal] s (execSimmerCheck temps ms s) := by
  refine KeptBy.start fun k => ?_
  unfold Machine.execSimmerCheck
  dsimp only
  split
  · exact k.turnAway.next
  · exact ((((k.withThm (by decide) _).foldl (fun u a ku => ku.warmDie (by decide) _ _ _)).updateFlow
        (by decide)).ok).next

theorem KeptBy.execRootTakeover (ms) : KeptBy (reporting [.panelState, .time, .anatomy, .objects, .counterTimes,
    .stackMem, .commonsMem, .spadMem, .tiles, .engines, .contexts, .stacks, .network, .fabric, .clocks, .power,
    .thermal, .starts, .recovery, .pins]) s (execRootTakeover ms s) := by
  unfold Machine.execRootTakeover
  split
  · exact Kept.refl.turnAway.next
  extract_lets _ s1 s2 _ _ s3 n _ s4
  have h1 : Kept (reporting [.panelState, .time, .anatomy, .objects, .counterTimes, .stackMem, .commonsMem, .spadMem,
      .tiles, .engines, .contexts, .stacks, .network, .fabric, .clocks, .power, .thermal, .starts, .recovery, .pins])
      s s1 := Kept.refl.withSec (by decide) _
  have h2 : Kept (reporting [.panelState, .time, .anatomy, .objects, .counterTimes, .stackMem, .commonsMem, .spadMem,
      .tiles, .engines, .contexts, .stacks, .network, .fabric, .clocks, .power, .thermal, .starts, .recovery, .pins])
      s s2 := (h1.event (by decide) _ _ _ _).dropOffers (by decide)
  have h3 : Kept (reporting [.panelState, .time, .anatomy, .objects, .counterTimes, .stackMem, .commonsMem, .spadMem,
      .tiles, .engines, .contexts, .stacks, .network, .fabric, .clocks, .power, .thermal, .starts, .recovery, .pins])
      s s3 := by
    clear_value s2
    refine h2.trans ⟨fun p hp => ?_, id⟩
    cases p <;> simp [State.same, reporting, reports, s3] at hp ⊢
  split
  next x _ =>
    extract_lets v
    have h4 : Kept (reporting [.panelState, .time, .anatomy, .objects, .counterTimes, .stackMem, .commonsMem,
        .spadMem, .tiles, .engines, .contexts, .stacks, .network, .fabric, .clocks, .power, .thermal, .starts,
        .recovery, .pins]) s s4 := h3.withBoot (by decide) _ (by exact id)
    have hv : Kept (reporting [.panelState, .time, .anatomy, .objects, .counterTimes, .stackMem, .commonsMem,
        .spadMem, .tiles, .engines, .contexts, .stacks, .network, .fabric, .clocks, .power, .thermal, .starts,
        .recovery, .pins]) s v := h4.startBegin (by decide) _ _ _
    exact (Kept.ite (hv.withSec (by decide) _) (h4.enterSafe (by decide) _)).ok.next
  · exact h3.ok.next

theorem KeptBy.execRootLost :
    KeptBy (reporting [.panelState, .contexts, .clocks, .thermal, .starts, .recovery]) s (execRootLost s) := by
  unfold Machine.execRootLost
  split
  · exact Kept.refl.turnAway.next
  refine Kept.next (Kept.ok (Kept.safeFault ?_ (by decide) _ _ _))
  refine ⟨fun p hp => ?_, id⟩
  cases p <;> simp [State.same, reporting, reports] at hp ⊢

theorem KeptBy.execEntropyFailure (h') : KeptBy (reporting [.panelState, .contexts, .clocks, .thermal, .starts,
    .recovery]) s (execEntropyFailure h' s) := by
  unfold Machine.execEntropyFailure
  split
  · exact Kept.refl.turnAway.next
  extract_lets _ s1 s2
  have h2 : Kept (reporting [.panelState, .contexts, .clocks, .thermal, .starts, .recovery]) s s2 := Kept.fault
      (Kept.refl.withSec (by decide) _) (by decide) _ _ _ _
  exact (Kept.ite (h2.enterSafe (by decide) _) h2).ok.next

theorem KeptBy.execOwnerClaim (c) : KeptBy (reporting []) s (execOwnerClaim c s) :=
  KeptBy.start fun k => (k.claimOwner (by decide) _).next

theorem KeptBy.execOwnerRelease (h') : KeptBy (reporting [.panelState, .anatomy, .stackMem, .commonsMem, .spadMem,
    .tiles, .engines, .contexts, .stacks, .network, .fabric, .clocks, .power, .recovery]) s (execOwnerRelease h' s) :=
  KeptBy.start fun k => (k.recRelease (by decide) _).next

theorem KeptBy.execKeyAdd (h' keyHash) : KeptBy (reporting []) s (execKeyAdd h' keyHash s) :=
  KeptBy.start fun k => (k.recKeyAdd (by decide) _ _).next

theorem KeptBy.execKeyRemove (h' keyId) : KeptBy (reporting []) s (execKeyRemove h' keyId s) :=
  KeptBy.start fun k => (k.recKeyRemove (by decide) _ _).next

theorem KeptBy.execKeyPrimary (h' keyId) : KeptBy (reporting []) s (execKeyPrimary h' keyId s) :=
  KeptBy.start fun k => (k.recKeyPrimary (by decide) _ _).next

theorem KeptBy.execImageKey (h' key) : KeptBy (reporting []) s (execImageKey h' key s) :=
  KeptBy.start fun k => (k.recImageKey (by decide) _ _).next

theorem KeptBy.execUpdateApprove (h' component digest) :
    KeptBy (reporting []) s (execUpdateApprove h' component digest s) :=
  KeptBy.start fun k => (k.recUpdateApprove (by decide) _ _ _).next

theorem KeptBy.execOperatorGeneration (h' g) : KeptBy (reporting []) s (execOperatorGeneration h' g s) :=
  KeptBy.start fun k => (k.recOperatorGeneration (by decide) _ _).next

theorem KeptBy.execRevocation (r) : KeptBy (reporting []) s (execRevocation r s) :=
  KeptBy.start fun k => (k.revokeSlot (by decide) _).next

theorem KeptBy.execAttestRequest (session level nonce kind c) :
    KeptBy [Part.counters, .security, .freeValues] s (execAttestRequest session level nonce kind c s) :=
  KeptBy.start fun k => (k.attest (by decide) _ _ _ _ _).next

theorem KeptBy.execOffer (c) : KeptBy [Part.contexts, .security, .freeValues] s (execOffer c s) :=
  KeptBy.start fun k => (k.offer (by decide) _).next

theorem KeptBy.execOfferExpiry (c) : KeptBy [Part.time, .contexts] s (execOfferExpiry c s) := by
  refine KeptBy.start fun k => ?_
  unfold Machine.execOfferExpiry
  refine Kept.next ?_
  split
  · exact ((k.notBefore (by decide) _).modCtx (by decide) _ _).ok
  · exact k.turnAway

theorem KeptBy.execCtxAccept (c a) : KeptBy (reporting [.contexts]) s (execCtxAccept c a s) :=
  KeptBy.start fun k => (k.acceptCtx (by decide) _ _).next

theorem KeptBy.execCtxKeyLoad (c k') : KeptBy (reporting [.contexts]) s (execCtxKeyLoad c k' s) :=
  KeptBy.start fun k => (k.keyLoad (by decide) _ _).next

theorem KeptBy.execClose (c) : KeptBy (reporting [.contexts, .fabric]) s (execClose c s) :=
  KeptBy.start fun k => (k.beginClose (by decide) _).next

theorem KeptBy.execCloseComplete (c) : KeptBy (reporting [.panelState, .anatomy, .stackMem, .commonsMem, .spadMem,
    .tiles, .engines, .contexts, .stacks, .network, .fabric, .power, .recovery]) s (execCloseComplete c s) := by
  refine KeptBy.start fun k => ?_
  unfold Machine.execCloseComplete
  refine Kept.next ?_
  split
  · exact (k.closeCtx (by decide) _).ok
  · exact k.turnAway

theorem KeptBy.execDebugToken (t') : KeptBy (reporting [.panelState, .anatomy, .stackMem, .commonsMem, .spadMem,
    .tiles, .engines, .contexts, .stacks, .network, .fabric, .power, .recovery]) s (execDebugToken t' s) :=
  KeptBy.start fun k => (k.debugTok (by decide) _).next

theorem KeptBy.execHostLinkTrain (h' modules) : KeptBy (reporting []) s (execHostLinkTrain h' modules s) := by
  refine KeptBy.start fun k => ?_
  unfold Machine.execHostLinkTrain
  refine Kept.next ?_
  split
  · exact (k.trainSite (by decide) _ _ _).ok
  · exact k.turnAway

theorem KeptBy.execHostLinkError (h' modules) : KeptBy (reporting []) s (execHostLinkError h' modules s) := by
  refine KeptBy.start fun k => ?_
  unfold Machine.execHostLinkError
  dsimp only
  split
  · exact k.turnAway.next
  · refine Kept.next ?_
    refine Kept.ok ?_
    split
    · exact ((k.modSite (by decide) _ _).count (by decide) _ _ _ _).trainSite (by decide) _ _ _
    · split
      · exact (((k.modSite (by decide) _ _).count (by decide) _ _ _ _).trainSite (by decide) _ _ _).endHost
            (by decide) _ _ _
      · exact ((k.modSite (by decide) _ _).count (by decide) _ _ _ _).setLink (by decide) _ _ _

theorem KeptBy.execHostLinkRetry (h' modules) : KeptBy (reporting [.time]) s (execHostLinkRetry h' modules s) := by
  refine KeptBy.start fun k => ?_
  unfold Machine.execHostLinkRetry
  refine Kept.next ?_
  dsimp only
  split
  · refine Kept.ok ?_
    split
    · exact (k.notBefore (by decide) _).modSite (by decide) _ _
    · exact (k.notBefore (by decide) _).trainSite (by decide) _ _ _
  · exact k.turnAway

theorem KeptBy.execHWrite (h' kind length addr data) : KeptBy (reporting [.anatomy, .stackMem, .commonsMem, .spadMem,
    .tiles, .engines, .contexts, .stacks, .network, .fabric, .power, .recovery]) s (execHWrite h' kind length addr
    data s) := by
  refine KeptBy.start fun k => ?_
  unfold Machine.execHWrite
  refine Kept.next ?_
  split
  · exact k.unserved (by decide) _ _
  · split
    · exact (k.badHost (by decide) _ _).turnAway
    · exact k.hostPush (by decide) _ _

theorem KeptBy.execHRead (h' kind tag length addr) : KeptBy (reporting [.anatomy, .stackMem, .commonsMem, .spadMem,
    .tiles, .engines, .contexts, .stacks, .network, .fabric, .power, .recovery]) s (execHRead h' kind tag length addr
    s) := by
  refine KeptBy.start fun k => ?_
  unfold Machine.execHRead
  refine Kept.next ?_
  dsimp only
  split
  · exact k.unserved (by decide) _ _
  · split
    · exact (((k.badHost (by decide) _ _).count (by decide) _ _ _ _).send (by decide) _).withAnswer _
    · split
      · exact (k.badHost (by decide) _ _).hostDone (by decide) _ _ _ _
      · exact k.hostPush (by decide) _ _

theorem KeptBy.execPCpl (h' m status data) : KeptBy (reporting [.anatomy, .stackMem, .commonsMem, .spadMem, .tiles,
    .engines, .contexts, .stacks, .network, .fabric, .power, .recovery]) s (execPCpl h' m status data s) := by
  refine KeptBy.start fun k => ?_
  unfold Machine.execPCpl
  refine Kept.next ?_
  dsimp only
  split
  · split
    · exact ((k.modMover (by decide) _ _ _).fault (by decide) _ _ _ _).ok
    · split
      · exact (k.badHost (by decide) _ _).turnAway
      · exact ((k.moverBurst (by decide) _ _ _ _ _).modMover (by decide) _ _ _).ok
  · exact k.turnAway

theorem KeptBy.execDpCtrl (h' v) : KeptBy (reporting [.anatomy, .stackMem, .commonsMem, .spadMem, .tiles, .engines,
    .contexts, .stacks, .network, .fabric, .power, .recovery]) s (execDpCtrl h' v s) :=
  KeptBy.start fun k => (k.hubRegister (by decide) _ _ _).next

theorem KeptBy.execDpStatus (h' v) : KeptBy (reporting [.anatomy, .stackMem, .commonsMem, .spadMem, .tiles, .engines,
    .contexts, .stacks, .network, .fabric, .power, .recovery]) s (execDpStatus h' v s) :=
  KeptBy.start fun k => (k.hubRegister (by decide) _ _ _).next

theorem KeptBy.execDpStatusRead (h' tag) : KeptBy (reporting [.anatomy, .stackMem, .commonsMem, .spadMem, .tiles,
    .engines, .contexts, .stacks, .network, .fabric, .power, .recovery]) s (execDpStatusRead h' tag s) := by
  refine KeptBy.start fun k => ?_
  unfold Machine.execDpStatusRead
  refine Kept.next ?_
  split
  · exact k.unserved (by decide) _ _
  · exact k.hostPush (by decide) _ _

theorem KeptBy.execMbInLen (h' len) : KeptBy [Part.counters, .hostSites] s (execMbInLen h' len s) :=
  KeptBy.start fun k => (k.sidebandCmd _ (k.mailLen (by decide) _ _)).next

theorem KeptBy.execMbAckConsumed (h') : KeptBy [Part.counters, .hostSites, .messages] s (execMbAckConsumed h' s) :=
  KeptBy.start fun k => (k.sidebandCmd _ (k.mailConsumed (by decide) _)).next

theorem KeptBy.execMbAckClearOverrun (h') : KeptBy [Part.hostSites] s (execMbAckClearOverrun h' s) :=
  KeptBy.start fun k => (k.sidebandCmd _ (k.clearOverrun (by decide) _)).next

theorem KeptBy.execDbStatusClear (h' v) : KeptBy [Part.hostSites] s (execDbStatusClear h' v s) :=
  KeptBy.start fun k => (k.sidebandCmd _ (k.clearCauses (by decide) _ _)).next

theorem KeptBy.execMoverTail (h' m v) : KeptBy (reporting [.anatomy, .stackMem, .commonsMem, .spadMem, .tiles,
    .engines, .contexts, .stacks, .network, .fabric, .power, .recovery]) s (execMoverTail h' m v s) :=
  KeptBy.start fun k => (k.hubRegister (by decide) _ _ _).next

theorem KeptBy.execMoverResume (h' m) : KeptBy (reporting [.anatomy, .stackMem, .commonsMem, .spadMem, .tiles,
    .engines, .contexts, .stacks, .network, .fabric, .power, .recovery]) s (execMoverResume h' m s) :=
  KeptBy.start fun k => (k.hubRegister (by decide) _ _ _).next

theorem KeptBy.execMoverAbort (h' m) : KeptBy (reporting [.anatomy, .stackMem, .commonsMem, .spadMem, .tiles,
    .engines, .contexts, .stacks, .network, .fabric, .power, .recovery]) s (execMoverAbort h' m s) :=
  KeptBy.start fun k => (k.hubRegister (by decide) _ _ _).next

theorem KeptBy.execMoverPiece (h' m) : KeptBy (reporting [.anatomy, .stackMem, .commonsMem, .spadMem, .tiles,
    .engines, .contexts, .stacks, .network, .fabric, .power, .recovery]) s (execMoverPiece h' m s) := by
  refine KeptBy.start fun k => ?_
  unfold Machine.execMoverPiece
  dsimp only
  split
  · exact k.turnAway.next
  · refine Kept.next ?_
    split
    · split
      · refine Kept.ok ?_
        refine Kept.moverBurst ?_ (by decide) _ _ _ _ _
        split
        · exact (k.modSite (by decide) _ _).fetchMover (by decide) _ _
        · exact k.modSite (by decide) _ _
      · refine Kept.ok ?_
        refine Kept.send ?_ (by decide) _
        refine Kept.modMover ?_ (by decide) _ _ _
        split
        · exact (k.modSite (by decide) _ _).fetchMover (by decide) _ _
        · exact k.modSite (by decide) _ _
    · refine Kept.ok ?_
      split
      · exact (k.modSite (by decide) _ _).fetchMover (by decide) _ _
      · exact k.modSite (by decide) _ _

theorem KeptBy.execDescriptorComplete (h' m) :
    KeptBy [Part.counters, .hostSites, .messages] s (execDescriptorComplete h' m s) := by
  refine KeptBy.start fun k => ?_
  unfold Machine.execDescriptorComplete
  refine Kept.next ?_
  dsimp only
  split
  · exact k.turnAway
  · split
    · exact k.turnAway
    · refine Kept.ok ?_
      split
      · refine Kept.doorbell ?_ (by decide) _ _
        split
        · exact ((k.putResult (by decide) _ _ _ _ _ _).modMover (by decide) _ _ _).count (by decide) _ _ _ _
        · exact (((k.putResult (by decide) _ _ _ _ _ _).modMover (by decide) _ _ _).count (by decide) _ _ _ _).count
              (by decide) _ _ _ _
      · split
        · exact ((k.putResult (by decide) _ _ _ _ _ _).modMover (by decide) _ _ _).count (by decide) _ _ _ _
        · exact (((k.putResult (by decide) _ _ _ _ _ _).modMover (by decide) _ _ _).count (by decide) _ _ _ _).count
              (by decide) _ _ _ _

theorem KeptBy.execHello (h' hid body) : KeptBy (reporting [.freeValues]) s (execHello h' hid body s) := by
  refine KeptBy.start fun k => ?_
  unfold Machine.execHello
  refine Kept.next ?_
  dsimp only
  split
  · exact (k.frameHere (by decide) _).turnAway
  · split
    · exact (k.frameHere (by decide) _).malformed (by decide) _
    · split
      · exact (k.frameHere (by decide) _).tagFailed (by decide) _
      · split
        · exact ((((k.frameHere (by decide) _).count (by decide) _ _ _ _).count (by decide) _ _ _ _).channelOut
              (by decide) _ _ _ _ _ _).fstatus _
        · exact (((((((k.frameHere (by decide) _).count (by decide) _ _ _ _).count (by decide) _ _ _ _).helloReply
              (by decide) _).fragments (by decide) _ _ _).sessionKeys (by decide) _ _).withMgmt (by decide) _).ok

theorem KeptBy.execFinish (h' level proof) : KeptBy (reporting []) s (execFinish h' level proof s) := by
  unfold Machine.execFinish
  extract_lets ch n s1 s2 keys _ s3 deny s4 s5
  have h1 : Kept (reporting []) s s1 := Kept.refl.frameHere (by decide) _
  refine Kept.next ?_
  split
  · exact h1.turnAway
  split
  · exact h1.malformed (by decide) _
  split
  · exact h1.tagFailed (by decide) _
  split
  · exact (h1.count (by decide) _ _ _ _).turnAway
  have h2 : Kept (reporting []) s s2 := h1.count (by decide) _ _ _ _
  have h3 : Kept (reporting []) s s3 := h2.withMgmt (by decide) _
  have hdeny : ∀ u st, Kept (reporting []) s u → Kept (reporting []) s (deny u st) := fun u st ku =>
    (ku.channelOut (by decide) _ _ _ _ _ _).fstatus _
  split
  · split
    · exact hdeny _ _ h3
    · exact (Kept.frameOut (Kept.count (h3.setSession (by decide) _ _) (by decide) _ _ _ _) (by decide) _ _ _ _ _
        _).ok
  · have h4 : Kept (reporting []) s s4 := (h3.count (by decide) _ _ _ _).ite h3
    exact hdeny _ _ ((h4.count (by decide) _ _ _ _).fault (by decide) _ _ _ _)

theorem KeptBy.execHandshakeTimeout (session) : KeptBy [Part.time, .sessions] s (execHandshakeTimeout session s) := by
  refine KeptBy.start fun k => ?_
  unfold Machine.execHandshakeTimeout
  refine Kept.next ?_
  dsimp only
  split
  · exact ((k.notBefore (by decide) _).withMgmt (by decide) _).ok
  · exact k.turnAway

theorem KeptBy.execFjocoRead (h' index sub) : KeptBy (reporting [.freeValues]) s (execFjocoRead h' index sub s) :=
  KeptBy.start fun k => (k.request (by decide) _ _ _ _ (fun u a ku => ku.readReq (by decide) _ _ _ _)).next

theorem KeptBy.execFjocoWrite (h' index sub value) : KeptBy (reporting [.panelState, .time, .anatomy, .objects,
    .storedObjects, .counterTimes, .stackMem, .commonsMem, .spadMem, .tiles, .engines, .contexts, .stacks, .network,
    .fabric, .clocks, .power, .thermal, .starts, .recovery, .pins, .freeValues]) s (execFjocoWrite h' index sub value
    s) :=
  KeptBy.start fun k => (k.request (by decide) _ _ _ _ (fun u a ku => ku.writeReq (by decide) _ _ _ _ _)).next

theorem KeptBy.execSegRead (h' index sub off) : KeptBy (reporting []) s (execSegRead h' index sub off s) :=
  KeptBy.start fun k => (k.request (by decide) _ _ _ _ (fun u a ku => ku.segReadReq (by decide) _ _ _ _ _)).next

theorem KeptBy.execSegWrite (h' index sub off data) : KeptBy (reporting [.panelState, .time, .anatomy, .objects,
    .storedObjects, .counterTimes, .stackMem, .commonsMem, .spadMem, .tiles, .engines, .contexts, .stacks, .network,
    .fabric, .clocks, .power, .thermal, .starts, .recovery, .pins, .freeValues]) s (execSegWrite h' index sub off
    data s) :=
  KeptBy.start fun k => (k.request (by decide) _ _ _ _ (fun u a ku => ku.segWriteReq (by decide) _ _ _ _ _ _)).next

theorem KeptBy.execSegAbort (h' index sub) : KeptBy (reporting []) s (execSegAbort h' index sub s) :=
  KeptBy.start fun k => (k.request (by decide) _ _ _ _ (fun u a ku => ku.segAbortReq (by decide) _ _ _ _)).next

theorem KeptBy.execSegTimeout (session) : KeptBy [Part.time, .counters, .sessions] s (execSegTimeout session s) := by
  refine KeptBy.start fun k => ?_
  unfold Machine.execSegTimeout
  refine Kept.next ?_
  split
  · split
    · split
      · exact ((k.notBefore (by decide) _).expire (by decide) _ _ _).ok
      · exact k.turnAway
    · exact k.turnAway
  · exact k.turnAway

theorem KeptBy.execSessionClose (h') : KeptBy (reporting []) s (execSessionClose h' s) := by
  refine KeptBy.start fun k => ?_
  unfold Machine.execSessionClose
  refine Kept.next ?_
  split
  next heq =>
    exact (((k.frameIn (by decide) _ _).fst heq).endSession (by decide) _).ok
  next heq =>
    exact (k.frameIn (by decide) _ _).fst heq

theorem KeptBy.execSessionIdle (session) :
    KeptBy [Part.time, .counters, .security, .sessions] s (execSessionIdle session s) := by
  refine KeptBy.start fun k => ?_
  unfold Machine.execSessionIdle
  refine Kept.next ?_
  split
  · exact (((k.notBefore (by decide) _).count (by decide) _ _ _ _).endSession (by decide) _).ok
  · exact k.turnAway

theorem KeptBy.execPdoTx (n) :
    KeptBy [Part.time, .counters, .security, .hostSites, .sessions, .messages] s (execPdoTx n s) := by
  refine KeptBy.start fun k => ?_
  unfold Machine.execPdoTx
  refine Kept.next ?_
  dsimp only
  split
  · split
    · exact k.turnAway
    · refine Kept.ok ?_
      refine Kept.frameOut ?_ (by decide) _ _ _ _ _ _
      refine Kept.count ?_ (by decide) _ _ _ _
      refine Kept.modTpdo ?_ (by decide) _ _
      split
      · exact k
      · exact k.notBefore (by decide) _
  · exact k.turnAway

theorem KeptBy.execPdoRx (h' n data) : KeptBy (reporting [.panelState, .time, .anatomy, .objects, .storedObjects,
    .counterTimes, .stackMem, .commonsMem, .spadMem, .tiles, .engines, .contexts, .stacks, .network, .fabric,
    .clocks, .power, .thermal, .starts, .recovery, .pins, .freeValues]) s (execPdoRx h' n data s) := by
  refine KeptBy.start fun k => ?_
  unfold Machine.execPdoRx
  refine Kept.next ?_
  dsimp only
  split
  next heq =>
    split
    · exact (((k.frameIn (by decide) _ _).fst heq).count (by decide) _ _ _ _).ok
    · split
      · exact ((((k.frameIn (by decide) _ _).fst heq).modRpdo (by decide) _ _).count (by decide) _ _ _ _).ok
      · exact (((((k.frameIn (by decide) _ _).fst heq).modRpdo (by decide) _ _).count (by decide) _ _ _ _).applyPdo
            (by decide) _ _ _ _).ok
  next heq =>
    exact (k.frameIn (by decide) _ _).fst heq

theorem KeptBy.execTpdoRate (session n rate) : KeptBy (reporting [.panelState, .time, .anatomy, .objects,
    .storedObjects, .counterTimes, .stackMem, .commonsMem, .spadMem, .tiles, .engines, .contexts, .stacks, .network,
    .fabric, .clocks, .power, .thermal, .starts, .recovery, .pins, .freeValues]) s (execTpdoRate session n rate s) :=
  KeptBy.start fun k => (k.sessionWrite (by decide) _ _ _ _).next

theorem KeptBy.execTpdoMap (session n m) : KeptBy (reporting [.panelState, .time, .anatomy, .objects, .storedObjects,
    .counterTimes, .stackMem, .commonsMem, .spadMem, .tiles, .engines, .contexts, .stacks, .network, .fabric,
    .clocks, .power, .thermal, .starts, .recovery, .pins, .freeValues]) s (execTpdoMap session n m s) :=
  KeptBy.start fun k => (k.sessionWrite (by decide) _ _ _ _).next

theorem KeptBy.execRpdoMap (session n m) : KeptBy (reporting [.panelState, .time, .anatomy, .objects, .storedObjects,
    .counterTimes, .stackMem, .commonsMem, .spadMem, .tiles, .engines, .contexts, .stacks, .network, .fabric,
    .clocks, .power, .thermal, .starts, .recovery, .pins, .freeValues]) s (execRpdoMap session n m s) :=
  KeptBy.start fun k => (k.sessionWrite (by decide) _ _ _ _).next

theorem KeptBy.execEventMask (session mask) : KeptBy (reporting [.panelState, .time, .anatomy, .objects,
    .storedObjects, .counterTimes, .stackMem, .commonsMem, .spadMem, .tiles, .engines, .contexts, .stacks, .network,
    .fabric, .clocks, .power, .thermal, .starts, .recovery, .pins, .freeValues]) s (execEventMask session mask s) :=
  KeptBy.start fun k => (k.sessionWrite (by decide) _ _ _ _).next

theorem KeptBy.execFieldLinkLoss (port link) : KeptBy (reporting []) s (execFieldLinkLoss port link s) := by
  refine KeptBy.start fun k => ?_
  unfold Machine.execFieldLinkLoss
  refine Kept.next ?_
  dsimp only
  split
  · exact ((k.setPorts (by decide) _).event (by decide) _ _ _ _).ok
  · exact k.turnAway

theorem KeptBy.execFieldLinkReturn (port link) : KeptBy (reporting []) s (execFieldLinkReturn port link s) := by
  refine KeptBy.start fun k => ?_
  unfold Machine.execFieldLinkReturn
  refine Kept.next ?_
  split
  · exact ((k.setPorts (by decide) _).event (by decide) _ _ _ _).ok
  · exact k.turnAway

theorem KeptBy.execNeighborDiscovery (port linkLocalSource iid) :
    KeptBy [Part.messages] s (execNeighborDiscovery port linkLocalSource iid s) := by
  refine KeptBy.start fun k => ?_
  unfold Machine.execNeighborDiscovery
  refine Kept.next ?_
  split
  · split
    · exact (k.send (by decide) _).ok
    · exact k.turnAway
  · split
    · exact (k.send (by decide) _).ok
    · exact k.turnAway

theorem KeptBy.execTileHeartbeatMiss (d t') : KeptBy (reporting [.anatomy, .commonsMem, .spadMem, .tiles, .engines,
    .contexts, .network, .fabric, .power, .recovery]) s (execTileHeartbeatMiss d t' s) := by
  refine KeptBy.start fun k => ?_
  unfold Machine.execTileHeartbeatMiss
  refine Kept.next ?_
  dsimp only
  split
  · exact k.turnAway
  · split
    · exact ((k.withRecov (by decide) _).tileFail (by decide) _ _ _).ok
    · exact (k.withRecov (by decide) _).ok

theorem KeptBy.execDieHeartbeatMiss (d) : KeptBy [Part.recovery] s (execDieHeartbeatMiss d s) := by
  refine KeptBy.start fun k => ?_
  unfold Machine.execDieHeartbeatMiss
  refine Kept.next ?_
  dsimp only
  split
  · exact k.turnAway
  · exact (k.withRecov (by decide) _).ok

theorem KeptBy.execDieProbeResult (d failed) : KeptBy (reporting [.anatomy, .commonsMem, .tiles, .engines, .contexts,
    .network, .fabric, .power, .recovery]) s (execDieProbeResult d failed s) := by
  refine KeptBy.start fun k => ?_
  unfold Machine.execDieProbeResult
  refine Kept.next ?_
  dsimp only
  split
  · exact ((k.withRecov (by decide) _).applyProbed (by decide) _).ok
  · exact k.turnAway

theorem KeptBy.execSinterHeartbeatMiss (k') : KeptBy (reporting [.anatomy, .commonsMem, .tiles, .engines, .contexts,
    .stacks, .network, .fabric, .power, .recovery]) s (execSinterHeartbeatMiss k' s) := by
  refine KeptBy.start fun k => ?_
  unfold Machine.execSinterHeartbeatMiss
  refine Kept.next ?_
  dsimp only
  split
  · exact k.turnAway
  · split
    · exact ((k.withRecov (by decide) _).loseStack (by decide) _).ok
    · exact (k.withRecov (by decide) _).ok

theorem KeptBy.execTileFailure (d t') : KeptBy (reporting [.anatomy, .commonsMem, .spadMem, .tiles, .engines,
    .contexts, .network, .fabric, .power, .recovery]) s (execTileFailure d t' s) := by
  refine KeptBy.start fun k => ?_
  unfold Machine.execTileFailure
  refine Kept.next ?_
  split
  · exact k.turnAway
  · exact (k.tileFail (by decide) _ _ _).ok

theorem KeptBy.execDieFailure (d) : KeptBy (reporting [.anatomy, .commonsMem, .tiles, .engines, .contexts, .network,
    .fabric, .power, .recovery]) s (execDieFailure d s) := by
  refine KeptBy.start fun k => ?_
  unfold Machine.execDieFailure
  refine Kept.next ?_
  split
  · exact k.turnAway
  · exact (k.dieFail (by decide) _ _ _).ok

theorem KeptBy.execDormantDieFailure (d) : KeptBy (reporting [.anatomy, .commonsMem, .tiles, .engines, .contexts,
    .network, .fabric, .power, .recovery]) s (execDormantDieFailure d s) := by
  refine KeptBy.start fun k => ?_
  unfold Machine.execDormantDieFailure
  refine Kept.next ?_
  split
  · exact k.turnAway
  · exact (k.dieFail (by decide) _ _ _).ok

theorem KeptBy.execMigrationStart (d) : KeptBy [Part.recovery] s (execMigrationStart d s) := by
  refine KeptBy.start fun k => ?_
  unfold Machine.execMigrationStart
  refine Kept.next ?_
  dsimp only
  split
  · exact k.turnAway
  · split
    · exact k.turnAway
    · split
      · exact k.turnAway
      · exact ((k.withRecov (by decide) _).foldl (fun u a ku => ku.logRecovery (by decide) _)).ok

theorem KeptBy.execMigrationCopy (src) : KeptBy (reporting [.anatomy, .stackMem, .commonsMem, .tiles, .engines,
    .contexts, .stacks, .network, .fabric, .power, .recovery]) s (execMigrationCopy src s) := by
  refine KeptBy.start fun k => ?_
  unfold Machine.execMigrationCopy
  refine Kept.next ?_
  split
  · exact k.turnAway
  · split
    · exact k.turnAway
    · split
      · exact k.turnAway
      · exact (k.copyBank (by decide) _ _).ok

theorem KeptBy.execMigrationDestFail (src) : KeptBy (reporting [.anatomy, .commonsMem, .tiles, .engines, .contexts,
    .stacks, .network, .fabric, .power, .recovery]) s (execMigrationDestFail src s) := by
  refine KeptBy.start fun k => ?_
  unfold Machine.execMigrationDestFail
  refine Kept.next ?_
  dsimp only
  split
  · exact k.turnAway
  · exact ((((k.loseStack (by decide) _).fault (by decide) _ _ _ _).withRecov (by decide) _).foldl (fun u a ku =>
        ku.mapRecovery (by decide) _ _ _)).ok

theorem KeptBy.execRelocation (src) :
    KeptBy (reporting [.anatomy, .tiles, .engines, .contexts, .stacks, .recovery]) s (execRelocation src s) := by
  refine KeptBy.start fun k => ?_
  unfold Machine.execRelocation
  refine Kept.next ?_
  dsimp only
  split
  · exact k.turnAway
  · split
    · exact k.turnAway
    · exact (k.relocate (by decide) _ _ _).ok

theorem KeptBy.execStackLoss (k') : KeptBy (reporting [.anatomy, .commonsMem, .tiles, .engines, .contexts, .stacks,
    .network, .fabric, .power, .recovery]) s (execStackLoss k' s) := by
  refine KeptBy.start fun k => ?_
  unfold Machine.execStackLoss
  refine Kept.next ?_
  split
  · exact k.turnAway
  · exact (k.loseStack (by decide) _).ok

theorem KeptBy.execRegionRestore (c) : KeptBy (reporting [.anatomy, .stackMem, .commonsMem, .spadMem, .tiles,
    .engines, .contexts, .stacks, .network, .fabric, .power, .recovery, .freeValues]) s (execRegionRestore c s) := by
  refine KeptBy.start fun k => ?_
  unfold Machine.execRegionRestore
  refine Kept.next ?_
  split
  · exact k.turnAway
  · split
    · exact k.turnAway
    · split
      · exact (k.failRestore (by decide) _ _ _ _).ok
      · split
        next heq =>
          exact (((k.scanChecks (by decide) _ _).fst heq).failRestore (by decide) _ _ _ _).ok
        next heq =>
          exact (((((k.scanChecks (by decide) _ _).fst heq).scanIn (by decide) _ _).forgetScratch (by decide)
              _).modCtx (by decide) _ _).ok

theorem KeptBy.execRegionResume (c recordsOk) :
    KeptBy (reporting [.contexts, .network, .fabric, .recovery]) s (execRegionResume c recordsOk s) := by
  refine KeptBy.start fun k => ?_
  unfold Machine.execRegionResume
  refine Kept.next ?_
  dsimp only
  split
  · exact k.turnAway
  · split
    · exact k.turnAway
    · split
      · exact (k.failRestore (by decide) _ _ _ _).ok
      · exact ((((k.replaySync (by decide) _).resumeUnits (by decide) _).modCtx (by decide) _ _).mapRecovery
            (by decide) _ _ _).ok

theorem KeptBy.execCaughtUp (c) : KeptBy [Part.contexts, .recovery] s (execCaughtUp c s) := by
  refine KeptBy.start fun k => ?_
  unfold Machine.execCaughtUp
  refine Kept.next ?_
  split
  · exact k.turnAway
  · split
    · exact ((k.modCtx (by decide) _ _).mapRecovery (by decide) _ _ _).ok
    · exact k.turnAway

theorem KeptBy.execRecoveryBudgetExpiry (c) :
    KeptBy (reporting [.time, .contexts, .recovery]) s (execRecoveryBudgetExpiry c s) := by
  refine KeptBy.start fun k => ?_
  unfold Machine.execRecoveryBudgetExpiry
  refine Kept.next ?_
  dsimp only
  split
  · exact (((k.notBefore (by decide) _).event (by decide) _ _ _ _).modCtx (by decide) _ _).ok
  · exact (((k.notBefore (by decide) _).withRecov (by decide) _).event (by decide) _ _ _ _).ok
  · exact k.turnAway

theorem KeptBy.execMarginSummary : KeptBy [Part.recovery, .freeValues] s (execMarginSummary s) := by
  refine KeptBy.start fun k => ?_
  unfold Machine.execMarginSummary
  refine Kept.next ?_
  dsimp only
  split
  · exact ((k.marginBytes (by decide)).withRecov (by decide) _).ok
  · exact k.turnAway

theorem KeptBy.execShadowCompare (point frame norm proj) :
    KeptBy (reporting [.recovery]) s (execShadowCompare point frame norm proj s) := by
  refine KeptBy.start fun k => ?_
  unfold Machine.execShadowCompare
  refine Kept.next ?_
  split
  · exact k.turnAway
  · split
    · exact k.turnAway
    · exact (k.comparePoint (by decide) _ _ _).ok

theorem KeptBy.execAlertAck (v) : KeptBy [Part.faultLog] s (execAlertAck v s) :=
  KeptBy.start fun k => (k.ackAlert (by decide) _).next

theorem KeptBy.execFaultLogClear (v) : KeptBy [Part.faultLog] s (execFaultLogClear v s) :=
  KeptBy.start fun k => (k.clearLog (by decide) _).next

theorem KeptBy.execStandbyLoss (aux p0 p1) : KeptBy [Part.panelState, .time, .faultLog, .anatomy, .objects,
    .counters, .counterTimes, .stackMem, .commonsMem, .spadMem, .tiles, .engines, .contexts, .stacks, .network,
    .fabric, .clocks, .power, .thermal, .security, .hostSites, .sessions, .starts, .recovery, .pins] s
    (execStandbyLoss aux p0 p1 s) := by
  refine KeptBy.start fun k => ?_
  unfold Machine.execStandbyLoss
  refine Kept.next ?_
  dsimp only
  split
  · exact k.turnAway
  · split
    · exact (k.withPwr (by decide) _).ok
    · exact (k.loseStandby (by decide) _ _ _).ok

theorem KeptBy.execGraphStart (c) : KeptBy (reporting [.panelState, .anatomy, .stackMem, .commonsMem, .spadMem,
    .tiles, .engines, .contexts, .stacks, .network, .fabric, .power, .recovery, .freeValues]) s (execGraphStart c s)
    := by
  refine KeptBy.start fun k => ?_
  unfold Machine.execGraphStart
  refine Kept.next ?_
  split
  · exact k.fstatus _
  · split
    · exact ((k.startGraph (by decide) _ _).forgetScratch (by decide) _).fstatus _
    · exact k.fstatus _

theorem KeptBy.execDroopStretch (d i sagMv) :
    KeptBy [Part.counters, .clocks, .power, .recovery] s (execDroopStretch d i sagMv s) := by
  refine KeptBy.start fun k => ?_
  unfold Machine.execDroopStretch
  refine Kept.next ?_
  dsimp only
  split
  · refine Kept.turnAway ?_
    split
    · exact k.noteVoltage (by decide) _ _
    · exact k
  · split
    · refine Kept.ok ?_
      refine Kept.stretchBy ?_ (by decide) _ _
      split
      · exact k.noteVoltage (by decide) _ _
      · exact k
    · split
      · refine Kept.ok ?_
        refine Kept.stretchBy ?_ (by decide) _ _
        split
        · exact k.noteVoltage (by decide) _ _
        · exact k
      · split
        · refine Kept.ok ?_
          refine Kept.stretchBy ?_ (by decide) _ _
          split
          · exact k.noteVoltage (by decide) _ _
          · exact k
        · refine Kept.turnAway ?_
          split
          · exact k.noteVoltage (by decide) _ _
          · exact k

theorem KeptBy.execSensorsAgree (x a b ms) : KeptBy [Part.thermal] s (execSensorsAgree x a b ms s) := by
  refine KeptBy.start fun k => ?_
  unfold Machine.execSensorsAgree
  refine Kept.next ?_
  split
  · exact ((k.readSpot (by decide) _ _ _).modSpot (by decide) _ _).ok
  · exact k.turnAway

theorem KeptBy.execThermalCeilingRaise (d) :
    KeptBy [Part.time, .clocks, .thermal] s (execThermalCeilingRaise d s) := by
  unfold Machine.execThermalCeilingRaise
  extract_lets v
  have hv : Kept [Part.time, .clocks, .thermal] s v := Kept.refl.notBefore (by decide) _
  exact Kept.next (Kept.ite (Kept.withThmAnswer (hv.modDieClk (by decide) _ _) (by decide) _ _) Kept.refl.turnAway)

theorem KeptBy.execFirmwareWatchdog (i) : KeptBy (reporting [.panelState, .time, .anatomy, .objects, .counterTimes,
    .stackMem, .commonsMem, .spadMem, .tiles, .engines, .contexts, .stacks, .network, .fabric, .clocks, .power,
    .thermal, .starts, .recovery, .pins]) s (execFirmwareWatchdog i s) := by
  refine KeptBy.start fun k => ?_
  unfold Machine.execFirmwareWatchdog
  split
  · exact (((k.failTrial (by decide)).startBegin (by decide) _ _ _).ok).next
  · exact k.turnAway.next

theorem KeptBy.execQuenchNHigh (ns) : KeptBy [Part.pins] s (execQuenchNHigh ns s) := by
  refine Kept.next ⟨fun p hp => ?_, id⟩
  cases p <;> simp [State.same] at hp ⊢

theorem KeptBy.execStandbyPowerReturn (aux p0 p1) : KeptBy [Part.power] s (execStandbyPowerReturn aux p0 p1 s) := by
  refine KeptBy.start fun k => ?_
  unfold Machine.execStandbyPowerReturn
  refine Kept.next ?_
  dsimp only
  split
  · exact k.turnAway
  · exact (k.withPwr (by decide) _).ok

/-- An access that shifts data, with standby power, through a register that the manual does not describe. -/
def Undescribed (s : State) (c : Instr) : Prop :=
  s.pwr.standby = true ∧ s.pins.tap = .other ∧ s.tapOpen = true ∧ ∃ bits, c = .testPortAccess (.shiftDr bits)

/-- The test port is the one command that can fault. -/
theorem KeptBy.execTestPortAccess (op) : KeptBy [Part.pins, .freeValues] s (execTestPortAccess op s) ∨
    Undescribed s (.testPortAccess op) ∧ execTestPortAccess op s = .fault .testRegister := by
  unfold Machine.execTestPortAccess
  extract_lets _ put f
  have hput : ∀ r b, Kept [Part.pins, .freeValues] s (put r b) := fun r b => Kept.refl.withPins (by decide) _
  split
  · exact .inl Kept.refl.turnAway.next
  next hpwr =>
    split
    · exact .inl (hput _ _).ok.next
    · have hf : Kept [Part.pins, .freeValues] s f.2 := Kept.refl.free (by decide)
      exact .inl (hf.withPinsAnswer (by decide) _ _).next
    next bits =>
      split
      · exact .inl (hput _ _).ok.next
      · exact .inl (hput _ _).ok.next
      next htap =>
        split
        next hopen => exact .inr ⟨⟨by simpa using hpwr, htap, hopen, bits, rfl⟩, rfl⟩
        · exact .inl (hput _ _).ok.next

theorem KeptBy.execSwitchOnRetry (dom) : KeptBy [Part.time, .power] s (execSwitchOnRetry dom s) := by
  unfold Machine.execSwitchOnRetry
  extract_lets due
  split
  · exact Kept.next (Kept.withPwrAnswer (Kept.refl.notBefore (by decide) _) (by decide) _ _)
  · exact Kept.refl.turnAway.next

end Sys2Proof.Machine

/-! PROOF. Every command's frame, and canonical memories in every step. -/

namespace Sys2Proof.Machine

open Sys2Proof

/-- Whatever a command is, it changes no part but those that its rules let it change, and keeps the memories in canonical
form; the one command that can have no next state shifts data through an undescribed test register. -/
theorem exec_kept (c : Instr) (s : State) :
    KeptBy (frameOf c).2 s (exec c s) ∨ Undescribed s c ∧ exec c s = .fault .testRegister := by
  cases c with
  | coldStart => exact .inl (KeptBy.execColdStart _)
  | warmStart => exact .inl (KeptBy.execWarmStart _)
  | powerOnStart => exact .inl (KeptBy.execPowerOnStart _ _)
  | panelRstNRelease => exact .inl (KeptBy.execPanelRstNRelease _)
  | panelRstNHeld => exact .inl (KeptBy.execPanelRstNHeld _)
  | coolantQualified => exact .inl (KeptBy.execCoolantQualified _)
  | fwLoad => exact .inl (KeptBy.execFwLoad _ _ _ _)
  | startComplete => exact .inl (KeptBy.execStartComplete _)
  | startStepTimeout => exact .inl (KeptBy.execStartStepTimeout _ _)
  | selftest => exact .inl KeptBy.execSelftest
  | selftestComplete => exact .inl (KeptBy.execSelftestComplete _ _)
  | calibrate => exact .inl KeptBy.execCalibrate
  | calibrateComplete => exact .inl (KeptBy.execCalibrateComplete _ _)
  | powerOff => exact .inl KeptBy.execPowerOff
  | enterSafe => exact .inl (KeptBy.execEnterSafe _)
  | update => exact .inl KeptBy.execUpdate
  | fwStage => exact .inl (KeptBy.execFwStage _)
  | activate => exact .inl (KeptBy.execActivate _)
  | discard => exact .inl KeptBy.execDiscard
  | calTableWrite => exact .inl (KeptBy.execCalTableWrite _)
  | fieldDefectsClear => exact .inl (KeptBy.execFieldDefectsClear _)
  | countersClear => exact .inl (KeptBy.execCountersClear _ _)
  | registerWrite => exact .inl (KeptBy.execRegisterWrite _ _)
  | unitFiring => exact .inl (KeptBy.execUnitFiring _ _)
  | arrayRound => exact .inl (KeptBy.execArrayRound _ _ _ _ _)
  | stagingFill => exact .inl (KeptBy.execStagingFill _ _ _ _ _ _)
  | shadowLoad => exact .inl (KeptBy.execShadowLoad _ _ _ _)
  | halfFillStart => exact .inl (KeptBy.execHalfFillStart _ _ _ _ _)
  | halfTake => exact .inl (KeptBy.execHalfTake _ _ _)
  | halfRelease => exact .inl (KeptBy.execHalfRelease _ _ _)
  | outputStageWrite => exact .inl (KeptBy.execOutputStageWrite _ _ _ _)
  | laneInstruction => exact .inl (KeptBy.execLaneInstruction _ _ _)
  | scratchpadAccess => exact .inl (KeptBy.execScratchpadAccess _ _ _ _)
  | clean => exact .inl (KeptBy.execClean _ _ _ _)
  | invalidate => exact .inl (KeptBy.execInvalidate _ _ _ _)
  | cleanInvalidate => exact .inl (KeptBy.execCleanInvalidate _ _ _ _)
  | spCreditReq => exact .inl (KeptBy.execSpCreditReq _ _ _ _ _ _)
  | spCreditReply => exact .inl (KeptBy.execSpCreditReply _)
  | denyFullRetry => exact .inl (KeptBy.execDenyFullRetry _)
  | creditReturn => exact .inl (KeptBy.execCreditReturn _ _ _)
  | creditExpiry => exact .inl (KeptBy.execCreditExpiry _ _ _)
  | bankClose => exact .inl (KeptBy.execBankClose _ _)
  | bankCloseComplete => exact .inl (KeptBy.execBankCloseComplete _)
  | bankReopen => exact .inl (KeptBy.execBankReopen _)
  | bankReopenComplete => exact .inl (KeptBy.execBankReopenComplete _)
  | reopen => exact .inl (KeptBy.execReopen _ _)
  | commonsAccess => exact .inl (KeptBy.execCommonsAccess _ _ _)
  | tail => exact .inl (KeptBy.execTail _ _ _ _ _)
  | ringResume => exact .inl (KeptBy.execRingResume _ _ _ _)
  | ringAbort => exact .inl (KeptBy.execRingAbort _ _ _ _)
  | descriptorFetch => exact .inl (KeptBy.execDescriptorFetch _ _ _)
  | descriptorRetire => exact .inl (KeptBy.execDescriptorRetire _ _ _)
  | engineWatchdog => exact .inl (KeptBy.execEngineWatchdog _ _ _)
  | copy => exact .inl (KeptBy.execCopy _ _)
  | transpose => exact .inl (KeptBy.execTranspose _ _)
  | convert => exact .inl (KeptBy.execConvert _ _)
  | strataPack => exact .inl (KeptBy.execStrataPack _ _)
  | strataTrim => exact .inl (KeptBy.execStrataTrim _ _)
  | mxPack => exact .inl (KeptBy.execMxPack _ _)
  | exp => exact .inl (KeptBy.execExp _ _)
  | log => exact .inl (KeptBy.execLog _ _)
  | recip => exact .inl (KeptBy.execRecip _ _)
  | rsqrt => exact .inl (KeptBy.execRsqrt _ _)
  | sqrt => exact .inl (KeptBy.execSqrt _ _)
  | gelu => exact .inl (KeptBy.execGelu _ _)
  | silu => exact .inl (KeptBy.execSilu _ _)
  | sigmoid => exact .inl (KeptBy.execSigmoid _ _)
  | tanh => exact .inl (KeptBy.execTanh _ _)
  | lnStats => exact .inl (KeptBy.execLnStats _ _)
  | rmsStats => exact .inl (KeptBy.execRmsStats _ _)
  | normApply => exact .inl (KeptBy.execNormApply _ _)
  | sort => exact .inl (KeptBy.execSort _ _)
  | merge => exact .inl (KeptBy.execMerge _ _)
  | mergeSum => exact .inl (KeptBy.execMergeSum _ _)
  | topk => exact .inl (KeptBy.execTopk _ _)
  | gather => exact .inl (KeptBy.execGather _ _)
  | scatter => exact .inl (KeptBy.execScatter _ _)
  | scatterAdd => exact .inl (KeptBy.execScatterAdd _ _)
  | predict => exact .inl (KeptBy.execPredict _ _)
  | certifyTopk => exact .inl (KeptBy.execCertifyTopk _ _)
  | topkSelection => exact .inl (KeptBy.execTopkSelection _ _ _ _)
  | combine => exact .inl (KeptBy.execCombine _ _)
  | sign1Enc => exact .inl (KeptBy.execSign1Enc _ _)
  | sign1Dec => exact .inl (KeptBy.execSign1Dec _ _)
  | ringStep => exact .inl (KeptBy.execRingStep _ _)
  | gcmEnc => exact .inl (KeptBy.execGcmEnc _ _)
  | gcmDec => exact .inl (KeptBy.execGcmDec _ _)
  | sha3256 => exact .inl (KeptBy.execSha3256 _ _)
  | sha3512 => exact .inl (KeptBy.execSha3512 _ _)
  | hashVerify => exact .inl (KeptBy.execHashVerify _ _)
  | switchDrain => exact .inl (KeptBy.execSwitchDrain _)
  | switchFlush => exact .inl (KeptBy.execSwitchFlush _)
  | rollback => exact .inl (KeptBy.execRollback _)
  | halt => exact .inl (KeptBy.execHalt _)
  | resume => exact .inl (KeptBy.execResume _)
  | suspend => exact .inl (KeptBy.execSuspend _)
  | reinstate => exact .inl (KeptBy.execReinstate _)
  | cfg => exact .inl (KeptBy.execCfg _ _ _)
  | unitDrainSwitch => exact .inl (KeptBy.execUnitDrainSwitch _ _)
  | unitFlush => exact .inl (KeptBy.execUnitFlush _ _)
  | unitRollback => exact .inl (KeptBy.execUnitRollback _ _)
  | switchComplete => exact .inl (KeptBy.execSwitchComplete _)
  | switchTimeout => exact .inl (KeptBy.execSwitchTimeout _)
  | joinWatchdog => exact .inl (KeptBy.execJoinWatchdog _ _)
  | liveWriteApply => exact .inl (KeptBy.execLiveWriteApply _ _)
  | ctxBcast => exact .inl (KeptBy.execCtxBcast _ _ _)
  | imageLoad => exact .inl (KeptBy.execImageLoad _ _)
  | checkpointDue => exact .inl (KeptBy.execCheckpointDue _)
  | checkpointComplete => exact .inl (KeptBy.execCheckpointComplete _)
  | checkpointSkip => exact .inl (KeptBy.execCheckpointSkip _)
  | settle => exact .inl (KeptBy.execSettle _ _)
  | hint => exact .inl (KeptBy.execHint _ _)
  | groupEnd => exact .inl (KeptBy.execGroupEnd _ _)
  | dispatchSpan => exact .inl (KeptBy.execDispatchSpan _ _ _ _)
  | read => exact .inl (KeptBy.execRead _ _)
  | readData => exact .inl (KeptBy.execReadData _ _)
  | write => exact .inl (KeptBy.execWrite _ _)
  | writeDone => exact .inl (KeptBy.execWriteDone _ _)
  | token => exact .inl (KeptBy.execToken _ _)
  | routerForward => exact .inl (KeptBy.execRouterForward _ _)
  | regulatorRelease => exact .inl (KeptBy.execRegulatorRelease _ _ _)
  | ack => exact .inl (KeptBy.execAck _ _ _ _)
  | resendTimeout => exact .inl (KeptBy.execResendTimeout _ _ _ _)
  | pathTest => exact .inl (KeptBy.execPathTest _ _ _)
  | qcredit => exact .inl (KeptBy.execQcredit _ _ _)
  | syncRead => exact .inl (KeptBy.execSyncRead _)
  | syncWrite => exact .inl (KeptBy.execSyncWrite _ _)
  | init => exact .inl (KeptBy.execInit _ _)
  | arrive => exact .inl (KeptBy.execArrive _ _)
  | wait => exact .inl (KeptBy.execWait _ _)
  | fetchAdd => exact .inl (KeptBy.execFetchAdd _ _)
  | cas => exact .inl (KeptBy.execCas _ _)
  | link => exact .inl (KeptBy.execLink _ _)
  | readLink => exact .inl (KeptBy.execReadLink _)
  | release => exact .inl (KeptBy.execRelease _ _)
  | shardManifest => exact .inl (KeptBy.execShardManifest _ _)
  | fill => exact .inl (KeptBy.execFill _)
  | abandon => exact .inl (KeptBy.execAbandon _)
  | fillAttempt => exact .inl (KeptBy.execFillAttempt _ _)
  | fillWritten => exact .inl (KeptBy.execFillWritten _ _)
  | shardVerifyDone => exact .inl (KeptBy.execShardVerifyDone _ _)
  | fillAttemptTimeout => exact .inl (KeptBy.execFillAttemptTimeout _ _)
  | shardWaitLimit => exact .inl (KeptBy.execShardWaitLimit _ _)
  | digestPatrol => exact .inl (KeptBy.execDigestPatrol _ _)
  | scrub => exact .inl (KeptBy.execScrub _)
  | stackBankZeroise => exact .inl (KeptBy.execStackBankZeroise _ _)
  | linkEnable => exact .inl (KeptBy.execLinkEnable _)
  | trainComplete => exact .inl (KeptBy.execTrainComplete _ _ _)
  | keyx => exact .inl (KeptBy.execKeyx _ _)
  | keyxComplete => exact .inl (KeptBy.execKeyxComplete _)
  | linkRetry => exact .inl (KeptBy.execLinkRetry _)
  | frameRx => exact .inl (KeptBy.execFrameRx _ _)
  | credit => exact .inl (KeptBy.execCredit _ _ _)
  | linkstate => exact .inl (KeptBy.execLinkstate _ _ _)
  | laneGroupOut => exact .inl (KeptBy.execLaneGroupOut _ _ _)
  | groupRetrain => exact .inl (KeptBy.execGroupRetrain _ _ _ _)
  | rekey => exact .inl (KeptBy.execRekey _)
  | marginRefresh => exact .inl (KeptBy.execMarginRefresh _ _)
  | ringGrant => exact .inl (KeptBy.execRingGrant _ _ _ _ _ _ _ _)
  | ringData => exact .inl (KeptBy.execRingData _)
  | ringDone d g wire slot run step p bytes => exact .inl (KeptBy.execRingDone d g wire slot run step p bytes)
  | shardReq panel id shard digest length tag placement => exact .inl (KeptBy.execShardReq panel id shard digest length tag placement)
  | shardData => exact .inl (KeptBy.execShardData _)
  | xtoken => exact .inl (KeptBy.execXtoken _)
  | bucketRunStart => exact .inl (KeptBy.execBucketRunStart _ _ _)
  | ringStepTimeout => exact .inl (KeptBy.execRingStepTimeout _ _)
  | referenceLoss => exact .inl (KeptBy.execReferenceLoss _)
  | referenceReturn => exact .inl KeptBy.execReferenceReturn
  | islandDecouple => exact .inl (KeptBy.execIslandDecouple _)
  | relockTimeout => exact .inl (KeptBy.execRelockTimeout _)
  | stepChange => exact .inl (KeptBy.execStepChange _ _)
  | stepChangeTimeout => exact .inl (KeptBy.execStepChangeTimeout _ _)
  | stretchRateWindow => exact .inl (KeptBy.execStretchRateWindow _ _ _)
  | ceilingExpiry => exact .inl (KeptBy.execCeilingExpiry _ _)
  | lockstepFallback => exact .inl (KeptBy.execLockstepFallback _ _ _)
  | replicaWindow => exact .inl (KeptBy.execReplicaWindow _ _)
  | replicaFailure => exact .inl (KeptBy.execReplicaFailure _)
  | heatSwitchOff => exact .inl (KeptBy.execHeatSwitchOff _ _)
  | heatSwitchOn => exact .inl (KeptBy.execHeatSwitchOn _ _)
  | quenchN => exact .inl (KeptBy.execQuenchN _)
  | quenchCmd => exact .inl (KeptBy.execQuenchCmd _)
  | readoutComplete => exact .inl (KeptBy.execReadoutComplete _)
  | quenchSramDump => exact .inl (KeptBy.execQuenchSramDump _)
  | sramDumpComplete => exact .inl (KeptBy.execSramDumpComplete _)
  | obsidianImage => exact .inl (KeptBy.execObsidianImage _)
  | inputFault => exact .inl (KeptBy.execInputFault _ _)
  | inputMarginal => exact .inl (KeptBy.execInputMarginal _)
  | inputOvercurrent => exact .inl (KeptBy.execInputOvercurrent _ _)
  | inputFoldback => exact .inl (KeptBy.execInputFoldback _ _)
  | busbarImbalance => exact .inl (KeptBy.execBusbarImbalance _ _ _)
  | converterFailure => exact .inl (KeptBy.execConverterFailure _ _)
  | switchOnSlot => exact .inl (KeptBy.execSwitchOnSlot _ _)
  | switchOnAbandon => exact .inl (KeptBy.execSwitchOnAbandon _)
  | efuseOpen => exact .inl (KeptBy.execEfuseOpen _ _ _)
  | phaseFailure => exact .inl (KeptBy.execPhaseFailure _ _)
  | shunt => exact .inl (KeptBy.execShunt _ _)
  | boost => exact .inl (KeptBy.execBoost _ _)
  | powerTick => exact .inl (KeptBy.execPowerTick _)
  | currentLogRow => exact .inl (KeptBy.execCurrentLogRow _ _)
  | minVoltageClear => exact .inl (KeptBy.execMinVoltageClear _)
  | resistanceUpdate => exact .inl (KeptBy.execResistanceUpdate _ _)
  | sensorDisagreement => exact .inl (KeptBy.execSensorDisagreement _ _ _ _)
  | sensorExclusion => exact .inl (KeptBy.execSensorExclusion _ _ _)
  | thermalStageEnter => exact .inl (KeptBy.execThermalStageEnter _ _ _)
  | thermalStageLower => exact .inl (KeptBy.execThermalStageLower _)
  | thermalStageExit => exact .inl (KeptBy.execThermalStageExit _ _ _ _)
  | thermalTrip => exact .inl (KeptBy.execThermalTrip _ _ _ _ _)
  | hostThermtrip => exact .inl (KeptBy.execHostThermtrip _)
  | coolantSample => exact .inl (KeptBy.execCoolantSample _ _)
  | coolantTimeout => exact .inl (KeptBy.execCoolantTimeout _)
  | outletBelowInlet => exact .inl (KeptBy.execOutletBelowInlet _)
  | lowFlow => exact .inl (KeptBy.execLowFlow _)
  | thetaUpdate => exact .inl (KeptBy.execThetaUpdate _ _)
  | powerForecast => exact .inl (KeptBy.execPowerForecast _)
  | forecastInterval => exact .inl (KeptBy.execForecastInterval _ _)
  | forecastExpiry => exact .inl KeptBy.execForecastExpiry
  | simmerCheck => exact .inl (KeptBy.execSimmerCheck _ _)
  | rootTakeover => exact .inl (KeptBy.execRootTakeover _)
  | rootLost => exact .inl KeptBy.execRootLost
  | entropyFailure => exact .inl (KeptBy.execEntropyFailure _)
  | ownerClaim => exact .inl (KeptBy.execOwnerClaim _)
  | ownerRelease => exact .inl (KeptBy.execOwnerRelease _)
  | keyAdd => exact .inl (KeptBy.execKeyAdd _ _)
  | keyRemove => exact .inl (KeptBy.execKeyRemove _ _)
  | keyPrimary => exact .inl (KeptBy.execKeyPrimary _ _)
  | imageKey => exact .inl (KeptBy.execImageKey _ _)
  | updateApprove => exact .inl (KeptBy.execUpdateApprove _ _ _)
  | operatorGeneration => exact .inl (KeptBy.execOperatorGeneration _ _)
  | revocation => exact .inl (KeptBy.execRevocation _)
  | attestRequest => exact .inl (KeptBy.execAttestRequest _ _ _ _ _)
  | offer => exact .inl (KeptBy.execOffer _)
  | offerExpiry => exact .inl (KeptBy.execOfferExpiry _)
  | ctxAccept => exact .inl (KeptBy.execCtxAccept _ _)
  | ctxKeyLoad => exact .inl (KeptBy.execCtxKeyLoad _ _)
  | close => exact .inl (KeptBy.execClose _)
  | closeComplete => exact .inl (KeptBy.execCloseComplete _)
  | debugToken => exact .inl (KeptBy.execDebugToken _)
  | hostLinkTrain => exact .inl (KeptBy.execHostLinkTrain _ _)
  | hostLinkError => exact .inl (KeptBy.execHostLinkError _ _)
  | hostLinkRetry => exact .inl (KeptBy.execHostLinkRetry _ _)
  | hWrite => exact .inl (KeptBy.execHWrite _ _ _ _ _)
  | hRead => exact .inl (KeptBy.execHRead _ _ _ _ _)
  | pCpl => exact .inl (KeptBy.execPCpl _ _ _ _)
  | dpCtrl => exact .inl (KeptBy.execDpCtrl _ _)
  | dpStatus => exact .inl (KeptBy.execDpStatus _ _)
  | dpStatusRead => exact .inl (KeptBy.execDpStatusRead _ _)
  | mbInLen => exact .inl (KeptBy.execMbInLen _ _)
  | mbAckConsumed => exact .inl (KeptBy.execMbAckConsumed _)
  | mbAckClearOverrun => exact .inl (KeptBy.execMbAckClearOverrun _)
  | dbStatusClear => exact .inl (KeptBy.execDbStatusClear _ _)
  | moverTail => exact .inl (KeptBy.execMoverTail _ _ _)
  | moverResume => exact .inl (KeptBy.execMoverResume _ _)
  | moverAbort => exact .inl (KeptBy.execMoverAbort _ _)
  | moverPiece => exact .inl (KeptBy.execMoverPiece _ _)
  | descriptorComplete => exact .inl (KeptBy.execDescriptorComplete _ _)
  | hello => exact .inl (KeptBy.execHello _ _ _)
  | finish => exact .inl (KeptBy.execFinish _ _ _)
  | handshakeTimeout => exact .inl (KeptBy.execHandshakeTimeout _)
  | fjocoRead => exact .inl (KeptBy.execFjocoRead _ _ _)
  | fjocoWrite => exact .inl (KeptBy.execFjocoWrite _ _ _ _)
  | segRead => exact .inl (KeptBy.execSegRead _ _ _ _)
  | segWrite => exact .inl (KeptBy.execSegWrite _ _ _ _ _)
  | segAbort => exact .inl (KeptBy.execSegAbort _ _ _)
  | segTimeout => exact .inl (KeptBy.execSegTimeout _)
  | sessionClose => exact .inl (KeptBy.execSessionClose _)
  | sessionIdle => exact .inl (KeptBy.execSessionIdle _)
  | pdoTx => exact .inl (KeptBy.execPdoTx _)
  | pdoRx => exact .inl (KeptBy.execPdoRx _ _ _)
  | tpdoRate => exact .inl (KeptBy.execTpdoRate _ _ _)
  | tpdoMap => exact .inl (KeptBy.execTpdoMap _ _ _)
  | rpdoMap => exact .inl (KeptBy.execRpdoMap _ _ _)
  | eventMask => exact .inl (KeptBy.execEventMask _ _)
  | fieldLinkLoss => exact .inl (KeptBy.execFieldLinkLoss _ _)
  | fieldLinkReturn => exact .inl (KeptBy.execFieldLinkReturn _ _)
  | neighborDiscovery => exact .inl (KeptBy.execNeighborDiscovery _ _ _)
  | tileHeartbeatMiss => exact .inl (KeptBy.execTileHeartbeatMiss _ _)
  | dieHeartbeatMiss => exact .inl (KeptBy.execDieHeartbeatMiss _)
  | dieProbeResult => exact .inl (KeptBy.execDieProbeResult _ _)
  | sinterHeartbeatMiss => exact .inl (KeptBy.execSinterHeartbeatMiss _)
  | tileFailure => exact .inl (KeptBy.execTileFailure _ _)
  | dieFailure => exact .inl (KeptBy.execDieFailure _)
  | dormantDieFailure => exact .inl (KeptBy.execDormantDieFailure _)
  | migrationStart => exact .inl (KeptBy.execMigrationStart _)
  | migrationCopy => exact .inl (KeptBy.execMigrationCopy _)
  | migrationDestFail => exact .inl (KeptBy.execMigrationDestFail _)
  | relocation => exact .inl (KeptBy.execRelocation _)
  | stackLoss => exact .inl (KeptBy.execStackLoss _)
  | regionRestore => exact .inl (KeptBy.execRegionRestore _)
  | regionResume => exact .inl (KeptBy.execRegionResume _ _)
  | caughtUp => exact .inl (KeptBy.execCaughtUp _)
  | recoveryBudgetExpiry => exact .inl (KeptBy.execRecoveryBudgetExpiry _)
  | marginSummary => exact .inl KeptBy.execMarginSummary
  | shadowCompare => exact .inl (KeptBy.execShadowCompare _ _ _ _)
  | alertAck => exact .inl (KeptBy.execAlertAck _)
  | faultLogClear => exact .inl (KeptBy.execFaultLogClear _)
  | standbyLoss => exact .inl (KeptBy.execStandbyLoss _ _ _)
  | graphStart => exact .inl (KeptBy.execGraphStart _)
  | droopStretch => exact .inl (KeptBy.execDroopStretch _ _ _)
  | sensorsAgree => exact .inl (KeptBy.execSensorsAgree _ _ _ _)
  | thermalCeilingRaise => exact .inl (KeptBy.execThermalCeilingRaise _)
  | firmwareWatchdog => exact .inl (KeptBy.execFirmwareWatchdog _)
  | quenchNHigh => exact .inl (KeptBy.execQuenchNHigh _)
  | standbyPowerReturn => exact .inl (KeptBy.execStandbyPowerReturn _ _ _)
  | testPortAccess => exact KeptBy.execTestPortAccess _
  | switchOnRetry => exact .inl (KeptBy.execSwitchOnRetry _)

theorem kept_of_exec {c : Instr} {s s' : State} (h : exec c s = .next s') : Kept (frameOf c).2 s s' := by
  obtain hk | ⟨-, hf⟩ := exec_kept c s
  · exact hk.of_next h
  · cases hf.symm.trans h

/-- What a command's next state leaves as it was. -/
theorem framed_of_exec {c : Instr} {s s' : State} (h : exec c s = .next s') : Framed c s s' := (kept_of_exec h).same

/-- An access through an undescribed test register has no next state. -/
theorem exec_of_undescribed {c : Instr} {s : State} (h : Undescribed s c) : exec c s = .fault .testRegister := by
  obtain ⟨hpwr, htap, hopen, bits, rfl⟩ := h
  simp [exec, execTestPortAccess, hpwr, htap, hopen]

/-- Settles O5: a command has a next state, or is the one that faults. -/
theorem noCommandIsRefused : Obligations.NoCommandIsRefused := by
  intro c s r h
  obtain ⟨t, ht, -⟩ | ⟨-, hf⟩ := exec_kept c s
  · cases ht.symm.trans h
  · cases hf.symm.trans h

/-- Settles O6: a command that has no next state shifts data through an undescribed test register, and that faults. -/
theorem onlyAnUndescribedTestRegisterFaults : Obligations.OnlyAnUndescribedTestRegisterFaults := by
  intro c s f
  refine ⟨fun h => ?_, fun ⟨hf, hu⟩ => hf ▸ exec_of_undescribed hu⟩
  obtain ⟨t, ht, -⟩ | ⟨hu, hf⟩ := exec_kept c s
  · cases ht.symm.trans h
  · cases hf.symm.trans h
    exact ⟨rfl, hu⟩

/-- Settles O4: a nanosecond without a command leaves the memories alone, and every command keeps them canonical. -/
theorem everyStepKeepsTheMemoriesCanonical : Obligations.EveryStepKeepsTheMemoriesCanonical := by
  intro s s' w h
  unfold step at h
  split at h
  · cases h
    exact w
  · exact (kept_of_exec h).wf w

/-- Settles O35: a frame is what `exec_kept` says of every command. -/
theorem frameOfTileAndRingCommands : Obligations.FrameOfTileAndRingCommands := fun _ _ _ _ h => framed_of_exec h

/-- Settles O36, by the same lemma. -/
theorem frameOfContextAndShardCommands : Obligations.FrameOfContextAndShardCommands := fun _ _ _ _ h => framed_of_exec h

/-- Settles O37, by the same lemma. -/
theorem frameOfTrustCommands : Obligations.FrameOfTrustCommands := fun _ _ _ _ h => framed_of_exec h

/-- Settles O38, by the same lemma. -/
theorem frameOfNetworkAndFabricCommands : Obligations.FrameOfNetworkAndFabricCommands := fun _ _ _ _ h => framed_of_exec h

/-- Settles O39, by the same lemma. -/
theorem frameOfClockAndHeatCommands : Obligations.FrameOfClockAndHeatCommands := fun _ _ _ _ h => framed_of_exec h

/-- Settles O40, by the same lemma. -/
theorem frameOfPowerCommands : Obligations.FrameOfPowerCommands := fun _ _ _ _ h => framed_of_exec h

/-- Settles O41, by the same lemma. -/
theorem frameOfMailboxAndSessionCommands : Obligations.FrameOfMailboxAndSessionCommands := fun _ _ _ _ h =>
  framed_of_exec h

/-- Settles O42, by the same lemma. -/
theorem frameOfRecoveryAndFirmwareCommands : Obligations.FrameOfRecoveryAndFirmwareCommands := fun _ _ _ _ h =>
  framed_of_exec h

/-- Settles O44, by the same lemma. -/
theorem frameOfCommandsThatMoveThePanel : Obligations.FrameOfCommandsThatMoveThePanel := fun _ _ _ _ h => framed_of_exec h

end Sys2Proof.Machine

/-! PROOF. A step and the reset state. -/

namespace Sys2Proof.Machine

open Sys2Proof

/-- Settles O1: the second case of a step. -/
theorem stepRunsTheFrontCommand : Obligations.StepRunsTheFrontCommand := by
  intro s c rest h
  simp [step, h]

/-- Settles O2: the first case of a step. -/
theorem anEmptyQueueLetsANanosecondPass : Obligations.AnEmptyQueueLetsANanosecondPass := by
  intro s h
  simp [step, h, tick]

/-- Settles O3: the reset state lists no memory cell, no counter and no context. -/
theorem resetIsOff : Obligations.ResetIsOff :=
  ⟨rfl, rfl, rfl, rfl, fun _ => ⟨rfl, rfl⟩, fun _ => ⟨rfl, rfl, rfl⟩, fun _ _ _ => rfl⟩

end Sys2Proof.Machine

/-! PROOF. Panel commands outside their row of R486: each asks first whether a command runs, and then for the states of
its row. -/

namespace Sys2Proof.Machine

open Sys2Proof

section

variable {s : State} (i : StartIn)

theorem coldStart_busy (h : s.boot.running ≠ .none) : s.coldStart i = s.fstatus .busy := if_pos h

theorem warmStart_busy (h : s.boot.running ≠ .none) : s.warmStart i = s.fstatus .busy := if_pos h

theorem powerOff_busy (h : s.boot.running ≠ .none) : s.powerOff = s.fstatus .busy := if_pos h

theorem safeCmd_busy (h : s.boot.running ≠ .none) : s.safeCmd = s.fstatus .busy := if_pos h

theorem selftest_busy (h : s.boot.running ≠ .none) : s.selftest = s.fstatus .busy := if_pos h

theorem calibrate_busy (h : s.boot.running ≠ .none) : s.calibrate = s.fstatus .busy := if_pos h

theorem update_busy (h : s.boot.running ≠ .none) : s.update = s.fstatus .busy := if_pos h

theorem coldStart_outside (hr : s.boot.running = .none) (hc : s.coldOk = false) : s.coldStart i = s.fstatus .state := by
  simp [State.coldStart, hr, hc]

theorem warmStart_outside (hr : s.boot.running = .none) (hi : s.st ≠ .idle) (hn : s.st ≠ .run) (hs : s.st ≠ .safe)
    (hq : s.st ≠ .quenched) : s.warmStart i = s.fstatus .state := by
  rw [State.warmStart, if_neg (by simp [hr])]
  split
  next h => exact absurd h hi
  next h => exact absurd h hn
  next h => exact absurd h hs
  next h => exact absurd h hq
  · rfl

theorem powerOff_outside (hr : s.boot.running = .none) (hi : s.st ≠ .idle) (hn : s.st ≠ .run) (hs : s.st ≠ .safe)
    (hq : s.st ≠ .quenched) : s.powerOff = s.fstatus .state := by
  rw [State.powerOff, if_neg (by simp [hr])]
  split
  next h => exact absurd h hi
  next h => exact absurd h hn
  next h => exact absurd h hs
  next h => exact absurd h hq
  · rfl

theorem safeCmd_outside (hr : s.boot.running = .none) (hi : s.st ≠ .idle) (hn : s.st ≠ .run) :
    s.safeCmd = s.fstatus .state := by
  rw [State.safeCmd, if_neg (by simp [hr])]
  split
  next h => exact absurd h hi
  next h => exact absurd h hn
  · rfl

theorem selftest_outside (hr : s.boot.running = .none) (hi : s.st ≠ .idle) : s.selftest = s.fstatus .state := by
  simp [State.selftest, hr, hi]

theorem calibrate_outside (hr : s.boot.running = .none) (hi : s.st ≠ .idle) : s.calibrate = s.fstatus .state := by
  simp [State.calibrate, hr, hi]

theorem calibrate_open (hr : s.boot.running = .none) {c : CtxId} (hc : (s.ctx c).key ≠ .closed) :
    s.calibrate = s.fstatus .state := by
  have hopen : allCtx.all (fun c => (s.ctx c).key == .closed) = false := by
    rw [List.all_eq_false]
    exact ⟨c, by simp [allCtx], by simpa using hc⟩
  simp [State.calibrate, hr, hopen]

theorem update_outside (hr : s.boot.running = .none) (hi : s.st ≠ .idle)
    (hs : ¬(s.st = .safe ∧ s.recov.safeCause = 0x7015)) : s.update = s.fstatus .state := by
  dsimp only [State.update]
  rw [if_neg (by simp [hr]), if_neg]
  rintro (⟨h, -⟩ | h)
  · exact hi h
  · exact hs h

end

/-- Settles O51: the lemmas above, command by command. -/
theorem panelCommandsOutsideTheirRowChangeNothing : Obligations.PanelCommandsOutsideTheirRowChangeNothing := by
  intro s i busy state
  refine ⟨fun h => ⟨?_, ?_, ?_, ?_, ?_, ?_, ?_⟩, fun hr => ⟨fun hc => ?_, fun hi hn hs hq => ⟨?_, ?_⟩, fun hi hn => ?_,
    fun hi => ⟨?_, ?_⟩, fun ⟨c, hc⟩ => ?_, fun hi hs => ?_⟩⟩
  · exact congrArg _ (coldStart_busy i h)
  · exact congrArg _ (warmStart_busy i h)
  · exact congrArg _ (powerOff_busy h)
  · exact congrArg _ (safeCmd_busy h)
  · exact congrArg _ (selftest_busy h)
  · exact congrArg _ (calibrate_busy h)
  · exact congrArg _ (update_busy h)
  · exact congrArg _ (coldStart_outside i hr hc)
  · exact congrArg _ (warmStart_outside i hr hi hn hs hq)
  · exact congrArg _ (powerOff_outside hr hi hn hs hq)
  · exact congrArg _ (safeCmd_outside hr hi hn)
  · exact congrArg _ (selftest_outside hr hi)
  · exact congrArg _ (calibrate_outside hr hi)
  · exact congrArg _ (calibrate_open hr hc)
  · exact congrArg _ (update_outside hr hi hs)

end Sys2Proof.Machine

/-! PROOF. The fault log (R519, R520), QUENCH_N (R355, R557) and replayed owner records (R415, R440). -/

namespace Sys2Proof.Machine

open Sys2Proof

/-! ### Folding -/

theorem foldLog_append {e f : LogEntry} {pre post : List LogEntry} (hpre : ∀ g ∈ pre, foldsInto e g = false)
    (hf : foldsInto e f = true) :
    foldLog e (pre ++ f :: post) = some (pre ++ { f with repeats := min (f.repeats + 1) 0xFFFF } :: post) := by
  induction pre with
  | nil => simp [foldLog, hf]
  | cons g pre ih =>
    obtain ⟨hg, hpre⟩ := List.forall_mem_cons.1 hpre
    simp [foldLog, hg, ih hpre]

theorem foldLog_eq_none {e : LogEntry} {l : List LogEntry} (h : ∀ g ∈ l, foldsInto e g = false) : foldLog e l = none := by
  induction l with
  | nil => rfl
  | cons g l ih =>
    obtain ⟨hg, hl⟩ := List.forall_mem_cons.1 h
    simp [foldLog, hg, ih hl]

theorem persistent_alertFor (s : State) (e : LogEntry) : (s.alertFor e).log.persistent = s.log.persistent := by
  unfold State.alertFor
  split <;> rfl

/-- The persistent ring after an entry is logged: a folded occurrence leaves it alone, a new fault enters it. -/
theorem persistent_logEntry (s : State) (e : LogEntry) :
    (s.logEntry e).log.persistent = match foldLog e s.log.main with
      | some _ => s.log.persistent
      | none => if e.fault then ((s.boot.startCount, e) :: s.log.persistent).take 4096 else s.log.persistent := by
  unfold State.logEntry
  cases foldLog e s.log.main with
  | some m => exact persistent_alertFor _ e
  | none =>
    dsimp only
    rw [persistent_alertFor, log_notifyEvent]
    rfl

theorem foldsInto_iff (e f : LogEntry) : foldsInto e f = true ↔ e.code = f.code ∧ e.loc = f.loc ∧ e.ctx = f.ctx ∧
    e.held = f.held ∧ e.holdup = false ∧ f.holdup = false ∧ e.logged < f.logged + 1000000000 := by
  simp [foldsInto, and_assoc]

/-- Settles O48: the main ring and the persistent ring after an entry, by where the occurrence folds. -/
theorem loggedOccurrencesFold : Obligations.LoggedOccurrencesFold := by
  intro s e
  refine ⟨fun pre f post hmain hpre hf => ?_, fun hnone => ?_, foldsInto_iff e⟩
  · have hfold := foldLog_append (post := post) hpre hf
    rw [main_logEntry, persistent_logEntry, hmain, hfold]
    exact ⟨rfl, rfl⟩
  · rw [main_logEntry, persistent_logEntry, foldLog_eq_none hnone]
    exact ⟨rfl, rfl⟩

/-! ### QUENCH_N -/

theorem quenchable_iff (s : State) : s.quenchable = true ↔ s.st ≠ .off ∧ s.st ≠ .quenched := by
  simp [State.quenchable]

/-- QUENCH is entered from every state but OFF and QUENCHED, with the unconfirmed request in quench_status. -/
theorem takeQuench_enters {s : State} (h : s.quenchable = true) (trigger : Nat) (code : W16) :
    (s.takeQuench trigger code).st = .quenched ∧ (s.takeQuench trigger code).clk.quench = 1 := by
  obtain ⟨hoff, hquenched⟩ := (quenchable_iff s).1 h
  unfold State.takeQuench
  split
  · exact absurd ‹_› hoff
  · exact absurd ‹_› hquenched
  · dsimp only
    rw [State.event_st, State.event_clk, State.enter_st, State.enter_clk]
    exact ⟨rfl, congrArg Clk.quench ((told_endHost _ 1 _ _).clk.trans (told_endHost _ 0 _ _).clk)⟩

theorem exec_quenchN_short {ns : Nat} (s : State) (h : ns < 200) : exec (.quenchN ns) s = .next s.turnAway := by
  simp [exec, execQuenchN, h]

theorem exec_quenchN_taken {ns : Nat} {s : State} (h : 200 ≤ ns) (harmed : s.pins.quenchArmed = true)
    (hq : s.quenchable = true) :
    exec (.quenchN ns) s = .next { State.takeQuench { s with pins := { s.pins with quenchLow := true } } 0 0 with
      pins := { s.pins with quenchLow := true, quenchArmed := false }, answer := .done } := by
  rw [exec, execQuenchN, if_neg (by omega), if_pos ⟨harmed, hq⟩]
  rfl

theorem exec_quenchN_refused {ns : Nat} {s : State} (h : 200 ≤ ns)
    (hno : ¬(s.pins.quenchArmed = true ∧ s.quenchable = true)) :
    exec (.quenchN ns) s = .next (State.turnAway { s with pins := { s.pins with quenchLow := true } }) := by
  rw [exec, execQuenchN, if_neg (by omega), if_neg hno]

/-- Settles O55: the branches of the two commands of the pin. -/
theorem quenchPinNeedsTwoHundredNanoseconds : Obligations.QuenchPinNeedsTwoHundredNanoseconds := by
  intro s ns
  refine ⟨exec_quenchN_short s, fun h harmed hq => ?_, fun h hno => ?_, _, rfl, rfl, rfl⟩
  · obtain ⟨hst, hclk⟩ := takeQuench_enters (s := { s with pins := { s.pins with quenchLow := true } }) hq 0 0
    exact ⟨_, exec_quenchN_taken h harmed hq, hst, hclk, rfl⟩
  · exact ⟨_, exec_quenchN_refused h hno, rfl, rfl, rfl⟩

/-! ### Replayed owner records -/

theorem fault_sec_but_reports (s : State) (code : W16) (c : Option CtxId) (l : Loc) (d : Nat) :
    { (s.fault code c l d).sec with reports := s.sec.reports } = s.sec := (told_fault s code c l d).sec

/-- A refused record answers RANGE and leaves what the root holds but for the draws of the EVENT frames. -/
theorem refuseRecord_sec_but_reports (s : State) (code : W16) (c : Option CtxId) (sigBad : Bool) (d : Nat) :
    { (s.refuseRecord code c sigBad d).sec with reports := s.sec.reports } = s.sec := by
  unfold State.refuseRecord
  extract_lets s1 s2 s3
  have h1 : s1.sec = s.sec := by unfold s1; split <;> rfl
  have h2 : s2.sec = s.sec := by unfold s2; split <;> exact h1
  have h3 : s3.sec = s.sec := by unfold s3; split <;> exact h2
  rw [← h3]
  exact fault_sec_but_reports _ _ _ _ _

/-- What R415 asks of a record fails for one whose sequence is not above the last. -/
theorem recordOk_of_replayed {s : State} {h : OwnerHead} (hs : h.sequence ≤ s.sec.sequence) (zeroOk : Bool) :
    s.recordOk h zeroOk = false := by
  simp [State.recordOk, hs]

theorem ownerRecord_of_replayed {s : State} {h : OwnerHead} (hs : h.sequence ≤ s.sec.sequence) (zeroOk ok : Bool)
    (f : State → State) : s.ownerRecord h zeroOk ok f = s.refuseRecord 0x7005 none (!s.byOwner h.keyId h.sig) := by
  rw [State.ownerRecord, recordOk_of_replayed hs]
  rfl

/-- A replayed record of any kind answers RANGE and leaves what owner records set. -/
theorem ownerRecord_refused {s : State} {h : OwnerHead} (hs : h.sequence ≤ s.sec.sequence) (zeroOk ok : Bool)
    (f : State → State) : (s.ownerRecord h zeroOk ok f).answer = .fjoco .range [] ∧
      ∀ {A : Type} (g : Sec → A), (∀ x r, g { x with reports := r } = g x) →
        g (s.ownerRecord h zeroOk ok f).sec = g s.sec := by
  rw [ownerRecord_of_replayed hs]
  exact ⟨rfl, fun g hg => (hg _ _).symm.trans (congrArg g (refuseRecord_sec_but_reports _ _ _ _ _))⟩

/-- Settles O56: every kind of owner record goes through `ownerRecord`. -/
theorem replayedOwnerRecordsHaveNoEffect : Obligations.ReplayedOwnerRecordsHaveNoEffect := by
  intro s h hs kept refused
  have hkept : ∀ zeroOk ok f, (s.ownerRecord h zeroOk ok f).answer = .fjoco .range [] ∧
      kept (s.ownerRecord h zeroOk ok f) := by
    intro zeroOk ok f
    obtain ⟨ha, hsec⟩ := ownerRecord_refused hs zeroOk ok f
    exact ⟨ha, hsec Sec.ownerKeys fun _ _ => rfl, hsec Sec.owned fun _ _ => rfl, hsec Sec.imageKey fun _ _ => rfl,
      hsec Sec.approvals fun _ _ => rfl, hsec Sec.minGen fun _ _ => rfl, hsec Sec.sequence fun _ _ => rfl⟩
  refine ⟨fun k => ⟨_, rfl, hkept _ _ _⟩, fun k => ⟨_, rfl, hkept _ _ _⟩, fun k => ⟨_, rfl, hkept _ _ _⟩,
    fun k => ⟨_, rfl, hkept _ _ _⟩, fun c d => ⟨_, rfl, hkept _ _ _⟩, fun g => ⟨_, rfl, hkept _ _ _⟩, fun hq => ?_⟩
  have hexec : exec (.ownerRelease h) s = .next (s.ownerRecord h false true State.release) := by
    rw [exec, execOwnerRelease, State.recRelease, if_neg hq]
  exact ⟨_, hexec, hkept _ _ _⟩

end Sys2Proof.Machine

/-! PROOF. The banks of the scratchpads and the commons (R87–R90, R106, R111–R113): what a cycle's arrivals leave alone, and
what the granted access does on words without an error. -/

namespace Sys2Proof.Machine

open Sys2Proof

/-! ### What an operation leaves alone, by its parts -/

section

variable {L : List Part} {s t : State}

theorem Kept.spadBytes (k : Kept L s t) (h : Part.spadMem ∉ L) (a : Nat) : byteAt t.spadMem a = byteAt s.spadMem a :=
  k.same _ h a

theorem Kept.commonsBytes (k : Kept L s t) (h : Part.commonsMem ∉ L) (a : Nat) :
    byteAt t.commonsMem a = byteAt s.commonsMem a := k.same _ h a

theorem Kept.anat_eq (k : Kept L s t) (h : Part.anatomy ∉ L) : t.anat = s.anat := k.same _ h

theorem Kept.tile_eq (k : Kept L s t) (h : Part.tiles ∉ L) (j : Nat) : t.tile j = s.tile j := by
  have ht : t.tiles = s.tiles := k.same _ h
  rw [State.tile, State.tile, ht]

theorem Kept.commons_eq (k : Kept L s t) (h : Part.engines ∉ L) (j : Nat) : t.commons j = s.commons j := by
  have ht : t.eng = s.eng := k.same _ h
  rw [State.commons, State.commons, ht]

theorem column_congr (h : t.anat = s.anat) (r c : Nat) : t.column r c = s.column r c := by
  have hw : t.dieMapWord r = s.dieMapWord r := by rw [State.dieMapWord, State.dieMapWord, h]
  unfold State.column
  rw [hw]

theorem phys_congr (h : t.anat = s.anat) (d : LDie) : t.phys d = s.phys d := by
  rw [State.phys, State.phys, column_congr h]

theorem tileKey_congr (h : t.anat = s.anat) (d : LDie) (x : LTile) : t.tileKey d x = s.tileKey d x := by
  simp only [State.tileKey, phys_congr h, State.physTile, State.tileMapWord, h]

end

/-! ### Arrivals at a tile

What g reads of a tile is neither who waits at its banks nor whose turn it is there. -/

section

variable {A : Type} {g : TileS → A} (s : State) (d : LDie) (t : LTile) (k j : Nat)

theorem modTile_reads {f : TileS → TileS} (hf : ∀ y, g (f y) = g y) : g ((s.modTile k f).tile j) = g (s.tile j) := by
  rw [State.tile_modTile]
  split
  next h => rw [h, hf]
  · rfl

theorem bankShut_reads (hh : ∀ y w, g { y with bankHeld := w } = g y) (r : MemReq) :
    g ((s.bankShut d t k r).tile j) = g (s.tile j) := by
  unfold State.bankShut
  extract_lets u
  split
  · rw [(Kept.refl.haltCtx (List.Subset.refl _) r.ctx).tile_eq (by decide), State.tile_fault]
    rfl
  · rw [modTile_reads _ _ _ fun y => hh y _, (Kept.refl.loseTurn (List.Subset.refl _) d t r).tile_eq (by decide)]
    rfl

theorem spadArrive_reads (hh : ∀ y w, g { y with bankHeld := w } = g y) (hw : ∀ y w, g { y with bankWait := w } = g y)
    (reqs : List MemReq) : g ((s.spadArrive d t k reqs).tile j) = g (s.tile j) := by
  induction reqs generalizing s with
  | nil => rfl
  | cons r reqs ih =>
    refine (ih _).trans ?_
    dsimp only
    split
    · exact bankShut_reads s d t k j hh r
    · exact modTile_reads s k j fun y => hw y _

theorem bankTurn_reads (hp : ∀ y w, g { y with bankPtr := w } = g y) (port off len : Nat) :
    g ((s.bankTurn d t k port off len).tile j) = g (s.tile j) := by
  unfold State.bankTurn
  generalize (slotsOf off len).zipIdx = l
  induction l generalizing s with
  | nil => rfl
  | cons q l ih =>
    refine (ih _).trans ?_
    dsimp only
    rw [modTile_reads _ _ _ fun y => hp y _]
    exact congrArg g (Kept.tile_eq (Kept.refl.foldl fun u r ku => ku.loseTurn (List.Subset.refl _) d t r) (by decide) j)

end

/-! ### A closed bank (R105, R106) -/

/-- Where a bank is shut and no one waits, the arrivals of a cycle leave no one waiting. -/
theorem spadArrive_shut_waits (s : State) (d : LDie) (t : LTile) (k b : Nat) (reqs : List MemReq)
    (hshut : (tget BankSt.open (s.tile k).banks b).shut = true) (hwait : tget [] (s.tile k).bankWait b = []) :
    tget [] ((s.spadArrive d t k reqs).tile k).bankWait b = [] := by
  induction reqs generalizing s with
  | nil => exact hwait
  | cons r reqs ih =>
    have hbanks : ((s.spadArrive d t k [r]).tile k).banks = (s.tile k).banks :=
      spadArrive_reads (g := TileS.banks) s d t k k (fun _ _ => rfl) (fun _ _ => rfl) [r]
    refine ih (s.spadArrive d t k [r]) (by rw [hbanks]; exact hshut) ?_
    dsimp only [State.spadArrive, List.foldl]
    split
    · rw [bankShut_reads (g := TileS.bankWait) s d t k k (fun _ _ => rfl) r]
      exact hwait
    next hopen =>
      have hne : b ≠ r.addr / 128 % 32 := fun hb => hopen (hb ▸ hshut)
      rw [State.tile_modTile, if_pos rfl]
      exact (tget_tset_other _ _ _ hne).trans hwait

theorem roundRobin_nil (p n : Nat) : roundRobin p n [] = none := by
  simp [roundRobin]

theorem exec_scratchpadAccess_of_none {s : State} {d : LDie} {t : LTile} {bank : Fin 32} {reqs : List MemReq} {k : Nat}
    (hk : s.tileKey d t = some k) {q : State} (hq : s.spadArrive d t k (atBank 13 32 (2 ^ 22) bank.val reqs) = q)
    (hr : roundRobin (tget 0 (q.tile k).bankPtr bank.val) 13 (tget [] (q.tile k).bankWait bank.val) = none) :
    exec (.scratchpadAccess d t bank reqs) s =
      .next (if atBank 13 32 (2 ^ 22) bank.val reqs = [] then q.turnAway else q.status .bankClosed) := by
  simp only [exec, execScratchpadAccess, hk, hq, hr]

theorem exec_scratchpadAccess_of_some {s : State} {d : LDie} {t : LTile} {bank : Fin 32} {reqs : List MemReq} {k : Nat}
    (hk : s.tileKey d t = some k) {q : State} (hq : s.spadArrive d t k (atBank 13 32 (2 ^ 22) bank.val reqs) = q)
    {r : MemReq}
    (hr : roundRobin (tget 0 (q.tile k).bankPtr bank.val) 13 (tget [] (q.tile k).bankWait bank.val) = some r) :
    exec (.scratchpadAccess d t bank reqs) s = .next ((q.modTile k fun y =>
      { y with bankWait := tset [] y.bankWait bank.val ((tget [] y.bankWait bank.val).erase r) }).spadGrant d t k r) := by
  simp only [exec, execScratchpadAccess, hk, hq, hr]

theorem spadArrive_spadBytes (s : State) (d : LDie) (t : LTile) (k : Nat) (reqs : List MemReq) (a : Nat) :
    byteAt (s.spadArrive d t k reqs).spadMem a = byteAt s.spadMem a :=
  Kept.spadBytes (Kept.refl.spadArrive (List.Subset.refl _) d t k reqs) (by decide) a

/-- Settles O59: with no one waiting at the shut bank the round robin grants no one. -/
theorem closedBanksServeNothing : Obligations.ClosedBanksServeNothing := by
  intro s d t bank reqs k hk hshut hwait hmine
  have hr := spadArrive_shut_waits s d t k bank.val (atBank 13 32 (2 ^ 22) bank.val reqs) hshut hwait
  refine ⟨_, exec_scratchpadAccess_of_none hk rfl (by rw [hr, roundRobin_nil]), ?_⟩
  rw [if_neg hmine]
  exact ⟨rfl, spadArrive_spadBytes s d t k _⟩

/-! ### Granted accesses on words without an error -/

/-- An access that is to store d at a: one that fails is not OK and changes no byte, and what completes stores d. -/
def Stores (m m' : List Host.Cell) (a : Nat) (d : Bytes) (r : Acc) : Prop :=
  (∃ st c, r = .fail st c ∧ st ≠ .ok ∧ ∀ b, byteAt m' b = byteAt m b) ∨
    (∃ x, r = .ok x) ∧ ∃ m₁, (∀ b, byteAt m₁ b = byteAt m b) ∧ m' = putBytes m₁ a d

theorem Stores.byteAt_out {m m' : List Host.Cell} {a : Nat} {d : Bytes} {r : Acc} (h : Stores m m' a d r) {b : Nat}
    (hb : b < a ∨ a + d.length ≤ b) : byteAt m' b = byteAt m b := by
  obtain ⟨-, -, -, -, hm⟩ | ⟨-, m₁, hm, rfl⟩ := h
  · exact hm b
  · rw [byteAt_putBytes_out _ _ _ _ hb, hm]

theorem Stores.bytesAt_in {m m' : List Host.Cell} {a : Nat} {d x : Bytes} (h : Stores m m' a d (.ok x)) :
    bytesAt m' a d.length = d := by
  obtain ⟨_, _, ⟨⟩, -⟩ | ⟨-, m₁, -, rfl⟩ := h
  exact bytesAt_putBytes _ _ _

/-- No part of a list without bad words has one. -/
theorem any_contains_filter_eq_false {l bad : List Nat} (p : Nat → Bool) (h : ∀ a ∈ l, a ∉ bad) :
    (l.filter p).any (fun a => bad.contains a) = false := by
  simp only [List.any_eq_false, List.mem_filter, List.contains_iff_mem]
  exact fun a ha => h a ha.1

theorem spadWrite_stores {s : State} {w : Who} {l : LDie} {t : LTile} {k : Nat} (hk : s.tileKey l t = some k) {off : Nat}
    {d : Bytes} (hbad : ∀ a ∈ wordsOf off d.length, a ∉ (s.tile k).bad) (u : Bool) :
    Stores s.spadMem (s.spadWrite w l t off d u).1.spadMem (spadBase k + off) d (s.spadWrite w l t off d u).2 := by
  unfold State.spadWrite
  rw [hk]
  dsimp only
  split
  · exact .inl ⟨_, _, rfl, by decide, fun _ => rfl⟩
  split
  · exact .inl ⟨_, _, rfl, by decide, fun _ => rfl⟩
  split
  · exact .inl ⟨_, _, rfl, by decide, fun _ => rfl⟩
  rw [if_neg (by rw [any_contains_filter_eq_false _ hbad]; decide)]
  exact .inr ⟨⟨_, rfl⟩, _, fun b => Kept.spadBytes (Kept.refl.bankTurn (List.Subset.refl _) l t k _ _ _) (by decide) b, rfl⟩

theorem spadRead_spadBytes {s : State} {w : Who} {l : LDie} {t : LTile} {k : Nat} (hk : s.tileKey l t = some k)
    {off len : Nat} (hbad : ∀ a ∈ wordsOf off len, a ∉ (s.tile k).bad) (hweak : ∀ a ∈ wordsOf off len, a ∉ (s.tile k).weak)
    (b : Nat) : byteAt (s.spadRead w l t off len).1.spadMem b = byteAt s.spadMem b := by
  have hturn : ∀ port, byteAt (s.bankTurn l t k port off len).spadMem b = byteAt s.spadMem b := fun port =>
    Kept.spadBytes (Kept.refl.bankTurn (List.Subset.refl _) l t k port off len) (by decide) b
  unfold State.spadRead
  rw [hk]
  dsimp only
  split
  · rfl
  split
  · rfl
  split
  · rfl
  rw [if_neg (by simpa using hbad)]
  have hnone : ((wordsOf off len).filter fun a =>
      ((s.bankTurn l t k (spadPort w t false) off len).tile k).weak.contains a) = [] := by
    rw [bankTurn_reads (g := TileS.weak) s l t k k (fun _ _ => rfl), List.filter_eq_nil_iff]
    simpa using hweak
  rw [State.spadCorrect, hnone]
  exact hturn _

theorem commonsWrite_stores {s : State} {w : Who} {l : LDie} {p : Nat} (hp : s.phys l = some p) {off : Nat} {d : Bytes}
    (hbad : ∀ a ∈ wordsOf off d.length, a ∉ (s.commons p).bad) (u : Bool) :
    Stores s.commonsMem (s.commonsWrite w l off d u).1.commonsMem (commonsBase p + off) d (s.commonsWrite w l off d u).2 := by
  unfold State.commonsWrite
  rw [hp]
  dsimp only
  split
  · exact .inl ⟨_, _, rfl, by decide, fun _ => rfl⟩
  split
  · exact .inl ⟨_, _, rfl, by decide, fun _ => rfl⟩
  split
  · exact .inl ⟨_, _, rfl, by decide, fun _ => rfl⟩
  rw [if_neg (by rw [any_contains_filter_eq_false _ hbad]; decide)]
  exact .inr ⟨⟨_, rfl⟩, _, fun _ => rfl, rfl⟩

theorem commonsRead_commonsBytes {s : State} {w : Who} {l : LDie} {p : Nat} (hp : s.phys l = some p) {off len : Nat}
    (hbad : ∀ a ∈ wordsOf off len, a ∉ (s.commons p).bad) (b : Nat) :
    byteAt (s.commonsRead w l off len).1.commonsMem b = byteAt s.commonsMem b := by
  unfold State.commonsRead
  rw [hp]
  dsimp only
  split
  · rfl
  split
  · rfl
  split
  · rfl
  rw [if_neg (by simpa using hbad)]
  dsimp only
  split <;> rfl

section

variable (s : State) (w : Who) (a : W64) (r : Acc) (n detail b : Nat)

theorem unitFail_spadBytes : byteAt (s.unitFail w a r n detail).spadMem b = byteAt s.spadMem b :=
  Kept.spadBytes (Kept.refl.unitFail (List.Subset.refl _) w a r n detail) (by decide) b

theorem unitFail_commonsBytes : byteAt (s.unitFail w a r n detail).commonsMem b = byteAt s.commonsMem b :=
  Kept.commonsBytes (Kept.refl.unitFail (List.Subset.refl _) w a r n detail) (by decide) b

end

/-- A granted scratchpad write on words without an error changes only its own bytes, and stores its data where it completes. -/
theorem spadGrant_write {s : State} {d : LDie} {t : LTile} {k : Nat} {r : MemReq} (hk : s.tileKey d t = some k)
    (hw : r.write = true) (hbad : ∀ a ∈ wordsOf r.addr r.data.length, a ∉ (s.tile k).bad) :
    (∀ a, a < spadBase k + r.addr ∨ spadBase k + r.addr + r.data.length ≤ a →
      byteAt (s.spadGrant d t k r).spadMem a = byteAt s.spadMem a) ∧
    ((s.spadGrant d t k r).answer = .status .ok →
      bytesAt (s.spadGrant d t k r).spadMem (spadBase k + r.addr) r.data.length = r.data) := by
  unfold State.spadGrant
  extract_lets w a
  have hstores := spadWrite_stores (w := w) hk hbad r.unsettled
  rw [if_pos hw]
  split
  next s1 x heq =>
    rw [heq] at hstores
    exact ⟨fun b hb => hstores.byteAt_out hb, fun _ => hstores.bytesAt_in⟩
  next s1 st c heq =>
    rw [heq] at hstores
    refine ⟨fun b hb => (unitFail_spadBytes s1 w a _ _ _ b).trans (hstores.byteAt_out hb), fun hok => ?_⟩
    obtain ⟨_, _, ⟨⟩, hne, -⟩ | ⟨⟨x, ⟨⟩⟩, -⟩ := hstores
    exact absurd (Answer.status.inj hok) hne
  next s1 x hok hfail heq =>
    rw [heq] at hstores
    obtain ⟨st, c, ⟨⟩, -⟩ | ⟨⟨x, ⟨⟩⟩, -⟩ := hstores
    · exact (hfail _ _ rfl).elim
    · exact (hok _ rfl).elim

/-- A granted scratchpad read on words without an error changes no byte. -/
theorem spadGrant_read {s : State} {d : LDie} {t : LTile} {k : Nat} {r : MemReq} (hk : s.tileKey d t = some k)
    (hw : r.write = false) (hbad : ∀ a ∈ wordsOf r.addr r.len, a ∉ (s.tile k).bad)
    (hweak : ∀ a ∈ wordsOf r.addr r.len, a ∉ (s.tile k).weak) (b : Nat) : byteAt (s.spadGrant d t k r).spadMem b = byteAt s.spadMem b := by
  unfold State.spadGrant
  extract_lets w a
  have hread := spadRead_spadBytes (w := w) hk hbad hweak b
  rw [if_neg (by simp [hw])]
  split
  next s1 x heq =>
    rw [heq] at hread
    dsimp only
    split <;> exact hread
  next s1 st c heq =>
    rw [heq] at hread
    exact (unitFail_spadBytes s1 w a _ _ _ b).trans hread
  next s1 x _ _ heq =>
    rw [heq] at hread
    exact (unitFail_spadBytes s1 w a _ _ _ b).trans hread

/-- A granted commons write on words without an error changes only its own bytes, and stores its data where it completes. -/
theorem commonsGrant_write {s : State} {d : LDie} {p : Nat} {r : MemReq} (hp : s.phys d = some p)
    (hw : r.write = true) (hbad : ∀ a ∈ wordsOf r.addr r.data.length, a ∉ (s.commons p).bad) :
    (∀ a, a < commonsBase p + r.addr ∨ commonsBase p + r.addr + r.data.length ≤ a →
      byteAt (s.commonsGrant d r).commonsMem a = byteAt s.commonsMem a) ∧
    ((s.commonsGrant d r).answer = .status .ok →
      bytesAt (s.commonsGrant d r).commonsMem (commonsBase p + r.addr) r.data.length = r.data) := by
  unfold State.commonsGrant
  extract_lets w a
  have hstores := commonsWrite_stores (w := w) hp hbad r.unsettled
  rw [if_pos hw]
  split
  next s1 x heq =>
    rw [heq] at hstores
    exact ⟨fun b hb => hstores.byteAt_out hb, fun _ => hstores.bytesAt_in⟩
  next s1 st c heq =>
    rw [heq] at hstores
    refine ⟨fun b hb => (unitFail_commonsBytes s1 w a _ _ _ b).trans (hstores.byteAt_out hb), fun hok => ?_⟩
    obtain ⟨_, _, ⟨⟩, hne, -⟩ | ⟨⟨x, ⟨⟩⟩, -⟩ := hstores
    exact absurd (Answer.status.inj hok) hne
  next s1 x hok hfail heq =>
    rw [heq] at hstores
    obtain ⟨st, c, ⟨⟩, -⟩ | ⟨⟨x, ⟨⟩⟩, -⟩ := hstores
    · exact (hfail _ _ rfl).elim
    · exact (hok _ rfl).elim

/-- A granted commons read on words without an error changes no byte. -/
theorem commonsGrant_read {s : State} {d : LDie} {p : Nat} {r : MemReq} (hp : s.phys d = some p)
    (hw : r.write = false) (hbad : ∀ a ∈ wordsOf r.addr r.len, a ∉ (s.commons p).bad) (b : Nat) :
    byteAt (s.commonsGrant d r).commonsMem b = byteAt s.commonsMem b := by
  unfold State.commonsGrant
  extract_lets w a
  have hread := commonsRead_commonsBytes (w := w) hp hbad b
  rw [if_neg (by simp [hw])]
  split
  next s1 x heq =>
    rw [heq] at hread
    exact hread
  next s1 st c heq =>
    rw [heq] at hread
    exact (unitFail_commonsBytes s1 w a _ _ _ b).trans hread
  next s1 x _ _ heq =>
    rw [heq] at hread
    exact (unitFail_commonsBytes s1 w a _ _ _ b).trans hread

/-! ### A cycle of a bank -/

section

variable {A : Type} {g : CommonsS → A} (s : State) (d : LDie) (p j : Nat)

theorem modCommons_reads {f : CommonsS → CommonsS} (hf : ∀ y, g (f y) = g y) :
    g ((s.modCommons p f).commons j) = g (s.commons j) := by
  rw [State.commons_modCommons]
  split
  next h => rw [h, hf]
  · rfl

theorem commonsShut_reads (hh : ∀ y w, g { y with bankHeld := w } = g y) (r : MemReq) :
    g ((s.commonsShut d p r).commons j) = g (s.commons j) := by
  unfold State.commonsShut
  split
  · rw [(Kept.refl.haltCtx (List.Subset.refl _) r.ctx).commons_eq (by decide), State.commons_fault]
  · exact modCommons_reads _ _ _ fun y => hh y _

theorem commonsArrive_reads (hh : ∀ y w, g { y with bankHeld := w } = g y) (hw : ∀ y w, g { y with bankWait := w } = g y)
    (reqs : List MemReq) : g ((s.commonsArrive d p reqs).commons j) = g (s.commons j) := by
  induction reqs generalizing s with
  | nil => rfl
  | cons r reqs ih =>
    refine (ih _).trans ?_
    dsimp only
    split
    · exact commonsShut_reads s d p j hh r
    · exact modCommons_reads s p j fun y => hw y _

end

theorem commonsArrive_commonsBytes (s : State) (d : LDie) (p : Nat) (reqs : List MemReq) (a : Nat) :
    byteAt (s.commonsArrive d p reqs).commonsMem a = byteAt s.commonsMem a :=
  Kept.commonsBytes (Kept.refl.commonsArrive (List.Subset.refl _) d p reqs) (by decide) a

theorem exec_commonsAccess_of_none {s : State} {d : LDie} {bank : Fin 64} {reqs : List MemReq} {p : Nat}
    (hp : s.phys d = some p) {q : State} (hq : s.commonsArrive d p (atBank 20 64 (2 ^ 25) bank.val reqs) = q)
    (hr : roundRobin (tget 0 (q.commons p).ptr bank.val) 20 (tget [] (q.commons p).bankWait bank.val) = none) :
    exec (.commonsAccess d bank reqs) s =
      .next (if atBank 20 64 (2 ^ 25) bank.val reqs = [] then q.turnAway else q.status .bankClosed) := by
  simp only [exec, execCommonsAccess, hp, hq, hr]

theorem exec_commonsAccess_of_some {s : State} {d : LDie} {bank : Fin 64} {reqs : List MemReq} {p : Nat}
    (hp : s.phys d = some p) {q : State} (hq : s.commonsArrive d p (atBank 20 64 (2 ^ 25) bank.val reqs) = q) {r : MemReq}
    (hr : roundRobin (tget 0 (q.commons p).ptr bank.val) 20 (tget [] (q.commons p).bankWait bank.val) = some r) :
    exec (.commonsAccess d bank reqs) s = .next ((q.modCommons p fun y =>
      { y with
        ptr := tset 0 y.ptr bank.val ((r.port + 1) % 20)
        bankWait := tset [] y.bankWait bank.val ((tget [] y.bankWait bank.val).erase r) }).commonsGrant d r) := by
  simp only [exec, execCommonsAccess, hp, hq, hr]

theorem reqSize_of_write {r : MemReq} (h : r.write = true) : reqSize r = r.data.length := if_pos h

theorem reqSize_of_read {r : MemReq} (h : r.write = false) : reqSize r = r.len := by
  simp [reqSize, h]

theorem scratchpad_cycle_stores {s s' : State} {d : LDie} {t : LTile} {bank : Fin 32} {reqs : List MemReq} {k : Nat}
    (hk : s.tileKey d t = some k) (hexec : exec (.scratchpadAccess d t bank reqs) s = .next s') {q : State}
    (hq : s.spadArrive d t k (atBank 13 32 (2 ^ 22) bank.val reqs) = q) {r : MemReq}
    (hr : roundRobin (tget 0 (q.tile k).bankPtr bank.val) 13 (tget [] (q.tile k).bankWait bank.val) = some r)
    (hsound : ∀ a ∈ wordsOf r.addr (reqSize r), a ∉ (s.tile k).bad ∧ a ∉ (s.tile k).weak) :
    (r.write = false → ∀ a, byteAt s'.spadMem a = byteAt s.spadMem a) ∧
    (r.write = true → ∀ a, a < spadBase k + r.addr ∨ spadBase k + r.addr + r.data.length ≤ a →
      byteAt s'.spadMem a = byteAt s.spadMem a) ∧
    (r.write = true → s'.answer = .status .ok → bytesAt s'.spadMem (spadBase k + r.addr) r.data.length = r.data) := by
  cases hexec.symm.trans (exec_scratchpadAccess_of_some hk hq hr)
  generalize hu : (q.modTile k fun y =>
    { y with bankWait := tset [] y.bankWait bank.val ((tget [] y.bankWait bank.val).erase r) }) = u
  have hbytes : ∀ a, byteAt u.spadMem a = byteAt s.spadMem a := by
    subst hu hq
    exact spadArrive_spadBytes s d t k _
  have hku : u.tileKey d t = some k := by
    subst hu hq
    exact (tileKey_congr ((Kept.refl.spadArrive (List.Subset.refl _) d t k _).anat_eq (by decide)) d t).trans hk
  have hbad : (u.tile k).bad = (s.tile k).bad := by
    subst hu hq
    refine Eq.trans (modTile_reads (g := TileS.bad) _ k k ?_)
      (spadArrive_reads s d t k k (fun _ _ => rfl) (fun _ _ => rfl) _)
    exact fun _ => rfl
  have hweak : (u.tile k).weak = (s.tile k).weak := by
    subst hu hq
    refine Eq.trans (modTile_reads (g := TileS.weak) _ k k ?_)
      (spadArrive_reads s d t k k (fun _ _ => rfl) (fun _ _ => rfl) _)
    exact fun _ => rfl
  rw [← hbad, ← hweak] at hsound
  refine ⟨fun hw a => ?_, fun hw a ha => ?_, fun hw hok => ?_⟩
  · rw [reqSize_of_read hw] at hsound
    exact (spadGrant_read hku hw (fun a ha => (hsound a ha).1) (fun a ha => (hsound a ha).2) a).trans (hbytes a)
  · rw [reqSize_of_write hw] at hsound
    exact ((spadGrant_write hku hw fun a ha => (hsound a ha).1).1 a ha).trans (hbytes a)
  · rw [reqSize_of_write hw] at hsound
    exact (spadGrant_write hku hw fun a ha => (hsound a ha).1).2 hok

theorem commons_cycle_stores {s s' : State} {d : LDie} {bank : Fin 64} {reqs : List MemReq} {p : Nat}
    (hp : s.phys d = some p) (hexec : exec (.commonsAccess d bank reqs) s = .next s') {q : State}
    (hq : s.commonsArrive d p (atBank 20 64 (2 ^ 25) bank.val reqs) = q) {r : MemReq}
    (hr : roundRobin (tget 0 (q.commons p).ptr bank.val) 20 (tget [] (q.commons p).bankWait bank.val) = some r)
    (hsound : ∀ a ∈ wordsOf r.addr (reqSize r), a ∉ (s.commons p).bad) :
    (r.write = false → ∀ a, byteAt s'.commonsMem a = byteAt s.commonsMem a) ∧
    (r.write = true → ∀ a, a < commonsBase p + r.addr ∨ commonsBase p + r.addr + r.data.length ≤ a →
      byteAt s'.commonsMem a = byteAt s.commonsMem a) ∧
    (r.write = true → s'.answer = .status .ok →
      bytesAt s'.commonsMem (commonsBase p + r.addr) r.data.length = r.data) := by
  cases hexec.symm.trans (exec_commonsAccess_of_some hp hq hr)
  generalize hu : (q.modCommons p fun y =>
    { y with
      ptr := tset 0 y.ptr bank.val ((r.port + 1) % 20)
      bankWait := tset [] y.bankWait bank.val ((tget [] y.bankWait bank.val).erase r) }) = u
  have harrive : Kept (reporting [.engines, .contexts]) s q := hq ▸ Kept.refl.commonsArrive (List.Subset.refl _) d p _
  have hbytes : ∀ a, byteAt u.commonsMem a = byteAt s.commonsMem a := by
    subst hu
    exact harrive.commonsBytes (by decide)
  have hpu : u.phys d = some p := by
    subst hu
    exact (phys_congr (harrive.anat_eq (by decide)) d).trans hp
  have hbad : (u.commons p).bad = (s.commons p).bad := by
    subst hu hq
    refine Eq.trans (modCommons_reads (g := CommonsS.bad) _ p p ?_)
      (commonsArrive_reads s d p p (fun _ _ => rfl) (fun _ _ => rfl) _)
    exact fun _ => rfl
  rw [← hbad] at hsound
  refine ⟨fun hw a => ?_, fun hw a ha => ?_, fun hw hok => ?_⟩
  · rw [reqSize_of_read hw] at hsound
    exact (commonsGrant_read hpu hw hsound a).trans (hbytes a)
  · rw [reqSize_of_write hw] at hsound
    exact ((commonsGrant_write hpu hw hsound).1 a ha).trans (hbytes a)
  · rw [reqSize_of_write hw] at hsound
    exact (commonsGrant_write hpu hw hsound).2 hok

/-- Settles O53: a cycle of either kind of bank, by whether the round robin grants a request. -/
theorem banksStoreOnlyTheGrantedWrite : Obligations.BanksStoreOnlyTheGrantedWrite := by
  constructor
  · intro s s' d t bank reqs k hk hexec q
    split
    next hr =>
      cases hexec.symm.trans (exec_scratchpadAccess_of_none hk rfl hr)
      split <;> exact spadArrive_spadBytes s d t k _
    next r hr => exact scratchpad_cycle_stores hk hexec rfl hr
  · intro s s' d bank reqs p hp hexec q
    split
    next hr =>
      cases hexec.symm.trans (exec_commonsAccess_of_none hp rfl hr)
      split <;> exact commonsArrive_commonsBytes s d p _
    next r hr => exact commons_cycle_stores hp hexec rfl hr

end Sys2Proof.Machine

/-! PROOF. FW_LOAD (R502) and the zeroisation of a stack bank (R250): which bytes they change. -/

namespace Sys2Proof.Machine

open Sys2Proof

theorem byteAt_zeroRange {m : List Host.Cell} (w : Memory.wf m = true) (lo hi a : Nat) :
    byteAt (zeroRange m lo hi) a = if lo ≤ a ∧ a < hi then 0 else byteAt m a := by
  split
  next h => exact tget_tclear_in _ _ h.1 h.2
  next h => exact tget_tclear_out _ _ w (by omega)

/-- FW_LOAD is turned away, or puts its block where the die's sequencer memory has it. -/
theorem exec_fwLoad_cases (s : State) (d : Die) (off : Nat) (data : Bytes) (last : Bool) :
    exec (.fwLoad d off data last) s = .next s.turnAway ∨
      ∃ s', exec (.fwLoad d off data last) s = .next s' ∧
        s'.boot.seqMem = putBytes s.boot.seqMem (d.val * 2 ^ 26 + off) data := by
  dsimp only [exec, execFwLoad]
  split
  · exact .inl rfl
  · exact .inr ⟨_, rfl, by split <;> rfl⟩

theorem exec_stackBankZeroise {s : State} {k : Stk} {b : Fin 64} (h : (s.stack k.val).zeroising.contains b.val = true) :
    exec (.stackBankZeroise k b) s = .next (s.zeroBank k.val b.val).ok := by
  rw [exec, execStackBankZeroise, if_pos h]

/-- Settles O54: FW_LOAD puts one run of bytes, and a zeroisation clears the range of its bank. -/
theorem firmwareLoadsAndZeroisationStayInPlace : Obligations.FirmwareLoadsAndZeroisationStayInPlace := by
  intro s w
  obtain ⟨hstack, -, -, -⟩ := (memWf_iff s).1 w
  refine ⟨fun d off data last s' hexec => ?_, fun k b hz => ⟨_, exec_stackBankZeroise hz, byteAt_zeroRange hstack _ _⟩⟩
  obtain haway | ⟨t, ht, hmem⟩ := exec_fwLoad_cases s d off data last
  · cases hexec.symm.trans haway
    exact ⟨fun _ _ => rfl, nofun⟩
  · cases hexec.symm.trans ht
    rw [hmem]
    exact ⟨fun a ha => byteAt_putBytes_out _ _ _ _ ha, fun _ => bytesAt_putBytes _ _ _⟩

end Sys2Proof.Machine

/-! PROOF. Chunks of a running descriptor (R123, R124, R127). -/

namespace Sys2Proof.Machine

open Sys2Proof

section

variable {s t : State} {d : LDie} {e q op : Nat} {c : CtxId} {x : Desc} {n : Nat} {k : List Nat} {f : EngOp}

/-- The ring of an operation command has its turn with a descriptor of the opcode, and no token goes first. -/
structure OpReady (s : State) (d : LDie) (e q op : Nat) (c : CtxId) (x : Desc) : Prop where
  live : s.engineLive c d e = true
  ctx : (s.ring (ringKey d e q)).ctx = some c
  front : (s.ring (ringKey d e q)).descs.find? (fun y => y.fin.isNone) = some x
  code : dOp x.words = op
  turn : s.ringTurn d e q = true
  noToken : s.tokenReady d (96 + e) = false

theorem engineRun_of_ready (h : OpReady s d e q op c x) : s.engineRun d e q op f = s.engineChunk d e q c f x := by
  simp [State.engineRun, h.ctx, h.front, h.code, h.live, h.turn, h.noToken]

/-- The state after a chunk that did not wait: its cycles are counted and the next ring is served. -/
def afterChunk (t : State) (d : LDie) (e q : Nat) (f : EngOp) (x : Desc) : State :=
  (t.engBusy d e (f.chunkCycles x)).modEngine (engKey d e) (fun z => { z with next := (q + 1) % 8 })

theorem engineChunk_last (hrun : s.runChunk (engW c d e) f x = (t, n, k, none)) (hlast : f.lastChunk x = true) :
    s.engineChunk d e q c f x =
      ((afterChunk t d e q f x).endDesc d e q (engW c d e).who x (f.result x.words n k) none).ok := by
  simp only [State.engineChunk, hrun, hlast, if_true, afterChunk]

theorem engineChunk_earlier (hrun : s.runChunk (engW c d e) f x = (t, n, k, none)) (hlast : f.lastChunk x = false) :
    s.engineChunk d e q c f x = ((afterChunk t d e q f x).modDesc d e q fun v => { v with
      units := n, keep := k, chunks := x.chunks + 1, excused := (x.wakes s.now).excused, waitSince := none }).ok := by
  simp only [State.engineChunk, hrun, hlast, afterChunk]
  rfl

theorem engineChunk_mismatch (hrun : s.runChunk (engW c d e) f x = (t, n, k, some .mismatch)) :
    s.engineChunk d e q c f x =
      ((afterChunk t d e q f x).endDesc d e q (engW c d e).who x (f.result x.words (n + 1) k) (some .mismatch)).ok := by
  simp only [State.engineChunk, hrun, afterChunk]

theorem ring_modDesc (g : Desc → Desc) : ((t.modDesc d e q g).ring (ringKey d e q)).descs =
    modRunning g (t.ring (ringKey d e q)).descs := by
  rw [State.modDesc, State.ring_modRing, if_pos rfl]

theorem ring_endDesc_ok (r : Nat) :
    ((t.endDesc d e q (engW c d e).who x r none).ring (ringKey d e q)).descs = modRunning (fun y =>
      { y with fin := some (.ok, 0, BitVec.ofNat 64 r), held := none })
      ((t.freeWork (engW c d e) x).ring (ringKey d e q)).descs := by
  dsimp only [State.endDesc]
  rw [State.ring_modRing, if_pos rfl]
  rfl

theorem ring_endDesc_mismatch (r : Nat) :
    ((t.endDesc d e q (engW c d e).who x r (some .mismatch)).ring (ringKey d e q)).descs = modRunning (fun y =>
      { y with fin := some (.mismatch, 0, BitVec.ofNat 64 r), held := none })
      ((t.freeWork (engW c d e) x).ring (ringKey d e q)).descs := by
  dsimp only [State.endDesc]
  rw [State.ring_modRing, if_pos rfl]
  rfl

/-- An operation command whose chunk runs to its end: the last one ends the descriptor OK, an earlier one leaves its
progress. -/
theorem engineRun_completes {i : Instr} (hi : exec i s = .next (s.engineRun d e q op f)) (h : OpReady s d e q op c x)
    (hrun : s.runChunk (engW c d e) f x = (t, n, k, none)) :
    (f.lastChunk x = true → ∃ s', exec i s = .next s' ∧ s'.answer = .done ∧
      (s'.ring (ringKey d e q)).descs = modRunning (fun y =>
        { y with fin := some (.ok, 0, BitVec.ofNat 64 (f.result x.words n k)), held := none })
        (((afterChunk t d e q f x).freeWork (engW c d e) x).ring (ringKey d e q)).descs) ∧
    (f.lastChunk x = false → ∃ s', exec i s = .next s' ∧ s'.answer = .done ∧
      (s'.ring (ringKey d e q)).descs = modRunning (fun y =>
        { y with
          units := n, keep := k, chunks := x.chunks + 1, excused := (x.wakes s.now).excused
          waitSince := none }) (t.ring (ringKey d e q)).descs) := by
  rw [engineRun_of_ready h] at hi
  constructor
  · intro hlast
    rw [engineChunk_last hrun hlast] at hi
    exact ⟨_, hi, rfl, ring_endDesc_ok _⟩
  · intro hlast
    rw [engineChunk_earlier hrun hlast] at hi
    exact ⟨_, hi, rfl, ring_modDesc _⟩

theorem engineRun_mismatches {i : Instr} (hi : exec i s = .next (s.engineRun d e q op f)) (h : OpReady s d e q op c x)
    (hrun : s.runChunk (engW c d e) f x = (t, n, k, some .mismatch)) :
    ∃ s', exec i s = .next s' ∧ s'.answer = .done ∧
      (s'.ring (ringKey d e q)).descs = modRunning (fun y =>
        { y with fin := some (.mismatch, 0, BitVec.ofNat 64 (f.result x.words (n + 1) k)), held := none })
        (((afterChunk t d e q f x).freeWork (engW c d e) x).ring (ringKey d e q)).descs := by
  rw [engineRun_of_ready h, engineChunk_mismatch hrun] at hi
  exact ⟨_, hi, rfl, ring_endDesc_mismatch _⟩

end

/-- Settles O11: every operation command is a chunk of its engine's operation. -/
theorem engineOperationsComplete : Obligations.EngineOperationsComplete := by
  intro s t d q c x n k ready ended marks runs
  have hrun : ∀ e op f i, exec i s = .next (s.engineRun d e q.val op f) → runs e op f i := by
    rintro e op f i hi ⟨hlive, hctx, hfront, hcode, hturn, htoken, hchunk⟩
    exact engineRun_completes hi ⟨hlive, hctx, hfront, hcode, hturn, htoken⟩ hchunk
  refine ⟨?_, ?_⟩
  · rintro ⟨hlive, hctx, hfront, hcode, hturn, htoken, hchunk⟩
    exact engineRun_mismatches rfl ⟨hlive, hctx, hfront, hcode, hturn, htoken⟩ hchunk
  · refine ⟨?_, ?_, ?_, ?_, ?_, ?_, ?_, ?_, ?_, ?_, ?_, ?_, ?_, ?_, ?_, ?_, ?_, ?_, ?_, ?_, ?_, ?_, ?_, ?_, ?_, ?_, ?_, ?_,
      ?_, ?_, ?_, ?_, ?_, ?_, ?_⟩
    all_goals exact hrun _ _ _ _ rfl

end Sys2Proof.Machine

/-! PROOF. The sync operations (R297) on a cell that the requester reaches and owns. -/

namespace Sys2Proof.Machine

open Sys2Proof

/-- A request of this panel at a cell that it reaches and owns. -/
structure Owned (s : State) (r : SyncReq) (k : Nat) : Prop where
  aligned : r.addr.toNat % 8 = 0
  cell : s.decode r.addr = .here (.cell k)
  die : k < hubFirst → (s.cellDie k).isSome
  panel : r.panel = s.srcPanel
  reach : s.syncReach r.node (s.cellNode k) = true
  owns : s.ownsCell r k = true

section

variable {s : State} {r : SyncReq} {k : Nat}

/-- The checks of an operation pass, and it runs on the state that has counted it. -/
theorem syncOp_of_owned (h : Owned s r k) (op : Nat) (f : Nat → State → State × SyncOut) :
    s.syncOp r op true f = f k (s.countSync k 0x30) := by
  have hserved : ¬(k < hubFirst ∧ s.cellDie k = none) := by
    rintro ⟨hk, hnone⟩
    simpa [hnone] using h.die hk
  simp [State.syncOp, h.aligned, h.cell, hserved, h.panel, h.reach, h.owns]

/-- What an operation does at its cell, by its number. -/
def syncEffect (r : SyncReq) (v : W64) (op : Nat) : Nat → State → State × SyncOut :=
  match op with
  | 0 => syncRead
  | 1 => syncWrite r v
  | 2 => syncInit v
  | 3 => syncArrive v
  | 4 => syncWait r v
  | 5 => syncFetchAdd v
  | 6 => syncCas v
  | 7 => syncLink r v
  | _ => syncReadLink

theorem syncServe_of_owned (h : Owned s r k) {op : Nat} {v : W64} (hop : op < 9) (hv : s.syncOperandOk op v = true) :
    s.syncServe r op v = syncEffect r v op k (s.countSync k 0x30) := by
  have hlog : (s.countSync k 0x30).logSync r op k v = s.countSync k 0x30 := by
    have hp : r.panel = (s.countSync k 0x30).srcPanel := h.panel.trans (sends_countSync s k 0x30).srcPanel.symm
    simp [State.logSync, hp]
  rw [State.syncServe, if_neg (by omega), hv, syncOp_of_owned h]
  dsimp only
  rw [hlog]
  interval_cases op <;> rfl

theorem syncCmd_of_owned (h : Owned s r k) {op : Nat} {v : W64} (hop : op < 9) (hv : s.syncOperandOk op v = true) :
    s.syncCmd r op v = syncAnswer r (syncEffect r v op k (s.countSync k 0x30)) := by
  simp only [State.syncCmd, h.cell, syncServe_of_owned h hop hv]

/-- A response is the command's answer, and sending it leaves the cells alone. -/
theorem syncAnswer_resp {x : State × SyncOut} {st : Status} {w : W64} (hx : x.2 = .resp st w) :
    (syncAnswer r x).answer = .word st w ∧ ∀ j, (syncAnswer r x).cell j = x.1.cell j := by
  rw [syncAnswer, hx]
  exact ⟨rfl, fun j => (sends_syncReply _ _ _ _).cell j⟩

/-- An operation that answers: what the command answers and leaves of the cells is what the operation does at its cell. -/
theorem syncCmd_responds (h : Owned s r k) {op : Nat} {v : W64} (hop : op < 9) (hv : s.syncOperandOk op v = true)
    {t : State} {w : W64} (ht : syncEffect r v op k (s.countSync k 0x30) = (t, .resp .ok w)) :
    (s.syncCmd r op v).answer = .word .ok w ∧ (s.syncCmd r op v).cell k = t.cell k := by
  obtain ⟨ha, hc⟩ := syncAnswer_resp (r := r) (congrArg Prod.snd ht)
  rw [syncCmd_of_owned h hop hv]
  exact ⟨ha, (hc k).trans (congrArg (fun x => x.1.cell k) ht)⟩

theorem before_countSync (s : State) (k : Nat) : before (s.countSync k 0x30) k = .resp .ok (s.cell k).word := by
  rw [before, (sends_countSync s k 0x30).cell]

theorem cell_modCell_countSync (s : State) (k : Nat) (f : Cell → Cell) :
    ((s.countSync k 0x30).modCell k f).cell k = f (s.cell k) := by
  rw [State.cell_modCell, if_pos rfl, (sends_countSync s k 0x30).cell]

theorem waiters_countSync (s : State) (k : Nat) : (s.countSync k 0x30).waiters k = s.waiters k := by
  rw [State.waiters, State.waiters, (sends_countSync s k 0x30).net]

theorem ownsCell_countSync (s : State) (r : SyncReq) (k p : Nat) : (s.countSync k 0x30).ownsCell r p = s.ownsCell r p := by
  rw [State.ownsCell, State.ownsCell, State.cellOwner, State.cellOwner, (sends_countSync s k 0x30).net]

theorem syncLink_links {r : SyncReq} {v : W64} {k parent : Nat} {t : State} (hpar : t.decode v = .here (.cell parent))
    (hown : t.ownsCell r parent = true) :
    syncLink r v k t = (t.modCell k (fun x => { x with link := v }), before t k) := by
  simp only [syncLink, hpar, hown, or_true, if_true]

theorem syncLink_unlinks (r : SyncReq) {v : W64} (k : Nat) (t : State) (hv : v = 0) :
    syncLink r v k t = (t.modCell k (fun x => { x with link := v }), before t k) := by
  unfold syncLink
  split
  · exact if_pos (.inl hv)
  · rfl

end

/-- Settles O17: each operation is served at its cell. -/
theorem syncOperationsComplete : Obligations.SyncOperationsComplete := by
  intro s r v k
  constructor
  · intro ha hd hdie hp hreach hown w
    have h : Owned s r k := ⟨ha, hd, hdie, hp, hreach, hown⟩
    have hb := before_countSync s k
    have hcell := cell_modCell_countSync s k
    have hsame := (sends_countSync s k 0x30).cell k
    refine ⟨?read, fun hfw => ?write, ?init, fun hn => ?arrive, fun hgen => ?passed, fun hgen hroom => ?waits, ?fetchAdd,
      ?cas, fun hv => ?unlink, fun parent hal hpar hop => ?link, ?readLink⟩
    case read =>
      obtain ⟨hans, hc⟩ := syncCmd_responds h (v := 0) (op := 0) (by decide) rfl (congrArg (Prod.mk _) hb)
      exact ⟨_, rfl, hans, hc.trans hsame⟩
    case write =>
      have ht : syncEffect r v 1 k (s.countSync k 0x30) = (_, _) := if_pos hfw
      obtain ⟨hans, hc⟩ := syncCmd_responds h (by decide) rfl (ht.trans (congrArg (Prod.mk _) hb))
      exact ⟨_, rfl, hans, congrArg Cell.word (hc.trans (hcell _))⟩
    case init =>
      obtain ⟨hans, hc⟩ := syncCmd_responds h (v := v) (op := 2) (by decide) rfl (congrArg (Prod.mk _) hb)
      exact ⟨_, rfl, hans, congrArg Cell.word (hc.trans (hcell _))⟩
    case arrive =>
      obtain ⟨s', hs', hans, -⟩ := arrive_serves s r v k ha hd hdie hp hreach hown hn
      exact ⟨s', hs', hans⟩
    case passed =>
      have ht : syncEffect r v 4 k (s.countSync k 0x30) = (_, _) := if_pos (hsame ▸ hgen)
      obtain ⟨hans, hc⟩ := syncCmd_responds h (by decide) rfl (ht.trans (congrArg (Prod.mk _) hb))
      exact ⟨_, rfl, hans, hc.trans hsame⟩
    case waits =>
      have ht : syncWait r v k (s.countSync k 0x30) = (_, _) :=
        (if_neg (by rw [hsame]; exact not_not.2 hgen)).trans (if_neg (by rw [waiters_countSync]; omega))
      have hcmd := syncCmd_of_owned h (v := v) (op := 4) (by decide) rfl
      rw [syncEffect, ht] at hcmd
      refine ⟨_, rfl, ?_, ?_⟩
      · rw [hcmd]
        rfl
      · rw [hcmd]
        exact congrArg Cell.waiters (hcell _)
    case fetchAdd =>
      obtain ⟨hans, hc⟩ := syncCmd_responds h (v := v) (op := 5) (by decide) rfl (congrArg (Prod.mk _) hb)
      exact ⟨_, rfl, hans, congrArg Cell.word (hc.trans (hcell _))⟩
    case cas =>
      obtain ⟨hans, hc⟩ := syncCmd_responds h (v := v) (op := 6) (by decide) rfl (congrArg (Prod.mk _) hb)
      refine ⟨_, rfl, hans, ?_⟩
      rw [hc, hsame]
      split
      · exact congrArg Cell.word (hcell _)
      · exact congrArg Cell.word hsame
    case unlink =>
      obtain ⟨hans, hc⟩ := syncCmd_responds h (op := 7) (by decide) (by rw [hv]; rfl)
        ((syncLink_unlinks r k (s.countSync k 0x30) hv).trans (congrArg (Prod.mk _) hb))
      exact ⟨_, rfl, hans, (congrArg Cell.link (hc.trans (hcell _))).trans hv⟩
    case link =>
      have hpar' : (s.countSync k 0x30).decode v = .here (.cell parent) :=
        ((sends_countSync s k 0x30).toKeepsSent.decode v).trans hpar
      have hok : s.syncOperandOk 7 v = true := by simp [State.syncOperandOk, State.linkOperand, hal, hpar]
      obtain ⟨hans, hc⟩ := syncCmd_responds h (op := 7) (by decide) hok
        ((syncLink_links hpar' ((ownsCell_countSync s r k parent).trans hop)).trans (congrArg (Prod.mk _) hb))
      exact ⟨_, rfl, hans, congrArg Cell.link (hc.trans (hcell _))⟩
    case readLink =>
      obtain ⟨hans, hc⟩ := syncCmd_responds h (v := 0) (op := 8) (by decide) rfl
        (congrArg (fun x : Cell => (_, SyncOut.resp .ok x.link)) hsame)
      exact ⟨_, rfl, hans, hc.trans hsame⟩
  · rintro node (⟨hk, hl⟩ | ⟨hk, hi⟩)
    · obtain ⟨l, hl⟩ := Option.isSome_iff_exists.1 hl
      exact ⟨_, exec_release s node v _ _ (.inl ⟨l, hk, hl, rfl, rfl⟩), rfl⟩
    · exact ⟨_, exec_release s node v _ _ (.inr ⟨hk, hi, rfl, rfl⟩), rfl⟩

end Sys2Proof.Machine

/-! PROOF. Heartbeats, failures, restores, migrations, SHADOW and the log commands (R525–R548): what each leaves when its
trigger holds. -/

namespace Sys2Proof.Machine

open Sys2Proof

/-! ### Heartbeats -/

theorem thirdMiss_early {t : Tbl Nat} {k : Nat} (h : tget 0 t k < 2) :
    tget 0 (thirdMiss t k).1 k = tget 0 t k + 1 ∧ (thirdMiss t k).2 = false := by
  rw [thirdMiss, tget_tset_same]
  exact ⟨if_pos (by omega), decide_eq_false (by omega)⟩

theorem thirdMiss_third {t : Tbl Nat} {k : Nat} (h : 2 ≤ tget 0 t k) : (thirdMiss t k).2 = true :=
  decide_eq_true (by omega)

/-- Without a confirmed probe there is nothing to apply. -/
theorem applyProbed_of_none {s : State} (h : ∀ p ∈ s.recov.probing, p.2.2 = false) (n : Nat) : s.applyProbed n = s := by
  cases n with
  | zero => rfl
  | succ n =>
    have hnone : s.recov.probing.find? (fun p => p.2.2 && s.recov.probing.all (fun q => p.1 == q.1 || detectedBefore p q)) =
        none := by
      rw [List.find?_eq_none]
      intro p hp
      simp [h p hp]
    rw [State.applyProbed, hnone]

section

variable (s : State)

theorem tileHeartbeatMiss_completes (d : Die) (t : PTile) (h : s.tileTested d t = true) :
    ∃ s', exec (.tileHeartbeatMiss d t) s = .next s' ∧ s'.answer = .done ∧
      (tget 0 s.recov.tileMiss (d.val * 20 + t.val) < 2 →
        tget 0 s'.recov.tileMiss (d.val * 20 + t.val) = tget 0 s.recov.tileMiss (d.val * 20 + t.val) + 1) := by
  refine ⟨_, congrArg Host.Outcome.next (if_neg (by simp [h])), ?_⟩
  split
  next h3 =>
    refine ⟨rfl, fun h2 => ?_⟩
    rw [(thirdMiss_early h2).2] at h3
    cases h3
  · exact ⟨rfl, fun h2 => (thirdMiss_early h2).1⟩

theorem dieHeartbeatMiss_completes (d : Die) (hw : s.watches = true) (hb : s.dieBad d.val = false)
    (hp : s.recov.probing.any (fun p => p.1 == d.val) = false) :
    ∃ s', exec (.dieHeartbeatMiss d) s = .next s' ∧ s'.answer = .done ∧
      (2 ≤ tget 0 s.recov.dieMiss d.val → (d.val, s.now, false) ∈ s'.recov.probing) := by
  refine ⟨_, congrArg Host.Outcome.next (if_neg (by rw [hw, hb, hp]; decide)), rfl, fun h2 => ?_⟩
  dsimp only
  rw [State.ok_recov, if_pos (thirdMiss_third h2)]
  exact List.mem_cons_self

theorem dieProbeResult_completes (d : Die) (h : s.recov.probing.any (fun p => p.1 == d.val && !p.2.2) = true) :
    (∃ s', exec (.dieProbeResult d false) s = .next s' ∧ s'.answer = .done ∧
      (s.recov.probing.all (fun q => !q.2.2) = true →
        s'.recov.probing = s.recov.probing.filter (fun q => q.1 != d.val))) ∧
    ∃ s', exec (.dieProbeResult d true) s = .next s' ∧ s'.answer = .done := by
  refine ⟨⟨_, congrArg Host.Outcome.next (if_pos h), rfl, fun hall => ?_⟩, _, congrArg Host.Outcome.next (if_pos h), rfl⟩
  have hflags : ∀ p ∈ s.recov.probing.filter (fun q => q.1 != d.val), p.2.2 = false := fun p hp => by
    simpa using List.all_eq_true.1 hall p (List.mem_of_mem_filter hp)
  rw [State.ok_recov, applyProbed_of_none hflags]
  rfl

theorem sinterHeartbeatMiss_completes (k : Stk) (hw : s.watches = true) (hb : s.stackBad k.val = false) :
    ∃ s', exec (.sinterHeartbeatMiss k) s = .next s' ∧ s'.answer = .done ∧
      (tget 0 s.recov.sinterMiss k.val < 2 →
        tget 0 s'.recov.sinterMiss k.val = tget 0 s.recov.sinterMiss k.val + 1) := by
  refine ⟨_, congrArg Host.Outcome.next (if_neg (by rw [hw, hb]; decide)), ?_⟩
  split
  next h3 =>
    refine ⟨rfl, fun h2 => ?_⟩
    rw [(thirdMiss_early h2).2] at h3
    cases h3
  · exact ⟨rfl, fun h2 => (thirdMiss_early h2).1⟩

/-! ### Failures -/

theorem stackLoss_completes (k : Stk) (hw : s.watches = true) (hb : s.stackBad k.val = false) :
    ∃ s', exec (.stackLoss k) s = .next s' ∧ s'.answer = .done :=
  ⟨_, congrArg Host.Outcome.next (if_neg (by rw [hw, hb]; decide)), rfl⟩

theorem tileFailure_completes (d : Die) (t : PTile) (hw : s.watches = true) (hd : s.dieBad d.val = false)
    (ht : s.tileBad d.val t.val = false) : ∃ s', exec (.tileFailure d t) s = .next s' ∧ s'.answer = .done :=
  ⟨_, congrArg Host.Outcome.next (if_neg (by rw [hw, hd, ht]; decide)), rfl⟩

theorem dieFailure_completes (d : Die) (hw : s.watches = true) (hb : s.dieBad d.val = false)
    (hd : s.isDormant d.val = false) : ∃ s', exec (.dieFailure d) s = .next s' ∧ s'.answer = .done :=
  ⟨_, congrArg Host.Outcome.next (if_neg (by rw [hw, hb, hd]; decide)), rfl⟩

theorem dormantDieFailure_completes (d : Die) (hw : s.watches = true) (hd : s.isDormant d.val = true) :
    ∃ s', exec (.dormantDieFailure d) s = .next s' ∧ s'.answer = .done :=
  ⟨_, congrArg Host.Outcome.next (if_neg (by rw [hw, hd]; decide)), rfl⟩

/-! ### Restores -/

section

variable {s} {c : CtxId} {r : Restore} (hr : (s.ctx c).restore = some r)

include hr

theorem regionRestore_completes {g : Scan} {t : State} (hst : s.st = .idle ∨ s.st = .run) (hscan : r.scanned = false)
    (hoff : s.regionOff c = false) (hg : (s.ctx c).newest = some g) (ht : s.scanChecks c g = (t, none)) :
    ∃ s', exec (.regionRestore c) s = .next s' ∧ s'.answer = .done ∧
      (s'.ctx c).restore = some { r with scanned := true, generation := g.generation } := by
  have hexec : exec (.regionRestore c) s = .next ((((t.scanIn c g).forgetScratch c).modCtx c fun x => { x with
      restore := some { r with scanned := true, generation := g.generation } }).ok) := by
    have hno : ¬(s.st ≠ .idle ∧ s.st ≠ .run ∨ r.scanned = true ∨ s.regionOff c = true) := by
      rw [hscan, hoff]
      tauto
    simp only [exec, execRegionRestore, hr, hg, ht]
    rw [if_neg hno]
  refine ⟨_, hexec, rfl, ?_⟩
  rw [State.ctx_of_ok, State.ctx_modCtx, if_pos rfl]

theorem regionResume_completes (hst : s.st = .idle ∨ s.st = .run) (hscan : r.scanned = true) (hres : r.resumed = false) :
    ∃ s', exec (.regionResume c true) s = .next s' ∧ s'.answer = .done ∧ (s'.ctx c).sw = .steady ∧
      (s'.ctx c).paused = false := by
  have hexec : ∃ u z f, exec (.regionResume c true) s = .next (((State.modCtx u c fun x => { x with
      sw := .steady, kind := none, paused := false, restore := z }).mapRecovery c openRecord f).ok) := by
    have hno : ¬(s.st ≠ .idle ∧ s.st ≠ .run ∨ (!r.scanned) = true ∨ r.resumed = true) := by
      rw [hscan, hres]
      simp
      tauto
    simp only [exec, execRegionResume, hr]
    rw [if_neg hno]
    exact ⟨_, _, _, rfl⟩
  obtain ⟨u, z, f, hexec⟩ := hexec
  have hctx : (((State.modCtx u c fun x => { x with sw := .steady, kind := none, paused := false, restore := z }).mapRecovery
      c openRecord f).ok).ctx c = { u.ctx c with sw := .steady, kind := none, paused := false, restore := z } :=
    (State.ctx_modCtx u c c _).trans (if_pos rfl)
  exact ⟨_, hexec, rfl, by rw [hctx], by rw [hctx]⟩

theorem caughtUp_completes (hres : r.resumed = true) (hgoals : ∀ g ∈ r.goals, g.2 ≤ (s.logOf g.1).pos) :
    ∃ s', exec (.caughtUp c) s = .next s' ∧ s'.answer = .done ∧ (s'.ctx c).restore = none := by
  have hall : (r.resumed && r.goals.all fun g => decide (g.2 ≤ (s.logOf g.1).pos)) = true := by
    simpa [hres] using fun a b hab => hgoals (a, b) hab
  have hexec : exec (.caughtUp c) s =
      .next (((s.modCtx c fun x => { x with restore := none }).mapRecovery c behindRecord (caughtRecord s.now)).ok) := by
    simp only [exec, execCaughtUp, hr]
    rw [if_pos hall]
  exact ⟨_, hexec, rfl, congrArg CtxS.restore ((State.ctx_modCtx s c c _).trans (if_pos rfl))⟩

theorem recoveryBudgetExpiry_completes (hres : r.resumed = false) (hlate : r.late = false) :
    ∃ s', exec (.recoveryBudgetExpiry c) s = .next s' ∧ s'.answer = .done ∧
      (s'.ctx c).restore = some { r with late := true } ∧ r.detected + restoreBudget r.kind + 1 ≤ s'.now := by
  have hexec : exec (.recoveryBudgetExpiry c) s = .next (((((s.notBefore (r.detected + restoreBudget r.kind + 1)).event
      0x6015 (some c) (s.regionLoc c r.die) r.kind).modCtx c fun x => { x with restore := some { r with late := true } })).ok) := by
    have hfilter : (s.ctx c).restore.filter (fun r => !r.resumed && !r.late) = some r := by
      simp [hr, hres, hlate]
    simp only [exec, execRecoveryBudgetExpiry, hfilter]
  refine ⟨_, hexec, rfl, congrArg CtxS.restore ((State.ctx_modCtx _ c c _).trans (if_pos rfl)), ?_⟩
  rw [State.ok_now, State.modCtx_now, State.event_now]
  exact le_max_right _ _

end

/-! ### Migrations -/

theorem foldl_keeps {A B : Type} {f : State → A → State} (g : State → B) (h : ∀ u a, g (f u a) = g u) (l : List A) (u : State) :
    g (l.foldl f u) = g u := by
  induction l generalizing u with
  | nil => rfl
  | cons a l ih => exact (ih _).trans (h u a)

theorem migrationStart_completes (d : Die) {q : Nat × LDie} {p : Nat} (hq : s.anat.orphans.find? (fun p => p.1 == d.val) = some q)
    (hp : s.phys q.2 = some p) (hst : s.st = .idle ∨ s.st = .run) (hrest : s.restoring q.2 = false)
    (hnew : [0, 1].filterMap (s.newMigration d.val q.2 p) ≠ []) :
    ∃ s', exec (.migrationStart d) s = .next s' ∧ s'.answer = .done ∧
      s'.recov.migrations = s.recov.migrations ++ [0, 1].filterMap (s.newMigration d.val q.2 p) := by
  obtain ⟨d', l⟩ := q
  have hno : ¬(s.st ≠ .idle ∧ s.st ≠ .run ∨ s.restoring l = true ∨ [0, 1].filterMap (s.newMigration d.val l p) = []) := by
    rw [hrest]
    tauto
  have hexec : ∃ (f : State → CtxId → Bytes) (cs : List CtxId), exec (.migrationStart d) s =
      .next (List.foldl (fun (s : State) (c : CtxId) => s.logRecovery (f s c))
      { s with recov := { s.recov with
        migrations := s.recov.migrations ++ [0, 1].filterMap (s.newMigration d.val l p) } } cs).ok := by
    simp only [exec, execMigrationStart, hq, hp]
    rw [if_neg hno]
    exact ⟨_, _, rfl⟩
  obtain ⟨f, cs, hexec⟩ := hexec
  refine ⟨_, hexec, rfl, ?_⟩
  exact foldl_keeps (f := fun u c => u.logRecovery (f u c)) (fun u => u.recov.migrations) (fun _ _ => rfl) cs _

/-- A relocation ends the migrations of its die. -/
theorem relocate_ends_migrations (ms : List Migration) (die l : Nat) {y : Migration}
    (hy : y ∈ (s.relocate ms die l).recov.migrations) : y.die ≠ die := by
  unfold State.relocate at hy
  extract_lets pairs holders since late s1 s2 s3 done _ _ s4 at hy
  have hs4 : s4.recov.migrations = s3.recov.migrations.filter (fun m => m.die != die) := rfl
  rw [State.event_recov, State.count_recov, hs4] at hy
  simpa using (List.mem_filter.1 hy).2

section

variable {s} {k : Stk} {m : Migration} (hm : s.recov.migrations.find? (fun m => m.src == k.val) = some m)

include hm

theorem migrationCopy_completes {b : Nat} {l : List Nat} (hb : m.banks = b :: l) (hst : s.st = .idle ∨ s.st = .run)
    (hsrc : (s.stackBankSt m.src b).shut = false) (hdst : (s.stackBankSt m.dst b).shut = false) :
    ∃ s', exec (.migrationCopy k) s = .next s' ∧ s'.answer = .done := by
  have hno : ¬(s.st ≠ .idle ∧ s.st ≠ .run ∨ (s.stackBankSt m.src b).shut = true ∨ (s.stackBankSt m.dst b).shut = true) := by
    rw [hsrc, hdst]
    tauto
  have hexec : exec (.migrationCopy k) s = .next ((s.copyBank m b).ok) := by
    simp only [exec, execMigrationCopy, hm, hb]
    rw [if_neg hno]
  exact ⟨_, hexec, rfl⟩

theorem migrationDestFail_completes : ∃ s', exec (.migrationDestFail k) s = .next s' ∧ s'.answer = .done ∧
    ∀ y ∈ s'.recov.migrations, y.src ≠ k.val := by
  have hsrc : m.src = k.val := by simpa using List.find?_some hm
  have hexec : ∃ (u : State) (cs : List CtxId) (p : Bytes → Bool), exec (.migrationDestFail k) s =
      .next (List.foldl (fun (s : State) (c : CtxId) =>
      s.mapRecovery c p failedRecord) { u with recov := { u.recov with
        migrations := u.recov.migrations.filter (fun y => y.src != m.src) } } cs).ok := by
    simp only [exec, execMigrationDestFail, hm]
    exact ⟨_, _, _, rfl⟩
  obtain ⟨u, cs, p, hexec⟩ := hexec
  refine ⟨_, hexec, rfl, fun y hy => ?_⟩
  rw [State.ok_recov, foldl_keeps (f := fun u c => u.mapRecovery c p failedRecord) (fun u => u.recov.migrations)
    (fun _ _ => rfl) cs] at hy
  simpa [hsrc] using (List.mem_filter.1 hy).2

theorem relocation_completes (hst : s.st = .idle ∨ s.st = .run)
    (hbanks : ∀ y ∈ s.recov.migrations, y.die = m.die → y.banks = [])
    (hfree : ∀ (c : CtxId) (y : Migration), y ∈ s.recov.migrations → y.die = m.die → s.migrates c y = true →
      (s.ctx c).kind = none ∧ (s.ctx c).ckptRun = none ∧ ∀ r, (s.ctx c).restore = some r → r.resumed = true) :
    ∃ s', exec (.relocation k) s = .next s' ∧ s'.answer = .done ∧ ∀ y ∈ s'.recov.migrations, y.die ≠ m.die := by
  have hof : ∀ y, y ∈ s.recov.migrations.filter (fun y => y.die == m.die) ↔ y ∈ s.recov.migrations ∧ y.die = m.die := by
    simp [List.mem_filter]
  have hidle : allCtx.any (fun c => (s.recov.migrations.filter (fun y => y.die == m.die)).any (s.migrates c) &&
      ((s.ctx c).kind.isSome || (s.ctx c).ckptRun.isSome || (s.ctx c).restore.any (fun r => !r.resumed))) = false := by
    rw [List.any_eq_false]
    intro c _ hc
    rw [Bool.and_eq_true, List.any_eq_true] at hc
    obtain ⟨⟨y, hy, hmig⟩, hbusy⟩ := hc
    obtain ⟨hkind, hckpt, hrestore⟩ := hfree c y ((hof y).1 hy).1 ((hof y).1 hy).2 hmig
    cases hrc : (s.ctx c).restore with
    | none => simp [hkind, hckpt, hrc] at hbusy
    | some r => simp [hkind, hckpt, hrc, hrestore r hrc] at hbusy
  have hempty : (s.recov.migrations.filter (fun y => y.die == m.die)).all (fun y => y.banks.isEmpty) = true := by
    rw [List.all_eq_true]
    intro y hy
    rw [hbanks y ((hof y).1 hy).1 ((hof y).1 hy).2]
    rfl
  have hexec : exec (.relocation k) s =
      .next ((s.relocate (s.recov.migrations.filter (fun y => y.die == m.die)) m.die m.logical).ok) := by
    simp only [exec, execRelocation, hm, hidle, hempty]
    rw [if_neg (by simp; tauto)]
  exact ⟨_, hexec, rfl, fun y hy => relocate_ends_migrations s _ _ _ hy⟩

end

/-! ### Margins, SHADOW and the log -/

theorem marginSummary_completes (hw : s.watches = true) :
    ∃ s', exec .marginSummary s = .next s' ∧ s'.answer = .done ∧ s'.recov.margin = s.marginBytes.1 :=
  ⟨_, congrArg Host.Outcome.next (if_pos hw), rfl, rfl⟩

theorem frameFails_sums (point : Nat) (e : W32) : (s.frameFails point e).recov.sums = s.recov.sums := by
  rw [State.frameFails, State.count_recov, State.event_recov]

theorem framePasses_sums : s.framePasses.recov.sums = s.recov.sums := by
  unfold State.framePasses
  dsimp only
  split
  · rw [State.event_recov]
    rfl
  · rfl

/-- A record that has been compared is gone from the shadow's. -/
theorem comparePoint_sums (point frame : Nat) (e : W32) : (s.comparePoint point frame e).recov.sums =
    s.recov.sums.filter (fun p => !(p.1 == point && p.2.1 == frame)) := by
  unfold State.comparePoint
  dsimp only
  split
  · split
    · rfl
    · exact frameFails_sums _ _ _
  · split
    · exact framePasses_sums _
    · rfl

theorem shadowCompare_completes {point : Fin 64} {frame : Nat} (norm : W32) (proj : List W32) {q : Nat × Nat × W32 × List W32}
    (hsh : s.shadow = true) (hstate : s.recov.shadowState ≠ 0)
    (hq : s.recov.sums.find? (fun p => p.1 == point.val && p.2.1 == frame) = some q) :
    ∃ s', exec (.shadowCompare point frame norm proj) s = .next s' ∧ s'.answer = .done ∧
      ∀ p ∈ s'.recov.sums, ¬(p.1 = point.val ∧ p.2.1 = frame) := by
  obtain ⟨i, j, n, p⟩ := q
  have hexec : exec (.shadowCompare point frame norm proj) s =
      .next ((s.comparePoint point.val frame (shadowError n norm p proj)).ok) := by
    simp only [exec, execShadowCompare, hq]
    rw [if_neg (by simpa [hsh] using hstate)]
  refine ⟨_, hexec, rfl, fun p hp ⟨hpoint, hframe⟩ => ?_⟩
  rw [State.ok_recov, comparePoint_sums] at hp
  simpa [hpoint, hframe] using (List.mem_filter.1 hp).2

theorem alertAck_completes (v : Bool) : ∃ s', exec (.alertAck v) s = .next s' ∧ s'.answer = .fjoco .ok [] ∧
    s'.log.alert = if v then false else s.log.alert := by
  cases v
  · exact ⟨_, rfl, rfl, rfl⟩
  · exact ⟨_, rfl, rfl, rfl⟩

theorem faultLogClear_completes (v : Bool) : ∃ s', exec (.faultLogClear v) s = .next s' ∧ s'.answer = .fjoco .ok [] ∧
    s'.log.main = (if v then [] else s.log.main) ∧ s'.log.persistent = if v then [] else s.log.persistent := by
  cases v
  · exact ⟨_, rfl, rfl, rfl, rfl⟩
  · exact ⟨_, rfl, rfl, rfl, rfl⟩

end

/-- Settles O29: command by command. -/
theorem recoveryCommandsComplete : Obligations.RecoveryCommandsComplete := by
  intro s
  refine ⟨tileHeartbeatMiss_completes s, dieHeartbeatMiss_completes s, dieProbeResult_completes s,
    fun k hw hb => ⟨sinterHeartbeatMiss_completes s k hw hb, stackLoss_completes s k hw hb⟩, tileFailure_completes s,
    dieFailure_completes s, dormantDieFailure_completes s, fun c r hr hst => ⟨?_, ?_, ?_, ?_⟩,
    fun d q p hq hp hst hrest hnew => migrationStart_completes s d hq hp hst hrest hnew, fun k m hm => ⟨?_, ?_, ?_⟩,
    marginSummary_completes s, fun point frame norm proj q hsh hstate hq => shadowCompare_completes s norm proj hsh hstate hq,
    fun v => ⟨alertAck_completes s v, faultLogClear_completes s v⟩⟩
  · exact fun g t hscan hoff hg ht => regionRestore_completes hr hst hscan hoff hg ht
  · exact fun hscan hres => regionResume_completes hr hst hscan hres
  · exact fun hres hgoals => caughtUp_completes hr hres hgoals
  · exact fun hres hlate => recoveryBudgetExpiry_completes hr hres hlate
  · exact fun b l hb hst hsrc hdst => migrationCopy_completes hm hb hst hsrc hdst
  · exact migrationDestFail_completes hm
  · exact fun hst hbanks hfree => relocation_completes hm hst hbanks hfree

end Sys2Proof.Machine

/-! PROOF. The root, owner records, attestation, context keys and debug tokens (R403–R440): what each command leaves when its
rule accepts it. -/

namespace Sys2Proof.Machine

open Sys2Proof

/-- What g reads of the root's registers is not the draws of the EVENT frames. -/
theorem Told.sec_reads {A : Type} {g : Sec → A} {s t : State} (h : Told s t) (hg : ∀ x r, g { x with reports := r } = g x) :
    g t.sec = g s.sec := (hg _ _).symm.trans (congrArg g h.sec)

section

variable (s : State)

/-! ### The root -/

theorem rootTakeover_completes (ms : Nat) (hroot : s.sec.root = 0) (hms : 10 ≤ ms) (hstart : s.boot.start = none) :
    ∃ s', exec (.rootTakeover ms) s = .next s' ∧ s'.answer = .done ∧ s'.sec.root = 1 ∧ s'.mgmt.shakes = [] := by
  rw [exec, execRootTakeover, if_neg (by omega)]
  extract_lets _ s1 s2 _ _ s3
  have hboot : s3.boot = s.boot := (told_event s1 0x7011 none s1.rootLoc 0).boot
  rw [hboot, hstart]
  exact ⟨_, rfl, rfl, (told_event s1 0x7011 none s1.rootLoc 0).sec_reads (g := Sec.root) fun _ _ => rfl, rfl⟩

theorem rootLost_completes (hroot : s.sec.root ≠ 2) : ∃ s', exec .rootLost s = .next s' ∧ s'.answer = .done :=
  ⟨_, if_neg hroot, rfl⟩

theorem entropyFailure_completes (h : Hub) (hh : s.sec.entropy.contains h.val = false) :
    ∃ s', exec (.entropyFailure h) s = .next s' ∧ s'.answer = .done :=
  ⟨_, if_neg (by rw [hh]; decide), rfl⟩

theorem entropyFailure_first (h : Hub) (hh : s.sec.entropy = []) :
    ∃ s', exec (.entropyFailure h) s = .next s' ∧ s'.answer = .done ∧ s'.sec.entropy = [h.val] := by
  rw [exec, execEntropyFailure, if_neg (by simp [hh])]
  extract_lets _ s1 s2
  have hs2 : s2.sec.entropy = [h.val] :=
    ((told_fault s1 0x7012 none (locHub h.val) 0).sec_reads (g := Sec.entropy) fun _ _ => rfl).trans (by simp [s1, hh])
  rw [if_neg (by simp [hs2])]
  exact ⟨_, rfl, rfl, hs2⟩

/-! ### The owner -/

theorem ownerClaim_completes (c : Claim) (howned : s.sec.owned = false) (hmagic : c.magicOk = true)
    (hserial : c.serial = s.serial64) (hnonce : c.nonce = s.sec.claimNonce) (hsig : sigUnder c.sig c.keyHash = true) :
    ∃ s', exec (.ownerClaim c) s = .next s' ∧ s'.answer = .fjoco .ok [] ∧ s'.sec.owned = true ∧
      s'.sec.ownerKeys = [c.keyHash] ∧ s'.sec.sequence = 0 := by
  have hexec : ∃ u v : State, exec (.ownerClaim c) s = .next ((State.event v 0x7052 none u.rootLoc).fstatus .ok) ∧
      v.sec.owned = true ∧ v.sec.ownerKeys = [c.keyHash] ∧ v.sec.sequence = 0 := by
    have hgood : (c.magicOk && c.serial == s.serial64 && c.nonce == s.sec.claimNonce && sigUnder c.sig c.keyHash) = true := by
      simp [hmagic, hserial, hnonce, hsig]
    rw [exec, execOwnerClaim, State.claimOwner, if_neg (by simp [howned])]
    dsimp only
    rw [if_pos hgood]
    exact ⟨_, _, rfl, rfl, rfl, rfl⟩
  obtain ⟨u, v, hexec, ho, hk, hq⟩ := hexec
  have hv := told_event v 0x7052 none u.rootLoc 0
  exact ⟨_, hexec, rfl, (hv.sec_reads (g := Sec.owned) fun _ _ => rfl).trans ho,
    (hv.sec_reads (g := Sec.ownerKeys) fun _ _ => rfl).trans hk, (hv.sec_reads (g := Sec.sequence) fun _ _ => rfl).trans hq⟩

section

variable {s} {h : OwnerHead}

/-- A record that passes R415 and its kind's condition takes effect. -/
theorem ownerRecord_of_ok {zeroOk ok : Bool} (hrec : s.recordOk h zeroOk = true) (hok : ok = true) (f : State → State) :
    s.ownerRecord h zeroOk ok f = (f { s with sec := { s.sec with sequence := h.sequence } }).fstatus .ok :=
  if_pos (by rw [hrec, hok]; rfl)

theorem ownerRelease_completes (hrec : s.recordOk h false = true) (hq : s.st ≠ .quenched) :
    ∃ s', exec (.ownerRelease h) s = .next s' ∧ s'.answer = .fjoco .ok [] := by
  rw [exec, execOwnerRelease, State.recRelease, if_neg hq, ownerRecord_of_ok hrec rfl]
  exact ⟨_, rfl, rfl⟩

theorem updateApprove_completes (hrec : s.recordOk h false = true) (component : Byte) (digest : BitVec 256) :
    ∃ s', exec (.updateApprove h component digest) s = .next s' ∧ s'.answer = .fjoco .ok [] ∧
      s'.sec.sequence = h.sequence ∧ (component, digest) ∈ s'.sec.approvals := by
  rw [exec, execUpdateApprove, State.recUpdateApprove, ownerRecord_of_ok hrec rfl]
  exact ⟨_, rfl, rfl, rfl, List.mem_append_right _ List.mem_cons_self⟩

variable (hrec : s.recordOk h true = true)

include hrec

theorem keyAdd_completes (k : BitVec 256) (hlen : s.sec.ownerKeys.length < 4) :
    ∃ s', exec (.keyAdd h k) s = .next s' ∧ s'.answer = .fjoco .ok [] ∧ s'.sec.sequence = h.sequence ∧
      k ∈ s'.sec.ownerKeys := by
  rw [exec, execKeyAdd, State.recKeyAdd, ownerRecord_of_ok hrec (decide_eq_true hlen)]
  refine ⟨_, rfl, rfl, rfl, ?_⟩
  dsimp only [State.fstatus]
  split
  next hin => exact List.contains_iff_mem.1 hin
  · exact List.mem_append_right _ List.mem_cons_self

theorem keyRemove_completes (id : W64) (hid : (s.ownerKey id).isSome = true) (hlen : 1 < s.sec.ownerKeys.length) :
    ∃ s', exec (.keyRemove h id) s = .next s' ∧ s'.answer = .fjoco .ok [] ∧ s'.sec.sequence = h.sequence ∧
      s'.sec.ownerKeys = s.sec.ownerKeys.filter (fun k => keyIdOf k != id) := by
  rw [exec, execKeyRemove, State.recKeyRemove, ownerRecord_of_ok hrec (by simp [hid, hlen])]
  exact ⟨_, rfl, rfl, rfl, rfl⟩

theorem keyPrimary_completes (id : W64) (hid : (s.ownerKey id).isSome = true) :
    ∃ s', exec (.keyPrimary h id) s = .next s' ∧ s'.answer = .fjoco .ok [] ∧ s'.sec.sequence = h.sequence ∧
      (s'.sec.ownerKeys.head?.map keyIdOf) = some id := by
  rw [exec, execKeyPrimary, State.recKeyPrimary, ownerRecord_of_ok hrec hid]
  refine ⟨_, rfl, rfl, rfl, ?_⟩
  obtain ⟨k, hk⟩ := Option.isSome_iff_exists.1 hid
  have hkid : keyIdOf k = id := by simpa using List.find?_some hk
  have hhead : (s.sec.ownerKeys.filter (fun k => keyIdOf k == id)).head? = some k := by
    rw [List.head?_filter]
    exact hk
  dsimp only [State.fstatus]
  rw [List.head?_append, hhead]
  exact congrArg some hkid

theorem imageKey_completes (key : Bytes) (hlen : key.length = 1216) :
    ∃ s', exec (.imageKey h key) s = .next s' ∧ s'.answer = .fjoco .ok [] ∧ s'.sec.sequence = h.sequence ∧
      s'.sec.imageKey = key := by
  rw [exec, execImageKey, State.recImageKey, ownerRecord_of_ok hrec (by simp [hlen])]
  exact ⟨_, rfl, rfl, rfl, rfl⟩

theorem operatorGeneration_completes (g : W32) :
    ∃ s', exec (.operatorGeneration h g) s = .next s' ∧ s'.answer = .fjoco .ok [] ∧ s'.sec.sequence = h.sequence ∧
      s'.sec.minGen = g := by
  rw [exec, execOperatorGeneration, State.recOperatorGeneration, ownerRecord_of_ok hrec rfl]
  exact ⟨_, rfl, rfl, rfl, rfl⟩

end

theorem revocation_completes (r : Revoke) (hr : s.revocable r = true) (hkey : r.keyHash = tget 0 s.sec.vendor r.signer.toNat)
    (hmagic : r.magicOk = true) (hsig : sigUnder r.sig r.keyHash = true) (hserial : r.serial = s.serial64 ∨ r.serial = 0) :
    ∃ s', exec (.revocation r) s = .next s' ∧ s'.answer = .fjoco .ok [] ∧
      s'.sec.revoked = s.sec.revoked ||| BitVec.ofNat 8 (2 ^ r.slot.toNat) := by
  rw [exec, execRevocation, State.revokeSlot, if_neg (by simp [hr, hkey]), 
    if_neg (by simpa [hmagic, hsig, or_iff_not_imp_left] using hserial)]
  exact ⟨_, rfl, rfl, rfl⟩

/-! ### Attestation and debug tokens -/

theorem attestRequest_panel (session : W16) (level : Level) (nonce : BitVec 256) (c : Byte) :
    ∃ s', exec (.attestRequest session level nonce 0 c) s = .next s' ∧ s'.answer = .fjoco .ok [] ∧
      tget [] s'.sec.reports session.toNat = (s.attestReport nonce 0 c.toNat).1 := by
  rw [exec, execAttestRequest, State.attest, if_neg (by decide), if_neg (by simp)]
  exact ⟨_, rfl, rfl, tget_tset_same _ _ _ _⟩

theorem attestRequest_context (session : W16) (level : Level) (nonce : BitVec 256) (c : Byte) (x : CtxId)
    (hlevel : level ≠ .pub) (hc : c.toNat = x.val) (hkey : (s.ctx x).key = .opened) :
    ∃ s', exec (.attestRequest session level nonce 1 c) s = .next s' ∧ s'.answer = .fjoco .ok [] := by
  have hx : (⟨c.toNat % 32, Nat.mod_lt _ (by decide)⟩ : CtxId) = x := Fin.ext (by simp [hc, Nat.mod_eq_of_lt x.isLt])
  have hlt : c < 32 := by
    have := x.isLt
    bv_omega
  rw [exec, execAttestRequest, State.attest, if_neg (by decide), if_neg (by simpa [hx, hkey, hlevel] using hlt)]
  exact ⟨_, rfl, rfl⟩

theorem debugToken_completes (t : DebugTok) (hst : s.st ≠ .quenched) (howned : s.sec.owned = true) (hmagic : t.magicOk = true)
    (hch : t.challenge = s.sec.challenge) (hsig : s.byOwner t.keyId t.sig = true) :
    ∃ s', exec (.debugToken t) s = .next s' ∧ s'.answer = .fjoco .ok [] ∧ s'.sec.debug = t.scope &&& 7 := by
  have hgood : (t.magicOk && s.sec.owned && t.challenge == s.sec.challenge && s.byOwner t.keyId t.sig) = true := by
    simp [hmagic, howned, hch, hsig]
  have hexec : ∃ v : State, ∃ l n, exec (.debugToken t) s = .next ((State.event v 0x7040 none l n).fstatus .ok) ∧
      v.sec.debug = t.scope &&& 7 := by
    rw [exec, execDebugToken, State.debugTok, if_neg hst]
    dsimp only
    rw [if_pos hgood]
    exact ⟨_, _, _, rfl, rfl⟩
  obtain ⟨v, l, n, hexec, hv⟩ := hexec
  exact ⟨_, hexec, rfl, ((told_event v 0x7040 none l n).sec_reads (g := Sec.debug) fun _ _ => rfl).trans hv⟩

/-! ### Context keys -/

section

variable {s} {c : CtxId}

theorem ctx_fstatus_modCtx (u : State) (f : CtxS → CtxS) (x : FStatus) : ((u.modCtx c f).fstatus x).ctx c = f (u.ctx c) :=
  (State.ctx_modCtx u c c f).trans (if_pos rfl)

theorem offer_completes (hkey : (s.ctx c).key = .closed ∨ (s.ctx c).key = .offered) :
    ∃ s', exec (.offer c) s = .next s' ∧ s'.answer = .fjoco .ok [] ∧ (s'.ctx c).key = .offered ∧
      (s'.ctx c).offerNonce = some s.draw.1 := by
  have hexec : ∃ u at_ first, exec (.offer c) s = .next ((State.modCtx u c fun x => { x with
      key := .offered, offerNonce := some s.draw.1, offerAt := at_, offerFree := first }).fstatus .ok) := by
    rw [exec, execOffer, State.offer]
    obtain hkey | hkey := hkey <;> rw [hkey] <;> exact ⟨_, _, _, rfl⟩
  obtain ⟨u, at_, first, hexec⟩ := hexec
  refine ⟨_, hexec, rfl, ?_, ?_⟩ <;> rw [ctx_fstatus_modCtx]

theorem offerExpiry_completes (hkey : (s.ctx c).key = .offered) :
    ∃ s', exec (.offerExpiry c) s = .next s' ∧ s'.answer = .done ∧ (s'.ctx c).key = .closed ∧
      (s.ctx c).offerAt + 60000000000 ≤ s'.now := by
  refine ⟨_, congrArg Host.Outcome.next (if_pos hkey), rfl, ?_, le_max_right _ _⟩
  rw [State.ctx_of_ok, State.ctx_modCtx, if_pos rfl]

theorem ctxAccept_completes (a : Accept) (ha : s.acceptOk c a = true) :
    ∃ s', exec (.ctxAccept c a) s = .next s' ∧ s'.answer = .fjoco .ok [] ∧ (s'.ctx c).key = .opened ∧
      (s'.ctx c).cms = some (masterSecret s.draw.1 s.draw.2.draw.1 (s.offerBytes c) (acceptFront a)) := by
  have hexec : ∃ u f, exec (.ctxAccept c a) s = .next (((State.modCtx u c f).count .security 0 0x10 1).fstatus .ok) ∧
      (f (u.ctx c)).key = .opened ∧
      (f (u.ctx c)).cms = some (masterSecret s.draw.1 s.draw.2.draw.1 (s.offerBytes c) (acceptFront a)) := by
    rw [exec, execCtxAccept, State.acceptCtx, if_pos ha]
    exact ⟨_, _, rfl, rfl, rfl⟩
  obtain ⟨u, f, hexec, hkey, hcms⟩ := hexec
  have hctx : (((State.modCtx u c f).count .security 0 0x10 1).fstatus .ok).ctx c = f (u.ctx c) :=
    ctx_fstatus_modCtx u f .ok
  exact ⟨_, hexec, rfl, hctx ▸ hkey, hctx ▸ hcms⟩

theorem ctxKeyLoad_completes (k : KeyLoad) (hkey : (s.ctx c).key = .opened) (hmagic : k.magicOk = true)
    (hctx : k.context.toNat = c.val) (hlo : 1 ≤ k.slot) (hhi : k.slot < 8) (htag : k.tagOk = true)
    (hfresh : ∀ p, tget none (s.ctx c).slots k.slot.toNat = some p → p.2 < k.sequence) :
    ∃ s', exec (.ctxKeyLoad c k) s = .next s' ∧ s'.answer = .fjoco .ok [] ∧
      tget none (s'.ctx c).slots k.slot.toNat = some (k.key, k.sequence) := by
  have hrange : 1#8 ≤ k.slot ∧ k.slot < 8#8 := ⟨hlo, hhi⟩
  refine ⟨_, congrArg Host.Outcome.next (if_pos ?_), rfl, ?_⟩
  · cases hold : tget none (s.ctx c).slots k.slot.toNat with
    | none => simpa [hkey, hmagic, hctx, htag] using hrange
    | some p => simpa [hkey, hmagic, hctx, htag, hfresh p hold] using hrange
  · rw [ctx_fstatus_modCtx]
    exact tget_tset_same _ _ _ _

theorem close_offered (hst : s.st ≠ .quenched) (hkey : (s.ctx c).key = .offered) :
    ∃ s', exec (.close c) s = .next s' ∧ s'.answer = .fjoco .ok [] ∧ (s'.ctx c).key = .closed := by
  rw [exec, execClose, State.beginClose, if_neg hst, hkey]
  refine ⟨_, rfl, rfl, ?_⟩
  have hctx : ∀ u l, ((State.event u 0x7053 (some c) l).fstatus .ok).ctx c = u.ctx c := fun u l => by
    rw [State.ctx_of_fstatus, State.ctx_event]
  rw [hctx]
  exact congrArg CtxS.key ((State.ctx_modCtx s c c _).trans (if_pos rfl))

theorem close_opened (hst : s.st ≠ .quenched) (hkey : (s.ctx c).key = .opened) :
    ∃ s', exec (.close c) s = .next s' ∧ s'.answer = .fjoco .ok [] ∧ (s'.ctx c).key = .closing := by
  rw [exec, execClose, State.beginClose, if_neg hst, hkey]
  refine ⟨_, rfl, rfl, ?_⟩
  rw [ctx_fstatus_modCtx]

theorem closeComplete_completes (hkey : (s.ctx c).key = .closing) :
    ∃ s', exec (.closeComplete c) s = .next s' ∧ s'.answer = .done :=
  ⟨_, congrArg Host.Outcome.next (if_pos hkey), rfl⟩

end

end

/-- Settles O32: command by command. -/
theorem securityCommandsComplete : Obligations.SecurityCommandsComplete := by
  intro s
  refine ⟨rootTakeover_completes s, rootLost_completes s, entropyFailure_first s, entropyFailure_completes s,
    ownerClaim_completes s, fun h => ⟨fun hrec => ⟨ownerRelease_completes hrec, updateApprove_completes hrec⟩,
      fun hrec => ⟨keyAdd_completes hrec, keyRemove_completes hrec, keyPrimary_completes hrec, imageKey_completes hrec,
        operatorGeneration_completes hrec⟩⟩,
    revocation_completes s, fun session level nonce c => ⟨attestRequest_panel s session level nonce c,
      attestRequest_context s session level nonce c⟩,
    fun c => ⟨offer_completes, offerExpiry_completes, ctxAccept_completes, ctxKeyLoad_completes,
      fun hst => ⟨close_offered hst, close_opened hst⟩, closeComplete_completes⟩, debugToken_completes s⟩

end Sys2Proof.Machine

/-! PROOF. Starts, self-test, calibration, SAFE, OFF and updates (R486, R496–R514): what each command leaves in the states that
its rule names. -/

namespace Sys2Proof.Machine

open Sys2Proof

theorem exists_next_of_ite {p : Prop} [Decidable p] {a b : State} {x : Answer} (ha : a.answer = x) (hb : b.answer = x) :
    ∃ s', (if p then Host.Outcome.next a else .next b : Host.Outcome State Fault Refusal) = .next s' ∧ s'.answer = x :=
  ⟨if p then a else b, (apply_ite Host.Outcome.next p a b).symm, by split <;> assumption⟩

theorem mem_insertNew_self {A : Type} [DecidableEq A] (a : A) (l : List A) : a ∈ insertNew a l := by
  unfold insertNew
  split
  · assumption
  · exact List.mem_cons_self

section

variable (s : State) (i : StartIn)

/-! ### Starts -/

theorem coldStart_completes (hr : s.boot.running = .none) (hc : s.coldOk = true) :
    ∃ s', exec (.coldStart i) s = .next s' ∧ s'.answer = .fjoco .ok [] := ⟨_, exec_coldStart s i hr hc, rfl⟩

theorem warmStart_completes (hr : s.boot.running = .none) (hs : s.st = .idle ∨ s.st = .run ∨ s.st = .safe ∨ s.st = .quenched) :
    ∃ s', exec (.warmStart i) s = .next s' ∧ s'.answer = .fjoco .ok [] := ⟨_, exec_warmStart s i hr hs, rfl⟩

theorem powerOnStart_completes (mv : Nat) (hoff : s.st = .off) (hlo : 48000 ≤ mv) (hhi : mv ≤ 58000)
    (hobj : s.obj 0x2000 0x06 = 1) (hrst : s.pins.rstHeld = false) :
    ∃ s', exec (.powerOnStart mv i) s = .next s' ∧ s'.answer = .done := by
  have hin : State.inputOk { s with pwr := { s.pwr with inputMv := mv } } = true := by simp [State.inputOk, hlo, hhi]
  exact ⟨_, if_pos ⟨hoff, hin, hobj, by rw [hrst]; rfl⟩, rfl⟩

theorem panelRstNRelease_completes (hrst : s.pins.rstHeld = true) (hc : s.coldOk = true) (hr : s.boot.running = .none) :
    ∃ s', exec (.panelRstNRelease i) s = .next s' ∧ s'.answer = .done := ⟨_, if_pos ⟨hrst, hc, hr⟩, rfl⟩

theorem panelRstNHeld_completes (ns : Nat) (h : 1000000 ≤ ns) :
    ∃ s', exec (.panelRstNHeld ns) s = .next s' ∧ s'.answer = .done ∧ s'.pins.rstHeld = true := ⟨_, if_pos h, rfl, rfl⟩

theorem coolantQualified_completes (kind : StartKind) (j : StartIn) (hstart : s.boot.start = some ⟨kind, 4, j⟩)
    (hst : s.st = .boot) (hcool : s.coolantOk = true) :
    ∃ s', exec (.coolantQualified i) s = .next s' ∧ s'.answer = .done := by
  rw [exec, execCoolantQualified, hstart]
  exact ⟨_, if_pos ⟨hst, hcool⟩, rfl⟩

theorem startStepTimeout_completes (step : Nat) (x : StartS) (hstart : s.boot.start = some x) :
    ∃ s', exec (.startStepTimeout step i) s = .next s' ∧ s'.answer = .done ∧
      (x.kind ≠ .trial → s'.boot.start = none ∧ s'.boot.running = .none) := by
  rw [exec, execStartStepTimeout, hstart]
  obtain ⟨kind, n, j⟩ := x
  cases kind with
  | trial => exact ⟨_, rfl, rfl, fun h => absurd rfl h⟩
  | cold => exact ⟨_, rfl, rfl, fun _ => ⟨rfl, rfl⟩⟩
  | warm => exact ⟨_, rfl, rfl, fun _ => ⟨rfl, rfl⟩⟩

theorem firmwareWatchdog_completes (n : Nat) (j : StartIn) (hstart : s.boot.start = some ⟨.trial, n, j⟩) :
    ∃ s', exec (.firmwareWatchdog i) s = .next s' ∧ s'.answer = .done := by
  rw [exec, execFirmwareWatchdog, hstart]
  exact ⟨_, rfl, rfl⟩

theorem activate_completes (hst : s.st = .updating) (hstaged : s.boot.fw.any (fun p => p.2.st == 1) = true) :
    ∃ s', exec (.activate i) s = .next s' ∧ s'.answer = .fjoco .ok [] :=
  ⟨_, congrArg Host.Outcome.next (if_neg (by rw [hst, hstaged]; decide)), rfl⟩

theorem fwLoad_completes (d : Die) (off : Nat) (data : Bytes) (last : Bool) (hstart : s.boot.start ≠ none)
    (hfence : s.dieFenced d.val = false) (hlen : off + data.length ≤ 2 ^ 26) :
    ∃ s', exec (.fwLoad d off data last) s = .next s' ∧ s'.answer = .done ∧
      s'.boot.seqMem = putBytes s.boot.seqMem (d.val * 2 ^ 26 + off) data ∧ (last = true → d.val ∈ s'.boot.loaded) := by
  have hadmitted : ¬(s.boot.start.isNone = true ∨ s.dieFenced d.val = true ∨ 2 ^ 26 < off + data.length) := by
    rw [Option.isNone_iff_eq_none, hfence]
    exact fun h => h.elim hstart fun h => h.elim Bool.false_ne_true (Nat.not_lt.2 hlen)
  rw [exec, execFwLoad, if_neg hadmitted]
  cases last with
  | true => exact ⟨_, rfl, rfl, rfl, fun _ => mem_insertNew_self _ _⟩
  | false => exact ⟨_, rfl, rfl, rfl, fun h => absurd h Bool.false_ne_true⟩

theorem startComplete_completes (ms : Nat) (kind : StartKind) (hstart : s.boot.start = some ⟨kind, 7, i⟩) :
    ∃ s', exec (.startComplete ms) s = .next s' ∧ s'.answer = .done := by
  rw [exec, execStartComplete, hstart]
  exact exists_next_of_ite rfl rfl

/-! ### Commands of the panel -/

theorem selftest_completes (hr : s.boot.running = .none) (hst : s.st = .idle) :
    ∃ s', exec .selftest s = .next s' ∧ s'.answer = .fjoco .ok [] ∧ s'.st = .selftest := by
  rw [exec, execSelftest, State.selftest, if_neg (not_not_intro hr), if_pos hst]
  exact ⟨_, rfl, rfl, State.enter_st _ _⟩

theorem allCtx_closed {s : State} (h : ∀ c, (s.ctx c).key = .closed) : allCtx.all (fun c => (s.ctx c).key == .closed) = true :=
  List.all_eq_true.2 fun c _ => beq_iff_eq.2 (h c)

theorem calibrate_completes (hr : s.boot.running = .none) (hst : s.st = .idle) (hclosed : ∀ c, (s.ctx c).key = .closed) :
    ∃ s', exec .calibrate s = .next s' ∧ s'.answer = .fjoco .ok [] ∧ (s.calReady = true → s'.st = .selftest) := by
  rw [exec, execCalibrate, State.calibrate, if_neg (not_not_intro hr), if_neg (by rw [hst, allCtx_closed hclosed]; decide)]
  by_cases hready : s.calReady = true
  · rw [if_pos hready]
    exact ⟨_, rfl, rfl, fun _ => State.enter_st _ _⟩
  · rw [if_neg hready]
    exact ⟨_, rfl, rfl, fun h => absurd h hready⟩

theorem update_completes (hr : s.boot.running = .none) (hst : s.st = .idle) (hclosed : ∀ c, (s.ctx c).key = .closed) :
    ∃ s', exec .update s = .next s' ∧ s'.answer = .fjoco .ok [] ∧ s'.st = .updating := by
  rw [exec, execUpdate, State.update]
  dsimp only
  rw [if_neg (not_not_intro hr), if_pos (.inl ⟨hst, allCtx_closed hclosed⟩)]
  exact ⟨_, rfl, rfl, State.enter_st _ _⟩

theorem powerOff_completes (hr : s.boot.running = .none) (hs : s.st = .idle ∨ s.st = .run ∨ s.st = .safe ∨ s.st = .quenched) :
    ∃ s', exec .powerOff s = .next s' ∧ s'.answer = .fjoco .ok [] ∧ s'.st = .off := by
  rw [exec, execPowerOff, State.powerOff, if_neg (not_not_intro hr)]
  rcases hs with hs | hs | hs | hs <;> rw [hs] <;> exact ⟨_, rfl, rfl, rfl⟩

/-- A state that can go to SAFE goes there, unless a fault is the cause and quench_on_fault is 1. -/
theorem enterSafe_enters {s : State} (hs : s.st = .boot ∨ s.st = .selftest ∨ s.st = .idle ∨ s.st = .run) {cause : Option W16}
    (hcause : (cause.isSome && s.obj 0xA000 0x03 == 1) = false) :
    (s.enterSafe cause).st = .safe ∧ (s.enterSafe cause).recov.safeCause = cause.getD 0 := by
  unfold State.enterSafe
  have hno : ¬(cause.isSome && s.obj 0xA000 0x03 == 1) = true := by rw [hcause]; exact Bool.false_ne_true
  have hsafe : ∀ t : State, (t.enter .safe).st = .safe ∧ (t.enter .safe).recov = t.recov :=
    fun t => ⟨State.enter_st _ _, State.enter_recov _ _⟩
  split
  case h_5 hboot hself hidle hrun =>
    rcases hs with hs | hs | hs | hs
    · exact absurd hs hboot
    · exact absurd hs hself
    · exact absurd hs hidle
    · exact absurd hs hrun
  all_goals
    rw [if_neg hno]
    refine ⟨(hsafe _).1, ?_⟩
    rw [(hsafe _).2]

theorem enterSafe_command (hr : s.boot.running = .none) (hs : s.st = .idle ∨ s.st = .run) :
    ∃ s', exec (.enterSafe none) s = .next s' ∧ s'.answer = .fjoco .ok [] ∧ s'.st = .safe := by
  have hsafe := (enterSafe_enters (s := s) (hs.elim (.inr ∘ .inr ∘ .inl) (.inr ∘ .inr ∘ .inr)) (cause := none) rfl).1
  show ∃ s', Host.Outcome.next s.safeCmd = .next s' ∧ _
  rw [State.safeCmd, if_neg (not_not_intro hr)]
  rcases hs with hs | hs <;> rw [hs] <;> exact ⟨_, rfl, rfl, hsafe⟩

theorem enterSafe_fault (code : W16) (hs : s.st = .boot ∨ s.st = .selftest ∨ s.st = .idle ∨ s.st = .run)
    (hobj : s.obj 0xA000 0x03 ≠ 1) :
    ∃ s', exec (.enterSafe (some code)) s = .next s' ∧ s'.answer = .done ∧ s'.st = .safe ∧ s'.recov.safeCause = code := by
  have hsafe := enterSafe_enters hs (cause := some code) (beq_false_of_ne hobj)
  have hexec : exec (.enterSafe (some code)) s = .next (s.enterSafe (some code)).ok := by
    rw [exec, execEnterSafe]
    rcases hs with hs | hs | hs | hs <;> rw [hs]
  exact ⟨_, hexec, rfl, hsafe⟩

theorem calTableWrite_completes (w : CalWrite) (hr : s.boot.running = .none) (hruns : ∀ c, (s.ctx c).runs = false)
    (hlen : w.length = calLength) (hmagic : w.magicOk = true) (hversion : w.version = 1) (hcount : w.count = 10)
    (hserial : w.serial = BitVec.ofNat 64 s.anat.serial.toNat) (hdir : w.directory = calDirectory)
    (hcal : calOk w.values = true) :
    ∃ s', exec (.calTableWrite w) s = .next s' ∧ s'.answer = .fjoco .ok [] := by
  have hidle : ¬(s.boot.running ≠ .none ∨ allCtx.any (fun c => (s.ctx c).runs) = true) := by
    rintro (h | h)
    · exact h hr
    · obtain ⟨c, -, hc⟩ := List.any_eq_true.1 h
      exact Bool.false_ne_true ((hruns c).symm.trans hc)
  rw [exec, execCalTableWrite, State.writeCal, if_neg hidle,
    if_pos ⟨hlen, hmagic, hversion, hcount, hserial, hdir, hcal⟩]
  exact ⟨_, rfl, rfl⟩

/-! ### The end of a self-test and of a calibration -/

theorem selftestComplete_completes (hst : s.st = .selftest) (found : TestFound) (skipped : Nat)
    (hr : s.boot.running = .selftest) :
    ∃ s', exec (.selftestComplete found skipped) s = .next s' ∧ s'.answer = .done ∧ s'.st = .idle ∧ s'.boot.running = .none :=
  ⟨_, if_pos ⟨hr, hst⟩, rfl, State.enter_st _ _, congrArg Boot.running (State.enter_boot _ _)⟩

theorem calibrateComplete_completes (hst : s.st = .selftest) (values : List (Tbl Int)) (found : List W32)
    (hr : s.boot.running = .calibrate) :
    ∃ s', exec (.calibrateComplete values found) s = .next s' ∧ s'.answer = .done ∧ s'.st = .idle ∧
      s'.boot.running = .none :=
  ⟨_, if_pos ⟨hr, hst⟩, rfl, State.enter_st _ _, congrArg Boot.running (State.enter_boot _ _)⟩

/-! ### Updates and the objects that a start reads -/

theorem fwStage_completes (hst : s.st = .updating) (img : FwImage) (hcomp : s.components.contains img.component.toNat = true)
    (hbytes : img.bytes ≤ 67108864) (hcheck : s.fwCheck img = none) :
    ∃ s', exec (.fwStage img) s = .next s' ∧ s'.answer = .fjoco .ok [] := by
  have hadmitted : ¬((!s.components.contains img.component.toNat) = true ∨ 67108864 < img.bytes) := by
    rw [hcomp]
    exact fun h => h.elim Bool.false_ne_true (Nat.not_lt.2 hbytes)
  rw [exec, execFwStage, State.stageFw]
  dsimp only
  rw [if_neg (not_not_intro hst), if_neg hadmitted, hcheck]
  exact ⟨_, rfl, rfl⟩

theorem discard_completes (hst : s.st = .updating) :
    ∃ s', exec .discard s = .next s' ∧ s'.answer = .fjoco .ok [] ∧
      s'.st = if s.boot.updFromSafe then .safe else .idle := by
  rw [exec, execDiscard, State.discard, if_neg (not_not_intro hst)]
  exact ⟨_, rfl, rfl, State.enter_st _ _⟩

theorem fieldDefectsClear_completes (v : Bool) :
    ∃ s', exec (.fieldDefectsClear v) s = .next s' ∧ s'.answer = .fjoco .ok [] ∧
      s'.anat.clearScheduled = (v || s.anat.clearScheduled) := ⟨_, rfl, rfl, rfl⟩

theorem countersClear_completes (v : Bool) (set : CtrSet) :
    ∃ s', exec (.countersClear set v) s = .next s' ∧ s'.answer = .fjoco .ok [] ∧ (v = false → s'.ctrs = s.ctrs) := by
  refine ⟨_, rfl, rfl, ?_⟩
  rintro rfl
  rfl

end

/-- Settles O34: command by command. -/
theorem startAndUpdateCommandsComplete : Obligations.StartAndUpdateCommandsComplete := by
  intro s
  exact ⟨fun i => ⟨coldStart_completes s i, warmStart_completes s i, fun mv => powerOnStart_completes s i mv,
      panelRstNRelease_completes s i, fun kind j => coolantQualified_completes s i kind j,
      fun step x => startStepTimeout_completes s i step x, fun n j => firmwareWatchdog_completes s i n j,
      activate_completes s i⟩,
    panelRstNHeld_completes s, fwLoad_completes s, fun ms kind i => startComplete_completes s i ms kind,
    fun hr => ⟨fun hst => ⟨selftest_completes s hr hst,
        fun hclosed => ⟨calibrate_completes s hr hst hclosed, update_completes s hr hst hclosed⟩⟩,
      powerOff_completes s hr, enterSafe_command s hr, fun w => calTableWrite_completes s w hr⟩,
    enterSafe_fault s, fun hst => ⟨selftestComplete_completes s hst, calibrateComplete_completes s hst⟩,
    fun hst => ⟨fwStage_completes s hst, discard_completes s hst⟩,
    fun v => ⟨fieldDefectsClear_completes s v, countersClear_completes s v⟩⟩

end Sys2Proof.Machine

/-! PROOF. Clock events (R343–R353), switching an island for heat (R372) and QUENCH (R355–R361): what each command leaves when its
condition holds. -/

namespace Sys2Proof.Machine

open Sys2Proof

theorem answer_of_ite {p : Prop} [Decidable p] {a b : State} {x : Answer} (ha : a.answer = x) (hb : b.answer = x) :
    (if p then a else b).answer = x := by
  split <;> assumption

section

variable (s : State)

/-! ### References -/

theorem referenceLoss_crystal (hc : s.clk.crystalOk = true) :
    ∃ s', exec (.referenceLoss none) s = .next s' ∧ s'.answer = .done ∧ s'.clk.crystalOk = false := by
  refine ⟨_, congrArg Host.Outcome.next (if_neg fun h => ?_), rfl, ?_⟩
  · have hsame := congrArg Clk.crystalOk h
    simp [hc] at hsame
  · rw [State.ok_clk, State.event_clk]
    simp

theorem referenceLoss_pll (h : Hub) (hpll : s.clk.pll0 = true ∧ h = 0 ∨ s.clk.pll1 = true ∧ h = 1) :
    ∃ s', exec (.referenceLoss (some h)) s = .next s' ∧ s'.answer = .done ∧ (h = 0 → s'.clk.pll0 = false) ∧
      (h = 1 → s'.clk.pll1 = false) := by
  refine ⟨_, congrArg Host.Outcome.next (if_neg fun heq => ?_), rfl, ?_, ?_⟩
  · rcases hpll with ⟨hp, rfl⟩ | ⟨hp, rfl⟩
    · have hsame := congrArg Clk.pll0 heq
      simp [hp] at hsame
    · have hsame := congrArg Clk.pll1 heq
      simp [hp] at hsame
  · rintro rfl
    rw [State.ok_clk, State.event_clk]
    simp
  · rintro rfl
    rw [State.ok_clk, State.event_clk]
    simp

theorem referenceLoss_completes (hub : Option Hub)
    (_ : s.clk.crystalOk = true ∨ s.clk.pll0 = true ∧ hub = some 0 ∨ s.clk.pll1 = true ∧ hub = some 1)
    (hrunning : hub = none ∨ s.clk.pll0 = true ∧ hub = some 0 ∨ s.clk.pll1 = true ∧ hub = some 1) :
    ∃ s', exec (.referenceLoss hub) s = .next s' ∧
      (hub = none → s.clk.crystalOk = true → s'.answer = .done ∧ s'.clk.crystalOk = false) ∧
      (∀ h, hub = some h → s'.answer = .done ∧ (h = 0 → s'.clk.pll0 = false) ∧ (h = 1 → s'.clk.pll1 = false)) := by
  cases hub with
  | none =>
    by_cases hc : s.clk.crystalOk = true
    · obtain ⟨s', hexec, hdone⟩ := referenceLoss_crystal s hc
      exact ⟨s', hexec, fun _ _ => hdone, fun _ hh => nomatch hh⟩
    · exact ⟨_, rfl, fun _ h => absurd h hc, fun _ hh => nomatch hh⟩
  | some h =>
    obtain ⟨s', hexec, hdone⟩ := referenceLoss_pll s h (by simpa using hrunning)
    exact ⟨s', hexec, fun hh => (nomatch hh), fun x hx => Option.some.inj hx ▸ hdone⟩

theorem referenceReturn_completes (hbus : s.pwr.busOn = true) (href : s.clk.refState ≠ 0) :
    ∃ s', exec .referenceReturn s = .next s' ∧ s'.answer = .done ∧ s'.clk.refState = 0 ∧ s'.clk.crystalOk = true ∧
      s'.clk.pll0 = true ∧ s'.clk.pll1 = true := by
  have hexec : exec .referenceReturn s =
      .next { s with clk := { s.clk with crystalOk := true, pll0 := true, pll1 := true, refState := 0 } }.ok := by
    rw [exec, execReferenceReturn, if_pos hbus]
    exact congrArg Host.Outcome.next (if_neg fun h => href (congrArg Clk.refState h).symm)
  exact ⟨_, hexec, rfl, rfl, rfl, rfl, rfl⟩

/-! ### Islands -/

@[simp] theorem State.island_countClock (i : Island) (off k : Nat) : (s.countClock i off).island k = s.island k := by
  unfold State.countClock
  split
  · exact State.island_of_count ..
  · rfl

theorem islandDecouple_completes (i : Island) (hup : s.islandUp i = true)
    (hlock : (s.island (islandKey i)).outOfLock s.now = false) :
    ∃ s', exec (.islandDecouple i) s = .next s' ∧ s'.answer = .done ∧ (s'.island (islandKey i)).locked = false ∧
      (s'.island (islandKey i)).since = s.now := by
  refine ⟨_, congrArg Host.Outcome.next (if_pos ⟨hup, by rw [hlock]; rfl⟩), rfl, ?_⟩
  rw [State.island_of_ok, State.island_countClock, State.island_modIsland, if_pos rfl]
  exact ⟨rfl, rfl⟩

theorem relockTimeout_completes (i : Island) (hup : s.islandUp i = true) (hlock : (s.island (islandKey i)).locked = false) :
    ∃ s', exec (.relockTimeout i) s = .next s' ∧ s'.answer = .done :=
  ⟨_, congrArg Host.Outcome.next (if_pos ⟨hup, by rw [hlock]; rfl⟩), rfl⟩

theorem island_lowerMargin (i : Island) (k : Nat) : (s.lowerMargin i).island k = s.island k := by
  unfold State.lowerMargin
  split
  · rw [State.island_event, State.island_of_count, State.island_of_modDieClk]
  · rfl

theorem last_warnMargin (i : Island) (k : Nat) : ((s.warnMargin i).island k).last = (s.island k).last := by
  unfold State.warnMargin
  extract_lets x quiet
  split
  · rfl
  · rw [State.island_event, State.island_countClock, State.island_modIsland]
    split
    next h => rw [h]
    next => rfl

theorem replicaWindow_completes (i : Island) (minimum : Nat) (hup : s.islandUp i = true) :
    ∃ s', exec (.replicaWindow i minimum) s = .next s' ∧ s'.answer = .done ∧
      (s'.island (islandKey i)).last = BitVec.ofNat 8 (min minimum 0xFE) := by
  rw [exec]
  unfold execReplicaWindow
  extract_lets k cal x m acts t1 t2
  refine ⟨_, congrArg Host.Outcome.next (if_neg (by rw [hup]; decide)), rfl, ?_⟩
  have h1 : (t1.island k).last = m := by rw [State.island_modIsland, if_pos rfl]
  have h2 : (t2.island k).last = m := by
    unfold t2
    split
    · rw [last_warnMargin, h1]
    · exact h1
  rw [State.island_of_ok]
  split
  · rw [island_lowerMargin]
    exact h2
  · exact h2

theorem replicaFailure_completes (i : Island) (hup : s.islandUp i = true) :
    ∃ s', exec (.replicaFailure i) s = .next s' ∧ s'.answer = .done := by
  rw [exec, execReplicaFailure]
  refine ⟨_, congrArg Host.Outcome.next (if_neg (by rw [hup]; decide)), ?_⟩
  exact answer_of_ite rfl rfl

/-! ### Frequency steps -/

theorem stepChange_completes (d : Die) (hready : s.stepReady d.val = true) (ns : Nat) (hns : ns ≤ 20000)
    (hstep : (s.dieClk d.val).step ≠ s.targetStep d.val) :
    ∃ s', exec (.stepChange d ns) s = .next s' ∧ s'.answer = .done ∧
      (s'.dieClk d.val).step = stepToward4 (s.dieClk d.val).step (s.targetStep d.val) := by
  refine ⟨_, exec_stepChange s d ns hready hstep hns, rfl, ?_⟩
  rw [State.dieClk_of_ok, dieClk_changeStep, if_pos rfl]

theorem stepChangeTimeout_completes (d : Die) (hready : s.stepReady d.val = true) (returned : Bool)
    (hstep : (s.dieClk d.val).step ≠ s.targetStep d.val) :
    ∃ s', exec (.stepChangeTimeout d returned) s = .next s' ∧ s'.answer = .done ∧
      (returned = true → (s'.dieClk d.val).step = (s.dieClk d.val).step) := by
  refine ⟨_, congrArg Host.Outcome.next (if_pos ⟨hready, hstep⟩), rfl, ?_⟩
  rintro rfl
  rw [State.dieClk_of_ok, if_pos rfl, State.dieClk_fault]

theorem stretchRateWindow_completes (d : Die) (hready : s.stepReady d.val = true) (stretches cycles : Nat)
    (hrate : s.obj 0x3100 0x03 * cycles < 1000 * stretches) :
    ∃ s', exec (.stretchRateWindow d stretches cycles) s = .next s' ∧ s'.answer = .done ∧
      (s'.dieClk d.val).stretch = lowerFor10s s.now (s.dieClk d.val).step (s.dieClk d.val).stretch := by
  refine ⟨_, congrArg Host.Outcome.next (if_pos ⟨hready, hrate⟩), rfl, ?_⟩
  rw [State.dieClk_of_ok, State.dieClk_event, State.dieClk_of_count, State.dieClk_modDieClk, if_pos rfl]

theorem lockstepFallback_completes (d : Die) (hready : s.stepReady d.val = true) (skewPs ns : Nat)
    (hlock : s.lockstep d.val = true) (hskew : 8 < skewPs) (hns : 1000000 < ns) :
    ∃ s', exec (.lockstepFallback d skewPs ns) s = .next s' ∧ s'.answer = .done ∧ s'.lockstep d.val = false := by
  refine ⟨_, congrArg Host.Outcome.next (if_pos ⟨hready, hlock, hskew, hns⟩), rfl, ?_⟩
  rw [State.lockstep, State.dieClk_of_ok, State.dieClk_event, State.dieClk_of_count, State.dieClk_modDieClk, if_pos rfl]
  exact Bool.and_false _

theorem ceilingExpiry_margin (d : Die) (p : Nat × Nat) (l : List (Nat × Nat)) (h : (s.dieClk d.val).margin = p :: l) :
    ∃ s', exec (.ceilingExpiry d true) s = .next s' ∧ s'.answer = .done ∧ (s'.dieClk d.val).margin = l ∧ p.1 ≤ s'.now := by
  rw [exec, execCeilingExpiry, if_pos rfl, h]
  refine ⟨_, rfl, rfl, ?_, Nat.le_max_right _ _⟩
  rw [State.dieClk_of_ok, State.dieClk_modDieClk, if_pos rfl, if_pos rfl]

theorem ceilingExpiry_stretch (d : Die) (p : Nat × Nat) (l : List (Nat × Nat)) (h : (s.dieClk d.val).stretch = p :: l) :
    ∃ s', exec (.ceilingExpiry d false) s = .next s' ∧ s'.answer = .done ∧ (s'.dieClk d.val).stretch = l ∧ p.1 ≤ s'.now := by
  rw [exec, execCeilingExpiry, if_neg Bool.false_ne_true, h]
  refine ⟨_, rfl, rfl, ?_, Nat.le_max_right _ _⟩
  rw [State.dieClk_of_ok, State.dieClk_modDieClk, if_pos rfl, if_neg Bool.false_ne_true]

theorem droopStretch_completes (d : Die) (i : Fin 21) (sag : Nat) (hup : s.islandUp (.die d ⟨i.val, by omega⟩) = true)
    (hsag : s.cal 5 (3 * d.val) < sag ∨ s.cal 5 (3 * d.val + 1) < sag ∨ s.cal 5 (3 * d.val + 2) < sag) :
    ∃ s', exec (.droopStretch d i sag) s = .next s' ∧ s'.answer = .done := by
  rw [exec]
  unfold execDroopStretch
  extract_lets past up t
  refine ⟨_, congrArg Host.Outcome.next (if_neg (by rw [show up = true from hup]; decide)), ?_⟩
  by_cases h2 : past 2 = true
  · rw [if_pos h2]
    rfl
  by_cases h1 : past 1 = true
  · rw [if_neg h2, if_pos h1]
    rfl
  have h0 : past 0 = true := by
    rcases hsag with h | h | h
    · exact decide_eq_true h
    · exact absurd (decide_eq_true h) h1
    · exact absurd (decide_eq_true h) h2
  rw [if_neg h2, if_neg h1, if_pos h0]
  rfl

end

/-- Settles O13: event by event. -/
theorem clockCommandsComplete : Obligations.ClockCommandsComplete := by
  intro s
  exact ⟨referenceLoss_completes s, referenceReturn_completes s,
    fun i hup => ⟨islandDecouple_completes s i hup, relockTimeout_completes s i hup,
      fun m => replicaWindow_completes s i m hup, replicaFailure_completes s i hup⟩,
    fun d hready => ⟨stepChange_completes s d hready, stepChangeTimeout_completes s d hready,
      stretchRateWindow_completes s d hready, lockstepFallback_completes s d hready⟩,
    fun d p l => ⟨ceilingExpiry_margin s d p l, ceilingExpiry_stretch s d p l⟩, droopStretch_completes s⟩

section

variable {L : List Part} {s t : State}

theorem Kept.island_eq (k : Kept L s t) (h : Part.clocks ∉ L) (j : Nat) : t.island j = s.island j := by
  have hc : t.clk = s.clk := k.same _ h
  rw [State.island, State.island, hc]

theorem Kept.domOn_eq (k : Kept L s t) (h : Part.power ∉ L) (j : Nat) : t.domOn j = s.domOn j := by
  have hp : t.pwr = s.pwr := k.same _ h
  rw [State.domOn, State.domOn, hp]

end

section

variable (s : State)

/-! ### Switching an island for heat -/

theorem domOn_setDom_same (k : Nat) (on : Bool) : (s.setDom k on).domOn k = on := by
  unfold State.domOn State.setDom
  dsimp only
  split
  next h => rw [h]; simp
  next h =>
    rw [List.contains_iff_mem.2 (mem_insertNew_self k _)]
    revert h
    cases s.pwr.allOn <;> cases on <;> decide

theorem heatSwitchOff_completes (d : Die) (i : Fin 21) (hup : s.islandUp (.die d ⟨i.val, by omega⟩) = true)
    (hhot : (s.spot (dieSpot d.val i.val)).stage = 3) :
    ∃ s', exec (.heatSwitchOff d i) s = .next s' ∧ s'.answer = .done ∧ (s'.island (d.val * 37 + i.val)).st = 1 ∧
      s'.domOn (islandDom d i) = false := by
  refine ⟨_, if_pos ⟨hup, hhot⟩, rfl, ?_, ?_⟩
  · rw [State.island_of_ok, (Kept.suspend Kept.refl (List.Subset.refl _) _ _).island_eq (by decide), State.island_of_count,
      State.island_of_setDom, State.island_modIsland, if_pos rfl]
  · rw [show ∀ u : State, u.ok.domOn (islandDom d i) = u.domOn (islandDom d i) from fun _ => rfl,
      (Kept.suspend Kept.refl (List.Subset.refl _) _ _).domOn_eq (by decide)]
    exact domOn_setDom_same _ _ _

/-- What the banks of an island that is on again write. -/
def reopenReach : List Part := reporting [.tiles, .engines, .stacks, .recovery]

theorem heatSwitchOn_completes (d : Die) (i : Fin 21) (hoff : (s.island (d.val * 37 + i.val)).st = 1)
    (hdom : s.domOn (islandDom d i) = true) :
    ∃ s', exec (.heatSwitchOn d i) s = .next s' ∧ s'.answer = .done ∧ (s'.island (d.val * 37 + i.val)).st = 0 ∧
      (s'.island (d.val * 37 + i.val)).locked = true := by
  refine ⟨_, if_pos ⟨hoff, hdom⟩, rfl, ?_⟩
  have hreopen : ∀ u b, Kept reopenReach u (if u.bankSt b = .closed .retain then
      (((u.setBank b .open).presentHeld b).takeNotify b).1.foldl (fun (s : State) n => s.ctrl (bankNode b) 0x04 0xFE n.toNat)
        (((u.setBank b .open).presentHeld b).takeNotify b).2 else u) := fun u b =>
    Kept.ite ((((Kept.refl.setBank (by decide) _ _).presentHeld (by decide) _).takeNotify (by decide) _).foldl
      fun v n kv => kv.ctrl (by decide) _ _ _ _) Kept.refl
  have hend := Kept.foldl (l := islandBanks d i) ((Kept.refl (s := s.modIsland (d.val * 37 + i.val) fun x =>
    { x with st := 0, locked := true })).unsuspend (by decide) (d.val * 37 + i.val) (d.val * 37 + i.val + 1))
    fun u b ku => ku.trans (hreopen u b)
  rw [State.island_of_ok, hend.island_eq (by decide), State.island_modIsland, if_pos rfl]
  exact ⟨rfl, rfl⟩

/-! ### QUENCH -/

theorem takeQuench_trigger {s : State} (h : s.quenchable = true) (trigger : Nat) (code : W16) :
    (s.takeQuench trigger code).clk.trigger = trigger := by
  obtain ⟨hoff, hquenched⟩ := (quenchable_iff s).1 h
  unfold State.takeQuench
  split
  · exact absurd ‹_› hoff
  · exact absurd ‹_› hquenched
  · dsimp only
    rw [State.event_clk, State.enter_clk]
    exact congrArg Clk.trigger ((told_endHost _ 1 _ _).clk.trans (told_endHost _ 0 _ _).clk)

theorem quenchN_completes (ns : Nat) (hns : 200 ≤ ns) (harmed : s.pins.quenchArmed = true) (hq : s.quenchable = true) :
    ∃ s', exec (.quenchN ns) s = .next s' ∧ s'.answer = .done ∧ s'.st = .quenched ∧ s'.clk.trigger = 0 ∧
      s'.pins.quenchArmed = false :=
  let low : State := { s with pins := { s.pins with quenchLow := true } }
  ⟨_, exec_quenchN_taken hns harmed hq, rfl, (takeQuench_enters (s := low) hq 0 0).1, takeQuench_trigger (s := low) hq 0 0, rfl⟩

theorem quenchNHigh_completes (ns : Nat) :
    ∃ s', exec (.quenchNHigh ns) s = .next s' ∧ s'.answer = .done ∧ s'.pins.quenchLow = false ∧
      (200 ≤ ns → s'.pins.quenchArmed = true) := by
  refine ⟨_, rfl, rfl, rfl, fun h => ?_⟩
  show (s.pins.quenchArmed || decide (200 ≤ ns)) = true
  rw [decide_eq_true h, Bool.or_true]

theorem quenchCmd_completes (v : Bool) (hq : s.quenchable = true) :
    ∃ s', exec (.quenchCmd v) s = .next s' ∧ s'.answer = .fjoco .ok [] ∧
      (v = true → s'.st = .quenched ∧ s'.clk.trigger = 1) ∧ (v = false → s'.st = s.st) := by
  have hexec : exec (.quenchCmd v) s = .next ((if v && s.quenchable then s.takeQuench 1 0 else s).fstatus .ok) := rfl
  rw [hq, Bool.and_true] at hexec
  cases v with
  | true => exact ⟨_, hexec, rfl, fun _ => ⟨(takeQuench_enters hq 1 0).1, takeQuench_trigger hq 1 0⟩, fun h => nomatch h⟩
  | false => exact ⟨_, hexec, rfl, fun h => (nomatch h), fun _ => rfl⟩

theorem readoutComplete_completes (failed : Bool) (hst : s.st = .quenched) (hq : s.clk.quench = 1) :
    ∃ s', exec (.readoutComplete failed) s = .next s' ∧ s'.answer = .done ∧
      s'.clk.quench = (if failed then 6 else if s.clk.dumpAsked then 4 else 3) ∧
      (failed = false → s'.clk.newest = BitVec.ofNat 8 s.imageSlot) := by
  rw [exec, execReadoutComplete, if_pos ⟨hst, hq⟩]
  cases failed with
  | true =>
    refine ⟨_, rfl, rfl, ?_, fun h => nomatch h⟩
    rw [State.ok_clk, State.fault_clk]
    rfl
  | false => exact ⟨_, rfl, rfl, rfl, fun _ => rfl⟩

theorem quenchSramDump_completes (v : Bool) :
    ∃ s', exec (.quenchSramDump v) s = .next s' ∧ s'.answer = .fjoco .ok [] ∧ s'.obj 0xA000 0x02 = (if v then 1 else 0) ∧
      (v = true → s.st = .quenched → s.clk.quench = 3 → s'.clk.quench = 4) := by
  by_cases h : v = true ∧ s.st = .quenched ∧ s.clk.quench = 3
  · exact ⟨_, congrArg (fun u : State => Host.Outcome.next (u.fstatus .ok)) (if_pos h), rfl, s.obj_setObj _ _ _,
      fun _ _ _ => rfl⟩
  · exact ⟨_, congrArg (fun u : State => Host.Outcome.next (u.fstatus .ok)) (if_neg h), rfl, s.obj_setObj _ _ _,
      fun hv hst hq => absurd ⟨hv, hst, hq⟩ h⟩

theorem sramDumpComplete_completes (failed : Bool) (hst : s.st = .quenched) (hq : s.clk.quench = 4) :
    ∃ s', exec (.sramDumpComplete failed) s = .next s' ∧ s'.answer = .done ∧ s'.clk.quench = (if failed then 6 else 5) := by
  rw [exec, execSramDumpComplete, if_pos ⟨hst, hq⟩]
  cases failed with
  | true =>
    refine ⟨_, rfl, rfl, ?_⟩
    rw [State.ok_clk, State.fault_clk]
    rfl
  | false => exact ⟨_, rfl, rfl, rfl⟩

theorem obsidianImage_noKey (slot : Fin 2) (hkey : s.sec.imageKey.isEmpty = true) :
    ∃ s', exec (.obsidianImage slot) s = .next s' ∧ s'.answer = .fjoco .state [] := by
  rw [exec, execObsidianImage, State.readSlot, if_pos hkey]
  exact ⟨_, rfl, rfl⟩

theorem obsidianImage_stored (slot : Fin 2) (hkey : s.sec.imageKey.isEmpty = false) (h : Bytes)
    (hslot : s.slotHeader slot.val = some h) :
    ∃ s' b, exec (.obsidianImage slot) s = .next s' ∧ s'.answer = .fjoco .ok (h ++ b) := by
  rw [exec, execObsidianImage, State.readSlot, if_neg (by rw [hkey]; decide), hslot]
  simp only [List.append_assoc]
  exact ⟨_, _, rfl, rfl⟩

theorem obsidianImage_empty (slot : Fin 2) (hkey : s.sec.imageKey.isEmpty = false) (hslot : s.slotHeader slot.val = none) :
    ∃ s', exec (.obsidianImage slot) s = .next s' ∧ s'.answer = .fjoco .ok [] := by
  rw [exec, execObsidianImage, State.readSlot, if_neg (by rw [hkey]; decide), hslot]
  exact ⟨_, rfl, rfl⟩

end

/-- Settles O14: command by command. -/
theorem heatSwitchAndQuenchCommandsComplete : Obligations.HeatSwitchAndQuenchCommandsComplete := by
  intro s
  exact ⟨heatSwitchOff_completes s, heatSwitchOn_completes s, quenchN_completes s, quenchNHigh_completes s,
    quenchCmd_completes s, readoutComplete_completes s, quenchSramDump_completes s, sramDumpComplete_completes s,
    fun slot => ⟨obsidianImage_noKey s slot, obsidianImage_stored s slot, obsidianImage_empty s slot⟩⟩

end Sys2Proof.Machine

/-! PROOF. Thermal stages, sensors, trips, coolant samples, forecasts and SIMMER (R382–R394): what each command leaves when its
reading or time is as the rule asks. -/

namespace Sys2Proof.Machine

open Sys2Proof

theorem Kept.thm_eq {L : List Part} {s t : State} (k : Kept L s t) (h : Part.thermal ∉ L) : t.thm = s.thm := k.same _ h

section

variable (s : State)

/-! ### Stages -/

theorem thermalStageEnter_completes (x : Spot) (a b : Int) (hst : s.st ≠ .off)
    (henter : enters ((s.readSpot x a b).spot (spotKey x)) (stageEnter x) ≠ []) :
    ∃ s', exec (.thermalStageEnter x a b) s = .next s' ∧ s'.answer = .done :=
  ⟨_, congrArg Host.Outcome.next (if_neg fun h => h.elim (fun h => henter (List.isEmpty_iff.1 h)) hst), rfl⟩

theorem thermalStageLower_completes (d : Die)
    (hhot : (s.hotAt d.val 1).any (fun k => (s.spot k).atLeast (if k < 3276 then 95 else 90)) = true)
    (hlast : tget 0 s.thm.lowered d.val ≠ 0) :
    ∃ s', exec (.thermalStageLower d) s = .next s' ∧ s'.answer = .done ∧
      (s'.dieClk d.val).thermalCeil = max 8 ((s.dieClk d.val).thermalCeil - 1) ∧
      tget 0 s.thm.lowered d.val - 1 + 5000000 ≤ s'.now := by
  refine ⟨_, congrArg Host.Outcome.next (if_pos ⟨hhot, hlast⟩), rfl, ?_, Nat.le_max_right _ _⟩
  exact congrArg DieClk.thermalCeil ((State.dieClk_modDieClk _ _ _ _).trans (if_pos rfl))

/-- The stage that a hot spot takes with a sensor left and T below its leave temperature for the time that counts. -/
theorem stage_left {y : SpotS} {l : List Int} {long : Bool} (hlong : long = true) (hex : (y.exA && y.exB) = false) :
    (if (y.exA && y.exB) = true then y.stage else keeps y l long) = keeps y l true := by
  rw [hlong, hex]
  rfl

theorem leaves_stage {y : SpotS} {l : List Int} {long : Bool} {ms : Nat} (hms : 100 ≤ ms) (hlong : long = true)
    (hex : (y.exA && y.exB) = false) (hkeeps : keeps y l true < y.stage) :
    ¬(ms < 100 ∨ y.stage ≤ if (y.exA && y.exB) = true then y.stage else keeps y l long) := by
  rw [stage_left hlong hex]
  omega

theorem thermalStageExit_stack (k : Stk) (a b : Int) (ms : Nat) (hms : 1000 ≤ ms) :
    let t := s.readSpot (.stack k) a b
    let y := t.spot (spotKey (.stack k))
    (y.exA && y.exB) = false → keeps y (stageLeave (.stack k)) true < y.stage →
    ∃ s', exec (.thermalStageExit (.stack k) a b ms) s = .next s' ∧ s'.answer = .done ∧
      (s'.spot (spotKey (.stack k))).stage = keeps y (stageLeave (.stack k)) true := by
  intro t y hex hkeeps
  have hlong : decide (1000 ≤ ms) = true := decide_eq_true hms
  refine ⟨_, if_neg (leaves_stage (by omega) hlong hex hkeeps), rfl, ?_⟩
  rw [← stage_left hlong hex]
  exact congrArg SpotS.stage (tget_tset_same _ _ _ _)

theorem thermalStageExit_other (x : Spot) (a b : Int) (ms : Nat) (hx : ∀ k, x ≠ .stack k) (hms : 100 ≤ ms) :
    let t := s.readSpot x a b
    let y := t.spot (spotKey x)
    (y.exA && y.exB) = false → keeps y (stageLeave x) true < y.stage →
    ∃ s', exec (.thermalStageExit x a b ms) s = .next s' ∧ s'.answer = .done := by
  intro t y hex hkeeps
  refine ⟨_, if_neg (leaves_stage hms ?_ hex hkeeps), rfl⟩
  cases x with
  | stack k => exact absurd rfl (hx k)
  | tile d q => rfl
  | commons d => rfl
  | hub h => rfl
  | vent v => rfl

theorem thermalCeilingRaise_completes (d : Die) (hcool : s.hotAt d.val 1 = []) (hceil : (s.dieClk d.val).thermalCeil < 30) :
    ∃ s', exec (.thermalCeilingRaise d) s = .next s' ∧ s'.answer = .done ∧
      (s'.dieClk d.val).thermalCeil = (s.dieClk d.val).thermalCeil + 1 := by
  refine ⟨_, congrArg Host.Outcome.next (if_pos ⟨List.isEmpty_iff.2 hcool, hceil⟩), rfl, ?_⟩
  exact congrArg DieClk.thermalCeil ((State.dieClk_modDieClk _ _ _ _).trans (if_pos rfl))

/-! ### Sensors -/

theorem spot_of_event (code : W16) (c : Option CtxId) (l : Loc) (n k : Nat) : (s.event code c l n).spot k = s.spot k := by
  rw [State.spot, State.spot, State.event_thm]

theorem spot_of_countSpot (x : Spot) (off k : Nat) : (s.countSpot x off).spot k = s.spot k := by
  unfold State.countSpot
  split <;> rfl

theorem sensorDisagreement_completes (x : Spot) (a b : Int) (ms : Nat) (hhot : (s.spot (spotKey x)).hotter = false)
    (hA : (s.spot (spotKey x)).exA = false) (hB : (s.spot (spotKey x)).exB = false) (hab : 500 < (a - b).natAbs)
    (hms : 10 < ms) :
    ∃ s', exec (.sensorDisagreement x a b ms) s = .next s' ∧ s'.answer = .done ∧ (s'.spot (spotKey x)).hotter = true := by
  refine ⟨_, congrArg Host.Outcome.next (if_pos (by simp [hhot, hA, hB, hab, hms])), rfl, ?_⟩
  rw [State.spot_of_ok, spot_of_countSpot, spot_of_event, State.spot_modSpot, if_pos rfl]

theorem sensorsAgree_completes (x : Spot) (a b : Int) (ms : Nat) (hhot : (s.spot (spotKey x)).hotter = true)
    (hab : (a - b).natAbs ≤ 500) (hms : 1000 ≤ ms) :
    ∃ s', exec (.sensorsAgree x a b ms) s = .next s' ∧ s'.answer = .done ∧ (s'.spot (spotKey x)).hotter = false := by
  refine ⟨_, congrArg Host.Outcome.next (if_pos ⟨hhot, hab, hms⟩), rfl, ?_⟩
  rw [State.spot_of_ok, State.spot_modSpot, if_pos rfl]

theorem sensorExclusion_completes (x : Spot) (which : Fin 2) (reading : Int)
    (hex : (if which = 0 then (s.spot (spotKey x)).exA else (s.spot (spotKey x)).exB) = false)
    (hout : reading < -2000 ∨ 15000 < reading) :
    ∃ s', exec (.sensorExclusion x which reading) s = .next s' ∧ s'.answer = .done := by
  have hrange : (decide (-2000 ≤ reading) && decide (reading ≤ 15000)) = false := by
    rw [Bool.and_eq_false_iff, decide_eq_false_iff_not, decide_eq_false_iff_not]
    omega
  exact ⟨_, if_neg (by rw [hex, hrange]; decide), rfl⟩

/-! ### Trips -/

theorem lastTrip_enterSafe (cause : Option W16) : (s.enterSafe cause).thm.lastTrip = s.thm.lastTrip := by
  have hstop : Kept (reporting [.contexts, .starts, .recovery]) s
      (allCtx.foldl (fun u c => u.stopUnits c) s.dropStart.dropScans.stopRecoveries) :=
    (((Kept.refl.dropStart (by decide)).dropScans (by decide)).stopRecoveries (by decide)).foldl
      fun u c ku => ku.stopUnits (by decide) c
  unfold State.enterSafe
  split
  case h_5 => rfl
  all_goals
    split
    · rw [(Kept.refl.takeQuench (List.Subset.refl _) 2 (cause.getD 0)).thm_eq (by decide)]
    · rw [State.enter_thm]
      dsimp only
      rw [hstop.thm_eq (by decide)]

theorem lastTrip_noteTrip (l : Loc) : (s.noteTrip l).thm.lastTrip = some s.now := by
  unfold State.noteTrip
  extract_lets again s1
  split
  · rw [State.safeFault, lastTrip_enterSafe, State.fault_thm]
  · rfl

theorem thermalTrip_completes (x : Spot) (which : Fin 2) (r1 r2 r3 : Int) (hst : s.st ≠ .off)
    (htrip : (s.spot (spotKey x)).tripped = false)
    (hex : (if which = 0 then (s.spot (spotKey x)).exA else (s.spot (spotKey x)).exB) = false)
    (h1 : tripLimit x ≤ r1) (h2 : tripLimit x ≤ r2) (h3 : tripLimit x ≤ r3) :
    ∃ s', exec (.thermalTrip x which r1 r2 r3) s = .next s' ∧ s'.answer = .done ∧ s'.thm.lastTrip.isSome = true := by
  refine ⟨_, if_neg ?_, rfl, ?_⟩
  · rintro (h | h | h | h | h | h)
    · exact hst h
    · exact Bool.false_ne_true (htrip.symm.trans h)
    · exact Bool.false_ne_true (hex.symm.trans h)
    all_goals omega
  · rw [State.ok_thm, lastTrip_noteTrip]
    rfl

/-! ### Coolant -/

/-- What a change of the flow does not write: all but θ and the flow that it was taken at. -/
theorem flowChanged_thm {A : Type} (g : Thm → A) (hg : ∀ x a b, g { x with theta := a, thetaFlow := b } = g x) :
    g s.flowChanged.thm = g s.thm := by
  unfold State.flowChanged
  dsimp only
  split
  · rfl
  · exact hg _ _ _

theorem coolantSample_rejected (which : Fin 3) (v : W32)
    (hv : (fle (coolantRange which.val).1 v && fle v (coolantRange which.val).2) = false) :
    ∃ s', exec (.coolantSample which v) s = .next s' ∧ s'.answer = .fjoco .ok [] ∧
      s'.thm.rejected = min (s.thm.rejected + 1) 0xFFFFFFFF ∧ s'.thm.samples = s.thm.samples := by
  exact ⟨_, congrArg Host.Outcome.next (if_pos (by rw [hv]; rfl)), rfl, rfl, rfl⟩

theorem coolantSample_accepted (which : Fin 3) (v : W32)
    (hv : (fle (coolantRange which.val).1 v && fle v (coolantRange which.val).2) = true) :
    ∃ s', exec (.coolantSample which v) s = .next s' ∧ s'.answer = .fjoco .ok [] ∧
      (tget [] s'.thm.samples which.val).head? = some v ∧ tget 0 s'.thm.accepted which.val = s.now := by
  have hno : ¬(!(fle (coolantRange which.val).1 v && fle v (coolantRange which.val).2)) = true := by rw [hv]; decide
  rw [exec, execCoolantSample]
  unfold State.coolantSample
  extract_lets r l _ s1 _ s2 s3
  rw [if_neg hno]
  have h3 : s3.thm = s2.thm := by
    unfold s3
    split
    · exact State.event_thm ..
    · rfl
  have hchanged : ∀ {A : Type} (g : Thm → A), (∀ x a b, g { x with theta := a, thetaFlow := b } = g x) →
      g (if which.val = 2 then s3.flowChanged else s3).thm = g s2.thm := by
    intro A g hg
    rw [← h3]
    split
    · exact flowChanged_thm s3 g hg
    · rfl
  refine ⟨_, rfl, rfl, ?_, ?_⟩
  · show (tget [] (if which.val = 2 then s3.flowChanged else s3).thm.samples which.val).head? = some v
    rw [hchanged Thm.samples fun _ _ _ => rfl]
    exact congrArg List.head? (tget_tset_same _ _ _ _)
  · show tget 0 (if which.val = 2 then s3.flowChanged else s3).thm.accepted which.val = s.now
    rw [hchanged Thm.accepted fun _ _ _ => rfl]
    exact tget_tset_same _ _ _ _

theorem coolantTimeout_completes (which : Fin 3) (hrun : s.thm.timeout.getLsbD which.val = false) :
    ∃ s', exec (.coolantTimeout which) s = .next s' ∧ s'.answer = .done ∧ s'.thm.timeout.getLsbD which.val = true ∧
      tget 0 s.thm.accepted which.val + 500000000 ≤ s'.now := by
  have hbit : (BitVec.ofNat 3 (2 ^ which.val)).getLsbD which.val = true := by
    clear hrun
    revert which
    decide
  rw [exec]
  unfold execCoolantTimeout
  extract_lets k s1 _ s2 s3
  rw [if_neg (by rw [hrun]; exact Bool.false_ne_true)]
  refine ⟨_, rfl, rfl, ?_, ?_⟩
  · show (if k = 2 then s3.flowChanged else s3).thm.timeout.getLsbD which.val = true
    have h3 : (if k = 2 then s3.flowChanged else s3).thm.timeout = s3.thm.timeout := by
      split
      · exact flowChanged_thm s3 Thm.timeout fun _ _ _ => rfl
      · rfl
    rw [h3, State.event_thm]
    show (s.thm.timeout ||| BitVec.ofNat 3 (2 ^ which.val)).getLsbD which.val = true
    rw [BitVec.getLsbD_or, hbit, Bool.or_true]
  · show _ ≤ (if k = 2 then s3.flowChanged else s3).now
    have h3 : (if k = 2 then s3.flowChanged else s3).now = s3.now := by
      split
      · exact (Kept.refl.flowChanged (List.Subset.refl _)).same .time (by decide)
      · rfl
    rw [h3, State.event_now]
    exact Nat.le_max_right _ _

theorem outletBelowInlet_completes (ms : Nat) (hms : 10000 ≤ ms) (hrun : s.thm.timeout.getLsbD 1 = false)
    (hlow : ratF32 (s.coolant 1) < ratF32 (s.coolant 0) - 1) :
    ∃ s', exec (.outletBelowInlet ms) s = .next s' ∧ s'.answer = .done :=
  ⟨_, congrArg Host.Outcome.next (if_pos ⟨hms, by rw [hrun]; rfl, hlow⟩), rfl⟩

theorem lowFlow_completes (ms : Nat) (hms : 1000 ≤ ms) (hlow : flt (s.coolant 2) 0x41A00000 = true) (hst : s.st ≠ .off) :
    ∃ s', exec (.lowFlow ms) s = .next s' ∧ s'.answer = .done :=
  ⟨_, congrArg Host.Outcome.next (if_pos ⟨hms, hlow, hst⟩), rfl⟩

theorem thetaUpdate_completes (hottest : Int) (w : Nat) (hw : 10000 ≤ w) (hrun : s.thm.timeout = 0) :
    ∃ s', exec (.thetaUpdate hottest w) s = .next s' ∧ s'.answer = .done :=
  ⟨_, congrArg Host.Outcome.next (if_pos ⟨hw, hrun⟩), rfl⟩

/-! ### Forecasts and SIMMER -/

theorem powerForecast_completes (p : List W32) (hlen : p.length = 8) (hp : ∀ w ∈ p, w.toNat ≤ 66000) :
    ∃ s', exec (.powerForecast p) s = .next s' ∧ s'.answer = .fjoco .ok [] ∧ s'.thm.forecast = p ∧ s'.thm.forecastAt = s.now :=
  ⟨_, congrArg Host.Outcome.next (if_pos ⟨hlen, List.all_eq_true.2 fun w hw => decide_eq_true (hp w hw)⟩), rfl, rfl, rfl⟩

theorem not_isEmpty_of_ne {A : Type} {l : List A} (h : l ≠ []) : (!l.isEmpty) = true := by
  cases l with
  | nil => exact absurd rfl h
  | cons a l => rfl

theorem forecastInterval_completes (hf : s.thm.forecast ≠ []) (i : Fin 8) (w : Nat)
    (hnow : s.now < s.thm.forecastAt + i.val * 250000000 + 250000000) :
    ∃ s', exec (.forecastInterval i w) s = .next s' ∧ s'.answer = .done ∧
      s'.thm.boostP = if w < (s.thm.forecast.getD i.val 0).toNat then
        some ((s.thm.forecast.getD i.val 0).toNat, s.thm.forecastAt + i.val * 250000000 + 250000000) else none :=
  ⟨_, congrArg Host.Outcome.next (if_pos ⟨not_isEmpty_of_ne hf, hnow⟩), rfl, rfl⟩

theorem forecastExpiry_completes (hf : s.thm.forecast ≠ []) :
    ∃ s', exec .forecastExpiry s = .next s' ∧ s'.answer = .done ∧ s'.thm.forecast = [] ∧ s'.thm.boostP = none :=
  ⟨_, congrArg Host.Outcome.next (if_pos (not_isEmpty_of_ne hf)), rfl, rfl, rfl⟩

theorem simmerCheck_completes (temps : List (Die × Int)) (ms : Nat) (hobj : s.obj 0x3220 0x02 = 1)
    (hst : s.st = .idle ∨ s.st = .run) : ∃ s', exec (.simmerCheck temps ms) s = .next s' ∧ s'.answer = .done := by
  refine ⟨_, if_neg ?_, rfl⟩
  rintro (h | h)
  · exact h hobj
  · rcases hst with hst | hst <;> rw [hst] at h <;> exact absurd h (by decide)

end

/-- Settles O22: command by command. -/
theorem thermalCommandsComplete : Obligations.ThermalCommandsComplete := by
  intro s
  exact ⟨thermalStageEnter_completes s, thermalStageLower_completes s, thermalStageExit_stack s, thermalStageExit_other s,
    thermalCeilingRaise_completes s,
    fun x a b ms => ⟨sensorDisagreement_completes s x a b ms, sensorsAgree_completes s x a b ms⟩,
    sensorExclusion_completes s, thermalTrip_completes s,
    fun which v => ⟨coolantSample_rejected s which v, coolantSample_accepted s which v⟩, coolantTimeout_completes s,
    outletBelowInlet_completes s, lowFlow_completes s, thetaUpdate_completes s, powerForecast_completes s,
    fun hf => ⟨forecastInterval_completes s hf, forecastExpiry_completes s hf⟩, simmerCheck_completes s⟩

end Sys2Proof.Machine

/-! PROOF. The power delivery (R368–R381): what each command leaves when the measurement and the supply are as its rule asks. -/

namespace Sys2Proof.Machine

open Sys2Proof

section

variable (s : State)

/-! ### Input and busbar -/

theorem inputFault_completes (hst : s.st ≠ .off) (mv us : Nat) (h : mv < 44000 ∧ 1000 ≤ us ∨ 60000 < mv ∧ 100 ≤ us) :
    ∃ s', exec (.inputFault mv us) s = .next s' ∧ s'.answer = .done ∧ s'.st = .off ∧ s'.pwr.busOn = false ∧
      s'.pins.pgood = false := ⟨_, if_pos ⟨hst, h⟩, rfl, rfl, rfl, rfl⟩

theorem inputMarginal_completes (hst : s.st ≠ .off) (mv : Nat) (h : 44000 ≤ mv ∧ mv < 48000 ∨ 58000 < mv ∧ mv ≤ 60000) :
    ∃ s', exec (.inputMarginal mv) s = .next s' ∧ s'.answer = .done ∧ s'.pwr.inputMv = mv ∧ s'.st = s.st := by
  refine ⟨_, congrArg Host.Outcome.next (if_pos ⟨hst, h⟩), rfl, ?_⟩
  rw [State.ok_pwr, State.ok_st]
  unfold State.eventPerMinute
  dsimp only
  split
  · exact ⟨rfl, rfl⟩
  · rw [State.event_pwr, State.event_st]
    exact ⟨rfl, rfl⟩

/-- The ceiling of every listed die is n after all of them have taken it. -/
theorem powerCeil_foldl (n : Nat) (l : List Nat) (t : State) {d : Nat} (h : d ∈ l ∨ (t.dieClk d).powerCeil = n) :
    ((l.foldl (fun (u : State) e => u.modDieClk e (fun x => { x with powerCeil := n })) t).dieClk d).powerCeil = n := by
  induction l generalizing t with
  | nil => exact h.resolve_left List.not_mem_nil
  | cons e l ih =>
    refine ih _ ?_
    rw [State.dieClk_modDieClk]
    by_cases hd : d = e
    · rw [if_pos hd]
      exact .inr rfl
    · rw [if_neg hd]
      exact h.imp_left fun h => (List.mem_cons.1 h).resolve_left hd

theorem inputOvercurrent_completes (hst : s.st ≠ .off) (da us : Nat) (hda : s.currentLimit < da) (hus : 100 ≤ us) :
    ∃ s', exec (.inputOvercurrent da us) s = .next s' ∧ s'.answer = .done ∧
      ∀ d ∈ s.inService, (s'.dieClk d).powerCeil = 8 := by
  refine ⟨_, congrArg Host.Outcome.next (if_pos ⟨hst, hda, hus⟩), rfl, fun d hd => ?_⟩
  rw [State.dieClk_of_ok, State.dieClk_event]
  exact powerCeil_foldl 8 s.inService s (.inl hd)

theorem inputFoldback_completes (hst : s.st ≠ .off) (da us : Nat) (hda : 13500 < da) (hus : 10 ≤ us) :
    ∃ s', exec (.inputFoldback da us) s = .next s' ∧ s'.answer = .done :=
  ⟨_, congrArg Host.Outcome.next (if_pos ⟨hst, hda, hus⟩), rfl⟩

theorem busbarImbalance_completes (p0 p1 ms : Nat) (hsum : 2000 ≤ p0 + p1)
    (h : p0 = 0 ∨ p1 = 0 ∨ 60 * (p0 + p1) < 100 * max p0 p1 ∧ 1000 ≤ ms) :
    ∃ s', exec (.busbarImbalance p0 p1 ms) s = .next s' ∧ s'.answer = .done ∧ s'.pwr.pair0 = p0 ∧ s'.pwr.pair1 = p1 := by
  have hraised : ((if p0 = 0 then some 0 else if p1 = 0 then some 1 else none : Option Nat).isSome ||
      (decide (60 * (p0 + p1) < 100 * max p0 p1) && decide (1000 ≤ ms))) = true := by
    rcases h with h | h | ⟨hmax, hms⟩
    · rw [if_pos h]
      rfl
    · rw [if_pos h]
      split <;> rfl
    · rw [decide_eq_true hmax, decide_eq_true hms]
      exact Bool.or_true _
  refine ⟨_, congrArg Host.Outcome.next ((if_neg (Nat.not_lt.2 hsum)).trans (if_pos hraised)), rfl, ?_⟩
  rw [State.ok_pwr, State.event_pwr]
  exact ⟨rfl, rfl⟩

/-! ### With the bus on -/

theorem converterFailure_completes (hbus : s.pwr.busOn = true) (g : Fin 14) (m : Fin 2)
    (hbit : s.pwr.convFailed.toNat.testBit (2 * g.val + m.val) = false) :
    ∃ s', exec (.converterFailure g m) s = .next s' ∧ s'.answer = .done := by
  rw [exec, execConverterFailure, if_neg (by rw [hbus, hbit]; decide)]
  exact exists_next_of_ite rfl rfl

theorem phaseFailure_completes (hbus : s.pwr.busOn = true) (d : Die) (p : Fin 14) (hfence : s.dieFenced d.val = false)
    (hbit : (s.phases d.val).toNat.testBit p.val = false) :
    ∃ s', exec (.phaseFailure d p) s = .next s' ∧ s'.answer = .done := by
  rw [exec, execPhaseFailure, if_neg (by rw [hbus, hfence, hbit]; decide)]
  exact ⟨_, rfl, rfl⟩

theorem powerTick_completes (hbus : s.pwr.busOn = true) (p : PowerIn) :
    ∃ s', exec (.powerTick p) s = .next s' ∧ s'.answer = .done := by
  rw [exec, execPowerTick, if_neg (by rw [hbus]; decide)]
  exact ⟨_, rfl, rfl⟩

/-! ### Switching on -/

theorem switchOnSlot_completes (groups : List Nat) (w : Nat) (h : s.pwr.waiting.any (fun w => !w.retry) = true) :
    ∃ s', exec (.switchOnSlot groups w) s = .next s' ∧ s'.answer = .done :=
  ⟨_, congrArg Host.Outcome.next (if_pos h), rfl⟩

theorem find?_of_any {A : Type} {l : List A} {p : A → Bool} (h : l.any p = true) : ∃ x, l.find? p = some x := by
  rw [← Option.isSome_iff_exists, List.find?_isSome]
  exact List.any_eq_true.1 h

theorem switchOnAbandon_completes (dom : Domain) (h : s.pwr.waiting.any (fun w => w.dom == dom && !w.retry) = true) :
    ∃ s', exec (.switchOnAbandon dom) s = .next s' ∧ s'.answer = .done := by
  obtain ⟨w, hw⟩ := find?_of_any h
  rw [exec, execSwitchOnAbandon]
  dsimp only
  rw [hw]
  exact ⟨_, rfl, rfl⟩

/-- A request that waits on meets q in the queue only if it does itself, or one that waited does. -/
theorem any_enqueueOn {w : Waiting} {l : List Waiting} {q : Waiting → Bool} (hw : q w = false) (hl : l.any q = false) :
    (enqueueOn w l).any q = false := by
  rw [List.any_eq_false] at hl ⊢
  intro x hx
  unfold enqueueOn at hx
  rw [List.mem_append, List.mem_cons] at hx
  rcases hx with hx | hx | hx
  · exact hl x (List.takeWhile_subset _ hx)
  · rw [hx, hw]
    exact Bool.false_ne_true
  · exact hl x (List.dropWhile_subset _ hx)

theorem switchOnRetry_completes (dom : Domain) (h : s.pwr.waiting.any (fun w => w.dom == dom && w.retry) = true)
    (hagain : (isHost dom || s.st == .idle || s.st == .run) = true) :
    ∃ s', exec (.switchOnRetry dom) s = .next s' ∧ s'.answer = .done ∧
      s'.pwr.waiting.any (fun w => w.dom == dom && w.retry) = false := by
  obtain ⟨w, hw⟩ := find?_of_any h
  rw [exec, execSwitchOnRetry]
  dsimp only
  rw [hw, hagain]
  refine ⟨_, rfl, rfl, any_enqueueOn (Bool.and_false _) ?_⟩
  rw [List.any_eq_false]
  intro x hx
  simpa only [Bool.not_eq_true', Bool.not_eq_true] using (List.mem_filter.1 hx).2

/-! ### Fuses, shunts and path resistances -/

theorem efuseOpen_stack (k : Stk) (amps ns : Nat) (hdom : s.domOn (fuseKey (.stack k)) = true)
    (h : 20 < amps ∧ 1000 ≤ ns ∨ 40 < amps ∧ 200 ≤ ns) :
    ∃ s', exec (.efuseOpen (.stack k) amps ns) s = .next s' ∧ s'.answer = .done :=
  ⟨_, congrArg Host.Outcome.next (if_pos ⟨hdom, h⟩), rfl⟩

theorem efuseOpen_vent (v : Vent) (amps ns : Nat) (hdom : s.domOn (fuseKey (.vent v)) = true)
    (h : 25 < amps ∧ 1000 ≤ ns ∨ 50 < amps ∧ 200 ≤ ns) :
    ∃ s', exec (.efuseOpen (.vent v) amps ns) s = .next s' ∧ s'.answer = .done :=
  ⟨_, congrArg Host.Outcome.next (if_pos ⟨hdom, h⟩), rfl⟩

theorem exec_shunt_of_high (d : Die) (hdom : s.domOn (312 + d.val) = true) (mv : Nat) (hmv : 25 ≤ mv) :
    exec (.shunt d mv) s = .next (s.count .power d.val 0x00 1).ok := congrArg Host.Outcome.next (if_pos ⟨hdom, hmv⟩)

theorem not_boost_refused {d : Die} {mv : Nat} (hdom : s.domOn (312 + d.val) = true) (hmv : 25 ≤ mv) :
    ¬((!s.domOn (312 + d.val)) = true ∨ mv < 25) := by
  rw [hdom]
  exact fun h => h.elim Bool.false_ne_true (Nat.not_lt.2 hmv)

theorem boost_charged (d : Die) (hdom : s.domOn (312 + d.val) = true) (mv : Nat) (hmv : 25 ≤ mv)
    (hcharged : tget 0 s.pwr.boostUntil d.val ≤ s.now) :
    ∃ s', exec (.boost d mv) s = .next s' ∧ s'.answer = .done ∧ tget 0 s'.pwr.boostUntil d.val = s.now + 20000 :=
  ⟨_, congrArg Host.Outcome.next ((if_neg (not_boost_refused s hdom hmv)).trans (if_pos hcharged)), rfl,
    tget_tset_same _ _ _ _⟩

theorem exec_boost_of_recharging (d : Die) (hdom : s.domOn (312 + d.val) = true) (mv : Nat) (hmv : 25 ≤ mv)
    (hrecharging : s.now < tget 0 s.pwr.boostUntil d.val) (hmore : 25 < mv) :
    exec (.boost d mv) s = .next (s.count .power d.val 0x08 1).ok :=
  congrArg Host.Outcome.next ((if_neg (not_boost_refused s hdom hmv)).trans
    ((if_neg (Nat.not_le.2 hrecharging)).trans (if_pos hmore)))

theorem resistanceUpdate_completes (d : Die) (hdom : s.domOn (312 + d.val) = true) (samples : List Nat)
    (hlen : 16 ≤ samples.length) : ∃ s', exec (.resistanceUpdate d samples) s = .next s' ∧ s'.answer = .done := by
  have hno : ¬(samples.length < 16 ∨ (!s.domOn (312 + d.val)) = true) := by
    rw [hdom]
    exact fun h => h.elim (Nat.not_lt.2 hlen) Bool.false_ne_true
  rw [exec, execResistanceUpdate, if_neg hno]
  exact ⟨_, rfl, rfl⟩

/-! ### Records -/

theorem currentLogRow_completes (da : Nat) (groups : List Nat)
    (h : s.st = .boot ∨ s.st = .selftest ∨ s.st = .safe ∨ s.st = .updating ∨ s.now < s.pwr.rowsUntil ∨ s.obj 0x3301 0x01 = 1) :
    ∃ s' row, exec (.currentLogRow da groups) s = .next s' ∧ s'.answer = .done ∧
      s'.pwr.rows = (row :: s.pwr.rows).take 131072 := by
  rw [exec]
  unfold execCurrentLogRow
  extract_lets writes row
  have hwrites : writes = true := by
    unfold writes
    split
    · rfl
    · rfl
    · rfl
    · rfl
    · simp_all
  exact ⟨_, row, congrArg Host.Outcome.next (if_pos hwrites), rfl, rfl⟩

theorem minVoltageClear_completes (v : Bool) :
    ∃ s', exec (.minVoltageClear v) s = .next s' ∧ s'.answer = .fjoco .ok [] ∧ (v = true → s'.pwr.minMv = []) ∧
      (v = false → s'.pwr = s.pwr) := by
  cases v with
  | true => exact ⟨_, rfl, rfl, fun _ => rfl, fun h => (nomatch h)⟩
  | false => exact ⟨_, rfl, rfl, fun h => (nomatch h), fun _ => rfl⟩

end

/-- Settles O23: command by command. -/
theorem powerCommandsComplete : Obligations.PowerCommandsComplete := by
  intro s
  exact ⟨fun hst => ⟨inputFault_completes s hst, inputMarginal_completes s hst, inputOvercurrent_completes s hst,
      inputFoldback_completes s hst⟩,
    busbarImbalance_completes s,
    fun hbus => ⟨converterFailure_completes s hbus, phaseFailure_completes s hbus, powerTick_completes s hbus⟩,
    switchOnSlot_completes s, fun dom => ⟨switchOnAbandon_completes s dom, switchOnRetry_completes s dom⟩,
    efuseOpen_stack s, efuseOpen_vent s,
    fun d hdom => ⟨fun mv hmv => ⟨exec_shunt_of_high s d hdom mv hmv, boost_charged s d hdom mv hmv,
      exec_boost_of_recharging s d hdom mv hmv⟩, resistanceUpdate_completes s d hdom⟩,
    currentLogRow_completes s, minVoltageClear_completes s⟩

end Sys2Proof.Machine

/-! PROOF. Host links, data port, mailboxes and movers (R444–R459): what each command leaves when the site and what waits there
are as its rule asks. -/

namespace Sys2Proof.Machine

open Sys2Proof

/-! ### What a report leaves of a site -/

/-- Every site keeps its link and its movers. -/
structure SitesRun (s t : State) : Prop where
  link : ∀ h, (t.site h).link = (s.site h).link
  movers : ∀ h, (t.site h).movers = (s.site h).movers

theorem SitesRun.trans {s t u : State} (a : SitesRun s t) (b : SitesRun t u) : SitesRun s u :=
  ⟨fun h => (b.link h).trans (a.link h), fun h => (b.movers h).trans (a.movers h)⟩

theorem SitesRun.of_hst {s t : State} (h : t.hst = s.hst) : SitesRun s t := by
  constructor <;> intro j <;> rw [State.site, State.site, h]

theorem SitesRun.refl (s : State) : SitesRun s s := .of_hst rfl

/-- What follows a step that writes no site. -/
theorem SitesRun.after {s t u : State} (b : SitesRun t u) (h : t.hst = s.hst) : SitesRun s u := (SitesRun.of_hst h).trans b

theorem SitesRun.foldl {A : Type} {f : State → A → State} (hf : ∀ t a, SitesRun t (f t a)) (l : List A) (s : State) :
    SitesRun s (l.foldl f s) := by
  induction l generalizing s with
  | nil => exact .refl s
  | cons a l ih => exact (hf s a).trans (ih _)

theorem sitesRun_modSite (s : State) (h : Nat) (f : Site → Site) (hlink : ∀ x, (f x).link = x.link)
    (hmovers : ∀ x, (f x).movers = x.movers) : SitesRun s (s.modSite h f) := by
  constructor
  all_goals
    intro j
    rw [State.site_modSite]
    split
  next hj => rw [hj, hlink]
  next => rfl
  next hj => rw [hj, hmovers]
  next => rfl

theorem sitesRun_doorbell (s : State) (h c : Nat) : SitesRun s (s.doorbell h c) := by
  unfold State.doorbell
  extract_lets x v t
  have ht : SitesRun s t := sitesRun_modSite s h _ (fun _ => rfl) fun _ => rfl
  split
  · exact .refl s
  · split
    · exact ht.trans (.of_hst rfl)
    · split
      · exact ht
      · exact ht.trans (.of_hst rfl)

theorem sitesRun_mailPut (s : State) (h : Nat) (f : Bytes) : SitesRun s (s.mailPut h f) :=
  (sitesRun_modSite s h (fun y => { y with mbOut := f, full := true }) (fun _ => rfl) fun _ => rfl).trans
    ((sitesRun_doorbell _ h 0).after rfl)

theorem sitesRun_mailOut (s : State) (h : Nat) (f : Bytes) : SitesRun s (s.mailOut h f) := by
  unfold State.mailOut
  split
  · exact sitesRun_modSite s h _ (fun _ => rfl) fun _ => rfl
  · exact sitesRun_mailPut s h f

theorem sitesRun_channelOut (s : State) (c n k : Nat) (hd d tag : Bytes) : SitesRun s (s.channelOut c n k hd d tag) := by
  unfold State.channelOut
  dsimp only
  split
  · exact .of_hst rfl
  · exact (sitesRun_mailOut _ _ _).after rfl

theorem sitesRun_frameOut (s : State) (n k i b st : Nat) (d : Bytes) : SitesRun s (s.frameOut n k i b st d) := by
  unfold State.frameOut
  split
  · exact .refl s
  · extract_lets q head t
    have ht : SitesRun s t := (sitesRun_channelOut _ _ _ _ _ _ _).after rfl
    split
    · exact ht.trans (.of_hst rfl)
    · exact ht

theorem sitesRun_eventFrame (s : State) (e : LogEntry) (n : Nat) : SitesRun s (s.eventFrame e n) := by
  unfold State.eventFrame
  dsimp only
  split
  · exact .refl s
  · split
    · split
      · exact (sitesRun_frameOut _ _ _ _ _ _ _).after rfl
      · exact .of_hst rfl
    · exact .refl s

theorem sitesRun_alertFor (s : State) (e : LogEntry) : SitesRun s (s.alertFor e) := by
  unfold State.alertFor
  split
  · exact .of_hst rfl
  · exact .refl s

theorem sitesRun_notifyEvent (s : State) (e : LogEntry) : SitesRun s (s.notifyEvent e) :=
  SitesRun.foldl (fun t n => sitesRun_eventFrame t e n) _ s

theorem sitesRun_logEntry (s : State) (e : LogEntry) : SitesRun s (s.logEntry e) := by
  unfold State.logEntry
  split
  · exact (sitesRun_alertFor _ e).after rfl
  · exact ((sitesRun_notifyEvent _ e).trans (sitesRun_alertFor _ e)).after rfl

theorem sitesRun_fault (s : State) (c : W16) (x : Option CtxId) (l : Loc) (d : Nat) : SitesRun s (s.fault c x l d) :=
  sitesRun_logEntry _ _

theorem sitesRun_event (s : State) (c : W16) (x : Option CtxId) (l : Loc) (d : Nat) : SitesRun s (s.event c x l d) :=
  sitesRun_logEntry _ _

theorem toLe_eq_map (n v : Nat) : toLe n v = (List.range n).map (fun i => BitVec.ofNat 8 (v / 256 ^ i)) := by
  induction n generalizing v with
  | zero => rfl
  | succ n ih =>
    rw [toLe, ih, List.range_succ_eq_map, List.map_cons, pow_zero, Nat.div_one, List.map_map]
    refine congrArg _ (List.map_congr_left fun i _ => ?_)
    rw [Function.comp_apply, Nat.div_div_eq_div_mul, Nat.succ_eq_add_one, Nat.pow_succ']

section

variable (s : State) (h : Hub)

/-! ### Links of the hosts -/

theorem link_setLink (j st : Nat) (modules : BitVec 4) : ((s.setLink j st modules).site j).link = st := by
  rw [State.setLink, (sitesRun_doorbell _ j 3).link, State.site_modSite, if_pos rfl]

theorem link_trainSite (j : Nat) (modules : BitVec 4) (back : Bool) :
    ((s.trainSite j modules back).site j).link = if modules = 0 then 3 else 2 := by
  unfold State.trainSite
  by_cases hm : modules = 0
  · rw [if_pos hm, if_pos hm, (sitesRun_fault _ _ _ _ _).link, link_setLink]
  · rw [if_neg hm, if_neg hm]
    dsimp only
    have hmissing : ∀ u : State, SitesRun u (u.missingModules j modules) :=
      fun u => SitesRun.foldl (fun t m => sitesRun_event t _ _ _ _) _ u
    split
    · rw [(sitesRun_event _ _ _ _ _).link, (hmissing _).link, link_setLink]
    · rw [(hmissing _).link, link_setLink]

theorem hostLinkTrain_completes (modules : BitVec 4) (hon : s.siteOn h.val = true) (hlink : (s.site h.val).link = 0)
    (hst : s.st ≠ .off) :
    ∃ s', exec (.hostLinkTrain h modules) s = .next s' ∧ s'.answer = .done ∧
      (s'.site h.val).link = if modules = 0 then 3 else 2 :=
  ⟨_, congrArg Host.Outcome.next (if_pos ⟨hon, hlink, hst⟩), rfl, link_trainSite s h.val modules false⟩

theorem hostLinkError_completes (modules : BitVec 4) (hlink : (s.site h.val).link = 1 ∨ (s.site h.val).link = 2)
    (hrecent : ((s.site h.val).retrains.filter (fun t => decide (s.now < t + 1000000000))).length < 3) :
    ∃ s', exec (.hostLinkError h modules) s = .next s' ∧ s'.answer = .done :=
  ⟨_, if_neg (by omega), rfl⟩

theorem hostLinkRetry_completes (modules : BitVec 4) (hlink : (s.site h.val).link = 3) :
    ∃ s', exec (.hostLinkRetry h modules) s = .next s' ∧ s'.answer = .done ∧
      (s'.site h.val).link = (if modules = 0 then 3 else 2) ∧ (s.site h.val).downAt + 10000000000 ≤ s'.now := by
  refine ⟨_, congrArg Host.Outcome.next (if_pos hlink), rfl, ?_⟩
  rw [State.site_of_ok, State.ok_now]
  by_cases hm : modules = 0
  · rw [if_pos hm, if_pos hm, State.site_modSite, if_pos rfl]
    exact ⟨hlink, Nat.le_max_right _ _⟩
  · rw [if_neg hm, if_neg hm, link_trainSite, if_neg hm]
    rw [show ∀ u : State, (u.trainSite h.val modules true).now = u.now from fun u =>
      (Kept.refl.trainSite (List.Subset.refl _) _ _ _).same .time (by decide)]
    exact ⟨rfl, Nat.le_max_right _ _⟩

theorem hostThermtrip_completes (hon : s.siteOn h.val = true) (hlink : (s.site h.val).link ≠ 4) :
    ∃ s', exec (.hostThermtrip h) s = .next s' ∧ s'.answer = .done ∧ s'.siteOn h.val = false := by
  refine ⟨_, congrArg Host.Outcome.next (if_pos ⟨hon, hlink⟩), rfl, ?_⟩
  have hkept : ∀ u : State, Kept (reporting [.panelState, .contexts, .clocks, .thermal, .starts, .recovery, .pins]) u
      (((((u.setLink h.val 4 0).endHost h.val .pathFault 0x2010).tripFault (locHub h.val) h.val).noteTrip
        (locHub h.val))) := fun u =>
    (((Kept.refl.setLink (by decide) _ _ _).endHost (by decide) _ _ _).tripFault (by decide) _ _).noteTrip (by decide) _
  exact ((hkept _).domOn_eq (by decide) _).trans (domOn_setDom_same s (516 + h.val) false)

/-! ### Packets of the mainband -/

theorem drainSite_of_one {t u : State} {j : Nat} {q r : HostReq} {st : Status} {code : W16} (hreqs : (t.site j).reqs = [q])
    (hserve : t.hostServe j q = (u, r, some (st, code))) :
    t.drainSite j 1 = (u.modSite j (fun x => { x with reqs := [] })).hostDone j r st code := by
  rw [State.drainSite, hreqs]
  dsimp only
  rw [hserve]
  rfl

/-- A packet that finds no other waiting is served at once. -/
theorem hostPush_serves {j : Nat} {q r : HostReq} {t : State} {st : Status} {code : W16} (hreqs : (s.site j).reqs = [])
    (hserve : (s.ok.modSite j (fun x => { x with reqs := x.reqs ++ [q] })).hostServe j q = (t, r, some (st, code))) :
    s.hostPush j q = (t.modSite j (fun x => { x with reqs := [] })).hostDone j r st code := by
  rw [State.hostPush, hreqs]
  refine drainSite_of_one ?_ hserve
  rw [State.site_modSite, if_pos rfl, State.site_of_ok, hreqs]
  rfl

theorem answer_hostDone_write {j : Nat} {q : HostReq} (hw : q.write = true) (code : W16) :
    (s.hostDone j q .ok code).answer = .status .ok := by
  rw [State.hostDone, if_pos hw]
  rfl

theorem answer_hostDone_read {j : Nat} {q : HostReq} (hw : q.write = false) (code : W16) :
    (s.hostDone j q .ok code).answer = .data .ok q.got := by
  rw [State.hostDone, if_neg (by rw [hw]; decide)]
  rfl

theorem hWrite_completes (hlive : s.hostLive h.val = true) (hreqs : (s.site h.val).reqs = []) (len : W16) (addr : W64)
    (data : Bytes) (hlen : len.toNat ≤ 4096) (hdata : data.length = len.toNat) :
    let q : HostReq := { write := true, tag := 0, addr := addr, len := data.length, data := data }
    ∀ t r, (s.ok.modSite h.val (fun x => { x with reqs := x.reqs ++ [q] })).hostServe h.val q = (t, r, some (.ok, 0)) →
      r.write = true → ∃ s', exec (.hWrite h 1 len addr data) s = .next s' ∧ s'.answer = .status .ok := by
  intro q t r hserve hw
  have hno : ¬((1 : Byte) ≠ 1 ∨ 4096 < len.toNat ∨ data.length ≠ len.toNat) := by
    rintro (h | h | h)
    · exact h rfl
    · omega
    · exact h hdata
  refine ⟨_, congrArg Host.Outcome.next ((if_neg (by rw [hlive]; decide)).trans (if_neg hno)), ?_⟩
  rw [hostPush_serves s hreqs hserve]
  exact answer_hostDone_write _ hw 0

theorem hRead_completes (hlive : s.hostLive h.val = true) (hreqs : (s.site h.val).reqs = []) (tag : Byte) (len : W16)
    (addr : W64) (hlen : len.toNat ≤ 4096) :
    let q : HostReq := { write := false, tag := tag, addr := addr, len := len.toNat, data := [] }
    ∀ t r, (s.ok.modSite h.val (fun x => { x with reqs := x.reqs ++ [q] })).hostServe h.val q = (t, r, some (.ok, 0)) →
      r.write = false → ∃ s', exec (.hRead h 2 tag len addr) s = .next s' ∧ s'.answer = .data .ok r.got := by
  intro q t r hserve hw
  refine ⟨_, congrArg Host.Outcome.next ((if_neg (by rw [hlive]; decide)).trans
    ((if_neg (not_not_intro rfl)).trans (if_neg (Nat.not_lt.2 hlen)))), ?_⟩
  rw [hostPush_serves s hreqs hserve]
  exact answer_hostDone_read _ hw 0

theorem hubByte_stat {t : State} {j i : Nat} (hi : i < 4) :
    t.hubByte j (0x10010 + i) = BitVec.ofNat 8 ((t.site j).stat.toNat / 256 ^ i) := by
  have h1 : (0x10010 + i) / 0x10000 = 1 := by omega
  have h2 : (0x10010 + i) / 4 * 4 = 0x10010 := by omega
  have h3 : (0x10010 + i) % 4 = i := by omega
  rw [State.hubByte, if_neg (by omega), h2, h3]
  rfl

theorem dpStatusRead_completes (hlive : s.hostLive h.val = true) (hreqs : (s.site h.val).reqs = []) (tag : Byte) :
    ∃ s', exec (.dpStatusRead h tag) s = .next s' ∧ s'.answer = .data .ok (toLe 4 (s.site h.val).stat.toNat) := by
  refine ⟨_, congrArg Host.Outcome.next (if_neg (by rw [hlive]; decide)), ?_⟩
  rw [hostPush_serves s hreqs rfl, answer_hostDone_read _ rfl]
  refine congrArg (Answer.data .ok) ?_
  have hstat : ∀ f : Site → Site, (∀ x, (f x).stat = x.stat) → ((s.ok.modSite h.val f).site h.val).stat = (s.site h.val).stat :=
    fun f hf => by rw [State.site_modSite, if_pos rfl, hf]; rfl
  refine Eq.trans ?_ (toLe_eq_map 4 _).symm
  show (List.range' 0x10010 4).map _ = _
  rw [List.range'_eq_map_range, List.map_map]
  refine List.map_congr_left fun i hi => ?_
  rw [Function.comp_apply, hubByte_stat (List.mem_range.1 hi), hstat]
  exact fun _ => rfl

/-! ### Registers -/

theorem leNat_toLe (n v : Nat) : leNat (toLe n v) = v % 256 ^ n := by
  induction n generalizing v with
  | zero => rw [pow_zero, Nat.mod_one]; rfl
  | succ n ih => rw [Nat.pow_succ', Nat.mod_mul, toLe, leNat, ih, BitVec.toNat_ofNat]

/-- The packet of a write to a register word. -/
def wordPacket (off : Nat) (v : W32) : HostReq :=
  { write := true, tag := 0, addr := BitVec.ofNat 64 off, len := 4, data := toLe 4 v.toNat }

/-- A site with a packet behind those that wait. -/
def State.arriving (j : Nat) (q : HostReq) : State := s.ok.modSite j (fun x => { x with reqs := x.reqs ++ [q] })

theorem hubWrite_word (j w : Nat) (v : W32) (hw : w * 4 / 0x10000 ≠ 3) :
    s.hubWrite j (w * 4) (toLe 4 v.toNat) = s.setHubWord j (w * 4) v := by
  have hbytes : ∀ u : State, (List.range 4).map (fun i => if w * 4 ≤ w * 4 + i then
      (toLe 4 v.toNat).getD (w * 4 + i - w * 4) (u.hubByte j (w * 4 + i)) else u.hubByte j (w * 4 + i)) =
      toLe 4 v.toNat := by
    intro u
    simp [List.range_succ, toLe]
  have hone : List.range' (w * 4 / 4) ((w * 4 + (toLe 4 v.toNat).length + 3) / 4 - w * 4 / 4) = [w] := by
    have h1 : w * 4 / 4 = w := by omega
    have h2 : (w * 4 + (toLe 4 v.toNat).length + 3) / 4 - w * 4 / 4 = 1 := by
      show (w * 4 + 4 + 3) / 4 - w * 4 / 4 = 1
      omega
    rw [h2, h1]
    rfl
  have hvalue : BitVec.ofNat 32 (leNat (toLe 4 v.toNat)) = v := by
    rw [leNat_toLe, show 256 ^ 4 = 2 ^ 32 from rfl, Nat.mod_eq_of_lt v.isLt, BitVec.ofNat_toNat, BitVec.setWidth_eq]
  rw [State.hubWrite, if_neg hw, hone, List.foldl_cons, List.foldl_nil]
  dsimp only
  rw [hbytes, hvalue, Bool.true_and]

/-- A register word that is taken, written while no packet waits. -/
theorem hubRegister_word {j w : Nat} {v : W32} {t : State} (hst : s.st ≠ .off ∧ s.st ≠ .quenched)
    (hreqs : (s.site j).reqs = []) (hregion : hubRegion (w * 4) 4 = 2) (hw : w * 4 < 0x30000)
    (hset : (s.arriving j (wordPacket (w * 4) v)).setHubWord j (w * 4) v = (t, true)) :
    s.hubRegister j (w * 4) v = ((t.modSite j (fun x => { x with reqs := [] })).count .host j 0x00 1).status .ok := by
  have haddr : (BitVec.ofNat 64 (w * 4)).toNat = w * 4 := by
    rw [BitVec.toNat_ofNat]
    exact Nat.mod_eq_of_lt (by omega)
  have hserve : (s.arriving j (wordPacket (w * 4) v)).hostServe j (wordPacket (w * 4) v) =
      (t, wordPacket (w * 4) v, some (.ok, 0)) := by
    rw [State.hostServe, show (wordPacket (w * 4) v).addr.toNat = w * 4 from haddr]
    show (match hubRegion (w * 4) 4 with | 1 => _ | 2 => _ | 3 => _ | _ => _) = _
    have hwrite := (hubWrite_word (s.arriving j (wordPacket (w * 4) v)) j w v (by omega)).trans hset
    rw [hregion, show (wordPacket (w * 4) v).data = toLe 4 v.toNat from rfl]
    dsimp only
    rw [hwrite]
    rfl
  rw [State.hubRegister, if_neg (not_or.2 hst)]
  exact hostPush_serves s hreqs hserve

/-- What a register word that is taken leaves of its site. -/
theorem site_hubRegister_word {j w : Nat} {v : W32} {t : State} (hst : s.st ≠ .off ∧ s.st ≠ .quenched)
    (hreqs : (s.site j).reqs = []) (hregion : hubRegion (w * 4) 4 = 2) (hw : w * 4 < 0x30000)
    (hset : (s.arriving j (wordPacket (w * 4) v)).setHubWord j (w * 4) v = (t, true)) :
    (s.hubRegister j (w * 4) v).answer = .status .ok ∧ (s.hubRegister j (w * 4) v).site j = { t.site j with reqs := [] } := by
  rw [hubRegister_word s hst hreqs hregion hw hset]
  refine ⟨rfl, ?_⟩
  rw [State.site_of_status, State.site_of_count, State.site_modSite, if_pos rfl]

theorem site_arriving (j : Nat) (q : HostReq) :
    (s.arriving j q).site j = { s.site j with reqs := (s.site j).reqs ++ [q] } := by
  rw [State.arriving, State.site_modSite, if_pos rfl, State.site_of_ok]

theorem dpCtrl_completes (hst : s.st ≠ .off ∧ s.st ≠ .quenched) (hreqs : (s.site h.val).reqs = []) (v : W32)
    (hv : ctrlOk v = true) :
    ∃ s', exec (.dpCtrl h v) s = .next s' ∧ s'.answer = .status .ok ∧ (s'.site h.val).ctrl = v := by
  obtain ⟨ha, hsite⟩ := site_hubRegister_word s hst hreqs (w := 0x4002) (v := v) (by decide) (by decide) (if_pos hv)
  refine ⟨_, rfl, ha, (congrArg Site.ctrl hsite).trans ?_⟩
  rw [State.site_modSite, if_pos rfl]

theorem dpStatus_completes (hst : s.st ≠ .off ∧ s.st ≠ .quenched) (hreqs : (s.site h.val).reqs = []) (v : W32) :
    ∃ s', exec (.dpStatus h v) s = .next s' ∧ s'.answer = .status .ok ∧
      (s'.site h.val).stat = if v.getLsbD 4 then 0 else (s.site h.val).stat := by
  obtain ⟨ha, hsite⟩ := site_hubRegister_word s hst hreqs (w := 0x4004) (v := v) (by decide) (by decide) rfl
  refine ⟨_, rfl, ha, (congrArg Site.stat hsite).trans ?_⟩
  dsimp only
  split
  · rw [State.site_modSite, if_pos rfl]
  · rw [site_arriving]

/-! ### Registers of a mover -/

theorem mover_modMover (j m : Nat) (f : Mover → Mover) :
    ((s.modMover j m f).site j).mover m = f ((s.site j).mover m) := by
  rw [State.modMover, State.site_modSite, if_pos rfl]
  exact tget_tset_same _ _ _ _

theorem mover_putResult_done (j m slot : Nat) (st : Status) (n : Nat) (code : W16) :
    (((s.putResult j m slot st n code).site j).mover m).done = ((s.site j).mover m).done := by
  rw [State.putResult, mover_modMover]

/-- A word of a mover's registers is taken as setMover takes it. -/
theorem mover_hubRegister {j : Nat} (m : Fin 8) (off : Nat) (hoff : off = 0 ∨ off = 0x10) {v : W32}
    (hst : s.st ≠ .off ∧ s.st ≠ .quenched) (hreqs : (s.site j).reqs = []) :
    ∃ u : State, (u.site j).mover m.val = (s.site j).mover m.val ∧
      (s.hubRegister j (0x20000 + off + m.val * 0x100) v).answer = .status .ok ∧
      ((s.hubRegister j (0x20000 + off + m.val * 0x100) v).site j).mover m.val =
        ((u.setMover j m.val off v).site j).mover m.val := by
  have hm := m.isLt
  obtain ⟨w, hw⟩ : ∃ w, 0x20000 + off + m.val * 0x100 = w * 4 := ⟨0x8000 + off / 4 + m.val * 0x40, by omega⟩
  have hregion : hubRegion (w * 4) 4 = 2 := by
    rw [hubRegion, if_neg (by omega), if_pos (by omega)]
  have hset : ∀ u : State, u.setHubWord j (w * 4) v = (u.setMover j m.val off v, true) := by
    intro u
    rw [State.setHubWord, if_neg (by omega), show w * 4 % 0x10000 / 0x100 = m.val by omega,
      show w * 4 % 0x100 = off by omega]
  obtain ⟨ha, hsite⟩ := site_hubRegister_word s hst hreqs hregion (by omega) (hset _)
  refine ⟨s.arriving j (wordPacket (w * 4) v), by rw [site_arriving]; rfl, hw ▸ ha, ?_⟩
  rw [hw, hsite]
  rfl

theorem moverTail_completes (hst : s.st ≠ .off ∧ s.st ≠ .quenched) (hreqs : (s.site h.val).reqs = []) (m : Fin 8) (v : W32) :
    ∃ s', exec (.moverTail h m v) s = .next s' ∧ s'.answer = .status .ok ∧
      ((s'.site h.val).mover m.val).tail =
        if 256 < (v - ((s.site h.val).mover m.val).done).toNat then ((s.site h.val).mover m.val).tail else v := by
  obtain ⟨u, hu, ha, hsite⟩ := mover_hubRegister s m 0 (.inl rfl) (v := v) hst hreqs
  refine ⟨_, rfl, ha, (congrArg Mover.tail hsite).trans ?_⟩
  rw [show u.setMover h.val m.val 0 v = u.moverTail h.val m.val v from rfl, State.moverTail, mover_modMover, hu]
  split <;> rfl

theorem moverResume_completes (hst : s.st ≠ .off ∧ s.st ≠ .quenched) (hreqs : (s.site h.val).reqs = []) (m : Fin 8) :
    ∃ s', exec (.moverResume h m) s = .next s' ∧ s'.answer = .status .ok ∧ ((s'.site h.val).mover m.val).status = 0 := by
  obtain ⟨u, -, ha, hsite⟩ := mover_hubRegister s m 0x10 (.inr rfl) (v := 1) hst hreqs
  refine ⟨_, rfl, ha, (congrArg Mover.status hsite).trans ?_⟩
  rw [show u.setMover h.val m.val 0x10 1 = u.moverResume h.val m.val from rfl, State.moverResume, mover_modMover]

theorem moverAbort_completes (hst : s.st ≠ .off ∧ s.st ≠ .quenched) (hreqs : (s.site h.val).reqs = []) (m : Fin 8) :
    ∃ s', exec (.moverAbort h m) s = .next s' ∧ s'.answer = .status .ok ∧ ((s'.site h.val).mover m.val).cur = none ∧
      ((s'.site h.val).mover m.val).head = ((s'.site h.val).mover m.val).tail ∧
      ((s'.site h.val).mover m.val).done = ((s'.site h.val).mover m.val).tail := by
  obtain ⟨u, -, ha, hsite⟩ := mover_hubRegister s m 0x10 (.inr rfl) (v := 2) hst hreqs
  refine ⟨_, rfl, ha, ?_⟩
  show ((s.hubRegister h.val (0x20000 + 0x10 + m.val * 0x100) 2).site h.val |>.mover m.val).cur = none ∧
    ((s.hubRegister h.val (0x20000 + 0x10 + m.val * 0x100) 2).site h.val |>.mover m.val).head =
      ((s.hubRegister h.val (0x20000 + 0x10 + m.val * 0x100) 2).site h.val |>.mover m.val).tail ∧
    ((s.hubRegister h.val (0x20000 + 0x10 + m.val * 0x100) 2).site h.val |>.mover m.val).done =
      ((s.hubRegister h.val (0x20000 + 0x10 + m.val * 0x100) 2).site h.val |>.mover m.val).tail
  rw [hsite, show u.setMover h.val m.val 0x10 2 = u.moverAbort h.val m.val from rfl, State.moverAbort]
  dsimp only
  rw [mover_modMover]
  exact ⟨rfl, rfl, rfl⟩

/-! ### The sideband -/

theorem exec_of_sideband {j : Nat} {f : State → State} (hside : s.sideband j = true) :
    s.sidebandCmd j f = (f s).ok := if_pos hside

theorem mbInLen_completes (hside : s.sideband h.val = true) (len : W32) (hbusy : s.inBusy h.val = false)
    (hlo : 32 ≤ len.toNat) (hhi : len.toNat ≤ 4096) :
    ∃ s', exec (.mbInLen h len) s = .next s' ∧ s'.answer = .done ∧ (s'.site h.val).inLen = len ∧
      (s'.site h.val).busy = true := by
  have hno : ¬(s.inBusy h.val = true ∨ len.toNat < 32 ∨ 4096 < len.toNat) := by
    rw [hbusy]
    rintro (h | h | h)
    · exact Bool.false_ne_true h
    all_goals omega
  refine ⟨_, congrArg Host.Outcome.next (exec_of_sideband s hside), rfl, ?_⟩
  rw [State.site_of_ok, State.mailLen, if_neg hno, State.site_of_count, State.site_modSite, if_pos rfl]
  exact ⟨rfl, rfl⟩

theorem mbAckConsumed_completes (hside : s.sideband h.val = true) (hfull : (s.site h.val).full = true)
    (hqueue : (s.site h.val).queue = []) :
    ∃ s', exec (.mbAckConsumed h) s = .next s' ∧ s'.answer = .done ∧ (s'.site h.val).full = false := by
  refine ⟨_, congrArg Host.Outcome.next (exec_of_sideband s hside), rfl, ?_⟩
  rw [State.site_of_ok, State.mailConsumed, if_neg (by rw [hfull]; decide), hqueue]
  dsimp only
  rw [State.site_modSite, if_pos rfl]

theorem mbAckClearOverrun_completes (hside : s.sideband h.val = true) :
    ∃ s', exec (.mbAckClearOverrun h) s = .next s' ∧ s'.answer = .done ∧ (s'.site h.val).overrun = false := by
  refine ⟨_, congrArg Host.Outcome.next (exec_of_sideband s hside), rfl, ?_⟩
  rw [State.site_of_ok, State.clearOverrun, State.site_modSite, if_pos rfl]

theorem dbStatusClear_completes (hside : s.sideband h.val = true) (v : W32) :
    ∃ s', exec (.dbStatusClear h v) s = .next s' ∧ s'.answer = .done ∧
      (s'.site h.val).dbStatus = (s.site h.val).dbStatus &&& ~~~v &&& 0xF := by
  refine ⟨_, congrArg Host.Outcome.next (exec_of_sideband s hside), rfl, ?_⟩
  rw [State.site_of_ok, State.clearCauses, State.site_modSite, if_pos rfl]

/-! ### Movers -/

theorem moverPiece_completes (m : Fin 8) (hlive : s.hostLive h.val = true)
    (hready : ((s.site h.val).mover m.val).ready = true) (hturn : (s.site h.val).moverWaits m.val = false) :
    ∃ s', exec (.moverPiece h m) s = .next s' ∧ s'.answer = .done := by
  rw [exec]
  unfold execMoverPiece
  extract_lets x s1 s2 y
  refine ⟨_, if_neg (by rw [hlive, hready, hturn]; decide), ?_⟩
  split
  · exact answer_of_ite rfl rfl
  · rfl

theorem pCpl_completes (m : Fin 8) (d : MoverDesc) (n : Nat) (status : Status) (data : Bytes)
    (hcur : ((s.site h.val).mover m.val).cur = some d) (hflight : ((s.site h.val).mover m.val).inFlight = some n)
    (hdata : status ≠ .ok ∨ 0 < data.length ∧ data.length ≤ n) :
    ∃ s', exec (.pCpl h m status data) s = .next s' ∧ s'.answer = .done := by
  rw [exec, execPCpl, hcur, hflight]
  refine ⟨_, rfl, ?_⟩
  dsimp only
  by_cases hok : status ≠ .ok
  · rw [if_pos hok]
    rfl
  · have hlen : ¬(data.length = 0 ∨ n < data.length) := by
      have := hdata.resolve_left hok
      omega
    rw [if_neg hok, if_neg hlen]
    rfl

theorem descriptorComplete_completes (m : Fin 8) (d : MoverDesc) (hcur : ((s.site h.val).mover m.val).cur = some d)
    (hst : s.st ≠ .quenched) (hend : ((s.site h.val).mover m.val).failed ≠ none ∨
      ((s.site h.val).mover m.val).inFlight = none ∧ d.length.toNat ≤ ((s.site h.val).mover m.val).moved) :
    ∃ s', exec (.descriptorComplete h m) s = .next s' ∧ s'.answer = .done ∧
      ((s'.site h.val).mover m.val).done = ((s.site h.val).mover m.val).done + 1 ∧
      ((s'.site h.val).mover m.val).cur = none := by
  have hno : ¬(s.st = .quenched ∨ ((s.site h.val).mover m.val).failed = none ∧
      (((s.site h.val).mover m.val).inFlight.isSome = true ∨ ((s.site h.val).mover m.val).moved < d.length.toNat)) := by
    rintro (h | ⟨hf, h⟩)
    · exact hst h
    · obtain ⟨hflight, hmoved⟩ := hend.resolve_left (not_not_intro hf)
      rw [hflight] at h
      exact h.elim (fun h => Bool.false_ne_true h) (Nat.not_lt.2 hmoved)
  obtain ⟨t, hexec, hdone, hcleared⟩ : ∃ t : State, exec (.descriptorComplete h m) s =
      .next (if d.flags.getLsbD 2 then t.doorbell h.val 1 else t).ok ∧
      ((t.site h.val).mover m.val).done = ((s.site h.val).mover m.val).done + 1 ∧
      ((t.site h.val).mover m.val).cur = none := by
    rw [exec, execDescriptorComplete, hcur]
    dsimp only
    rw [if_neg hno]
    refine ⟨_, rfl, ?_⟩
    split <;> simp only [State.site_of_count, mover_modMover, mover_putResult_done, and_self]
  have hmovers : ∀ j, ((if d.flags.getLsbD 2 then t.doorbell h.val 1 else t).site j).movers = (t.site j).movers := by
    split
    · exact (sitesRun_doorbell t h.val 1).movers
    · exact fun _ => rfl
  refine ⟨_, hexec, rfl, ?_⟩
  rw [State.site_of_ok, Site.mover, hmovers]
  exact ⟨hdone, hcleared⟩

end

/-- Settles O24: command by command. -/
theorem hostCommandsComplete : Obligations.HostCommandsComplete := by
  intro s h
  exact ⟨hostLinkTrain_completes s h, hostLinkError_completes s h, hostLinkRetry_completes s h, hostThermtrip_completes s h,
    fun hlive hreqs => ⟨hWrite_completes s h hlive hreqs, hRead_completes s h hlive hreqs,
      dpStatusRead_completes s h hlive hreqs⟩,
    fun hoff hquenched hreqs => ⟨dpCtrl_completes s h ⟨hoff, hquenched⟩ hreqs, dpStatus_completes s h ⟨hoff, hquenched⟩ hreqs,
      moverTail_completes s h ⟨hoff, hquenched⟩ hreqs, moverResume_completes s h ⟨hoff, hquenched⟩ hreqs,
      moverAbort_completes s h ⟨hoff, hquenched⟩ hreqs⟩,
    fun hside => ⟨mbInLen_completes s h hside, mbAckConsumed_completes s h hside, mbAckClearOverrun_completes s h hside,
      dbStatusClear_completes s h hside⟩,
    fun m => ⟨moverPiece_completes s h m, pCpl_completes s h m, descriptorComplete_completes s h m⟩⟩

end Sys2Proof.Machine

/-! PROOF. The sessions of the management port (R466–R473): handshakes, and frames that a session takes. -/

namespace Sys2Proof.Machine

open Sys2Proof

section

variable (s : State)

/-! ### Frames -/

/-- A frame that arrives touches the host sites alone. -/
theorem frameHere_eq (ch : Nat) : ∃ w, s.frameHere ch = { s with hst := w } := by
  unfold State.frameHere
  split
  · exact ⟨s.hst, rfl⟩
  · exact ⟨_, rfl⟩

/-- What a session's frame that is intact and in order leaves. -/
theorem frameIn_taken {h : FHead} {x : Session} {kind : Nat} (hstandby : s.pwr.standby = true) (hversion : h.version = 1)
    (hkind : h.kind = kind) (hsize : h.sizeOk = true) (hx : s.session h.session.toNat = some x)
    (hch : x.channel = h.channel.val) (htag : h.tagOk = true) (hrevoked : s.sessionRevoked x = false)
    (hseq : x.rxSeq < h.sequence) :
    s.frameIn h kind = (((s.frameHere h.channel.val).setSession h.session.toNat
      (some { x with rxSeq := h.sequence, lastFrame := s.now })).count .mgmt h.channel.val 0x00 1,
      .taken { x with rxSeq := h.sequence, lastFrame := s.now }) := by
  unfold State.frameIn
  obtain ⟨w, hw⟩ := frameHere_eq s h.channel.val
  dsimp only
  rw [hw]
  dsimp only
  have hx' : State.session { s with hst := w } h.session.toNat = some x := hx
  have hrevoked' : State.sessionRevoked { s with hst := w } x = false := hrevoked
  have hhead : ¬(h.version ≠ 1 ∨ h.kind ≠ kind ∨ (!h.sizeOk) = true) := by simp [hversion, hkind, hsize]
  rw [if_neg (by rw [hstandby]; decide), if_neg hhead, hx']
  dsimp only
  rw [if_neg (not_not_intro hch), if_neg (by rw [htag]; decide), hrevoked', if_neg Bool.false_ne_true,
    if_neg (BitVec.not_le.2 hseq)]

theorem sessionClose_completes (h : FHead) (x : Session) (hstandby : s.pwr.standby = true) (hversion : h.version = 1)
    (hkind : h.kind = 0xD) (hsize : h.sizeOk = true) (hx : s.session h.session.toNat = some x)
    (hch : x.channel = h.channel.val) (htag : h.tagOk = true) (hrevoked : s.sessionRevoked x = false)
    (hseq : x.rxSeq < h.sequence) :
    ∃ s', exec (.sessionClose h) s = .next s' ∧ s'.answer = .done ∧ s'.session h.session.toNat = none := by
  rw [exec, execSessionClose, frameIn_taken s hstandby hversion hkind hsize hx hch htag hrevoked hseq]
  exact ⟨_, rfl, rfl, tget_tset_same _ _ _ _⟩

theorem sessionIdle_completes (session : W16) (x : Session) (hx : s.session session.toNat = some x) :
    ∃ s', exec (.sessionIdle session) s = .next s' ∧ s'.answer = .done ∧ s'.session session.toNat = none ∧
      x.lastFrame + s.obj 0x1100 0x07 * 1000000000 ≤ s'.now := by
  rw [exec, execSessionIdle, hx]
  exact ⟨_, rfl, rfl, tget_tset_same _ _ _ _, Nat.le_max_right _ _⟩

/-! ### Handshakes -/

theorem Kept.mgmt_eq {L : List Part} {s t : State} (k : Kept L s t) (h : Part.sessions ∉ L) : t.mgmt = s.mgmt := k.same _ h

theorem Kept.now_eq {L : List Part} {s t : State} (k : Kept L s t) (h : Part.time ∉ L) : t.now = s.now := k.same _ h

theorem handshakeTimeout_completes (session : W16) (h : s.mgmt.shakes.any (fun k => k.session == session.toNat) = true) :
    ∃ s', exec (.handshakeTimeout session) s = .next s' ∧ s'.answer = .done ∧
      s'.mgmt.shakes = s.mgmt.shakes.filter (fun k => k.session != session.toNat) := by
  obtain ⟨k, hk⟩ := find?_of_any h
  rw [exec, execHandshakeTimeout]
  dsimp only
  rw [hk]
  exact ⟨_, rfl, rfl, rfl⟩

/-- What the reply to a HELLO may change: not the sessions, and not the time. -/
theorem kept_helloReply (u : State) (n ch hid : Nat) (b : Bytes) :
    Kept [.counters, .security, .hostSites, .messages, .freeValues] u
      (((u.helloReply n).2.fragments ch hid (u.helloReply n).1).sessionKeys b (u.helloReply n).1).2 :=
  ((Kept.refl.helloReply (by decide) n).fragments (by decide) _ _ _).sessionKeys (by decide) _ _

theorem hello_completes (h : FHead) (hid : W16) (body : HelloBody) (hstandby : s.pwr.standby = true) (hversion : h.version = 1)
    (hkind : h.kind = 0) (hsize : h.sizeOk = true) (hhid : hid ≠ 0) (hsession : h.session = hid) (hseq : h.sequence = 0)
    (htag : h.tagOk = true) (hshakes : s.mgmt.shakes.length < 8) (hopen : s.openSessions.length < 16) :
    ∃ s' n k, exec (.hello h hid body) s = .next s' ∧ s'.answer = .done ∧ s'.mgmt.shakes = s.mgmt.shakes ++
      [{ session := n, channel := h.channel.val, nonce := body.nonce, begun := s.now, keys := k }] := by
  obtain ⟨w, hw⟩ := frameHere_eq s h.channel.val
  have hhead : ¬(h.version ≠ 1 ∨ h.kind ≠ 0 ∨ (!h.sizeOk) = true ∨ hid = 0 ∨ h.session ≠ hid ∨ h.sequence ≠ 0) := by
    simpa [hversion, hkind, hsize, hsession, hseq] using hhid
  have hroom : ¬(8 ≤ s.mgmt.shakes.length ∨ 16 ≤ s.openSessions.length) := by omega
  let u : State := (({ s with hst := w }).count .mgmt h.channel.val 0x00 1).count .mgmt h.channel.val 0x14 1
  let m := u.helloReply u.freshSession
  let r := (m.2.fragments h.channel.val hid.toNat m.1).sessionKeys (toLe 32 body.nonce.toNat ++ body.publics) m.1
  have hreply : Kept [.counters, .security, .hostSites, .messages, .freeValues] u r.2 := kept_helloReply u _ _ _ _
  rw [exec, execHello]
  dsimp only
  rw [hw]
  refine ⟨_, u.freshSession, r.1, congrArg Host.Outcome.next ((if_neg (by rw [hstandby]; decide)).trans ((if_neg hhead).trans
    ((if_neg (by rw [htag]; decide)).trans (if_neg hroom)))), rfl, ?_⟩
  show r.2.mgmt.shakes ++ [Shake.mk _ _ _ r.2.now _] = _
  rw [hreply.mgmt_eq (by decide), hreply.now_eq (by decide)]
  rfl

theorem granted_congr {s t : State} (hsec : t.sec = s.sec) (hanat : t.anat = s.anat) (level : Byte) (p : Proof) :
    t.granted level p = s.granted level p := by
  unfold State.granted State.byOwner State.ownerKey State.serial64
  rw [hsec, hanat]

/-- A frame to a session that has just opened leaves what the session is. -/
theorem session_frameOut {n : Nat} {x : Session} (hx : s.session n = some x) (hq : x.txSeq = 0) (kind i b st : Nat) (d : Bytes) :
    (s.frameOut n kind i b st d).session n = some { x with txSeq := 1 } := by
  unfold State.frameOut
  rw [hx]
  dsimp only
  rw [hq, if_neg (by decide)]
  have hmgmt := (Kept.refl (s := s.setSession n (some { x with txSeq := 1 }))).channelOut (List.Subset.refl _) x.channel n kind
    (frameHead kind n 1 i b st d.length) d (frameTag x.keys 1 (frameHead kind n 1 i b st d.length) d)
  exact (congrArg (fun g : Mgmt => tget none g.session n) (hmgmt.mgmt_eq (by decide))).trans (tget_tset_same _ _ _ _)

theorem session_opened (n : Nat) (x : Session) (hq : x.txSeq = 0) (ch kind i b st : Nat) (d : Bytes) :
    (((s.setSession n (some x)).count .mgmt ch 0x18 1).frameOut n kind i b st d).session n = some { x with txSeq := 1 } :=
  session_frameOut ((s.setSession n (some x)).count .mgmt ch 0x18 1) ((s.session_setSession n n _).trans (if_pos rfl)) hq kind i b st d

theorem finish_completes (h : FHead) (level : Byte) (proof : Proof) (l : Level) (g : W32) (k : W64)
    (hstandby : s.pwr.standby = true) (hversion : h.version = 1) (hkind : h.kind = 2) (hsize : h.sizeOk = true)
    (hshake : s.mgmt.shakes.any (fun k => k.session == h.session.toNat && k.channel == h.channel.val &&
      decide (s.now < k.begun + 2000000000)) = true)
    (htag : h.tagOk = true) (hseq : h.sequence ≠ 0) (hgranted : s.granted level proof = some (l, g, k))
    (hopen : s.openSessions.length < 16) :
    ∃ s' x, exec (.finish h level proof) s = .next s' ∧ s'.answer = .done ∧ s'.session h.session.toNat = some x ∧
      x.level = l ∧ x.generation = g ∧ x.keyId = k ∧ x.channel = h.channel.val ∧ x.rxSeq = h.sequence := by
  obtain ⟨w, hw⟩ := frameHere_eq s h.channel.val
  have hhead : ¬(h.version ≠ 1 ∨ h.kind ≠ 2 ∨ (!h.sizeOk) = true ∨ (!s.mgmt.shakes.any (fun k =>
      k.session == h.session.toNat && k.channel == h.channel.val && decide (s.now < k.begun + 2000000000))) = true) := by
    rw [hshake]
    simp [hversion, hkind, hsize]
  rw [exec, execFinish]
  dsimp only
  rw [hw]
  dsimp only
  rw [if_neg (by rw [hstandby]; decide), if_neg hhead, if_neg (by rw [htag]; decide), if_neg hseq]
  split
  next l' g' k' heq =>
    have hsame := hgranted.symm.trans ((granted_congr (s := s) rfl rfl level proof).symm.trans heq)
    cases hsame
    refine ⟨_, _, congrArg Host.Outcome.next (if_neg (Nat.not_le.2 hopen)), rfl, session_opened _ _ _ rfl _ _ _ _ _ _, ?_⟩
    exact ⟨rfl, rfl, rfl, rfl, rfl⟩
  next heq =>
    exact absurd (hgranted.symm.trans ((granted_congr (s := s) rfl rfl level proof).symm.trans heq)) (Option.some_ne_none _)

end

/-- Settles O25: frame by frame. -/
theorem managementCommandsComplete : Obligations.ManagementCommandsComplete := by
  intro s
  exact ⟨hello_completes s, finish_completes s, handshakeTimeout_completes s, sessionClose_completes s,
    sessionIdle_completes s⟩

end Sys2Proof.Machine

/-! PROOF. Requests for objects (R474–R477): the clause of OBSIDIAN_IMAGE (0xA001) reads subindex 3, which is no image. -/

namespace Sys2Proof.Machine

open Sys2Proof

/-- An idle panel with an owner image key, and session 1 of an owner on channel 3. -/
def imageReader : State :=
  { State.reset with
    st := .idle
    pwr := { State.reset.pwr with standby := true }
    sec := { State.reset.sec with imageKey := [1] }
    mgmt := { State.reset.mgmt with session := [(1, some { channel := 3, level := .owner })] } }

/-- A READ in session 1, intact and in order. -/
def imageReadHead : FHead := ⟨3, 1, 4, 1, 1, true, true⟩

/-- Subindex 3 of 0xA001 is the number of the newest slot, one byte: no total length goes before it. -/
theorem fjocoRead_newestSlot :
    ∃ s', exec (.fjocoRead imageReadHead 0xA001 3) imageReader = .next s' ∧ s'.answer = .fjoco .ok [imageReader.clk.newest] :=
  ⟨_, rfl, rfl⟩

/-- Refutes O26: its clause of 0xA001 asks the answer of a whole image of every subindex that can be read, and subindex 3 is
the number of the newest slot. With an owner image key and both slots empty readSlot answers OK and no bytes, so the clause
asks a total length of 0 in four bytes; the read answers the one byte of the slot's number. -/
theorem not_objectRequestsComplete : ¬ Obligations.ObjectRequestsComplete := by
  intro hall
  obtain ⟨hread, -⟩ := hall imageReader imageReadHead { channel := 3, level := .owner } 0xA001 3 rfl rfl rfl rfl rfl rfl
    (by decide) (by decide)
  obtain ⟨-, -, -, himage⟩ := hread rfl (by decide)
  obtain ⟨s', hexec, hanswer⟩ := himage _ [] rfl rfl
  obtain ⟨t, ht, hone⟩ := fjocoRead_newestSlot
  rw [ht] at hexec
  cases hexec
  rw [hone] at hanswer
  exact absurd hanswer (by decide)

end Sys2Proof.Machine

/-! PROOF. Process data and its settings (R487–R490). -/

namespace Sys2Proof.Machine

open Sys2Proof

section

variable (s : State)

/-! ### Writes of objects -/

theorem writeObj_fixed {c : Caller} {index sub : Nat} {v : Bytes} (hok : s.objRefusal c index sub true v = none)
    (htype : typeBytes (objType index sub) = some v.length) (hvalue : s.valueOk index sub (leNat v) = true) :
    s.writeObj c index sub v = s.putValue c index sub (leNat v) := by
  rw [State.writeObj, hok]
  dsimp only
  rw [htype]
  dsimp only
  rw [if_neg (not_not_intro rfl), if_neg (by rw [hvalue]; decide)]

theorem writeObj_domain {c : Caller} {index sub : Nat} {v : Bytes} (hok : s.objRefusal c index sub true v = none)
    (htype : typeBytes (objType index sub) = none) (hlen : v.length ≤ domainMax index) :
    s.writeObj c index sub v = s.putDomain c index sub v := by
  rw [State.writeObj, hok]
  dsimp only
  rw [htype]
  exact if_neg (Nat.not_lt.2 hlen)

theorem leNat_word16 (v : W16) : leNat (toLe 2 v.toNat) = v.toNat := by
  rw [leNat_toLe]
  exact Nat.mod_eq_of_lt v.isLt

theorem exec_sessionWrite {session : W16} {x : Session} (hx : s.session session.toNat = some x) (index sub : Nat) (v : Bytes) :
    s.sessionWrite session index sub v = s.writeObj ⟨session.toNat, x.level⟩ index sub v := by
  rw [State.sessionWrite, hx]

/-! ### Maps -/

theorem mapBlob_length (m : List MapEntry) : (mapBlob m).length = 4 * m.length := by
  induction m with
  | nil => rfl
  | cons e m ih =>
    rw [mapBlob, List.flatMap_cons, List.length_append, List.length_cons]
    have hrest : (m.flatMap (fun e => toLe 2 e.index.toNat ++ [e.sub, e.zero])).length = 4 * m.length := ih
    rw [hrest, show (toLe 2 e.index.toNat ++ [e.sub, e.zero]).length = 4 from rfl]
    omega

/-- The first entry of a map is its first four bytes. -/
theorem mapOf_append {a d : Bytes} (ha : a.length = 4) :
    mapOf (a ++ d) = ⟨BitVec.ofNat 16 (field (a ++ d) 0 2), byteOf (a ++ d) 2, byteOf (a ++ d) 3⟩ :: mapOf d := by
  have hcount : (a ++ d).length / 4 = d.length / 4 + 1 := by
    rw [List.length_append, ha]
    omega
  have hcut : ∀ i n, cut (a ++ d) (4 * (i + 1)) n = cut d (4 * i) n := by
    intro i n
    rw [cut, cut, List.drop_append, List.drop_eq_nil_of_le (by omega), List.nil_append, ha]
    exact congrArg (fun k => (d.drop k).take n) (by omega)
  have hbyte : ∀ i j, byteOf (a ++ d) (4 * (i + 1) + j) = byteOf d (4 * i + j) := by
    intro i j
    rw [byteOf, byteOf, List.getD_append_right _ _ _ _ (by omega), ha]
    exact congrArg (fun k => d.getD k 0) (by omega)
  rw [mapOf, hcount, List.range_succ_eq_map, List.map_cons, List.map_map]
  refine congrArg _ (List.map_congr_left fun i _ => ?_)
  rw [Function.comp_apply, Nat.succ_eq_add_one, hbyte, hbyte, field, field, hcut]

theorem mapOf_mapBlob (m : List MapEntry) : mapOf (mapBlob m) = m := by
  induction m with
  | nil => rfl
  | cons e m ih =>
    have hindex : BitVec.ofNat 16 (leNat (toLe 2 e.index.toNat)) = e.index := by
      rw [leNat_word16, BitVec.ofNat_toNat, BitVec.setWidth_eq]
    have hrest : mapOf (m.flatMap (fun e => toLe 2 e.index.toNat ++ [e.sub, e.zero])) = m := ih
    rw [mapBlob, List.flatMap_cons, mapOf_append rfl, hrest]
    exact congrArg (fun i => MapEntry.mk i e.sub e.zero :: m) hindex

theorem mapBlob_fits {level : Level} {rx : Bool} {m : List MapEntry} (h : mapFits level rx m = true) :
    (mapBlob m).length ≤ 128 := by
  have hlen : m.length ≤ 32 := by
    simp only [mapFits, within, Bool.and_eq_true, decide_eq_true_eq] at h
    exact h.1.1.2
  rw [mapBlob_length]
  omega

end

section

variable (s : State) {session : W16} {x : Session} (hx : s.session session.toNat = some x)

include hx

/-! ### Transmit objects -/

theorem pdoTx_completes (n : Fin 8) (howner : (tget {} s.mgmt.tpdo n.val).owner = session)
    (hrate : (tget {} s.mgmt.tpdo n.val).rate ≠ 0) : ∃ s', exec (.pdoTx n) s = .next s' ∧ s'.answer = .done := by
  rw [exec, execPdoTx, howner, hx]
  exact ⟨_, congrArg Host.Outcome.next (if_neg hrate), rfl⟩

theorem exec_tpdoRate (n : Fin 8) (rate : W16)
    (hok : s.objRefusal ⟨session.toNat, x.level⟩ 0x1201 (n.val + 1) true (toLe 2 rate.toNat) = none)
    (hrate : rate.toNat ≤ 1000) :
    exec (.tpdoRate session n rate) s = .next (s.setRate ⟨session.toNat, x.level⟩ n.val rate.toNat) := by
  have htype : objType 0x1201 (n.val + 1) = 3 := by
    clear hok
    revert n
    decide
  have hvalue : s.valueOk 0x1201 (n.val + 1) (leNat (toLe 2 rate.toNat)) = true := by
    unfold State.valueOk
    rw [htype, leNat_word16]
    simpa [within] using hrate
  rw [exec, execTpdoRate, exec_sessionWrite s hx, writeObj_fixed s hok (by rw [htype]; rfl) hvalue, leNat_word16]
  rfl

theorem tpdoRate_zero (n : Fin 8) (rate : W16)
    (hok : s.objRefusal ⟨session.toNat, x.level⟩ 0x1201 (n.val + 1) true (toLe 2 rate.toNat) = none) (hrate : rate = 0) :
    ∃ s', exec (.tpdoRate session n rate) s = .next s' ∧ s'.answer = .fjoco .ok [] ∧
      (tget {} s'.mgmt.tpdo n.val).rate = 0 := by
  subst hrate
  rw [exec_tpdoRate s hx n 0 hok (by decide), State.setRate]
  refine ⟨_, rfl, rfl, ?_⟩
  exact congrArg Pdo.rate (tget_tset_same _ _ _ _)

theorem tpdoRate_bound (n : Fin 8) (rate : W16)
    (hok : s.objRefusal ⟨session.toNat, x.level⟩ 0x1201 (n.val + 1) true (toLe 2 rate.toNat) = none) (hzero : rate ≠ 0)
    (hrate : rate.toNat ≤ 1000) (hsession : session ≠ 0)
    (hfits : (tget {} s.mgmt.tpdo n.val).map.all (entryFits x.level false) = true)
    (hload : x.channel < 2 →
      s.pdoLoad x.channel n.val + rate.toNat * (40 + mapBytes (tget {} s.mgmt.tpdo n.val).map) ≤ 250000) :
    ∃ s', exec (.tpdoRate session n rate) s = .next s' ∧ s'.answer = .fjoco .ok [] ∧
      (tget {} s'.mgmt.tpdo n.val).rate = rate ∧ (tget {} s'.mgmt.tpdo n.val).owner = session := by
  have hno : ¬(1000 < rate.toNat ∨ session.toNat = 0 ∨
      (!(tget {} s.mgmt.tpdo n.val).map.all (entryFits x.level false)) = true ∨
      x.channel < 2 ∧ 250000 < s.pdoLoad x.channel n.val +
        rate.toNat * (40 + mapBytes (tget {} s.mgmt.tpdo n.val).map)) := by
    rintro (h | h | h | ⟨hch, h⟩)
    · omega
    · exact hsession (BitVec.eq_of_toNat_eq h)
    · rw [hfits] at h
      exact Bool.false_ne_true h
    · exact Nat.not_lt.2 (hload hch) h
  have hnonzero : rate.toNat ≠ 0 := fun h => hzero (BitVec.eq_of_toNat_eq h)
  rw [exec_tpdoRate s hx n rate hok hrate, State.setRate]
  dsimp only
  rw [hx, if_neg hnonzero]
  have hbound := tget_tset_same ({} : Pdo) s.mgmt.tpdo n.val
    { tget {} s.mgmt.tpdo n.val with rate := BitVec.ofNat 16 rate.toNat, owner := BitVec.ofNat 16 session.toNat }
  refine ⟨_, congrArg Host.Outcome.next (if_neg hno), rfl, (congrArg Pdo.rate hbound).trans ?_,
    (congrArg Pdo.owner hbound).trans ?_⟩
  · exact (BitVec.ofNat_toNat 16 rate).trans (BitVec.setWidth_eq rate)
  · exact (BitVec.ofNat_toNat 16 session).trans (BitVec.setWidth_eq session)

theorem exec_tpdoMap (n : Fin 8) (m : List MapEntry)
    (hok : s.objRefusal ⟨session.toNat, x.level⟩ 0x1200 (n.val + 1) true (mapBlob m) = none) (hlen : (mapBlob m).length ≤ 128) :
    exec (.tpdoMap session n m) s = .next (s.setTmap ⟨session.toNat, x.level⟩ n.val m) := by
  have htype : typeBytes (objType 0x1200 (n.val + 1)) = none := by
    clear hok
    revert n
    decide
  rw [exec, execTpdoMap, exec_sessionWrite s hx, writeObj_domain s hok htype hlen]
  show Host.Outcome.next (if (mapBlob m).length % 4 ≠ 0 then _ else s.setTmap _ (n.val + 1 - 1) (mapOf (mapBlob m))) = _
  rw [if_neg (by rw [mapBlob_length]; omega), mapOf_mapBlob, Nat.add_sub_cancel]

theorem tpdoMap_completes (n : Fin 8) (m : List MapEntry)
    (hok : s.objRefusal ⟨session.toNat, x.level⟩ 0x1200 (n.val + 1) true (mapBlob m) = none)
    (hrate : (tget {} s.mgmt.tpdo n.val).rate = 0) (hfits : mapFits x.level false m = true) :
    ∃ s', exec (.tpdoMap session n m) s = .next s' ∧ s'.answer = .fjoco .ok [] ∧ (tget {} s'.mgmt.tpdo n.val).map = m := by
  rw [exec_tpdoMap s hx n m hok (mapBlob_fits hfits), State.setTmap, if_neg (not_not_intro hrate), if_neg (by rw [hfits]; decide)]
  exact ⟨_, rfl, rfl, congrArg Pdo.map (tget_tset_same _ _ _ _)⟩

/-! ### Receive objects -/

theorem exec_rpdoMap (n : Fin 4) (m : List MapEntry)
    (hok : s.objRefusal ⟨session.toNat, x.level⟩ 0x1210 (n.val + 1) true (mapBlob m) = none) (hlen : (mapBlob m).length ≤ 128) :
    exec (.rpdoMap session n m) s = .next (s.setRmap ⟨session.toNat, x.level⟩ n.val m) := by
  have htype : typeBytes (objType 0x1210 (n.val + 1)) = none := by
    clear hok
    revert n
    decide
  rw [exec, execRpdoMap, exec_sessionWrite s hx, writeObj_domain s hok htype hlen]
  show Host.Outcome.next (if (mapBlob m).length % 4 ≠ 0 then _ else s.setRmap _ (n.val + 1 - 1) (mapOf (mapBlob m))) = _
  rw [if_neg (by rw [mapBlob_length]; omega), mapOf_mapBlob, Nat.add_sub_cancel]

theorem rpdoMap_empty (n : Fin 4) (m : List MapEntry)
    (hok : s.objRefusal ⟨session.toNat, x.level⟩ 0x1210 (n.val + 1) true (mapBlob m) = none) (hm : m = []) :
    ∃ s', exec (.rpdoMap session n m) s = .next s' ∧ s'.answer = .fjoco .ok [] ∧
      (tget {} s'.mgmt.rpdo n.val).map = [] ∧ (tget {} s'.mgmt.rpdo n.val).owner = 0 := by
  subst hm
  have hempty := tget_tset_same ({} : Pdo) s.mgmt.rpdo n.val { tget {} s.mgmt.rpdo n.val with map := [], owner := 0 }
  rw [exec_rpdoMap s hx n [] hok (by decide), State.setRmap]
  exact ⟨_, rfl, rfl, congrArg Pdo.map hempty, congrArg Pdo.owner hempty⟩

theorem rpdoMap_bound (n : Fin 4) (m : List MapEntry)
    (hok : s.objRefusal ⟨session.toNat, x.level⟩ 0x1210 (n.val + 1) true (mapBlob m) = none)
    (howner : (tget {} s.mgmt.rpdo n.val).owner = 0) (hfits : mapFits x.level true m = true) (hsession : session ≠ 0) :
    ∃ s', exec (.rpdoMap session n m) s = .next s' ∧ s'.answer = .fjoco .ok [] ∧
      (tget {} s'.mgmt.rpdo n.val).map = m ∧ (tget {} s'.mgmt.rpdo n.val).owner = session := by
  have hsome : m.isEmpty = false := by
    cases m with
    | nil => exact absurd hfits Bool.false_ne_true
    | cons e m => rfl
  have hno : ¬(session.toNat = 0 ∨ (!mapFits x.level true m) = true) := by
    rw [hfits]
    exact fun h => h.elim (fun h => hsession (BitVec.eq_of_toNat_eq h)) Bool.false_ne_true
  have hbound := tget_tset_same ({} : Pdo) s.mgmt.rpdo n.val
    { tget {} s.mgmt.rpdo n.val with map := m, owner := BitVec.ofNat 16 session.toNat }
  rw [exec_rpdoMap s hx n m hok (mapBlob_fits hfits), State.setRmap, hsome, if_neg Bool.false_ne_true,
    if_neg (not_not_intro howner), if_neg hno]
  exact ⟨_, rfl, rfl, congrArg Pdo.map hbound,
    (congrArg Pdo.owner hbound).trans ((BitVec.ofNat_toNat 16 session).trans (BitVec.setWidth_eq session))⟩

/-- A frame of a bound RPDO, of its map's length and 1 ms or more after the one before. -/
theorem pdoRx_completes (h : FHead) (n : Fin 4) (data : Bytes) (hstandby : s.pwr.standby = true) (hversion : h.version = 1)
    (hkind : h.kind = 0xB) (hsize : h.sizeOk = true) (hsession : h.session = session) (hch : x.channel = h.channel.val)
    (htag : h.tagOk = true) (hrevoked : s.sessionRevoked x = false) (hseq : x.rxSeq < h.sequence) :
    let p := tget {} s.mgmt.rpdo n.val
    p.owner = session → session ≠ 0 → data.length = mapBytes p.map → p.last = 0 ∨ p.last + 1000000 ≤ s.now + 1 →
    let t := ((s.frameHere h.channel.val).setSession session.toNat
      (some { x with rxSeq := h.sequence, lastFrame := s.now })).count .mgmt h.channel.val 0x00 1
    exec (.pdoRx h n data) s = .next (((t.modRpdo n.val (fun p => { p with last := s.now + 1 })).count .mgmt h.channel.val
      0x2C 1).applyPdo ⟨session.toNat, x.level⟩ h.channel.val data p.map).ok := by
  subst hsession
  intro p howner hnonzero hlen hlast t
  have hmine : ¬(p.owner ≠ h.session ∨ p.owner = 0) := by
    rw [howner]
    exact fun h => h.elim (fun h => h rfl) hnonzero
  have hintime : ¬(data.length ≠ mapBytes p.map ∨ p.last ≠ 0 ∧ s.now + 1 < p.last + 1000000) := by
    rintro (h | h)
    · exact h hlen
    · omega
  rw [exec, execPdoRx, frameIn_taken s hstandby hversion hkind hsize hx hch htag hrevoked hseq]
  obtain ⟨w, hw⟩ := frameHere_eq s h.channel.val
  unfold t
  rw [hw]
  exact congrArg Host.Outcome.next ((if_neg hmine).trans (if_neg hintime))

/-! ### Events -/

theorem eventMask_completes (mask : W16)
    (hok : s.objRefusal ⟨session.toNat, x.level⟩ 0x1101 3 true (toLe 2 mask.toNat) = none) :
    ∃ s', exec (.eventMask session mask) s = .next s' ∧ s'.answer = .fjoco .ok [] ∧
      (s'.session session.toNat).map (·.mask) = some (mask &&& 0x3FE) := by
  have hexec : exec (.eventMask session mask) s =
      .next ((s.setSession session.toNat (some { x with mask := BitVec.ofNat 16 mask.toNat &&& 0x3FE })).fstatus .ok) := by
    rw [exec, execEventMask, exec_sessionWrite s hx, writeObj_fixed s hok (show typeBytes (objType 0x1101 3) = some 2 by decide) ?_,
      leNat_word16]
    · show Host.Outcome.next (s.setMask session.toNat (BitVec.ofNat 16 mask.toNat)) = _
      rw [State.setMask, hx]
    · rfl
  refine ⟨_, hexec, rfl, ?_⟩
  show ((s.setSession session.toNat _).session session.toNat).map _ = _
  rw [State.session_setSession, if_pos rfl, BitVec.ofNat_toNat, BitVec.setWidth_eq]
  rfl

end

/-- Settles O27: command by command. -/
theorem processDataCommandsComplete : Obligations.ProcessDataCommandsComplete := by
  intro s session x hx
  exact ⟨pdoRx_completes s hx, pdoTx_completes s hx,
    fun n rate hok => ⟨tpdoRate_zero s hx n rate hok, fun hzero hrate => tpdoRate_bound s hx n rate hok hzero hrate⟩,
    tpdoMap_completes s hx, fun n m hok => ⟨rpdoMap_empty s hx n m hok, rpdoMap_bound s hx n m hok⟩,
    eventMask_completes s hx⟩

end Sys2Proof.Machine

/-! PROOF. Field ports, neighbour discovery, register writes (R465, R482), standby power and the test port (R555–R562). -/

namespace Sys2Proof.Machine

open Sys2Proof

/-! ### What a report leaves of the ports -/

theorem ports_channelOut (s : State) (c n k : Nat) (hd d tag : Bytes) : (s.channelOut c n k hd d tag).mgmt.ports = s.mgmt.ports :=
  congrArg Mgmt.ports ((Kept.refl.channelOut (List.Subset.refl _) c n k hd d tag).mgmt_eq (by decide))

theorem ports_frameOut (s : State) (n k i b st : Nat) (d : Bytes) : (s.frameOut n k i b st d).mgmt.ports = s.mgmt.ports := by
  unfold State.frameOut
  split
  · rfl
  · extract_lets q head t
    have ht : t.mgmt.ports = s.mgmt.ports := ports_channelOut _ _ _ _ _ _ _
    split <;> exact ht

theorem ports_eventFrame (s : State) (e : LogEntry) (n : Nat) : (s.eventFrame e n).mgmt.ports = s.mgmt.ports := by
  unfold State.eventFrame
  dsimp only
  split
  · rfl
  · split
    · split
      · exact ports_frameOut _ _ _ _ _ _ _
      · rfl
    · rfl

theorem ports_notifyEvent (s : State) (e : LogEntry) : (s.notifyEvent e).mgmt.ports = s.mgmt.ports := by
  have h : ∀ (l : List Nat) (t : State), (l.foldl (fun (u : State) n => u.eventFrame e n) t).mgmt.ports = t.mgmt.ports := by
    intro l
    induction l with
    | nil => exact fun _ => rfl
    | cons n l ih => exact fun t => (ih _).trans (ports_eventFrame t e n)
  exact h _ s

theorem ports_alertFor (s : State) (e : LogEntry) : (s.alertFor e).mgmt.ports = s.mgmt.ports := by
  unfold State.alertFor
  split <;> rfl

theorem ports_event (s : State) (c : W16) (x : Option CtxId) (l : Loc) (d : Nat) :
    (s.event c x l d).mgmt.ports = s.mgmt.ports := by
  unfold State.event State.raise State.logEntry
  split
  · exact ports_alertFor _ _
  · exact (ports_alertFor _ _).trans (ports_notifyEvent _ _)

/-- A link that is lost takes its beacon with it; a beacon that is lost leaves the link. -/
theorem getLsbD_portLost (port : Fin 2) (link : Bool) (v : BitVec 4) :
    (if link then v &&& ~~~(BitVec.ofNat 4 (2 ^ port.val) ||| BitVec.ofNat 4 (2 ^ (port.val + 2)))
      else v &&& ~~~(BitVec.ofNat 4 (2 ^ (port.val + 2)))).getLsbD (if link then port.val else port.val + 2) = false := by
  revert port link v
  decide

theorem getLsbD_portFound (port : Fin 2) (link : Bool) (v : BitVec 4) :
    (v ||| BitVec.ofNat 4 (2 ^ (if link then port.val else port.val + 2))).getLsbD
      (if link then port.val else port.val + 2) = true := by
  revert port link v
  decide

section

variable (s : State)

/-! ### Field ports -/

theorem fieldLinkLoss_completes (port : Fin 2) (link : Bool)
    (h : (link = true ∧ s.mgmt.ports.getLsbD port.val = true) ∨
      (link = false ∧ s.mgmt.ports.getLsbD (port.val + 2) = true ∧ s.plcaUsed port.val = true)) :
    ∃ s', exec (.fieldLinkLoss port link) s = .next s' ∧ s'.answer = .done ∧
      s'.mgmt.ports.getLsbD (if link then port.val else port.val + 2) = false := by
  refine ⟨_, congrArg Host.Outcome.next (if_pos ?_), rfl, ?_⟩
  · simpa using h
  · rw [State.ok_mgmt, ports_event]
    exact getLsbD_portLost port link s.mgmt.ports

theorem fieldLinkReturn_completes (port : Fin 2) (link : Bool)
    (h : (link = true ∧ s.mgmt.ports.getLsbD port.val = false) ∨
      (link = false ∧ s.mgmt.ports.getLsbD port.val = true ∧ s.mgmt.ports.getLsbD (port.val + 2) = false ∧
        s.plcaUsed port.val = true)) :
    ∃ s', exec (.fieldLinkReturn port link) s = .next s' ∧ s'.answer = .done ∧
      s'.mgmt.ports.getLsbD (if link then port.val else port.val + 2) = true := by
  refine ⟨_, congrArg Host.Outcome.next (if_pos ?_), rfl, ?_⟩
  · simpa using h
  · rw [State.ok_mgmt, ports_event]
    exact getLsbD_portFound port link s.mgmt.ports

theorem neighborDiscovery_completes (port : Fin 2) (iid : W64) (hstandby : s.pwr.standby = true)
    (hiid : iid = eui64 (if port = 0 then s.anat.macA else s.anat.macB)) :
    ∃ s', exec (.neighborDiscovery port true iid) s = .next s' ∧ s'.answer = .done ∧
      s'.sent = .advert port.val iid :: s.sent :=
  ⟨_, congrArg Host.Outcome.next (if_pos ⟨hstandby, rfl, hiid⟩), rfl, rfl⟩

/-! ### Registers -/

theorem objRow_of_admitted {c : Caller} {index sub : Nat} {write : Bool} {v : Bytes}
    (h : s.objRefusal c index sub write v = none) : ∃ r, objRow index sub = some r := by
  unfold State.objRefusal at h
  split at h
  · cases h
  · cases hrow : objRow index sub with
    | none =>
      rw [hrow] at h
      cases h
    | some r => exact ⟨r, rfl⟩

theorem registerWrite_object (level : Level) (sub : Byte) (value : Bytes)
    (hok : s.objRefusal ⟨0, level⟩ 0x2242 sub.toNat true value = none) (hlen : value.length = 1) (hvalue : leNat value ≤ 1) :
    ∃ s', exec (.registerWrite (.object level 0x2242 sub) value) s = .next s' ∧ s'.answer = .fjoco .ok [] ∧
      s'.obj 0x2242 sub.toNat = leNat value := by
  obtain ⟨r, hr⟩ := objRow_of_admitted s hok
  have hrows : ∀ r ∈ rowsAt 0x2242, r.typ = 2 := by decide
  have htype : objType 0x2242 sub.toNat = 2 := by
    rw [objType, hr]
    exact hrows r (List.mem_of_find?_eq_some hr)
  have hinrange : s.valueOk 0x2242 sub.toNat (leNat value) = true := by
    unfold State.valueOk
    rw [htype]
    simpa [within] using hvalue
  rw [exec, execRegisterWrite]
  rw [show BitVec.toNat (0x2242 : W16) = 0x2242 from rfl, writeObj_fixed s hok (by rw [htype, hlen]; rfl) hinrange]
  exact ⟨_, rfl, rfl, s.obj_setObj _ _ _⟩

theorem exec_registerWrite_mailbox (h : Hub) (off : Nat) (value : Bytes) (hside : s.sideband h.val = true)
    (hlen : value.length = 4) (hoff : off % 4 = 0) :
    exec (.registerWrite (.mailbox h off) value) s = .next (s.mailboxWrite h.val off (BitVec.ofNat 32 (leNat value))).ok :=
  congrArg Host.Outcome.next ((if_pos ⟨hlen, hoff⟩).trans (exec_of_sideband s hside))

theorem registerWrite_hub (h : Hub) (v : Bytes) (hoff : s.st ≠ .off) (hquenched : s.st ≠ .quenched)
    (hreqs : (s.site h.val).reqs = []) (hlen : v.length = 4) (hv : ctrlOk (BitVec.ofNat 32 (leNat v)) = true) :
    ∃ s', exec (.registerWrite (.hub h 0x10008) v) s = .next s' ∧ s'.answer = .status .ok ∧
      (s'.site h.val).ctrl = BitVec.ofNat 32 (leNat v) := by
  obtain ⟨s', hexec, hdone⟩ := dpCtrl_completes s h ⟨hoff, hquenched⟩ hreqs _ hv
  exact ⟨s', (congrArg Host.Outcome.next (if_pos hlen)).trans hexec, hdone⟩

theorem registerWrite_engine (c : CtxId) (d : LDie) (e : EngId) (q : RingId) (b : Byte) (hphys : (s.phys d).isSome = true)
    (hctx : (s.ring (ringKey d e q)).ctx = some c) :
    ∃ s', exec (.registerWrite (.engine c d (e.val * 0x1000 + q.val * 0x100 + 0x0A)) [b]) s = .next s' ∧
      s'.answer = .status .ok ∧ (s'.ring (ringKey d e q)).prio = BitVec.ofNat 8 (b.toNat % 4) := by
  have hat : ringAt (e.val * 0x1000 + q.val * 0x100 + 0x0A) = some (e, q) := by
    rw [ringAt, if_pos (by omega)]
    exact congrArg some (Prod.ext (Fin.ext (by dsimp only; omega)) (Fin.ext (by dsimp only; omega)))
  have hlow : (e.val * 0x1000 + q.val * 0x100 + 0x0A) % 0x100 = 0x0A := by omega
  have hpresent : ¬(s.phys d).isNone = true := by
    rw [Option.isNone_iff_eq_none]
    exact Option.isSome_iff_ne_none.1 hphys
  refine ⟨_, congrArg Host.Outcome.next (if_neg hpresent), ?_⟩
  rw [State.ringWrite, hat]
  dsimp only
  rw [hlow, if_neg Bool.false_ne_true, State.ringBound, if_neg (not_not_intro hctx)]
  refine ⟨rfl, ?_⟩
  exact congrArg Ring.prio ((s.ring_modRing _ _ _).trans (if_pos rfl))

/-! ### Standby power -/

theorem standbyLoss_partial (aux p0 p1 : Nat) (hstandby : s.pwr.standby = true) (hp : standbyPresent aux p0 p1 = true) :
    ∃ s', exec (.standbyLoss aux p0 p1) s = .next s' ∧ s'.answer = .done ∧ s'.pwr.aux = aux ∧ s'.pwr.standby = true :=
  ⟨_, congrArg Host.Outcome.next ((if_neg (by rw [hstandby]; decide)).trans (if_pos hp)), rfl, rfl, hstandby⟩

theorem standbyLoss_whole (aux p0 p1 : Nat) (hstandby : s.pwr.standby = true) (hp : standbyPresent aux p0 p1 = false) :
    ∃ s', exec (.standbyLoss aux p0 p1) s = .next s' ∧ s'.answer = .done ∧ s'.pwr.standby = false ∧ s'.st = .off ∧
      s'.log.main = [] ∧ s'.mgmt.session = [] := by
  refine ⟨_, congrArg Host.Outcome.next ((if_neg (by rw [hstandby]; decide)).trans (if_neg (by rw [hp]; decide))),
    rfl, rfl, ?_, rfl, rfl⟩
  show (if s.st = .off then s else _ : State).st = .off
  split
  · assumption
  · rfl

theorem standbyPowerReturn_completes (aux p0 p1 : Nat) (hstandby : s.pwr.standby = false)
    (hp : standbyPresent aux p0 p1 = true) :
    ∃ s', exec (.standbyPowerReturn aux p0 p1) s = .next s' ∧ s'.answer = .done ∧ s'.pwr.standby = true ∧
      s'.pwr.aux = aux ∧ s'.pwr.inputMv = max p0 p1 :=
  ⟨_, congrArg Host.Outcome.next (if_neg (by rw [hstandby, hp]; decide)), rfl, rfl, rfl, rfl⟩

/-! ### The test port -/

section

variable {s} (hstandby : s.pwr.standby = true)

include hstandby

theorem not_unpowered : ¬(!s.pwr.standby) = true := by
  rw [hstandby]
  decide

theorem testPort_reset :
    ∃ s', exec (.testPortAccess .reset) s = .next s' ∧ s'.answer = .done ∧ s'.pins.tap = .idcode :=
  ⟨_, if_neg (not_unpowered hstandby), rfl, rfl⟩

theorem testPort_shiftIr (ir : Byte) :
    ∃ s', exec (.testPortAccess (.shiftIr ir)) s = .next s' ∧ s'.answer = .done ∧ s'.pins.tap = s.tapSelect ir ∧
      s'.pins.tapBits.take 2 = [true, false] :=
  ⟨_, if_neg (not_unpowered hstandby), rfl, rfl, rfl⟩

theorem testPort_idcode (bits : List Bool) (htap : s.pins.tap = .idcode) :
    ∃ s', exec (.testPortAccess (.shiftDr bits)) s = .next s' ∧ s'.answer = .done ∧
      s'.pins.tapBits = shiftOut ((List.range 32).map (fun i => idcode.getLsbD i)) bits := by
  rw [exec, execTestPortAccess, if_neg (not_unpowered hstandby), htap]
  exact ⟨_, rfl, rfl, rfl⟩

theorem testPort_bypass (bits : List Bool) (htap : s.pins.tap = .bypass ∨ s.pins.tap = .other ∧ s.tapOpen = false) :
    ∃ s', exec (.testPortAccess (.shiftDr bits)) s = .next s' ∧ s'.answer = .done ∧ s'.pins.tapBits = shiftOut [false] bits := by
  rw [exec, execTestPortAccess, if_neg (not_unpowered hstandby)]
  dsimp only
  rcases htap with htap | ⟨htap, hopen⟩
  · rw [htap]
    exact ⟨_, rfl, rfl, rfl⟩
  · rw [htap, hopen]
    exact ⟨_, rfl, rfl, rfl⟩

end

end

/-- Settles O28: command by command. -/
theorem portAndRegisterCommandsComplete : Obligations.PortAndRegisterCommandsComplete := by
  intro s
  exact ⟨fun port link => ⟨fieldLinkLoss_completes s port link, fieldLinkReturn_completes s port link⟩,
    neighborDiscovery_completes s, registerWrite_object s, exec_registerWrite_mailbox s, registerWrite_hub s,
    registerWrite_engine s⟩

/-- Settles O30: command by command. -/
theorem pinCommandsComplete : Obligations.PinCommandsComplete := by
  intro s
  exact ⟨fun aux p0 p1 hstandby => ⟨standbyLoss_partial s aux p0 p1 hstandby, standbyLoss_whole s aux p0 p1 hstandby⟩,
    standbyPowerReturn_completes s, fun hstandby => ⟨testPort_reset hstandby, testPort_shiftIr hstandby,
      testPort_idcode hstandby, testPort_bypass hstandby⟩⟩

end Sys2Proof.Machine

/-! PROOF. Routers, regulators, acknowledgement, re-sending, the path test and returned queue credits (R277–R292). -/

namespace Sys2Proof.Machine

open Sys2Proof

section

variable (s : State)

/-! ### Forwarding -/

/-- The state with other output ports and messages. -/
def State.withPorts (o : Tbl OutPort) (m : List Msg) : State := { s with net := { s.net with out := o }, sent := m }

theorem arcDown_withPorts (o : Tbl OutPort) (m : List Msg) (i : Nat) (neg : Bool) (n : Nat) (p : Nat × Nat × Nat) :
    (s.withPorts o m).arcDown i neg n p = s.arcDown i neg n p := by
  induction n generalizing p with
  | zero => rfl
  | succ n ih => rw [State.arcDown, State.arcDown, ih]; rfl

/-- Where a packet leaves the networks does not hang on what waits at the ports. -/
theorem exitOf_withPorts (o : Tbl OutPort) (m : List Msg) (d : Nat) (p : Pkt) :
    (s.withPorts o m).exitOf d p = s.exitOf d p := by
  have htravel : ∀ i q t, (s.withPorts o m).travel i q t = s.travel i q t := fun i q t => by
    unfold State.travel
    simp only [arcDown_withPorts]
    rfl
  have hroute : ∀ q, (s.withPorts o m).fabricRoute q = s.fabricRoute q := fun q => by
    unfold State.fabricRoute
    simp only [htravel]
    rfl
  unfold State.exitOf
  simp only [hroute]
  rfl

/-- An output port that sends writes the ports and the messages alone. -/
theorem drainPort_eq (d port : Nat) : ∃ o m, s.drainPort d port = s.withPorts o m := by
  have hsend : ∀ (l : List Pkt) (t : State), ∃ m, l.foldl (fun (u : State) p => u.send (.hop d port p)) t = { t with sent := m } := by
    intro l
    induction l with
    | nil => exact fun t => ⟨t.sent, rfl⟩
    | cons p l ih => exact fun t => ih _
  obtain ⟨m, hm⟩ := hsend _ _
  exact ⟨_, m, hm⟩

theorem drainPorts_eq (d : Nat) (l : List Nat) :
    ∃ o m, l.foldl (fun (t : State) q => t.drainPort d q) s = s.withPorts o m := by
  induction l generalizing s with
  | nil => exact ⟨s.net.out, s.sent, rfl⟩
  | cons q l ih =>
    obtain ⟨o, m, h⟩ := drainPort_eq s d q
    rw [List.foldl_cons, h]
    exact ih _

theorem drainPort_idle (d port : Nat) (h : s.net.out = []) : s.drainPort d port = s := by
  have hwait : ∀ n, min (OutPort.waiting (tget {} s.net.out (d * 12 + port))) n = 0 := fun n => by
    rw [h]
    exact Nat.zero_min n
  rw [State.drainPort]
  dsimp only
  rw [hwait, h]
  calc _ = { s with net := { s.net with out := [] } } := rfl
    _ = s := by rw [← h]

theorem drainPorts_idle (d : Nat) (l : List Nat) (h : s.net.out = []) :
    l.foldl (fun (t : State) q => t.drainPort d q) s = s := by
  induction l with
  | nil => rfl
  | cons q l ih => rw [List.foldl_cons, drainPort_idle s d q h, ih]

theorem toPort_lane (d port : Nat) (p : Pkt) :
    ∃ l, tget [] (tget {} (s.toPort d port p).net.out (d * 12 + port)).lanes p.vc.toNat = l ++ [(p, pktFlits p / 64)] := by
  refine ⟨tget [] (tget {} (s.drainPort d port).net.out (d * 12 + port)).lanes p.vc.toNat, ?_⟩
  have hlane : ∀ (x : Tbl OutPort) (y : Tbl (List (Pkt × Nat))) v n t,
      tget [] (tget {} (tset {} x (d * 12 + port) { lanes := tset [] y p.vc.toNat v, next := n, upTo := t : OutPort })
        (d * 12 + port)).lanes p.vc.toNat = v := fun x y v n t => by
    rw [tget_tset_same]
    exact tget_tset_same _ _ _ _
  unfold State.toPort
  dsimp only
  split
  · exact hlane _ _ _ _ _
  · exact hlane _ _ _ _ _

theorem toPort_idle (d port : Nat) (p : Pkt) (h : s.net.out = []) : (s.toPort d port p).sent = .hop d port p :: s.sent := by
  rw [State.toPort]
  dsimp only
  rw [drainPort_idle s d port h, h]
  rfl

/-- A packet with a wrong head check is counted and dropped. -/
theorem forward_bad {d : Nat} {p : Pkt} (hhead : pktHead p ≠ p.headCheck) : s.forward d p = s.count .net d 0x14 1 := by
  rw [State.forward, if_pos hhead]

/-- A packet for a port of the die goes to it, when the ports have sent. -/
theorem forward_local {d port : Nat} {p : Pkt} (hhead : pktHead p = p.headCheck) (hmcast : p.mcast = false)
    (hexit : s.exitOf d p = some (d, port)) :
    s.forward d p = ((List.range 12).foldl (fun (t : State) q => t.drainPort d q) s).toPort d port p := by
  obtain ⟨o, m, hdrain⟩ := drainPorts_eq s d (List.range 12)
  have hmany : toMany p = false := by rw [toMany, hmcast, Bool.false_and]
  have hnone : ∀ (t : State) (g : Option (CtxId × Mcast)),
      g.filter (fun x => toMany p && (t.aloneDie x.2 p).isNone) = none := by
    intro t g
    rw [hmany]
    cases g with
    | none => rfl
    | some x => rfl
  rw [State.forward, if_neg (not_not_intro hhead)]
  dsimp only
  rw [hdrain, hnone, exitOf_withPorts, hexit]
  exact if_pos rfl

/-- The packet waits last in the lane of its virtual channel. -/
theorem forward_lane {d port : Nat} {p : Pkt} (hhead : pktHead p = p.headCheck) (hmcast : p.mcast = false)
    (hexit : s.exitOf d p = some (d, port)) :
    ∃ l, tget [] (tget {} (s.forward d p).net.out (d * 12 + port)).lanes p.vc.toNat = l ++ [(p, pktFlits p / 64)] := by
  rw [forward_local s hhead hmcast hexit]
  exact toPort_lane _ d port p

/-- With no packet at any port it leaves at once. -/
theorem forward_idle {d port : Nat} {p : Pkt} (hhead : pktHead p = p.headCheck) (hmcast : p.mcast = false)
    (hexit : s.exitOf d p = some (d, port)) (hidle : s.net.out = []) :
    (s.forward d p).sent = .hop d port p :: s.sent := by
  rw [forward_local s hhead hmcast hexit, drainPorts_idle s d _ hidle]
  exact toPort_idle s d port p hidle

/-! ### Acknowledgement -/

theorem acked_copies (x : SrcCopy) : (s.acked x).net.copies = s.net.copies.erase x := by
  unfold State.acked
  dsimp only
  split
  case _ => rfl
  case _ => rfl
  case _ => rfl
  case _ => rfl
  case _ => split <;> rfl
  case _ => rfl

end

/-- Settles O16: forwarding puts the packet last in its lane, and the others run when the packet, the regulator or the copy
is there. -/
theorem networkCommandsComplete : Obligations.NetworkCommandsComplete := by
  intro s
  refine ⟨fun d p => ⟨(s.forward d.val p).ok, rfl, rfl, ?bad, ?good⟩, ?regulator, ?copies, ?path, ?credit⟩
  case bad =>
    intro hhead
    show (s.forward d.val p).ok.sent = s.sent
    rw [forward_bad s hhead]
    rfl
  case good =>
    intro port hhead hmcast hexit
    have hlane := forward_lane s hhead hmcast hexit
    have hidle := forward_idle s hhead hmcast hexit
    generalize s.forward d.val p = t at hlane hidle ⊢
    exact ⟨hlane, hidle⟩
  case regulator =>
    intro d vc prio p rest t
    dsimp only
    intro hprio hheld hfills
    have hleaves : ∃ u : State, exec (.regulatorRelease d vc prio) s = .next u.ok := by
      rw [exec, execRegulatorRelease]
      dsimp only
      rw [hheld]
      dsimp only
      rw [hfills]
      exact ⟨_, congrArg Host.Outcome.next (if_neg hprio)⟩
    obtain ⟨u, hu⟩ := hleaves
    exact ⟨_, hu, rfl⟩
  case copies =>
    intro src dst vc seq x hcopy
    have hack : exec (.ack src dst vc seq) s = .next (s.acked x).ok := by
      rw [exec, execAck, hcopy]
    have hresend : ∀ s' : State, (let t := s.notBefore (x.sentAt + (if dst = nodeAway then 50000 else 5000))
        if x.sends < 8 then (t.resend x).ok else ((t.pathFault x).status .pathFault)) = s' →
        exec (.resendTimeout src dst vc seq) s = .next s' := by
      rintro _ rfl
      rw [exec, execResendTimeout, hcopy]
    exact ⟨⟨_, hack, rfl, acked_copies s x⟩, fun h => ⟨_, hresend _ (if_pos h), rfl⟩,
      fun h => ⟨_, hresend _ (if_neg (not_lt.mpr h)), rfl⟩⟩
  case path =>
    rintro src dst lanes ⟨w, hw, hkind⟩
    have hlanes : lanes.filter (fun w => recKind w = 2) ≠ [] :=
      List.ne_nil_of_mem (List.mem_filter.mpr ⟨hw, decide_eq_true hkind⟩)
    exact ⟨_, congrArg Host.Outcome.next (if_neg hlanes), rfl⟩
  case credit =>
    intro d q n hdecl
    exact ⟨_, congrArg Host.Outcome.next (if_pos hdecl), rfl, (State.queue_modQueue s _ _ _).trans (if_pos rfl)⟩

end Sys2Proof.Machine

/-! PROOF. Credits of remote writes (R92–R94) and the closing of banks (R105–R107). -/

namespace Sys2Proof.Machine

open Sys2Proof

/-! ### Credits -/

section

variable (s : State)

theorem tile_modTile_same (k : Nat) (f : TileS → TileS) : (s.modTile k f).tile k = f (s.tile k) :=
  (State.tile_modTile s k k f).trans (if_pos rfl)

/-- The target's answer leaves the replies and the denied requests of every source alone. -/
theorem askCredit_waiting (r : CreditReq) :
    (s.askCredit r).tiles.replies = s.tiles.replies ∧ (s.askCredit r).tiles.denied = s.tiles.denied := by
  unfold State.askCredit
  dsimp only
  split
  · exact ⟨rfl, rfl⟩
  · exact ⟨rfl, rfl⟩
  · exact ⟨rfl, rfl⟩

theorem sourceDie_askCredit (r : CreditReq) (n : BitVec 12) : (s.askCredit r).sourceDie n = s.sourceDie n := by
  unfold State.askCredit
  dsimp only
  split
  · rfl
  · rfl
  · rfl

theorem askCredit_now (r : CreditReq) : (s.askCredit r).now = s.now :=
  (Kept.refl.askCredit (List.Subset.refl _) r).now_eq (by decide)

/-- The reply to a request goes behind those that its source die has. -/
theorem creditRequest_replies (r : CreditReq) :
    tget [] (s.creditRequest r).tiles.replies (s.sourceDie r.node) =
      tget [] s.tiles.replies (s.sourceDie r.node) ++ [(r, s.creditAnswer r)] := by
  show tget [] (tset [] (s.askCredit r).tiles.replies ((s.askCredit r).sourceDie r.node) _) _ = _
  rw [sourceDie_askCredit, tget_tset_same, (askCredit_waiting s r).1]

theorem creditRequest_denied (r : CreditReq) : (s.creditRequest r).tiles.denied = s.tiles.denied :=
  (askCredit_waiting s r).2

theorem creditRequest_now (r : CreditReq) : (s.creditRequest r).now = s.now := askCredit_now s r

theorem spCreditReq_completes (node : BitVec 12) (c : CtxId) (d : LDie) (t : LTile) (w n : Nat) (h : (s.phys d).isSome) :
    ∃ s', exec (.spCreditReq node c d t w n) s = .next s' ∧ s'.answer = .done ∧
      tget [] s'.tiles.replies (s.sourceDie node) =
        tget [] s.tiles.replies (s.sourceDie node) ++ [(⟨node, c, d, t, w, n⟩, s.creditAnswer ⟨node, c, d, t, w, n⟩)] := by
  obtain ⟨p, hp⟩ := Option.isSome_iff_exists.mp h
  refine ⟨(s.creditRequest ⟨node, c, d, t, w, n⟩).ok, ?_, rfl, creditRequest_replies s _⟩
  rw [exec, execSpCreditReq, hp]

theorem spCreditReply_completes (src : LDie) (r : CreditReq) (ans : CreditAns) (rest : List (CreditReq × CreditAns)) :
    tget [] s.tiles.replies src.val = (r, ans) :: rest →
    ∃ s', exec (.spCreditReply src) s = .next s' ∧ tget [] s'.tiles.replies src.val = rest ∧
      s'.answer = (match ans with
        | .grant i => .word .ok (BitVec.ofNat 64 i.val)
        | .denyFull => .status .nocredit
        | .denyRange => .status .denied) := by
  intro h
  rw [exec, execSpCreditReply, h]
  cases ans with
  | grant i => exact ⟨_, rfl, tget_tset_same _ _ _ _, rfl⟩
  | denyFull => exact ⟨_, rfl, tget_tset_same _ _ _ _, rfl⟩
  | denyRange =>
    refine ⟨_, rfl, ?_, rfl⟩
    show tget [] (State.fault _ _ _ _ _).tiles.replies _ = _
    rw [State.fault_tiles]
    exact tget_tset_same _ _ _ _

theorem denyFullRetry_completes (src : LDie) (r : CreditReq) (t0 : Nat) (rest : List (CreditReq × Nat))
    (h : tget [] s.tiles.denied src.val = (r, t0) :: rest) :
    ∃ s', exec (.denyFullRetry src) s = .next s' ∧ s'.answer = .done ∧
      tget [] s'.tiles.denied src.val = rest ∧ t0 + 1000 ≤ s'.now := by
  rw [exec, execDenyFullRetry, h]
  refine ⟨_, rfl, rfl, ?_, ?_⟩
  · show tget [] (State.creditRequest _ _).tiles.denied _ = _
    rw [creditRequest_denied]
    exact tget_tset_same _ _ _ _
  · show _ ≤ (State.creditRequest _ _).now
    rw [creditRequest_now]
    exact le_max_right _ _

theorem creditReturn_completes (d : LDie) (t : LTile) (id : Fin 64) (k : Nat) (q : Credit) (hk : s.tileKey d t = some k)
    (hq : tget none (s.tile k).credits id.val = some q) :
    ∃ s', exec (.creditReturn d t id) s = .next s' ∧ s'.answer = .done ∧ tget none (s'.tile k).credits id.val = none := by
  rw [exec, execCreditReturn, hk]
  dsimp only
  rw [hq]
  refine ⟨_, if_pos rfl, rfl, ?_⟩
  rw [State.tile_of_ok, tile_modTile_same]
  exact tget_tset_same _ _ _ _

theorem creditExpiry_completes (d : LDie) (t : LTile) (id : Fin 64) (k : Nat) (q : Credit) (hk : s.tileKey d t = some k)
    (hq : tget none (s.tile k).credits id.val = some q) (hshut : (s.tile k).shutAt = none) :
    ∃ s', exec (.creditExpiry d t id) s = .next s' ∧ s'.answer = .done ∧
      tget none (s'.tile k).credits id.val = none ∧
      q.granted + q.frozen + s.obj 0x2241 (q.ctx.val + 1) * 1000 ≤ s'.now := by
  let due := q.granted + q.frozen + s.obj 0x2241 (q.ctx.val + 1) * 1000
  let u := (s.notBefore due).modTile k (fun y => { y with credits := tset none y.credits id.val none })
  have hgone : tget none (u.tile k).credits id.val = none := by
    rw [tile_modTile_same]
    exact tget_tset_same _ _ _ _
  have hrun : exec (.creditExpiry d t id) s = .next (if q.charged < q.units * 4096 then
      ((u.count .tile (tileRec d t.val) 0x20 1).event 0x4061 (some q.ctx) (locSpad d.val t.val q.window)).ok
    else u.ok) := by
    rw [exec, execCreditExpiry, hk]
    dsimp only
    rw [hq]
    dsimp only
    rw [if_pos hshut]
    split
    · rfl
    · rfl
  split at hrun
  · refine ⟨_, hrun, rfl, ?_, ?_⟩
    · rw [State.tile_of_ok, State.tile, State.event_tiles]
      exact hgone
    · rw [State.ok_now, State.event_now]
      exact le_max_right _ _
  · exact ⟨_, hrun, rfl, hgone, le_max_right _ _⟩

end

/-! ### Banks -/

/-- An entry just written, read with another default: the default where the value was the table's own. -/
theorem tget_tset_default {V : Type} [DecidableEq V] (d e : V) (t : Tbl V) (i : Nat) (v : V) :
    tget e (tset d t i v) i = if v = d then e else v := by
  induction t with
  | nil =>
    by_cases hv : v = d
    · simp [tset, tget, hv]
    · simp [tset, tget, hv]
  | cons p t ih =>
    obtain ⟨k, w⟩ := p
    rcases Nat.lt_trichotomy i k with h | h | h
    · by_cases hv : v = d
      · simp [tset, tget, h, hv]
      · simp [tset, tget, h, hv]
    · subst h
      by_cases hv : v = d
      · simp [tset, hv, tget_tskip_below e t (Nat.le_refl i)]
      · simp [tset, tget, hv]
    · have h1 : ¬ i < k := by omega
      have h2 : i ≠ k := by omega
      simp [tset, tget, h1, h2, ih]

section

variable (s : State)

/-- The state that a stack bank has where none is listed. -/
def State.stackBankDefault (s : State) (k b : Nat) : BankSt :=
  if b < 63 && s.bankOwner k b == 0xFD && !s.recov.migrations.any (fun m => m.dst == k) then .closed .retain else .open

theorem stackBankSt_eq (k b : Nat) : s.stackBankSt k b = tget (s.stackBankDefault k b) (s.stack k).banks b := rfl

theorem stack_modStack_same (k : Nat) (f : StackS → StackS) : (s.modStack k f).stack k = f (s.stack k) :=
  (State.stack_modStack s k k f).trans (if_pos rfl)

/-- What keeps the owners of a stack's banks keeps the banks' defaults. -/
theorem stackBankDefault_modStack (k b : Nat) (f : StackS → StackS) (h : ∀ x, (f x).owner = x.owner) :
    (s.modStack k f).stackBankDefault k b = s.stackBankDefault k b := by
  have howner : (s.modStack k f).bankOwner k b = s.bankOwner k b := by
    unfold State.bankOwner
    rw [stack_modStack_same, h]
    rfl
  rw [State.stackBankDefault, State.stackBankDefault, howner]
  rfl

theorem thaw_banks (t : TileS) (now : Nat) : (t.thaw now).banks = t.banks := by
  unfold TileS.thaw
  split
  · split
    · rfl
    · rfl
  · rfl

/-- A bank reads the state that it takes; a stack bank that opens reads its default. -/
theorem bankSt_setBank (b : BankRef) (x : BankSt) :
    (s.setBank b x).bankSt b = match b with
      | .stack k i => if x = .open then s.stackBankDefault k.val i.val else x
      | _ => x := by
  cases b with
  | spad d t i =>
    show tget .open ((s.modTile _ _).tile _).banks _ = x
    rw [tile_modTile_same, thaw_banks]
    dsimp only
    split
    · exact tget_tset_same _ _ _ _
    · exact tget_tset_same _ _ _ _
  | commons d i =>
    show tget .open ((s.modCommons _ _).commons _).banks _ = x
    rw [State.commons_modCommons, if_pos rfl]
    exact tget_tset_same _ _ _ _
  | stack k i =>
    show (s.modStack _ _).stackBankSt _ _ = _
    rw [stackBankSt_eq, stackBankDefault_modStack, stack_modStack_same]
    · exact tget_tset_default _ _ _ _ _
    · exact fun _ => rfl

theorem bankSt_setBank_of_ne (b : BankRef) {x : BankSt} (h : x ≠ .open) : (s.setBank b x).bankSt b = x := by
  rw [bankSt_setBank]
  cases b with
  | spad d t i => rfl
  | commons d i => rfl
  | stack k i => exact if_neg h

theorem bankSt_presentHeld (b : BankRef) : (s.presentHeld b).bankSt b = s.bankSt b := by
  cases b with
  | spad d t i =>
    show tget .open ((s.modTile _ _).tile _).banks _ = _
    rw [tile_modTile_same]
    rfl
  | commons d i =>
    show tget .open ((s.modCommons _ _).commons _).banks _ = _
    rw [State.commons_modCommons, if_pos rfl]
    rfl
  | stack k i => rfl

theorem bankSt_takeNotify (b : BankRef) : (s.takeNotify b).2.bankSt b = s.bankSt b := by
  cases b with
  | spad d t i =>
    show tget .open ((s.modTile _ _).tile _).banks _ = _
    rw [tile_modTile_same]
    rfl
  | commons d i =>
    show tget .open ((s.modCommons _ _).commons _).banks _ = _
    rw [State.commons_modCommons, if_pos rfl]
    rfl
  | stack k i =>
    show (s.modStack _ _).stackBankSt _ _ = _
    rw [stackBankSt_eq, stackBankDefault_modStack, stack_modStack_same]
    · rfl
    · exact fun _ => rfl

/-- A zeroed bank keeps the default of its state. -/
theorem stackBankDefault_zeroBankOf (k : Fin 312) (b : Fin 64) :
    (s.zeroBankOf (.stack k b)).stackBankDefault k.val b.val = s.stackBankDefault k.val b.val :=
  stackBankDefault_modStack s k.val b.val _ (fun _ => rfl)

theorem bankReopenComplete_completes (b : BankRef) (m : CloseMode) (h : s.bankSt b = .opening m) :
    ∃ s', exec (.bankReopenComplete b) s = .next s' ∧ s'.answer = .done ∧
      ((∀ k i, b = .stack k i → s.bankOwner k.val i.val ≠ 0xFD) → s'.bankSt b = .open) := by
  let u := if m = .off then s.zeroBankOf b else s
  let v := ((u.setBank b .open).presentHeld b).takeNotify b
  refine ⟨(v.1.foldl (fun (s : State) n => s.ctrl (bankNode b) 0x04 0xFE n.toNat) v.2).ok, ?_, rfl, fun howner => ?_⟩
  · rw [exec, execBankReopenComplete, h]
  · have hnotices : (v.1.foldl (fun (s : State) n => s.ctrl (bankNode b) 0x04 0xFE n.toNat) v.2).bankSt b = v.2.bankSt b :=
      foldl_keeps (fun t => t.bankSt b) (fun t n => by cases b <;> rfl) _ _
    have hopen : v.2.bankSt b = (u.setBank b .open).bankSt b := (bankSt_takeNotify _ b).trans (bankSt_presentHeld _ b)
    show (v.1.foldl (fun (s : State) n => s.ctrl (bankNode b) 0x04 0xFE n.toNat) v.2).bankSt b = .open
    rw [hnotices, hopen, bankSt_setBank]
    cases b with
    | spad d t i => rfl
    | commons d i => rfl
    | stack k i =>
      have hdefault : u.stackBankDefault k.val i.val = s.stackBankDefault k.val i.val := by
        show (if m = .off then s.zeroBankOf (.stack k i) else s).stackBankDefault _ _ = _
        split
        · exact stackBankDefault_zeroBankOf s k i
        · rfl
      have hfree : (s.bankOwner k.val i.val == 0xFD) = false := beq_eq_false_iff_ne.mpr (howner k i rfl)
      show u.stackBankDefault k.val i.val = .open
      rw [hdefault, State.stackBankDefault, hfree, Bool.and_false, Bool.false_and]
      rfl

end

/-- Settles O9: what a table, a bank or a waiting reply asks for is done. -/
theorem creditAndBankCommandsComplete : Obligations.CreditAndBankCommandsComplete := by
  intro s
  refine ⟨spCreditReq_completes s, spCreditReply_completes s, denyFullRetry_completes s, fun d t id k q hk hq =>
    ⟨creditReturn_completes s d t id k q hk hq, creditExpiry_completes s d t id k q hk hq⟩,
    fun b m => ⟨fun hopen hmode => ?close, fun h => ?closed, fun h => ?reopen, bankReopenComplete_completes s b m⟩,
    fun node b => rfl⟩
  case close => exact ⟨_, if_pos ⟨hopen, hmode⟩, rfl, bankSt_setBank_of_ne _ b (by simp)⟩
  case closed =>
    refine ⟨(s.setBank b (.closed m)).ok, ?_, rfl, bankSt_setBank_of_ne s b (by simp)⟩
    rw [exec, execBankCloseComplete, h]
  case reopen =>
    refine ⟨(s.setBank b (.opening m)).ok, ?_, rfl, bankSt_setBank_of_ne s b (by simp)⟩
    rw [exec, execBankReopen, h]

end Sys2Proof.Machine

/-! PROOF. The tokens of a layer and a dispatch span (R208–R210, R233). -/

namespace Sys2Proof.Machine

open Sys2Proof

section

variable (s : State)

theorem unit_modUnit_same (k : Nat) (f : UnitS → UnitS) : (s.modUnit k f).unit k = f (s.unit k) :=
  (State.unit_modUnit s k k f).trans (if_pos rfl)

/-- The state in which a stream command acts: its token is consumed and its group met. -/
def State.metToken (s : State) (d : LDie) (u : Nat) (c : CtxId) (i : QueueDecl) (k : Token) : State :=
  (s.consume c d u i k).modUnit (unitKey d u) (fun x => x.meetGroup (s.unit (unitKey d u)).frame k.payload)

/-- The command of an intact token's kind acts once it is consumed. -/
theorem streamToken_acts {d : LDie} {u kind : Nat} {t : State} {c : CtxId} {g : UnitCfg} {l : LayerDecl} {i : QueueDecl}
    {k : Token} (hhead : s.streamHead d u = (t, .token c g l i k)) (hintact : k.poisoned = false)
    (hkind : slKind k.payload = kind) (f : CtxId → UnitCfg → LayerDecl → List W16 → State → State) :
    s.streamToken d u kind f = (f c g l (slIndices k.payload) (t.metToken d u c i k)).ok := by
  rw [State.streamToken, hhead]
  dsimp only
  rw [if_neg (not_not_intro hkind), hintact]
  rfl

theorem dispatchSpan_completes (d : LDie) (t : LTile) (a : Fin 2) (cols : List (List (Nat × W16))) (c : CtxId) (g : UnitCfg)
    (k : Nat) (x : ArrayCfg) (p : SparseDecl) (hlive : s.live d t.val = some (c, g)) (hk : s.tileKey d t = some k)
    (hx : arrayCfg g = some x) (hp : g.sparse = some p) (harr : p.arr = 2)
    (hfit : (((cols.take (modeOuts x.wFmt.toNat)).map (roundEntries (nextSpan ((s.tile k).arr a).disp))).zipIdx.all (fun q =>
      decide ((tget [] ((s.tile k).arr a).disp q.2).length + q.1.length ≤ 1024))) = true) :
    ∃ s', exec (.dispatchSpan d t a cols) s = .next s' ∧ s'.answer = .done := by
  rw [exec, execDispatchSpan, hlive, hk]
  dsimp only
  rw [hx, hp]
  dsimp only
  rw [if_neg (not_not_intro harr)]
  rw [if_pos hfit]
  split
  · exact ⟨_, rfl, rfl⟩
  · exact ⟨_, rfl, rfl⟩

end

/-- Settles O31: the token is consumed, then the command of its kind acts on its indices. -/
theorem sparseStreamCommandsComplete : Obligations.SparseStreamCommandsComplete := by
  intro s d
  refine ⟨fun u t c g l i k hhead hintact => ⟨fun hkind => ?settle, fun hkind => ?hint, fun hkind => ?groupEnd⟩,
    dispatchSpan_completes s d⟩
  case settle =>
    refine ⟨_, congrArg Host.Outcome.next (streamToken_acts s hhead hintact hkind _), rfl, ?_⟩
    rw [State.unit_of_ok, unit_modUnit_same, State.metToken, unit_modUnit_same]
  case hint => exact ⟨_, congrArg Host.Outcome.next (streamToken_acts s hhead hintact hkind _), rfl⟩
  case groupEnd => exact ⟨_, congrArg Host.Outcome.next (streamToken_acts s hhead hintact hkind _), rfl⟩

end Sys2Proof.Machine

/-! PROOF. The manifest, the fills, the verification and patrol of shards, the scrub and the zeroisation of a bank
(R250–R264). -/

namespace Sys2Proof.Machine

open Sys2Proof

section

variable (s : State)

theorem shard_modShard_same (c : CtxId) (i : Nat) (f : ShardS → ShardS) :
    ((s.modShard c i f).ctx c).shard i = f ((s.ctx c).shard i) := by
  rw [State.modShard, State.ctx_modCtx, if_pos rfl]
  exact tget_tmod_same _ _ _ _

theorem shardManifest_completes (c : CtxId) (m : Manifest) (hruns : (s.ctx c).runs = false)
    (hsig : s.ownerSig m.keyId m.sig = true) (hok : s.manifestOk c m = true) :
    ∃ s', exec (.shardManifest c m) s = .next s' ∧ s'.answer = .fjoco .ok [] ∧ (s'.ctx c).manifest = some m ∧
      (s'.ctx c).shards = [] := by
  rw [exec, execShardManifest, State.loadManifest, hruns, hsig, hok, if_neg (by simp), if_neg (by simp), if_neg (by simp)]
  refine ⟨_, rfl, rfl, ?_, ?_⟩
  · rw [State.ctx_of_fstatus, State.ctx_modCtx, if_pos rfl]
  · rw [State.ctx_of_fstatus, State.ctx_modCtx, if_pos rfl]

/-- A command to fill shards or to give them up is carried out while the stacks' fills run. -/
theorem fillCmd_ok (c : CtxId) (start : Bool) (h : s.st ≠ .quenched) : (s.fillCmd c start).answer = .fjoco .ok [] := by
  rw [State.fillCmd, if_neg h]
  rfl

section

variable {c : CtxId} {i : Nat} {e : ShardEntry} (he : (s.ctx c).entry i = some e)

include he

theorem fillAttempt_completes (hwant : ((s.ctx c).shard i).want = true) (hrun : s.fillsRun = true)
    (hkey : (s.ctx c).key = .opened) (hfree : s.fillsOn c (s.shardPlace c e).1 < 4) :
    ∃ s', exec (.fillAttempt c i) s = .next s' ∧ s'.answer = .done := by
  rw [exec, execFillAttempt]
  dsimp only
  rw [he]
  dsimp only
  have hgo : ¬ ((!((s.ctx c).shard i).want) = true ∨ (!s.fillsRun) = true ∨ (s.ctx c).key ≠ .opened ∨
      4 ≤ s.fillsOn c (s.shardPlace c e).1) := by
    rw [hwant, hrun, hkey]
    simpa using hfree
  rw [if_neg hgo]
  exact ⟨_, rfl, answer_of_ite rfl rfl⟩

theorem fillWritten_completes (hst : ((s.ctx c).shard i).st = .filling) (hgot : e.length.toNat ≤ ((s.ctx c).shard i).got) :
    ∃ s', exec (.fillWritten c i) s = .next s' ∧ s'.answer = .done ∧ ((s'.ctx c).shard i).st = .verifying := by
  rw [exec, execFillWritten]
  rw [he]
  dsimp only
  rw [if_pos ⟨hst, hgot⟩]
  refine ⟨_, rfl, rfl, ?_⟩
  rw [State.ctx_of_ok, shard_modShard_same]

theorem shardVerifyDone_completes (hrun : s.fillsRun = true)
    (hopen : s.shardOpen (s.shardPlace c e).1 (s.shardPlace c e).2 e.length.toNat = true)
    (hst : ((s.ctx c).shard i).st = .verifying) :
    ∃ s', exec (.shardVerifyDone c i) s = .next s' ∧ s'.answer = .done := by
  rw [exec, execShardVerifyDone]
  dsimp only
  rw [he]
  dsimp only
  rw [if_neg (by simp [hst, hopen, hrun])]
  refine ⟨_, rfl, ?_⟩
  split
  · rfl
  · rfl

theorem digestPatrol_completes (hrun : s.fillsRun = true)
    (hopen : s.shardOpen (s.shardPlace c e).1 (s.shardPlace c e).2 e.length.toNat = true)
    (hst : ((s.ctx c).shard i).st = .valid) (hsealed : (s.ctx c).sealed i = true) :
    ∃ s', exec (.digestPatrol c i) s = .next s' ∧ s'.answer = .done := by
  rw [exec, execDigestPatrol]
  dsimp only
  rw [he]
  dsimp only
  rw [if_neg (by simp [hst, hopen, hrun, hsealed])]
  refine ⟨_, rfl, ?_⟩
  split
  · rfl
  · rfl

end

theorem fillAttemptTimeout_completes (c : CtxId) (i : Nat) (hst : ((s.ctx c).shard i).st = .filling) :
    ∃ s', exec (.fillAttemptTimeout c i) s = .next s' ∧ s'.answer = .done :=
  ⟨_, congrArg Host.Outcome.next (if_pos hst), rfl⟩

theorem shardWaitLimit_completes (c : CtxId) (i : Nat) (h : _) (hheld : (s.ctx c).held.find? (fun h => h.1 == i) = some h) :
    ∃ s', exec (.shardWaitLimit c i) s = .next s' ∧ s'.answer = .done := by
  rw [exec, execShardWaitLimit]
  dsimp only
  rw [hheld]
  exact ⟨_, rfl, rfl⟩

theorem scrub_completes (k : Stk) (hgood : s.stackBad k.val = false) (hrun : s.fillsRun = true) :
    ∃ s', exec (.scrub k) s = .next s' ∧ s'.answer = .done :=
  ⟨_, congrArg Host.Outcome.next (if_neg (by simp [hgood, hrun])), rfl⟩

end

/-- Settles O33: each command runs when its shard, stack or bank is as its rule asks. -/
theorem shardCommandsComplete : Obligations.ShardCommandsComplete := by
  intro s
  refine ⟨fun c => ⟨shardManifest_completes s c, fun hst => ⟨⟨_, rfl, fillCmd_ok s c true hst⟩, ⟨_, rfl, fillCmd_ok s c false hst⟩⟩,
    fun i e he => ⟨fillAttempt_completes s he, fillWritten_completes s he, fillAttemptTimeout_completes s c i,
      fun hrun hopen => ⟨shardVerifyDone_completes s he hrun hopen, digestPatrol_completes s he hrun hopen⟩⟩,
    shardWaitLimit_completes s c⟩, fun _ _ _ _ _ _ _ => ⟨_, rfl, rfl⟩,
    fun k => ⟨scrub_completes s k, fun b h => ⟨_, congrArg Host.Outcome.next (if_pos h), rfl⟩⟩⟩

end Sys2Proof.Machine

/-! PROOF. The firing of a unit (R144, R152, R162). -/

namespace Sys2Proof.Machine

open Sys2Proof

/-- The firing that a live unit's operation asks for. -/
def State.fireOp (s : State) (c : CtxId) (d : LDie) (u : Nat) (g : UnitCfg) : State :=
  match g.op with
  | .source addr bytes frame logged => s.fireSource c d u g addr bytes frame logged
  | .ingress _ => s.fireIngress c d u g
  | .wstream => if g.inputs = [] then (s.fired c d u g false).ok else s.turnAway
  | .mover _ _ =>
    match g.inputs, g.sparse with
    | [], some x =>
      s.fireSource c d u g x.base ((x.elems * elemBits x.fmt.toNat + 7) / 8)
        (((x.elems * elemBits x.fmt.toNat + 7) / 8 + 127) / 128) false
    | _, _ => s.fireInputs c d u g
  | _ => s.fireInputs c d u g

/-- What the operation of a unit needs, beside a token at every input: room at its outputs, or a memory or link that takes
the token. -/
def State.opReady (s : State) (c : CtxId) (d : LDie) (u : Nat) (g : UnitCfg) (ts : List Token) : Prop :=
  match g.op with
  | .lane _ _ _ | .array _ | .engine _ _ _ _ _ => s.canEmitAll g = true
  | .mover _ _ => ts ≠ [] ∧ g.outputs ≠ [] ∧ s.canEmitAll g = true
  | .sink addr => ∃ t, ts.head? = some t ∧ (s.sinkWrite c d u g addr t).2 = true
  | .egress _ _ _ => ts ≠ [] ∧ s.egressOpen (unitKey d u) = true
  | _ => False

theorem not_isNone_of_isSome {A : Type} {o : Option A} (h : o.isSome = true) : ¬ o.isNone = true := by
  rw [Option.isNone_iff_eq_none]
  exact Option.isSome_iff_ne_none.mp h

section

variable (s : State)

theorem unitFiring_live {d : LDie} {u : Fin 112} {c : CtxId} {g : UnitCfg}
    (hlive : (s.behindChunk d u.val).live d u.val = some (c, g)) :
    exec (.unitFiring d u) s = .next ((s.behindChunk d u.val).fireOp c d u.val g) := by
  rw [exec, execUnitFiring, hlive]
  rfl

variable {c : CtxId} {d : LDie} {u : Nat} {g : UnitCfg}

/-- A source with credits at every output sends its next payload. -/
theorem fireSource_done {addr : W64} {bytes frame : Nat} {t : State} {f : BitVec 2} {b : Bytes}
    (hroom : s.canEmitAll g = true) (hnext : s.sourceNext c d u g addr bytes = (t, some (f, b))) :
    (s.fireSource c d u g addr bytes frame false).answer = .done := by
  rw [State.fireSource, hroom]
  dsimp only
  rw [hnext]
  · rfl
  · exact fun _ h => Bool.noConfusion h

/-- An INGRESS port delivers a logged token of its epoch. -/
theorem fireIngress_done {lq : Fin 4096} {s3 : State} {t : Token} (hop : g.op = .ingress lq)
    (hnext : (s.logArrivals c d u lq.val (s.logOf (unitKey d u)).waiting.length).logNext c d u = (s3, some t))
    (hroom : t.endMark = true ∨ s3.canEmitAll g = true)
    (hfate : tokenFate c (unitRole u g) (s3.unit (unitKey d u)) { t with ctx := BitVec.ofNat 5 c.val } = .accept) :
    (s.fireIngress c d u g).answer = .done := by
  rw [State.fireIngress, hop]
  dsimp only
  rw [hnext]
  dsimp only
  rw [hfate]
  dsimp only
  split
  · rfl
  · rename_i hmark
    rw [hroom.resolve_left hmark]
    rfl

/-- The tokens that a firing takes are the accepted heads of its inputs. -/
theorem taken_tokens (hs : List (QueueDecl × Option Token)) :
    (hs.filterMap (fun p => p.2.map (fun t => (p.1, t)))).map (·.2) = hs.filterMap (·.2) := by
  rw [List.map_filterMap]
  congr 1
  funext p
  rw [Option.map_map]
  exact Option.map_id'

/-- A unit whose operation is ready fires; one whose token is not DENSE or is poisoned consumes it. -/
theorem fireOn_done {hs : List (QueueDecl × Option Token)} (h : s.opReady c d u g (hs.filterMap (·.2))) :
    (s.fireOn c d u g hs).answer = .done := by
  rw [← taken_tokens hs] at h
  unfold State.fireOn
  dsimp only
  generalize hgot : hs.filterMap (fun p => p.2.map (fun t => (p.1, t))) = got at h ⊢
  split
  · rfl
  split
  · rfl
  unfold State.opReady at h
  cases hop : g.op with
  | array a =>
    rw [hop] at h
    rw [h]
    rfl
  | lane fmt conv cacheable =>
    rw [hop] at h
    rw [h]
    rfl
  | engine op src dst conv params =>
    rw [hop] at h
    rw [h]
    rfl
  | mover expand cacheable =>
    rw [hop] at h
    obtain ⟨htok, hout, hroom⟩ := h
    obtain ⟨t, ts, hts⟩ := List.exists_cons_of_ne_nil htok
    obtain ⟨o, os, hos⟩ := List.exists_cons_of_ne_nil hout
    rw [hts, hos, hroom]
    cases g.sparse with
    | none => rfl
    | some x => rfl
  | sink addr =>
    rw [hop] at h
    obtain ⟨t, hhead, hwrite⟩ := h
    obtain ⟨ts, hts⟩ := List.head?_eq_some_iff.mp hhead
    rw [hts]
    dsimp only
    rw [hwrite]
    rfl
  | egress lq dest depth =>
    rw [hop] at h
    obtain ⟨htok, hopen⟩ := h
    obtain ⟨t, ts, hts⟩ := List.exists_cons_of_ne_nil htok
    rw [hts]
    dsimp only
    rw [hopen]
    rfl
  | wstream => rw [hop] at h; exact h.elim
  | source addr bytes frame logged => rw [hop] at h; exact h.elim
  | ingress lq => rw [hop] at h; exact h.elim

/-- A unit with a token at every input that is not a back edge fires when its operation is ready. -/
theorem fireInputs_done (hlive : ((s.heads c d u g).1.live d u).isSome = true)
    (hsome : (s.heads c d u g).2.filter (fun p => !p.1.backEdge) ≠ [])
    (hall : ∀ p ∈ (s.heads c d u g).2.filter (fun p => !p.1.backEdge), p.2.isSome = true)
    (hready : ((s.heads c d u g).1.modUnit (unitKey d u) (fun x => x.joinHold s.now)).opReady c d u g
      ((s.heads c d u g).2.filterMap (·.2))) :
    (s.fireInputs c d u g).answer = .done := by
  have hwait : (((s.heads c d u g).2.filter (fun p => !p.1.backEdge)).any (fun p => p.2.isNone) ||
      passesTokens g && (s.heads c d u g).2.all (fun p => p.2.isNone)) = false := by
    obtain ⟨p, hp⟩ := List.exists_mem_of_ne_nil _ hsome
    rw [Bool.or_eq_false_iff, Bool.and_eq_false_iff]
    refine ⟨List.any_eq_false.mpr fun q hq => not_isNone_of_isSome (hall q hq), .inr (List.all_eq_false.mpr ⟨p, ?_, ?_⟩)⟩
    · exact (List.mem_filter.mp hp).1
    · exact not_isNone_of_isSome (hall p hp)
  unfold State.fireInputs
  dsimp only
  rw [if_neg (not_isNone_of_isSome hlive), hwait]
  exact fireOn_done _ hready

end

/-- Settles O21: each kind of firing runs once what its operation needs is there. -/
theorem unitFiringCompletes : Obligations.UnitFiringCompletes := by
  intro s d u c g s1 hlive
  have hfire : (s1.fireOp c d u.val g).answer = .done → ∃ s', exec (.unitFiring d u) s = .next s' ∧ s'.answer = .done :=
    fun h => ⟨_, unitFiring_live s hlive, h⟩
  refine ⟨fun hop hin => hfire ?wstream, fun addr bytes frame t f b hop hroom hnext => hfire ?source,
    fun lq s3 t hop hnext hroom hfate => hfire ?ingress, ?inputs⟩
  case wstream =>
    rw [State.fireOp, hop]
    dsimp only
    rw [if_pos hin]
    rfl
  case source =>
    rw [State.fireOp, hop]
    exact fireSource_done s1 hroom hnext
  case ingress =>
    rw [State.fireOp, hop]
    exact fireIngress_done s1 hop hnext hroom hfate
  case inputs =>
    intro r need s2 fires hlive' hsome hall
    have hinputs : s2.opReady c d u.val g (r.2.filterMap (·.2)) → (s1.fireInputs c d u.val g).answer = .done :=
      fireInputs_done s1 hlive' hsome hall
    have htoken : r.2.filterMap (·.2) ≠ [] := by
      obtain ⟨p, hp⟩ := List.exists_mem_of_ne_nil _ hsome
      obtain ⟨t, ht⟩ := Option.isSome_iff_exists.mp (hall p hp)
      exact List.ne_nil_of_mem (List.mem_filterMap.mpr ⟨p, (List.mem_filter.mp hp).1, ht⟩)
    refine ⟨fun hop hroom => hfire ?_, fun dst mode hop hin hout hroom => hfire ?_, fun addr t hop hhead hwrite => hfire ?_,
      fun lq dest n hop hopen => hfire ?_⟩
    · rw [State.fireOp]
      rw [State.opReady] at hinputs
      cases h : g.op with
      | array a => rw [h] at hinputs; exact hinputs hroom
      | lane fmt conv cacheable => rw [h] at hinputs; exact hinputs hroom
      | engine op src dst conv params => rw [h] at hinputs; exact hinputs hroom
      | mover _ _ => rw [h] at hop; exact Bool.noConfusion hop
      | sink _ => rw [h] at hop; exact Bool.noConfusion hop
      | egress _ _ _ => rw [h] at hop; exact Bool.noConfusion hop
      | wstream => rw [h] at hop; exact Bool.noConfusion hop
      | source _ _ _ _ => rw [h] at hop; exact Bool.noConfusion hop
      | ingress _ => rw [h] at hop; exact Bool.noConfusion hop
    · obtain ⟨i, is, his⟩ := List.exists_cons_of_ne_nil hin
      rw [State.opReady, hop] at hinputs
      rw [State.fireOp, hop, his]
      exact hinputs ⟨htoken, hout, hroom⟩
    · rw [State.opReady, hop] at hinputs
      rw [State.fireOp, hop]
      exact hinputs ⟨t, hhead, hwrite⟩
    · rw [State.opReady, hop] at hinputs
      rw [State.fireOp, hop]
      exact hinputs ⟨htoken, hopen⟩

end Sys2Proof.Machine

/-! PROOF. The commands of a context's graph (R160–R166, R177, R182, R496). -/

namespace Sys2Proof.Machine

open Sys2Proof

theorem Kept.ctx_eq {L : List Part} {s t : State} (k : Kept L s t) (h : Part.contexts ∉ L) (c : CtxId) : t.ctx c = s.ctx c := by
  have hf : t.flow = s.flow := k.same _ h
  rw [State.ctx, State.ctx, hf]

section

variable (s : State)

theorem ctx_modCtx_same (c : CtxId) (f : CtxS → CtxS) : (s.modCtx c f).ctx c = f (s.ctx c) :=
  (State.ctx_modCtx s c c f).trans (if_pos rfl)

/-- A graph_cmd that is accepted answers OK. -/
theorem graphCmd_runs {may : Bool} (f : State → State) (hself : s.st ≠ .selftest) (hq : s.st ≠ .quenched)
    (hmay : may = true) : s.graphCmd may f = (f s).fstatus .ok := by
  rw [State.graphCmd, if_neg (by simp [hself, hq, hmay])]

theorem arm_ctx (c : CtxId) (kind : SwKind) : ((s.arm c kind).ctx c).sw = .arming ∧ ((s.arm c kind).ctx c).kind = some kind := by
  rw [State.arm, ctx_modCtx_same]
  exact ⟨rfl, rfl⟩

theorem haltCtx_sw (c : CtxId) : ((s.haltCtx c).ctx c).sw = .halted := by
  rw [State.haltCtx, ctx_modCtx_same]

/-! ### Arming ends -/

theorem openSwitch_ctx (c : CtxId) (sw : SwitchSt) (target : W32) :
    ((s.openSwitch c sw target).ctx c).sw = sw ∧ ((s.openSwitch c sw target).ctx c).target = target := by
  rw [State.openSwitch, ctx_modCtx_same]
  exact ⟨rfl, rfl⟩

theorem bcast_ctx (c d : CtxId) : (s.bcast c).ctx d = s.ctx d :=
  (Kept.refl.bcast (List.Subset.refl _) c).ctx_eq (by decide) d

theorem settleArm_rollback {c : CtxId} (hsw : (s.ctx c).sw = .arming) (hkind : (s.ctx c).kind = some .rollback) :
    s.settleArm c = (s.openSwitch c .flushing (s.ctx c).previous).bcast c := by
  rw [State.settleArm]
  dsimp only
  rw [hsw, hkind]

/-- The load buffers of the context's units are filled. -/
def State.loadStaged (s : State) (c : CtxId) (i : Image) : State :=
  (s.unitsOf c).foldl (fun (s : State) p => s.modUnit p.1 (fun u => { u with load := s.filled c i p.1 u })) s

theorem loadStaged_ctx (c d : CtxId) (i : Image) : (s.loadStaged c i).ctx d = s.ctx d :=
  foldl_keeps (f := fun (s : State) (p : Nat × UnitS) => s.modUnit p.1 (fun u => { u with load := s.filled c i p.1 u }))
    (fun t => t.ctx d) (fun _ _ => rfl) _ s

/-- A switch whose staged configuration is not refused opens. -/
theorem settleArm_opens {c : CtxId} (hsw : (s.ctx c).sw = .arming) (hok : s.armRefusal c = none) :
    ∃ i, ((s.ctx c).kind = some .drain → s.settleArm c = (s.loadStaged c i).openSwitch c .draining (s.ctx c).staged) ∧
      ((s.ctx c).kind = some .flush →
        s.settleArm c = ((s.loadStaged c i).openSwitch c .flushing (s.ctx c).staged).bcast c) := by
  have himage : (s.ctx c).image ≠ none := by
    intro h
    rw [State.armRefusal] at hok
    dsimp only at hok
    rw [h] at hok
    exact (nomatch hok)
  obtain ⟨i, hi⟩ := Option.ne_none_iff_exists'.mp himage
  refine ⟨i, fun hkind => ?_, fun hkind => ?_⟩
  · rw [State.settleArm]
    dsimp only
    rw [hsw, hkind, hi, hok]
    rfl
  · rw [State.settleArm]
    dsimp only
    rw [hsw, hkind, hi, hok]
    rfl

theorem settleArm_completes {c : CtxId} (hsw : (s.ctx c).sw = .arming) (hok : s.armRefusal c = none) :
    ((s.ctx c).kind = some .drain →
      ((s.settleArm c).ctx c).sw = .draining ∧ ((s.settleArm c).ctx c).target = (s.ctx c).staged) ∧
    ((s.ctx c).kind = some .flush →
      ((s.settleArm c).ctx c).sw = .flushing ∧ ((s.settleArm c).ctx c).target = (s.ctx c).staged) ∧
    ((s.ctx c).kind = some .rollback →
      ((s.settleArm c).ctx c).sw = .flushing ∧ ((s.settleArm c).ctx c).target = (s.ctx c).previous) := by
  obtain ⟨i, hdrain, hflush⟩ := settleArm_opens s hsw hok
  refine ⟨fun h => ?_, fun h => ?_, fun h => ?_⟩
  · rw [hdrain h]
    exact openSwitch_ctx _ c _ _
  · rw [hflush h, bcast_ctx]
    exact openSwitch_ctx _ c _ _
  · rw [settleArm_rollback s hsw h, bcast_ctx]
    exact openSwitch_ctx _ c _ _

/-! ### SUSPEND and REINSTATE -/

theorem suspendCtx_ctx (c : CtxId)
    (h : (let r := ((s.bcast c).stopUnits c).scanRegion c none; (r.1.scanCommit c r.2).2.torn) = false) :
    ((s.suspendCtx c).ctx c).sw = .suspended ∧ ((s.suspendCtx c).ctx c).suspendImg.isSome = true := by
  dsimp only at h
  rw [State.suspendCtx, h, if_neg (by simp), ctx_modCtx_same]
  exact ⟨rfl, rfl⟩

theorem mapTiles_banks (c : CtxId) (f : TileS → TileS) :
    (s.mapTiles c f).spadMem = s.spadMem ∧ (s.mapTiles c f).commonsMem = s.commonsMem := by
  have h := foldl_keeps (f := fun (s : State) (p : LDie × LTile) =>
    match s.tileKey p.1 p.2 with
    | some k => s.modTile k f
    | none => s) (fun t => (t.spadMem, t.commonsMem)) (fun t p => by split <;> rfl) (s.ctx c).tiles s
  exact Prod.mk.inj h

theorem allDirty_banks (c : CtxId) :
    (s.allDirty c).spadMem = s.spadMem ∧ (s.allDirty c).commonsMem = s.commonsMem := by
  obtain ⟨hspad, hcommons⟩ := mapTiles_banks s c (fun t =>
    { t with
      dirty0 := t.resident.flatMap (fun r => List.range' (r.1 / 4096) (r.2 / 4096))
      dirty1 := t.resident.flatMap (fun r => List.range' (r.1 / 4096) (r.2 / 4096)) })
  unfold State.allDirty
  dsimp only
  rw [← hspad, ← hcommons]
  exact ⟨foldl_keeps State.spadMem (fun t p => by split <;> rfl) _ _,
    foldl_keeps State.commonsMem (fun t p => by split <;> rfl) _ _⟩

theorem mirror_banks (k off : Nat) (d : Bytes) (l : List Nat) :
    (s.mirror k off d l).spadMem = s.spadMem ∧ (s.mirror k off d l).commonsMem = s.commonsMem := by
  unfold State.mirror
  split
  · exact ⟨rfl, rfl⟩
  · split
    · exact ⟨rfl, rfl⟩
    · exact ⟨rfl, rfl⟩

theorem stackLand_banks (k off : Nat) (d : Bytes) :
    (s.stackLand k off d).spadMem = s.spadMem ∧ (s.stackLand k off d).commonsMem = s.commonsMem :=
  mirror_banks _ k off d _

theorem forgetScratch_banks (c : CtxId) :
    (s.forgetScratch c).spadMem = s.spadMem ∧ (s.forgetScratch c).commonsMem = s.commonsMem := by
  unfold State.forgetScratch
  split
  · exact ⟨rfl, rfl⟩
  · constructor
    · refine foldl_keeps State.spadMem (fun t p => ?_) _ _
      exact (stackLand_banks _ _ _ _).1
    · refine foldl_keeps State.commonsMem (fun t p => ?_) _ _
      exact (stackLand_banks _ _ _ _).2

theorem reinstate_completes {c : CtxId} {g : Scan} {t : State} (hself : s.st ≠ .selftest) (hq : s.st ≠ .quenched)
    (hsw : (s.ctx c).sw = .suspended) (himg : (s.ctx c).suspendImg = some g) (hcheck : s.scanChecks c g = (t, none)) :
    ∃ s', exec (.reinstate c) s = .next s' ∧ s'.answer = .fjoco .ok [] ∧ (s'.ctx c).sw = .halted ∧
      s'.spadMem = (t.scanIn c g).spadMem ∧ s'.commonsMem = (t.scanIn c g).commonsMem := by
  have hrun : s.reinstate c =
      ((((t.scanIn c g).allDirty c).forgetScratch c).modCtx c (fun x => { x with sw := .halted, kind := none })).fstatus .ok := by
    rw [State.reinstate, graphCmd_runs s _ hself hq (by rw [hsw]; rfl)]
    rw [himg]
    dsimp only
    rw [hcheck]
  obtain ⟨hspad, hcommons⟩ := allDirty_banks (t.scanIn c g) c
  obtain ⟨hspad', hcommons'⟩ := forgetScratch_banks ((t.scanIn c g).allDirty c) c
  have hhalted : ((s.reinstate c).ctx c).sw = .halted := by rw [hrun, State.ctx_of_fstatus, ctx_modCtx_same]
  have hanswer : (s.reinstate c).answer = .fjoco .ok [] := by rw [hrun]; rfl
  have hspad'' : (s.reinstate c).spadMem = (t.scanIn c g).spadMem := by
    rw [hrun, State.fstatus_spadMem, State.modCtx_spadMem, hspad', hspad]
  have hcommons'' : (s.reinstate c).commonsMem = (t.scanIn c g).commonsMem := by
    rw [hrun, State.fstatus_commonsMem, State.modCtx_commonsMem, hcommons', hcommons]
  exact ⟨s.reinstate c, rfl, hanswer, hhalted, hspad'', hcommons''⟩

/-! ### Images and graphs -/

theorem imageLoad_completes (c : CtxId) (img : Image) (hself : s.st ≠ .selftest) (hkey : (s.ctx c).key = .opened)
    (hsw : (s.ctx c).sw = .none) (hok : s.imageRefusal c img = none) :
    ∃ s', exec (.imageLoad c img) s = .next s' ∧ s'.answer = .fjoco .ok [] ∧ (s'.ctx c).image = some img := by
  rw [exec, execImageLoad, if_neg (by simp [hself, hkey]), if_neg (by simp [hsw]), hok]
  refine ⟨_, rfl, rfl, ?_⟩
  rw [State.ctx_of_fstatus, (Kept.refl.resetResidues (List.Subset.refl _) _ img).ctx_eq (by decide), State.bind]
  dsimp only
  rw [ctx_modCtx_same]

theorem graphStart_completes (c : CtxId) (i : Image) (himage : (s.ctx c).image = some i) (hst : s.st = .idle ∨ s.st = .run)
    (hsw : (s.ctx c).sw = .none) (hkey : (s.ctx c).key = .opened) :
    ∃ s', exec (.graphStart c) s = .next s' ∧ s'.answer = .fjoco .ok [] ∧ (s'.ctx c).sw = .steady ∧
      (s'.ctx c).active = i.graph.version := by
  rw [exec, execGraphStart, himage]
  dsimp only
  rw [if_pos ⟨hst, hsw, hkey⟩]
  have hctx : ((s.startGraph c i).forgetScratch c).ctx c = (s.startGraph c i).ctx c :=
    (Kept.refl.forgetScratch (List.Subset.refl _) c).ctx_eq (by decide) c
  have hstart : ((s.startGraph c i).ctx c).sw = .steady ∧ ((s.startGraph c i).ctx c).active = i.graph.version := by
    unfold State.startGraph
    dsimp only
    rw [(Kept.refl.settleRun (List.Subset.refl _)).ctx_eq (by decide),
      (Kept.refl.setRegulators (List.Subset.refl _)).ctx_eq (by decide)]
    rw [show ∀ (t : State) (x : Tbl (Option GroupRun)), State.ctx { t with fab := { t.fab with group := x } } c = t.ctx c
      from fun _ _ => rfl, ctx_modCtx_same]
    exact ⟨rfl, rfl⟩
  exact ⟨_, rfl, rfl, by rw [State.ctx_of_fstatus, hctx]; exact hstart.1, by rw [State.ctx_of_fstatus, hctx]; exact hstart.2⟩

end

/-- Settles O19: each command is accepted in its switch states, and leaves the one that its rule names. -/
theorem graphSwitchCommandsComplete : Obligations.GraphSwitchCommandsComplete := by
  intro s c hself hq
  have hrun : ∀ {may : Bool} (f : State → State), may = true → s.graphCmd may f = (f s).fstatus .ok :=
    fun f => graphCmd_runs s f hself hq
  refine ⟨fun hsw => ?drain, fun hsw => ?flush, fun hsw => ?drainToFlush, fun hsw hprev => ?rollback,
    settleArm_completes s, fun hsw => ?halt, fun hsw => ?resume, fun hsw htorn => ?suspend,
    fun g t => reinstate_completes s hself hq, fun img hkey hsw => imageLoad_completes s c img hself hkey hsw,
    fun i hi hst hsw hkey => graphStart_completes s c i hi hst hsw hkey⟩
  case drain =>
    exact ⟨_, congrArg Host.Outcome.next (hrun _ (by rw [hsw]; rfl)), rfl, (arm_ctx s c .drain).1, (arm_ctx s c .drain).2⟩
  case flush =>
    have h : s.switchFlush c = (s.arm c .flush).fstatus .ok := by
      rw [State.switchFlush]
      obtain hsw | hsw := hsw
      · rw [hsw]
        exact hrun _ rfl
      · rw [hsw]
        exact hrun _ rfl
    exact ⟨_, congrArg Host.Outcome.next h, rfl, (arm_ctx s c .flush).1, (arm_ctx s c .flush).2⟩
  case drainToFlush =>
    have h : s.switchFlush c = (s.drainToFlush c).fstatus .ok := by
      rw [State.switchFlush, hsw]
      exact hrun _ rfl
    refine ⟨_, congrArg Host.Outcome.next h, rfl, ?_⟩
    rw [State.ctx_of_fstatus, State.drainToFlush, ctx_modCtx_same]
  case rollback =>
    have hmay : (((s.ctx c).sw == .steady || (s.ctx c).sw == .halted) && (s.ctx c).previous != 0) = true := by
      obtain hsw | hsw := hsw
      · simpa [hsw] using hprev
      · simpa [hsw] using hprev
    exact ⟨_, congrArg Host.Outcome.next (hrun _ hmay), rfl, (arm_ctx _ c .rollback).1, (arm_ctx _ c .rollback).2⟩
  case halt =>
    exact ⟨_, congrArg Host.Outcome.next (hrun _ (by rw [hsw]; rfl)), rfl, haltCtx_sw _ c⟩
  case resume =>
    refine ⟨_, congrArg Host.Outcome.next (hrun _ (by rw [hsw]; rfl)), rfl, ?_⟩
    rw [State.ctx_of_fstatus, ctx_modCtx_same]
  case suspend =>
    have hmay : ((s.ctx c).sw == .steady || (s.ctx c).sw == .halted) = true := by
      obtain hsw | hsw := hsw
      · rw [hsw]; rfl
      · rw [hsw]; rfl
    obtain ⟨hstate, himg⟩ := suspendCtx_ctx s c htorn
    refine ⟨_, congrArg Host.Outcome.next (hrun (fun s => s.suspendCtx c) hmay), rfl, ?_, ?_⟩
    · rw [State.ctx_of_fstatus, hstate]
    · rw [State.ctx_of_fstatus, himg]

end Sys2Proof.Machine

/-! PROOF. Top-K selection (R207) and the commands of a ring exchange (R329–R335). -/

namespace Sys2Proof.Machine

open Sys2Proof

section

variable (s : State)

theorem topkSelection_completes (d : LDie) (c : CtxId) (g : UnitCfg) (vec : Nat) (ins und : List Nat) (k : Nat) (l : LayerDecl)
    (settled : List (Nat × W32)) (dst : Nat) (hlive : s.live d (96 + geyser) = some (c, g))
    (hcert : (s.engine (engKey d geyser)).certs.find? (fun p => p.1 == vec) = some (k, ins, und))
    (hlayer : (s.geyserLayer d).map (·.2) = some l) (hcount : l.v ≤ (s.engine (engKey d geyser)).certs.length)
    (hund : ∀ i ∈ und, (settled.find? (fun p => p.1 == i)).isSome)
    (hins : l.indices = false → ∀ i ∈ ins, (settled.find? (fun p => p.1 == i)).isSome) :
    ∃ s', exec (.topkSelection d vec settled dst) s = .next s' ∧ s'.answer = .done := by
  obtain ⟨⟨g', _⟩, hg, rfl⟩ := Option.map_eq_some_iff.mp hlayer
  have hvalues : ∀ js : List Nat, (∀ i ∈ js, (settled.find? (fun p => p.1 == i)).isSome) →
      js.all (fun i => ((settled.find? (fun p => p.1 == i)).map (·.2)).isSome) = true := fun js h =>
    List.all_eq_true.mpr fun i hi => by rw [Option.isSome_map]; exact h i hi
  rw [exec, execTopkSelection]
  dsimp only
  rw [hlive, hcert, hg]
  dsimp only
  rw [if_neg]
  · exact ⟨_, rfl, rfl⟩
  · rintro (h | h | ⟨h, h'⟩)
    · exact absurd h (Nat.not_lt.mpr hcount)
    · rw [hvalues und hund] at h
      exact absurd h (by decide)
    · rw [hvalues ins (hins (by simpa using h))] at h'
      exact absurd h' (by decide)

/-- A step whose ring has its turn, and which has moved or ends, leaves its mark. -/
theorem ringStep_completes {d : LDie} {q : RingId} {c : CtxId} {x : Desc} {k : Nat} {g : GroupRun} {t : State}
    (hlive : s.engineLive c d 6 = true) (hctx : (s.ring (ringKey d 6 q)).ctx = some c)
    (hfront : (s.ring (ringKey d 6 q)).descs.find? (fun y => y.fin.isNone) = some x)
    (hgroup : s.groupOfRing d q (bits (dA x.words) 14 2) = some (k, g)) (hop : dOp x.words = 0x63) (hg : g.ctx = c)
    (hst : g.st = .running) (hturn : s.ringTurn d 6 q = true) (htoken : s.tokenReady d 102 = false)
    (hstep : s.stepRun k g x.words = .moved t ∨ s.stepRun k g x.words = .ends t none) :
    ∃ s', exec (.ringStep d q) s = .next s' ∧ s'.answer = .done := by
  have hgo : ¬ (dOp x.words ≠ 0x63 ∨ !s.engineLive c d 6 ∨ !s.ringTurn d 6 q ∨ g.ctx ≠ c ∨ g.st ≠ .running) := by
    rw [hlive, hop, hturn, hg, hst]
    simp
  rw [exec, execRingStep, State.ringStepRun]
  dsimp only
  rw [hctx, hfront]
  dsimp only
  rw [hgroup]
  dsimp only
  rw [if_neg hgo, htoken]
  obtain h | h := hstep
  · rw [h]
    exact ⟨_, rfl, rfl⟩
  · rw [h]
    exact ⟨_, rfl, rfl⟩

section

variable {d : LDie} {g : Fin 4} {x : GroupRun} (hx : s.group (groupKey d g) = some x)

theorem group_modGroup_same {k : Nat} {y : GroupRun} (h : s.group k = some y) (f : GroupRun → GroupRun) :
    (s.modGroup k f).group k = some (f y) := by
  show tget none (tset none _ k ((s.group k).map f)) k = _
  rw [tget_tset_same, h]
  rfl

include hx

theorem bucketRunStart_completes (slot : Nat) (hst : x.st = .idle ∨ x.st = .running) (hslot : slot < x.decl.slots.length)
    (hruns : (s.ctx x.ctx).runs = true) : ∃ s', exec (.bucketRunStart d g slot) s = .next s' ∧ s'.answer = .done := by
  rw [exec, execBucketRunStart, hx]
  exact ⟨_, congrArg Host.Outcome.next (if_pos ⟨hst, hslot, hruns⟩), rfl⟩

/-- A step that waits too long halts its group and its context. -/
theorem ringStepTimeout_completes (hst : x.st = .running) :
    ∃ s', exec (.ringStepTimeout d g) s = .next s' ∧ s'.answer = .done ∧
      (s'.group (groupKey d g)).map (·.st) = some .halted ∧ (s'.ctx x.ctx).sw = .halted := by
  have hfault : ∀ n, (((s.notBefore n).ringFault (groupKey d g) 0x9031).group (groupKey d g)).map (·.st) = some .halted := by
    intro n
    have hx' : (((s.notBefore n).count .ring (groupKey d g) 0x24 1).fault 0x9031 (some x.ctx) (locEngine x.decl.die.val)
        (groupDetail x)).group (groupKey d g) = some x := by
      rw [State.group, State.fault_fab]
      exact hx
    rw [State.ringFault, show (s.notBefore n).group (groupKey d g) = some x from hx]
    dsimp only
    rw [group_modGroup_same _ hx']
    rfl
  rw [exec, execRingStepTimeout]
  rw [hx]
  refine ⟨_, congrArg Host.Outcome.next (if_pos hst), rfl, hfault _, ?_⟩
  rw [State.ctx_of_ok, haltCtx_sw]

/-- A grant of the group's own parameters is held. -/
theorem ringGrant_completes (hst : x.st ≠ .halted) (slot : W16) (run : W32) (step : W16) (half : W64) :
    ∃ s', exec (.ringGrant d g (BitVec.ofNat 8 (s.wireOf x)) slot run step (BitVec.ofNat 16 x.decl.p) half) s = .next s' ∧
      s'.answer = .done ∧
      (g.val = x.decl.group.val → ∃ y, s'.group (groupKey d g) = some y ∧
        ⟨slot.toNat, run.toNat, step.toNat, half.toNat⟩ ∈ y.grants) := by
  have hsome : (s.group (groupKey d g)).isSome = true := by rw [hx]; rfl
  refine ⟨_, congrArg Host.Outcome.next (if_pos hsome), rfl, fun hgroup => ?_⟩
  have hwire : (BitVec.ofNat 8 (s.wireOf x)).toNat = s.wireOf x := by
    rw [BitVec.toNat_ofNat, State.wireOf]
    split
    · rfl
    · split
      · rfl
      · rfl
  have hp : (BitVec.ofNat 16 x.decl.p).toNat = x.decl.p % 2 ^ 16 := BitVec.toNat_ofNat _ _
  have hmine : ¬ (g.val ≠ x.decl.group.val ∨ (BitVec.ofNat 8 (s.wireOf x)).toNat ≠ s.wireOf x ∨
      (BitVec.ofNat 16 x.decl.p).toNat ≠ x.decl.p % 2 ^ 16) := by
    rw [hwire, hp, hgroup]
    simp
  refine ⟨{ x with grants := insertNew ⟨slot.toNat, run.toNat, step.toNat, half.toNat⟩ x.grants }, ?_, mem_insertNew_self _ _⟩
  show State.group (State.takeGrant _ _ _ _ _ _ _ _ _) _ = _
  rw [State.takeGrant, hx]
  dsimp only
  rw [if_neg hst, if_neg hmine]
  exact group_modGroup_same s hx _

theorem ringDone_completes (wire : Byte) (slot : W16) (run : W32) (step p : W16) (bytes : W32) :
    ∃ s', exec (.ringDone d g wire slot run step p bytes) s = .next s' ∧ s'.answer = .done := by
  have hsome : (s.group (groupKey d g)).isSome = true := by rw [hx]; rfl
  exact ⟨_, congrArg Host.Outcome.next (if_pos hsome), rfl⟩

end

end

/-- Settles O12: each command runs when the decisions, the step or the group are as its rule asks. -/
theorem selectionAndRingExchangeCommandsComplete : Obligations.SelectionAndRingExchangeCommandsComplete := by
  intro s d
  refine ⟨topkSelection_completes s d, fun q c x k g t => ringStep_completes s, fun g slot x hx =>
    ⟨bucketRunStart_completes s hx slot, ringStepTimeout_completes s hx, ringGrant_completes s hx,
      fun wire run step p bytes _ _ _ _ => ringDone_completes s hx wire _ run step p bytes⟩⟩

end Sys2Proof.Machine

/-! PROOF. Commons accesses (R112) and the commands of a descriptor ring (R120–R125). -/

namespace Sys2Proof.Machine

open Sys2Proof

section

variable (s : State)

theorem ring_modRing_same (k : Nat) (f : Ring → Ring) : (s.modRing k f).ring k = f (s.ring k) :=
  (State.ring_modRing s k k f).trans (if_pos rfl)

/-! ### Commons accesses -/

/-- A bank that has an access to grant grants it. -/
theorem commonsAccess_grants {d : LDie} {p : Nat} (hp : s.phys d = some p) (bank : Fin 64) (reqs : List MemReq) (r : MemReq) :
    let s0 := s.commonsArrive d p (atBank 20 64 (2 ^ 25) bank.val reqs)
    roundRobin (tget 0 (s0.commons p).ptr bank.val) 20 (tget [] (s0.commons p).bankWait bank.val) = some r →
    exec (.commonsAccess d bank reqs) s = .next ((s0.modCommons p (fun y =>
      { y with
        ptr := tset 0 y.ptr bank.val ((r.port + 1) % 20)
        bankWait := tset [] y.bankWait bank.val ((tget [] y.bankWait bank.val).erase r) })).commonsGrant d r) := by
  intro s0 hr
  rw [exec, execCommonsAccess, hp]
  dsimp only
  rw [hr]

theorem commonsGrant_of_read {d : LDie} {r : MemReq} {t : State} {b : Bytes} (hread : r.write = false)
    (hok : s.commonsRead ⟨r.ctx, r.firmware, if r.port = 18 then .none else r.role, commonsUnit r.port⟩ d r.addr r.len =
      (t, .ok b)) : s.commonsGrant d r = { t with answer := .data .ok b } := by
  rw [State.commonsGrant, hread]
  dsimp only
  rw [hok]
  rfl

theorem commonsGrant_of_write {d : LDie} {r : MemReq} {t : State} {b : Bytes} (hwrite : r.write = true)
    (hok : s.commonsWrite ⟨r.ctx, r.firmware, if r.port = 18 then .none else r.role, commonsUnit r.port⟩ d r.addr r.data
      r.unsettled = (t, .ok b)) : s.commonsGrant d r = t.status .ok := by
  rw [State.commonsGrant, hwrite]
  dsimp only
  rw [hok]
  rfl

/-! ### Registers of a ring -/

section

variable {d : LDie} {c : CtxId} {e : EngId} {q : RingId} (hphys : (s.phys d).isNone = false)
  (hctx : (s.ring (ringKey d e q)).ctx = some c)

include hctx

theorem ringBound_own (f : State → State) : s.ringBound c d e q f = (f s, .ok) := by
  rw [State.ringBound, if_neg (not_not_intro hctx)]

include hphys

theorem tail_completes (v : W32) (h : (v - (s.ring (ringKey d e q)).done).toNat ≤ (s.ring (ringKey d e q)).slots) :
    exec (.tail c d e q v) s = .next ((s.modRing (ringKey d e q) (fun r => { r with tail := v })).status .ok) := by
  rw [exec, execTail, hphys, ringBound_own s hctx]
  rw [State.ringTail]
  dsimp only
  rw [if_neg (Nat.not_lt.mpr h)]
  rfl

theorem ringResume_completes :
    exec (.ringResume c d e q) s =
      .next ((s.modRing (ringKey d e q) (fun r => { r with halted := false })).status .ok) := by
  rw [exec, execRingResume, hphys, ringBound_own s hctx]
  rfl

/-- An abort empties the ring up to its tail. -/
theorem ringAbort_completes :
    ∃ s', exec (.ringAbort c d e q) s = .next s' ∧ s'.answer = .status .ok ∧
      (s'.ring (ringKey d e q)).descs = [] ∧ (s'.ring (ringKey d e q)).waitFence = false ∧
      (s'.ring (ringKey d e q)).head = (s'.ring (ringKey d e q)).tail ∧
      (s'.ring (ringKey d e q)).done = (s'.ring (ringKey d e q)).tail := by
  have hrun : exec (.ringAbort c d e q) s = .next ((s.ringStop c d e q).status .ok) := by
    rw [exec, execRingAbort, hphys, ringBound_own s hctx]
    rfl
  refine ⟨_, hrun, rfl, ?_⟩
  rw [State.ring_of_status, State.ringStop]
  dsimp only
  rw [ring_modRing_same]
  exact ⟨rfl, rfl, rfl, rfl⟩

end

/-! ### Fetching and retiring -/

/-- A descriptor whose turn it is to start is fetched and looked at. -/
theorem descriptorFetch_takes {d : LDie} {c : CtxId} {e : EngId} {q : RingId} {t : State} {b : Bytes}
    (hctx : (s.ring (ringKey d e q)).ctx = some c) (hlive : s.engineLive c d e.val = true)
    (hgo : (s.ring (ringKey d e q)).halted = false) (hnew : (s.ring (ringKey d e q)).head ≠ (s.ring (ringKey d e q)).tail)
    (hplaced : (s.engine (engKey d e)).placed = none ∨ (s.engine (engKey d e)).placed = some c)
    (hroom : s.inProgress d e < 4) (hturn : s.startTurn d e q = true)
    (hread : s.commonsRead (whoEngine c e) d ((s.ring (ringKey d e q)).slotOff (s.ring (ringKey d e q)).head.toNat) 64 =
      (t, .ok b)) :
    exec (.descriptorFetch d e q) s = .next (t.takeDesc d e q c
      ((s.ring (ringKey d e q)).head.toNat % (s.ring (ringKey d e q)).slots) (slotWords b)) := by
  have hok : ¬ (!s.engineLive c d e.val ∨ (s.ring (ringKey d e q)).halted ∨
      (s.ring (ringKey d e q)).head = (s.ring (ringKey d e q)).tail ∨
      ((s.engine (engKey d e)).placed.isSome ∧ (s.engine (engKey d e)).placed ≠ some c) ∨ 4 ≤ s.inProgress d e ∨
      !s.startTurn d e q) := by
    rw [hlive, hgo, hturn]
    rintro (h | h | h | ⟨h, h'⟩ | h | h)
    · exact absurd h (by decide)
    · exact absurd h (by decide)
    · exact hnew h
    · obtain hp | hp := hplaced
      · rw [hp] at h
        exact absurd h (by decide)
      · exact h' hp
    · exact absurd hroom (Nat.not_lt.mpr h)
    · exact absurd h (by decide)
  rw [exec, execDescriptorFetch]
  dsimp only
  rw [hctx]
  dsimp only
  rw [if_neg hok, hread]

section

variable {d : LDie} {e q : Nat} {c : CtxId} {slot : Nat} {w : List W64}

/-- A descriptor of an epoch that is neither the engine's nor the next is discarded. -/
theorem takeDesc_otherEpoch (h : dEpoch w = s.engineEpoch d e c + 2) :
    (s.takeDesc d e q c slot w).answer = .done ∧
      ((s.takeDesc d e q c slot w).ring (ringKey d e q)).head = (s.ring (ringKey d e q)).head + 1 := by
  have hnext : dEpoch w ≠ s.engineEpoch d e c + 1 := by
    rw [h]
    generalize s.engineEpoch d e c = n
    revert n
    decide
  have hnow : dEpoch w ≠ s.engineEpoch d e c := by
    rw [h]
    generalize s.engineEpoch d e c = n
    revert n
    decide
  rw [State.takeDesc]
  dsimp only
  rw [if_neg hnext, if_pos hnow]
  refine ⟨rfl, ?_⟩
  rw [State.ring_of_ok, ring_modRing_same]

theorem tookStep_ring (k : Nat) : (s.tookStep d q slot w).ring k = s.ring k := by
  unfold State.tookStep
  split
  · rfl
  · refine foldl_keeps (fun t => t.ring k) (fun t g => ?_) _ _
    split
    · rfl
    · rfl

/-- A descriptor that passes every check goes behind those of its ring. -/
theorem takeDesc_passes {t : State} {extra : Bytes} (hepoch : dEpoch w = s.engineEpoch d e c)
    (hfence : dFence w = false ∨ (s.ring (ringKey d e q)).descs = []) (hop : dOp w / 16 = e) (heng : dEngine w = e)
    (hctx : dCtx w = c.val) (hforeign : s.foreignStep d q slot w = false) (hcount : dCount w ≠ 0)
    (hpeek : s.epeek (whoEngine c e) (w.getD 2 0) (extraLen w) = (t, .ok extra)) (hpass : t.descFault c d e w extra = none) :
    (s.takeDesc d e q c slot w).answer = .done ∧
      ((s.takeDesc d e q c slot w).ring (ringKey d e q)).descs =
        (t.ring (ringKey d e q)).descs ++ [{ slot := slot, words := w, started := s.now, fin := none }] := by
  have hnext : dEpoch w ≠ s.engineEpoch d e c + 1 := by
    rw [hepoch]
    generalize s.engineEpoch d e c = n
    revert n
    decide
  have hfence' : ¬ (dFence w = true ∧ (s.ring (ringKey d e q)).descs ≠ []) := by
    rintro ⟨h, h'⟩
    obtain hf | hf := hfence
    · rw [hf] at h
      exact absurd h (by decide)
    · exact h' hf
  have hmine : ¬ (dOp w / 16 ≠ e ∨ dEngine w ≠ e) := by rw [hop, heng]; simp
  have hlen : ¬ (dCount w = 0 ∧ dOp w = 0x60) := fun h => hcount h.1
  rw [State.takeDesc]
  dsimp only
  rw [if_neg hnext, if_neg (not_not_intro hepoch), if_neg hfence', if_neg hmine, if_neg (not_not_intro hctx), hforeign,
    if_neg (by decide), if_neg hlen, hpeek]
  dsimp only
  rw [hpass]
  dsimp only
  rw [if_neg hcount]
  refine ⟨rfl, ?_⟩
  rw [State.ring_of_ok, tookStep_ring, ring_modRing_same]

end

/-- The oldest descriptor retires once it has finished, and its work has settled or goes. -/
theorem descriptorRetire_completes {d : LDie} {c : CtxId} {e : EngId} {q : RingId} {x : Desc} {rest : List Desc}
    {f : DStatus × W16 × W64} {t : State} {b : Bytes} (hphys : (s.phys d).isNone = false)
    (hctx : (s.ring (ringKey d e q)).ctx = some c) (hdescs : (s.ring (ringKey d e q)).descs = x :: rest)
    (hfin : x.fin = some f) (hsettled : x.unsettled = true → x.confirmed = true ∨ f.1 = .discarded ∨ f.1 = .aborted)
    (hput : s.putRecord d e q c x f = (t, .ok b)) :
    ∃ s', exec (.descriptorRetire d e q) s = .next s' ∧ s'.answer = .done := by
  have hgo : ¬ (x.unsettled = true ∧ (!x.confirmed) = true ∧ f.1 ≠ .discarded ∧ f.1 ≠ .aborted ∨ (s.phys d).isNone = true) := by
    rw [hphys]
    rintro (⟨hu, hc, hd, ha⟩ | h)
    · obtain h | h | h := hsettled hu
      · rw [h] at hc
        exact absurd hc (by decide)
      · exact hd h
      · exact ha h
    · exact absurd h (by decide)
  rw [exec, execDescriptorRetire]
  dsimp only
  rw [hctx, hdescs]
  dsimp only
  rw [hfin]
  dsimp only
  rw [if_neg hgo, hput]
  exact ⟨_, rfl, rfl⟩

theorem freeWork_now (w : EngW) (x : Desc) : (s.freeWork w x).now = s.now :=
  (Kept.refl.freeWork (List.Subset.refl _) w x).now_eq (by decide)

/-- A descriptor that runs for too long halts its ring. -/
theorem engineWatchdog_completes {d : LDie} {c : CtxId} {e : EngId} {q : RingId} {x : Desc}
    (hctx : (s.ring (ringKey d e q)).ctx = some c)
    (hfront : (s.ring (ringKey d e q)).descs.find? (fun x => x.fin.isNone) = some x) (hyields : s.yields c = false) :
    ∃ s', exec (.engineWatchdog d e q) s = .next s' ∧ s'.answer = .done ∧
      (s'.ring (ringKey d e q)).halted = true ∧
      x.started + (x.wakes s.now).excused + s.obj 0x2243 (c.val + 1) * 1000 + 1 ≤ s'.now := by
  let due := x.started + (x.wakes s.now).excused + s.obj 0x2243 (c.val + 1) * 1000 + 1
  let u := (s.notBefore due).freeWork (engW c d e) x
  have hnow : due ≤ u.now := by
    rw [freeWork_now]
    exact Nat.le_max_right _ _
  have hrun : ∃ v f, exec (.engineWatchdog d e q) s = .next (State.modRing v (ringKey d e q) f).ok ∧
      (∀ r, (f r).halted = true) ∧ due ≤ v.now := by
    rw [exec, execEngineWatchdog]
    dsimp only
    rw [hctx, hfront]
    dsimp only
    rw [hyields]
    refine ⟨_, _, rfl, fun _ => rfl, ?_⟩
    split
    · exact hnow
    · rw [State.fault_now]
      exact hnow
  obtain ⟨v, f, hv, hf, hdue⟩ := hrun
  refine ⟨_, hv, rfl, ?_, hdue⟩
  rw [State.ring_of_ok, ring_modRing_same, hf]

end

/-- Settles O10: a granted access runs, and a command of a bound ring acts on it. -/
theorem commonsAndRingCommandsComplete : Obligations.CommonsAndRingCommandsComplete := by
  intro s d p hp
  have hphys : (s.phys d).isNone = false := by rw [hp]; rfl
  refine ⟨fun bank reqs r hr => ⟨fun t b hread hok => ?read, fun t b hwrite hok => ?write⟩,
    fun c e q v hctx => ⟨tail_completes s hphys hctx v, ringResume_completes s hphys hctx, ringAbort_completes s hphys hctx⟩,
    fun c e q t b hctx hlive hgo hnew hplaced hroom hturn hread => ?fetch,
    fun c e q x rest f t b => descriptorRetire_completes s hphys, fun c e q x => engineWatchdog_completes s⟩
  case read => rw [commonsAccess_grants s hp bank reqs r hr, commonsGrant_of_read _ hread hok]
  case write => rw [commonsAccess_grants s hp bank reqs r hr, commonsGrant_of_write _ hwrite hok]
  case fetch =>
    have htake := descriptorFetch_takes s hctx hlive hgo hnew hplaced hroom hturn hread
    refine ⟨htake, fun hepoch => ?_, fun r2 extra hepoch hfence hop heng hc hforeign hcount hpeek hpass => ?_⟩
    · obtain ⟨hdone, hhead⟩ := takeDesc_otherEpoch t hepoch
      exact ⟨_, htake, hdone, hhead⟩
    · obtain ⟨hdone, hdescs⟩ := takeDesc_passes t hepoch hfence hop heng hc hforeign hcount hpeek hpass
      exact ⟨_, htake, hdone, hdescs⟩

end Sys2Proof.Machine

/-! PROOF. Lane instructions (R85), scratchpad accesses (R89) and cache operations (R98). -/

namespace Sys2Proof.Machine

open Sys2Proof

/-- Entries written one after another read as the last write of each. -/
theorem tget_foldl_tset (f : Nat → W32) (b n : Nat) (l : List Nat) (t : Tbl W32) :
    tget 0 (l.foldl (fun t i => tset 0 t (b + i) (f i)) t) (b + n) = if n ∈ l then f n else tget 0 t (b + n) := by
  induction l generalizing t with
  | nil => simp
  | cons i l ih =>
    rw [List.foldl_cons, ih, tget_tset]
    by_cases hl : n ∈ l
    · simp [hl]
    · by_cases hi : n = i
      · simp [hi]
      · simp [hl, hi]

theorem tile_countConv (s : State) (r : Nat) (n : ConvCount) (k : Nat) : (s.countConv r n).tile k = s.tile k := rfl

theorem lane_setReg (t : TileS) (r : Nat) (f : Nat → W32) {n : Nat} (h : n < 64) : (t.setReg r f).lane r n = f n := by
  rw [TileS.lane, TileS.setReg, tget_foldl_tset, if_pos (List.mem_range.mpr h)]

section

variable (s : State) {d : LDie} {t : LTile} {k : Nat} (hk : s.tileKey d t = some k)

include hk

/-- An instruction whose format is not reserved and whose access does not wait completes. -/
theorem laneInstruction_completes (c : CtxId) (g : UnitCfg) (i : LaneInstr) (hlive : s.live d (16 + t.val) = some (c, g)) :
    let s1 := s.count64 .unit (unitKey d (16 + t.val)) 0x08 1
    let cacheable := match g.op with | .lane _ _ y => y | _ => false
    (∀ f, i.op = .convFrom f → fmtOk f.toNat = true) →
    (∀ f v, i.op = .convTo f v → fmtOk f.toNat = true ∧ convOk v.toNat = true) →
    (∀ off, i.op = .load off → ∃ s2 b, s1.laneAccess c d t k cacheable off none = (s2, .ok b)) →
    (∀ off, i.op = .store off →
      ∃ s2 b, s1.laneAccess c d t k cacheable off (some ((s.tile k).regBytes i.a.val)) = (s2, .ok b)) →
    (∀ a first, i.op = .stage a first → ∃ s2 ws, s1.stageLanes c d t k a first = (s2, some ws)) →
    ∃ s', exec (.laneInstruction d t i) s = .next s' ∧ s'.answer = .done ∧
      (i.op = .add → ∀ n < 64, (s'.tile k).lane i.dst.val n =
        fadd ((s.tile k).lane i.a.val n) ((s.tile k).lane i.b.val n)) ∧
      (i.op = .cmpLt → (s'.tile k).mask = laneMask (s.tile k) flt i.a.val i.b.val) := by
  intro s1 cacheable hfrom hto hload hstore hstage
  have hother : i.op ≠ .add → i.op ≠ .cmpLt → ∀ s' : State, (i.op = .add → ∀ n < 64, (s'.tile k).lane i.dst.val n =
        fadd ((s.tile k).lane i.a.val n) ((s.tile k).lane i.b.val n)) ∧
      (i.op = .cmpLt → (s'.tile k).mask = laneMask (s.tile k) flt i.a.val i.b.val) :=
    fun hadd hlt _ => ⟨fun h => absurd h hadd, fun h => absurd h hlt⟩
  rw [exec, execLaneInstruction, hlive, hk]
  dsimp only
  split
  case _ hop =>
    refine ⟨_, rfl, rfl, fun h => by rw [hop] at h; exact (nomatch h), fun _ => ?_⟩
    rw [State.tile_of_ok, tile_modTile_same]
  case _ hop =>
    exact ⟨_, rfl, rfl, hother (by simp [hop]) (by simp [hop]) _⟩
  case _ hop =>
    exact ⟨_, rfl, rfl, hother (by simp [hop]) (by simp [hop]) _⟩
  case _ f hop =>
    rw [if_pos (hfrom f hop)]
    exact ⟨_, rfl, rfl, hother (by simp [hop]) (by simp [hop]) _⟩
  case _ f v hop =>
    obtain ⟨hf, hv⟩ := hto f v hop
    rw [hf, hv]
    exact ⟨_, rfl, rfl, hother (by simp [hop]) (by simp [hop]) _⟩
  case _ off hop =>
    obtain ⟨s2, b, h⟩ := hload off hop
    split
    · exact ⟨_, rfl, rfl, hother (by simp [hop]) (by simp [hop]) _⟩
    next hwaits heq => exact (hwaits b (Prod.mk.inj (heq.symm.trans h)).2).elim
  case _ off hop =>
    obtain ⟨s2, b, h⟩ := hstore off hop
    split
    · exact ⟨_, rfl, rfl, hother (by simp [hop]) (by simp [hop]) _⟩
    next hwaits heq => exact (hwaits b (Prod.mk.inj (heq.symm.trans h)).2).elim
  case _ a first hop =>
    obtain ⟨s2, ws, h⟩ := hstage a first hop
    rw [show (s.count64 .unit (unitKey d (16 + t.val)) 0x08 1).stageLanes c d t k a first = (s2, some ws) from h]
    exact ⟨_, rfl, rfl, hother (by simp [hop]) (by simp [hop]) _⟩
  case _ hlt _ _ _ _ _ _ _ =>
    refine ⟨_, rfl, rfl, fun hop n hn => ?_, fun h => absurd h hlt⟩
    rw [State.tile_of_ok, tile_countConv, tile_modTile_same, lane_setReg _ _ _ hn, hop]
    rfl

end

/-! ### Scratchpad accesses -/

section

variable (s : State)

theorem scratchpadAccess_grants {d : LDie} {t : LTile} {k : Nat} (hk : s.tileKey d t = some k) (bank : Fin 32)
    (reqs : List MemReq) (r : MemReq) :
    let s0 := s.spadArrive d t k (atBank 13 32 (2 ^ 22) bank.val reqs)
    roundRobin (tget 0 (s0.tile k).bankPtr bank.val) 13 (tget [] (s0.tile k).bankWait bank.val) = some r →
    exec (.scratchpadAccess d t bank reqs) s = .next ((s0.modTile k (fun y =>
      { y with bankWait := tset [] y.bankWait bank.val ((tget [] y.bankWait bank.val).erase r) })).spadGrant d t k r) := by
  intro s0 hr
  rw [exec, execScratchpadAccess, hk]
  dsimp only
  rw [hr]

variable {d : LDie} {t : LTile} {k : Nat} {r : MemReq} {u : State} {b : Bytes}

theorem spadGrant_of_read (hread : r.write = false)
    (hok : s.spadRead ⟨r.ctx, r.firmware, r.role, portUnit t r.port⟩ d t r.addr r.len = (u, .ok b)) :
    (s.spadGrant d t k r).answer = .data .ok b := by
  rw [State.spadGrant, hread]
  dsimp only
  rw [hok]
  rfl

theorem spadGrant_of_write (hwrite : r.write = true)
    (hok : s.spadWrite ⟨r.ctx, r.firmware, r.role, portUnit t r.port⟩ d t r.addr r.data r.unsettled = (u, .ok b)) :
    s.spadGrant d t k r = u.status .ok := by
  rw [State.spadGrant, hwrite]
  dsimp only
  rw [hok]
  rfl

/-! ### Cache operations -/

/-- A cache operation completes when every write-back is acknowledged. -/
theorem cacheCmd_completes {w : Who} (hw : s.cacheWho d t = some (w, k)) {op : CacheOp} {base : W64} {bytes : Nat}
    (h : s.cacheRange w (tileRec d t.val) k op (lineRange base bytes) = (u, true)) :
    s.cacheCmd d t op base bytes = u.ok := by
  rw [State.cacheCmd, hw]
  dsimp only
  rw [h]
  rfl

/-- Invalidation writes no line back. -/
theorem cacheRange_invalidate (w : Who) (rec_ : Nat) (p : Nat → Bool) :
    (s.cacheRange w rec_ k .invalidate p).2 = true ∧ (s.cacheRange w rec_ k .invalidate p).1.spadMem = s.spadMem ∧
      (s.cacheRange w rec_ k .invalidate p).1.stackMem = s.stackMem := by
  have hlines : ∀ (l : List (Nat × CLine)) (x : State × Bool), x.2 = true →
      let z := l.foldl (fun (r : State × Bool) q =>
        let x := r.1.cacheLineOp w rec_ k .invalidate q
        (x.1, r.2 && x.2)) x
      z.2 = true ∧ z.1.spadMem = x.1.spadMem ∧ z.1.stackMem = x.1.stackMem := by
    intro l
    induction l with
    | nil => exact fun x hx => ⟨hx, rfl, rfl⟩
    | cons q l ih => exact fun x hx => ih _ (by show (x.2 && true) = true; rw [hx]; rfl)
  exact hlines _ (s, true) rfl

theorem invalidate_completes {w : Who} (hw : s.cacheWho d t = some (w, k)) (base : W64) (bytes : Nat) :
    ∃ s', exec (.invalidate d t base bytes) s = .next s' ∧ s'.answer = .done ∧ s'.spadMem = s.spadMem ∧
      s'.stackMem = s.stackMem := by
  obtain ⟨hall, hspad, hstack⟩ := cacheRange_invalidate s (k := k) w (tileRec d t.val) (lineRange base bytes)
  exact ⟨_, congrArg Host.Outcome.next (cacheCmd_completes s hw (Prod.ext rfl hall)), rfl, hspad, hstack⟩

end

/-- Settles O8: an instruction, a granted access or a cache operation that need not wait completes. -/
theorem laneScratchpadAndCacheCommandsComplete : Obligations.LaneScratchpadAndCacheCommandsComplete := by
  intro s d t k hk
  refine ⟨laneInstruction_completes s hk, fun bank reqs r hr => ⟨fun u b hread hok => ?read, fun u b hwrite hok => ?write⟩,
    fun base bytes w hw => ⟨fun r h => ?clean, invalidate_completes s hw base bytes, fun r h => ?cleanInvalidate⟩⟩
  case read => exact ⟨_, scratchpadAccess_grants s hk bank reqs r hr, spadGrant_of_read _ hread hok⟩
  case write => rw [scratchpadAccess_grants s hk bank reqs r hr, spadGrant_of_write _ hwrite hok]
  case clean => exact congrArg Host.Outcome.next (cacheCmd_completes s hw h)
  case cleanInvalidate => exact congrArg Host.Outcome.next (cacheCmd_completes s hw h)

end Sys2Proof.Machine

/-! PROOF. The commands of a fabric link (R305–R316). -/

namespace Sys2Proof.Machine

open Sys2Proof

section

variable (s : State)

theorem vent_modVent_same (v : Nat) (f : VentS → VentS) : (s.modVent v f).vent v = f (s.vent v) :=
  (State.vent_modVent s v v f).trans (if_pos rfl)

/-! ### What sending frames leaves alone -/

/-- Where a link stands, with its keys, and the answer. -/
def State.linkView (k : Nat) : LinkSt × Bool × Bool × Answer := ((s.vent k).st, (s.vent k).rekeying, (s.vent k).keyed, s.answer)

/-- What writes other fields of vent dies keeps where the links stand. -/
theorem linkView_modVent (k v : Nat) (f : VentS → VentS)
    (h : ∀ x, (f x).st = x.st ∧ (f x).rekeying = x.rekeying ∧ (f x).keyed = x.keyed) :
    (s.modVent v f).linkView k = s.linkView k := by
  obtain ⟨hst, hrekeying, hkeyed⟩ := h (s.vent v)
  unfold State.linkView
  rw [State.vent_modVent]
  by_cases hk : k = v
  · rw [if_pos hk, hst, hrekeying, hkeyed, hk]
    rfl
  · rw [if_neg hk]
    rfl

theorem linkView_event (k : Nat) (code : W16) (c : Option CtxId) (l : Loc) (d : Nat) :
    (s.event code c l d).linkView k = s.linkView k := by
  unfold State.linkView State.vent
  rw [State.event_fab, State.event_answer]

theorem linkView_putFrame (k v : Nat) (dl : Bool) (src dest : BitVec 14) (b : FrameBody) :
    (s.putFrame v dl src dest b).linkView k = s.linkView k := by
  have hcount : ∀ (t : State) n, (t.countHigh .fabric v 0x2C n).linkView k = t.linkView k := fun t n => by
    unfold State.countHigh
    dsimp only
    split
    · rfl
    · rfl
  exact (hcount _ _).trans (linkView_modVent s k v _ fun _ => ⟨rfl, rfl, rfl⟩)

theorem linkView_sendFrame (k v : Nat) (dl : Bool) (src dest : BitVec 14) (b : FrameBody) :
    (s.sendFrame v dl src dest b).linkView k = s.linkView k := by
  unfold State.sendFrame
  dsimp only
  split
  · exact linkView_putFrame s k v dl src dest b
  · split
    · exact (linkView_putFrame _ k v dl src dest b).trans (linkView_modVent s k v _ fun _ => ⟨rfl, rfl, rfl⟩)
    · exact linkView_modVent s k v _ fun _ => ⟨rfl, rfl, rfl⟩

theorem linkView_drainWaiting (k v n : Nat) : (s.drainWaiting v n).linkView k = s.linkView k := by
  induction n generalizing s with
  | zero => rfl
  | succ n ih =>
    unfold State.drainWaiting
    dsimp only
    split
    · rfl
    · split
      · rw [ih, linkView_putFrame]
        exact linkView_modVent s k v _ fun _ => ⟨rfl, rfl, rfl⟩
      · rfl

theorem linkView_takeCredit (k v cls units : Nat) : (s.takeCredit v cls units).linkView k = s.linkView k := by
  unfold State.takeCredit
  rw [linkView_drainWaiting]
  exact linkView_modVent s k v _ fun _ => ⟨rfl, rfl, rfl⟩

theorem linkView_flood (k : Nat) (b : FrameBody) : (s.flood b).linkView k = s.linkView k := by
  unfold State.flood
  refine foldl_keeps (fun t => t.linkView k) (fun t v => ?_) _ s
  split
  · exact linkView_sendFrame t k v _ _ _ b
  · rfl

theorem linkView_setDown (k : Nat) (panel : W16) (dir : Nat) (up : Bool) (l : Loc) :
    (s.setDown panel dir up l).linkView k = s.linkView k := by
  unfold State.setDown
  dsimp only
  split
  · rfl
  · split
    · exact linkView_event s k _ _ _ _
    · rw [linkView_flood, linkView_event]
      rfl

theorem linkView_noteDirection (k v : Nat) : (s.noteDirection v).linkView k = s.linkView k := linkView_setDown s k _ _ _ _

/-! ### The map of directions that are down -/

theorem sendFrame_down (v : Nat) (dl : Bool) (src dest : BitVec 14) (b : FrameBody) :
    (s.sendFrame v dl src dest b).fab.down = s.fab.down := by
  have hput : ∀ t : State, (t.putFrame v dl src dest b).fab.down = t.fab.down := fun t => by
    show (State.countHigh _ _ _ _ _).fab.down = _
    unfold State.countHigh
    dsimp only
    split
    · rfl
    · rfl
  unfold State.sendFrame
  dsimp only
  split
  · exact hput s
  · split
    · exact hput _
    · rfl

theorem flood_down (b : FrameBody) : (s.flood b).fab.down = s.fab.down := by
  unfold State.flood
  refine foldl_keeps (fun t => t.fab.down) (fun t v => ?_) _ s
  split
  · exact sendFrame_down t v _ _ _ b
  · rfl

/-- A direction that is up again leaves the map; one that goes down enters it while it has room. -/
theorem setDown_down (panel : W16) (dir : Nat) (l : Loc) :
    (panel, BitVec.ofNat 8 dir) ∉ (s.setDown panel dir true l).fab.down ∧
    (s.fab.down.length < 1024 → (panel, BitVec.ofNat 8 dir) ∈ (s.setDown panel dir false l).fab.down) := by
  constructor
  · unfold State.setDown
    dsimp only
    split
    next h => exact fun hmem => absurd (h ▸ List.contains_iff_mem.mpr hmem) (by decide)
    next h =>
      rw [if_neg (by simp), flood_down, State.event_fab]
      intro hmem
      exact absurd (List.mem_filter.mp hmem).2 (by simp)
  · intro hroom
    unfold State.setDown
    dsimp only
    split
    next h => exact List.contains_iff_mem.mp h
    next h =>
      rw [if_neg (fun h => absurd hroom (Nat.not_lt.mpr h.2)), flood_down, State.event_fab]
      exact List.mem_append_right _ (List.mem_singleton.mpr rfl)

theorem linkstate_completes (panel : W16) (dir : Fin 6) (up : Bool) :
    ∃ s', exec (.linkstate panel dir up) s = .next s' ∧ s'.answer = .done ∧
      (up = true → (panel, BitVec.ofNat 8 dir.val) ∉ s'.fab.down) ∧
      (up = false → s.fab.down.length < 1024 → (panel, BitVec.ofNat 8 dir.val) ∈ s'.fab.down) := by
  obtain ⟨hout, hin⟩ := setDown_down s panel dir.val (locHub 0)
  refine ⟨_, rfl, rfl, fun h => ?_, fun h => ?_⟩
  · rw [h]
    exact hout
  · rw [h]
    exact hin

/-! ### A link's states and keys -/

section

variable (v : Vent)

theorem linkEnable_completes (hoff : (s.vent v.val).st = .off) (hok : s.ventUsable v.val = true) :
    ∃ s', exec (.linkEnable v) s = .next s' ∧ s'.answer = .done ∧ (s'.vent v.val).st = .train := by
  refine ⟨_, congrArg Host.Outcome.next (if_pos ⟨hoff, hok⟩), rfl, ?_⟩
  rw [State.vent_of_ok, State.beginTrain, vent_modVent_same]

theorem trainComplete_completes (tx rx : Byte) (hst : (s.vent v.val).st = .train) :
    ∃ s', exec (.trainComplete v tx rx) s = .next s' ∧ s'.answer = .done ∧ (s'.vent v.val).tx = tx ∧ (s'.vent v.val).rx = rx ∧
      (s'.vent v.val).st = (if 2 ≤ groupCount tx ∧ 2 ≤ groupCount rx then .keyx else .fault) := by
  rw [exec, execTrainComplete, if_neg (not_not_intro hst)]
  dsimp only
  split
  · refine ⟨_, rfl, rfl, ?_⟩
    rw [State.vent_of_ok, vent_modVent_same, vent_modVent_same]
    exact ⟨rfl, rfl, rfl⟩
  · refine ⟨_, rfl, rfl, ?_⟩
    rw [State.vent_of_ok, State.linkFault, vent_modVent_same, vent_modVent_same]
    exact ⟨rfl, rfl, rfl⟩

theorem keyx_completes (k : KeyxIn) (hst : (s.vent v.val).st = .keyx) (hsig : k.sigOk = true)
    (howner : k.ownerHash = s.sec.ownerKeys.headD 0) (hcoord : k.coord = s.neighbourWord v.val)
    (hvent : k.ventIdx = facing v.val) :
    ∃ s', exec (.keyx v k) s = .next s' ∧ s'.answer = .done ∧ (s'.vent v.val).keyed = true ∧
      (s'.vent v.val).peer = coordWord k.coord := by
  rw [exec, execKeyx, hst]
  refine ⟨_, rfl, rfl, ?_⟩
  rw [State.vent_of_ok, State.admitPeer, if_neg (by simp [hsig, howner]), if_neg (by simp [hcoord, hvent]), vent_modVent_same]
  exact ⟨rfl, rfl⟩

theorem keyxComplete_first (hst : (s.vent v.val).st = .keyx) (hkeyed : (s.vent v.val).keyed = true) :
    ∃ s', exec (.keyxComplete v) s = .next s' ∧ s'.answer = .done ∧ (s'.vent v.val).st = .up := by
  refine ⟨_, congrArg Host.Outcome.next (if_pos ⟨hst, hkeyed⟩), rfl, ?_⟩
  rw [State.vent_of_ok]
  refine (congrArg Prod.fst (linkView_noteDirection _ v.val v.val)).trans ?_
  rw [State.linkView, vent_modVent_same]

theorem keyxComplete_rekeyed (hst : (s.vent v.val).st = .up) (hrekeying : (s.vent v.val).rekeying = true)
    (hkeyed : (s.vent v.val).keyed = true) :
    ∃ s', exec (.keyxComplete v) s = .next s' ∧ s'.answer = .done ∧ (s'.vent v.val).rekeying = false ∧
      (s'.vent v.val).txPhase = !(s.vent v.val).txPhase := by
  have hnot : ¬ ((s.vent v.val).st = .keyx ∧ (s.vent v.val).keyed = true) := by simp [hst]
  refine ⟨_, congrArg Host.Outcome.next ((if_neg hnot).trans (if_pos ⟨hst, hrekeying, hkeyed⟩)), rfl, ?_⟩
  rw [State.vent_of_ok, State.vent_of_count, vent_modVent_same]
  exact ⟨rfl, rfl⟩

theorem rekeying_sendFrame (src dest : BitVec 14) (b : FrameBody) :
    let t := (s.modVent v.val (fun x => { x with rekeying := true, keyed := false })).sendFrame v.val false src dest b
    (t.vent v.val).rekeying = true ∧ (t.vent v.val).keyed = false := by
  have h := linkView_sendFrame (s.modVent v.val (fun x => { x with rekeying := true, keyed := false })) v.val v.val false
    src dest b
  unfold State.linkView at h
  rw [vent_modVent_same] at h
  obtain ⟨_, h⟩ := Prod.mk.inj h
  obtain ⟨hrekeying, h⟩ := Prod.mk.inj h
  obtain ⟨hkeyed, _⟩ := Prod.mk.inj h
  exact ⟨hrekeying, hkeyed⟩

theorem rekey_completes (hst : (s.vent v.val).st = .up) (hrekeying : (s.vent v.val).rekeying = false) :
    ∃ s', exec (.rekey v) s = .next s' ∧ s'.answer = .done ∧ (s'.vent v.val).rekeying = true ∧
      (s'.vent v.val).keyed = false := by
  have hgo : (s.vent v.val).st = .up ∧ (!(s.vent v.val).rekeying) = true := ⟨hst, by rw [hrekeying]; rfl⟩
  refine ⟨_, congrArg Host.Outcome.next (if_pos hgo), rfl, ?_⟩
  rw [State.vent_of_ok]
  exact rekeying_sendFrame _ v _ _ _

theorem linkRetry_completes (hst : (s.vent v.val).st = .fault) (hok : s.ventUsable v.val = true) :
    ∃ s', exec (.linkRetry v) s = .next s' ∧ s'.answer = .done ∧ (s'.vent v.val).st = .train ∧
      (s'.vent v.val).retries = (s.vent v.val).retries + 1 ∧ (s.vent v.val).retryAt ≤ s'.now := by
  refine ⟨_, congrArg Host.Outcome.next (if_pos ⟨hst, hok⟩), rfl, ?_, ?_, Nat.le_max_right _ _⟩
  · rw [State.vent_of_ok, vent_modVent_same, State.beginTrain, vent_modVent_same]
  · rw [State.vent_of_ok, vent_modVent_same, State.beginTrain, vent_modVent_same]
    rfl

theorem laneGroupOut_completes (tx : Bool) (f : Fin 8) (hst : (s.vent v.val).st = .up ∨ (s.vent v.val).st = .keyx)
    (hin : ((s.vent v.val).groups tx).toNat.testBit f.val = true) :
    ∃ s', exec (.laneGroupOut v tx f) s = .next s' ∧ s'.answer = .done := by
  have hgo : ¬ (((s.vent v.val).st ≠ .up ∧ (s.vent v.val).st ≠ .keyx) ∨
      (!((s.vent v.val).groups tx).toNat.testBit f.val) = true) := by
    rw [hin]
    rintro (⟨hup, hkeyx⟩ | h)
    · exact hst.elim hup hkeyx
    · exact absurd h (by decide)
  exact ⟨_, congrArg Host.Outcome.next (if_neg hgo), answer_of_ite rfl (answer_of_ite rfl rfl)⟩

theorem groupRetrain_completes (tx : Bool) (f : Fin 8) (good : Bool) (hst : (s.vent v.val).st = .up)
    (hout : ((s.vent v.val).groupOut.find? (fun g => g.1 == tx && g.2.1 == f.val)).isSome = true) :
    ∃ s', exec (.groupRetrain v tx f good) s = .next s' ∧ s'.answer = .done := by
  obtain ⟨g, hg⟩ := Option.isSome_iff_exists.mp hout
  rw [exec, execGroupRetrain, hg]
  exact ⟨_, congrArg Host.Outcome.next (if_neg (not_not_intro hst)), answer_of_ite rfl rfl⟩

theorem marginRefresh_completes (lanes : List LaneIn) (hst : (s.vent v.val).st ≠ .off) :
    ∃ s', exec (.marginRefresh v lanes) s = .next s' ∧ s'.answer = .done :=
  ⟨_, congrArg Host.Outcome.next (if_neg hst), rfl⟩

/-- Credits come back, up to the whole buffer. -/
theorem credit_completes (cls : Fin 32) (units : Nat) (hst : (s.vent v.val).st = .up) (hcls : cls.val < 22) :
    ∃ s', exec (.credit v cls units) s = .next s' ∧ s'.answer = .done ∧
      ((s.vent v.val).waiting = [] →
        (s'.vent v.val).credit cls.val = min (fullCredits cls.val) ((s.vent v.val).credit cls.val + units)) := by
  refine ⟨_, congrArg Host.Outcome.next (if_pos ⟨hst, hcls⟩), rfl, fun hwait => ?_⟩
  rw [State.vent_of_ok, State.takeCredit, hwait]
  show VentS.credit ((s.modVent v.val _).vent v.val) cls.val = _
  rw [vent_modVent_same]
  exact tget_tset_same _ _ _ _

end

/-! ### Frames that arrive -/

section

variable (v : Vent) (f : LinkFrame)

/-- An accepted frame counts, and its credits go back. -/
def State.countFrame (x : VentS) : State :=
  let t := ((s.modVent v.val (fun _ => x)).count .fabric v.val 0x04 1).countHigh .fabric v.val 0x30 (32 + f.length)
  (match bodyClass f.dateline f.body with
    | some c => t.sendFrame v.val false t.srcPanel t.srcPanel (.credit c ((f.length + 63) / 64))
    | none => t).ok

theorem countFrame_dict (x : VentS) : (s.countFrame v f x).dict = s.dict := by
  have h : Kept [.counters, .fabric, .messages] s (s.countFrame v f x) := by
    unfold State.countFrame
    dsimp only
    have hcount := ((Kept.refl (s := s) |>.modVent (L := [.counters, .fabric, .messages]) (by decide) v.val (fun _ => x)).count
      (by decide) .fabric v.val 0x04 1).countHigh (by decide) .fabric v.val 0x30 (32 + f.length)
    split
    · exact (hcount.sendFrame (by decide) _ _ _ _ _).ok
    · exact hcount.ok
  exact h.same .objects (by decide)

theorem badSource_of_dict {t : State} (h : t.dict = s.dict) (p : BitVec 14) : t.badSource p = s.badSource p := by
  unfold State.badSource State.srcPanel State.coord State.dims State.obj
  rw [h]

theorem srcPanel_of_dict {t : State} (h : t.dict = s.dict) : t.srcPanel = s.srcPanel := by
  unfold State.srcPanel State.coord State.obj
  rw [h]

theorem frameRx_accepted {x : VentS} (hup : (s.vent v.val).st = .up) (hfec : f.fecOk = true)
    (htake : (s.vent v.val).takeFrame s.now f = some x) :
    exec (.frameRx v f) s = .next (
      let t := s.countFrame v f x
      if isMessage f.body then t.takeBody v.val f
      else if t.badSource f.srcPanel then t.count .fabric v.val 0x1C 1
      else if f.destPanel = t.srcPanel then t.takeBody v.val f
      else t.transit v.val f) := by
  rw [exec, execFrameRx, if_neg (not_not_intro hup), hfec, htake]
  rfl

/-- The answer is the last part of what sending frames keeps. -/
theorem answer_of_linkView {t : State} (h : t.linkView v.val = s.linkView v.val) : t.answer = s.answer := by
  obtain ⟨_, h⟩ := Prod.mk.inj h
  obtain ⟨_, h⟩ := Prod.mk.inj h
  exact (Prod.mk.inj h).2

/-- A link message is taken without another answer. -/
theorem takeBody_message (h : isMessage f.body = true) : (s.takeBody v.val f).answer = s.answer := by
  unfold State.takeBody
  cases hbody : f.body with
  | credit c n => exact answer_of_linkView s v (linkView_takeCredit s v.val v.val c n)
  | keyx => rfl
  | linkstate p d up => exact answer_of_linkView s v (linkView_setDown s v.val p d.toNat up _)
  | bulk p => rw [hbody] at h; exact (nomatch h)
  | control op c n => rw [hbody] at h; exact (nomatch h)
  | sync op r w => rw [hbody] at h; exact (nomatch h)
  | syncResp r st w => rw [hbody] at h; exact (nomatch h)

theorem transit_answer : (s.transit v.val f).answer = s.answer := by
  have hgo : ∀ (o : Option Nat) (g : Nat → Bool), (match o with
      | none => s.count .fabric v.val 0x18 1
      | some o => (s.count .fabric v.val 0x14 1).sendFrame o (g o) f.srcPanel f.destPanel f.body).answer = s.answer := by
    intro o g
    cases o with
    | none => rfl
    | some o => exact answer_of_linkView s v (linkView_sendFrame (s.count .fabric v.val 0x14 1) v.val o _ _ _ _)
  unfold State.transit
  dsimp only
  exact answer_of_ite (hgo _ _) (answer_of_ite (hgo _ _) (hgo _ _))

/-- A frame for another panel, a bad one and a link message are handled without another answer. -/
theorem frameRx_passes {x : VentS} (hup : (s.vent v.val).st = .up) (hfec : f.fecOk = true)
    (htake : (s.vent v.val).takeFrame s.now f = some x)
    (h : isMessage f.body = true ∨ s.badSource f.srcPanel = true ∨ f.destPanel ≠ s.srcPanel) :
    ∃ s', exec (.frameRx v f) s = .next s' ∧ s'.answer = .done := by
  refine ⟨_, frameRx_accepted s v f hup hfec htake, ?_⟩
  have hdict := countFrame_dict s v f x
  dsimp only
  rw [badSource_of_dict s hdict, srcPanel_of_dict s hdict]
  split
  next hmessage => exact takeBody_message _ v f hmessage
  next hmessage =>
    split
    · rfl
    next hbad =>
      rw [if_neg ((h.resolve_left hmessage).resolve_left hbad)]
      exact transit_answer _ v f

/-- The response to a sync request of this panel is its answer. -/
theorem frameRx_syncResp {r : SyncReq} {st : Status} {w : W64} (hup : (s.vent v.val).st = .up) (hfec : f.fecOk = true)
    (htake : ((s.vent v.val).takeFrame s.now f).isSome = true) (hbody : f.body = .syncResp r st w)
    (hgood : s.badSource f.srcPanel = false) (hdest : f.destPanel = s.srcPanel) :
    ∃ s', exec (.frameRx v f) s = .next s' ∧ s'.answer = .word st w := by
  obtain ⟨x, hx⟩ := Option.isSome_iff_exists.mp htake
  refine ⟨_, frameRx_accepted s v f hup hfec hx, ?_⟩
  have hdict := countFrame_dict s v f x
  dsimp only
  rw [badSource_of_dict s hdict, srcPanel_of_dict s hdict, hgood, if_pos hdest, State.takeBody, hbody]
  rfl

end

end

/-- Settles O18: each command runs in the link states of its rule. -/
theorem fabricLinkCommandsComplete : Obligations.FabricLinkCommandsComplete := by
  intro s v
  refine ⟨linkEnable_completes s v, trainComplete_completes s v, keyx_completes s v, keyxComplete_first s v,
    keyxComplete_rekeyed s v, rekey_completes s v, linkRetry_completes s v, laneGroupOut_completes s v,
    groupRetrain_completes s v, marginRefresh_completes s v, credit_completes s v, linkstate_completes s,
    fun f hup => ⟨fun hfec => ?fec, fun hfec htake => ?rejected, fun hfec htake h => ?passes,
      fun r st w hfec htake => frameRx_syncResp s v f hup hfec htake⟩⟩
  case fec => rw [exec, execFrameRx, if_neg (not_not_intro hup), hfec]; rfl
  case rejected =>
    refine ⟨(s.gcmFailed v.val).ok, ?_, rfl⟩
    rw [exec, execFrameRx, if_neg (not_not_intro hup), hfec, htake]
    rfl
  case passes =>
    obtain ⟨x, hx⟩ := Option.isSome_iff_exists.mp htake
    exact frameRx_passes s v f hup hfec hx h

end Sys2Proof.Machine

/-! PROOF. The commands of an array pair and its weight buffers (R55–R60, R78–R83, R197). -/

namespace Sys2Proof.Machine

open Sys2Proof

theorem arr_modArr (t : TileS) (a : Fin 2) (f : Arr → Arr) : (t.modArr a f).arr a = f (t.arr a) := by
  unfold TileS.modArr TileS.arr
  split
  · rfl
  · rfl

theorem half_modHalf (x : Arr) (b : Bool) (f : Half → Half) : (x.modHalf b f).half b = f (x.half b) := by
  cases b with
  | false => rfl
  | true => rfl

theorem modHalf_active (x : Arr) (b : Bool) (f : Half → Half) : (x.modHalf b f).active = x.active := by
  cases b with
  | false => rfl
  | true => rfl

theorem modHalf_fillB (x : Arr) (b : Bool) (f : Half → Half) : (x.modHalf b f).fillB = x.fillB := by
  cases b with
  | false => rfl
  | true => rfl

section

variable (s : State)

theorem arr_modTile (k : Nat) (a : Fin 2) (f : Arr → Arr) :
    ((s.modTile k (fun y => y.modArr a f)).tile k).arr a = f ((s.tile k).arr a) := by
  rw [tile_modTile_same, arr_modArr]

variable {d : LDie} {t : LTile} {a : Fin 2} {c : CtxId} {g : UnitCfg} {k : Nat} {x : ArrayCfg}

/-! ### Rounds -/

/-- A round notes the entry that it served. -/
theorem roundOn_served (entry out : Nat) : entry ∈ (((s.roundOn c d t a k g x entry out).tile k).arr a).served := by
  unfold State.roundOn
  extract_lets arr pass pat choice u e isFirst idle es acc env v
  have hserved : entry ∈ ((v.tile k).arr a).served := by
    rw [arr_modTile]
    exact List.mem_cons_self
  split
  · exact hserved
  · rw [tile_countConv]
    split
    · exact hserved
    · exact hserved

theorem roundDispatched_served {entry out : Nat} {r : State} (h : s.roundDispatched d t a k x entry out = some r) :
    entry ∈ ((r.tile k).arr a).served := by
  revert h
  unfold State.roundDispatched
  extract_lets arr n issued again waiting arr' base nz needed choice u acc v w cycles
  intro h
  split at h
  · exact (nomatch h)
  split at h
  · exact (nomatch h)
  rw [← Option.some.inj h, tile_countConv]
  show entry ∈ ((v.tile k).arr a).served
  rw [arr_modTile]
  exact List.mem_cons_self

section

variable (hk : s.tileKey d t = some k) (hlive : s.live d t.val = some (c, g)) (hx : arrayCfg g = some x)

include hk hlive hx

/-- A dense round whose weights, segments and accumulators are there runs. -/
theorem arrayRound_dense (entry : Fin 256) (out : Nat) (hdense : roundBitmap g = false)
    (hout : g.layer = none → out + modeOuts x.wFmt.toNat ≤ 16384)
    (hroom : ((s.tile k).arr a).room (colEntries (((s.tile k).arr a).nextCols entry.val) (modeOuts x.wFmt.toNat) out) = true)
    (hstaged : ∀ n < ((s.tile k).arr a).roundSpan false entry.val, (((s.tile k).arr a).stage entry.val n).data ≠ [])
    (hshadow : ((s.tile k).arr a).turns entry.val = true → ((s.tile k).arr a).shadow ≠ []) :
    ∃ s', exec (.arrayRound d t a entry out) s = .next s' ∧ s'.answer = .done ∧ entry.val ∈ ((s'.tile k).arr a).served := by
  have hfits : ¬ (g.layer = none ∧ 16384 < out + modeOuts x.wFmt.toNat) := fun h => absurd h.2 (Nat.not_lt.mpr (hout h.1))
  have hall : (List.range (((s.tile k).arr a).roundSpan false entry.val)).all
      (fun n => (((s.tile k).arr a).stage entry.val n).data != []) = true :=
    List.all_eq_true.mpr fun n hn => by simpa using hstaged n (List.mem_range.mp hn)
  rw [exec, execArrayRound, hlive, hk]
  dsimp only
  rw [hx]
  dsimp only
  rw [if_neg hfits, hdense]
  rw [if_neg (by decide : ¬ false = true), hroom, hall]
  rw [if_neg (by decide), if_neg (by decide), if_neg (by decide)]
  by_cases hturns : ((s.tile k).arr a).turns entry.val = true
  · refine ⟨_, (if_pos hturns).trans (if_neg (hshadow hturns)), rfl, ?_⟩
    rw [State.tile_of_ok]
    exact roundOn_served _ _ _
  · refine ⟨_, if_neg hturns, rfl, ?_⟩
    rw [State.tile_of_ok]
    exact roundOn_served _ _ _

theorem arrayRound_dispatched (entry : Fin 256) (out : Nat) (r : State) (hbitmap : roundBitmap g = true)
    (hout : g.layer = none → out + modeOuts x.wFmt.toNat ≤ 16384)
    (hroom : ((s.tile k).arr a).room (colEntries [] (modeOuts x.wFmt.toNat) out) = true)
    (hstaged : ∀ n < 8, (((s.tile k).arr a).stage entry.val n).data ≠ [])
    (hr : s.roundDispatched d t a k x entry.val out = some r) :
    exec (.arrayRound d t a entry out) s = .next r.ok ∧ entry.val ∈ ((r.tile k).arr a).served := by
  have hfits : ¬ (g.layer = none ∧ 16384 < out + modeOuts x.wFmt.toNat) := fun h => absurd h.2 (Nat.not_lt.mpr (hout h.1))
  have hall : (List.range (((s.tile k).arr a).roundSpan true entry.val)).all
      (fun n => (((s.tile k).arr a).stage entry.val n).data != []) = true :=
    List.all_eq_true.mpr fun n hn => by simpa using hstaged n (List.mem_range.mp hn)
  refine ⟨?_, roundDispatched_served s hr⟩
  rw [exec, execArrayRound, hlive, hk]
  dsimp only
  rw [hx]
  dsimp only
  rw [if_neg hfits, hbitmap]
  rw [if_pos rfl, hroom, hall, hr]
  rfl

/-! ### Staging and the shadow -/

theorem stagingFill_completes (entry : Fin 256) (data : Bytes) (scales : Byte × Byte)
    (hlen : data.length = 8 * elemBits x.aFmt.toNat) :
    ∃ s', exec (.stagingFill d t a entry data scales) s = .next s' ∧ s'.answer = .done ∧
      (((s'.tile k).arr a).stage entry.val 0).data = data ∧ (((s'.tile k).arr a).stage entry.val 0).scales = scales := by
  have hstage : ∀ (z : Arr) (e : StageEntry), Arr.stage { z with staging := tset {} z.staging entry.val e } entry.val 0 = e :=
    fun z e => tget_tset_same _ _ _ _
  rw [exec, execStagingFill, hlive, hk]
  dsimp only
  rw [hx]
  dsimp only
  rw [if_neg (not_not_intro hlen)]
  refine ⟨_, rfl, rfl, ?_⟩
  rw [State.tile_of_ok, arr_modTile, hstage]
  split
  · exact ⟨rfl, rfl⟩
  · exact ⟨rfl, rfl⟩

theorem shadowLoad_completes (off : Nat) (b : Bool) (l : Load) (hempty : ((s.tile k).arr a).shadow = [])
    (hin : ((s.tile k).arr a).inState .inUse = some b) (huses : (((s.tile k).arr a).half b).uses < x.reuse)
    (hload : (((s.tile k).arr a).half b).load x
      (passKind (s.ctx c).specPosture x g.layer (((s.tile k).arr a).half b).settle) off = some l) :
    ∃ s', exec (.shadowLoad d t a off) s = .next s' ∧ s'.answer = .done ∧
      ((s'.tile k).arr a).shadow = l.weights ∧ ((s'.tile k).arr a).shadowScales = l.scales ∧
      ((s'.tile k).arr a).active = ((s.tile k).arr a).active := by
  rw [exec, execShadowLoad, hlive, hk]
  dsimp only
  rw [hx]
  dsimp only
  rw [if_neg (not_not_intro hempty), hin]
  dsimp only
  rw [hload]
  dsimp only
  rw [if_neg (Nat.not_le.mpr huses)]
  refine ⟨_, rfl, rfl, ?_⟩
  rw [State.tile_of_ok]
  split
  · rw [State.tile_of_count, arr_modTile]
    exact ⟨rfl, rfl, modHalf_active _ _ _⟩
  · rw [arr_modTile]
    exact ⟨rfl, rfl, modHalf_active _ _ _⟩

theorem halfRelease_completes (b : Bool) (hin : ((s.tile k).arr a).inState .inUse = some b)
    (huses : x.reuse ≤ (((s.tile k).arr a).half b).uses) :
    ∃ s', exec (.halfRelease d t a) s = .next s' ∧ s'.answer = .done ∧ ((s'.tile k).arr a).half b = {} := by
  rw [exec, execHalfRelease, hlive, hk]
  dsimp only
  rw [hx, hin]
  refine ⟨_, if_pos huses, rfl, ?_⟩
  rw [State.tile_of_ok, arr_modTile, half_modHalf]

end

/-! ### The halves of a weight buffer -/

theorem countTags_tile (l : List Nat) (j : Nat) : (s.countTags d t l).tile j = s.tile j := by
  unfold State.countTags
  refine foldl_keeps (fun u => u.tile j) (fun u i => ?_) _ s
  split
  · rfl
  · rfl

/-- A fill from a RESIDENT region reads no packet. -/
theorem fetchHalf_resident {off : Nat} {f : FillDecl} {h : Half} (hf : f.src = .resident off) (hh : h.src = some (.resident off))
    (u j : Nat) : (s.fetchHalf c d t u f h).tile j = s.tile j := by
  have hreads : h.reads = [] := by rw [Half.reads, hh]
  unfold State.fetchHalf
  dsimp only
  rw [hreads, hf]
  exact countTags_tile _ _ j

section

variable (hk : s.tileKey d t = some k)

include hk

theorem halfTake_completes (hlive : s.live d t.val = some (c, g)) (hnone : ((s.tile k).arr a).inState .inUse = none)
    (hready : (((s.tile k).arr a).half ((s.tile k).arr a).takeB).st = .ready) :
    ∃ s', exec (.halfTake d t a) s = .next s' ∧ s'.answer = .done := by
  rw [exec, execHalfTake, hlive, hk]
  dsimp only
  rw [hnone, if_neg (by decide), if_neg (not_not_intro hready)]
  split
  · exact ⟨_, rfl, rfl⟩
  · exact ⟨_, rfl, rfl⟩

variable (hlive : s.live d (streamUnit t a) = some (c, g))

include hlive

/-- A fill that its layer admits takes the next empty half. -/
theorem halfFillStart_fills (f : FillDecl) (bytes : Nat) (h h' : Half) (r : State) (hbytes : bytes ≤ 65536)
    (hempty : (((s.tile k).arr a).half ((s.tile k).arr a).fillB).st = .empty)
    (hdecl : s.declaredHalf c g (s.tile k) (s.unit (unitKey d (streamUnit t a))) f bytes = some h)
    (htag : s.taggedHalf c d t g ((s.live d t.val).bind (fun p => arrayCfg p.2)) h = (r, some h')) :
    let filled := r.modTile k (fun y => y.modArr a (fun z =>
      { z.modHalf z.fillB (fun _ => h') with fillB := !z.fillB }))
    exec (.halfFillStart d t a f bytes) s = .next (filled.fetchHalf c d t (streamUnit t a) f h').ok ∧
      ((filled.tile k).arr a).half ((r.tile k).arr a).fillB = h' := by
  refine ⟨?_, ?_⟩
  · rw [exec, execHalfFillStart]
    dsimp only
    rw [hlive, hk]
    dsimp only
    rw [if_neg (Nat.not_lt.mpr hbytes), if_neg (not_not_intro hempty), hdecl]
    dsimp only
    rw [htag]
  · rw [arr_modTile]
    exact half_modHalf ((r.tile k).arr a) _ _

theorem halfFillStart_resident (off bytes : Nat) (merge : Bool) (group : Option Byte) (hbytes : bytes ≤ 65536)
    (hempty : (((s.tile k).arr a).half ((s.tile k).arr a).fillB).st = .empty)
    (hin : (s.tile k).inResident off bytes = true) :
    ∃ s', exec (.halfFillStart d t a ⟨.resident off, .first, merge, group⟩ bytes) s = .next s' ∧ s'.answer = .done ∧
      (((s'.tile k).arr a).half ((s.tile k).arr a).fillB).st = (if bytes = 0 then .ready else .filling) ∧
      (((s'.tile k).arr a).half ((s.tile k).arr a).fillB).size = bytes ∧
      ((s'.tile k).arr a).fillB = !((s.tile k).arr a).fillB := by
  let h : Half := { st := if bytes = 0 then .ready else .filling, size := bytes, src := some (.resident off) }
  have hdecl : s.declaredHalf c g (s.tile k) (s.unit (unitKey d (streamUnit t a))) ⟨.resident off, .first, merge, group⟩ bytes =
      some h := by
    rw [State.declaredHalf]
    dsimp only
    rw [hin]
    rfl
  have htag : s.taggedHalf c d t g ((s.live d t.val).bind (fun p => arrayCfg p.2)) h = (s, some h) := rfl
  obtain ⟨hrun, hhalf⟩ := halfFillStart_fills s hk hlive ⟨.resident off, .first, merge, group⟩ bytes h h s hbytes hempty hdecl htag
  refine ⟨_, hrun, rfl, ?_, ?_, ?_⟩
  · rw [State.tile_of_ok, fetchHalf_resident _ rfl rfl, hhalf]
  · rw [State.tile_of_ok, fetchHalf_resident _ rfl rfl, hhalf]
  · rw [State.tile_of_ok, fetchHalf_resident _ rfl rfl, arr_modTile]

end

/-! ### The output stage -/

section

variable (hk : s.tileKey d t = some k) (hlive : s.live d t.val = some (c, g)) (hx : arrayCfg g = some x) {o : StageOut}
  (hroom : g.layer = none → outsOf x g.layer * o.vectors ≤ 16384)

/-- The entries of the accumulator file that an output stage's command names. -/
def stageEntries (x : ArrayCfg) (g : UnitCfg) (o : StageOut) : List Nat :=
  (List.range o.vectors).flatMap (fun v => (List.range' o.firstOutput o.count).map (fun i => v * outsOf x g.layer + i))

theorem stageSend_done
    (hcredit : s.canEmitN g 0 (chunk (max (s.outWidth g 0) 8) ((stageEntries x g o).flatMap (fun i =>
      toLe 4 (tget 0 ((s.tile k).arr a).acc i).toNat ++ toLe 4 (tget 0 ((s.tile k).arr a).env i).toNat))).length = true) :
    (s.stageSend c d t a k g x o (List.range' o.firstOutput o.count)).2 = true := by
  unfold stageEntries at hcredit
  rw [State.stageSend]
  dsimp only
  rw [hcredit]
  rfl

theorem stageCombine_done {port : Fin 4} {i : QueueDecl} {tok : Token}
    (hhead : (s.heads c d t.val g).2.find? (fun p => p.1.port == port) = some (i, some tok))
    (hlen : 8 * (stageEntries x g o).length ≤ tok.payload.length) :
    (s.stageCombine c d t a k g x port o (List.range' o.firstOutput o.count)).2 = true := by
  unfold stageEntries at hlen
  rw [State.stageCombine]
  dsimp only
  rw [hhead]
  dsimp only
  rw [if_neg (Nat.not_lt.mpr hlen)]

/-- Outputs that go to the output queue are stored while its queues have room. -/
theorem stageWrite_done {bias : Nat → W32} (hdest : o.dest = none)
    (hcredit : s.canEmitN g 0 (chunk (max (s.outWidth g 0) 1) (stageBytes x.outFmt.toNat x.conv.toNat (s.tile k).sr
      (stageWords x g.layer bias ((s.tile k).arr a) o.vectors (List.range' o.firstOutput o.count) [])).1).length = true) :
    (s.stageWrite c d t a k g x bias o (List.range' o.firstOutput o.count) []).2 = true := by
  have hstore : ∀ unsettled, ∃ u, s.stageStore c d t g x o unsettled (stageBytes x.outFmt.toNat x.conv.toNat (s.tile k).sr
      (stageWords x g.layer bias ((s.tile k).arr a) o.vectors (List.range' o.firstOutput o.count) [])).1 = (u, true) := by
    intro unsettled
    rw [State.stageStore]
    dsimp only
    rw [hdest]
    dsimp only
    rw [hcredit]
    exact ⟨_, rfl⟩
  have hconvert : ∀ unsettled, ∃ u, s.stageConvert c d t k g x o unsettled
      (stageWords x g.layer bias ((s.tile k).arr a) o.vectors (List.range' o.firstOutput o.count) []) = (u, true) := by
    intro unsettled
    obtain ⟨u, hu⟩ := hstore unsettled
    rw [State.stageConvert]
    dsimp only
    rw [hu]
    exact ⟨_, rfl⟩
  rw [State.stageWrite]
  dsimp only
  obtain ⟨u, hu⟩ := hconvert (((List.range o.vectors).flatMap (fun v =>
    (List.range' o.firstOutput o.count).map (fun i => v * outsOf x g.layer + i))).any
      (fun i => ((s.tile k).arr a).accUnsettled.contains i))
  rw [hu]

/-- The part of an output stage's work that a command asks for. -/
def State.stagePart (s : State) (c : CtxId) (d : LDie) (t : LTile) (a : Fin 2) (k : Nat) (g : UnitCfg) (x : ArrayCfg)
    (o : StageOut) : State :=
  match o.part with
  | .send => State.okOr (s.stageSend c d t a k g x o (List.range' o.firstOutput o.count))
  | .combine port => State.okOr (s.stageCombine c d t a k g x port o (List.range' o.firstOutput o.count))
  | .finish =>
    match g.layer with
    | none => State.okOr (s.stageWrite c d t a k g x (fun _ => 0) o (List.range' o.firstOutput o.count) [])
    | some l =>
      match s.biases ⟨c, false, .none, t.val⟩ l o.firstOutput o.count with
      | (s, .error (b, r)) => (s.unitFail ⟨c, false, .none, t.val⟩ b r (4 * o.count)).turnAway
      | (s, .ok bias) => State.okOr (s.stageLayer c d t a k g x l bias o (List.range' o.firstOutput o.count))

include hk hlive hx hroom in
theorem outputStageWrite_eq : exec (.outputStageWrite d t a o) s = .next (s.stagePart c d t a k g x o) := by
  have hfits : ¬ (16384 < outsOf x g.layer * o.vectors ∧ g.layer.isNone = true) := fun h =>
    absurd h.1 (Nat.not_lt.mpr (hroom (Option.isNone_iff_eq_none.mp h.2)))
  rw [exec, execOutputStageWrite, hlive, hk]
  dsimp only
  rw [hx]
  dsimp only
  rw [if_neg hfits, State.stagePart]
  cases o.part with
  | send => rfl
  | combine port => rfl
  | finish =>
    cases g.layer with
    | none => rfl
    | some l =>
      dsimp only
      generalize s.biases _ l o.firstOutput o.count = b
      obtain ⟨u, _ | bias⟩ := b
      · rfl
      · rfl

end

end

theorem okOr_done {r : State × Bool} (h : r.2 = true) : (State.okOr r).answer = .done := by
  rw [State.okOr, if_pos h]
  rfl

/-- Settles O7: each command of an array pair runs when what it works on is there. -/
theorem arrayPairCommandsComplete : Obligations.ArrayPairCommandsComplete := by
  intro s d t a c g k hk arr
  refine ⟨fun x entry out hlive hx hdense => arrayRound_dense s hk hlive hx entry out hdense,
    fun x entry out r hlive hx hbitmap => arrayRound_dispatched s hk hlive hx entry out r hbitmap,
    fun x entry data scales hlive hx => stagingFill_completes s hk hlive hx entry data scales,
    fun x off b l hlive hx => shadowLoad_completes s hk hlive hx off b l,
    fun f bytes h h' r hlive => halfFillStart_fills s hk hlive f bytes h h' r,
    fun off bytes merge group hlive => halfFillStart_resident s hk hlive off bytes merge group,
    halfTake_completes s hk, fun x b hlive hx => halfRelease_completes s hk hlive hx b,
    fun x o hlive hx hroom => ⟨fun hpart hcredit => ?send, fun port i tok hpart hhead hlen => ?combine,
      fun hpart hlayer hdest hcredit => ?finish, fun l bias q r hpart hlayer hbias hstage => ?layer⟩⟩
  all_goals rw [outputStageWrite_eq s hk hlive hx hroom, State.stagePart, hpart]
  case send => exact ⟨_, rfl, okOr_done (stageSend_done s hcredit)⟩
  case combine => exact ⟨_, rfl, okOr_done (stageCombine_done s hhead hlen)⟩
  case finish =>
    dsimp only
    rw [hlayer]
    refine ⟨_, rfl, okOr_done (stageWrite_done s hdest ?_)⟩
    exact hcredit
  case layer =>
    dsimp only
    rw [hlayer]
    dsimp only
    rw [hbias]
    dsimp only
    rw [hstage]
    rfl

end Sys2Proof.Machine

/-! PROOF. When a context's checkpoint falls due (R184) is kept by a write, and by what a failed write sets off. -/

namespace Sys2Proof.Machine

open Sys2Proof

/-- When the next checkpoint of each context falls due. -/
def State.dues (s : State) : CtxId → Option Nat := fun c => (s.ctx c).ckptDue

theorem dues_of_kept {L : List Part} {s t : State} (k : Kept L s t) (h : Part.contexts ∉ L) : t.dues = s.dues :=
  funext fun c => congrArg CtxS.ckptDue (k.ctx_eq h c)

theorem dues_foldl {A : Type} {f : State → A → State} (h : ∀ u a, (f u a).dues = u.dues) (l : List A) (u : State) :
    (l.foldl f u).dues = u.dues := foldl_keeps State.dues h l u

section

variable (s : State)

/-! ### Operations that leave the contexts alone -/

@[simp] theorem dues_count (set record off n) : (s.count set record off n).dues = s.dues :=
    dues_of_kept (Kept.refl.count (List.Subset.refl _) _ _ _ _) (by decide)

@[simp] theorem dues_event (code ctx l detail) : (s.event code ctx l detail).dues = s.dues :=
    dues_of_kept (Kept.refl.event (List.Subset.refl _) _ _ _ _) (by decide)

@[simp] theorem dues_fault (code ctx l detail) : (s.fault code ctx l detail).dues = s.dues :=
    dues_of_kept (Kept.refl.fault (List.Subset.refl _) _ _ _ _) (by decide)

@[simp] theorem dues_modTile (k' f) : (s.modTile k' f).dues = s.dues :=
    dues_of_kept (Kept.refl.modTile (List.Subset.refl _) _ _) (by decide)

@[simp] theorem dues_modStack (k' f) : (s.modStack k' f).dues = s.dues :=
    dues_of_kept (Kept.refl.modStack (List.Subset.refl _) _ _) (by decide)

@[simp] theorem dues_revokeCredits (c) : (s.revokeCredits c).dues = s.dues :=
    dues_of_kept (Kept.refl.revokeCredits (List.Subset.refl _) _) (by decide)

@[simp] theorem dues_logRecovery (r) : (s.logRecovery r).dues = s.dues :=
    dues_of_kept (Kept.refl.logRecovery (List.Subset.refl _) _) (by decide)

@[simp] theorem dues_stopMigrations (p) : (s.stopMigrations p).dues = s.dues :=
    dues_of_kept (Kept.refl.stopMigrations (List.Subset.refl _) _) (by decide)

@[simp] theorem dues_unsuspend (lo hi) : (s.unsuspend lo hi).dues = s.dues :=
    dues_of_kept (Kept.refl.unsuspend (List.Subset.refl _) _ _) (by decide)

@[simp] theorem dues_addField (w) : (s.addField w).dues = s.dues :=
    dues_of_kept (Kept.refl.addField (List.Subset.refl _) _) (by decide)

@[simp] theorem dues_detach (d) : (s.detach d).dues = s.dues :=
    dues_of_kept (Kept.refl.detach (List.Subset.refl _) _) (by decide)

@[simp] theorem dues_setDom (k' on) : (s.setDom k' on).dues = s.dues :=
    dues_of_kept (Kept.refl.setDom (List.Subset.refl _) _ _) (by decide)

@[simp] theorem dues_rehome (l) : (s.rehome l).dues = s.dues :=
    dues_of_kept (Kept.refl.rehome (List.Subset.refl _) _) (by decide)

@[simp] theorem dues_reroute : (s.reroute).dues = s.dues :=
    dues_of_kept (Kept.refl.reroute (List.Subset.refl _)) (by decide)

@[simp] theorem dues_freshDie (l) : (s.freshDie l).dues = s.dues :=
    dues_of_kept (Kept.refl.freshDie (List.Subset.refl _) _) (by decide)

@[simp] theorem dues_passSegment (d seg owner) : (s.passSegment d seg owner).dues = s.dues :=
    dues_of_kept (Kept.refl.passSegment (List.Subset.refl _) _ _ _) (by decide)

@[simp] theorem dues_dropDormant (r) : (s.dropDormant r).dues = s.dues :=
    dues_of_kept (Kept.refl.dropDormant (List.Subset.refl _) _) (by decide)

@[simp] theorem dues_buildTiles (d) : (s.buildTiles d).dues = s.dues :=
    dues_of_kept (Kept.refl.buildTiles (List.Subset.refl _) _) (by decide)

@[simp] theorem dues_remapped : (s.remapped).dues = s.dues :=
    dues_of_kept (Kept.refl.remapped (List.Subset.refl _)) (by decide)

@[simp] theorem dues_zeroTile (k') : (s.zeroTile k').dues = s.dues :=
    dues_of_kept (Kept.refl.zeroTile (List.Subset.refl _) _) (by decide)

@[simp] theorem dues_finishZero (k' b) : (s.finishZero k' b).dues = s.dues :=
    dues_of_kept (Kept.refl.finishZero (List.Subset.refl _) _ _) (by decide)

@[simp] theorem dues_openRaw (k' lines) : (s.openRaw k' lines).dues = s.dues :=
    dues_of_kept (Kept.refl.openRaw (List.Subset.refl _) _ _) (by decide)

@[simp] theorem dues_countBytes (k' off n) : (s.countBytes k' off n).dues = s.dues :=
    dues_of_kept (Kept.refl.countBytes (List.Subset.refl _) _ _ _) (by decide)

@[simp] theorem dues_stackLand (k' off d) : (s.stackLand k' off d).dues = s.dues :=
    dues_of_kept (Kept.refl.stackLand (List.Subset.refl _) _ _ _) (by decide)

@[simp] theorem dues_bankTurn (l t' k' port off len) : (s.bankTurn l t' k' port off len).dues = s.dues :=
    dues_of_kept (Kept.refl.bankTurn (List.Subset.refl _) _ _ _ _ _ _) (by decide)

@[simp] theorem dues_spadPut (k' off d unsettled) : (s.spadPut k' off d unsettled).dues = s.dues :=
    dues_of_kept (Kept.refl.spadPut (List.Subset.refl _) _ _ _ _) (by decide)

@[simp] theorem dues_commonsWrite (w l off d unsettled) : (s.commonsWrite w l off d unsettled).1.dues = s.dues :=
    dues_of_kept (Kept.refl.commonsWrite (List.Subset.refl _) _ _ _ _ _) (by decide)

@[simp] theorem dues_giveBack (k' ids) : (s.giveBack k' ids).dues = s.dues :=
    dues_of_kept (Kept.refl.giveBack (List.Subset.refl _) _ _) (by decide)

@[simp] theorem dues_takeCredits (l ids) : (s.takeCredits l ids).1.dues = s.dues :=
    dues_of_kept (Kept.refl.takeCredits (List.Subset.refl _) _ _) (by decide)

@[simp] theorem dues_countHigh (set record off n) : (s.countHigh set record off n).dues = s.dues :=
    dues_of_kept (Kept.refl.countHigh (List.Subset.refl _) _ _ _ _) (by decide)

@[simp] theorem dues_freeBytes (n) : (s.freeBytes n).2.dues = s.dues :=
    dues_of_kept (Kept.refl.freeBytes (List.Subset.refl _) _) (by decide)

@[simp] theorem dues_modRing (k' f) : (s.modRing k' f).dues = s.dues :=
    dues_of_kept (Kept.refl.modRing (List.Subset.refl _) _ _) (by decide)

@[simp] theorem dues_mapUnits (c f) : (s.mapUnits c f).dues = s.dues := rfl

@[simp] theorem dues_modQueue (k f) : (s.modQueue k f).dues = s.dues := rfl

@[simp] theorem dues_mapQueues (c f) : (s.mapQueues c f).dues = s.dues := rfl

@[simp] theorem dues_of_anat (x : Anat) : State.dues { s with anat := x } = s.dues := rfl

@[simp] theorem dues_of_eng (x : Eng) : State.dues { s with eng := x } = s.dues := rfl

@[simp] theorem dues_of_ctrs (x : Tbl Nat) : State.dues { s with ctrs := x } = s.dues := rfl

/-! ### Operations on a context that leave when its checkpoint falls due -/

theorem dues_modCtx {f : CtxS → CtxS} (h : ∀ x, (f x).ckptDue = x.ckptDue) (c : CtxId) : (s.modCtx c f).dues = s.dues := by
  funext d
  unfold State.dues
  rw [State.ctx_modCtx]
  split
  next e => rw [h, e]
  next => rfl

@[simp] theorem dues_modShard (c i f) : (s.modShard c i f).dues = s.dues := dues_modCtx s (fun _ => by rfl) c

@[simp] theorem dues_quarantine (c i k off) : (s.quarantine c i k off).dues = s.dues := by
  simp [State.quarantine]

@[simp] theorem dues_loseAreas (k) : (s.loseAreas k).dues = s.dues :=
  dues_foldl (fun u c => dues_modCtx u (fun _ => by rfl) c) _ _

@[simp] theorem dues_stopUnits (c) : (s.stopUnits c).dues = s.dues := rfl

@[simp] theorem dues_haltCtx (c) : (s.haltCtx c).dues = s.dues := dues_modCtx _ (fun _ => by rfl) c

@[simp] theorem dues_dropHidden (key) : (s.dropHidden key).dues = s.dues := by
  unfold State.dropHidden
  dsimp only
  split
  · rfl
  · simp

@[simp] theorem dues_dropUnsettled (c) : (s.dropUnsettled c).dues = s.dues := by
  unfold State.dropUnsettled
  extract_lets s1 s2 s3 s4 s5
  have h1 : s1.dues = s.dues := by
    refine dues_foldl (fun u p => ?_) _ _
    split <;> simp
  have h2 : s2.dues = s1.dues := by
    refine dues_foldl (fun u p => ?_) _ _
    split
    · split <;> simp
    · rfl
  have h3 : s3.dues = s2.dues := by
    refine dues_foldl (fun u p => ?_) _ _
    split <;> simp
  have h5 : s5.dues = s4.dues := by
    refine dues_foldl (fun u p => ?_) _ _
    split <;> simp
  exact h5.trans (h3.trans (h2.trans h1))

@[simp] theorem dues_voidPackets (c) : (s.voidPackets c).dues = s.dues :=
  dues_modCtx s (fun _ => by rfl) c

@[simp] theorem dues_beginRestore (c kind die tile since) : (s.beginRestore c kind die tile since).dues = s.dues := by
  unfold State.beginRestore
  split
  · rfl
  · dsimp only
    rw [dues_logRecovery, dues_count, dues_modCtx]
    · simp
    · exact fun _ => rfl

@[simp] theorem dues_restoreAll (l kind die tile since) : (s.restoreAll l kind die tile since).dues = s.dues :=
  dues_foldl (fun u c => dues_beginRestore u c kind die tile since) _ _

/-! ### The loss of a die, of a stack and of a tile -/

@[simp] theorem dues_dropShards (k refill) : (s.dropShards k refill).dues = s.dues := by
  refine dues_foldl (fun u c => ?_) _ _
  dsimp only
  exact (dues_foldl (fun u h => dues_fault u _ _ _ _) _ _).trans (dues_modCtx u (fun _ => by rfl) c)

@[simp] theorem dues_relocateCtx (pairs c) : (s.relocateCtx pairs c).dues = s.dues := by
  simp [State.relocateCtx, dues_modCtx]

@[simp] theorem dues_replaceStack (k new holders) : (s.replaceStack k new holders).dues = s.dues := by
  unfold State.replaceStack
  extract_lets owners masks s1 s2 s3 _ s4
  have h3 : s3.dues = s2.dues := dues_foldl (fun u c => dues_relocateCtx u _ c) _ _
  have h5 : (masks.foldl (fun (t : State) p =>
      if p.2 = 0 then t else t.event 0x4007 (some p.1) (locStack k 0) p.2) s4).dues = s4.dues := by
    refine dues_foldl (fun u p => ?_) _ _
    split <;> simp
  have h2 : s2.dues = s.dues := by simp [s2, s1]
  rw [dues_restoreAll, h5]
  exact h3.trans h2

@[simp] theorem dues_dieFail (d cause since) : (s.dieFail d cause since).dues = s.dues := by
  unfold State.dieFail
  split
  · rfl
  extract_lets l dormant s1 s2 s3 had
  have h3 : s3.dues = s.dues := by simp [s3, s2, s1]
  clear_value s3 had l dormant
  split
  next _ l' =>
    extract_lets cs s4 s5 _ s6
    have h4 : s4.dues = s3.dues := dues_rehome s3 l'
    split
    · extract_lets s7
      have h7 : s7.dues = s6.dues := dues_foldl (fun u p => dues_passSegment u _ _ _) _ _
      have h6 : s6.dues = s4.dues := by simp [s6, s5]
      rw [dues_restoreAll, dues_count, h7, h6, h4, h3]
    · rw [dues_foldl (fun u c => dues_haltCtx u c), h4, h3]
  · split
    · rw [dues_dropDormant, h3]
    · exact h3

@[simp] theorem dues_loseStack (k) : (s.loseStack k).dues = s.dues := by
  unfold State.loseStack
  split
  · rfl
  extract_lets cell role holders had moved s1 s2
  have h2 : s2.dues = s.dues := by simp [s2, s1]
  clear_value s2 had moved role
  split
  · rw [dues_dropDormant, h2]
  split
  · exact h2
  split
  · rw [dues_replaceStack, h2]
  · rw [dues_replaceStack, dues_dieFail, h2]
  · rw [dues_foldl (fun u c => dues_haltCtx u c), dues_dropShards, h2]

@[simp] theorem dues_tileGone (d t) : (s.tileGone d t).dues = s.dues := by
  unfold State.tileGone
  split
  · exact dues_dieFail s d 0 none
  extract_lets before s1 s2 moved s3
  split
  · exact dues_buildTiles s d
  have h3 : s3.dues = s.dues := by
    refine (dues_foldl (fun u q => ?_) _ _).trans (by simp [s2, s1])
    simp
  split
  · exact (dues_restoreAll ..).trans h3
  · exact h3

@[simp] theorem dues_addRow (d t bank row) : (s.addRow d t bank row).dues = s.dues := by
  unfold State.addRow
  dsimp only
  split <;> simp

/-! ### Writes -/

@[simp] theorem dues_noteBadLines (k lines) : (s.noteBadLines k lines).dues = s.dues := by
  unfold State.noteBadLines
  extract_lets x recent new all s1
  have h1 : s1.dues = s.dues := by
    unfold s1
    split <;> simp
  split
  · exact (dues_loseStack s1 k).trans h1
  · exact h1

@[simp] theorem dues_lineFail (w k off lines st) : (s.lineFail w k off lines st).1.dues = s.dues := by
  unfold State.lineFail
  extract_lets s1
  have h1 : s1.dues = s.dues := dues_count ..
  clear_value s1
  split
  · split <;> simp [h1]
  · simp [h1]

@[simp] theorem dues_stackWrite (w k off d) : (s.stackWrite w k off d).1.dues = s.dues := by
  unfold State.stackWrite
  extract_lets i lines part s1
  have h1 : s1.dues = s.dues := dues_foldl (fun u b => dues_finishZero u i b) _ _
  split
  · rfl
  split
  next heq => exact dues_of_kept (Kept.refl.stackTurns (List.Subset.refl _) heq) (by decide)
  split
  · exact (dues_lineFail ..).trans h1
  · simp [h1]

@[simp] theorem dues_spadPoison (l t k words) : (s.spadPoison l t k words).dues = s.dues :=
  (dues_foldl (fun u _ => dues_addRow u _ _ _ _) _ _).trans (dues_count s _ _ _ _)

@[simp] theorem dues_spadWrite (w l t off d unsettled) : (s.spadWrite w l t off d unsettled).1.dues = s.dues := by
  unfold State.spadWrite
  dsimp only
  split
  · rfl
  split
  · rfl
  split
  · exact dues_count s _ _ _ _
  split
  · rfl
  split
  · dsimp only
    rw [dues_spadPoison, dues_foldl (fun u p => dues_spadPut u _ _ _ _), dues_bankTurn]
  · simp

@[simp] theorem dues_writeAt (w t d unsettled) : (s.writeAt w t d unsettled).1.dues = s.dues := by
  unfold State.writeAt
  split
  · split
    · rfl
    · split
      · rfl
      · exact dues_stackWrite ..
  · split
    · exact dues_commonsWrite ..
    · rfl
  · split
    · exact dues_spadWrite ..
    · rfl
  · rfl

@[simp] theorem dues_writeFA (w a d unsettled) : (s.writeFA w a d unsettled).1.dues = s.dues := by
  unfold State.writeFA
  split
  · exact dues_writeAt ..
  · rfl

@[simp] theorem dues_unitFail (w a r n detail) : (s.unitFail w a r n detail).dues = s.dues := by
  unfold State.unitFail
  split
  · rfl
  · exact dues_modCtx s (fun x => by split <;> rfl) _
  · split
    · split
      · simp
      · split <;> simp
    · split
      · rfl
      · dsimp only
        split
        · exact (dues_beginRestore ..).trans (dues_fault ..)
        · simp

@[simp] theorem dues_noteHeld (w a r) : (s.noteHeld w a r).dues = s.dues := by
  unfold State.noteHeld
  split
  · exact dues_unitFail ..
  · rfl

@[simp] theorem dues_ewrite (w a d unsettled) : (s.ewrite w a d unsettled).1.dues = s.dues := by
  have hland (u : State) : ((match u.writeFA w.who a d unsettled with
      | (t, .ok _) => (t.countHigh .engine w.cnt 0x28 d.length, none)
      | (t, r) => (t.noteHeld w.who a r, some (t.stopOf w.who a d.length (some (d, unsettled)) r)) :
        State × Option Stop)).1.dues = u.dues := by
    have hw := dues_writeFA u w.who a d unsettled
    split
    next heq => rw [heq] at hw; exact (dues_countHigh ..).trans hw
    next heq => rw [heq] at hw; exact (dues_noteHeld ..).trans hw
  unfold State.ewrite
  dsimp only
  split
  · rfl
  split
  · split
    · exact (dues_giveBack ..).trans ((hland _).trans (dues_takeCredits ..))
    · exact (dues_giveBack ..).trans (dues_takeCredits ..)
    · exact (dues_giveBack ..).trans (dues_takeCredits ..)
  · exact hland s

@[simp] theorem dues_scramble (w x all) : (s.scramble w x all).dues = s.dues := by
  unfold State.scramble
  dsimp only
  split
  · rfl
  · refine dues_foldl (fun u r => ?_) _ _
    rw [dues_of_ctrs, dues_ewrite, dues_freeBytes]

@[simp] theorem dues_flushRings (c d e ep) : (s.flushRings c d e ep).dues = s.dues := by
  refine dues_foldl (fun u q => ?_) _ _
  dsimp only
  split
  · rfl
  · exact (dues_modRing ..).trans (dues_foldl (fun u x => dues_scramble u _ x true) _ _)

end

end Sys2Proof.Machine

/-! PROOF. A unit's switch commands (R158, R162–R167, R171, R291) and a context's checkpoints (R184–R186, R523). -/

namespace Sys2Proof.Machine

open Sys2Proof

section

variable (s : State)

/-! ### The commands of a unit -/

section

variable (d : LDie) (u : Fin 112)

theorem cfg_loadBuffer_completes (v : W32) (g : UnitCfg) :
    ∃ s', exec (.cfg d u (.loadBuffer v g)) s = .next s' ∧ s'.answer = .done ∧
      (s'.unit (unitKey d u.val)).load = { version := v, cfg := some g } := by
  refine ⟨_, rfl, rfl, ?_⟩
  rw [State.unit_of_ok, unit_modUnit_same]

theorem cfg_register_completes (r : Byte) (v : W64) :
    ∃ s', exec (.cfg d u (.register r v)) s = .next s' ∧ s'.answer = .done ∧
      tget 0 (s'.unit (unitKey d u.val)).regs r.toNat = v := by
  refine ⟨_, rfl, rfl, ?_⟩
  rw [State.unit_of_ok, unit_modUnit_same]
  exact tget_tset_same _ _ _ _

theorem unitDrainSwitch_completes (c : CtxId) (g : UnitCfg)
    (hturn : (s.afterArm d u.val).turning d u.val .draining = some (c, g)) :
    let r := ((s.afterArm d u.val).heads c d u.val g).1
    (r.turning d u.val .draining).isSome = true → drainReady (r.unit (unitKey d u.val)) g = true →
    r.passOpen d u.val = false → r.canEnd d u.val g = true →
    ∃ s', exec (.unitDrainSwitch d u) s = .next s' ∧ s'.answer = .done := by
  dsimp only
  intro hstill hready hpass hroom
  obtain ⟨q, hq⟩ := Option.isSome_iff_exists.mp hstill
  rw [exec, execUnitDrainSwitch]
  dsimp only
  rw [hturn]
  dsimp only
  rw [hq]
  dsimp only
  rw [hready, hpass, hroom]
  exact ⟨_, rfl, rfl⟩

theorem unitFlush_completes (c : CtxId) (g : UnitCfg)
    (hturn : (s.afterArm d u.val).turning d u.val .flushing = some (c, g)) :
    (((s.afterArm d u.val).ctx c).kind = some .flush → ∃ s', exec (.unitFlush d u) s = .next s' ∧ s'.answer = .done) ∧
    (((s.afterArm d u.val).ctx c).kind = some .rollback →
      ∃ s', exec (.unitRollback d u) s = .next s' ∧ s'.answer = .done) := by
  refine ⟨fun hkind => ?_, fun hkind => ?_⟩
  · rw [exec, execUnitFlush, hturn]
    exact ⟨_, congrArg Host.Outcome.next (if_pos hkind), rfl⟩
  · rw [exec, execUnitRollback, hturn]
    exact ⟨_, congrArg Host.Outcome.next (if_pos hkind), rfl⟩

/-- A watchdog that runs out turns a drain into a flush, and halts the context otherwise. -/
theorem joinWatchdog_completes (c : CtxId) (g : UnitCfg) (a b t : Nat) :
    let s1 := s.afterArm d u.val
    let x := s1.unit (unitKey d u.val)
    s1.live d u.val = some (c, g) → s1.joinWaits d u.val g = some (a, b) → x.joinSince = some t → s1.yields c = false →
    ∃ s', exec (.joinWatchdog d u) s = .next s' ∧ s'.answer = .done ∧
      t + (x.active.join.toNat * 1000 - x.joinCount) < s'.now ∧
      (s'.ctx c).sw = if (s1.ctx c).sw = .draining then .flushing else .halted := by
  intro s1 x hlive hwaits hsince hyields
  have hrun : ∃ r : State, (r.ctx c).sw = (s1.ctx c).sw ∧ t + (x.active.join.toNat * 1000 - x.joinCount) < r.now ∧
      exec (.joinWatchdog d u) s = .next (if (r.ctx c).sw = .draining then r.drainToFlush c else r.haltCtx c).ok := by
    rw [exec, execJoinWatchdog]
    dsimp only
    rw [show (s.afterArm d u.val).live d u.val = some (c, g) from hlive]
    dsimp only
    rw [show (s.afterArm d u.val).joinWaits d u.val g = some (a, b) from hwaits]
    dsimp only
    rw [show ((s.afterArm d u.val).unit (unitKey d u.val)).joinSince = some t from hsince]
    dsimp only
    rw [show (s.afterArm d u.val).yields c = false from hyields]
    refine ⟨_, ?_, ?_, rfl⟩
    · rw [State.ctx_fault, State.ctx_of_notBefore]
    · rw [State.fault_now]
      exact Nat.le_max_right _ _
  obtain ⟨r, hsw, hnow, hrun⟩ := hrun
  rw [hsw] at hrun
  split at hrun
  · refine ⟨_, hrun, rfl, hnow, ?_⟩
    rw [if_pos ‹_›, State.ctx_of_ok, State.drainToFlush, ctx_modCtx_same]
  · refine ⟨_, hrun, rfl, hnow, ?_⟩
    rw [if_neg ‹_›, State.ctx_of_ok, haltCtx_sw]

theorem liveWriteApply_completes (c : CtxId) :
    let x := s.unit (unitKey d u.val)
    x.ctx = some c → x.joinPending.isSome = true ∨ x.prefetchPending.isSome = true →
    (s.ctx c).sw ≠ .draining → (s.ctx c).sw ≠ .flushing → (s.ctx c).sw ≠ .arming →
    ∃ s', exec (.liveWriteApply d u) s = .next s' ∧ s'.answer = .done ∧
      let y := s'.unit (unitKey d u.val)
      y.active.join = x.joinPending.getD x.active.join ∧
      y.active.prefetch = x.prefetchPending.getD x.active.prefetch ∧
      y.joinPending = none ∧ y.prefetchPending = none := by
  intro x hctx hpending hdrain hflush harm
  have hn : (b2n x.joinPending.isSome + b2n x.prefetchPending.isSome == 0) = false := by
    obtain h | h := hpending
    · rw [h, b2n]
      simp
    · rw [h, b2n, b2n]
      simp
  have hgo : ¬ ((match x.ctx with
      | some c => (s.ctx c).sw == .draining || (s.ctx c).sw == .flushing || (s.ctx c).sw == .arming
      | none => true) || b2n x.joinPending.isSome + b2n x.prefetchPending.isSome == 0) = true := by
    rw [hctx, hn]
    simp [hdrain, hflush, harm]
  refine ⟨_, congrArg Host.Outcome.next (if_neg hgo), rfl, ?_⟩
  dsimp only
  rw [State.unit_of_ok, State.unit_of_count, unit_modUnit_same]
  exact ⟨rfl, rfl, rfl, rfl⟩

theorem unpause_stopped (k : Nat) : ((s.unpause k).unit k).stopped = (s.unit k).stopped := by
  unfold State.unpause
  split
  · rfl
  · rw [State.unit_of_count, unit_modUnit_same]

/-- A broadcast to a unit of a region stops it, or lets it go on. -/
theorem ctxBcast_completes (c : CtxId) (b : Bcast) (hctx : (s.unit (unitKey d u.val)).ctx = some c) :
    ∃ s', exec (.ctxBcast d u b) s = .next s' ∧ s'.answer = .done ∧
      (s'.unit (unitKey d u.val)).stopped = (b != .resume) := by
  have hstop : ∀ t : State, ((t.modUnit (unitKey d u.val) (fun x => { x.pause t.now with stopped := true })).ok.unit
      (unitKey d u.val)).stopped = true := fun t => by
    rw [State.unit_of_ok, unit_modUnit_same]
  have hgo : ∀ t : State, ((t.modUnit (unitKey d u.val) (fun x => { x with stopped := false })).unit
      (unitKey d u.val)).stopped = false := fun t => by
    rw [unit_modUnit_same]
  rw [exec, execCtxBcast]
  dsimp only
  rw [hctx]
  cases b with
  | resume =>
    dsimp only
    split
    · split
      · exact ⟨_, rfl, rfl, hgo _⟩
      · exact ⟨_, rfl, rfl, (unpause_stopped _ _).trans (hgo _)⟩
    · exact ⟨_, rfl, rfl, hgo _⟩
  | pause => exact ⟨_, rfl, rfl, hstop _⟩
  | halt => exact ⟨_, rfl, rfl, hstop _⟩
  | flush => exact ⟨_, rfl, rfl, hstop _⟩
  | rollback => exact ⟨_, rfl, rfl, hstop _⟩

end

/-! ### The end of a switch -/

section

variable (c : CtxId)

theorem latchPostures_ctx : ((s.latchPostures c).ctx c).sw = (s.ctx c).sw ∧
    ((s.latchPostures c).ctx c).ckptDue = (s.ctx c).ckptDue := by
  unfold State.latchPostures
  dsimp only
  rw [ctx_modCtx_same]
  dsimp only
  split
  · rw [(Kept.refl.zeroResidues (List.Subset.refl _) c).ctx_eq (by decide)]
    exact ⟨rfl, rfl⟩
  · exact ⟨rfl, rfl⟩

theorem unpauseAll_ctx (k : CtxId) : (s.unpauseAll c).ctx k = s.ctx k := by
  refine foldl_keeps (fun u => u.ctx k) (fun u p => ?_) _ _
  split
  · rfl
  · unfold State.unpause
    split <;> rfl

theorem resumeUnits_ctx (k : CtxId) : (s.resumeUnits c).ctx k = s.ctx k := unpauseAll_ctx _ c k

/-- A completed switch leaves the context STEADY; what fell due stays due. -/
theorem completeSwitch_ctx : ((s.completeSwitch c).ctx c).sw = .steady ∧
    ((s.completeSwitch c).ctx c).ckptDue = (s.ctx c).ckptDue := by
  unfold State.completeSwitch
  dsimp only
  rw [resumeUnits_ctx, (latchPostures_ctx _ c).1, (latchPostures_ctx _ c).2, ctx_modCtx_same]
  refine ⟨rfl, ?_⟩
  dsimp only
  split
  · rfl
  · rfl
  · refine congrFun (dues_foldl (fun u d => dues_foldl (fun u e => ?_) _ u) _ s) c
    split
    · rfl
    · exact dues_flushRings ..

theorem switchComplete_completes
    (hsw : ((s.settleArm c).ctx c).sw = .draining ∨ ((s.settleArm c).ctx c).sw = .flushing)
    (hall : (s.settleArm c).allSwitched c = true) :
    ∃ s', exec (.switchComplete c) s = .next s' ∧ s'.answer = .done ∧
      (((s.settleArm c).ctx c).ckptDue = none → (s'.ctx c).sw = .steady) := by
  refine ⟨_, congrArg Host.Outcome.next (if_pos ⟨hsw, hall⟩), rfl, fun hdue => ?_⟩
  obtain ⟨hsteady, hkept⟩ := completeSwitch_ctx (s.settleArm c) c
  rw [State.ctx_of_ok, State.takeDeferred, hkept, hdue]
  exact hsteady

theorem switchTimeout_completes (hsw : ((s.settleArm c).ctx c).sw = .draining) :
    ∃ s', exec (.switchTimeout c) s = .next s' ∧ s'.answer = .done ∧ (s'.ctx c).sw = .flushing ∧
      ((s.settleArm c).ctx c).switchStart + (s.settleArm c).obj 0x2245 (c.val + 1) * 1000 < s'.now := by
  refine ⟨_, congrArg Host.Outcome.next (if_pos hsw), rfl, ?_, ?_⟩
  · rw [State.ctx_of_ok, State.drainToFlush, ctx_modCtx_same]
  · rw [State.ok_now]
    show _ < (State.fault _ _ _ _ _).now
    rw [State.fault_now]
    exact Nat.le_max_right _ _

/-! ### Checkpoints -/

theorem checkpointDue_completes (hst : s.st = .run) (hruns : (s.ctx c).runs = true)
    (hrestore : (s.ctx c).restore.any (fun r => !r.resumed) = false) (hnone : (s.ctx c).ckptRun = none) :
    ∃ s', exec (.checkpointDue c) s = .next s' ∧ s'.answer = .done ∧
      ((s'.ctx c).ckptRun.isSome = true ∨ (s'.ctx c).ckptDue.isSome = true) := by
  rw [exec, execCheckpointDue]
  dsimp only
  rw [if_neg (by simp only [hst, hruns, hrestore, hnone]; simp)]
  split
  · refine ⟨_, rfl, rfl, .inl ?_⟩
    rw [State.ctx_of_ok, State.beginCheckpoint, ctx_modCtx_same]
    rfl
  · refine ⟨_, rfl, rfl, .inr ?_⟩
    rw [State.ctx_of_ok, ctx_modCtx_same]
    rfl

/-- A checkpoint's end lets the context go on. -/
theorem endCheckpoint_ctx (area : Fin 2) (g : Scan) :
    ((s.endCheckpoint c area g).ctx c).ckptRun = none ∧ ((s.endCheckpoint c area g).ctx c).paused = false := by
  have hresume : ∀ t : State,
      ((((t.modCtx c (fun x => { x with paused := false, ckptRun := none })).unpauseAll c).bcast c).ctx c).ckptRun = none ∧
      ((((t.modCtx c (fun x => { x with paused := false, ckptRun := none })).unpauseAll c).bcast c).ctx c).paused = false := by
    intro t
    rw [bcast_ctx, unpauseAll_ctx, ctx_modCtx_same]
    exact ⟨rfl, rfl⟩
  unfold State.endCheckpoint
  dsimp only
  split
  · rw [State.ctx_fault, State.ctx_of_count]
    exact hresume _
  · rw [State.ctx_of_count]
    exact hresume _

theorem checkpointComplete_completes (x : Fin 2 × Nat × Scan) (hrun : (s.ctx c).ckptRun = some x)
    (hst : s.st = .idle ∨ s.st = .run) :
    ∃ s', exec (.checkpointComplete c) s = .next s' ∧ s'.answer = .done ∧ (s'.ctx c).ckptRun = none ∧
      (s'.ctx c).paused = false := by
  obtain ⟨area, t, g⟩ := x
  rw [exec, execCheckpointComplete, hrun]
  refine ⟨_, congrArg Host.Outcome.next (if_pos hst), rfl, ?_⟩
  rw [State.ctx_of_ok]
  exact endCheckpoint_ctx s c area g

theorem checkpointSkip_completes (t : Nat) (hdue : (s.ctx c).ckptDue = some t) :
    ∃ s', exec (.checkpointSkip c) s = .next s' ∧ s'.answer = .done ∧ (s'.ctx c).ckptDue = some s'.now ∧
      t + s.ckptInterval ≤ s'.now := by
  rw [exec, execCheckpointSkip, hdue]
  refine ⟨_, rfl, rfl, ?_, le_max_right _ _⟩
  rw [State.ctx_of_ok, State.ctx_of_count, ctx_modCtx_same]
  rfl

end

end

/-- Settles O20: each command runs when the unit or the context is as its rule asks. -/
theorem unitAndCheckpointCommandsComplete : Obligations.UnitAndCheckpointCommandsComplete := by
  intro s
  refine ⟨fun d u => ⟨cfg_loadBuffer_completes s d u, cfg_register_completes s d u, unitDrainSwitch_completes s d u,
    unitFlush_completes s d u, joinWatchdog_completes s d u, liveWriteApply_completes s d u, ctxBcast_completes s d u⟩,
    fun c => ⟨⟨switchComplete_completes s c, switchTimeout_completes s c⟩, checkpointDue_completes s c,
      checkpointComplete_completes s c, checkpointSkip_completes s c⟩⟩

end Sys2Proof.Machine
